-- ==== Sys2Proof/Word.lean ====
section
/-! DEFINITION. The word types of the Zatiarn Z1 model. Bit-field and byte-order helpers stand in
Machine/Bits.lean. -/

namespace Sys2Proof

/-- One byte of memory. -/
abbrev Byte := BitVec 8

/-- A register, an instruction or a message word: 64 bits (spec/00 R10, spec/04 R130). -/
abbrev Word := BitVec 64

/-- A string of bytes, lowest address first. -/
abbrev Bytes := List Byte

end Sys2Proof
end

