-- ==== Sys2Proof/Syntax.lean ====
section
/-! DEFINITION. The commands of the Zatiarn Z1 block: one constructor of `Instr` per row of
spec/opcode_table.json, with the operands that the row's rule needs. The operand types come first. -/

namespace Sys2Proof

/-- Flat logical core number n (spec/00 R2). -/
abbrev CoreId := Fin 512
/-- Resident task slot of a core (spec/04 R142). -/
abbrev TaskSlot := Fin 4
/-- Matrix array, and the drain that serves it (spec/02 R56). -/
abbrev ArrayId := Fin 4
/-- Die number (spec/00 R1). -/
abbrev DieId := Fin 4
/-- Physical position die × 144 + row × 9 + slot (spec/00 R3, spec/08 R260). -/
abbrev PhysId := Fin 576
/-- Module span port (spec/00 R1). -/
abbrev PortId := Fin 12
/-- Module peat channel (spec/00 R1). -/
abbrev ChanId := Fin 12
/-- Module hearth stack (spec/00 R1). -/
abbrev StackId := Fin 12
/-- Work ring (spec/11 R367). -/
abbrev RingId := Fin 64
/-- Beacon group (spec/08 R271). -/
abbrev GroupId := Fin 256
/-- Bits 55:0 of an instruction word; the constructor gives OPC (spec/04 R130). -/
abbrev InsnBits := BitVec 56

/-- The four lattice links of a core, in register order (spec/06 R186). -/
inductive Dir | n | e | s | w
  deriving DecidableEq, Repr

/-- Who makes a register access (spec/15 R476). -/
inductive Initiator | host | forester | warden
  deriving DecidableEq, Repr

/-- What an error check reports of the data it covers. -/
inductive Ecc | good | corrected | uncorrectable
  deriving DecidableEq, Repr

/-- A lattice token less its check bits (spec/06 R187). -/
structure Token where
  data   : BitVec 512
  scale  : BitVec 32
  epoch  : BitVec 3
  marker : Bool
  poison : Bool
  deriving DecidableEq, Repr

/-- TYPE of a message header (spec/07 R221); 7 to 15 are reserved. -/
inductive MsgType | word | desc | shfInt64 | shfFp32 | shfWindow | shfEnd | reply | reserved
  deriving DecidableEq, Repr

/-- Who sent a message: the sender key of R226 (spec/07). -/
structure SenderKey where
  dev  : BitVec 16
  core : BitVec 9
  slot : BitVec 2
  chan : BitVec 4
  deriving DecidableEq, Repr

/-- A message header (spec/07 R221); `sheaf`: the target word had SHEAF set. -/
structure MsgHeader where
  key     : SenderKey
  seq     : BitVec 16
  dstCore : CoreId
  dstQ    : BitVec 6
  sheaf   : Bool
  type    : MsgType
  gen     : BitVec 8
  anygen  : Bool
  words   : BitVec 2
  lane    : BitVec 14
  mcast   : Bool
  deriving DecidableEq, Repr

/-- TYPE of a mesh packet (spec/08 R254). -/
inductive PktType
  | dmaWrite | dmaRead | readData | writeAck | message | msgReply | seal | migrate | span
  deriving DecidableEq, Repr

/-- STATUS of a response (spec/08 R254, spec/10 R316). -/
inductive RespStatus | ok | refused | poisoned | denied
  deriving DecidableEq, Repr

/-- Destination or source of a mesh packet: a logical core, the ring of a die, or a physical slot whatever core it holds (spec/08 R254). -/
inductive Place
  | core (n : CoreId)
  | ring (d : DieId)
  | slot (p : PhysId)
  deriving DecidableEq, Repr

/-- A mesh packet: the header fields of R254 (spec/08) and the payload; `msg`: the message header that a MESSAGE or MSG_REPLY
payload begins with; `span`: the request came over the span fabric, with a span window's verdict (spec/10 R340). -/
structure Packet where
  dst    : Place
  src    : Place
  type   : PktType
  fence  : Bool
  poison : Bool
  adv    : Bool
  status : RespStatus
  tag    : BitVec 32
  addr   : Word
  region : Bool
  len    : Nat
  data   : Bytes
  msg    : Option MsgHeader
  span   : Option Bool
  deriving DecidableEq, Repr

/-- A flit: 2,048 data bits with the sideband of R253 (spec/08). `kind` 0 HEAD, 1 BODY, 2 TAIL, 3 SINGLE. -/
structure Flit where
  data : BitVec 2048
  kind : BitVec 2
  vc   : BitVec 2
  kill : Bool
  crc  : BitVec 32
  deriving DecidableEq, Repr

/-- Router ports in register order (spec/08 MESH_PORTp). -/
inductive RPort | n | e | s | w | loc | seam2
  deriving DecidableEq, Repr

/-- KIND of a seal message (spec/12 R391). -/
inductive SealKind | notice | seal | retract
  deriving DecidableEq, Repr

/-- A producer's key (spec/12 R384). -/
structure ProdKey where
  dev    : BitVec 16
  core   : BitVec 9
  incarn : BitVec 16
  deriving DecidableEq, Repr

/-- A seal message (spec/12 R391). -/
structure SealMsg where
  key     : ProdKey
  kind    : SealKind
  bounded : Bool
  loss    : Bool
  nonrep  : Bool
  depth   : BitVec 3
  lapse   : Bool
  epoch   : BitVec 32
  len     : Nat
  addr    : BitVec 48
  deriving DecidableEq, Repr

/-- An endpoint of seal messages: a core's seal logic, a die's seal directory at a ring port, or another module, by a span address that may have
the region form (spec/12 R393). -/
inductive SealEnd
  | core (n : CoreId)
  | dir (d : DieId) (port : Fin 25)
  | remote (dev : BitVec 16) (addr : Word) (region : Bool)
  deriving DecidableEq, Repr

/-- TYPE of a span packet (spec/10 R316); 7 to 255 are reserved. -/
inductive SpanType | write | read | readData | writeAck | message | msgReply | seal | reserved
  deriving DecidableEq, Repr

/-- A span packet (spec/10 R316, R343). `prot`: PROT with its counter, tag and key phase. -/
structure SpanPkt where
  srcDev  : BitVec 16
  dstDev  : BitVec 16
  type    : SpanType
  prompt  : Bool
  fence   : Bool
  adv     : Bool
  region  : Bool
  status  : RespStatus
  session : BitVec 16
  seq     : BitVec 32
  tag     : BitVec 32
  len     : Nat
  window  : BitVec 12
  wgen    : BitVec 16
  addr    : Word
  payload : Bytes
  prot    : Option (Bool × Word × BitVec 128)
  resv    : Bool
  deriving DecidableEq, Repr

/-- What an ETHERNET port receives (spec/10 R323 to R325): a frame as octets, from its destination address to its FCS, or one of MAC
control; `pfc`: the priorities that it names and those of them that it stops; `pause`: whether it stops the port. -/
inductive EthBody
  | frame (octets : Bytes)
  | pfc (named stop : BitVec 8)
  | pause (stop : Bool)
  deriving DecidableEq, Repr

/-- A start request to a sequencer (spec/11 R372, R374). -/
structure StartReq where
  spadBase : BitVec 32
  image    : BitVec 48
  arg      : Word
  jobTag   : BitVec 32
  taskNo   : BitVec 32
  deriving DecidableEq, Repr

/-- An error of a faulty circuit in one half-sum: the array, the row (0 or 1 of the rows taken in, or 2 for the check row), the data
column or none for the checksum column, the half, and what it adds to the integer (spec/02 R82, R83). -/
structure Upset where
  array : ArrayId
  lane  : Fin 3
  col   : Option (BitVec 7)
  half  : Bool
  delta : Int
  deriving DecidableEq, Repr

/-- What the severity reports and checks of a read say beyond the lines known to be uncorrectable (spec/09 R279, R283): lines, by a local
address in them, corrected (false) or newly uncorrectable (true). -/
abbrev LineErrs := List (Nat × Bool)

/-- What ACTIVATION_ROW acts on: an array, and the errors of faulty circuits (spec/02 R65, R82). -/
structure RowIn where
  array : ArrayId
  ups   : List Upset
  deriving DecidableEq, Repr

/-- What HALF_SUM_ADD acts on: a drain, and by how much its second circuit differs (spec/02 R71, R85). -/
structure AddIn where
  drain : ArrayId
  skew  : BitVec 256
  deriving DecidableEq, Repr

/-- What WINDOW_ROUND acts on: a drain, and by how much its second circuit differs (spec/02 R72, R85). -/
structure RoundIn where
  drain : ArrayId
  skew  : BitVec 32
  deriving DecidableEq, Repr

/-- What DIAG_DONE reports: the array, and the first failing physical row if any (spec/02 R89). -/
structure DiagEnd where
  array   : ArrayId
  failRow : Option (BitVec 9)
  deriving DecidableEq, Repr

/-- What a stack reports beside its temperature: whether it is at its limit, and the rows and errors that its error check and scrub counted
(spec/09 R280). -/
structure TempReport where
  limit  : Bool
  rows   : BitVec 32
  errors : BitVec 32
  deriving DecidableEq, Repr

/-- The tier agent of a die at work, and the errors that its reads meet (spec/09 R279, R283, R297, R299). -/
structure AgentRun where
  die  : DieId
  errs : LineErrs
  deriving DecidableEq, Repr

/-- A memory request that reaches a ring for hearth or peat (spec/09 R288). -/
structure RingReq where
  pkt  : Packet
  errs : LineErrs
  deriving DecidableEq, Repr

/-- What Stage 2 trained and measured (spec/14 R456): the first stack that could not be trained, and the first with a lane left without a
spare; spare lanes by stack, and the stacks with a channel whose spares are all in use; the failing data wires of seams (die, j, wire); the peat channels that failed; of each span lane the method (true: FEC counts), the uncorrectable codewords and the bit
errors; whether the CXL link was retrained slower or narrower. -/
structure Stage2Report where
  hbmTrainFail : Option StackId
  hbmLaneFail  : Option StackId
  hbmSpares    : List (BitVec 8)
  hbmOut       : BitVec 12
  seamBad      : List (DieId × Fin 2 × BitVec 12)
  peatBad      : BitVec 12
  lanes        : List (Bool × BitVec 8 × BitVec 48)
  cxlReduced   : Bool
  deriving DecidableEq, Repr

/-- A slice that fails in the full pass of Stage 3 or of a compute reset (spec/14 R458, spec/13 R422, R443): the slot, the slice, 48 the march,
the failing cells that the diagnostic pass of the slice's array locates, and whether the slice fails again after a repair. -/
structure SlotFail where
  slot  : PhysId
  slice : Fin 49
  cells : List (Nat × Nat)
  still : Bool
  deriving DecidableEq, Repr

/-- The escape tables that the Warden installs in Stage 3 (spec/14 R459): those it holds, a set in the format of R260 of spec/08, or none for some
die. -/
inductive EscPlan
  | keep
  | tables (b : Bytes)
  | none_ (d : DieId)
  deriving DecidableEq, Repr

/-- One PARAMS record (spec/14 R453). -/
structure Param where
  key   : BitVec 32
  index : BitVec 32
  value : Word
  deriving DecidableEq, Repr

/-- A Turca image taken apart (spec/14 R451, spec/15 R474); `header`, `wext`, `fimg`: its header, its Warden extension and its Forester image as
measured (spec/15 R488). -/
structure TurcaImage where
  params   : List Param
  routes   : List (BitVec 16 × Word)
  windows  : List (BitVec 12 × Word × Word × Word)
  ethpeers : List (BitVec 12 × Word)
  wsvn     : BitVec 8
  fsvn     : BitVec 8
  header   : Bytes
  wext     : Bytes
  fimg     : Bytes
  deriving DecidableEq, Repr

/-- A host request on CXL.mem (spec/11 R359 to R362). -/
inductive MemOp
  | readShared
  | readOwn
  | readNoCache
  | write (b : Bytes)
  deriving DecidableEq, Repr

/-- A CXL.mem request, and the errors that its read meets (spec/11 R359, spec/09 R279, R283). -/
structure MemReq where
  op   : MemOp
  errs : LineErrs
  deriving DecidableEq, Repr

/-- What a memory or register access that a task or a unit made is waiting for, or where a command acts:
the unit that sends (spec/07 R241). -/
inductive SendUnit
  | drain (d : ArrayId)
  | rowEngine
  deriving DecidableEq, Repr

/-- An operation of a core that a mesh timeout ends (spec/08 R264). -/
inductive MeshOp
  | dma (tag : BitVec 32)
  | send (t : TaskSlot) (chan : BitVec 4)
  deriving DecidableEq, Repr

/-- An access over the control tree that SMD_PXDATA_ACCESS stands for: to the core page of the slot that SMD_PXSEL names, or, of 2^x bytes, to
a scratchpad by local address (spec/05 R161, R167, R184); a value written, or none for a read. -/
inductive PageAccess
  | page (write : Option Word)
  | spad (addr : BitVec 48) (x : Fin 4) (write : Option Word)
  deriving DecidableEq, Repr

/-- The commands: one constructor for each row of spec/opcode_table.json. An operand of type Unit carries nothing: what the command needs
stands in the state or in its other operands. -/
inductive Instr
  /-- REGISTER_WRITE (R13): A write to a register that has no row of its own takes effect under its access
  code, size and alignment rules. -/
  | registerWrite (who : Initiator) (off : BitVec 32) (size : Nat) (v : Word)
  /-- READ_TO_CLEAR (R13): A read of an RC register field returns its value and clears it. -/
  | readToClear (who : Initiator) (off : BitVec 32) (size : Nat)
  /-- NOP (R131): The NOP instruction issues and does nothing. -/
  | nop (c : CoreId) (t : TaskSlot) (f : InsnBits)
  /-- END (R150): END ends the task with END_OK and moves it to DRAINING. -/
  | endTask (c : CoreId) (t : TaskSlot) (f : InsnBits)
  /-- BR (R132): BR adds IMM to PC, ending the task with ILLEGAL if PC leaves the code. -/
  | br (c : CoreId) (t : TaskSlot) (f : InsnBits)
  /-- JR (R132): JR sets PC from a g register. -/
  | jr (c : CoreId) (t : TaskSlot) (f : InsnBits)
  /-- LOOP (R132): LOOP decrements a k counter and branches while it stays nonzero. -/
  | loopI (c : CoreId) (t : TaskSlot) (f : InsnBits)
  /-- KSET (R141): KSET loads a loop counter from a register or immediate. -/
  | kset (c : CoreId) (t : TaskSlot) (f : InsnBits)
  /-- FAULT (R154): FAULT ends the task with USER and the immediate as detail. -/
  | faultI (c : CoreId) (t : TaskSlot) (f : InsnBits)
  /-- TIME (R497): TIME reads the module time base into a g register. -/
  | time (c : CoreId) (t : TaskSlot) (f : InsnBits)
  /-- ADD (R132): Scalar ADD of two operands into a g register. -/
  | addI (c : CoreId) (t : TaskSlot) (f : InsnBits)
  /-- SUB (R132): Scalar SUB of two operands into a g register. -/
  | subI (c : CoreId) (t : TaskSlot) (f : InsnBits)
  /-- MUL (R132): Scalar MUL keeping the low 64 bits. -/
  | mulI (c : CoreId) (t : TaskSlot) (f : InsnBits)
  /-- AND (R132): Scalar bitwise AND. -/
  | andI (c : CoreId) (t : TaskSlot) (f : InsnBits)
  /-- OR (R132): Scalar bitwise OR. -/
  | orI (c : CoreId) (t : TaskSlot) (f : InsnBits)
  /-- XOR (R132): Scalar bitwise XOR. -/
  | xorI (c : CoreId) (t : TaskSlot) (f : InsnBits)
  /-- SHL (R132): Scalar shift left by Rb bits 5:0. -/
  | shl (c : CoreId) (t : TaskSlot) (f : InsnBits)
  /-- SHR (R132): Scalar logical shift right. -/
  | shr (c : CoreId) (t : TaskSlot) (f : InsnBits)
  /-- SAR (R132): Scalar arithmetic shift right. -/
  | sar (c : CoreId) (t : TaskSlot) (f : InsnBits)
  /-- MIN (R132): Scalar signed minimum. -/
  | minI (c : CoreId) (t : TaskSlot) (f : InsnBits)
  /-- MAX (R132): Scalar signed maximum. -/
  | maxI (c : CoreId) (t : TaskSlot) (f : InsnBits)
  /-- MOVI (R130): MOVI loads the sign-extended immediate into a g register. -/
  | movi (c : CoreId) (t : TaskSlot) (f : InsnBits)
  /-- MOVHI (R130): MOVHI sets the high 32 bits of a g register. -/
  | movhi (c : CoreId) (t : TaskSlot) (f : InsnBits)
  /-- CMP (R132): CMP compares two operands into a predicate, illegal for conditions 6 and 7. -/
  | cmp (c : CoreId) (t : TaskSlot) (f : InsnBits)
  /-- PLOG (R132): PLOG combines two predicates into a third. -/
  | plog (c : CoreId) (t : TaskSlot) (f : InsnBits)
  /-- AADD (R132): AADD adds an operand to an address register. -/
  | aadd (c : CoreId) (t : TaskSlot) (f : InsnBits)
  /-- MOVR (R132): MOVR moves a value between register files as X selects. -/
  | movr (c : CoreId) (t : TaskSlot) (f : InsnBits)
  /-- LD (R133): LD reads an aligned narrow value from a task address, or a circular-region pointer. -/
  | ld (c : CoreId) (t : TaskSlot) (f : InsnBits)
  /-- ST (R175): ST writes an aligned narrow value, or advances TAIL or HEAD of a circular region. -/
  | st (c : CoreId) (t : TaskSlot) (f : InsnBits)
  /-- WLOAD (R66): WLOAD asks for the shadow banks of the named arrays to be loaded from scratchpad. -/
  | wload (c : CoreId) (t : TaskSlot) (f : InsnBits)
  /-- STREAM (R135): STREAM queues a stream of activation rows on the named arrays. -/
  | stream (c : CoreId) (t : TaskSlot) (f : InsnBits)
  /-- DSET (R93): DSET writes the drain configuration, seed and auxiliary registers of the named drains. -/
  | dset (c : CoreId) (t : TaskSlot) (f : InsnBits)
  /-- UWAIT (R135): UWAIT waits until the named units are idle for the task. -/
  | uwait (c : CoreId) (t : TaskSlot) (f : InsnBits)
  /-- VTURN (R119): VTURN copies 64 x 64 tiles transposed with conversion. -/
  | vturn (c : CoreId) (t : TaskSlot) (f : InsnBits)
  /-- DMA (R268): DMA issues a DMA descriptor and returns its tag, waiting for a free DMA slot. -/
  | dma (c : CoreId) (t : TaskSlot) (f : InsnBits)
  /-- DMAWAIT (R153): DMAWAIT waits for one DMA or all DMAs of the task. -/
  | dmawait (c : CoreId) (t : TaskSlot) (f : InsnBits)
  /-- TPREF (R296): TPREF passes a prefetch descriptor to the tier agent, waiting for room. -/
  | tpref (c : CoreId) (t : TaskSlot) (f : InsnBits)
  /-- SEND (R225): SEND sends a word-mode message on a channel to a queue target. -/
  | send (c : CoreId) (t : TaskSlot) (f : InsnBits)
  /-- SENDD (R133): SENDD sends a 64 B descriptor message to a queue target. -/
  | sendd (c : CoreId) (t : TaskSlot) (f : InsnBits)
  /-- MSEND (R235): MSEND multicasts a word message to the enabled targets of a list. -/
  | msend (c : CoreId) (t : TaskSlot) (f : InsnBits)
  /-- RECV (R236): RECV waits for and takes the head message of an owned queue. -/
  | recv (c : CoreId) (t : TaskSlot) (f : InsnBits)
  /-- RECVT (R236): RECVT takes a head message if one is present, without waiting. -/
  | recvt (c : CoreId) (t : TaskSlot) (f : InsnBits)
  /-- RECVC (R141): RECVC waits for a control token and sets a predicate unless it is STOP. -/
  | recvc (c : CoreId) (t : TaskSlot) (f : InsnBits)
  /-- QDONE (R240): QDONE declares the reader finished and raises the queue generation. -/
  | qdone (c : CoreId) (t : TaskSlot) (f : InsnBits)
  /-- SHFADD (R244): SHFADD contributes an integer, FP32 value or window partial to a sheaf lane. -/
  | shfadd (c : CoreId) (t : TaskSlot) (f : InsnBits)
  /-- SHFEND (R246): SHFEND sends an end token with a count to a sheaf. -/
  | shfend (c : CoreId) (t : TaskSlot) (f : InsnBits)
  /-- SHFRECV (R247): SHFRECV waits for a released sheaf round, delivers its result and starts clearing. -/
  | shfrecv (c : CoreId) (t : TaskSlot) (f : InsnBits)
  /-- BAR (R272): BAR joins a beacon group with a value and waits for the barrier. -/
  | bar (c : CoreId) (t : TaskSlot) (f : InsnBits)
  /-- WAITSEAL (R397): WAITSEAL waits under the core policy until a range is sealed or inherited. -/
  | waitseal (c : CoreId) (t : TaskSlot) (f : InsnBits)
  /-- SEALQ (R396): SEALQ sets a predicate if a range is sealed now. -/
  | sealq (c : CoreId) (t : TaskSlot) (f : InsnBits)
  /-- EMBER (R436): EMBER marks a quiet point and writes an ember checkpoint when due or forced. -/
  | ember (c : CoreId) (t : TaskSlot) (f : InsnBits)
  /-- CFGSW (R145): CFGSW advances the core epoch, emits markers and jumps to a configuration's entry. -/
  | cfgsw (c : CoreId) (t : TaskSlot) (f : InsnBits)
  /-- CFGLD (R146): CFGLD loads a configuration slot from scratchpad after checking it. -/
  | cfgld (c : CoreId) (t : TaskSlot) (f : InsnBits)
  /-- EPOCH (R145): EPOCH reads the core epoch and active slot. -/
  | epoch (c : CoreId) (t : TaskSlot) (f : InsnBits)
  /-- EVSEL (R495): EVSEL selects the source of a core event counter. -/
  | evsel (c : CoreId) (t : TaskSlot) (f : InsnBits)
  /-- EVCTL_START (R495): EVCTL with action start runs the selected counters. -/
  | evctlStart (c : CoreId) (t : TaskSlot) (f : InsnBits)
  /-- EVCTL_STOP (R495): EVCTL with action stop halts the selected counters. -/
  | evctlStop (c : CoreId) (t : TaskSlot) (f : InsnBits)
  /-- EVCTL_CLEAR (R495): EVCTL with action clear zeroes the selected counters. -/
  | evctlClear (c : CoreId) (t : TaskSlot) (f : InsnBits)
  /-- EVRD (R495): EVRD reads a core event counter. -/
  | evrd (c : CoreId) (t : TaskSlot) (f : InsnBits)
  /-- WAIT_CONDITION_MET (R150): The condition of a waiting instruction or held access is met and the
  instruction completes. -/
  | waitConditionMet (c : CoreId) (t : TaskSlot)
  /-- WAIT_TIMEOUT (R153): A task wait exceeds WAIT_US and the task ends with TIMEOUT. -/
  | waitTimeout (c : CoreId) (t : TaskSlot)
  /-- SOFTMAX (R106): Row engine SOFTMAX forms probabilities and writes MAX and SUM. -/
  | softmax (c : CoreId) (t : TaskSlot) (f : InsnBits)
  /-- SMX_PART (R101): Row engine SMX_PART forms weights and a softmax partial per row. -/
  | smxPart (c : CoreId) (t : TaskSlot) (f : InsnBits)
  /-- SMX_MERGE (R103): Row engine SMX_MERGE merges softmax partials exactly. -/
  | smxMerge (c : CoreId) (t : TaskSlot) (f : InsnBits)
  /-- SMX_NORM (R105): Row engine SMX_NORM normalises a partial and writes MAX and SUM. -/
  | smxNorm (c : CoreId) (t : TaskSlot) (f : InsnBits)
  /-- LSE (R106): Row engine LSE gives the log-sum-exp of each row. -/
  | lse (c : CoreId) (t : TaskSlot) (f : InsnBits)
  /-- LNORM (R106): Row engine LNORM normalises rows and writes MEAN and RSTD. -/
  | lnorm (c : CoreId) (t : TaskSlot) (f : InsnBits)
  /-- RMSNORM (R106): Row engine RMSNORM normalises rows by their RMS and writes RSTD. -/
  | rmsnorm (c : CoreId) (t : TaskSlot) (f : InsnBits)
  /-- TOPK (R109): Row engine TOPK returns the k largest values and indices per row. -/
  | topk (c : CoreId) (t : TaskSlot) (f : InsnBits)
  /-- ROWDOT (R106): Row engine ROWDOT gives one exact dot product per row pair. -/
  | rowdot (c : CoreId) (t : TaskSlot) (f : InsnBits)
  /-- SOFTMAX_BWD (R107): Row engine SOFTMAX_BWD forms softmax gradients from regenerated probabilities. -/
  | softmaxBwd (c : CoreId) (t : TaskSlot) (f : InsnBits)
  /-- LNORM_BWD (R108): Row engine LNORM_BWD forms input gradients and exports dgamma and dbeta partials. -/
  | lnormBwd (c : CoreId) (t : TaskSlot) (f : InsnBits)
  /-- RMSNORM_BWD (R108): Row engine RMSNORM_BWD forms input gradients and exports dgamma partials. -/
  | rmsnormBwd (c : CoreId) (t : TaskSlot) (f : InsnBits)
  /-- ROW_COMPLETE (R100): A row of a row engine operation completes and its results and statistics record
  are written. -/
  | rowComplete (c : CoreId)
  /-- VOP_ADD (R138): Vector add on 64 lanes. -/
  | vopAdd (c : CoreId) (t : TaskSlot) (f : InsnBits)
  /-- VOP_SUB (R138): Vector subtract. -/
  | vopSub (c : CoreId) (t : TaskSlot) (f : InsnBits)
  /-- VOP_MUL (R138): Vector multiply. -/
  | vopMul (c : CoreId) (t : TaskSlot) (f : InsnBits)
  /-- VOP_FMA (R138): Vector fused multiply-add. -/
  | vopFma (c : CoreId) (t : TaskSlot) (f : InsnBits)
  /-- VOP_MIN (R138): Vector minimum. -/
  | vopMin (c : CoreId) (t : TaskSlot) (f : InsnBits)
  /-- VOP_MAX (R138): Vector maximum. -/
  | vopMax (c : CoreId) (t : TaskSlot) (f : InsnBits)
  /-- VOP_ABS (R138): Vector absolute value. -/
  | vopAbs (c : CoreId) (t : TaskSlot) (f : InsnBits)
  /-- VOP_NEG (R138): Vector negate. -/
  | vopNeg (c : CoreId) (t : TaskSlot) (f : InsnBits)
  /-- VOP_CMP (R138): Vector compare to a predicate mask. -/
  | vopCmp (c : CoreId) (t : TaskSlot) (f : InsnBits)
  /-- VOP_SEL (R138): Vector select by mask. -/
  | vopSel (c : CoreId) (t : TaskSlot) (f : InsnBits)
  /-- VOP_CVT (R138): Vector conversion to an output format. -/
  | vopCvt (c : CoreId) (t : TaskSlot) (f : InsnBits)
  /-- VOP_DIV (R138): Vector correctly rounded divide. -/
  | vopDiv (c : CoreId) (t : TaskSlot) (f : InsnBits)
  /-- VOP_RCP (R138): Vector reciprocal. -/
  | vopRcp (c : CoreId) (t : TaskSlot) (f : InsnBits)
  /-- VOP_SQRT (R138): Vector square root. -/
  | vopSqrt (c : CoreId) (t : TaskSlot) (f : InsnBits)
  /-- VOP_RSQRT (R138): Vector reciprocal square root. -/
  | vopRsqrt (c : CoreId) (t : TaskSlot) (f : InsnBits)
  /-- VOP_EXP2 (R138): Vector base-2 exponential. -/
  | vopExp2 (c : CoreId) (t : TaskSlot) (f : InsnBits)
  /-- VOP_LOG2 (R138): Vector base-2 logarithm. -/
  | vopLog2 (c : CoreId) (t : TaskSlot) (f : InsnBits)
  /-- VOP_EXP (R138): Vector natural exponential. -/
  | vopExp (c : CoreId) (t : TaskSlot) (f : InsnBits)
  /-- VOP_LOG (R138): Vector natural logarithm. -/
  | vopLog (c : CoreId) (t : TaskSlot) (f : InsnBits)
  /-- VOP_FUNC (R118): Vector fused function of a FUNC code. -/
  | vopFunc (c : CoreId) (t : TaskSlot) (f : InsnBits)
  /-- VOP_RSUM (R138): Vector exact sum reduction. -/
  | vopRsum (c : CoreId) (t : TaskSlot) (f : InsnBits)
  /-- VOP_RDOT (R138): Vector exact dot product reduction. -/
  | vopRdot (c : CoreId) (t : TaskSlot) (f : InsnBits)
  /-- VOP_RSSQ (R138): Vector exact sum-of-squares reduction. -/
  | vopRssq (c : CoreId) (t : TaskSlot) (f : InsnBits)
  /-- VOP_RMAX (R138): Vector maximum reduction. -/
  | vopRmax (c : CoreId) (t : TaskSlot) (f : InsnBits)
  /-- VOP_RMIN (R138): Vector minimum reduction. -/
  | vopRmin (c : CoreId) (t : TaskSlot) (f : InsnBits)
  /-- START_RESERVATION (R374): A task reservation reaches a sequencer, which reads the image header and
  holds the slot or refuses. -/
  | startReservation (c : CoreId) (req : StartReq)
  /-- START_GO (R374): GO moves every reserved task of a job into LOADING. -/
  | startGo (jobTag : BitVec 32)
  /-- RESERVATION_CANCEL (R374): The front end cancels a held reservation. -/
  | reservationCancel (c : CoreId) (t : TaskSlot)
  /-- TASK_LOAD_COMPLETE (R149): Image loading ends: checks pass and the task runs, or it ends with
  BAD_IMAGE. -/
  | taskLoadComplete (c : CoreId) (t : TaskSlot)
  /-- TASK_DRAIN_COMPLETE (R150): Every outstanding operation of a DRAINING task has ended; the end is
  reported and regions released. -/
  | taskDrainComplete (c : CoreId) (t : TaskSlot)
  /-- SCRUB_COMPLETE (R181): The end-of-task scrub of regions completes and the regions are released. -/
  | scrubComplete (c : CoreId) (t : TaskSlot)
  /-- SEQ_KILL (R150): A write of KILL in SEQ_CTRL ends a task slot with TASK_RESET. -/
  | seqKill (who : Initiator) (c : CoreId) (mask : BitVec 4)
  /-- SEQ_HOLD (R150): A write of HOLD in SEQ_CTRL holds or releases issue for a slot and pauses its wait
  timers. -/
  | seqHold (who : Initiator) (c : CoreId) (mask : BitVec 4)
  /-- WEIGHT_LOAD_READY (R67): A weight load's last line and checksum are written and the shadow bank
  becomes READY. -/
  | weightLoadReady (c : CoreId) (a : ArrayId)
  /-- STREAM_START (R72): An array accepts a stream, checks forms and reductions, swaps banks if asked and
  opens its window. -/
  | streamStart (c : CoreId) (a : ArrayId)
  /-- ACTIVATION_ROW (R65): The broadcast port takes an activation row from its source and presents it to
  the arrays. -/
  | activationRow (c : CoreId) (x : RowIn)
  /-- HALF_SUM_ADD (R71): A drain adds the half-sums leaving the column path to their windows. -/
  | halfSumAdd (c : CoreId) (x : AddIn)
  /-- WINDOW_ROUND (R72): A complete window takes its addends, is rounded once with any fused function and
  written. -/
  | windowRound (c : CoreId) (x : RoundIn)
  /-- TILE_CHECK_RESULT (R87): A tile's column, row and duplicate checks reach the seal logic as EXACT,
  BOUNDED or FAIL. -/
  | tileCheckResult (c : CoreId) (d : ArrayId) (u v : Unit)
  /-- DIAG_PASS (R89): A write of GO in ARR_DIAG starts the diagnostic pass on one physical column. -/
  | diagPass (who : Initiator) (c : CoreId) (v : Word)
  /-- DIAG_DONE (R89): The diagnostic pass completes and reports the first failing physical row. -/
  | diagDone (c : CoreId) (x : DiagEnd)
  /-- ARR_REPAIR_WRITE (R91): A write to ARR_REPAIRa takes effect only when the array is idle and
  invalidates both banks. -/
  | arrRepairWrite (who : Initiator) (c : CoreId) (a : ArrayId) (v : Word)
  /-- DRN_CFG_WRITE (R93): A BAR0 or firmware write to a drain configuration register takes effect only
  while the drain holds no window. -/
  | drnCfgWrite (who : Initiator) (c : CoreId) (d : ArrayId) (which : Fin 3) (v : Word)
  /-- ROW_STATWIN_WRITE (R126): A write to ROW_STATWINt takes effect only while the slot holds no task. -/
  | rowStatwinWrite (who : Initiator) (c : CoreId) (t : TaskSlot) (v : Word)
  /-- GATHER_IDLE_FLUSH (R167): After 64 stages without a narrow access the gather buffer is flushed. -/
  | gatherIdleFlush (c : CoreId)
  /-- SPAD_PWR_WRITE (R168): A write to SPAD_PWR powers bank groups up or down, or is rejected. -/
  | spadPwrWrite (who : Initiator) (c : CoreId) (v : Word)
  /-- GROUP_POWER_DOWN (R168): A bank group whose ON bit was cleared is powered down. -/
  | groupPowerDown (c : CoreId) (g : Fin 16)
  /-- GROUP_POWER_UP_READY (R169): A bank group whose ON bit was set becomes READY with initialised check
  bits. -/
  | groupPowerUpReady (c : CoreId) (g : Fin 16)
  /-- CIRC_ADVANCE (R176): A waiting TAIL or HEAD advance takes effect once earlier accesses have their
  slots, releasing held accesses. -/
  | circAdvance (c : CoreId) (t : TaskSlot)
  /-- DMA_REQUEST_ARRIVE (R184): A DMA request reaches a scratchpad and is checked, performed or refused. -/
  | dmaRequestArrive (pkt : Packet)
  /-- TOKEN_ARRIVE (R190): A lattice token arrives at an input link and is checked and corrected or
  poisoned. -/
  | tokenArrive (c : CoreId) (d : Dir) (err : BitVec 572) (u : Unit)
  /-- BYPASS_FORWARD (R191): A bypass slot passes a token between its W and E sides. -/
  | bypassForward (p : PhysId) (fromWest : Bool) (u : Unit)
  /-- TOKEN_DISPATCH (R202): An input queue head is taken by its destinations under the dispatch and
  select programs. -/
  | tokenDispatch (c : CoreId) (src : Option Dir)
  /-- ROUTE_STEER_CHANGE (R194): A logical link's steering changes once its route holds no token. -/
  | routeSteerChange (c : CoreId) (d : Dir)
  /-- LAT_SLACK_WRITE (R199): A write to LAT_SLACKi changes a queue's enlisted slack or is rejected. -/
  | latSlackWrite (who : Initiator) (c : CoreId) (d : Dir) (v : Word)
  /-- INPUT_LINK_SWITCH (R206): An input link whose marker waits switches epoch once the core epoch has
  advanced. -/
  | inputLinkSwitch (c : CoreId) (d : Dir)
  /-- OUTPUT_LINK_SWITCH (R207): An output link switches after its last awaited marker and sends one
  marker on. -/
  | outputLinkSwitch (c : CoreId) (d : Dir)
  /-- LATTICE_STALL (R211): No token moves for LIMIT_US while the lattice holds tokens; STALL is set and
  logged. -/
  | latticeStall (c : CoreId)
  /-- LAT_STOP_SET (R214): Setting LAT_CTRL.STOP starts the forced drain of the core's lattice. -/
  | latStopSet (who : Initiator) (c : CoreId)
  /-- LATTICE_DRAINED (R214): After 16 stages with no token the lattice sets DRAINED. -/
  | latticeDrained (c : CoreId)
  /-- LAT_STOP_CLEAR (R215): Clearing STOP leaves every link idle with no epoch. -/
  | latStopClear (who : Initiator) (c : CoreId)
  /-- MESSAGE_ACCEPTANCE (R222): The queue store decides an arriving message by its ordered checks and
  replies. -/
  | messageAcceptance (pkt : Packet)
  /-- SEND_RESULT (R224): A reply reaches the sender and its result word is written. -/
  | sendResult (pkt : Packet)
  /-- RESERVATION_LAPSE (R230): A reservation list place lapses after its back-off time without a resend. -/
  | reservationLapse (c : CoreId) (q : Fin 64) (place : Fin 4)
  /-- RING_LANDING_WRITE (R239): The queue store writes an accepted entry into its RING circular region
  and advances TAIL. -/
  | ringLandingWrite (c : CoreId) (q : Fin 64)
  /-- UNIT_SEND (R241): A drain or row engine sends an output row or partial as a message. -/
  | unitSend (c : CoreId) (u : SendUnit)
  /-- UNIT_RESEND (R242): After FULL or FENCED a sending unit resends once its back-off has passed. -/
  | unitResend (c : CoreId) (u : SendUnit)
  /-- SHEAF_BUFFER_CLEARED (R246): Clearing of the next buffer completes and the next round opens. -/
  | sheafBufferCleared (c : CoreId) (h : Fin 8)
  /-- POSY_READ (R249): A write of GO in QUE_POSY snapshots all queues and sheaves and starts their DMA. -/
  | posyRead (who : Initiator) (c : CoreId) (v : Word)
  /-- POSY_DONE (R249): The posy records are written or refused and DONE is set. -/
  | posyDone (c : CoreId)
  /-- FLIT_ARRIVE (R263): A flit arrives at a router, is CRC-checked, and is routed or discarded. -/
  | flitArrive (p : PhysId) (port : RPort) (err : BitVec 2085)
  /-- ESCAPE_FALLBACK (R258): A head waiting 8 stages without an adaptive credit takes the escape channel. -/
  | escapeFallback (p : PhysId) (port : RPort)
  /-- ESCDATA_WRITE (R259): A write to MESH_ESCDATA sets an escape table entry. -/
  | escdataWrite (who : Initiator) (d : DieId) (v : Word)
  /-- MARK_DOWN_WRITE (R261): A write of MARK_DOWN in MESH_PORTp marks a port DOWN or up. -/
  | markDownWrite (who : Initiator) (c : CoreId) (port : RPort) (v : Word)
  /-- FENCE_RELEASE (R262): A held FENCE packet is sent once earlier packets to its destination have
  responses. -/
  | fenceRelease (c : CoreId)
  /-- MESH_TIMEOUT (R264): An operation's response does not arrive within its timeout and the operation
  ends. -/
  | meshTimeout (c : CoreId) (op : MeshOp)
  /-- DMA_PACKET_ISSUE (R268): The DMA engine issues the next packet of a DMA when a packet slot is free. -/
  | dmaPacketIssue (c : CoreId)
  /-- DMA_RESPONSE (R269): A response reaches the DMA engine, completing the DMA or ending it at its first
  failure. -/
  | dmaResponse (pkt : Packet)
  /-- SEAM_RPR_WRITE (R270): A write of WRITE in MESH_SEAMj_RPR assigns or frees a seam repair wire. -/
  | seamRprWrite (who : Initiator) (d : DieId) (j : Fin 2) (v : Word)
  /-- BEACON_JOIN (R274): A join reaches the beacon root and updates the group round or is a stray. -/
  | beaconJoin (g : GroupId) (c : CoreId)
  /-- BEACON_RELEASE (R274): The combined value is delivered to every member and the round completes. -/
  | beaconRelease (g : GroupId)
  /-- BEACON_FAULT (R274): An uncorrectable beacon word puts the group into FAULT. -/
  | beaconFault (g : GroupId)
  /-- BEACON_CLEAR (R274): A write of CLEAR in BCN_GCTLg discards joins of a FAULT group and returns it to
  IDLE. -/
  | beaconClear (who : Initiator) (g : GroupId) (v : Word)
  /-- BCN_GCFG_WRITE (R271): A write to a group's configuration or mask takes effect only while IDLE or
  FAULT and scope-valid. -/
  | bcnGcfgWrite (who : Initiator) (g : GroupId) (which : Fin 9) (v : Word)
  /-- HEARTH_ACCESS (R288): A request reaches a ring for hearth and is translated, served and ECC-checked. -/
  | hearthAccess (req : RingReq)
  /-- PEAT_ACCESS (R288): A request reaches a ring for peat and is translated, served and ECC-checked. -/
  | peatAccess (req : RingReq)
  /-- HBM_TEMP_REPORT (R280): A stack reports its temperature, doubling refresh above 85 C or signalling
  its high limit. -/
  | hbmTempReport (k : StackId) (celsius : BitVec 8) (x : TempReport)
  /-- PATROL_SCRUB_PASS (R284): Patrol scrub reads and corrects the lines of a channel over its period. -/
  | patrolScrubPass (ch : ChanId) (corrected : BitVec 32) (bad : List Nat) (rowFull : Option Nat)
  /-- PPR_COMPLETE (R285): A soft post-package repair completes and the row's lines are written back. -/
  | pprComplete (ch : ChanId) (ok : Bool)
  /-- HEAT_DECAY_PERIOD (R293): At each DECAY_MS period the agents halve HEAT and sweep victims. -/
  | heatDecayPeriod (d : DieId)
  /-- SWAP_START (R294): A tier agent pairs a promotion with a victim and starts a swap. -/
  | swapStart (d : DieId) (v : DieId)
  /-- SWAP_COMPLETE (R294): A swap's map update commits and held writes are applied to new frames. -/
  | swapComplete (x : AgentRun)
  /-- PREFETCH (R297): TPREF PREFETCH puts peat names at the head of the promote queue. -/
  | prefetch (x : AgentRun)
  /-- COOL (R297): TPREF COOL zeroes HEAT and puts hearth names at the head of the victim list. -/
  | cool (x : AgentRun)
  /-- PIN (R297): TPREF PIN pins names in their present tier. -/
  | pin (x : AgentRun)
  /-- UNPIN (R297): TPREF UNPIN clears PIN unless the engine set it. -/
  | unpin (x : AgentRun)
  /-- SCAN (R299): TPREF SCAN resolves the listed blocks and writes the RESOLVED record. -/
  | scan (x : AgentRun)
  /-- SCAN_BLOCK (R302): A peat scan unit computes and writes the softmax partial records of one block. -/
  | scanBlock (d : DieId) (k : Fin 64) (b : Fin 4096) (mismatches : Fin 3) (errs : LineErrs)
  /-- SCAN_DONE (R300): All scanned records are written and the DONE status record is written. -/
  | scanDone (d : DieId)
  /-- TIER_POLICY_WRITE (R308): A write to TIER_POLICY is accepted or discarded whole. -/
  | tierPolicyWrite (who : Initiator) (v : Word)
  /-- RTL_CFG_WRITE (R310): A write to RTL_Pp_CFG enables, disables or retrains a port, or is rejected. -/
  | rtlCfgWrite (who : Initiator) (p : PortId) (v : Word)
  /-- PORT_UCW_CHECK (R312): Each second a port's uncorrectable codewords are compared with UCW_LIMIT and
  the port may go DOWN. -/
  | portUcwCheck (p : PortId) (corrected : BitVec 32) (ucw : BitVec 32)
  /-- SPAN_REQUEST (R318): The span engine splits a mesh request for a remote address into sprayed span
  packets. -/
  | spanRequest (pkt : Packet) (win : BitVec 12) (wgen : BitVec 16)
  /-- DIRECT_FRAME_RECEIVE (R320): A DIRECT-mode frame is received and checked, then taken, forwarded or
  discarded. -/
  | directFrameReceive (p : PortId) (octets : Bytes) (u : Unit)
  /-- LINK_FRAME (R321): A LINK frame arrives and updates credits and the peer device number. -/
  | linkFrame (p : PortId) (dev : BitVec 16) (rcvdReq freedReq rcvdRsp freedRsp : BitVec 32)
  /-- LINK_FRAME_SEND (R321): A LINK frame is sent every microsecond or when FREED advances by 256
  credits. -/
  | linkFrameSend (p : PortId)
  /-- FRAME_VANISHED (R321): A frame not counted in RCVD within 4 us has its credits restored. -/
  | frameVanished (p : PortId) (rsp : Bool)
  /-- TRANSIT_TIMEOUT (R322): A packet waiting longer than TRANSIT_US at a module is discarded. -/
  | transitTimeout (p : PortId) (rsp : Bool)
  /-- ETHERNET_FRAME_RECEIVE (R325): An ETHERNET-mode frame is checked and taken, sent to time alignment
  or discarded. -/
  | ethernetFrameReceive (p : PortId) (body : EthBody) (u : Unit)
  /-- TIME_FRAME (R346): A TIME frame arrives and is timestamped with the peer's fields recorded. -/
  | timeFrame (p : PortId) (ttx ptx prx : Word)
  /-- TIME_FRAME_SEND (R346): With TIME_EN a port sends a timestamped TIME frame every 1 ms. -/
  | timeFrameSend (p : PortId)
  /-- SPAN_PACKET_ARRIVE (R331): A span packet for this module is authenticated and handled by its reorder
  context. -/
  | spanPacketArrive (body : Bytes)
  /-- REORDER_GAP_EXPIRE (R332): EXPECT has not advanced for GAP_US: missing numbers are counted LOST and
  release continues. -/
  | reorderGapExpire (dev : BitVec 16) (prompt : Bool)
  /-- SEND_CONTEXT_EVICT (R330): A send context idle for 2 ms is evicted. -/
  | sendContextEvict (dev : BitVec 16) (prompt : Bool)
  /-- REORDER_CONTEXT_EVICT (R330): A reorder context idle for 1 ms is evicted. -/
  | reorderContextEvict (dev : BitVec 16) (prompt : Bool)
  /-- SPAN_FENCE_RELEASE (R334): A held released FENCE packet is delivered once earlier packets have
  responses. -/
  | spanFenceRelease (dev : BitVec 16) (prompt : Bool)
  /-- SPAN_OP_COMPLETE (R335): All span responses of an operation arrive and the mesh request is answered. -/
  | spanOpComplete (tag : BitVec 32)
  /-- SPAN_OP_TIMEOUT (R335): An operation lacking responses after OP_US is freed and counted. -/
  | spanOpTimeout (tag : BitVec 32)
  /-- SPAN_WINDOW_WRITE (R337): A write to a span window register raises WGEN or is rejected. -/
  | spanWindowWrite (who : Initiator) (w : BitVec 12) (which : Fin 3) (v : Word)
  /-- ROUTE_ENTRY_WRITE (R348): A write to a route entry takes effect whole, with the effects of its new
  STATE. -/
  | routeEntryWrite (who : Initiator) (dev : BitVec 16) (v : Word)
  /-- SPAN_CTRL_WRITE (R350): A write to SPAN_CTRL, SPAN_CTRL2 or SPAN_ETH is accepted or discarded whole. -/
  | spanCtrlWrite (who : Initiator) (which : Fin 3) (v : Word)
  /-- KEY_COMMIT (R345): COMMIT in SPAN_KEYIDX marks the selected key valid and zeroes its counter. -/
  | keyCommit (who : Initiator) (v : Word)
  /-- KEY_CLEAR (R345): CLEAR in SPAN_KEYIDX marks the selected key invalid. -/
  | keyClear (who : Initiator) (v : Word)
  /-- TXPHASE_WRITE (R345): A write of TXPHASE switches a slot's transmit phase. -/
  | txphaseWrite (who : Initiator) (v : Word)
  /-- KEYDATA_WRITE (R345): A write to SPAN_KEYDATA stores the selected key or salt word. -/
  | keydataWrite (who : Initiator) (v : Word)
  /-- PERST_ASSERT (R354): PERST# is asserted and rings are disabled without records. -/
  | perstAssert
  /-- PERST_DEASSERT (R354): PERST# is deasserted and a module reset takes effect. -/
  | perstDeassert
  /-- LINK_DOWN (R354): A hot reset, secondary bus reset or link down retrains the CXL link only. -/
  | linkDown
  /-- CXL_RESET (R354): CXL Reset ends ring jobs with ABORTED_BY_RESET and starts a compute reset keeping
  hearth. -/
  | cxlReset
  /-- IDENTIFY (R357): Mailbox IDENTIFY returns part, serial, lifecycle and versions. -/
  | identify
  /-- GET_STATE (R357): Mailbox GET_STATE returns stage, times, links and image. -/
  | getState
  /-- GET_LAYOUT (R357): Mailbox GET_LAYOUT returns the layout revision, absent cores and short-slack
  jobs. -/
  | getLayout
  /-- GET_LOG_PTR (R357): Mailbox GET_LOG_PTR returns the error log ring location and counts. -/
  | getLogPtr
  /-- GET_TELEMETRY (R357): Mailbox GET_TELEMETRY returns power, VCORE, pace and temperature. -/
  | getTelemetry
  /-- REQ_COMPUTE_RESET (R483): Mailbox REQ_COMPUTE_RESET asks the Warden for a compute reset. -/
  | reqComputeReset
  /-- REQ_MODULE_RESET (R483): Mailbox REQ_MODULE_RESET asks the Warden for a module reset. -/
  | reqModuleReset
  /-- CXLMEM_REQUEST (R359): A host CXL.mem request is decoded to DPA and served, poisoned or discarded. -/
  | cxlmemRequest (addr : Word) (x : MemReq)
  /-- BISNP_RESPONSE (R360): A back-invalidate snoop response arrives and the waiting device access
  proceeds. -/
  | bisnpResponse (addr : Word) (dirty : Option Bytes)
  /-- BISNP_SLOW (R361): A snoop outstanding over 100 us sets BISNP_SLOW and writes an INFO record. -/
  | bisnpSlow (addr : Word)
  /-- PRODUCER_LINE_WRITE (R365): A host write to a ring's producer line invalidates the device copy or
  marks the ring pending. -/
  | producerLineWrite (r : RingId) (data : Bytes)
  /-- RING_POLL (R365): Every POLL_NS the front end polls each enabled ring's producer line. -/
  | ringPoll (r : RingId) (line : Option Bytes)
  /-- DESCRIPTOR_FETCH (R369): The front end fetches the next descriptor when the fetch conditions hold. -/
  | descriptorFetch (r : RingId) (desc : Option Bytes)
  /-- JOB_NOP (R376): A NOP job completes with DONE_SEALED at once. -/
  | jobNop (r : RingId)
  /-- JOB_START (R373): A START job is checked and its tasks are reserved. -/
  | jobStart (r : RingId)
  /-- JOB_SEND (R375): A SEND job delivers one word message through the ring's proxy key. -/
  | jobSend (r : RingId)
  /-- JOB_SEND_RETRY (R375): After FULL or FENCED the front end resends a SEND job after the back-off. -/
  | jobSendRetry (jobTag : BitVec 32)
  /-- JOB_FENCE (R376): A FENCE job completes when every earlier job of its ring has its last record. -/
  | jobFence (r : RingId)
  /-- JOB_TIMEOUT (R377): A job's TIMEOUT_MS expires, becoming its cause and killing its tasks. -/
  | jobTimeout (jobTag : BitVec 32)
  /-- COMPLETION_RECORD_WRITE (R380): A job's completion record is written as one line with its phase bit. -/
  | completionRecordWrite (jobTag : BitVec 32)
  /-- SEAL_UPDATE (R378): A provisional job's regions resolve and a SEAL_UPDATE record is written. -/
  | sealUpdate (jobTag : BitVec 32)
  /-- RING_ENABLE (R368): Setting ENABLE in CXL_RINGr_CFG starts a ring afresh. -/
  | ringEnable (who : Initiator) (r : RingId) (v : Word)
  /-- RING_DISABLE (R368): Clearing ENABLE stops fetching; the ring drains to OFF. -/
  | ringDisable (who : Initiator) (r : RingId) (v : Word)
  /-- IDE_INTEGRITY_FAILURE (R364): An IDE integrity failure on a received flit is handled per the stream
  mode and recorded. -/
  | ideIntegrityFailure (stream : Fin 3)
  /-- WINDOW_VERDICT (R385): An output window's own check result reaches the seal logic and it seals,
  waits or retracts. -/
  | windowVerdict (c : CoreId) (epoch : BitVec 32) (dupFail : Bool)
  /-- NOTICE_ARRIVE (R391): A NOTICE arrives and adds references to the blocks of its range. -/
  | noticeArrive (pkt : Packet) (u : Unit)
  /-- SEAL_ARRIVE (R387): A SEAL arrives, removes references to its epoch and is relayed. -/
  | sealArrive (pkt : Packet) (u : Unit)
  /-- RETRACT_ARRIVE (R387): A RETRACT arrives, marks references RETRACTED, cascades and is relayed. -/
  | retractArrive (pkt : Packet) (u : Unit)
  /-- NOTICE_ACKNOWLEDGED (R393): All NOTICEs of a read are acknowledged and the endpoint serves the
  bytes. -/
  | noticeAcknowledged (e : SealEnd) (k : Nat)
  /-- SEAL_MESSAGE_RESEND (R394): An unacknowledged seal message is resent after 32 us, or given up after
  three resends. -/
  | sealMessageResend (e : SealEnd) (k : Nat)
  /-- LAPSE (R389): The lapse time of a foreign epoch passes and its OPEN references become LAPSED. -/
  | lapse (e : SealEnd) (k : ProdKey)
  /-- SEAL_LANE_UPDATE (R403): A lattice seal lane's sealed count SC advances at an input link. -/
  | sealLaneUpdate (c : CoreId) (d : Dir) (sc : Word)
  /-- LANE_RETRACT (R404): RETRACT arrives on a seal lane; dependent windows retract and the lattice task
  freezes. -/
  | laneRetract (c : CoreId) (d : Dir)
  /-- DIGEST_COMPUTE (R409): For a sealed job on a shadow ring the digest engine writes an SM3 digest
  record. -/
  | digestCompute (jobTag : BitVec 32)
  /-- SHADOWLOC_WRITE (R410): A write to MGT_SHADOWLOC resets the digest count and RD. -/
  | shadowlocWrite (who : Initiator) (v : Word)
  /-- TEST_DUE (R427): A slot falls due for test, by migration to ON_TEST or in place. -/
  | testDue (p : PhysId)
  /-- SLICE_RESULT (R420): A logic BIST slice completes and its signature is compared with the golden
  value. -/
  | sliceResult (p : PhysId) (slice : Fin 40) (pinch : Bool) (sig : Word) (cells : List (Nat × Nat))
  /-- MARCH_RESULT (R421): The march tests complete and the slot is re-initialised. -/
  | marchResult (p : PhysId) (pass : Bool)
  /-- CONDITION_EVALUATE (R426): Every 1 ms the conditional fence condition of a FENCED_COND slot is
  evaluated. -/
  | conditionEvaluate (p : PhysId)
  /-- WATCH_EXPIRE (R417): WATCH_H hours pass cleanly and a WATCH slot returns to service. -/
  | watchExpire (p : PhysId)
  /-- CINDER_TIMEOUT (R417): A FENCED slot without a passing full pass for 7 days becomes CINDER. -/
  | cinderTimeout (p : PhysId)
  /-- MIGRATION_FREEZE (R429): A migrating core's tasks freeze at quiet points and run empty. -/
  | migrationFreeze (c : CoreId)
  /-- MIGRATION_FORCED (R431): No quiet point within DEFER_MS: the migration is forced or the job
  recovered. -/
  | migrationForced (c : CoreId)
  /-- MIGRATION_COMMIT (R429): Regions and state are copied, the map switches and tasks resume on the new
  slot. -/
  | migrationCommit (c : CoreId)
  /-- EMBER_WRITE_COMPLETE (R436): An ember checkpoint header is written last, or the write fails and
  EMBER_FAIL is set. -/
  | emberWriteComplete (c : CoreId) (t : TaskSlot) (ok : Bool)
  /-- JOB_RECOVERY (R437): A job's tasks are frozen, windows retracted and state restored from the
  recovery line. -/
  | jobRecovery (jobTag : BitVec 32)
  /-- RECOVERY_RESUME (R437): Every task is restored and all resume together at PC + 1. -/
  | recoveryResume (jobTag : BitVec 32)
  /-- LAYOUT_REVISION (R440): A row exhaustion or router failure revises the layout and makes a core
  absent. -/
  | layoutRevision (r : Fin 64)
  /-- LAYOUT_RESTORE (R514): An UNFENCE gives an absent column a slot again by a layout revision. -/
  | layoutRestore (r : Fin 64)
  /-- ROUTER_FAILURE (R441): A router fails; its ports go DOWN, its slot becomes CINDER and its cores
  recover. -/
  | routerFailure (p : PhysId)
  /-- SMD_TEST (R444): SMD_CMD TEST makes a slot fall due at once. -/
  | smdTest (who : Initiator) (p : PhysId)
  /-- SMD_FENCE (R444): SMD_CMD FENCE fences a slot and journals the entry. -/
  | smdFence (who : Initiator) (p : PhysId)
  /-- SMD_UNFENCE (R444): SMD_CMD UNFENCE moves a FENCED slot to WATCH. -/
  | smdUnfence (who : Initiator) (p : PhysId)
  /-- SMD_CINDER (R444): SMD_CMD CINDER retires a slot. -/
  | smdCinder (who : Initiator) (p : PhysId)
  /-- SMD_COND (R444): SMD_CMD COND grants a conditional fence. -/
  | smdCond (who : Initiator) (p : PhysId)
  /-- MOVE_RESTING (R444): SMD_CMD MOVE_RESTING moves the resting slot by migrations. -/
  | moveResting (who : Initiator) (p : PhysId)
  /-- SMD_ABANDON (R444): SMD_CMD ABANDON stops a running test. -/
  | smdAbandon (who : Initiator) (p : PhysId)
  /-- SMD_PXDATA_ACCESS (R444): An access to SMD_PXDATA reaches a register in a physical slot's core page. -/
  | smdPxdataAccess (who : Initiator) (d : DieId) (acc : PageAccess)
  /-- POWER_GOOD_ASSERT (R445): PWRGD is asserted, VCORE starts and a cold bring-up begins. -/
  | powerGoodAssert
  /-- POWER_GOOD_DEASSERT (R503): PWRGD is deasserted; every domain stops and all state is lost. -/
  | powerGoodDeassert
  /-- RAIL_FAULT (R503): A rail leaves its range for over 10 us and the module acts as on PWRGD loss. -/
  | railFault (rail : Fin 8)
  /-- CXL_TRAINING_START (R448): CXL link training starts at PERST# deassertion or 20 ms after power-good,
  whichever is later. -/
  | cxlTrainingStart
  /-- STAGE_0 (R446): Stage 0 completes: boot ROM, CXL.io and the Stage 0 interface are up. -/
  | stage0 (ok : Bool)
  /-- STAGE_1 (R446): Stage 1 completes: image chosen, Forester started, OTP and defect map applied. -/
  | stage1 (otpOk : Bool) (a b : Bytes) (u : Unit)
  /-- STAGE_2 (R456): Stage 2 completes: memories trained, links measured, pool and map laid out. -/
  | stage2 (rep : Stage2Report)
  /-- STAGE_3 (R459): Stage 3 completes: slots tested, map built, tables installed and STAGE 4 set. -/
  | stage3 (bad : List SlotFail) (routers : List PhysId) (esc : EscPlan) (mps : BitVec 16)
  /-- BOOT_RESET_COMPUTE (R462): BOOT_RESET GO with KIND COMPUTE starts a compute reset without BIST. -/
  | bootResetCompute (who : Initiator) (v : Word)
  /-- BOOT_RESET_COMPUTE_BIST (R462): BOOT_RESET GO with KIND COMPUTE_BIST starts a compute reset with
  BIST. -/
  | bootResetComputeBist (who : Initiator) (v : Word)
  /-- BOOT_RESET_CORE (R465): BOOT_RESET GO with KIND CORE starts a core reset of one logical core. -/
  | bootResetCore (who : Initiator) (v : Word)
  /-- BOOT_RESET_MODULE (R461): BOOT_RESET GO with KIND MODULE starts a module reset. -/
  | bootResetModule (who : Initiator) (v : Word)
  /-- COMPUTE_RESET_COMPLETE (R462): A compute reset finishes: map rebuilt, domains released, BUSY
  cleared. -/
  | computeResetComplete (bad : List SlotFail) (routers : List PhysId)
  /-- CORE_RESET_COMPLETE (R465): A core reset releases the compute domain of its slot. -/
  | coreResetComplete (c : CoreId)
  /-- MP_TEST (R470): A management processor is tested in the rotation, moving the Warden first if needed. -/
  | mpTest (k : Fin 16) (pass : Bool)
  /-- FORESTER_WATCHDOG (R471): No HEARTBEAT for 3 s: the Warden restarts or leaves stopped Forester. -/
  | foresterWatchdog
  /-- HEARTBEAT (R480): Warden call HEARTBEAT restarts the Forester watchdog. -/
  | heartbeat
  /-- SLOT_OP (R480): Warden call SLOT_OP checks and commits an SMD_CMD operation. -/
  | slotOp (die slot op : Word)
  /-- SOFT_REPAIR (R480): Warden call SOFT_REPAIR writes ARR_REPAIR and journals a repair entry. -/
  | softRepair (die slot array : Word) (row : Bool) (idx : Word)
  /-- SET_SLACK (R480): Warden call SET_SLACK writes LAT_SLACKi ADJUST. -/
  | setSlack (core link adjust : Word)
  /-- ESC_INSTALL (R260): Warden call ESC_INSTALL checks and installs an escape table set. -/
  | escInstall (table : Bytes)
  /-- PORT_MARK (R480): Warden call PORT_MARK marks a mesh port DOWN or up. -/
  | portMark (core port : Word) (down : Bool)
  /-- SEAM_REPAIR (R480): Warden call SEAM_REPAIR assigns a seam repair wire. -/
  | seamRepair (die seam wire data : Word)
  /-- PPR_GO (R285): Warden call PPR_GO starts a soft post-package repair on a held row. -/
  | pprGo (die chan : Word)
  /-- WINDOW_SET (R481): Warden call WINDOW_SET writes a span window within the image's grants. -/
  | windowSet (w base limit ctrl : Word)
  /-- ROUTE_SET (R482): Warden call ROUTE_SET writes a route entry under the group and key rules. -/
  | routeSet (d entry : Word)
  /-- KEY_AGREE (R489): Warden call KEY_AGREE starts an SM2 key exchange with a peer. -/
  | keyAgree (d slot : Word)
  /-- KEY_SWITCH (R480): Warden call KEY_SWITCH switches a slot's transmit phase. -/
  | keySwitch (slot : Word)
  /-- RESET (R480): Warden call RESET requests a reset through BOOT_RESET. -/
  | reset (kind core : Word) (keep : Bool)
  /-- FLOOR_RAISE (R475): Warden call FLOOR_RAISE raises an OTP rollback floor. -/
  | floorRaise (which : Word)
  /-- SHADOW_PAIR (R411): Warden call SHADOW_PAIR reads the primary's digest and compares it with the
  local one. -/
  | shadowPair (rec primary win addr : Word) (got : Option Bytes)
  /-- SHADOW_EXIT (R411): Warden call SHADOW_EXIT ends shadow mode after CLEAN_JOBS equal pairs. -/
  | shadowExit
  /-- LOG_NOTE (R480): Warden call LOG_NOTE writes an error record from Forester. -/
  | logNote (sev code d0 d1 : Word)
  /-- TIME_STEP (R497): Warden call TIME_STEP steps the time base forward. -/
  | timeStep (ns : Word)
  /-- FATAL_DEVICE_CONDITION (R484): A FATAL_DEVICE condition is recorded and a module reset started, up
  to three per hour. -/
  | fatalDeviceCondition (cause : Fin 3) (d : DieId)
  /-- OWNERSHIP_RECORD (R473): An ownership record advances the lifecycle to OWNED or RMA. -/
  | ownershipRecord (session : BitVec 32) (owned : Bool) (serial custKey : Bytes) (sigOk : Bool)
  /-- IDE_KM (R364): An IDE_KM request establishes or refreshes IDE keys. -/
  | ideKm (session : BitVec 32) (stream : Fin 3) (on : Bool)
  /-- GET_VERSION (R487): SPDM GET_VERSION returns supported versions. -/
  | getVersion
  /-- GET_CAPABILITIES (R487): SPDM GET_CAPABILITIES returns responder capabilities. -/
  | getCapabilities (version : BitVec 8)
  /-- NEGOTIATE_ALGORITHMS (R487): SPDM NEGOTIATE_ALGORITHMS selects the SM algorithms. -/
  | negotiateAlgorithms (common : Bool)
  /-- GET_DIGESTS (R487): SPDM GET_DIGESTS returns certificate chain digests. -/
  | getDigests
  /-- GET_CERTIFICATE (R487): SPDM GET_CERTIFICATE returns the slot 0 chain. -/
  | getCertificate (slot : BitVec 4) (off len : Nat)
  /-- CHALLENGE (R487): SPDM CHALLENGE is answered with the identity key. -/
  | challenge (slot : BitVec 4) (nonce : Bytes)
  /-- GET_MEASUREMENTS (R488): SPDM GET_MEASUREMENTS returns the measurement blocks. -/
  | getMeasurements (index : BitVec 8)
  /-- KEY_EXCHANGE (R487): SPDM KEY_EXCHANGE opens a secured session. -/
  | keyExchange (slot : BitVec 4) (session : BitVec 32) (exchange : Bytes)
  /-- FINISH (R487): SPDM FINISH completes a session handshake. -/
  | finish (session : BitVec 32) (ok : Bool)
  /-- SPDM_HEARTBEAT (R487): SPDM HEARTBEAT keeps a session alive. -/
  | spdmHeartbeat (session : BitVec 32)
  /-- KEY_UPDATE (R487): SPDM KEY_UPDATE updates session keys. -/
  | keyUpdate (session : BitVec 32)
  /-- END_SESSION (R487): SPDM END_SESSION closes a session. -/
  | endSession (session : BitVec 32)
  /-- KX_CERT (R489): A CERT key exchange message piece arrives in WDN_KXBOX. -/
  | kxCert (slot : Fin 8) (u : Unit)
  /-- KX_HELLO (R489): A HELLO message from the initiator arrives. -/
  | kxHello (slot : Fin 8)
  /-- KX_REPLY (R489): A REPLY message from the responder arrives. -/
  | kxReply (slot : Fin 8) (u : Unit)
  /-- KX_CONFIRM (R489): A CONFIRM arrives and both sides install and bind the keys. -/
  | kxConfirm (slot : Fin 8) (u : Unit)
  /-- KX_TIMEOUT (R489): An exchange without CONFIRM within 100 ms is abandoned. -/
  | kxTimeout (dev : BitVec 16)
  /-- NET_DATAGRAM (R493): Error records are sent to the collector as a UDP datagram within 1 ms. -/
  | netDatagram
  /-- PLDM_SENSOR_READ (R494): A PLDM request reads a numeric or state sensor. -/
  | pldmSensorRead (sensor : BitVec 8)
  /-- PLDM_MODULE_RESET (R494): The PLDM module reset effecter starts a module reset. -/
  | pldmModuleReset
  /-- PLDM_COMPUTE_RESET (R494): The PLDM compute reset effecter requests a compute reset. -/
  | pldmComputeReset (bist : Bool)
  /-- TIME_BASE_TICK (R497): At each reference clock period the time base advances by the rate-corrected
  amount. -/
  | timeBaseTick
  /-- TIME_LOW_READ (R497): A read of the low 32 bits of the time base latches the high half. -/
  | timeLowRead (who : Initiator)
  /-- LOGDATA_READ (R491): A read of MGT_LOGDATA0 latches the whole record of slot LOGIDX. -/
  | logdataRead (who : Initiator)
  /-- NETKEY_WRITE (R493): A write to MGT_NETKEY fills the HMAC key in rotation or removes it. -/
  | netkeyWrite (who : Initiator) (v : Word)
  /-- POWER_SAMPLE (R507): Every 10 us input power is sampled and a peak lowers VCORE at once. -/
  | powerSample (watts vin : BitVec 16)
  /-- POWER_CONTROL_STEP (R507): Every 100 us the power manager lowers, raises or holds each die's VCORE. -/
  | powerControlStep (dies : List (BitVec 16 × BitVec 14 × BitVec 10))
  /-- THERMAL_SAMPLE (R509): Every 100 us junction sensors are read, throttling VCORE or tripping. -/
  | thermalSample (d : DieId) (temps : List (BitVec 8)) (rowMw : List (BitVec 16))
  /-- VCORE_DROOP (R506): A converter hits its current limit and VCORE droops; DROOP is set. -/
  | vcoreDroop (d : DieId) (mv : BitVec 14) (long : Bool)
  /-- PACE_MEASURE (R505): Every 10 us each die's pace monitor measures its stage time. -/
  | paceMeasure (d : DieId) (ps : BitVec 16)
  /-- SEAL_ACKNOWLEDGED (R394): The WRITE_ACK of a SEAL or RETRACT reaches its sender, and the subscriber
  entry and the window entry are freed once every message is acknowledged. -/
  | sealAcknowledged (e : SealEnd) (k : Nat)
  /-- PORT_TRAINING_COMPLETE (R310): A span port that ENABLE started training finishes training and goes
  from TRAINING to UP. -/
  | portTrainingComplete (p : PortId) (lanes : BitVec 4)
  /-- CXL_LINK_UP (R354): The CXL link finishes retraining after a hot reset or link down, and the waiting
  polls and record writes proceed. -/
  | cxlLinkUp (speed : BitVec 3) (width : BitVec 6) (flit : BitVec 2)
  /-- LINK_WAIT_EXPIRE (R371): A ring-structure access has waited over 1 s for the CXL link, and the ring
  faults with HOST_ERR. -/
  | linkWaitExpire (r : RingId)
  /-- PEAT_CHANNEL_FAILURE (R282): A peat channel fails after bring-up and stays in the interleave, with
  its accesses answered POISONED until the next cold start or module reset. -/
  | peatChannelFailure (ch : ChanId)
  /-- RUN_EMPTY_TIMEOUT (R431): Step 2 of a migration exceeds 1 ms, so the core is not copied and its job
  is recovered with MIG_FORCED set. -/
  | runEmptyTimeout (c : CoreId)
  deriving DecidableEq, Repr

end Sys2Proof
end

