-- ==== Sys2Proof/Config.lean ====
section
/-! DEFINITION. What the spec leaves to the silicon, to firmware or to chance: constants with no body, so that no proof
can rest on a value of them (notes/assumptions/3.md). -/

namespace Sys2Proof.Config

/-- A fresh value for each value of a counter that the state holds: random draws and undefined results. -/
opaque freeWord : Nat → BitVec 64

/-- A fused function of spec/02 R76 on FP32 bits, by its code; the fixed mapping of R77. -/
opaque func : Nat → BitVec 32 → BitVec 32
/-- The derivative factor of a fused derivative code of spec/02 R76 as the fixed mapping (code, g, z). -/
opaque dfunc : Nat → BitVec 32 → BitVec 32 → BitVec 32
/-- 2^d on FP32 bits (spec/03 R95). -/
opaque exp2 : BitVec 32 → BitVec 32
/-- The vector unit's functions on FP32 bits: 0 exp2, 1 log2, 2 exp, 3 log (spec/03 R117). -/
opaque vfunc : Nat → BitVec 32 → BitVec 32
/-- ln 2 × (μ + log2 SUM) from the anchor and the FP32 sum (spec/03 R106). -/
opaque lse : Int → BitVec 32 → BitVec 32

/-- SM3 of a byte string (spec/12 R409, spec/14 R450). -/
opaque sm3 : Bytes → Bytes
/-- HMAC-SM3 of a byte string under a key (spec/15 R493). -/
opaque hmacSm3 : Bytes → Bytes → Bytes
/-- The SM4-GCM key stream of a packet: key, salt and counter to the byte at a position (spec/10 R343). -/
opaque sm4Stream : BitVec 128 → BitVec 32 → BitVec 64 → Nat → BitVec 8
/-- SM4-GCM authentication tag: key, salt, counter, covered header bytes and ciphertext (spec/10 R343). -/
opaque sm4Tag : BitVec 128 → BitVec 32 → BitVec 64 → Bytes → Bytes → BitVec 128
/-- Reorder contexts that a die holds; the spec does not give their number (spec/10 R331). -/
opaque reorderContexts : Nat
/-- Where the DIMMs of a peat channel hold the line at a channel offset: DIMM, rank, bank group, bank and row, as bits 55:28 of PEAT_Cc_PPR. The
spec does not give the geometry of a DIMM (spec/09 R285). -/
opaque peatRow : Nat → Nat → BitVec 28
/-- SM2 signature by the identity key (spec/15 R486). -/
opaque sm2Sign : Bytes → Bytes
/-- SM2 signatures verify: public key, digest and signature (spec/14 R452, spec/15 R474). -/
opaque sm2Verify : Bytes → Bytes → Bytes → Bool
/-- The Vygal firmware keys that boot ROM holds, in their order, and its Vygal default image key (spec/15 R472, R474). -/
opaque romKeys : List Bytes
/-- The Vygal default image public key. -/
opaque imageKey : Bytes
/-- A certificate chain leads to a Vygal root in boot ROM (spec/15 R489). -/
opaque chainOk : Bytes → Bool
/-- Keys that an SM2 key exchange yields (spec/15 R489): transcript and purpose to bytes. -/
opaque sm2Keys : Bytes → Nat → Bytes

/-- ARR_FUSE of an array of a physical slot (spec/02 R90). -/
opaque arrFuse : Nat → Nat → BitVec 64
/-- The golden signature that ROM holds for a slice and a seed (spec/13 R420). -/
opaque golden : Nat → Nat → BitVec 64
/-- The device certificate chain in flash (spec/15 R486, R487). -/
opaque certChain : Bytes
/-- Boot ROM, which measurement block 1 covers, and its version (spec/15 R488, spec/11 R357). -/
opaque bootRom : Bytes
/-- Boot ROM version. -/
opaque romVersion : BitVec 32
/-- CXL_IDENT REVISION and VENDOR (spec/11). -/
opaque cxlIdent : BitVec 64

end Sys2Proof.Config
end

