-- ==== Sys2Proof/Machine/Bits.lean ====
section
/-! DEFINITION. Bit fields, byte order, sign extension and small arithmetic over natural numbers, used by
every other file of the machine. Fields are written high:low as the spec writes them (spec/00). -/

namespace Sys2Proof.Machine

/-- Bits hi:lo of a natural number. -/
def fieldN (v hi lo : Nat) : Nat := (v >>> lo) % 2 ^ (hi + 1 - lo)

/-- Bits hi:lo of a vector. -/
def field {n : Nat} (v : BitVec n) (hi lo : Nat) : Nat := fieldN v.toNat hi lo

/-- Bit i of a vector. -/
def bitOf {n : Nat} (v : BitVec n) (i : Nat) : Bool := v.toNat.testBit i

/-- Bits hi:lo of a register replaced by a value. -/
def setField (w : Word) (hi lo v : Nat) : Word :=
  let m : Word := BitVec.ofNat 64 ((2 ^ (hi + 1 - lo) - 1) <<< lo)
  (w &&& ~~~m) ||| (BitVec.ofNat 64 (v <<< lo) &&& m)

/-- Bit i of a register set or cleared. -/
def setBit (w : Word) (i : Nat) (b : Bool) : Word := setField w i i (if b then 1 else 0)

/-- A Bool as 0 or 1. -/
def b2n (b : Bool) : Nat := if b then 1 else 0

/-- A value placed at bit lo, for building registers and records field by field. -/
def at_ (v lo : Nat) : Nat := v <<< lo

/-- The signed value of the low n bits of v. -/
def signedN (n v : Nat) : Int :=
  let u := v % 2 ^ n
  if u < 2 ^ (n - 1) then (u : Int) else (u : Int) - (2 : Int) ^ n

/-- The low n bits of an integer, two's complement. -/
def wrapN (n : Nat) (i : Int) : Nat := (i % ((2 : Int) ^ n)).toNat

/-- An integer as a 64-bit word, modulo 2^64. -/
def wordOf (i : Int) : Word := BitVec.ofInt 64 i

/-- n bytes of a natural number, least significant byte first (little-endian, spec/01 R24). -/
def leBytes : Nat → Nat → Bytes
  | 0, _ => []
  | n + 1, v => BitVec.ofNat 8 v :: leBytes n (v / 256)

/-- The natural number that bytes spell, least significant byte first. -/
def ofLe : Bytes → Nat
  | [] => 0
  | b :: bs => b.toNat + 256 * ofLe bs

/-- The little-endian number in bytes [off, off + n) of a byte string; missing bytes count zero. -/
def leAt (bs : Bytes) (off n : Nat) : Nat := ofLe ((bs.drop off).take n)

/-- Element i of packed elements of w bits each (spec/01 R24). -/
def packedAt (v w i : Nat) : Nat := (v >>> (i * w)) % 2 ^ w

/-- Elements of w bits packed without gaps, the first lowest (spec/01 R24). -/
def packAll (w : Nat) : List Nat → Nat
  | [] => 0
  | x :: xs => x % 2 ^ w + (packAll w xs) <<< w

/-- Quotient rounded up. -/
def ceilDiv (a b : Nat) : Nat := (a + b - 1) / b

/-- A natural number rounded up to a multiple of b. -/
def alignUp (a b : Nat) : Nat := ceilDiv a b * b

/-- A value held at most at a maximum: a counter that stops at all ones. -/
def satAdd (bits a k : Nat) : Nat := min (a + k) (2 ^ bits - 1)

/-- The first n natural numbers with a property: how many. -/
def countN (n : Nat) (p : Nat → Bool) : Nat := (List.range n).countP p

/-- Element i of a list set to a value. -/
def setAt {α : Type} (l : List α) (i : Nat) (v : α) : List α := l.set i v

/-- One step of the IEEE 802.3 CRC-32 over one byte, least significant bit first (spec/08 R263, spec/13 R436). -/
def crcByte (c : Nat) (b : Nat) : Nat :=
  let rec go : Nat → Nat → Nat
    | 0, x => x
    | n + 1, x => go n (if x.testBit 0 then (x >>> 1) ^^^ 0xEDB88320 else x >>> 1)
  go 8 (c ^^^ b)

/-- n steps of that CRC over single bits of v, the least significant first. -/
def crcBits : Nat → Nat → Nat → Nat
  | 0, _, c => c
  | n + 1, v, c =>
    let x := c ^^^ (v % 2)
    crcBits n (v / 2) (if x.testBit 0 then (x >>> 1) ^^^ 0xEDB88320 else x >>> 1)

/-- CRC-32 of IEEE 802.3 over a byte string. -/
def crc32 (bs : Bytes) : BitVec 32 :=
  BitVec.ofNat 32 ((bs.foldl (fun c b => crcByte c b.toNat) 0xFFFFFFFF) ^^^ 0xFFFFFFFF)

/-- Set bits among the low n bits of a number. -/
def popCount (n v : Nat) : Nat := (List.range n).countP (fun i => v.testBit i)

/-- The first element of a list that satisfies p changed. -/
def modFirst {α : Type} (p : α → Bool) (f : α → α) : List α → List α
  | [] => []
  | x :: xs => if p x then f x :: xs else x :: modFirst p f xs

end Sys2Proof.Machine
end

