-- ==== Sys2Proof/Machine/Formats.lean ====
section
/-! DEFINITION. Number formats, exact accumulation and rounding (spec/01 R19 to R55). A value is exact:
a sign, a magnitude and a binary exponent; it is rounded once, to an output format. -/

namespace Sys2Proof.Machine

/-- A value of any format: NaN, an infinity, or (−1)^neg × mag × 2^exp. A zero keeps its sign. -/
inductive Num
  | nan
  | inf (neg : Bool)
  | fin (neg : Bool) (mag : Nat) (exp : Int)
  deriving DecidableEq, Repr

/-- Rounding modes (R39); 0b11 is reserved and refused at set-up. -/
inductive Rnd | rne | rtz | sr
  deriving DecidableEq, Repr

/-- The mode a 2-bit field names (R39). -/
def Rnd.ofField : Nat → Option Rnd
  | 0 => some .rne
  | 1 => some .rtz
  | 2 => some .sr
  | _ => none

/-- The four arithmetic flags (R49). -/
structure Flags where
  loss      : Bool
  invalid   : Bool
  overflow  : Bool
  underflow : Bool
  deriving DecidableEq, Repr

/-- No flag set. -/
def Flags.zero : Flags := ⟨false, false, false, false⟩

/-- Flags of two results together; they are sticky (R49). -/
def Flags.or (a b : Flags) : Flags :=
  ⟨a.loss || b.loss, a.invalid || b.invalid, a.overflow || b.overflow, a.underflow || b.underflow⟩

/-- The flags as bits 3:0: WINDOW_LOSS, INVALID, OVERFLOW, UNDERFLOW (spec/02 DRN_STATUS order). -/
def Flags.toNat (f : Flags) : Nat :=
  b2n f.loss + 2 * b2n f.invalid + 4 * b2n f.overflow + 8 * b2n f.underflow

/-- What a floating-point format can hold besides finite values (R19). -/
inductive Specials | none | nanOnly | ieee
  deriving DecidableEq, Repr

/-- A floating-point element format (R19). -/
structure FFmt where
  ebits : Nat
  mbits : Nat
  bias  : Nat
  spec  : Specials
  deriving DecidableEq, Repr

/-- The floating-point formats by element code (R19); the integer codes have none. -/
def ffmt : Nat → Option FFmt
  | 1 => some ⟨4, 3, 7, .nanOnly⟩
  | 2 => some ⟨5, 2, 15, .ieee⟩
  | 3 => some ⟨3, 2, 3, .none⟩
  | 4 => some ⟨2, 3, 1, .none⟩
  | 5 => some ⟨2, 1, 1, .none⟩
  | 6 => some ⟨8, 7, 127, .ieee⟩
  | 7 => some ⟨8, 23, 127, .ieee⟩
  | _ => Option.none

/-- Element width in bits (R19). -/
def elemBits : Nat → Nat
  | 0 | 1 | 2 => 8
  | 3 | 4 => 6
  | 5 => 4
  | 6 => 16
  | 7 | 8 => 32
  | _ => 0

/-- The MX bit of a format descriptor (R21). -/
def fmtMx (d : Nat) : Bool := d.testBit 4
/-- The element code of a format descriptor (R21). -/
def fmtCode (d : Nat) : Nat := d % 16

/-- A format descriptor byte is well formed (R21). -/
def fmtOk (d : Nat) : Bool :=
  decide (d < 32) && decide (fmtCode d ≤ 8) && (!fmtMx d || decide (fmtCode d ≤ 5))

/-- A floating-point element of R19 read at its exact value (R20: subnormals are not flushed). -/
def decodeF (f : FFmt) (v : Nat) : Num :=
  let m := v % 2 ^ f.mbits
  let e := (v >>> f.mbits) % 2 ^ f.ebits
  let neg := v.testBit (f.ebits + f.mbits)
  let top := 2 ^ f.ebits - 1
  if f.spec = .ieee ∧ e = top then (if m = 0 then .inf neg else .nan)
  else if f.spec = .nanOnly ∧ e = top ∧ m = 2 ^ f.mbits - 1 then .nan
  else if e = 0 then .fin neg m (1 - (f.bias : Int) - f.mbits)
  else .fin neg (2 ^ f.mbits + m) ((e : Int) - f.bias - f.mbits)

/-- An integer as a value, times 2^e. -/
def numOfInt (i : Int) (e : Int) : Num := .fin (decide (i < 0)) i.natAbs e

/-- The value of an element by its code; in MXINT8 the integer counts 2^-6 (R23). -/
def decodeElem (code : Nat) (mx : Bool) (v : Nat) : Num :=
  match ffmt code with
  | some f => decodeF f v
  | none =>
    if code = 0 then numOfInt (signedN 8 v) (if mx then -6 else 0)
    else numOfInt (signedN 32 v) 0

/-- FP32 bits read as a value. -/
def decodeF32 (v : Nat) : Num := decodeElem 7 false v

/-- The value times 2^k. -/
def Num.scale (k : Int) : Num → Num
  | .fin n m e => .fin n m (e + k)
  | x => x

/-- Sign changed. -/
def Num.neg : Num → Num
  | .fin n m e => .fin (!n) m e
  | .inf n => .inf (!n)
  | .nan => .nan

/-- Sign cleared. -/
def Num.abs : Num → Num
  | .fin _ m e => .fin false m e
  | .inf _ => .inf false
  | .nan => .nan

/-- The signed integer of a finite value at exponent e, which is not above the value's own. -/
def intAt (n : Bool) (m : Nat) (e0 e : Int) : Int :=
  let k : Int := (m <<< (e0 - e).toNat : Nat)
  if n then -k else k

/-- Exact product: IEEE 754 signs; 0 × ∞ is NaN. -/
def Num.mul : Num → Num → Num
  | .nan, _ => .nan
  | _, .nan => .nan
  | .inf a, .inf b => .inf (a != b)
  | .inf a, .fin b m _ => if m = 0 then .nan else .inf (a != b)
  | .fin a m _, .inf b => if m = 0 then .nan else .inf (a != b)
  | .fin a m e, .fin b k g => .fin (a != b) (m * k) (e + g)

/-- Exact sum: IEEE 754; ∞ − ∞ is NaN and an exact zero sum of unlike signs is +0. -/
def Num.add : Num → Num → Num
  | .nan, _ => .nan
  | _, .nan => .nan
  | .inf a, .inf b => if a = b then .inf a else .nan
  | .inf a, .fin _ _ _ => .inf a
  | .fin _ _ _, .inf b => .inf b
  | .fin a m e, .fin b k g =>
    if m = 0 ∧ k = 0 then .fin (a && b) 0 0
    else
      let l := min e g
      let s := intAt a m e l + intAt b k g l
      .fin (decide (s < 0)) s.natAbs l

/-- a < b on finite values and infinities; NaN compares with nothing and zeros are equal. -/
def Num.lt : Num → Num → Bool
  | .nan, _ => false
  | _, .nan => false
  | .inf a, .inf b => a && !b
  | .inf a, .fin _ _ _ => a
  | .fin _ _ _, .inf b => !b
  | .fin a m e, .fin b k g => decide (intAt a m e (min e g) < intAt b k g (min e g))

/-- a = b on finite values and infinities. -/
def Num.eq : Num → Num → Bool
  | .nan, _ => false
  | _, .nan => false
  | .inf a, .inf b => a == b
  | .fin a m e, .fin b k g => decide (intAt a m e (min e g) = intAt b k g (min e g))
  | _, _ => false

/-- NaN test. -/
def Num.isNan : Num → Bool
  | .nan => true
  | _ => false

/-- Zero test. -/
def Num.isZero : Num → Bool
  | .fin _ m _ => m == 0
  | _ => false

/-- Sign of a value; NaN has none. -/
def Num.isNeg : Num → Bool
  | .fin n _ _ => n
  | .inf n => n
  | .nan => false

/-- A magnitude mag × 2^e (with `sticky`: something nonzero below it) rounded to a count of units 2^q, and
whether it was inexact (R39, R47). -/
def roundMag (rnd : Rnd) (r : Nat) (mag : Nat) (e : Int) (sticky : Bool) (q : Int) : Nat × Bool :=
  if q ≤ e then (mag <<< (e - q).toNat, sticky)
  else
    let sh := (q - e).toNat
    let kept := mag >>> sh
    let rem := mag % 2 ^ sh
    let inexact := decide (rem ≠ 0) || sticky
    let half := 2 ^ (sh - 1)
    let up : Bool := match rnd with
      | .rne => decide (half < rem) || (decide (rem = half) && (sticky || decide (kept % 2 = 1)))
      | .rtz => false
      | .sr => decide (r < (rem <<< 32) >>> sh)
    (kept + b2n up, inexact)

/-- The largest finite code of a floating-point format, sign aside (R19). -/
def FFmt.maxCode (f : FFmt) : Nat :=
  match f.spec with
  | .none => 2 ^ (f.ebits + f.mbits) - 1
  | .nanOnly => 2 ^ (f.ebits + f.mbits) - 2
  | .ieee => (2 ^ f.ebits - 1) * 2 ^ f.mbits - 1

/-- The code of infinity in a format that has one. -/
def FFmt.infCode (f : FFmt) : Nat := (2 ^ f.ebits - 1) * 2 ^ f.mbits

/-- The canonical NaN (R43): the quiet NaN of FP32 and BF16, the all-ones code of E4M3 and E5M2; the formats without a NaN give zero. -/
def FFmt.nanCode (f : FFmt) : Nat :=
  match f.spec with
  | .ieee => f.infCode + (if f.mbits = 2 then 3 else 2 ^ (f.mbits - 1))
  | .nanOnly => 2 ^ (f.ebits + f.mbits) - 1
  | .none => 0

/-- The sign bit of a format in place. -/
def FFmt.signBit (f : FFmt) (neg : Bool) : Nat := if neg then 2 ^ (f.ebits + f.mbits) else 0

/-- What an overflow delivers in a floating-point format (R42, R46). -/
def overflowF (f : FFmt) (rnd : Rnd) (sat neg : Bool) : Nat :=
  if sat ∨ rnd = .rtz ∨ f.spec = .none then f.signBit neg + f.maxCode
  else if f.spec = .nanOnly then f.nanCode
  else f.signBit neg + f.infCode

/-- A finite value rounded to a floating-point format (R42 to R44, R47). -/
def roundF (f : FFmt) (rnd : Rnd) (r : Nat) (sat : Bool) (neg : Bool) (mag : Nat) (e : Int) (sticky : Bool) :
    Nat × Flags :=
  if mag = 0 then (f.signBit neg, Flags.zero)
  else
    let emin : Int := 1 - (f.bias : Int)
    let eb : Int := max (e + (Nat.log2 mag : Int)) emin
    let (kept, inexact) := roundMag rnd r mag e sticky (eb - f.mbits)
    let code := (eb - emin).toNat * 2 ^ f.mbits + kept
    if f.maxCode < code then (overflowF f rnd sat neg, { Flags.zero with overflow := true })
    else (f.signBit neg + code, { Flags.zero with underflow := inexact && decide (code < 2 ^ f.mbits) })

/-- A value rounded to an integer of w bits counting 2^lsb, saturated in every mode (R42, R46). A magnitude above the largest
finite number of R19 is an overflow on either side, so exactly −2^(w−1) sets OVERFLOW and is delivered as it is (DEDUCED,
notes/assumptions/10.md). -/
def roundI (w : Nat) (lsb : Int) (rnd : Rnd) (r : Nat) : Bool → Nat → Int → Bool → Nat × Flags
  | neg, mag, e, sticky =>
    let (k, _) := roundMag rnd r mag e sticky lsb
    let lim := 2 ^ (w - 1)
    if neg then
      (if lim ≤ k then (lim, { Flags.zero with overflow := true }) else (wrapN w (-(k : Int)), Flags.zero))
    else (if lim ≤ k then (lim - 1, { Flags.zero with overflow := true }) else (k, Flags.zero))

/-- A value rounded once to the format of an element code, with the flags it sets (R40 to R44). -/
def roundSticky (code : Nat) (mx : Bool) (rnd : Rnd) (r : Nat) (sat : Bool) (sticky : Bool) (x : Num) : Nat × Flags :=
  match ffmt code with
  | some f =>
    match x with
    | .nan => (f.nanCode, { Flags.zero with invalid := true })
    | .inf n =>
      if f.spec = .ieee then
        (f.signBit n + (if sat then f.maxCode else f.infCode), Flags.zero)
      else if f.spec = .nanOnly ∧ sat = false then (f.nanCode, { Flags.zero with overflow := true })
      else (f.signBit n + f.maxCode, { Flags.zero with overflow := true })
    | .fin n m e => roundF f rnd r sat n m e sticky
  | none =>
    let w := if code = 0 then 8 else 32
    let lsb : Int := if code = 0 ∧ mx then -6 else 0
    match x with
    | .nan => (if code = 0 then 0 else 2 ^ 31, { Flags.zero with invalid := true })
    | .inf n => ((if n then 2 ^ (w - 1) else 2 ^ (w - 1) - 1), { Flags.zero with overflow := true })
    | .fin n m e => roundI w lsb rnd r n m e sticky

/-- An exact value rounded once (R40). -/
def roundTo (code : Nat) (mx : Bool) (rnd : Rnd) (r : Nat) (sat : Bool) (x : Num) : Nat × Flags :=
  roundSticky code mx rnd r sat false x

/-- Round to FP32, to nearest even: the vector unit's and row engine's own rounding (spec/03 R96). -/
def rne32 (x : Num) : Nat := (roundTo 7 false .rne 0 false x).1

/-! ## MX blocks -/

/-- The largest normal exponent of an MX element (R45). -/
def mxEmax : Nat → Int
  | 1 => 8
  | 2 => 15
  | 3 => 4
  | 4 => 2
  | 5 => 2
  | _ => 0

/-- Largest of the finite magnitudes as a value (mag, exp); (0, 0) when there is none. -/
def amaxOf : List Num → Nat × Int
  | [] => (0, 0)
  | .fin _ m e :: xs =>
    let (k, g) := amaxOf xs
    if Num.lt (.fin false k g) (.fin false m e) then (m, e) else (k, g)
  | _ :: xs => amaxOf xs

/-- amax / 2^x exceeds the largest element after the rounding of the mode in force; under SR it is rounded
away from zero (R45). -/
def mxTooBig (code : Nat) (rnd : Rnd) (m : Nat) (e : Int) : Bool :=
  match ffmt code with
  | some f =>
    let emin : Int := 1 - (f.bias : Int)
    let eb : Int := max (e + (Nat.log2 m : Int)) emin
    let (k, inx) := roundMag (if rnd = .rne then .rne else .rtz) 0 m e false (eb - f.mbits)
    let k := if rnd = .sr ∧ inx then k + 1 else k
    decide (f.maxCode < (eb - emin).toNat * 2 ^ f.mbits + k)
  | none =>
    let (k, inx) := roundMag (if rnd = .rne then .rne else .rtz) 0 m e false (-6)
    let k := if rnd = .sr ∧ inx then k + 1 else k
    decide (127 < k)

/-- The block scale exponent of R45. -/
def chooseScale (code : Nat) (rnd : Rnd) (vs : List Num) : Int :=
  let (m, e) := amaxOf vs
  if m = 0 then -127
  else
    let x := e + (Nat.log2 m : Int) - mxEmax code
    let x := if mxTooBig code rnd m (e - x) then x + 1 else x
    min (max x (-127)) 127

/-- One MX block: scale byte, element codes and flags (R45, R46). `rs` gives each element's random number. -/
def mxBlock (code : Nat) (rnd : Rnd) (sat : Bool) (vs : List Num) (rs : List Nat) : Nat × List Nat × Flags :=
  if vs.any Num.isNan then (0xFF, vs.map (fun _ => 0), { Flags.zero with invalid := true })
  else
    let x := chooseScale code rnd vs
    let one (p : Num × Nat) : Nat × Flags :=
      match p.1 with
      | .inf n =>
        if code = 2 then (if n then 0xFC else 0x7C, Flags.zero)
        else roundTo code true rnd p.2 sat p.1
      | v => roundTo code true rnd p.2 sat (v.scale (-x))
    let es := (vs.zip rs).map one
    ((x + 127).toNat, es.map Prod.fst, es.foldl (fun a e => a.or e.2) Flags.zero)

/-- The exponent of an E8M0 scale byte; none for NaN (R22). -/
def scaleExp (x : Nat) : Option Int := if x % 256 = 255 then none else some ((x % 256 : Nat) - 127)

/-! ## Stochastic rounding -/

/-- The 64-bit mixing function of R48. -/
def mix (x : Word) : Word :=
  let x := x ^^^ (x >>> 31)
  let x := x * 0xA3C59AC32F1B6E57
  let x := x ^^^ (x >>> 29)
  let x := x * 0x8E4F2C1B95D73A69
  x ^^^ (x >>> 32)

/-- The random number of an output element: 32 bits from the seed, tensor number, logical row and column (R48). -/
def srand (seed : Word) (t m n : Nat) : Nat :=
  let x := mix (seed ^^^ (BitVec.ofNat 64 (t % 2 ^ 16) <<< 48))
  let x := mix (x ^^^ BitVec.ofNat 64 (m % 2 ^ 32))
  let x := mix (x ^^^ BitVec.ofNat 64 (n % 2 ^ 32))
  (x >>> 32).toNat

/-! ## The drain window -/

/-- A window accumulator (R31). `anchor` is none until a nonzero term arrives. -/
structure Window where
  w      : BitVec 256
  anchor : Option Int
  n      : Nat
  loss   : Bool
  nan    : Bool
  pinf   : Bool
  ninf   : Bool
  deriving DecidableEq, Repr

/-- An empty window (R31). -/
def Window.empty : Window := ⟨0, none, 0, false, false, false, false⟩

/-- The most terms a window accepts (R34). -/
def windowMaxTerms : Nat := 2 ^ 26

/-- Add a term P × 2^T to a window (R32). Loss is set when nonzero bits are discarded, as R32 and R49 say; the last sentence of
R33 alone would set it for any spread above 160 binades (DESIGN CHOICE, notes/assumptions/90.md). -/
def Window.addTerm (u : Window) (p : Int) (t : Int) : Window :=
  let u := { u with n := u.n + 1 }
  if p = 0 then u
  else
    match u.anchor with
    | none => { u with anchor := some t, w := BitVec.ofInt 256 (p * 2 ^ 160) }
    | some a =>
      if a < t then
        let k := (t - a).toNat
        { u with
          loss := u.loss || decide (u.w.toNat % 2 ^ k ≠ 0)
          anchor := some t
          w := u.w.sshiftRight k + BitVec.ofInt 256 (p * 2 ^ 160) }
      else
        let s : Int := 160 - (a - t)
        if 0 ≤ s then { u with w := u.w + BitVec.ofInt 256 (p * 2 ^ s.toNat) }
        else
          { u with
            loss := u.loss || decide (p % (2 : Int) ^ (-s).toNat ≠ 0)
            w := u.w + BitVec.ofInt 256 (p / (2 : Int) ^ (-s).toNat) }

/-- A half-sum: P, T, the bits lost of a BF16 alignment, and the special bits (R26 to R30). `raw`: the integer of the column
path before a special bit makes P zero, which the tile checks compare (R82, R83); `eref`: e_ref of a BF16 half-sum (R29). -/
structure HalfSum where
  p    : Int
  t    : Int
  lost : Bool
  nan  : Bool
  pinf : Bool
  ninf : Bool
  raw  : Int
  eref : Option Int
  deriving DecidableEq, Repr

/-- A half-sum enters a window; none when the term limit of R34 would be passed. -/
def Window.addHalf (u : Window) (h : HalfSum) : Option Window :=
  if windowMaxTerms ≤ u.n then none
  else
    let v := u.addTerm h.p h.t
    some { v with
      loss := v.loss || h.lost, nan := v.nan || h.nan, pinf := v.pinf || h.pinf, ninf := v.ninf || h.ninf }

/-- An addend enters a window as one term (R35). -/
def Window.addNum (u : Window) (x : Num) : Option Window :=
  if windowMaxTerms ≤ u.n then none
  else match x with
    | .nan => some { u.addTerm 0 0 with nan := true }
    | .inf n => some (if n then { u.addTerm 0 0 with ninf := true } else { u.addTerm 0 0 with pinf := true })
    | .fin n m e => some (u.addTerm (if n then -(m : Int) else m) e)

/-- Merge a partial into a window (R37). -/
def Window.merge (u v : Window) : Option Window :=
  if windowMaxTerms < u.n + v.n then none
  else
    let base : Window :=
      { u with n := u.n + v.n, loss := u.loss || v.loss, nan := u.nan || v.nan,
               pinf := u.pinf || v.pinf, ninf := u.ninf || v.ninf }
    match u.anchor, v.anchor with
    | _, none => some base
    | none, some b => some { base with anchor := some b, w := v.w }
    | some a, some b =>
      if a < b then
        let k := (b - a).toNat
        some { base with anchor := some b, w := u.w.sshiftRight k + v.w,
                         loss := base.loss || decide (u.w.toNat % 2 ^ k ≠ 0) }
      else
        let k := (a - b).toNat
        some { base with w := u.w + v.w.sshiftRight k,
                         loss := base.loss || decide (v.w.toNat % 2 ^ k ≠ 0) }

/-- The value of a window before rounding (R31, R41). -/
def Window.value (u : Window) : Num :=
  if u.nan || (u.pinf && u.ninf) then .nan
  else if u.pinf then .inf false
  else if u.ninf then .inf true
  else
    let i := u.w.toInt
    if i = 0 then .fin false 0 0
    else .fin (decide (i < 0)) i.natAbs (u.anchor.getD 0 - 160)

/-- A window exported as the 64 B record of R36. An anchor outside the signed 16 bits of the record wraps (DESIGN CHOICE,
notes/assumptions/90.md). -/
def Window.toBytes (u : Window) : Bytes :=
  let flags := b2n u.anchor.isNone + 2 * b2n u.loss + 4 * b2n u.nan + 8 * b2n u.pinf + 16 * b2n u.ninf
  leBytes 32 u.w.toNat ++ leBytes 2 (wrapN 16 (u.anchor.getD 0)) ++ leBytes 4 (u.n % 2 ^ 27)
    ++ leBytes 1 flags ++ leBytes 25 0

/-- A window read from its 64 B record (R36). -/
def Window.ofBytes (bs : Bytes) : Window :=
  let flags := leAt bs 38 1
  { w := if flags.testBit 0 then 0 else BitVec.ofNat 256 (leAt bs 0 32)
    anchor := if flags.testBit 0 then none else some (signedN 16 (leAt bs 32 2))
    n := leAt bs 34 4 % 2 ^ 27
    loss := flags.testBit 1
    nan := flags.testBit 2
    pinf := flags.testBit 3
    ninf := flags.testBit 4 }

/-! ## The column path -/

/-- The special bits that one product of operands reports (R30). -/
def prodSpecial (a b : Num) : Bool × Bool × Bool :=
  match Num.mul a b with
  | .nan => (true, false, false)
  | .inf n => (false, !n, n)
  | .fin _ _ _ => (false, false, false)

/-- The exact sum of the finite products at the least significant bit 2^-32 (R27). -/
def sumProducts (lsb : Int) : List (Num × Num) → Int
  | [] => 0
  | (a, b) :: ps =>
    (match Num.mul a b with
     | .fin n m e => intAt n m e lsb
     | _ => 0) + sumProducts lsb ps

/-- The product exponent of R29: the sum of the operands' unbiased exponents; the operand's significand has
7 fraction bits, so its exponent is that of its lowest bit plus 7. None for a zero or special product. -/
def prodExp (a b : Num) : Option Int :=
  match a, b with
  | .fin _ m e, .fin _ k g => if m = 0 ∨ k = 0 then none else some (e + 7 + (g + 7))
  | _, _ => none

/-- The largest product exponent of a half-sum (R29). -/
def eRef : List (Num × Num) → Option Int
  | [] => none
  | (a, b) :: ps =>
    match prodExp a b, eRef ps with
    | some x, some y => some (max x y)
    | some x, none => some x
    | none, r => r

/-- BF16 products aligned at a least significant bit, lower bits discarded toward minus infinity (R29). -/
def sumAligned (lsb : Int) : List (Num × Num) → Int × Bool
  | [] => (0, false)
  | (a, b) :: ps =>
    let (s, l) := sumAligned lsb ps
    match Num.mul a b with
    | .fin n m e =>
      if lsb ≤ e then (s + intAt n m e lsb, l)
      else
        let i : Int := if n then -(m : Int) else m
        let k := (2 : Int) ^ (lsb - e).toNat
        (s + i / k, l || decide (i % k ≠ 0))
    | _ => (s, l)

/-- One half-sum over operand pairs (R26 to R30). sa, sb: block scale exponents, none for a NaN scale, under which every element
reads as NaN and no product is an infinity (R22). P is zero whenever a special bit is reported (R30). -/
def halfSum (bf16 : Bool) (sa sb : Option Int) (g : Int) (ps : List (Num × Num)) : HalfSum :=
  let noScale := sa.isNone || sb.isNone
  let sp := if noScale then [] else ps.map (fun q => prodSpecial q.1 q.2)
  let nan := noScale || sp.any (fun x => x.1)
  let pinf := sp.any (fun x => x.2.1)
  let ninf := sp.any (fun x => x.2.2)
  let quiet := !(nan || pinf || ninf)
  let er := if bf16 then eRef ps else none
  let (raw, l) := if bf16 then sumAligned (er.getD 0 - 62) ps else (sumProducts (-32) ps, false)
  let t := if bf16 then er.getD 0 - 62 + g else sa.getD 0 + sb.getD 0 + g - 32
  ⟨if quiet then raw else 0, t, quiet && l, nan, pinf, ninf, raw, er⟩

/-- Operand pairs that an array product permits (R25). -/
def pairOk (a w : Nat) : Bool :=
  fmtOk a && fmtOk w && decide (fmtCode a ≤ 6) && decide (fmtCode w ≤ 6) &&
  (if fmtCode a = 0 ∨ fmtCode w = 0 then decide (a = w)
   else if fmtCode a = 6 ∨ fmtCode w = 6 then decide (a = w) else true)

/-- Output formats that a product permits (R38). -/
def outOk (o a w : Nat) : Bool :=
  fmtOk o && (fmtMx o || decide (fmtCode o = 1) || decide (fmtCode o = 2) || decide (fmtCode o = 6) ||
    decide (fmtCode o = 7) || (decide (fmtCode o = 8) && decide (a = 0) && decide (w = 0)))

end Sys2Proof.Machine
end

