-- ==== Sys2Proof/Machine/Tab.lean ====
section
/-! DEFINITION. Sparse tables in one canonical form: a list of key and value pairs, keys strictly rising,
no entry equal to what an unlisted key reads as. Memory, the register store and every per-unit table of
the machine are such tables, so that equal tables are equal data. -/

namespace Sys2Proof.Machine

/-- A sparse table: pairs of a key and a value. -/
abbrev Tab (α : Type) := List (Nat × α)

/-- The value at a key; d gives what an unlisted key reads as. -/
def tget {α : Type} (d : Nat → α) : Tab α → Nat → α
  | [], k => d k
  | (a, x) :: m, k => if a = k then x else tget d m k

/-- The entry of a key put in its place. -/
def tput {α : Type} : Tab α → Nat → α → Tab α
  | [], k, v => [(k, v)]
  | (a, x) :: m, k, v => if k < a then (k, v) :: (a, x) :: m else if k = a then (k, v) :: m else (a, x) :: tput m k v

/-- The table without the entries of a key. -/
def tdel {α : Type} (m : Tab α) (k : Nat) : Tab α := m.filter (fun e => decide (e.1 ≠ k))

/-- The table with a key set to a value, in canonical form: the default value has no entry. -/
def tset {α : Type} [DecidableEq α] (d : Nat → α) (m : Tab α) (k : Nat) (v : α) : Tab α :=
  if v = d k then tdel m k else tput (tdel m k) k v

/-- A value changed in place. -/
def tmod {α : Type} [DecidableEq α] (d : Nat → α) (m : Tab α) (k : Nat) (f : α → α) : Tab α :=
  tset d m k (f (tget d m k))

/-- The canonical form: keys above lo strictly rising, no entry equal to the default. -/
def twfFrom {α : Type} [DecidableEq α] (d : Nat → α) (lo : Nat) : Tab α → Bool
  | [] => true
  | (a, x) :: m => decide (lo ≤ a) && (decide (x ≠ d a) && twfFrom d (a + 1) m)

/-- The canonical form of a table. -/
def twf {α : Type} [DecidableEq α] (d : Nat → α) (m : Tab α) : Bool := twfFrom d 0 m

/-- The table with every key in a set dropped back to its default. -/
def tdrop {α : Type} (p : Nat → Bool) (m : Tab α) : Tab α := m.filter (fun e => !p e.1)

/-- Values at n consecutive keys from k. -/
def tread {α : Type} (d : Nat → α) (m : Tab α) (k : Nat) : Nat → List α
  | 0 => []
  | n + 1 => tget d m k :: tread d m (k + 1) n

/-- A list of values stored at consecutive keys from k. -/
def twrite {α : Type} [DecidableEq α] (d : Nat → α) (m : Tab α) (k : Nat) : List α → Tab α
  | [] => m
  | v :: vs => twrite d (tset d m k v) (k + 1) vs

/-- A byte that nothing has written reads zero (DESIGN CHOICE, notes/assumptions/2.md). -/
def zeroByte : Nat → Byte := fun _ => 0

end Sys2Proof.Machine
end

