-- ==== Sys2Proof/Machine/CoreTypes.lean ====
section
/-! DEFINITION. The state of one logical core: its tasks, arrays, drains, row engine, scratchpad regions,
lattice switch, queue store and DMA engine (spec/02 to spec/08). Plain data; every unlisted entry of a table
reads as the default given beside it. -/

namespace Sys2Proof.Machine

/-! ## Tasks (spec/04) -/

/-- Task slot states (spec/04 R150), in the order of SEQ_TSTATt.STATE. -/
inductive Phase | empty | loading | running | waiting | draining | suspended
  deriving DecidableEq, Repr

/-- Why a task is frozen: for a recovery, or for a migration (spec/04 R152). -/
inductive Freeze | recovery | migration
  deriving DecidableEq, Repr

/-- What a waiting task waits on (spec/04 R150, R153): the instruction, which WAIT_CONDITION_MET tries again, a
stage of it already done, and a value kept from issue. -/
structure WaitRec where
  opc     : Nat
  f       : InsnBits
  stage   : Nat
  keep    : Nat
  operand : Nat
  sealed  : Bool
  since   : Nat
  deriving DecidableEq, Repr

/-- A base/bound pair of a task (spec/05 R172). -/
structure Pair where
  valid : Bool
  base  : Nat
  size  : Nat
  deriving DecidableEq, Repr

/-- No pair. -/
def Pair.zero : Pair := ⟨false, 0, 0⟩

/-- A placed region of a task (spec/04 region entry, spec/05 R171). -/
structure Region where
  kind  : Nat
  index : Nat
  base  : Nat
  size  : Nat
  scrub : Bool
  init  : Option Nat
  deriving DecidableEq, Repr

/-- An ember point of the task image (spec/04). -/
structure EmberPoint where
  point : Nat
  pc    : Nat
  live  : Nat
  pairs : Nat
  deriving DecidableEq, Repr

/-- A producer epoch (spec/12 R384), with what a dependency carries (R385, R398). -/
structure EpochRef where
  key   : ProdKey
  epoch : BitVec 32
  depth : Nat
  deriving DecidableEq, Repr

/-- One target of a send in flight (spec/07 R225, R235): its index in the list, and its result when it returned. -/
structure SendTarget where
  idx    : Nat
  core   : Nat
  q      : Nat
  result : Option Word
  deriving DecidableEq, Repr

/-- A send in flight on a channel (spec/07 R225 to R227, R235); `unit`: a unit sends it (R242); `pc`: that of the instruction that
started it (spec/04 R155). -/
structure SendRec where
  unit    : Option SendUnit
  chan    : Nat
  seq     : BitVec 16
  dst     : Option Nat
  multi   : Bool
  opc     : Nat
  since   : Nat
  targets : List SendTarget
  pc      : Nat
  deriving DecidableEq, Repr

/-- What the image header and resource block of a resident task give (spec/04 R148). -/
structure ImageInfo where
  addr     : Nat
  scrubAll : Bool
  lattice  : Bool
  length   : Nat
  codeLen  : Nat
  entry    : Nat
  waitUs   : Nat
  arrays   : Nat
  sheaves  : Nat
  cfgSlots : Nat
  evc      : Nat
  statBase : Nat
  statCount : Nat
  queues   : Nat
  codeBase : Nat
  embers   : List EmberPoint
  regions  : List Region
  deriving DecidableEq, Repr

/-- No image. -/
def ImageInfo.zero : ImageInfo :=
  ⟨0, false, false, 0, 0, 0, 0, 0, 0, 0, 0, 0, 0, 0, 0, [], []⟩

/-- One task slot (spec/04 R128, R150, R154; spec/07 R225). `emberAt`, `emberSeq`, `emberHalf`: when it started or last wrote a
checkpoint, checkpoints written, and the half of the newest valid one (spec/13 R435, R436). `holdAt`: when HOLD
was last set for it (SEQ_CTRL). -/
structure Task where
  phase    : Phase
  reserved : Bool
  killed   : Bool
  freeze   : Option Freeze
  scrubbing : Bool
  pc       : Nat
  g        : Tab Word
  a        : Tab Word
  k        : Tab (BitVec 32)
  p        : BitVec 8
  pending  : List Nat
  wait     : Option WaitRec
  endValid : Bool
  endSet   : Bool
  endCode  : Nat
  async    : Bool
  detail   : Word
  lastWord : Word
  img      : ImageInfo
  arg      : Word
  tag      : BitVec 32
  number   : BitVec 32
  spadBase : Nat
  pairs    : Tab Pair
  next     : Tab (BitVec 16)
  pendBits : BitVec 16
  sends    : List SendRec
  mclog    : BitVec 256
  deps     : List EpochRef
  nonrep   : Bool
  emberAt   : Nat
  emberSeq  : Nat
  emberHalf : Option Nat
  holdAt   : Nat
  deriving DecidableEq, Repr

/-- An empty slot: every register zero. -/
def Task.zero : Task :=
  { phase := .empty, reserved := false, killed := false, freeze := .none, scrubbing := false, pc := 0
    g := [], a := [], k := [], p := 0, pending := [], wait := .none
    endValid := false, endSet := false, endCode := 0, async := false, detail := 0, lastWord := 0
    img := .zero, arg := 0, tag := 0, number := 0, spadBase := 0, pairs := [], next := [], pendBits := 0
    sends := [], mclog := 0, deps := [], nonrep := false, emberAt := 0, emberSeq := 0, emberHalf := .none, holdAt := 0 }

/-! ## Arrays and drains (spec/02) -/

/-- A weight bank as loaded: form, turn, format, element codes and scale bytes by (K position, core column), and the checksum
column's weights (R66 to R68, R81). -/
structure Bank where
  meadow : Bool
  trans  : Bool
  fmt    : Nat
  elems  : Tab Nat
  scales : Tab Nat
  checks : Tab Num
  deriving DecidableEq, Repr

/-- A weight load under way (R68). -/
structure LoadReq where
  task   : Nat
  pc     : Nat
  src    : Nat
  scales : Nat
  stride : Nat
  fmt    : Nat
  meadow : Bool
  trans  : Bool
  deriving DecidableEq, Repr

/-- Shadow bank states (R69). -/
inductive Shadow
  | empty
  | loading (r : LoadReq)
  | ready (b : Bank)
  deriving DecidableEq, Repr

/-- One matrix array: its active bank, none when invalid (R70), its shadow bank, the column under a diagnostic pass, and
column, row and time of the last fault that a pass located (R89). -/
structure ArraySt where
  active : Option Bank
  shadow : Shadow
  diag   : Option Nat
  located : Option (Nat × Nat × Nat)
  deriving DecidableEq, Repr

/-- An array after reset: both banks invalid. -/
def ArraySt.zero : ArraySt := ⟨.none, .empty, .none, .none⟩

/-- A stream queued or running on the arrays of a mask (R61, R65, R72; STREAM block of spec/04). -/
structure Stream where
  id      : Nat
  task    : Nat
  pc      : Nat
  mask    : Nat
  src     : Nat
  scales  : Nat
  stride  : Nat
  rows    : Nat
  fmt     : Nat
  source  : Nat
  queue   : Nat
  swap    : Bool
  final   : Bool
  first   : Bool
  m0      : Nat
  n0      : Nat
  epoch   : Nat
  started : Bool
  next    : Nat
  poison  : Bool
  tokens  : List Token
  sealEp  : Option (BitVec 32)
  deriving DecidableEq, Repr

/-- The output row that half-sums belong to: its stream and row there, the task and PC of the STREAM, the coordinates of
R48, the form, and the output window when the stream is FINAL. -/
structure RowId where
  stream : Nat
  row    : Nat
  task   : Nat
  pc     : Nat
  m      : Nat
  n0     : Nat
  meadow : Bool
  epoch  : Option (BitVec 32)
  deriving DecidableEq, Repr

/-- The half-sums of one activation row that left a column path: output column and half-sum (R71). -/
structure HalfRow where
  id    : RowId
  final : Bool
  sums  : List (Nat × HalfSum)
  deriving DecidableEq, Repr

/-- 64 completed windows of a row that wait for rounding: the first column and the windows (R72). -/
structure RoundReq where
  id   : RowId
  col  : Nat
  cols : List Window
  deriving DecidableEq, Repr

/-- What DSET gives a drain beyond its registers (spec/04 DSET block). -/
structure DrainSet where
  task      : Nat
  out       : Nat
  outKind   : Nat
  link      : Nat
  outStride : Nat
  addCol    : Nat
  addElem   : Nat
  addStride : Nat
  pre       : Nat
  outScales : Nat
  target    : Word
  deriving DecidableEq, Repr

/-- No DSET given. -/
def DrainSet.zero : DrainSet := ⟨0, 0, 0, 0, 0, 0, 0, 0, 0, 0, 0⟩

/-- A message that a sending unit holds until its reply returns, with its place in the order of spec/06 R189 and, once refused, the time at which
its back-off ends at the earliest (spec/07 R241, R242). -/
structure UnitMsg where
  task    : Nat
  pc      : Nat
  target  : Word
  payload : Bytes
  type    : MsgType
  lane    : Nat
  epoch   : BitVec 32
  order   : Nat
  flying  : Bool
  backoff : Option Nat
  deriving DecidableEq, Repr

/-- A check tile (R82 to R84, R88): the stream and its first row in it, the output window when the stream is FINAL, form, class
(BF16 tiles are BOUNDED), rows so far; the check former's sums by K position and the sums of the half-sums by column and half, modulo
255 or exact for BF16, with the largest e_ref; rows that fail the column check and the first of them with its half, columns and halves
that fail the row check, and whether the duplicate comparison failed or a poisoned token entered. -/
structure CheckTile where
  stream : Nat
  epoch  : Option (BitVec 32)
  meadow : Bool
  bf16   : Bool
  first  : Nat
  rows   : Nat
  acts   : List Num
  sums   : List Num
  emax   : Option Int
  rowsFail : Nat
  firstFail : Option (Nat × Nat)
  colsFail : List (Nat × Nat)
  dupFail : Bool
  poison : Bool
  deriving DecidableEq, Repr

/-- One drain (R71 to R75). `red`: ROWS of the reduction open in it, from FIRST to FINAL; `tileFail`, `tileBounded`: what
the check tiles of that reduction have shown so far (R86, R87); `tile`: the check tile in formation; `tiles`: those that ended and
whose result is not yet out, oldest first. -/
structure Drain where
  set       : DrainSet
  red       : Option Nat
  windows   : Tab Window
  halfs     : List HalfRow
  rounds    : List RoundReq
  tileFail  : Bool
  tileBounded : Bool
  tile      : Option CheckTile
  tiles     : List CheckTile
  outbox    : List UnitMsg
  deriving DecidableEq, Repr

/-- A drain after reset: no reduction open, no window in use. -/
def Drain.zero : Drain := ⟨.zero, .none, [], [], [], false, false, .none, [], []⟩

/-! ## Row engine (spec/03) -/

/-- A row engine operation accepted and not yet complete (R100): its block, the next row, how far its partial records have
been read, its dγ and dβ windows, and the place of the free value that it draws (R107). -/
structure RowOp where
  task   : Nat
  pc     : Nat
  op     : Nat
  blk    : Bytes
  next   : Nat
  cursor : Nat
  gamma  : Tab Window
  beta   : Tab Window
  sealEp : BitVec 32
  draw   : Nat
  deriving DecidableEq, Repr

/-! ## Scratchpad (spec/05) -/

/-- A circular region (R173). -/
structure Circ where
  valid : Bool
  owner : Nat
  sizeLog2 : Nat
  base  : Nat
  head  : Nat
  tail  : Nat
  deriving DecidableEq, Repr

/-- No region. -/
def Circ.zero : Circ := ⟨false, 0, 0, 0, 0, 0⟩

/-- The gather buffer: one line, whether it was loaded, and the bytes written to it (R167). -/
structure Gather where
  line  : Nat
  loaded : Bool
  bytes : Tab (Option Byte)
  deriving DecidableEq, Repr

/-! ## Lattice (spec/06) -/

/-- A token or marker in a queue: a marker carries the epoch it introduces, and POISON when it was found uncorrectable (R187, R190, R205). -/
inductive LatItem
  | data (t : Token)
  | marker (epoch : Nat) (poison : Bool)
  deriving DecidableEq, Repr

/-- Where a program stands: entry index, tokens handled of the present RUN, passes done of each LOOP by its index;
none when the link idles (R201). -/
structure Prog where
  at_   : Option Nat
  done  : Nat
  loops : Tab Nat
  deriving DecidableEq, Repr

/-- An idle program. -/
def Prog.idle : Prog := ⟨.none, 0, []⟩

/-- A switch that an output link has still to make (R207): the inputs whose markers it awaits, whether it sends a marker downstream then, and
the epoch and schedule that it passes to. -/
structure OutSwitch where
  awaited : List Nat
  send    : Bool
  epoch   : Nat
  sched   : Option Bytes
  deriving DecidableEq, Repr

/-- One lattice link of a core, both directions (R197, R206, R207). `inSched`, `outSched`: the schedule image that the
dispatch and the select program run from. `owed`: destinations that the head token has
still to reach; `pend`: switches that the output link has still to make, oldest first; `out`: its output register, of one entry; `sent`:
DATA tokens sent, `received`: DATA tokens that arrived; `sc`: the sealed count of the far end's lane (spec/12 R403). -/
structure Link where
  inEpoch  : Option Nat
  inSched  : Option Bytes
  queue    : List LatItem
  owed     : Option (List Nat)
  inProg   : Prog
  granted  : Nat
  base     : Nat
  hwm      : Nat
  outSched : Option Bytes
  outProg  : Prog
  pend     : List OutSwitch
  out      : List LatItem
  sent     : Nat
  received : Nat
  sc       : Nat
  retract  : Bool
  outSeals : List (Option (BitVec 32) × Option (Nat × Nat))
  outSc    : Nat
  deriving DecidableEq, Repr

/-- A link with no epoch and nothing queued. -/
def Link.zero : Link :=
  { inEpoch := .none, inSched := .none, queue := [], owed := .none, inProg := .idle, granted := 0, base := 0, hwm := 0
    outSched := .none, outProg := .idle, pend := [], out := []
    sent := 0, received := 0, sc := 0, retract := false, outSeals := [], outSc := 0 }

/-- A drain output token that waits for its output link, in the order of R189: stream, row, drain, column group, part. -/
structure DrainTok where
  order  : Nat
  link   : Nat
  token  : Token
  sealEp : Option (BitVec 32)
  deriving DecidableEq, Repr

/-- A configuration slot (spec/04 R144): ENTRY and the schedule image. -/
structure CfgSlot where
  entry    : Nat
  schedule : Bytes
  deriving DecidableEq, Repr

/-! ## Queue store (spec/07) -/

/-- An entry of a receive queue. -/
structure QEntry where
  key   : SenderKey
  words : Bytes
  deriving DecidableEq, Repr

/-- A place in a reservation list, with the BACKOFF of the last refusal (R230). -/
structure Resv where
  key     : SenderKey
  backoff : Nat
  deriving DecidableEq, Repr

/-- A configured receive queue (R218). `departs`: when its last 65 entries departed, newest first (R231); `row`: rows of the head descriptor that
streams have read (R238). -/
structure RQueue where
  owner   : Nat
  desc    : Bool
  land    : Nat
  ring    : Nat
  depth   : Nat
  senders : Nat
  anygenOk : Bool
  remoteOk : Bool
  window  : Nat
  entries : List QEntry
  table   : List (SenderKey × BitVec 16)
  resv    : List Resv
  departs : List Nat
  row     : Nat
  deriving DecidableEq, Repr

/-- Sheaf states (R246). -/
inductive SheafPhase | opened | released | clearing
  deriving DecidableEq, Repr

/-- A configured sheaf (R218, R243 to R247). -/
structure Sheaf where
  owner   : Nat
  kind    : Nat
  openCount : Bool
  remoteOk : Bool
  lanes   : Nat
  senders : Nat
  expect0 : Nat
  region  : Nat
  window  : Nat
  phase   : SheafPhase
  round   : Nat
  received : Nat
  expect  : Option Nat
  endSeen : Bool
  loss    : Bool
  table   : List (SenderKey × BitVec 16)
  deriving DecidableEq, Repr

/-! ## DMA engine (spec/08) -/

/-- A request of the core that awaits its response, by its number among the core's requests, and the time at which it has timed out
(spec/08 R262, R264). -/
structure OutReq where
  id  : Nat
  tag : BitVec 32
  dst : Place
  due : Nat
  deriving DecidableEq, Repr

/-- A FENCE packet held at the source interface: the earlier requests to its destination that it waits for, and the seal messages (R262). -/
structure FenceHold where
  id    : Nat
  pkt   : Packet
  waits : List Nat
  seals : List Nat
  deriving DecidableEq, Repr

/-- A packet of a DMA: offset and length, the read data once they returned, and whether its write is out. -/
structure DmaPkt where
  tag  : BitVec 32
  off  : Nat
  len  : Nat
  data : Option Bytes
  out  : Bool
  deriving DecidableEq, Repr

/-- A DMA in progress (R266 to R269); `read`, `wrote`: bytes moved at its ends within this module (spec/05 R178). -/
structure Dma where
  slot    : Nat
  gen     : Nat
  task    : Nat
  pc      : Nat
  src     : Word
  dst     : Word
  len     : Nat
  flags   : Nat
  timeout : Nat
  issued  : Nat
  read    : Nat
  wrote   : Nat
  since   : Nat
  pkts    : List DmaPkt
  deriving DecidableEq, Repr

/-- A BAR that waits at the core's beacon tap (spec/08 R272): its task slot, group, combine and value, whether its join has
reached the root and was a stray there (R273), and the combined value once released. -/
structure Tap where
  slot     : Nat
  group    : Nat
  op       : Nat
  value    : Word
  joined   : Bool
  stray    : Bool
  released : Option Word
  deriving DecidableEq, Repr

/-- The core: everything its compute domain holds, and its lattice switch. `vecWait`: task slots whose operation the vector unit has not
accepted yet, in issue order (spec/04 R135); `reqNo`: requests numbered so far; `leaving`: the
configuration slot that the last CFGSW left; `moved`: when a token last moved on a lattice link of the core (spec/06 R211). -/
structure Core where
  tasks    : Tab Task
  arrays   : Tab ArraySt
  streams  : List Stream
  streamId : Nat
  drains   : Tab Drain
  rowOps   : List RowOp
  rowOutbox : List UnitMsg
  vecWait  : List Nat
  stats    : Tab (BitVec 128)
  circs    : Tab Circ
  gather   : Option Gather
  scrubs   : List (Nat × Nat × Nat)
  links    : Tab Link
  drainToks : List DrainTok
  cfg      : Tab (Option CfgSlot)
  owner    : Option Nat
  epoch    : Nat
  active   : Nat
  leaving  : Nat
  moved    : Nat
  stopped  : Bool
  drained  : Bool
  queues   : Tab (Option RQueue)
  qgen     : Tab (BitVec 8)
  sheaves  : Tab (Option Sheaf)
  sgen     : Tab (BitVec 8)
  dmas     : List Dma
  dmaGen   : Tab Nat
  outs     : List OutReq
  reqNo    : Nat
  fenced   : List FenceHold
  posy     : Option (Nat × List Bytes)
  tap      : Option Tap
  refusal  : Nat
  deriving DecidableEq, Repr

/-- A core after a reset: nothing resident. -/
def Core.zero : Core :=
  { tasks := [], arrays := [], streams := [], streamId := 0, drains := [], rowOps := [], rowOutbox := [], vecWait := [], stats := []
    circs := [], gather := .none, scrubs := [], links := [], drainToks := [], cfg := [], owner := .none
    epoch := 0, active := 0, leaving := 0, moved := 0, stopped := false, drained := false, queues := [], qgen := [], sheaves := [], sgen := []
    dmas := [], dmaGen := [], outs := [], reqNo := 0, fenced := [], posy := .none, tap := .none, refusal := 0 }

end Sys2Proof.Machine
end

