-- ==== Sys2Proof/Machine/HostTypes.lean ====
section
/-! DEFINITION. The state of the host's front end, of the CXL port's coherence and of the tier engine (spec/09, spec/11). -/

namespace Sys2Proof.Machine

/-! ## Jobs and rings (spec/11 R367 to R380) -/

/-- A task of a START: its list entry (R372), what its reservation was answered (0 granted, a refusal code of spec/04 R142, or
`badHeader`), the slot it holds, and its end code once reported. -/
structure JobTask where
  core   : Nat
  base   : BitVec 32
  image  : BitVec 48
  arg    : Word
  no     : BitVec 32
  answer : Option Nat
  slot   : Option Nat
  ended  : Option Nat
  deriving DecidableEq, Repr

/-- The first cause or the result of a job (R377): completion status, end code, refusal code, the task that it came from (core
and task number), and the SEAL field of its record (R515). -/
structure JobCause where
  status  : Nat
  endCode : Nat
  refusal : Nat
  task    : Option (Nat × BitVec 32)
  sealSt  : Nat
  deriving DecidableEq, Repr

/-- How far a job has come: fetched, tasks reserving, tasks running, tasks restored for a recovery, its message sent or
waiting to be resent, or its end waited for. -/
inductive JobPhase | fetched | reserving | running | restored | sending | backoff | ending
  deriving DecidableEq, Repr

/-- A job in flight (R369 to R379). `recorded`: its COMPLETION record has been issued and a SEAL_UPDATE is to come; `flags`: bits
0 BOUNDED, 1 LOSS, 2 NONREPRO of the output regions' seals; `short`: its plan is short of slack after a move (spec/13 R432); `tries`: recoveries of a
START (spec/13 R438), sends of a SEND; `limit`: CXL_RINGr_LIMIT as it stood at the fetch; `key`: the proxy key of a SEND as HostPort
names it; `again`: when its back-off ends at the earliest. -/
structure Job where
  ring     : Nat
  idx      : BitVec 32
  desc     : Bytes
  fetchedAt : Nat
  phase    : JobPhase
  tasks    : List JobTask
  cause    : Option JobCause
  recorded : Bool
  flags    : Nat
  short    : Bool
  tries    : Nat
  limit    : Word
  key      : Nat
  again    : Nat
  deriving DecidableEq, Repr

/-- A job whose digest is to be computed (spec/12 R409): its descriptor, ring, index and seal flags. -/
structure DigestJob where
  tag   : Nat
  ring  : Nat
  idx   : BitVec 32
  desc  : Bytes
  flags : Nat
  deriving DecidableEq, Repr

/-- A work ring's enable state (R368, R371). -/
inductive RingPhase | off | on | draining | fault
  deriving DecidableEq, Repr

/-- A work ring as the front end holds it (R365 to R371). `cached`: the producer line stands in the device cache; `marked`: the
host has written it since the last poll. -/
structure Ring where
  phase   : RingPhase
  code    : Nat
  pi      : BitVec 32
  cr      : BitVec 32
  fetched : BitVec 32
  written : BitVec 32
  cached  : Bool
  marked  : Bool
  deriving DecidableEq, Repr

/-- A ring that is OFF. -/
def Ring.zero : Ring := ⟨.off, 0, 0, 0, 0, 0, false, false⟩

/-- A line that the snoop filter tracks (R360). `snoop`: none, or the back-invalidate snoop sent for it (true: BISnpInv) and
whether its response has come; `since`: when it was sent. -/
structure HostLine where
  line  : Nat
  snoop : Option (Bool × Bool)
  since : Nat
  deriving DecidableEq, Repr

/-- What a CXL.mem request was last answered with. -/
inductive MemAns
  | none_
  | data (b : Bytes)
  | poison
  | done
  deriving DecidableEq, Repr

/-- The host port (R354, R360, R375, R379): the link, PERST# asserted, the tracked lines in the order in which the host was granted them,
NEXT of the channels by which rings send (core × 64 + slot × 16 + channel), the last CXL.mem answer, and when the link went down. -/
structure HostPort where
  up       : Bool
  perst    : Bool
  lines    : List HostLine
  proxy    : Tab (BitVec 16)
  ans      : MemAns
  downAt   : Nat
  deriving DecidableEq, Repr

/-- The port at time zero. -/
def HostPort.zero : HostPort := ⟨false, false, [], [], .none_, 0⟩

/-! ## The tier engine (spec/09 R290 to R308) -/

/-- A descriptor at a tier agent (R296 to R300): the task and PC of its TPREF, its bytes, its list entries (name address, TOKENS,
POS) once read, whether they have been, RESULT, the entries assigned to scan units (of a PREFETCH: the names whose promotion it
awaits), those whose records are written and those not scanned, the queries, its counts, and the records of MERGED by channel × 16 + row.
`closing`: the merged records have been written; `owed`: writes to another module that are not answered, as tag and entry. -/
structure TierDesc where
  core    : Nat
  task    : Nat
  pc      : Nat
  desc    : Bytes
  entries : List (Nat × Nat × Nat)
  opened  : Bool
  result  : Nat
  marked  : List Nat
  done    : List Nat
  skipped : List Nat
  queries : Bytes
  badEntries : Nat
  ueBlocks : Nat
  dropped : Nat
  merged  : Tab Bytes
  closing : Bool
  owed    : List (Nat × Nat)
  deriving DecidableEq, Repr

/-- A write that a swap holds (R294): a packet at a ring, a CXL.mem write of bytes at an offset of a line, a host
request for ownership of a line (spec/11 R362), or a write of a tier agent. -/
inductive HeldWrite
  | pkt (p : Packet)
  | host (line o : Nat) (b : Bytes)
  | own (line : Nat)
  | agent (a : Nat) (b : Bytes)
  deriving DecidableEq, Repr

/-- A swap under way (R294): the names A in hearth and B in peat, a PIN that a descriptor asks for meanwhile, and the writes held. -/
structure Swap where
  a    : Nat
  b    : Nat
  pinA : Bool
  pinB : Bool
  held : List HeldWrite
  deriving DecidableEq, Repr

/-- A tier agent: descriptors in flight in the order of arrival, promote queue and victim list (name indices), swap under
way, the names of its part of the map cache from the oldest on (R292), tags given to its writes to other modules, and those of status records that
are not answered. -/
structure Agent where
  descs   : List TierDesc
  promote : List Nat
  victims : List Nat
  swap    : Option Swap
  cache   : List Nat
  tags    : Nat
  statusTags : List Nat
  deriving DecidableEq, Repr

/-- An idle agent. -/
def Agent.zero : Agent := ⟨[], [], [], none, [], 0, []⟩

/-- The tier engine: its agents by die, decay periods passed by die, pins that the engine set, map lines read uncorrectable
(line numbers within the map), scan units out of service and channels failed (module channels), and of each stack at its high-temperature
limit one more than the temperature it reported there (R280); when swaps started in the last millisecond (R294). -/
structure Tier where
  agents  : Tab Agent
  periods : Tab Nat
  enginePins : List Nat
  mapBad  : List Nat
  scanOut : List Nat
  failed  : List Nat
  hot     : Tab Nat
  starts  : List Nat
  deriving DecidableEq, Repr

/-- The tier engine before Stage 2. -/
def Tier.zero : Tier := ⟨[], [], [], [], [], [], [], []⟩

end Sys2Proof.Machine
end

