-- ==== Sys2Proof/Machine/MgmtTypes.lean ====
section
/-! DEFINITION. The state of bring-up and resets, of the Warden and Forester, and of the power manager (spec/14, spec/15, spec/16). -/

namespace Sys2Proof.Machine

/-! ## Bring-up and resets (spec/14) -/

/-- A compute or core reset in progress (R460 to R466): the core of a core reset, KEEP_HEARTH, and whether the test of R458 is part of
it. -/
structure ResetRun where
  core : Option Nat
  keep : Bool
  bist : Bool
  deriving DecidableEq, Repr

/-- Bring-up: Stage 0 reached, PWRGD asserted, a thermal trip or rail fault that only a new PWRGD clears, FAULT_N and THERMTRIP_N low,
time zero of this bring-up and when STAGE 4 came, the reset in progress, whether a module reset has taken effect, CXL training begun, the chosen
image and its SEQ, whether a reset for PERST# is owed, and times of resets for FATAL_DEVICE (R484). -/
structure Boot where
  stage0   : Bool
  pwrgd    : Bool
  dead     : Bool
  faultLow : Bool
  tripLow  : Bool
  zero_    : Nat
  readyAt  : Nat
  run      : Option ResetRun
  warm     : Bool
  training : Bool
  image    : Option TurcaImage
  imgSeq   : Word
  perst    : Bool
  fatals   : List Nat
  deriving DecidableEq, Repr

/-- Just after power-good. -/
def Boot.zero : Boot := ⟨false, true, false, false, false, 0, 0, .none, false, false, .none, 0, false, []⟩

/-! ## Warden, Forester and management (spec/15) -/

/-- A journal record (R486): SEQ, TYPE, BODY, PREV and SIG. -/
structure JRec where
  seq  : Nat
  type : Nat
  body : Bytes
  prev : Bytes
  sig  : Bytes
  deriving DecidableEq, Repr

/-- A key exchange in progress (R489): the peer, the slot, the exchange identifier, whether this module began it, the pieces of the
peer's chain that have come, whether all have and the chain passed, whether HELLO has come, when it began, and what both sides have
sent since HELLO. -/
structure Kx where
  dev    : BitVec 16
  slot   : Nat
  id     : Word
  init_  : Bool
  pieces : List (Nat × Bytes)
  certOk : Bool
  hello  : Bool
  since  : Nat
  log    : Bytes
  deriving DecidableEq, Repr

/-- What the SPDM responder last answered (R487, R488). -/
inductive SpdmAns
  | none_
  | version (l : List (BitVec 8))
  | capabilities (version : BitVec 8)
  | algorithms
  | digests (d : Bytes)
  | certificate (b : Bytes)
  | challengeAuth (sig : Bytes)
  | measurements (l : List (Nat × Bytes))
  | keyExchangeRsp (session : BitVec 32) (sig : Bytes)
  | finishRsp
  | heartbeatAck
  | keyUpdateAck
  | endSessionAck
  | vendorDefined (b : Bytes)
  | error (code : Nat)
  deriving DecidableEq, Repr

/-- The SPDM responder: how far the connection has come (1 version, 2 capabilities, 3 algorithms), the version agreed, sessions with
whether FINISH has completed them and how often their keys were updated, and the last answer. -/
structure Spdm where
  phase    : Nat
  version  : BitVec 8
  sessions : List (BitVec 32 × Bool × Nat)
  ans      : SpdmAns
  deriving DecidableEq, Repr

/-- No connection. -/
def Spdm.zero : Spdm := ⟨0, 0, [], .none_⟩

/-- Warden, Forester and the management ports. `beatAt`, `restarts`: last HEARTBEAT and times of restarts (R471); `bound`: one more than
the device to which a key slot is bound (R489); `latch`: high halves of the time base held for an initiator (R497); `shadowDone`: the Warden has granted
the exit from shadow mode (spec/12 R411);
`mbox`: the mailbox buffer; `kxBox`: WDN_KXBOX; `netSent`, `pldmQ`: the datagram last sent and records that wait for PLDM;
`pldmAns`: the value last read from a sensor; `call`: RESULT and CHECK of the last call (R479); `jbroken`: the journal ended at a bad record (R486);
`mpAt`: when each management processor was last tested (R470). -/
structure Wdn where
  beatAt   : Nat
  restarts : List Nat
  restarting : Bool
  kxs      : List Kx
  bound    : Tab Nat
  kxBox    : Tab Byte
  journal  : List JRec
  netKey   : Tab Byte
  netKeyAt : Nat
  netKeyOn : Bool
  latch    : Tab Nat
  shadowDone : Bool
  mbox     : Tab Byte
  netSent  : Bytes
  pldmQ    : List Bytes
  pldmAns  : Option Nat
  call     : Nat × Nat
  spdm     : Spdm
  jbroken  : Bool
  mpAt     : Tab Nat
  deriving DecidableEq, Repr

/-- After a cold start. -/
def Wdn.zero : Wdn := ⟨0, [], false, [], [], [], [], [], 0, false, [], false, [], [], [], .none, (0, 0), .zero, false, []⟩

/-! ## The power manager (spec/16) -/

/-- The power manager: input power samples of the last second, newest first, in W; whether a sample exceeded SUSTAIN_W since the last
control step; power of each die over the last 100 µs in W; dies that lower VCORE for temperature, and those that drooped since the last step; energy not yet counted, in units of
10 µJ, and the times of the last sample and control step. -/
structure Power where
  samples : List Nat
  above   : Bool
  dieW    : Tab Nat
  hot     : List Nat
  droop   : List Nat
  energy  : Nat
  sampleAt : Option Nat
  stepAt  : Option Nat
  deriving DecidableEq, Repr

/-- No sample taken. -/
def Power.zero : Power := ⟨[], false, [], [], [], 0, .none, .none⟩

end Sys2Proof.Machine
end

