-- ==== Sys2Proof/Machine/RegTable.lean ====
section
/-! DEFINITION. The register map (spec/00 R10 to R14 and the register sections of spec/02 to spec/15): of every
register its offset, its repetition, its writable bits by access code, its value after a cold start and its class under
spec/15 R477. Rows stand in the spec's order, the register's name beside each. -/

namespace Sys2Proof.Machine

/-- Register classes of spec/15 R477: host-writable, firmware, Warden. -/
inductive RegClass | h | f | w
  deriving DecidableEq, Repr

/-- One register or array of registers. `s1`, `n1`, `s2`, `n2`: stride and count of its one or two indices. -/
structure RegSpec where
  base  : Nat
  s1    : Nat
  n1    : Nat
  s2    : Nat
  n2    : Nat
  rw    : Nat
  w1c   : Nat
  w1s   : Nat
  rc    : Nat
  wo    : Nat
  reset : Nat
  cls   : RegClass
  deriving DecidableEq, Repr

/-- Registers of the core page (offset within the page), part 1. -/
def coreRegs1 : List RegSpec := [
  ⟨0, 8, 1, 8, 1, 0, 0, 0, 0, 0, 0, .f⟩,  -- CORE_ID
  ⟨8, 8, 1, 8, 1, 0, 0, 0, 0, 0, 0xd, .f⟩,  -- CORE_DOMAIN
  ⟨0x10, 8, 1, 8, 1, 0, 0, 0, 0, 0, 0xfeff40020404, .f⟩,  -- CORE_CAPS
  ⟨0x1000, 8, 1, 8, 1, 0, 0x40404040, 0, 0, 0, 0, .h⟩,  -- ARR_STATE
  ⟨0x1010, 8, 4, 8, 1, 0xffffffff, 0, 0, 0, 0, 0, .w⟩,  -- ARR_REPAIRa
  ⟨0x1030, 8, 4, 8, 1, 0, 0, 0, 0, 0, 0, .f⟩,  -- ARR_FUSEa
  ⟨0x1050, 8, 1, 8, 1, 0x3fe, 0, 1, 0, 0, 0, .w⟩,  -- ARR_DIAG
  ⟨0x2000, 8, 1, 8, 1, 0, 0xfffffffff, 0, 0, 0, 0, .h⟩,  -- DRN_STATUS
  ⟨0x2010, 32, 4, 8, 1, 0xffff0001ff3fffff, 0, 0, 0, 0, 0x1c0007, .f⟩,  -- DRN_CFGd
  ⟨0x2018, 32, 4, 8, 1, 0xffffffffffffffff, 0, 0, 0, 0, 0, .f⟩,  -- DRN_SEEDd
  ⟨0x2020, 32, 4, 8, 1, 0x1ffffffffff, 0, 0, 0, 0, 0x700000000, .f⟩,  -- DRN_AUXd
  ⟨0x2090, 8, 1, 8, 1, 0xf, 0, 0, 0, 0, 6, .f⟩,  -- DRN_CKCFG
  ⟨0x2098, 8, 1, 8, 1, 0, 1, 0, 0, 0, 0, .h⟩,  -- DRN_CKLOG
  ⟨0x20a0, 8, 1, 8, 1, 0, 0, 0, 0xffffffffffffffff, 0, 0, .f⟩,  -- DRN_CKCNT
  ⟨0x3000, 8, 1, 8, 1, 0, 0xeff, 0, 0, 0, 0, .h⟩]  -- ROW_STATUS

/-- Registers of the core page (offset within the page), part 2. -/
def coreRegs2 : List RegSpec := [
  ⟨0x3008, 8, 1, 8, 1, 0, 0, 0, 0, 0, 0x401401004000, .f⟩,  -- ROW_CAPS
  ⟨0x3010, 8, 4, 8, 1, 0x7fff3fff, 0, 0, 0, 0, 0, .f⟩,  -- ROW_STATWINt
  ⟨0x3030, 8, 1, 8, 1, 0x3fff, 0, 0, 0, 0, 0, .h⟩,  -- ROW_STATIDX
  ⟨0x3038, 8, 1, 8, 1, 0, 0, 0, 0, 0, 0, .f⟩,  -- ROW_STATDATA0
  ⟨0x3040, 8, 1, 8, 1, 0, 0, 0, 0, 0, 0, .f⟩,  -- ROW_STATDATA1
  ⟨0x3048, 8, 1, 8, 1, 0, 0, 0, 0xffffffffffffffff, 0, 0, .f⟩,  -- ROW_CNT
  ⟨0x4000, 8, 1, 8, 1, 0, 0, 0, 0, 0, 0x4010080401, .f⟩,  -- SEQ_CAPS
  ⟨0x4008, 8, 1, 8, 1, 0xf00, 0, 0xf, 0, 0, 0, .f⟩,  -- SEQ_CTRL
  ⟨0x4010, 8, 1, 8, 1, 0, 0, 0, 0, 0, 0, .f⟩,  -- SEQ_CFG
  ⟨0x4018, 8, 1, 8, 1, 0, 0, 0, 0xffffffffffffffff, 0, 0, .f⟩,  -- SEQ_ISSUE
  ⟨0x4040, 64, 4, 8, 1, 0, 0x10000, 0, 0, 0, 0, .h⟩,  -- SEQ_TSTATt
  ⟨0x4048, 64, 4, 8, 1, 0, 0, 0, 0, 0, 0, .f⟩,  -- SEQ_TDETAILt
  ⟨0x4050, 64, 4, 8, 1, 0, 0, 0, 0, 0, 0, .f⟩,  -- SEQ_TIMAGEt
  ⟨0x4058, 64, 4, 8, 1, 0, 0, 0, 0, 0, 0, .f⟩,  -- SEQ_TTAGt
  ⟨0x4060, 64, 4, 8, 1, 0, 0, 0, 0, 0, 0, .f⟩]  -- SEQ_TWAITt

/-- Registers of the core page (offset within the page), part 3. -/
def coreRegs3 : List RegSpec := [
  ⟨0x4140, 8, 1, 8, 1, 0x3ff, 0, 0, 0, 0, 0, .f⟩,  -- SEQ_RSEL
  ⟨0x4148, 8, 1, 8, 1, 0, 0, 0, 0, 0, 0xffffffffffffffff, .f⟩,  -- SEQ_RDATA
  ⟨0x5000, 8, 1, 8, 1, 0, 0, 0, 0, 0, 0x8300c00c00000, .f⟩,  -- SPAD_SIZE
  ⟨0x5008, 8, 1, 8, 1, 0xfff, 0, 0, 0, 0, 0xfff0fff, .f⟩,  -- SPAD_PWR
  ⟨0x5010, 8, 1, 8, 1, 0, 0x3e, 0, 0, 0, 1, .h⟩,  -- SPAD_STATUS
  ⟨0x5018, 8, 1, 8, 1, 1, 0, 0, 0, 0, 0, .w⟩,  -- SPAD_CTRL
  ⟨0x5020, 8, 1, 8, 1, 0, 0, 0, 0xffffffffffffffff, 0, 0, .f⟩,  -- SPAD_ECCCNT
  ⟨0x5028, 8, 1, 8, 1, 0, 0x8000000000000000, 0, 0, 0, 0, .h⟩,  -- SPAD_ECCLOG
  ⟨0x5040, 32, 4, 8, 4, 0, 0, 0, 0, 0, 0, .f⟩,  -- SPAD_PAIRt_p
  ⟨0x5100, 16, 16, 8, 1, 0, 0, 0, 0, 0, 0, .f⟩,  -- SPAD_CIRCr
  ⟨0x5108, 16, 16, 8, 1, 0, 0, 0, 0, 0, 0, .f⟩,  -- SPAD_PTRr
  ⟨0x6000, 8, 1, 8, 1, 0, 0, 0, 0, 0, 0xcfc06188200, .f⟩,  -- LAT_CAPS
  ⟨0x6008, 8, 1, 8, 1, 0, 0xff, 0, 0, 0, 0, .h⟩,  -- LAT_STATUS
  ⟨0x6010, 8, 1, 8, 1, 1, 0, 0, 0, 0, 0, .w⟩,  -- LAT_CTRL
  ⟨0x6018, 8, 1, 8, 1, 0xffffffff, 0, 0, 0, 0, 0x3e8, .f⟩]  -- LAT_STALLCFG

/-- Registers of the core page (offset within the page), part 4. -/
def coreRegs4 : List RegSpec := [
  ⟨0x6020, 8, 4, 8, 1, 0, 0, 0, 0, 0, 0, .f⟩,  -- LAT_ROUTEi
  ⟨0x6040, 8, 4, 8, 1, 0xff, 0, 0, 0, 0, 0, .w⟩,  -- LAT_SLACKi
  ⟨0x6060, 8, 4, 8, 1, 0, 0, 0, 0xff000000, 0, 0x80000, .f⟩,  -- LAT_OCCi
  ⟨0x6080, 8, 4, 8, 1, 0, 0, 0, 0xffffffffffffffff, 0, 0, .f⟩,  -- LAT_CNTi
  ⟨0x60a0, 8, 1, 8, 1, 0, 0, 0, 0xffffffffffffffff, 0, 0, .f⟩,  -- LAT_DISCARD
  ⟨0x60a8, 8, 1, 8, 1, 0, 0, 0, 0xffffffffffffffff, 0, 0, .f⟩,  -- LAT_ECC
  ⟨0x60b0, 8, 1, 8, 1, 0, 0x8000000000000000, 0, 0, 0, 0, .h⟩,  -- LAT_STALLLOG
  ⟨0x7000, 8, 1, 8, 1, 0, 0, 0, 0, 0, 0x30040100840, .f⟩,  -- QUE_CAPS
  ⟨0x7008, 8, 1, 8, 1, 0, 0x1f, 0, 0, 0, 0, .h⟩,  -- QUE_STATUS
  ⟨0x7010, 8, 1, 8, 1, 0xffffffffffc0, 0, 0x8000000000000000, 0, 0, 0, .f⟩,  -- QUE_POSY
  ⟨0x7018, 8, 1, 8, 1, 0, 0, 0, 0xffffffffffffffff, 0, 0, .f⟩,  -- QUE_CNT
  ⟨0x7020, 8, 1, 8, 1, 0, 0, 0, 0xffffffffffffffff, 0, 0, .f⟩,  -- QUE_CNT2
  ⟨0x7100, 8, 64, 8, 1, 0, 0, 0, 0, 0, 0, .f⟩,  -- QUE_STATEq
  ⟨0x7300, 32, 4, 8, 4, 0, 0, 0, 0, 0, 0, .f⟩,  -- QUE_CHANt_j
  ⟨0x7380, 8, 4, 8, 1, 0, 0, 0, 0, 0, 0, .f⟩]  -- QUE_CHANPt

/-- Registers of the core page (offset within the page), part 5. -/
def coreRegs5 : List RegSpec := [
  ⟨0x7400, 32, 4, 8, 4, 0, 0, 0, 0, 0, 0, .f⟩,  -- QUE_MCLOGt_j
  ⟨0x8000, 8, 1, 8, 1, 0, 0, 0, 0, 0, 0x40040000008, .f⟩,  -- SHF_CAPS
  ⟨0x8008, 8, 1, 8, 1, 0, 0xffffffffff, 0, 0, 0, 0, .h⟩,  -- SHF_STATUS
  ⟨0x8040, 8, 8, 8, 1, 0, 0, 0, 0, 0, 0, .f⟩,  -- SHF_STATEs
  ⟨0x8080, 8, 8, 8, 1, 0, 0, 0, 0, 0, 0, .f⟩,  -- SHF_COUNTs
  ⟨0x9000, 8, 1, 8, 1, 0, 0, 0, 0, 0, 0x4010010004, .f⟩,  -- MESH_CAPS
  ⟨0x9008, 8, 1, 8, 1, 0, 0x3f, 0, 0, 0, 0, .h⟩,  -- MESH_STATUS
  ⟨0x9010, 8, 1, 8, 1, 0xffffffffffffffff, 0, 0, 0, 0, 0x271000002710, .f⟩,  -- MESH_TMO
  ⟨0x9018, 8, 1, 8, 1, 0, 0, 0, 0, 0, 0, .f⟩,  -- MESH_DMA
  ⟨0x9040, 8, 6, 8, 1, 0x4000000000000000, 0, 0, 0, 0, 0x666, .w⟩,  -- MESH_PORTp
  ⟨0x9080, 8, 6, 8, 1, 0, 0, 0, 0xffffffffffffffff, 0, 0, .f⟩,  -- MESH_CNTp
  ⟨0x90b0, 8, 1, 8, 1, 0, 0, 0, 0xffffffffffffffff, 0, 0, .f⟩,  -- MESH_CNT
  ⟨0xa000, 8, 1, 8, 1, 0, 0, 0, 0, 0, 0, .f⟩,  -- BCN_TAP
  ⟨0xa008, 8, 1, 8, 1, 0, 0, 0, 0xffffffffffffffff, 0, 0, .f⟩,  -- BCN_TAPCNT
  ⟨0xb000, 8, 1, 8, 1, 0, 0, 0, 0, 0, 0x12100080400c00, .f⟩]  -- SEAL_CAPS

/-- Registers of the core page (offset within the page), part 6. -/
def coreRegs6 : List RegSpec := [
  ⟨0xb008, 8, 1, 8, 1, 0xffffffff00000001, 0, 0, 0, 0, 0x271000000000, .f⟩,  -- SEAL_CTRL
  ⟨0xb010, 8, 1, 8, 1, 0, 0, 0, 0, 0, 0, .f⟩,  -- SEAL_EPOCH
  ⟨0xb018, 8, 1, 8, 1, 0, 0, 0, 0, 0, 0, .f⟩,  -- SEAL_OWN
  ⟨0xb020, 8, 1, 8, 1, 0, 0xfff, 0, 0, 0, 0, .h⟩,  -- SEAL_STATUS
  ⟨0xb028, 8, 1, 8, 1, 0, 0x80000000, 0, 0, 0, 0, .f⟩,  -- SEAL_LOG
  ⟨0xb030, 8, 1, 8, 1, 0, 0, 0, 0xffffffffffffffff, 0, 0, .f⟩,  -- SEAL_CNT
  ⟨0xb038, 8, 1, 8, 1, 0, 0, 0, 0xffffffffffffffff, 0, 0, .f⟩,  -- SEAL_CNT2
  ⟨0xb040, 8, 4, 8, 1, 0, 0, 0, 0, 0, 0, .f⟩,  -- SEAL_TDEPt
  ⟨0xb060, 8, 1, 8, 1, 0xfff, 0, 0, 0, 0, 0, .h⟩,  -- SEAL_BLKIDX
  ⟨0xb068, 8, 1, 8, 1, 0, 0, 0, 0, 0, 1, .f⟩,  -- SEAL_BLKDATA
  ⟨0xb080, 8, 4, 8, 1, 0, 0, 0, 0, 0, 0, .f⟩,  -- SEAL_LANEi
  ⟨0xc000, 8, 1, 8, 1, 0, 0, 0, 0, 0, 0x3008, .h⟩,  -- EVC_CAPS
  ⟨0xc008, 8, 1, 8, 1, 0, 0x1ff, 0, 0, 0, 0, .h⟩,  -- EVC_STATUS
  ⟨0xc010, 8, 1, 8, 1, 0xff, 0, 0xff00, 0, 0, 0, .h⟩,  -- EVC_CTL
  ⟨0xc040, 8, 8, 8, 1, 0xff, 0, 0, 0, 0, 0, .h⟩]  -- EVC_SELc

/-- Registers of the core page (offset within the page), part 7. -/
def coreRegs7 : List RegSpec := [
  ⟨0xc080, 8, 8, 8, 1, 0xffffffffffff, 0, 0, 0, 0, 0, .h⟩]  -- EVC_CNTc

/-- Every register of the core page (offset within the page). -/
def coreRegs : List RegSpec :=
  coreRegs1 ++ coreRegs2 ++ coreRegs3 ++ coreRegs4 ++ coreRegs5 ++ coreRegs6 ++ coreRegs7

/-- Registers of the die page (offset within the page), part 1. -/
def dieRegs1 : List RegSpec := [
  ⟨0, 8, 1, 8, 1, 0, 0, 0, 0, 0, 0x271000802003, .f⟩,  -- HTH_CAPS
  ⟨8, 8, 1, 8, 1, 0, 0xfff, 0, 0, 0, 0, .h⟩,  -- HTH_STATUS
  ⟨0x40, 64, 3, 8, 1, 0, 0, 0, 0, 0, 0, .f⟩,  -- HTH_Ss_STATE
  ⟨0x48, 64, 3, 8, 1, 0, 0, 0, 0xffffffffffffffff, 0, 0, .f⟩,  -- HTH_Ss_ECC
  ⟨0x50, 64, 3, 8, 1, 0, 0, 0, 0xffffffffffffffff, 0, 0, .f⟩,  -- HTH_Ss_ECS
  ⟨0x58, 64, 3, 8, 1, 0, 0x8000000000000000, 0, 0, 0, 0, .h⟩,  -- HTH_Ss_UELOG
  ⟨0x10000, 8, 1, 8, 1, 0, 0, 0, 0, 0, 0x226002000203, .f⟩,  -- PEAT_CAPS
  ⟨0x10008, 8, 1, 8, 1, 0, 0x272727, 0, 0, 0, 0, .h⟩,  -- PEAT_STATUS
  ⟨0x10040, 64, 3, 8, 1, 0, 0, 0, 0, 0, 0, .f⟩,  -- PEAT_Cc_CFG
  ⟨0x10048, 64, 3, 8, 1, 0, 0, 0, 0xffffffffffffffff, 0, 0, .f⟩,  -- PEAT_Cc_ECC
  ⟨0x10050, 64, 3, 8, 1, 0, 0x8000000000000000, 0, 0, 0, 0, .h⟩,  -- PEAT_Cc_UELOG
  ⟨0x10058, 64, 3, 8, 1, 0xffff, 0, 0, 0, 0, 0x18, .f⟩,  -- PEAT_Cc_SCRUB
  ⟨0x10060, 64, 3, 8, 1, 0, 0x8000000000000000, 0x4000000000000000, 0, 0, 0, .f⟩,  -- PEAT_Cc_PPR
  ⟨0x10068, 64, 3, 8, 1, 0, 0, 0, 0xffffffffffffffff, 0, 0, .f⟩,  -- PEAT_Cc_SCANCNT
  ⟨0x20000, 8, 1, 8, 1, 0, 0, 0, 0, 0, 0x384d0c03, .f⟩]  -- RTL_CAPS

/-- Registers of the die page (offset within the page), part 2. -/
def dieRegs2 : List RegSpec := [
  ⟨0x20008, 8, 1, 8, 1, 0, 0x3f3f3f, 0, 0, 0, 0, .h⟩,  -- RTL_STATUS
  ⟨0x20040, 64, 3, 8, 1, 0xffff0000000001fb, 0, 0, 0, 0, 0x10000000000000, .f⟩,  -- RTL_Pp_CFG
  ⟨0x20048, 64, 3, 8, 1, 0, 0, 0, 0, 0, 0x300, .f⟩,  -- RTL_Pp_STATE
  ⟨0x20050, 64, 3, 8, 1, 0xffffffffffff, 0, 0, 0, 0, 0, .f⟩,  -- RTL_Pp_MAC
  ⟨0x20058, 64, 3, 8, 1, 0, 0, 0, 0xffffffffffffffff, 0, 0, .f⟩,  -- RTL_Pp_FEC
  ⟨0x20060, 64, 3, 8, 1, 0, 0, 0, 0xffffffffffffffff, 0, 0, .f⟩,  -- RTL_Pp_CNT
  ⟨0x20068, 64, 3, 8, 1, 0, 0, 0, 0xffffffffffffffff, 0, 0, .f⟩,  -- RTL_Pp_DROP
  ⟨0x20070, 64, 3, 8, 1, 0, 0, 0, 0, 0, 0, .f⟩,  -- RTL_Pp_TSTX
  ⟨0x20078, 64, 3, 8, 1, 0, 0, 0, 0, 0, 0, .f⟩,  -- RTL_Pp_TSRX
  ⟨0x20100, 16, 3, 8, 1, 0, 0, 0, 0, 0, 0, .f⟩,  -- RTL_PEERp_TX
  ⟨0x20108, 16, 3, 8, 1, 0, 0, 0, 0, 0, 0, .f⟩,  -- RTL_PEERp_RX
  ⟨0x30000, 8, 1, 8, 1, 0, 0, 0, 0, 0, 0x143b60e10226, .f⟩,  -- PWR_CAPS
  ⟨0x30008, 8, 1, 8, 1, 0, 0xfe, 0, 0, 0, 0, .h⟩,  -- PWR_STATUS
  ⟨0x30010, 8, 1, 8, 1, 0x3fff, 0, 0, 0, 0, 0x2ee, .f⟩,  -- PWR_VCORE
  ⟨0x30018, 8, 1, 8, 1, 0, 0, 0, 0xffff0000, 0, 0, .f⟩]  -- PWR_PACE

/-- Registers of the die page (offset within the page), part 3. -/
def dieRegs3 : List RegSpec := [
  ⟨0x30020, 8, 1, 8, 1, 0, 0, 0, 0, 0, 0, .f⟩,  -- PWR_TEMP
  ⟨0x30028, 8, 1, 8, 1, 0xffff000fffffff, 0, 0, 0, 0, 0x73640000e10226, .f⟩,  -- PWR_LIMIT
  ⟨0x30030, 8, 1, 8, 1, 0xffffffffff, 0, 0, 0, 0, 0xa0e100bb8, .f⟩,  -- PWR_ENV
  ⟨0x30038, 8, 1, 8, 1, 0, 0, 0, 0, 0, 0, .f⟩,  -- PWR_MOD
  ⟨0x30040, 8, 1, 8, 1, 0, 0, 0, 0xffffffffffffffff, 0, 0, .f⟩,  -- PWR_CNT
  ⟨0x30100, 8, 16, 8, 1, 0, 0, 0, 0, 0, 0, .f⟩,  -- PWR_ROWr
  ⟨0x40000, 8, 1, 8, 1, 0xffffffff, 0, 0xffffffff00000000, 0, 0, 0, .h⟩,  -- EVC_DCTL
  ⟨0x40100, 8, 32, 8, 1, 0xffff, 0, 0, 0, 0, 0, .h⟩,  -- EVC_DSELi
  ⟨0x40200, 8, 32, 8, 1, 0xffffffffffffffff, 0, 0, 0, 0, 0, .h⟩,  -- EVC_DCNTi
  ⟨0x50000, 64, 2, 8, 1, 0, 0, 0, 0, 0, 0xc000000000, .f⟩,  -- MESH_SEAMj_STATE
  ⟨0x50008, 64, 2, 8, 1, 0, 0, 0, 0xffffffffffffffff, 0, 0, .f⟩,  -- MESH_SEAMj_ERR
  ⟨0x50010, 64, 2, 8, 1, 0xfff7f, 0, 0x80000000, 0, 0, 0, .w⟩,  -- MESH_SEAMj_RPR
  ⟨0x50100, 8, 1, 8, 1, 0x3ff00ff, 0, 0, 0, 0, 0, .w⟩,  -- MESH_ESCIDX
  ⟨0x50108, 8, 1, 8, 1, 7, 0, 0, 0, 0, 0, .w⟩,  -- MESH_ESCDATA
  ⟨0x60000, 32, 144, 8, 1, 0, 0, 0, 0, 0, 0x3f0000, .f⟩]  -- SMD_Ss_STATE

/-- Registers of the die page (offset within the page), part 4. -/
def dieRegs4 : List RegSpec := [
  ⟨0x60008, 32, 144, 8, 1, 0, 0, 0, 0, 0, 0, .f⟩,  -- SMD_Ss_LAST
  ⟨0x60010, 32, 144, 8, 1, 0, 0, 0, 0, 0, 0, .f⟩,  -- SMD_Ss_SIG
  ⟨0x60018, 32, 144, 8, 1, 0, 0, 0, 0, 0, 0, .f⟩,  -- SMD_Ss_COND
  ⟨0x62000, 8, 1, 8, 1, 0xf0ff, 0, 0x8000000000000000, 0, 0, 0, .w⟩,  -- SMD_CMD
  ⟨0x62008, 8, 1, 8, 1, 0xffff00ff, 0, 0, 0, 0, 0, .f⟩,  -- SMD_PXSEL
  ⟨0x62010, 8, 1, 8, 1, 0xffffffffffffffff, 0, 0, 0, 0, 0, .f⟩]  -- SMD_PXDATA

/-- Every register of the die page (offset within the page). -/
def dieRegs : List RegSpec :=
  dieRegs1 ++ dieRegs2 ++ dieRegs3 ++ dieRegs4

/-- Registers of the module blocks (BAR0 offset), part 1. -/
def modRegs1 : List RegSpec := [
  ⟨0x2400000, 8, 1, 8, 1, 0, 0, 0, 0, 0, 0x400001001010, .f⟩,  -- TIER_CAPS
  ⟨0x2400008, 8, 1, 8, 1, 0, 0x1ef, 0, 0, 0, 0, .h⟩,  -- TIER_STATUS
  ⟨0x2400010, 8, 1, 8, 1, 0, 0, 0, 0, 0, 0, .f⟩,  -- TIER_HPOOL
  ⟨0x2400018, 8, 1, 8, 1, 0, 0, 0, 0, 0, 0, .f⟩,  -- TIER_PPOOL
  ⟨0x2400020, 8, 1, 8, 1, 0, 0, 0, 0, 0, 0, .f⟩,  -- TIER_MAP
  ⟨0x2400028, 8, 1, 8, 1, 0x8000ffffffffffff, 0, 0, 0, 0, 0x10003e80801, .f⟩,  -- TIER_POLICY
  ⟨0x2400030, 8, 1, 8, 1, 0, 0, 0, 0xffffffffffffffff, 0, 0, .f⟩,  -- TIER_CNT
  ⟨0x2400038, 8, 1, 8, 1, 0, 0, 0, 0xffffffffffffffff, 0, 0, .f⟩,  -- TIER_CNT2
  ⟨0x2400040, 8, 1, 8, 1, 0, 0, 0, 0xffffffffffffffff, 0, 0, .f⟩,  -- TIER_CNT3
  ⟨0x2400048, 8, 1, 8, 1, 0xffffffff0000, 0, 0, 0, 0, 0, .f⟩,  -- TIER_LKIDX
  ⟨0x2400050, 8, 1, 8, 1, 0, 0, 0, 0, 0, 0xffffffffffffffff, .f⟩,  -- TIER_LKDATA
  ⟨0x2500000, 8, 1, 8, 1, 0, 0, 0, 0, 0, 0x100100810000800, .f⟩,  -- SPAN_CAPS
  ⟨0x2500008, 8, 1, 8, 1, 0, 0, 0, 0, 0, 0, .f⟩,  -- SPAN_IDENT
  ⟨0x2500010, 8, 1, 8, 1, 0, 0x1fff, 0, 0, 0, 0, .h⟩,  -- SPAN_STATUS
  ⟨0x2500018, 8, 1, 8, 1, 0xffffffffffffffff, 0, 0, 0, 0, 0x271000320400, .f⟩]  -- SPAN_CTRL

/-- Registers of the module blocks (BAR0 offset), part 2. -/
def modRegs2 : List RegSpec := [
  ⟨0x2500020, 8, 1, 8, 1, 0xffffffff00003f00, 0, 0, 0, 0, 0x1900001000, .f⟩,  -- SPAN_CTRL2
  ⟨0x2500028, 8, 1, 8, 1, 0xfffffc000000, 0, 0, 0, 0, 0x88b570000000, .f⟩,  -- SPAN_ETH
  ⟨0x2500030, 8, 1, 8, 1, 0, 0, 0, 0xffffffffffffffff, 0, 0, .f⟩,  -- SPAN_CNT
  ⟨0x2500038, 8, 1, 8, 1, 0, 0, 0, 0xffffffffffffffff, 0, 0, .f⟩,  -- SPAN_CNT2
  ⟨0x2500040, 8, 1, 8, 1, 0, 0, 0, 0xffffffffffffffff, 0, 0, .f⟩,  -- SPAN_CNT3
  ⟨0x2500048, 8, 1, 8, 1, 0, 0, 0, 0xffffffffffffffff, 0, 0, .f⟩,  -- SPAN_CNT4
  ⟨0x2500080, 8, 1, 8, 1, 0x10fff, 0, 0xc0000, 0, 0, 0, .w⟩,  -- SPAN_KEYIDX
  ⟨0x2500088, 8, 1, 8, 1, 0, 0, 0, 0, 0xffffffffffffffff, 0, .w⟩,  -- SPAN_KEYDATA
  ⟨0x2500090, 8, 1, 8, 1, 0, 0, 0, 0, 0, 0, .f⟩,  -- SPAN_KEYSTAT
  ⟨0x2510000, 32, 4096, 8, 1, 0xffffffffffff, 0, 0, 0, 0, 0, .w⟩,  -- SPAN_WINw_BASE
  ⟨0x2510008, 32, 4096, 8, 1, 0xffffffffffff, 0, 0, 0, 0, 0, .w⟩,  -- SPAN_WINw_LIMIT
  ⟨0x2510010, 32, 4096, 8, 1, 0xffffc00000000000, 0, 0, 0, 0, 0, .w⟩,  -- SPAN_WINw_CTRL
  ⟨0x2510018, 32, 4096, 8, 1, 0, 0, 0, 0xffffffffffffffff, 0, 0, .f⟩,  -- SPAN_WINw_CNT
  ⟨0x2540000, 8, 4096, 8, 1, 0x9fffffffffffffff, 0, 0, 0, 0, 0, .f⟩,  -- SPAN_ETHPEERi
  ⟨0x2580000, 8, 65536, 8, 1, 0xfffffffffffffe00, 0, 0, 0, 0, 0, .w⟩]  -- SPAN_ROUTEd

/-- Registers of the module blocks (BAR0 offset), part 3. -/
def modRegs3 : List RegSpec := [
  ⟨0x2610000, 8, 1, 8, 1, 0, 0, 0, 0, 0, 0x40005a310000, .f⟩,  -- CXL_IDENT
  ⟨0x2610008, 8, 1, 8, 1, 0, 0, 0, 0, 0, 0, .f⟩,  -- CXL_HSTAT
  ⟨0x2610010, 8, 1, 8, 1, 0, 0x1f, 0, 0, 0, 0, .h⟩,  -- CXL_STATUS
  ⟨0x2610018, 8, 1, 8, 1, 0xffff, 0, 0, 0, 0, 0xfa, .h⟩,  -- CXL_FE
  ⟨0x2610040, 8, 4, 8, 1, 0, 0, 0, 0, 0, 0, .f⟩,  -- CXL_MEMRANGEi
  ⟨0x2610060, 8, 1, 8, 1, 0, 0, 0, 0xffffffffffffffff, 0, 0, .f⟩,  -- CXL_SFCNT
  ⟨0x2611000, 8, 1, 8, 1, 0x800000001fffffff, 0, 0, 0, 0, 0, .h⟩,  -- CXL_MBCMD
  ⟨0x2611008, 8, 1, 8, 1, 0, 0, 0, 0, 0, 0, .f⟩,  -- CXL_MBRES
  ⟨0x2620000, 64, 64, 8, 1, 0xfffffffffffff01f, 0, 0, 0, 0, 4, .h⟩,  -- CXL_RINGr_SQ
  ⟨0x2620008, 64, 64, 8, 1, 0xfffffffffffff01f, 0, 0, 0, 0, 4, .h⟩,  -- CXL_RINGr_CQ
  ⟨0x2620010, 64, 64, 8, 1, 0xffffffffffffffc0, 0, 0, 0, 0, 0, .h⟩,  -- CXL_RINGr_PL
  ⟨0x2620018, 64, 64, 8, 1, 0x1fffc03, 0, 0, 0, 0, 0, .h⟩,  -- CXL_RINGr_CFG
  ⟨0x2620020, 64, 64, 8, 1, 0, 0, 0, 0, 0, 0, .f⟩,  -- CXL_RINGr_STAT
  ⟨0x2620028, 64, 64, 8, 1, 0, 0, 0, 0, 0, 0, .f⟩,  -- CXL_RINGr_WR
  ⟨0x2620030, 64, 64, 8, 1, 0x301ff01ff, 0, 0, 0, 0, 0x1ff0000, .f⟩]  -- CXL_RINGr_LIMIT

/-- Registers of the module blocks (BAR0 offset), part 4. -/
def modRegs4 : List RegSpec := [
  ⟨0x2620038, 64, 64, 8, 1, 0, 0, 0, 0xffffffffffffffff, 0, 0, .f⟩,  -- CXL_RINGr_CNT
  ⟨0x2700000, 8, 1, 8, 1, 0, 0, 0, 0, 0, 0, .f⟩,  -- BOOT_STAGE
  ⟨0x2700008, 8, 1, 8, 1, 0, 0, 0, 0, 0, 0, .f⟩,  -- BOOT_TIMES
  ⟨0x2700010, 8, 1, 8, 1, 0, 0, 0, 0, 0, 0, .f⟩,  -- BOOT_IMAGE
  ⟨0x2700018, 8, 1, 8, 1, 0, 0, 0, 0, 0, 0, .f⟩,  -- BOOT_LINKS
  ⟨0x2700020, 8, 1, 8, 1, 0xf01ff, 0, 0x8000000000000000, 0, 0, 0x80000, .w⟩,  -- BOOT_RESET
  ⟨0x2700028, 8, 1, 8, 1, 0, 0, 0, 0, 0, 0, .f⟩,  -- BOOT_RCAUSE
  ⟨0x2700030, 8, 1, 8, 1, 0, 7, 0, 0, 0, 0, .h⟩,  -- BOOT_STATUS
  ⟨0x2700040, 8, 48, 8, 1, 0, 0, 0, 0, 0, 0, .f⟩,  -- BOOT_SPANLANEl
  ⟨0x2800000, 8, 1, 8, 1, 0, 0xf, 0, 0, 0, 0x4000, .w⟩,  -- WDN_STATUS
  ⟨0x2800008, 8, 1, 8, 1, 0, 0, 0, 0, 0, 0, .w⟩,  -- WDN_FLOORS
  ⟨0x2800010, 8, 1, 8, 1, 0, 0x8000000000000000, 0, 0, 0, 0, .w⟩,  -- WDN_DENYLOG
  ⟨0x2800018, 8, 1, 8, 1, 0, 0, 0, 0xffffffff, 0, 0, .w⟩,  -- WDN_DENYCNT
  ⟨0x2800020, 8, 1, 8, 1, 0, 0, 0, 0xffffffffffffffff, 0, 0, .w⟩,  -- WDN_CALLCNT
  ⟨0x2800028, 8, 1, 8, 1, 0, 0, 0, 0, 0, 0, .w⟩]  -- WDN_DMAP

/-- Registers of the module blocks (BAR0 offset), part 5. -/
def modRegs5 : List RegSpec := [
  ⟨0x2900000, 8, 1, 8, 1, 3, 0, 0, 0, 0, 1, .f⟩,  -- MGT_CTRL
  ⟨0x2900008, 8, 1, 8, 1, 0, 0, 0, 0, 0, 0x100, .f⟩,  -- MGT_MP
  ⟨0x2900010, 8, 1, 8, 1, 0, 0, 0, 0, 0, 0, .f⟩,  -- MGT_LOG
  ⟨0x2900018, 8, 1, 8, 1, 0xffffffffffffffff, 0, 0, 0, 0, 0, .h⟩,  -- MGT_LOGRD
  ⟨0x2900020, 8, 1, 8, 1, 0, 0, 0, 0xffffffffffffffff, 0, 0, .f⟩,  -- MGT_LOGCNT
  ⟨0x2900028, 8, 1, 8, 1, 0xffff, 0, 0, 0, 0, 0, .h⟩,  -- MGT_LOGIDX
  ⟨0x2900030, 8, 8, 8, 1, 0, 0, 0, 0, 0, 0xffffffffffffffff, .f⟩,  -- MGT_LOGDATAj
  ⟨0x2900080, 8, 1, 8, 1, 0, 0, 0, 0, 0, 0, .f⟩,  -- MGT_TIME
  ⟨0x2900088, 8, 1, 8, 1, 0xffffffff, 0, 0, 0, 0, 0, .f⟩,  -- MGT_TIMERATE
  ⟨0x2900090, 8, 1, 8, 1, 0, 0, 0, 0, 0, 0, .f⟩,  -- MGT_TIMESTEP
  ⟨0x2900098, 8, 1, 8, 1, 0, 0, 0, 0, 0, 0, .f⟩,  -- MGT_TSTAT
  ⟨0x29000a0, 8, 1, 8, 1, 0xffff0fc000, 0, 0, 0, 0, 0x44000, .f⟩,  -- MGT_NET
  ⟨0x29000a8, 8, 2, 8, 1, 0xffffffffffffffff, 0, 0, 0, 0, 0, .f⟩,  -- MGT_NETADDRj
  ⟨0x29000b8, 8, 1, 8, 1, 0, 0, 0, 0, 0xffffffffffffffff, 0, .w⟩,  -- MGT_NETKEY
  ⟨0x29000c0, 8, 1, 8, 1, 0xffffffffffffffff, 0, 0, 0, 0, 0, .f⟩]  -- MGT_SHADOW

/-- Registers of the module blocks (BAR0 offset), part 6. -/
def modRegs6 : List RegSpec := [
  ⟨0x29000c8, 8, 1, 8, 1, 0xfffffffffffff, 0, 0, 0, 0, 0, .f⟩,  -- MGT_SHADOWLOC
  ⟨0x29000d0, 8, 1, 8, 1, 0, 0, 0, 0, 0, 0, .f⟩,  -- MGT_SHADOWCNT
  ⟨0x29000d8, 8, 1, 8, 1, 0xffffffff, 0, 0, 0, 0, 0, .f⟩,  -- MGT_SHADOWRD
  ⟨0x2a00000, 8, 1, 8, 1, 0, 0, 0, 0, 0, 0x804192840, .f⟩,  -- SMD_CAPS
  ⟨0x2a00008, 8, 1, 8, 1, 0x3ff0f01, 0, 0, 0, 0, 0x400, .f⟩,  -- SMD_CTRL
  ⟨0x2a00010, 8, 1, 8, 1, 0xffffffffffffffff, 0, 0, 0, 0, 0x481801f4003c0258, .f⟩,  -- SMD_PERIOD
  ⟨0x2a00018, 8, 1, 8, 1, 0xfffff, 0, 0, 0, 0, 0x3000a, .f⟩,  -- SMD_EMBER
  ⟨0x2a00020, 8, 1, 8, 1, 0, 0x1fff, 0, 0, 0, 0, .h⟩,  -- SMD_STATUS
  ⟨0x2a00028, 8, 1, 8, 1, 0, 0, 0, 0, 0, 0, .f⟩,  -- SMD_LAYOUT
  ⟨0x2a00030, 8, 1, 8, 1, 0, 0, 0, 0xffffffffffffffff, 0, 0, .f⟩,  -- SMD_CNT
  ⟨0x2a00038, 8, 1, 8, 1, 0, 0, 0, 0xffffffffffffffff, 0, 0, .f⟩,  -- SMD_CNT2
  ⟨0x2a00100, 8, 64, 8, 1, 0, 0, 0, 0, 0, 0x1100, .f⟩,  -- SMD_ROWr
  ⟨0x2a00300, 8, 8, 8, 1, 0, 0, 0, 0, 0, 0, .f⟩,  -- SMD_ABSENTj
  ⟨0x2b00000, 8, 1, 8, 1, 0, 0, 0, 0, 0, 0x100, .f⟩,  -- BCN_CAPS
  ⟨0x2b00008, 8, 1, 8, 1, 0, 0xf, 0, 0, 0, 0, .h⟩]  -- BCN_STATUS

/-- Registers of the module blocks (BAR0 offset), part 7. -/
def modRegs7 : List RegSpec := [
  ⟨0x2b01000, 128, 256, 8, 1, 0x77, 0, 0, 0, 0, 0, .f⟩,  -- BCN_GCFGg
  ⟨0x2b01008, 128, 256, 8, 1, 0, 0, 0, 0, 0, 0, .f⟩,  -- BCN_GSTATEg
  ⟨0x2b01010, 128, 256, 8, 1, 0, 0, 0, 0, 0, 0, .f⟩,  -- BCN_GVALUEg
  ⟨0x2b01018, 128, 256, 8, 1, 0, 0, 1, 0, 0, 0, .f⟩,  -- BCN_GCTLg
  ⟨0x2b01040, 128, 256, 8, 8, 0xffffffffffffffff, 0, 0, 0, 0, 0, .f⟩]  -- BCN_GMASKg_j

/-- Every register of the module blocks (BAR0 offset). -/
def modRegs : List RegSpec :=
  modRegs1 ++ modRegs2 ++ modRegs3 ++ modRegs4 ++ modRegs5 ++ modRegs6 ++ modRegs7

/-- An offset names an element of a register row. -/
def RegSpec.covers (r : RegSpec) (off : Nat) : Bool :=
  decide (r.base ≤ off) &&
    (let k := off - r.base
     if r.n2 = 1 then decide (k % r.s1 = 0) && decide (k / r.s1 < r.n1)
     else decide (k / r.s1 < r.n1) && decide ((k % r.s1) % r.s2 = 0) && decide ((k % r.s1) / r.s2 < r.n2))

/-- The row that covers an offset. -/
def findReg (off : Nat) : List RegSpec → Option RegSpec
  | [] => none
  | r :: rs => if r.covers off then some r else findReg off rs

/-- Base of the core page of logical core n (spec/00 R11). -/
def coreKey (n off : Nat) : Nat := n * 0x10000 + off
/-- Base of the die page of die d (spec/00 R11). -/
def dieKey (d off : Nat) : Nat := 0x2000000 + d * 0x100000 + off
/-- Where the registers of a physical slot stand while it holds no logical core (spec/13 R444). -/
def slotKey (p off : Nat) : Nat := 0x100000000 + p * 0x10000 + off

/-- The register at a key of the register store. -/
def regSpec (key : Nat) : Option RegSpec :=
  if key < 0x2000000 ∨ 0x100000000 ≤ key then findReg (key % 0x10000) coreRegs
  else if key < 0x2400000 then findReg (key % 0x100000) dieRegs
  else findReg key modRegs

/-- The value that a register holds after a cold start (R14); a reserved offset reads as zero (R13). -/
def regReset (key : Nat) : Word :=
  match regSpec key with
  | some r => BitVec.ofNat 64 r.reset
  | none => 0

/-! Offsets by name: within the page for core and die registers, from BAR0 for module registers. -/

/-- CORE_ID. -/
abbrev rCORE_ID : Nat := 0
/-- CORE_DOMAIN. -/
abbrev rCORE_DOMAIN : Nat := 8
/-- CORE_CAPS. -/
abbrev rCORE_CAPS : Nat := 0x10
/-- ARR_STATE. -/
abbrev rARR_STATE : Nat := 0x1000
/-- ARR_REPAIRa. -/
abbrev rARR_REPAIRa : Nat := 0x1010
/-- ARR_FUSEa. -/
abbrev rARR_FUSEa : Nat := 0x1030
/-- ARR_DIAG. -/
abbrev rARR_DIAG : Nat := 0x1050
/-- DRN_STATUS. -/
abbrev rDRN_STATUS : Nat := 0x2000
/-- DRN_CFGd. -/
abbrev rDRN_CFGd : Nat := 0x2010
/-- DRN_SEEDd. -/
abbrev rDRN_SEEDd : Nat := 0x2018
/-- DRN_AUXd. -/
abbrev rDRN_AUXd : Nat := 0x2020
/-- DRN_CKCFG. -/
abbrev rDRN_CKCFG : Nat := 0x2090
/-- DRN_CKLOG. -/
abbrev rDRN_CKLOG : Nat := 0x2098
/-- DRN_CKCNT. -/
abbrev rDRN_CKCNT : Nat := 0x20a0
/-- ROW_STATUS. -/
abbrev rROW_STATUS : Nat := 0x3000
/-- ROW_CAPS. -/
abbrev rROW_CAPS : Nat := 0x3008
/-- ROW_STATWINt. -/
abbrev rROW_STATWINt : Nat := 0x3010
/-- ROW_STATIDX. -/
abbrev rROW_STATIDX : Nat := 0x3030
/-- ROW_STATDATA0. -/
abbrev rROW_STATDATA0 : Nat := 0x3038
/-- ROW_STATDATA1. -/
abbrev rROW_STATDATA1 : Nat := 0x3040
/-- ROW_CNT. -/
abbrev rROW_CNT : Nat := 0x3048
/-- SEQ_CAPS. -/
abbrev rSEQ_CAPS : Nat := 0x4000
/-- SEQ_CTRL. -/
abbrev rSEQ_CTRL : Nat := 0x4008
/-- SEQ_CFG. -/
abbrev rSEQ_CFG : Nat := 0x4010
/-- SEQ_ISSUE. -/
abbrev rSEQ_ISSUE : Nat := 0x4018
/-- SEQ_TSTATt. -/
abbrev rSEQ_TSTATt : Nat := 0x4040
/-- SEQ_TDETAILt. -/
abbrev rSEQ_TDETAILt : Nat := 0x4048
/-- SEQ_TIMAGEt. -/
abbrev rSEQ_TIMAGEt : Nat := 0x4050
/-- SEQ_TTAGt. -/
abbrev rSEQ_TTAGt : Nat := 0x4058
/-- SEQ_TWAITt. -/
abbrev rSEQ_TWAITt : Nat := 0x4060
/-- SEQ_RSEL. -/
abbrev rSEQ_RSEL : Nat := 0x4140
/-- SEQ_RDATA. -/
abbrev rSEQ_RDATA : Nat := 0x4148
/-- SPAD_SIZE. -/
abbrev rSPAD_SIZE : Nat := 0x5000
/-- SPAD_PWR. -/
abbrev rSPAD_PWR : Nat := 0x5008
/-- SPAD_STATUS. -/
abbrev rSPAD_STATUS : Nat := 0x5010
/-- SPAD_CTRL. -/
abbrev rSPAD_CTRL : Nat := 0x5018
/-- SPAD_ECCCNT. -/
abbrev rSPAD_ECCCNT : Nat := 0x5020
/-- SPAD_ECCLOG. -/
abbrev rSPAD_ECCLOG : Nat := 0x5028
/-- SPAD_PAIRt_p. -/
abbrev rSPAD_PAIRt_p : Nat := 0x5040
/-- SPAD_CIRCr. -/
abbrev rSPAD_CIRCr : Nat := 0x5100
/-- SPAD_PTRr. -/
abbrev rSPAD_PTRr : Nat := 0x5108
/-- LAT_CAPS. -/
abbrev rLAT_CAPS : Nat := 0x6000
/-- LAT_STATUS. -/
abbrev rLAT_STATUS : Nat := 0x6008
/-- LAT_CTRL. -/
abbrev rLAT_CTRL : Nat := 0x6010
/-- LAT_STALLCFG. -/
abbrev rLAT_STALLCFG : Nat := 0x6018
/-- LAT_ROUTEi. -/
abbrev rLAT_ROUTEi : Nat := 0x6020
/-- LAT_SLACKi. -/
abbrev rLAT_SLACKi : Nat := 0x6040
/-- LAT_OCCi. -/
abbrev rLAT_OCCi : Nat := 0x6060
/-- LAT_CNTi. -/
abbrev rLAT_CNTi : Nat := 0x6080
/-- LAT_DISCARD. -/
abbrev rLAT_DISCARD : Nat := 0x60a0
/-- LAT_ECC. -/
abbrev rLAT_ECC : Nat := 0x60a8
/-- LAT_STALLLOG. -/
abbrev rLAT_STALLLOG : Nat := 0x60b0
/-- QUE_CAPS. -/
abbrev rQUE_CAPS : Nat := 0x7000
/-- QUE_STATUS. -/
abbrev rQUE_STATUS : Nat := 0x7008
/-- QUE_POSY. -/
abbrev rQUE_POSY : Nat := 0x7010
/-- QUE_CNT. -/
abbrev rQUE_CNT : Nat := 0x7018
/-- QUE_CNT2. -/
abbrev rQUE_CNT2 : Nat := 0x7020
/-- QUE_STATEq. -/
abbrev rQUE_STATEq : Nat := 0x7100
/-- QUE_CHANt_j. -/
abbrev rQUE_CHANt_j : Nat := 0x7300
/-- QUE_CHANPt. -/
abbrev rQUE_CHANPt : Nat := 0x7380
/-- QUE_MCLOGt_j. -/
abbrev rQUE_MCLOGt_j : Nat := 0x7400
/-- SHF_CAPS. -/
abbrev rSHF_CAPS : Nat := 0x8000
/-- SHF_STATUS. -/
abbrev rSHF_STATUS : Nat := 0x8008
/-- SHF_STATEs. -/
abbrev rSHF_STATEs : Nat := 0x8040
/-- SHF_COUNTs. -/
abbrev rSHF_COUNTs : Nat := 0x8080
/-- MESH_CAPS. -/
abbrev rMESH_CAPS : Nat := 0x9000
/-- MESH_STATUS. -/
abbrev rMESH_STATUS : Nat := 0x9008
/-- MESH_TMO. -/
abbrev rMESH_TMO : Nat := 0x9010
/-- MESH_DMA. -/
abbrev rMESH_DMA : Nat := 0x9018
/-- MESH_PORTp. -/
abbrev rMESH_PORTp : Nat := 0x9040
/-- MESH_CNTp. -/
abbrev rMESH_CNTp : Nat := 0x9080
/-- MESH_CNT. -/
abbrev rMESH_CNT : Nat := 0x90b0
/-- BCN_TAP. -/
abbrev rBCN_TAP : Nat := 0xa000
/-- BCN_TAPCNT. -/
abbrev rBCN_TAPCNT : Nat := 0xa008
/-- SEAL_CAPS. -/
abbrev rSEAL_CAPS : Nat := 0xb000
/-- SEAL_CTRL. -/
abbrev rSEAL_CTRL : Nat := 0xb008
/-- SEAL_EPOCH. -/
abbrev rSEAL_EPOCH : Nat := 0xb010
/-- SEAL_OWN. -/
abbrev rSEAL_OWN : Nat := 0xb018
/-- SEAL_STATUS. -/
abbrev rSEAL_STATUS : Nat := 0xb020
/-- SEAL_LOG. -/
abbrev rSEAL_LOG : Nat := 0xb028
/-- SEAL_CNT. -/
abbrev rSEAL_CNT : Nat := 0xb030
/-- SEAL_CNT2. -/
abbrev rSEAL_CNT2 : Nat := 0xb038
/-- SEAL_TDEPt. -/
abbrev rSEAL_TDEPt : Nat := 0xb040
/-- SEAL_BLKIDX. -/
abbrev rSEAL_BLKIDX : Nat := 0xb060
/-- SEAL_BLKDATA. -/
abbrev rSEAL_BLKDATA : Nat := 0xb068
/-- SEAL_LANEi. -/
abbrev rSEAL_LANEi : Nat := 0xb080
/-- EVC_CAPS. -/
abbrev rEVC_CAPS : Nat := 0xc000
/-- EVC_STATUS. -/
abbrev rEVC_STATUS : Nat := 0xc008
/-- EVC_CTL. -/
abbrev rEVC_CTL : Nat := 0xc010
/-- EVC_SELc. -/
abbrev rEVC_SELc : Nat := 0xc040
/-- EVC_CNTc. -/
abbrev rEVC_CNTc : Nat := 0xc080
/-- HTH_CAPS. -/
abbrev rHTH_CAPS : Nat := 0
/-- HTH_STATUS. -/
abbrev rHTH_STATUS : Nat := 8
/-- HTH_Ss_STATE. -/
abbrev rHTH_Ss_STATE : Nat := 0x40
/-- HTH_Ss_ECC. -/
abbrev rHTH_Ss_ECC : Nat := 0x48
/-- HTH_Ss_ECS. -/
abbrev rHTH_Ss_ECS : Nat := 0x50
/-- HTH_Ss_UELOG. -/
abbrev rHTH_Ss_UELOG : Nat := 0x58
/-- PEAT_CAPS. -/
abbrev rPEAT_CAPS : Nat := 0x10000
/-- PEAT_STATUS. -/
abbrev rPEAT_STATUS : Nat := 0x10008
/-- PEAT_Cc_CFG. -/
abbrev rPEAT_Cc_CFG : Nat := 0x10040
/-- PEAT_Cc_ECC. -/
abbrev rPEAT_Cc_ECC : Nat := 0x10048
/-- PEAT_Cc_UELOG. -/
abbrev rPEAT_Cc_UELOG : Nat := 0x10050
/-- PEAT_Cc_SCRUB. -/
abbrev rPEAT_Cc_SCRUB : Nat := 0x10058
/-- PEAT_Cc_PPR. -/
abbrev rPEAT_Cc_PPR : Nat := 0x10060
/-- PEAT_Cc_SCANCNT. -/
abbrev rPEAT_Cc_SCANCNT : Nat := 0x10068
/-- RTL_CAPS. -/
abbrev rRTL_CAPS : Nat := 0x20000
/-- RTL_STATUS. -/
abbrev rRTL_STATUS : Nat := 0x20008
/-- RTL_Pp_CFG. -/
abbrev rRTL_Pp_CFG : Nat := 0x20040
/-- RTL_Pp_STATE. -/
abbrev rRTL_Pp_STATE : Nat := 0x20048
/-- RTL_Pp_MAC. -/
abbrev rRTL_Pp_MAC : Nat := 0x20050
/-- RTL_Pp_FEC. -/
abbrev rRTL_Pp_FEC : Nat := 0x20058
/-- RTL_Pp_CNT. -/
abbrev rRTL_Pp_CNT : Nat := 0x20060
/-- RTL_Pp_DROP. -/
abbrev rRTL_Pp_DROP : Nat := 0x20068
/-- RTL_Pp_TSTX. -/
abbrev rRTL_Pp_TSTX : Nat := 0x20070
/-- RTL_Pp_TSRX. -/
abbrev rRTL_Pp_TSRX : Nat := 0x20078
/-- RTL_PEERp_TX. -/
abbrev rRTL_PEERp_TX : Nat := 0x20100
/-- RTL_PEERp_RX. -/
abbrev rRTL_PEERp_RX : Nat := 0x20108
/-- PWR_CAPS. -/
abbrev rPWR_CAPS : Nat := 0x30000
/-- PWR_STATUS. -/
abbrev rPWR_STATUS : Nat := 0x30008
/-- PWR_VCORE. -/
abbrev rPWR_VCORE : Nat := 0x30010
/-- PWR_PACE. -/
abbrev rPWR_PACE : Nat := 0x30018
/-- PWR_TEMP. -/
abbrev rPWR_TEMP : Nat := 0x30020
/-- PWR_LIMIT. -/
abbrev rPWR_LIMIT : Nat := 0x30028
/-- PWR_ENV. -/
abbrev rPWR_ENV : Nat := 0x30030
/-- PWR_MOD. -/
abbrev rPWR_MOD : Nat := 0x30038
/-- PWR_CNT. -/
abbrev rPWR_CNT : Nat := 0x30040
/-- PWR_ROWr. -/
abbrev rPWR_ROWr : Nat := 0x30100
/-- EVC_DCTL. -/
abbrev rEVC_DCTL : Nat := 0x40000
/-- EVC_DSELi. -/
abbrev rEVC_DSELi : Nat := 0x40100
/-- EVC_DCNTi. -/
abbrev rEVC_DCNTi : Nat := 0x40200
/-- MESH_SEAMj_STATE. -/
abbrev rMESH_SEAMj_STATE : Nat := 0x50000
/-- MESH_SEAMj_ERR. -/
abbrev rMESH_SEAMj_ERR : Nat := 0x50008
/-- MESH_SEAMj_RPR. -/
abbrev rMESH_SEAMj_RPR : Nat := 0x50010
/-- MESH_ESCIDX. -/
abbrev rMESH_ESCIDX : Nat := 0x50100
/-- MESH_ESCDATA. -/
abbrev rMESH_ESCDATA : Nat := 0x50108
/-- SMD_Ss_STATE. -/
abbrev rSMD_Ss_STATE : Nat := 0x60000
/-- SMD_Ss_LAST. -/
abbrev rSMD_Ss_LAST : Nat := 0x60008
/-- SMD_Ss_SIG. -/
abbrev rSMD_Ss_SIG : Nat := 0x60010
/-- SMD_Ss_COND. -/
abbrev rSMD_Ss_COND : Nat := 0x60018
/-- SMD_CMD. -/
abbrev rSMD_CMD : Nat := 0x62000
/-- SMD_PXSEL. -/
abbrev rSMD_PXSEL : Nat := 0x62008
/-- SMD_PXDATA. -/
abbrev rSMD_PXDATA : Nat := 0x62010
/-- TIER_CAPS. -/
abbrev rTIER_CAPS : Nat := 0x2400000
/-- TIER_STATUS. -/
abbrev rTIER_STATUS : Nat := 0x2400008
/-- TIER_HPOOL. -/
abbrev rTIER_HPOOL : Nat := 0x2400010
/-- TIER_PPOOL. -/
abbrev rTIER_PPOOL : Nat := 0x2400018
/-- TIER_MAP. -/
abbrev rTIER_MAP : Nat := 0x2400020
/-- TIER_POLICY. -/
abbrev rTIER_POLICY : Nat := 0x2400028
/-- TIER_CNT. -/
abbrev rTIER_CNT : Nat := 0x2400030
/-- TIER_CNT2. -/
abbrev rTIER_CNT2 : Nat := 0x2400038
/-- TIER_CNT3. -/
abbrev rTIER_CNT3 : Nat := 0x2400040
/-- TIER_LKIDX. -/
abbrev rTIER_LKIDX : Nat := 0x2400048
/-- TIER_LKDATA. -/
abbrev rTIER_LKDATA : Nat := 0x2400050
/-- SPAN_CAPS. -/
abbrev rSPAN_CAPS : Nat := 0x2500000
/-- SPAN_IDENT. -/
abbrev rSPAN_IDENT : Nat := 0x2500008
/-- SPAN_STATUS. -/
abbrev rSPAN_STATUS : Nat := 0x2500010
/-- SPAN_CTRL. -/
abbrev rSPAN_CTRL : Nat := 0x2500018
/-- SPAN_CTRL2. -/
abbrev rSPAN_CTRL2 : Nat := 0x2500020
/-- SPAN_ETH. -/
abbrev rSPAN_ETH : Nat := 0x2500028
/-- SPAN_CNT. -/
abbrev rSPAN_CNT : Nat := 0x2500030
/-- SPAN_CNT2. -/
abbrev rSPAN_CNT2 : Nat := 0x2500038
/-- SPAN_CNT3. -/
abbrev rSPAN_CNT3 : Nat := 0x2500040
/-- SPAN_CNT4. -/
abbrev rSPAN_CNT4 : Nat := 0x2500048
/-- SPAN_KEYIDX. -/
abbrev rSPAN_KEYIDX : Nat := 0x2500080
/-- SPAN_KEYDATA. -/
abbrev rSPAN_KEYDATA : Nat := 0x2500088
/-- SPAN_KEYSTAT. -/
abbrev rSPAN_KEYSTAT : Nat := 0x2500090
/-- SPAN_WINw_BASE. -/
abbrev rSPAN_WINw_BASE : Nat := 0x2510000
/-- SPAN_WINw_LIMIT. -/
abbrev rSPAN_WINw_LIMIT : Nat := 0x2510008
/-- SPAN_WINw_CTRL. -/
abbrev rSPAN_WINw_CTRL : Nat := 0x2510010
/-- SPAN_WINw_CNT. -/
abbrev rSPAN_WINw_CNT : Nat := 0x2510018
/-- SPAN_ETHPEERi. -/
abbrev rSPAN_ETHPEERi : Nat := 0x2540000
/-- SPAN_ROUTEd. -/
abbrev rSPAN_ROUTEd : Nat := 0x2580000
/-- CXL_IDENT. -/
abbrev rCXL_IDENT : Nat := 0x2610000
/-- CXL_HSTAT. -/
abbrev rCXL_HSTAT : Nat := 0x2610008
/-- CXL_STATUS. -/
abbrev rCXL_STATUS : Nat := 0x2610010
/-- CXL_FE. -/
abbrev rCXL_FE : Nat := 0x2610018
/-- CXL_MEMRANGEi. -/
abbrev rCXL_MEMRANGEi : Nat := 0x2610040
/-- CXL_SFCNT. -/
abbrev rCXL_SFCNT : Nat := 0x2610060
/-- CXL_MBCMD. -/
abbrev rCXL_MBCMD : Nat := 0x2611000
/-- CXL_MBRES. -/
abbrev rCXL_MBRES : Nat := 0x2611008
/-- CXL_RINGr_SQ. -/
abbrev rCXL_RINGr_SQ : Nat := 0x2620000
/-- CXL_RINGr_CQ. -/
abbrev rCXL_RINGr_CQ : Nat := 0x2620008
/-- CXL_RINGr_PL. -/
abbrev rCXL_RINGr_PL : Nat := 0x2620010
/-- CXL_RINGr_CFG. -/
abbrev rCXL_RINGr_CFG : Nat := 0x2620018
/-- CXL_RINGr_STAT. -/
abbrev rCXL_RINGr_STAT : Nat := 0x2620020
/-- CXL_RINGr_WR. -/
abbrev rCXL_RINGr_WR : Nat := 0x2620028
/-- CXL_RINGr_LIMIT. -/
abbrev rCXL_RINGr_LIMIT : Nat := 0x2620030
/-- CXL_RINGr_CNT. -/
abbrev rCXL_RINGr_CNT : Nat := 0x2620038
/-- BOOT_STAGE. -/
abbrev rBOOT_STAGE : Nat := 0x2700000
/-- BOOT_TIMES. -/
abbrev rBOOT_TIMES : Nat := 0x2700008
/-- BOOT_IMAGE. -/
abbrev rBOOT_IMAGE : Nat := 0x2700010
/-- BOOT_LINKS. -/
abbrev rBOOT_LINKS : Nat := 0x2700018
/-- BOOT_RESET. -/
abbrev rBOOT_RESET : Nat := 0x2700020
/-- BOOT_RCAUSE. -/
abbrev rBOOT_RCAUSE : Nat := 0x2700028
/-- BOOT_STATUS. -/
abbrev rBOOT_STATUS : Nat := 0x2700030
/-- BOOT_SPANLANEl. -/
abbrev rBOOT_SPANLANEl : Nat := 0x2700040
/-- WDN_STATUS. -/
abbrev rWDN_STATUS : Nat := 0x2800000
/-- WDN_FLOORS. -/
abbrev rWDN_FLOORS : Nat := 0x2800008
/-- WDN_DENYLOG. -/
abbrev rWDN_DENYLOG : Nat := 0x2800010
/-- WDN_DENYCNT. -/
abbrev rWDN_DENYCNT : Nat := 0x2800018
/-- WDN_CALLCNT. -/
abbrev rWDN_CALLCNT : Nat := 0x2800020
/-- WDN_DMAP. -/
abbrev rWDN_DMAP : Nat := 0x2800028
/-- MGT_CTRL. -/
abbrev rMGT_CTRL : Nat := 0x2900000
/-- MGT_MP. -/
abbrev rMGT_MP : Nat := 0x2900008
/-- MGT_LOG. -/
abbrev rMGT_LOG : Nat := 0x2900010
/-- MGT_LOGRD. -/
abbrev rMGT_LOGRD : Nat := 0x2900018
/-- MGT_LOGCNT. -/
abbrev rMGT_LOGCNT : Nat := 0x2900020
/-- MGT_LOGIDX. -/
abbrev rMGT_LOGIDX : Nat := 0x2900028
/-- MGT_LOGDATAj. -/
abbrev rMGT_LOGDATAj : Nat := 0x2900030
/-- MGT_TIME. -/
abbrev rMGT_TIME : Nat := 0x2900080
/-- MGT_TIMERATE. -/
abbrev rMGT_TIMERATE : Nat := 0x2900088
/-- MGT_TIMESTEP. -/
abbrev rMGT_TIMESTEP : Nat := 0x2900090
/-- MGT_TSTAT. -/
abbrev rMGT_TSTAT : Nat := 0x2900098
/-- MGT_NET. -/
abbrev rMGT_NET : Nat := 0x29000a0
/-- MGT_NETADDRj. -/
abbrev rMGT_NETADDRj : Nat := 0x29000a8
/-- MGT_NETKEY. -/
abbrev rMGT_NETKEY : Nat := 0x29000b8
/-- MGT_SHADOW. -/
abbrev rMGT_SHADOW : Nat := 0x29000c0
/-- MGT_SHADOWLOC. -/
abbrev rMGT_SHADOWLOC : Nat := 0x29000c8
/-- MGT_SHADOWCNT. -/
abbrev rMGT_SHADOWCNT : Nat := 0x29000d0
/-- MGT_SHADOWRD. -/
abbrev rMGT_SHADOWRD : Nat := 0x29000d8
/-- SMD_CAPS. -/
abbrev rSMD_CAPS : Nat := 0x2a00000
/-- SMD_CTRL. -/
abbrev rSMD_CTRL : Nat := 0x2a00008
/-- SMD_PERIOD. -/
abbrev rSMD_PERIOD : Nat := 0x2a00010
/-- SMD_EMBER. -/
abbrev rSMD_EMBER : Nat := 0x2a00018
/-- SMD_STATUS. -/
abbrev rSMD_STATUS : Nat := 0x2a00020
/-- SMD_LAYOUT. -/
abbrev rSMD_LAYOUT : Nat := 0x2a00028
/-- SMD_CNT. -/
abbrev rSMD_CNT : Nat := 0x2a00030
/-- SMD_CNT2. -/
abbrev rSMD_CNT2 : Nat := 0x2a00038
/-- SMD_ROWr. -/
abbrev rSMD_ROWr : Nat := 0x2a00100
/-- SMD_ABSENTj. -/
abbrev rSMD_ABSENTj : Nat := 0x2a00300
/-- BCN_CAPS. -/
abbrev rBCN_CAPS : Nat := 0x2b00000
/-- BCN_STATUS. -/
abbrev rBCN_STATUS : Nat := 0x2b00008
/-- BCN_GCFGg. -/
abbrev rBCN_GCFGg : Nat := 0x2b01000
/-- BCN_GSTATEg. -/
abbrev rBCN_GSTATEg : Nat := 0x2b01008
/-- BCN_GVALUEg. -/
abbrev rBCN_GVALUEg : Nat := 0x2b01010
/-- BCN_GCTLg. -/
abbrev rBCN_GCTLg : Nat := 0x2b01018
/-- BCN_GMASKg_j. -/
abbrev rBCN_GMASKg_j : Nat := 0x2b01040

end Sys2Proof.Machine
end

