-- ==== Sys2Proof/Machine/SealTypes.lean ====
section
/-! DEFINITION. The state of seal logic: a core's, and a die's seal directory (spec/12 R381 to R394). -/

namespace Sys2Proof.Machine

/-- Window states at the producer (R385). -/
inductive WinState | opened | sealed | retracted
  deriving DecidableEq, Repr

/-- A window at its producer (R381, R382, R385). `latDeps`: input links and token counts it depends on (R403);
`links`: output links that took its tokens (R404); `flags`: the arithmetic flags that travelled with it (spec/01 R49). -/
structure SealWin where
  epoch   : BitVec 32
  task    : Nat
  unit    : Nat
  job     : BitVec 32
  st      : WinState
  passed  : Bool
  failed  : Bool
  bounded : Bool
  loss    : Bool
  flags   : Flags
  nonrep  : Bool
  depth   : Nat
  deps    : List (ProdKey × BitVec 32)
  latDeps : List (Nat × Nat)
  links   : List Nat
  deriving DecidableEq, Repr

/-- States of a reference (R386). -/
inductive RefState | opened | retracted | lapsed
  deriving DecidableEq, Repr

/-- A reference of a 4 KiB block to a producer epoch (R386 to R388). `lines`: bit i set once line i has been written
whole after the reference left OPEN. -/
structure SealRef where
  block : Nat
  key   : ProdKey
  epoch : BitVec 32
  own   : Bool
  st    : RefState
  depth : Nat
  lines : BitVec 64
  deriving DecidableEq, Repr

/-- A reference-table entry for a foreign epoch: up to four ranges of blocks (first, count), its lapse deadline and whether
that has passed (R389, R390). -/
structure SealEntry where
  key    : ProdKey
  epoch  : BitVec 32
  ranges : List (Nat × Nat)
  due    : Nat
  lapsed : Bool
  deriving DecidableEq, Repr

/-- A subscriber of an epoch (R393), and the verdict that waits for its NOTICEs to be acknowledged (R394). -/
structure SealSub where
  key    : ProdKey
  epoch  : BitVec 32
  dst    : SealEnd
  queued : Option SealMsg
  deriving DecidableEq, Repr

/-- A seal message sent and not yet answered, how often it was resent, and when it was last sent (R394). -/
structure SealOut where
  id    : Nat
  dst   : SealEnd
  msg   : SealMsg
  tries : Nat
  since : Nat
  deriving DecidableEq, Repr

/-- A read that waits until every NOTICE it caused is acknowledged (R393): the ids of those NOTICEs, and what the checks of its lines report. -/
structure SealRead where
  id      : Nat
  pkt     : Packet
  errs    : LineErrs
  waiting : List Nat
  deriving DecidableEq, Repr

/-- One seal logic or seal directory. -/
structure SealUnit where
  next    : BitVec 32
  incarn  : BitVec 16
  wins    : List SealWin
  refs    : List SealRef
  entries : List SealEntry
  subs    : List SealSub
  outs    : List SealOut
  reads   : List SealRead
  ids     : Nat
  deriving DecidableEq, Repr

/-- Seal logic that holds nothing. INCARN is drawn in Stage 3 (R384). -/
def SealUnit.zero : SealUnit := ⟨0, 0, [], [], [], [], [], [], 0⟩

end Sys2Proof.Machine
end

