-- ==== Sys2Proof/Machine/SpanTypes.lean ====
section
/-! DEFINITION. The state of the span fabric: ports and their links, send and reorder contexts, operations, released requests, link
keys (spec/10 R309 to R350). -/

namespace Sys2Proof.Machine

/-! ## Ports (R319 to R325) -/

/-- A span packet that waits at a port: hops left, its bytes, and since when it has been at the module (R322). -/
structure OutFrame where
  ttl   : Nat
  body  : Bytes
  since : Nat
  deriving DecidableEq, Repr

/-- A frame received and not yet taken: the credits that its buffer space holds, and its span packet. -/
structure RxFrame where
  rsp   : Bool
  units : Nat
  body  : Bytes
  deriving DecidableEq, Repr

/-- What a port put on its link: a frame as octets, or priority-based flow control. -/
inductive TxFrame
  | octets (b : Bytes)
  | pfc (prio : BitVec 3) (xoff : Bool)
  deriving DecidableEq, Repr

/-- A frame that has departed and that RCVD does not count: its credits, and when it left (R321). -/
structure Flight where
  units : Nat
  at_   : Nat
  deriving DecidableEq, Repr

/-- One virtual channel of a direct link (R321): frames that wait; credits sent, and RCVD and FREED as the peer last told them; frames
in flight, in the order in which they left; this end's own RCVD and FREED, and FREED as last told. -/
structure Vc where
  queue   : List OutFrame
  sent    : BitVec 32
  rcvdBy  : BitVec 32
  freedBy : BitVec 32
  flying  : List Flight
  rcvd    : BitVec 32
  freed   : BitVec 32
  told    : BitVec 32
  deriving DecidableEq, Repr

/-- A channel of an idle link. -/
def Vc.zero : Vc := ⟨[], 0, 0, 0, [], 0, 0, 0⟩

/-- A span port: its channels for requests and responses, the priorities that the far end has stopped, frames received, frames put on the
link by the last command that sent any, T_TX and arrival of the last TIME frame, and the priorities for which XOFF stands. -/
structure SpanPort where
  req    : Vc
  rsp    : Vc
  paused : BitVec 8
  rx     : List RxFrame
  tx     : List TxFrame
  peerTx : Word
  peerRx : Word
  xoff   : BitVec 8
  deriving DecidableEq, Repr

/-- A port that has done nothing. -/
def SpanPort.zero : SpanPort := ⟨.zero, .zero, 0, [], [], 0, 0, 0⟩

/-! ## Contexts and operations (R329 to R335) -/

/-- A send context: peer device and class, SESSION, NEXT, and when it last sent. -/
structure SendCtx where
  dev     : BitVec 16
  prompt  : Bool
  session : BitVec 16
  next    : BitVec 32
  since   : Nat
  deriving DecidableEq, Repr

/-- A FENCE packet that is released and held until requests before it are answered (R334). -/
structure FenceWait where
  pkt   : Packet
  waits : List (BitVec 32)
  deriving DecidableEq, Repr

/-- A reorder context: source device and class, SESSION, EXPECT, held packets, when it last received, when EXPECT last advanced, and
FENCE packets held. -/
structure RecvCtx where
  dev     : BitVec 16
  prompt  : Bool
  session : BitVec 16
  expect  : BitVec 32
  held    : List SpanPkt
  since   : Nat
  moved   : Nat
  fences  : List FenceWait
  deriving DecidableEq, Repr

/-- A released request delivered to its endpoint and not yet answered: the mesh TAG, the request, and the TIER preference of the window
that admitted it. -/
structure SpanIn where
  tag  : BitVec 32
  req  : SpanPkt
  tier : Nat
  deriving DecidableEq, Repr

/-- An operation of this module (R335): the die that holds it, its TAG, the mesh request, the peer, responses awaited and come, data
pieces by offset, the first STATUS other than OK, and the payload of a reply. -/
structure SpanOp where
  die    : Nat
  tag    : BitVec 32
  req    : Packet
  dev    : BitVec 16
  pieces : Nat
  got    : Nat
  parts  : List (Nat × Bytes)
  status : RespStatus
  reply  : Bytes
  since  : Nat
  deriving DecidableEq, Repr

/-- A link key (R343 to R345): key and salt, validity, the next transmit counter, and the highest counter that a receive key
authenticated. -/
structure SpanKey where
  key   : BitVec 128
  salt  : BitVec 32
  valid : Bool
  ctr   : Nat
  high  : Option Nat
  deriving DecidableEq, Repr

/-- No key. -/
def SpanKey.zero : SpanKey := ⟨0, 0, false, 0, .none⟩

/-- The span engines and ports. `owed`: responses that wait for a send context; `keys` by slot × 4 + phase × 2 + direction (1 receive); `sessions` and `lastPort` by die. -/
structure SpanSt where
  ports    : Tab SpanPort
  sends    : List SendCtx
  recvs    : List RecvCtx
  ins      : List SpanIn
  ops      : List SpanOp
  owed     : List SpanPkt
  nextTag  : BitVec 32
  sessions : Tab (BitVec 16)
  lastPort : Tab Nat
  keys     : Tab SpanKey
  txPhase  : Tab Nat
  deriving DecidableEq, Repr

/-- Engines that have seen no traffic. -/
def SpanSt.zero : SpanSt := ⟨[], [], [], [], [], [], 0, [], [], [], []⟩

end Sys2Proof.Machine
end

