-- ==== Sys2Proof/Machine/State.lean ====
section
/-! DEFINITION. The state of the module (INVENTORY.md, State), the reasons a step can stop, and the state right
after a cold start. -/

namespace Sys2Proof.Machine

/-- Why the machine stops with a fault. No command of this block stops it so: the spec gives every error an effect
on the state (an end code, an error record, a refusal status). Uninhabited: safe, since nothing can be proved of a stop
that never happens. -/
inductive Fault
  deriving DecidableEq, Repr

/-- Why a command has no meaning. -/
inductive Refusal
  /-- Raised by the dispatch for a command whose meaning is not written; safe: the run stops. -/
  | notModelled (mnemonic : String)
  /-- Raised by an access to the CXL component registers (spec/11 R353), which the spec places but does not lay out;
  safe: the run stops. -/
  | cxlComponentRegister
  deriving DecidableEq, Repr

/-- A token or marker on the route of a logical link (core × 4 + link of its near end): it is on the way to the slot of the route at place
pos + 1 (spec/06 R191, R192). Items of one route stand in the order in which they entered it. -/
structure WireItem where
  link : Nat
  pos  : Nat
  item : LatItem
  deriving DecidableEq, Repr

/-- A move of a row's resting slot under way (spec/13 R429, R430): the slot that is to become the resting slot, the logical cores that
have still to migrate in order, those frozen, those that are not copied (R431), and whether the target is tested then, for a TEST
command or not. `cmd`: a MOVE_RESTING waits for it; `bad`: the move follows a fence, so that its end is reported (R432). `since`: when it began;
`times`: when each core froze (R431); `copies`: TAGs of its MIGRATE packets that have no response, none before a copy begins. -/
structure Move where
  target : Nat
  cols   : List Nat
  frozen : List Nat
  skip   : List Nat
  test   : Bool
  cmd    : Bool
  bad    : Bool
  since  : Nat
  times  : List (Nat × Nat)
  copies : Option (List (BitVec 32))
  deriving DecidableEq, Repr

/-- The slots of a physical row that hold no logical core, whether a layout revision of it is under way, the columns that the image
withholds, a move under way, and the resting slot that an active conditional fence displaced (spec/13 R413, R414, R440, spec/14 R459). `slice`: the
slot on which a slice runs in place (R425); `up`, `stepAt`: the direction of the sweep and the time of its last step (R427); `copyNo`: copies
begun, the generation of their TAGs. -/
structure RowMap where
  u        : BitVec 9
  revising : Bool
  withheld : BitVec 8
  move     : Option Move
  rest     : Nat
  slice    : Option Nat
  up       : Bool
  stepAt   : Nat
  copyNo   : BitVec 8
  deriving DecidableEq, Repr

/-- A row as the reset columns of SMD_ROWr give it: the kindling core rests at slot 8. -/
def RowMap.initial : RowMap := ⟨0x100, false, 0, .none, 8, .none, false, 0, 0⟩

/-- The context pool and the peat population (spec/09 R282, R290). -/
structure Pool where
  hbase : Nat
  hsize : Nat
  pbase : Nat
  psize : Nat
  map   : Nat
  chans : List Nat
  chanBytes : Nat
  deriving DecidableEq, Repr

/-- No pool and no peat: before Stage 2. -/
def Pool.zero : Pool := ⟨0, 0, 0, 0, 0, [], 0⟩

/-- A test under way on a slot (spec/13 R416 to R425): in place or not, the slice whose result comes next (40 the march), whether that
slice runs again after a repair, whether a pinch slice has failed, whether the pass includes the pinch test and how many slices of it are
done, whether a TEST command waits for it, the earliest time of the next slice in place (R425), and whether a slice of the pass has failed. -/
structure TestRun where
  inPlace : Bool
  next    : Nat
  again   : Bool
  failed  : Bool
  pinch   : Bool
  pinched : Nat
  cmd     : Bool
  sliceAt : Nat
  slipped : Bool
  deriving DecidableEq, Repr

/-- A physical slot: its service state under spec/00 R18, power, isolation and reset of its compute domain, power of its router domain
(spec/02 CORE_DOMAIN), and what the smoulder rotation keeps of it (spec/13 R416 to R426): the state before a test, the test under way,
passes begun, passing passes and failing slices since cold start, whether it is placed first, times of attributed failures, times and
cells of pinch failures, recorded condition cells, cells of failures while fenced, whether its conditional fence is active, SMD_Ss_LAST,
SMD_Ss_SIG, consecutive good passes while fenced, times of its last passing pass and pinch pass, whether a repair was journaled since
its FENCE entry, and when it entered WATCH or last failed there. -/
structure Slot where
  service  : Nat
  on       : Bool
  iso      : Bool
  rst      : Bool
  routerOn : Bool
  prior    : Nat
  test     : Option TestRun
  passNo   : Nat
  passes   : Nat
  fails    : Nat
  first    : Bool
  attr     : List Nat
  pinch    : List (Nat × Nat)
  cells    : List Nat
  failCells : List Nat
  condActive : Bool
  last     : Word
  sig      : Word
  streak   : Nat
  passedAt : Option Nat
  pinchAt  : Option Nat
  repaired : Bool
  watchAt  : Nat
  dueAt    : Nat
  deriving DecidableEq, Repr

/-- A slot with a service state and nothing recorded. -/
def Slot.plain (service : Nat) (on iso rst routerOn : Bool) : Slot :=
  { service := service, on := on, iso := iso, rst := rst, routerOn := routerOn, prior := 0, test := .none, passNo := 0, passes := 0
    fails := 0, first := false, attr := [], pinch := [], cells := [], failCells := [], condActive := false, last := 0, sig := 0, streak := 0
    passedAt := .none, pinchAt := .none, repaired := false, watchAt := 0, dueAt := 0 }

/-- A slot after a cold start: powered, held in reset; slot 8 of a row stands in, the others are in service. -/
def Slot.initial (p : Nat) : Slot := Slot.plain (if p % 9 = 8 then 1 else 0) true false true true

/-- The identity map entry of name i: FRAME and OCC are i (spec/09 R291). -/
def mapIdentity (i : Nat) : Word := BitVec.ofNat 64 (i * 2 ^ 27 + i)

/-- States of a barrier group's round (spec/08 R274). -/
inductive BeaconPhase | idle | gathering | releasing | fault
  deriving DecidableEq, Repr

/-- The root's part of a barrier group (spec/08 R274): joins of the present round and joins held for the next, with their
values. -/
structure Beacon where
  phase  : BeaconPhase
  round  : Nat
  joined : List (Nat × Word)
  held   : List (Nat × Word)
  deriving DecidableEq, Repr

/-- A group that has had no round. -/
def Beacon.zero : Beacon := ⟨.idle, 0, [], []⟩

/-- A mesh router (spec/08 R256 to R263), by input port × 4 + virtual channel: flits buffered, whether flits are discarded up to
the next tail, whether the packet passing carries KILL, and where it goes (output port × 4 + channel); by output port × 4 + channel: free
credits, the input whose packet has the channel up to its tail, and the flits of a packet that leave the mesh at a LOCAL or ring port. `discards`:
packets for an isolated compute domain that were discarded (spec/02 R57). Ports are numbered as in MESH_PORTp. -/
structure Router where
  bufs    : Tab (List Flit)
  drop    : Tab Bool
  kill    : Tab Bool
  route   : Tab (Option Nat)
  credits : Tab Nat
  owner   : Tab (Option Nat)
  asm     : Tab (List Flit)
  discards : Nat
  deriving DecidableEq, Repr

/-- A router with empty buffers and all credits. -/
def Router.zero : Router := ⟨[], [], [], [], [], [], [], 0⟩

/-- A flit on a mesh link: the router and the input port that it reaches next. -/
structure FlitWire where
  at_  : Nat
  port : Nat
  flit : Flit
  deriving DecidableEq, Repr

/-- The module. `freeIdx`: how many free values have been drawn; `rd`: what the last register read returned. `steer`: logical links (core × 4 + link) whose new steering
waits for their route to be empty, with the route that tokens on it still take (spec/06 R194). -/
structure State where
  pending : List Instr
  freeIdx : Nat
  rd      : Word
  time    : Nat
  regs    : Tab Word
  ram     : Tab Byte
  hostMem : Tab Byte
  otp     : Tab Byte
  boot    : Boot
  badLines : List Nat
  badWords : List Nat
  ceWords : List Nat
  rows    : Tab RowMap
  slots   : Tab Slot
  dmap    : List Word
  pool    : Pool
  tierMap : Tab Word
  tier    : Tier
  jobs    : Tab (Option Job)
  rings   : Tab Ring
  digests : List DigestJob
  port    : HostPort
  span    : SpanSt
  wdn     : Wdn
  power   : Power
  cores   : Tab Core
  seals   : Tab SealUnit
  beacons : Tab Beacon
  net     : List Packet
  landed  : List Packet
  routers : Tab Router
  flits   : List FlitWire
  esc     : Tab Nat
  escNew  : Option (Tab Nat × Bool)
  seamWires : Tab Nat
  wires   : List WireItem
  steer   : Tab (Option (List Nat))
  early   : List Bytes
  netQ    : List Bytes
  deriving DecidableEq, Repr

/-- The module right after power-good is asserted for the first time. -/
def State.reset : State :=
  { pending := [], freeIdx := 0, rd := 0, time := 0, regs := [], ram := [], hostMem := [], otp := [], boot := .zero, badLines := [], badWords := []
    ceWords := [], rows := [], slots := [], dmap := [], pool := .zero, tierMap := [], tier := .zero, jobs := [], rings := [], digests := [], port := .zero, span := .zero, wdn := .zero, power := .zero, cores := [], seals := [], beacons := [], net := []
    routers := [], landed := [], flits := [], esc := [], escNew := none, seamWires := [], wires := [], steer := []
    early := [], netQ := [] }

end Sys2Proof.Machine
end

