-- ==== Sys2Proof/Machine/Ops.lean ====
section
/-! DEFINITION. The operations on the state that every meaning is written with: registers and their counters, the
kindling map, the local address map, memory with its uncorrectable lines, error records, and the life of a task. -/

namespace Sys2Proof.Machine

/-! ## Registers -/

/-- The stored value of a register. -/
def State.reg (s : State) (k : Nat) : Word := tget regReset s.regs k
/-- A register set. -/
def State.setReg (s : State) (k : Nat) (v : Word) : State := { s with regs := tset regReset s.regs k v }
/-- A field of a register. -/
def State.regField (s : State) (k hi lo : Nat) : Nat := field (s.reg k) hi lo
/-- A field of a register set. -/
def State.setRegField (s : State) (k hi lo v : Nat) : State := s.setReg k (setField (s.reg k) hi lo v)
/-- Bits of a register set: a status condition. -/
def State.orReg (s : State) (k m : Nat) : State := s.setReg k (s.reg k ||| BitVec.ofNat 64 m)
/-- A counter field raised by n, saturating at all ones. -/
def State.count (s : State) (k hi lo n : Nat) : State :=
  s.setRegField k hi lo (satAdd (hi + 1 - lo) (s.regField k hi lo) n)

/-- Bit b of a status register of core n. -/
def State.coreStat (s : State) (n off b : Nat) : State := s.orReg (coreKey n off) (2 ^ b)

/-- A log register written once: it holds the first event since its VALID bit was last cleared. -/
def State.logOnce (s : State) (k valid : Nat) (v : Word) : State :=
  if bitOf (s.reg k) valid then s else s.setReg k (setBit v valid true)

/-! ## Time and free values -/

/-- The module time base in nanoseconds (spec/15 R497). -/
def State.ns (s : State) : Nat := (s.time >>> 32) % 2 ^ 64

/-- A value that nothing constrains, and the state that will draw another next. -/
def State.fresh (s : State) : Word × State := (Config.freeWord s.freeIdx, { s with freeIdx := s.freeIdx + 1 })

/-! ## Cores and the kindling map -/

/-- Default of a table of cores. -/
def dCore : Nat → Core := fun _ => .zero
/-- Default of a table of tasks. -/
def dTask : Nat → Task := fun _ => .zero
/-- Default of a table of arrays. -/
def dArray : Nat → ArraySt := fun _ => .zero
/-- Default of a table of drains. -/
def dDrain : Nat → Drain := fun _ => .zero
/-- Default of a table of links. -/
def dLink : Nat → Link := fun _ => .zero
/-- Default of a table of words. -/
def dWord : Nat → Word := fun _ => 0

/-- Logical core n. -/
def State.core (s : State) (n : Nat) : Core := tget dCore s.cores n
/-- Logical core n replaced. -/
def State.setCore (s : State) (n : Nat) (c : Core) : State := { s with cores := tset dCore s.cores n c }
/-- Logical core n changed. -/
def State.modCore (s : State) (n : Nat) (f : Core → Core) : State := s.setCore n (f (s.core n))

/-- Task slot t. -/
def Core.task (c : Core) (t : Nat) : Task := tget dTask c.tasks t
/-- Task slot t replaced. -/
def Core.setTask (c : Core) (t : Nat) (k : Task) : Core := { c with tasks := tset dTask c.tasks t k }
/-- Array a. -/
def Core.array (c : Core) (a : Nat) : ArraySt := tget dArray c.arrays a
/-- Array a replaced. -/
def Core.setArray (c : Core) (a : Nat) (x : ArraySt) : Core := { c with arrays := tset dArray c.arrays a x }
/-- Drain d. -/
def Core.drain (c : Core) (d : Nat) : Drain := tget dDrain c.drains d
/-- Drain d replaced. -/
def Core.setDrain (c : Core) (d : Nat) (x : Drain) : Core := { c with drains := tset dDrain c.drains d x }
/-- Lattice link i: 0 N, 1 E, 2 S, 3 W. -/
def Core.link (c : Core) (i : Nat) : Link := tget dLink c.links i
/-- Lattice link i replaced. -/
def Core.setLink (c : Core) (i : Nat) (l : Link) : Core := { c with links := tset dLink c.links i l }
/-- Circular region r. -/
def Core.circ (c : Core) (r : Nat) : Circ := tget (fun _ => Circ.zero) c.circs r
/-- Circular region r replaced. -/
def Core.setCirc (c : Core) (r : Nat) (x : Circ) : Core := { c with circs := tset (fun _ => Circ.zero) c.circs r x }
/-- Receive queue q, when owned and configured. -/
def Core.queue (c : Core) (q : Nat) : Option RQueue := tget (fun _ => none) c.queues q
/-- Receive queue q set or removed. -/
def Core.setQueue (c : Core) (q : Nat) (x : Option RQueue) : Core :=
  { c with queues := tset (fun _ => none) c.queues q x }
/-- Sheaf h, when owned and configured. -/
def Core.sheaf (c : Core) (h : Nat) : Option Sheaf := tget (fun _ => none) c.sheaves h
/-- Sheaf h set or removed. -/
def Core.setSheaf (c : Core) (h : Nat) (x : Option Sheaf) : Core :=
  { c with sheaves := tset (fun _ => none) c.sheaves h x }
/-- Generation of receive queue q. -/
def Core.genOf (c : Core) (q : Nat) : BitVec 8 := tget (fun _ => 0) c.qgen q
/-- Generation of sheaf h. -/
def Core.sgenOf (c : Core) (h : Nat) : BitVec 8 := tget (fun _ => 0) c.sgen h
/-- Configuration slot i. -/
def Core.cfgSlot (c : Core) (i : Nat) : Option CfgSlot := tget (fun _ => none) c.cfg i

/-- Task slot t of core n. -/
def State.task (s : State) (n t : Nat) : Task := (s.core n).task t
/-- Task slot t of core n replaced. -/
def State.setTask (s : State) (n t : Nat) (k : Task) : State := s.modCore n (fun c => c.setTask t k)
/-- Task slot t of core n changed. -/
def State.modTask (s : State) (n t : Nat) (f : Task → Task) : State := s.setTask n t (f (s.task n t))

/-- Row r of the kindling map. -/
def State.row (s : State) (r : Nat) : RowMap := tget (fun _ => RowMap.initial) s.rows r
/-- Row r replaced. -/
def State.setRow (s : State) (r : Nat) (m : RowMap) : State :=
  { s with rows := tset (fun _ => RowMap.initial) s.rows r m }
/-- Physical slot p. -/
def State.slot (s : State) (p : Nat) : Slot := tget Slot.initial s.slots p
/-- Physical slot p replaced. -/
def State.setSlot (s : State) (p : Nat) (x : Slot) : State := { s with slots := tset Slot.initial s.slots p x }
/-- Physical slot p changed. -/
def State.modSlot (s : State) (p : Nat) (f : Slot → Slot) : State := s.setSlot p (f (s.slot p))

/-- The first slot at or after `i` that is not in U; at most nine steps. -/
def skipU (u : Nat) : Nat → Nat → Nat
  | 0, i => i
  | k + 1, i => if u.testBit i then skipU u k (i + 1) else i

/-- The placement of a row's columns (spec/13 R413): the slot of each column from c on, given the next free slot. -/
def placeFrom (u : Nat) : Nat → Nat → Nat → List (Option Nat)
  | 0, _, _ => []
  | k + 1, c, i =>
    let i := skipU u 9 i
    if i ≤ c + 1 then some i :: placeFrom u k (c + 1) (i + 1) else none :: placeFrom u k (c + 1) i

/-- The slots of the eight logical columns of a row whose free slots are U (spec/13 R413). -/
def placeRow (u : Nat) : List (Option Nat) := placeFrom u 8 0 0

/-- The physical position die × 144 + row × 9 + slot that holds logical core n; none when n is absent. -/
def State.slotOf (s : State) (n : Nat) : Option Nat :=
  let r := s.row (n / 8)
  if r.withheld.toNat.testBit (n % 8) then none
  else match (placeRow r.u.toNat)[n % 8]? with
    | some (some i) => some (n / 8 * 9 + i)
    | _ => none

/-- Logical core n is present (spec/00 R5). -/
def State.present (s : State) (n : Nat) : Bool := decide (n < 512) && (s.slotOf n).isSome

/-- The logical core that a physical slot holds. -/
def State.holder (s : State) (p : Nat) : Option Nat :=
  ((List.range 8).map (fun c => p / 9 * 8 + c)).find? (fun n => s.slotOf n = some p)

/-- The slot record of the physical slot that holds core n; an absent core has an unpowered one. -/
def State.slotFor (s : State) (n : Nat) : Slot :=
  match s.slotOf n with
  | some p => s.slot p
  | none => Slot.plain 0 false true true false

/-- The compute domain of core n is powered, out of reset and not isolated: its units act. -/
def State.live (s : State) (n : Nat) : Bool :=
  let d := s.slotFor n
  s.present n && d.on && !d.iso && !d.rst

/-! ## The local address map -/

/-- What lies at a local address (spec/00 R7, R9). -/
inductive AddrKind
  | hearth
  | peat
  | spad (n off : Nat)
  | regs
  | hole
  deriving DecidableEq, Repr

/-- Bytes of hearth. -/
def hearthBytes : Nat := 0x018000000000
/-- First address of peat. -/
def peatBase : Nat := 0x020000000000
/-- First scratchpad address. -/
def spadBase : Nat := 0x0C0000000000
/-- First device register address. -/
def regBase : Nat := 0x0E0000000000
/-- Bytes of a scratchpad (spec/05 R157). -/
def spadSize : Nat := 0x00C00000

/-- Populated peat bytes (spec/09 R282). -/
def State.peatBytes (s : State) : Nat := s.pool.chans.length * s.pool.chanBytes

/-- The snoop filter's directory (spec/11 R360), which only the CXL controller reaches. -/
def snoopDir : Nat := 0x017FFFA00000

/-- Classify a local address. -/
def State.kindOf (s : State) (a : Nat) : AddrKind :=
  if snoopDir ≤ a ∧ a < snoopDir + 0x200000 then .hole
  else if a < hearthBytes then .hearth
  else if peatBase ≤ a ∧ a < peatBase + s.peatBytes then .peat
  else if spadBase ≤ a ∧ a < spadBase + 512 * 0x1000000 then
    let n := (a - spadBase) / 0x1000000
    let o := (a - spadBase) % 0x1000000
    if o < spadSize ∧ s.present n then .spad n o else .hole
  else if regBase ≤ a ∧ a < regBase + 2 ^ 32 then .regs
  else .hole

/-- Two addresses lie in one populated stretch of memory. -/
def AddrKind.joins : AddrKind → AddrKind → Bool
  | .hearth, .hearth => true
  | .peat, .peat => true
  | .spad n _, .spad m _ => n == m
  | _, _ => false

/-- The range [a, a + len) names memory that exists (spec/00 R9); an empty range names its first byte. -/
def State.memOk (s : State) (a len : Nat) : Bool :=
  (s.kindOf a).joins (s.kindOf (a + (len - 1)))

/-! ## The context pool -/

/-- Name index of a pool address (spec/09 R291). -/
def Pool.nameOf (p : Pool) (a : Nat) : Option Nat :=
  if p.hbase ≤ a ∧ a < p.hbase + p.hsize then some ((a - p.hbase) / 65536)
  else if p.pbase ≤ a ∧ a < p.pbase + p.psize then some (p.hsize / 65536 + (a - p.pbase) / 65536)
  else none

/-- Address of pool frame j. -/
def Pool.frameAddr (p : Pool) (j : Nat) : Nat :=
  if j < p.hsize / 65536 then p.hbase + j * 65536 else p.pbase + (j - p.hsize / 65536) * 65536

/-- Number of names of the pool. -/
def Pool.names (p : Pool) : Nat := p.hsize / 65536 + p.psize / 65536

/-- Stack and stack offset of a hearth address (spec/09 R286). -/
def hearthPlace (a : Nat) : Nat × Nat :=
  let g := a >>> 12
  let r := g >>> 4
  let die := (g % 4) ^^^ (r % 4)
  (3 * die + r % 3, ((r / 3) * 4 + (g >>> 2) % 4) * 4096 + a % 4096)

/-- Channel and channel offset of a peat address (spec/09 R287). -/
def State.peatPlace (s : State) (a : Nat) : Nat × Nat :=
  let k := (a - peatBase) >>> 16
  let n := s.pool.chans.length
  (s.pool.chans.getD (k % n) 0, (k / n) * 65536 + a % 65536)

/-- The die whose ring serves a hearth or peat address (spec/09 R286, R287, R292). -/
def State.ringDie (s : State) (a : Nat) : Nat :=
  if a < hearthBytes then (hearthPlace a).1 / 3 else (s.peatPlace a).1 / 3

/-- The die whose tier agent keeps name i: that on which the name itself would be placed (spec/09 R292). -/
def State.nameDie (s : State) (i : Nat) : Nat := s.ringDie (s.pool.frameAddr i)

/-- Decay periods passed on die d. -/
def State.periods (s : State) (d : Nat) : Nat := tget (fun _ => 0) s.tier.periods d

/-- The map entry of name i. The table keeps DEP as it stood against the decay periods passed since, so that the sweep of a whole
map is one step of the count. -/
def State.mapEntry (s : State) (i : Nat) : Word :=
  let e := tget mapIdentity s.tierMap i
  setField e 61 60 ((field e 61 60 + s.periods (s.nameDie i)) % 4)
/-- The map entry of name i set. -/
def State.setMapEntry (s : State) (i : Nat) (e : Word) : State :=
  { s with tierMap := tset mapIdentity s.tierMap i (setField e 61 60 ((field e 61 60 + 3 * (s.periods (s.nameDie i) % 4)) % 4)) }

/-- Where the byte of a local address lies: pool addresses are translated (spec/09 R292). -/
def State.phys (s : State) (a : Nat) : Nat :=
  match s.pool.nameOf a with
  | some i => s.pool.frameAddr (field (s.mapEntry i) 26 0) + a % 65536
  | none => a

/-! ## Memory -/

/-- The byte that the context block map holds at an address, when the address lies in the map (spec/09 R291). -/
def State.mapByte (s : State) (a : Nat) : Option Byte :=
  if s.pool.names ≠ 0 ∧ s.pool.map ≤ a ∧ a < s.pool.map + 8 * s.pool.names then
    some (BitVec.ofNat 8 ((s.mapEntry ((a - s.pool.map) / 8)).toNat >>> (8 * ((a - s.pool.map) % 8))))
  else none

/-- The byte at a local address. -/
def State.byte (s : State) (a : Nat) : Byte :=
  match s.mapByte a with
  | some b => b
  | none => tget zeroByte s.ram (s.phys a)

/-- The byte at a local address set. -/
def State.setByte (s : State) (a : Nat) (b : Byte) : State :=
  if (s.mapByte a).isSome then
    let i := (a - s.pool.map) / 8
    let lo := 8 * ((a - s.pool.map) % 8)
    s.setMapEntry i (setField (s.mapEntry i) (lo + 7) lo b.toNat)
  else { s with ram := tset zeroByte s.ram (s.phys a) b }

/-- n bytes from a local address. -/
def State.bytes (s : State) (a : Nat) : Nat → Bytes
  | 0 => []
  | n + 1 => s.byte a :: s.bytes (a + 1) n

/-- Bytes of the protected granule at an address: a 64-bit word of scratchpad, a 64 B line of hearth or peat
(spec/05 R160, spec/09 R283, R513). -/
def granule (a : Nat) : Nat := if spadBase ≤ a then 8 else 64

/-- Start of the protected granule that holds an address. -/
def granStart (a : Nat) : Nat := a - a % granule a

/-- The granule at g is uncorrectable. -/
def State.isBad (s : State) (g : Nat) : Bool := s.badLines.contains g || s.badWords.contains g

/-- A read of [a, a + len) meets an uncorrectable granule. -/
def State.readBad (s : State) (a len : Nat) : Bool :=
  s.badLines.any (fun g => decide (g < s.phys a + len) && decide (s.phys a < g + 64)) ||
  s.badWords.any (fun g => decide (g < a + len) && decide (a < g + 8))

/-- The granule that holds byte x is bad and the write [a, a + len) does not cover it whole. -/
def State.blocked (s : State) (a len x : Nat) : Bool :=
  let g := granStart (s.phys x)
  let lead := s.phys x - g
  s.isBad g && !(decide (a + lead ≤ x) && decide (x - lead + granule (s.phys x) ≤ a + len))

/-- A write of bytes from x on, as part of the write [a, a + len): bytes of an uncorrectable granule that the write
does not cover whole are discarded (spec/05 R160, spec/09 R513). -/
def State.writeFrom (s0 : State) (a len : Nat) : Nat → Bytes → State → State
  | _, [], s => s
  | x, b :: bs, s => s0.writeFrom a len (x + 1) bs (if s0.blocked a len x then s else s.setByte x b)

/-- Lines of 64 B that [a, a + len) touches, by physical address. -/
def State.linesOf (s : State) (a len : Nat) : List Nat :=
  (List.range ((a % 64 + len + 63) / 64)).map (fun i => s.phys (a - a % 64 + 64 * i))

/-- Lines of 64 B that [a, a + len) covers whole, by physical address. -/
def State.wholeLines (s : State) (a len : Nat) : List Nat :=
  let lead := (64 - a % 64) % 64
  (List.range ((len - lead) / 64)).map (fun i => s.phys (a + lead + 64 * i))

/-- The granules that a write covers whole hold fresh check bits again, and so does a corrected word that a write is merged with. -/
def State.clearBad (s : State) (a len : Nat) : State :=
  { s with
    badLines := s.badLines.filter (fun g => !(s.wholeLines a len).contains g)
    badWords := s.badWords.filter (fun g => !(decide (a ≤ g) && decide (g + 8 ≤ a + len)))
    ceWords := s.ceWords.filter (fun g => !(decide (g < a + len) && decide (a < g + 8))) }

/-- The write [a, a + len) meets an uncorrectable granule that it does not cover whole. -/
def State.writeBad (s : State) (a len : Nat) : Bool := (List.range len).any (fun i => s.blocked a len (a + i))

/-! ## Seal references and written lines -/

/-- Seal logic of core n, or the seal directory of die d at 512 + d. -/
def State.sealUnit (s : State) (n : Nat) : SealUnit := tget (fun _ => SealUnit.zero) s.seals n
/-- Seal logic replaced. -/
def State.setSeal (s : State) (n : Nat) (u : SealUnit) : State :=
  { s with seals := tset (fun _ => SealUnit.zero) s.seals n u }

/-- Index of the seal unit that keeps the block of a local address, and the block's number there. A directory names
blocks by local address, so a pool block is tracked by its name (spec/12 R386). -/
def State.sealHome (s : State) (a : Nat) : Nat × Nat :=
  match s.kindOf a with
  | .spad n o => (n, o / 4096)
  | _ => (512 + s.ringDie a, a / 4096)

/-- A reference that has left OPEN loses the lines that the write [o, o + len) covers whole (spec/12 R388); o counts from
the start of its block's unit. -/
def SealRef.wrote (r : SealRef) (o len : Nat) : SealRef :=
  if r.st = .opened then r
  else
    let hit := (List.range 64).filter (fun i => decide (o ≤ r.block * 4096 + i * 64) &&
      decide (r.block * 4096 + i * 64 + 64 ≤ o + len))
    { r with lines := r.lines ||| BitVec.ofNat 64 (hit.foldl (fun m i => m ||| 2 ^ i) 0) }

/-- References of a unit after a write: one whose every line was rewritten is dropped (spec/12 R388). -/
def SealUnit.wrote (u : SealUnit) (o len : Nat) : SealUnit :=
  { u with refs := (u.refs.map (fun r => r.wrote o len)).filter (fun r => decide (r.lines ≠ BitVec.allOnes 64)) }

/-- Seal references after a write of len bytes at a. -/
def State.sealWrote (s : State) (a len : Nat) : State :=
  let (n, _) := s.sealHome a
  let u := s.sealUnit n
  if u.refs.isEmpty then s
  else
    let o := match s.kindOf a with
      | .spad _ o => o
      | _ => a
    s.setSeal n (u.wrote o len)

/-- A write to memory by any initiator: the bytes, the granules it repairs and the seal references it clears. -/
def State.store (s : State) (a : Nat) (bs : Bytes) : State :=
  ((s.writeFrom a bs.length a bs s).clearBad a bs.length).sealWrote a bs.length

/-- A number stored little-endian in n bytes. -/
def State.storeN (s : State) (a n v : Nat) : State := s.store a (leBytes n v)

/-- A little-endian number of n bytes. -/
def State.loadN (s : State) (a n : Nat) : Nat := ofLe (s.bytes a n)

/-- Local address of an offset of core n's scratchpad (spec/00 R7). -/
def spadAddr (n o : Nat) : Nat := spadBase + n * 0x1000000 + o

/-! ## Error records -/

/-- Severities (spec/00 R18). -/
abbrev sevInfo : Nat := 0
/-- CORRECTED. -/
abbrev sevCorrected : Nat := 1
/-- DEGRADED. -/
abbrev sevDegraded : Nat := 2
/-- FATAL_TASK. -/
abbrev sevTask : Nat := 3
/-- FATAL_DEVICE. -/
abbrev sevDevice : Nat := 4

/-- What an error record names beyond time, sequence and layout (spec/15 R490). -/
structure RecBody where
  sev     : Nat
  src     : Nat
  code    : Nat
  locKind : Nat
  loc     : Nat
  job     : Nat
  addr    : Nat
  d0      : Word
  d1      : Word
  deriving DecidableEq, Repr

/-- The 60 bytes before the CRC, and the CRC (spec/15 R490). -/
def recBytes (time seq layout : Nat) (b : RecBody) : Bytes :=
  let body := leBytes 8 time ++ leBytes 8 seq ++ leBytes 1 b.sev ++ leBytes 1 b.src ++ leBytes 2 b.code
    ++ leBytes 1 b.locKind ++ leBytes 1 0 ++ leBytes 2 b.loc ++ leBytes 8 b.job ++ leBytes 8 b.addr
    ++ leBytes 8 b.d0.toNat ++ leBytes 8 b.d1.toNat ++ leBytes 2 layout ++ leBytes 2 0
  body ++ leBytes 4 (crc32 body).toNat

/-- First address of the error log ring (spec/15 R491). -/
def logRing : Nat := 0x017FFFC00000

/-- Bytes 63:0 of a journal record (spec/15 R486). -/
def JRec.head (r : JRec) : Bytes := leBytes 4 0x4C4E524A ++ leBytes 4 r.seq ++ leBytes 1 r.type ++ leBytes 7 0 ++ r.prev ++ r.body

/-- The defect map generations as OTP holds them (spec/15 R472). -/
def State.generations (s : State) : Bytes := (List.range 4096).map (fun i => tget zeroByte s.otp (0x1000 + i))

/-- A record with the next SEQ at the end of the journal, chained to the one before and signed (spec/15 R486). -/
def State.appendTo (s : State) (type : Nat) (body : Bytes) (j : List JRec) : List JRec :=
  let (seq, prev) := match j.getLast? with
    | some r => (r.seq + 1, Config.sm3 r.head)
    | none => (1, Config.sm3 s.generations)
  let r : JRec := ⟨seq, type, body, prev, []⟩
  j ++ [{ r with sig := Config.sm2Sign (Config.sm3 r.head) }]

/-- A journal record appended (spec/15 R486). With one sector left, the oldest is recycled: its DEFECT records come again under new SEQ
values, and it is erased; less than a quarter of the journal is then free, so none of its EVENT records does. -/
def State.flash (s : State) (type : Nat) (body : Bytes) : State :=
  let j := s.wdn.journal
  let j := if j.length < 254 * 512 then j
    else (((j.take 512).filter (fun r => decide (r.type = 1))).foldl (fun j r => s.appendTo 1 r.body j) j).drop 512
  { s with wdn := { s.wdn with journal := s.appendTo type body j } }

/-- An error record is sent: queued for the collector when its severity reaches NET_MIN (spec/15 R493), sent by PLDM when it reaches
PLDM_MIN from Stage 1 on or is FATAL_DEVICE (R494), and journaled unless it is CORRECTED (R486). -/
def State.publish (s : State) (sev : Nat) (bs : Bytes) : State :=
  let s := if s.regField rMGT_NET 39 24 ≠ 0 ∧ s.regField rMGT_NET 16 14 ≤ sev then { s with netQ := s.netQ ++ [bs] } else s
  let s := if sev = sevDevice ∨ (1 ≤ s.regField rBOOT_STAGE 2 0 ∧ s.regField rMGT_NET 19 17 ≤ sev) then
    { s with wdn := { s.wdn with pldmQ := s.wdn.pldmQ ++ [bs] } } else s
  if sev = sevCorrected then s else s.flash 2 (bs.take 16)

/-- A record written to its slot of the error log ring (spec/15 R491). -/
def State.logStore (s : State) (seq : Nat) (bs : Bytes) : State :=
  let s := if 65536 ≤ seq ∧ (s.reg rMGT_LOGRD).toNat ≤ seq - 65536 then s.count rMGT_LOGCNT 63 32 1 else s
  s.store (logRing + (seq % 65536) * 64) bs

/-- An error record issued (spec/15 R490 to R494): numbered by MGT_LOG, sent, and held in Warden memory before Stage 2 and in the ring from
then on. -/
def State.record (s : State) (b : RecBody) : State :=
  let seq := (s.reg rMGT_LOG).toNat
  let bs := recBytes s.ns seq (s.regField rSMD_LAYOUT 15 0) b
  let s := (s.setReg rMGT_LOG (BitVec.ofNat 64 (seq + 1))).publish b.sev bs
  if s.regField rBOOT_STAGE 2 0 < 2 then
    if s.early.length < 256 then { s with early := s.early ++ [bs] } else s.count rMGT_LOGCNT 31 0 1
  else s.logStore seq bs

/-- A record of a core's block with no address or log. -/
def State.coreRec (s : State) (sev src code n : Nat) : State :=
  s.record ⟨sev, src, code, 1, n, 0, 0, 0, 0⟩

/-! ## The life of a task -/

/-- End codes (spec/04 R154). -/
abbrev endOk : Nat := 0x00
/-- BAD_IMAGE. -/
abbrev endBadImage : Nat := 0x01
/-- ILLEGAL. -/
abbrev endIllegal : Nat := 0x02
/-- ACCESS. -/
abbrev endAccess : Nat := 0x03
/-- DRAIN_CFG. -/
abbrev endDrainCfg : Nat := 0x04
/-- ARRAY_CFG. -/
abbrev endArrayCfg : Nat := 0x05
/-- ROW_CFG. -/
abbrev endRowCfg : Nat := 0x06
/-- STAT. -/
abbrev endStat : Nat := 0x07
/-- ARITH. -/
abbrev endArith : Nat := 0x08
/-- CFG_SLOT. -/
abbrev endCfgSlot : Nat := 0x09
/-- USER. -/
abbrev endUser : Nat := 0x0A
/-- TIMEOUT. -/
abbrev endTimeout : Nat := 0x10
/-- PERMISSION. -/
abbrev endPermission : Nat := 0x11
/-- RETRACTED_UNREC. -/
abbrev endRetracted : Nat := 0x21
/-- CORE_ABSENT. -/
abbrev endAbsent : Nat := 0x22
/-- TASK_RESET. -/
abbrev endReset : Nat := 0x30

/-- A task passes to DRAINING with an end code; at_ is the PC of the instruction that started the operation, for a fault
found after its issue (spec/04 R155). The first cause stands; during DRAINING a fault replaces END_OK
(spec/04 R150, R152). -/
def Task.ended (k : Task) (code : Nat) (at_ : Option Nat) (detail : Word) : Task :=
  let k := if k.endSet ∧ ¬(k.endCode = endOk ∧ code ≠ endOk) then k
    else { k with endSet := true, endCode := code, async := at_.isSome, detail := detail, pc := at_.getD k.pc }
  { k with phase := .draining, wait := none, freeze := none }

/-- Barrier group g. -/
def State.beacon (s : State) (g : Nat) : Beacon := tget (fun _ => Beacon.zero) s.beacons g
/-- Barrier group g replaced. -/
def State.setBeacon (s : State) (g : Nat) (b : Beacon) : State := { s with beacons := tset (fun _ => Beacon.zero) s.beacons g b }

/-- A core's join is withdrawn from a group (spec/08 R274): while GATHERING the round loses it, and a held one is dropped. -/
def Beacon.withdraw (b : Beacon) (n : Nat) : Beacon :=
  let held := b.held.filter (fun x => decide (x.1 ≠ n))
  if b.phase = .gathering then
    let j := b.joined.filter (fun x => decide (x.1 ≠ n))
    { b with joined := j, held := held, phase := if j.isEmpty then .idle else .gathering }
  else { b with held := held }

/-- The BAR in which the task of slot t of core n waits is given up when the task ends (spec/08 R274). -/
def State.leaveBar (s : State) (n t : Nat) : State :=
  let c := s.core n
  match c.tap with
  | some x =>
    if x.slot ≠ t then s
    else if x.stray then s.setCore n { c with tap := none }
    else (s.setCore n { c with tap := none }).setBeacon x.group ((s.beacon x.group).withdraw n)
  | none => s

/-- The task of slot t of core n ends; at_ as above. A slot that holds no task is left as it is; a frozen task takes an end code only
while it is frozen for a migration (spec/04 R152). -/
def State.endWith (s : State) (n t code : Nat) (at_ : Option Nat) (detail : Word) : State :=
  let k := s.task n t
  match k.phase with
  | .empty => s
  | .suspended => if k.freeze = some .recovery then s else (s.setTask n t (k.ended code at_ detail)).leaveBar n t
  | _ => (s.setTask n t (k.ended code at_ detail)).leaveBar n t

/-- The task ends by a fault of an instruction at issue or by its wait. -/
def State.endTask (s : State) (n t code : Nat) (detail : Word) : State := s.endWith n t code none detail

/-- The task ends by a fault of an operation that the instruction at pc started (spec/04 R155). -/
def State.endAsync (s : State) (n t pc code : Nat) (detail : Word) : State := s.endWith n t code (some pc) detail

/-- The task of slot t of core n is frozen (spec/04 R150, R152). -/
def State.freezeTask (s : State) (n t : Nat) (why : Freeze) : State :=
  let k := s.task n t
  match k.phase with
  | .running => s.setTask n t { k with phase := .suspended, freeze := some why }
  | .waiting => s.setTask n t { k with phase := .suspended, freeze := some why }
  | .suspended => s.setTask n t { k with freeze := some why }
  | _ => s

/-- A task holds its slot: it is reserved or resident (spec/04 R142, spec/11 R374). -/
def Task.holds (k : Task) : Bool := k.reserved || decide (k.phase ≠ .empty)

/-- The slot of the lattice task of a core (spec/04 R144). -/
def Core.latticeTask (c : Core) : Option Nat := c.owner

end Sys2Proof.Machine
end

