-- ==== Sys2Proof/Machine/Flags.lean ====
section
/-! DEFINITION. Conditions, and the status bits and counters that results set: compare conditions (spec/04 R132), the
arithmetic flags of drains, row engine and vector unit (spec/01 R49), event counters (spec/15 R495, R496). -/

namespace Sys2Proof.Machine

/-- cond of CMP (spec/04): 0 EQ, 1 NE, 2 LT, 3 GE, 4 LTU, 5 GEU; 6 and 7 are illegal. -/
def cmpCond : Nat → Word → Word → Option Bool
  | 0, a, b => some (a == b)
  | 1, a, b => some (a != b)
  | 2, a, b => some (decide (a.toInt < b.toInt))
  | 3, a, b => some (decide (b.toInt ≤ a.toInt))
  | 4, a, b => some (decide (a.toNat < b.toNat))
  | 5, a, b => some (decide (b.toNat ≤ a.toNat))
  | _, _, _ => none

/-- cond of VOP CMP on FP32 values: LTU and GEU compare as LT and GE, since FP32 has no unsigned order (DEDUCED,
notes/assumptions/14.md); a NaN is unequal to everything and neither less nor not less (spec/03 R117). -/
def numCond : Nat → Num → Num → Option Bool
  | 0, a, b => some (a.eq b)
  | 1, a, b => some (!a.eq b)
  | 2, a, b => some (a.lt b)
  | 3, a, b => some (b.lt a || b.eq a)
  | 4, a, b => some (a.lt b)
  | 5, a, b => some (b.lt a || b.eq a)
  | _, _, _ => none

/-- op of PLOG (spec/04): AND, OR, XOR, ANDN. -/
def plogOp : Nat → Bool → Bool → Bool
  | 0, a, b => a && b
  | 1, a, b => a || b
  | 2, a, b => xor a b
  | _, a, b => a && !b

/-- Flags set by drain d of core n become sticky in DRN_STATUS (spec/01 R49). -/
def State.drainFlags (s : State) (n d : Nat) (f : Flags) : State :=
  s.orReg (coreKey n rDRN_STATUS) (f.toNat <<< (4 * d))

/-- Flags set by the row engine (spec/03 ROW_STATUS bits 3:0). -/
def State.rowFlags (s : State) (n : Nat) (f : Flags) : State := s.orReg (coreKey n rROW_STATUS) f.toNat

/-- Flags set by the vector unit (spec/03 ROW_STATUS bits 7:4). -/
def State.vecFlags (s : State) (n : Nat) (f : Flags) : State := s.orReg (coreKey n rROW_STATUS) (f.toNat <<< 4)

/-- A 48-bit counter of core n raised, with its WRAP bit when it passes 2^48 − 1 (spec/15 R495). -/
def State.evBump (s : State) (n c k : Nat) : State :=
  let v := s.regField (coreKey n (rEVC_CNTc + 8 * c)) 47 0 + k
  let s := s.setReg (coreKey n (rEVC_CNTc + 8 * c)) (BitVec.ofNat 64 (v % 2 ^ 48))
  if 2 ^ 48 ≤ v then s.orReg (coreKey n rEVC_STATUS) (2 ^ c) else s

/-- The first eight counters of core n that run and select a source count k events of it. -/
def State.evCore (s : State) (n code k : Nat) : Nat → State
  | 0 => s
  | c + 1 =>
    let s := s.evCore n code k c
    if bitOf (s.reg (coreKey n rEVC_CTL)) c && decide (s.regField (coreKey n (rEVC_SELc + 8 * c)) 7 0 = code)
    then s.evBump n c k else s

/-- The first counters of die d that run and select a source and index count k events of it (spec/15 R496). -/
def State.evDie (s : State) (d code idx k : Nat) : Nat → State
  | 0 => s
  | i + 1 =>
    let s := s.evDie d code idx k i
    if bitOf (s.reg (dieKey d rEVC_DCTL)) i &&
        decide (s.regField (dieKey d (rEVC_DSELi + 8 * i)) 15 0 = code + 256 * idx)
    then s.setReg (dieKey d (rEVC_DCNTi + 8 * i))
      (BitVec.ofNat 64 ((s.reg (dieKey d (rEVC_DCNTi + 8 * i))).toNat + k))
    else s

/-- k events of a core source: the core's counters, and die counters that sum the source over the die's slots. -/
def State.event (s : State) (n code k : Nat) : State := (s.evCore n code k 8).evDie (n / 128) 0x13 code k 32

/-- k events of a die source. -/
def State.dieEvent (s : State) (d code idx k : Nat) : State := s.evDie d code idx k 32

end Sys2Proof.Machine
end

