-- ==== Sys2Proof/Machine/Operands.lean ====
section
/-! DEFINITION. Operand forms: instruction fields, task registers, and task addresses through base/bound pairs,
circular regions and control words (spec/04 R128 to R133, spec/05 R170 to R175), with what a scratchpad access reports
of its words (spec/05 R160, R185). -/

namespace Sys2Proof.Machine

/-! ## Instruction fields (spec/04 R130) -/

/-- PRED. -/
def fPred (f : InsnBits) : Nat := field f 55 53
/-- PNEG. -/
def fPneg (f : InsnBits) : Bool := bitOf f 52
/-- D. -/
def fD (f : InsnBits) : Nat := field f 51 47
/-- A. -/
def fA (f : InsnBits) : Nat := field f 46 42
/-- B. -/
def fB (f : InsnBits) : Nat := field f 41 37
/-- X. -/
def fX (f : InsnBits) : Nat := field f 36 32
/-- X.I. -/
def fI (f : InsnBits) : Bool := bitOf f 36
/-- IMM as 32 bits. -/
def fImm (f : InsnBits) : Nat := field f 31 0
/-- IMM sign-extended to 64 bits. -/
def fImm64 (f : InsnBits) : Word := wordOf (signedN 32 (fImm f))
/-- The bits with X replaced: the constructor gives the operation of ROWOP, VOP and EVCTL rows. -/
def withX (f : InsnBits) (x : Nat) : InsnBits :=
  BitVec.ofNat 56 (field f 31 0 + (x <<< 32) + (field f 55 37 <<< 37))
/-- The whole instruction word. -/
def insnWord (opc : Nat) (f : InsnBits) : Word := BitVec.ofNat 64 (opc * 2 ^ 56 + f.toNat)

/-! ## Task registers (spec/04 R128) -/

/-- g[i]. -/
def Task.greg (k : Task) (i : Nat) : Word := tget dWord k.g i
/-- g[i] := v. -/
def Task.setG (k : Task) (i : Nat) (v : Word) : Task := { k with g := tset dWord k.g i v }
/-- a[i]. -/
def Task.areg (k : Task) (i : Nat) : Word := tget dWord k.a i
/-- a[i] := v. -/
def Task.setA (k : Task) (i : Nat) (v : Word) : Task := { k with a := tset dWord k.a i v }
/-- k[i]. -/
def Task.kreg (k : Task) (i : Nat) : BitVec 32 := tget (fun _ => 0) k.k i
/-- k[i] := v. -/
def Task.setK (k : Task) (i : Nat) (v : BitVec 32) : Task := { k with k := tset (fun _ => 0) k.k i v }
/-- p[i]; p0 always reads 1. -/
def Task.preg (k : Task) (i : Nat) : Bool := decide (i = 0) || bitOf k.p i
/-- p[i] := v; writes to p0 are ignored. -/
def Task.setP (k : Task) (i : Nat) (v : Bool) : Task :=
  if i = 0 then k
  else { k with p := BitVec.ofNat 8 (if v then k.p.toNat ||| 2 ^ i else k.p.toNat - b2n (bitOf k.p i) * 2 ^ i) }

/-- Rb: g[B], or IMM when X.I is set (spec/04). -/
def Task.rb (k : Task) (f : InsnBits) : Word := if fI f then fImm64 f else k.greg (fB f)

/-- The task address a[A] + IMM. -/
def Task.addrA (k : Task) (f : InsnBits) : Word := k.areg (fA f) + fImm64 f

/-! ## Task addresses (spec/05 R170 to R175) -/

/-- What a task address names: physical offsets to access, an access that is held, or none. -/
inductive Xlate
  | ok (pieces : List (Nat × Nat))
  | held
  | bad
  deriving DecidableEq, Repr

/-- Positions of circular regions count modulo 2^27 (R173). -/
def posMod : Nat := 2 ^ 27

/-- Occupancy of a circular region (R173). -/
def Circ.occ (r : Circ) : Nat := (r.tail + posMod - r.head) % posMod
/-- SIZE of a circular region. -/
def Circ.size (r : Circ) : Nat := 2 ^ r.sizeLog2

/-- Physical pieces of w bytes at a position: split at the wrap point (R173). -/
def Circ.pieces (r : Circ) (p w : Nat) : List (Nat × Nat) :=
  let o := p % r.size
  if o + w ≤ r.size then [(r.base + o, w)] else [(r.base + o, r.size - o), (r.base, w - (r.size - o))]

/-- A read of w bytes at position p of a circular region (R174). -/
def Circ.readAt (r : Circ) (p w : Nat) : Xlate :=
  let d := (p + posMod - r.head) % posMod
  if 2 ^ 26 ≤ d then .bad else if d + w ≤ r.occ then .ok (r.pieces p w) else .held

/-- A write of w bytes at position p of a circular region (R174). -/
def Circ.writeAt (r : Circ) (p w : Nat) : Xlate :=
  let d := (p + posMod - r.head) % posMod
  if 2 ^ 26 ≤ d ∨ d < r.occ then .bad else if d + w ≤ r.size then .ok (r.pieces p w) else .held

/-- Pair i of the task. -/
def Task.pair (k : Task) (i : Nat) : Pair := tget (fun _ => Pair.zero) k.pairs i

/-- Translate an access of len bytes at a task address for the task of slot t (R170 to R174). -/
def Core.xlate (c : Core) (t : Nat) (addr : Word) (len : Nat) (write : Bool) : Xlate :=
  let v := addr.toNat
  let sel := v / 2 ^ 27
  let o := v % 2 ^ 27
  if 2 ^ 32 ≤ v then .bad
  else if sel < 4 then
    let p := (c.task t).pair sel
    if p.valid ∧ o + len ≤ p.size then .ok [(p.base + o, len)] else .bad
  else if sel < 16 then .bad
  else
    let r := c.circ (sel - 16)
    if r.valid ∧ r.owner = t then (if write then r.writeAt o len else r.readAt o len) else .bad

/-! ## What a scratchpad access reports (R160, R185) -/

/-- INITIATOR of SPAD_ECCLOG. -/
inductive SpadInit | narrow | wide | dma | control | gather
  deriving DecidableEq, Repr

/-- Code of an initiator in SPAD_ECCLOG. -/
def SpadInit.code : SpadInit → Nat
  | .narrow => 0
  | .wide => 1
  | .dma => 2
  | .control => 3
  | .gather => 4

/-- Words with a single wrong bit in a range of core n's scratchpad. -/
def State.ceIn (s : State) (a len : Nat) : Nat := s.ceWords.countP (fun g => decide (g < a + len) && decide (a < g + 8))

/-- k words of core n's scratchpad were corrected: counted and reported (R160). -/
def State.noteCeN (s : State) (n k : Nat) : State :=
  if k = 0 then s
  else
    ((((s.count (coreKey n rSPAD_ECCCNT) 31 0 k).coreStat n rSPAD_STATUS 4).event n 0x20 k).coreRec sevCorrected 5 4 n)

/-- Corrected words of a read: counted, reported and delivered corrected (R160). -/
def State.noteCe (s : State) (n a len : Nat) : State := s.noteCeN n (s.ceIn a len)

/-- Words with a single wrong bit that a write to pieces of core n's scratchpad covers in part: each is merged with the stored word, which
is corrected and counted (R160; DEDUCED: such a merge reads the stored word). -/
def State.mergeCe (s : State) (n : Nat) (ps : List (Nat × Nat)) : State :=
  s.noteCeN n (s.ceWords.countP (fun g => ps.any (fun q => decide (g < spadAddr n q.1 + q.2) && decide (spadAddr n q.1 < g + 8) &&
    !(decide (spadAddr n q.1 ≤ g) && decide (g + 8 ≤ spadAddr n q.1 + q.2)))))

/-- JOBTAG of an error record: SEQ_TTAGt of the task (spec/15 R490). -/
def State.jobTag (s : State) (n t : Nat) : Nat :=
  let k := s.task n t
  k.tag.toNat * 2 ^ 32 + k.number.toNat

/-- Uncorrectable words in [o, o + len) of core n's scratchpad. -/
def State.ueIn (s : State) (n o len : Nat) : Nat :=
  s.badWords.countP (fun g => decide (g < spadAddr n o + len) && decide (spadAddr n o < g + 8))

/-- A read that finds k uncorrectable words, the first at an offset of core n's scratchpad (R185): status, count, log and record. -/
def State.noteUeBy (s : State) (n off k code job : Nat) : State :=
  let s := (s.coreStat n rSPAD_STATUS 5).count (coreKey n rSPAD_ECCCNT) 63 32 k
  let s := s.logOnce (coreKey n rSPAD_ECCLOG) 63 (BitVec.ofNat 64 (code * 2 ^ 24 + off - off % 8))
  s.record ⟨sevDegraded, 5, 5, 1, n, job, spadAddr n off, s.reg (coreKey n rSPAD_ECCLOG), 0⟩

/-- A read by an initiator of SPAD_ECCLOG's list that finds k uncorrectable words (R185). -/
def State.noteUe (s : State) (n off k : Nat) (i : SpadInit) (job : Nat) : State := s.noteUeBy n off k i.code job

/-- Uncorrectable words that the copy of a migration or of a checkpoint reads: SPAD_ECCLOG lists no INITIATOR for it, a free value. -/
def State.copyUe (s : State) (n off k job : Nat) : State :=
  let (w, s) := s.fresh
  s.noteUeBy n off k (w.toNat % 8) job

/-- Offset of the first uncorrectable word in a range of core n's scratchpad. -/
def State.firstBad (s : State) (n o len : Nat) : Nat :=
  ((List.range (len / 8 + 2)).map (fun i => o - o % 8 + 8 * i)).find? (fun x => s.badWords.contains (spadAddr n x))
    |>.getD o

/-- Bytes of physical pieces of core n's scratchpad. -/
def State.pieceBytes (s : State) (n : Nat) : List (Nat × Nat) → Bytes
  | [] => []
  | (o, w) :: ps => s.bytes (spadAddr n o) w ++ s.pieceBytes n ps

/-- Bytes written over physical pieces of core n's scratchpad. -/
def State.pieceStore (s : State) (n : Nat) : List (Nat × Nat) → Bytes → State
  | [], _ => s
  | (o, w) :: ps, bs => (s.store (spadAddr n o) (bs.take w)).pieceStore n ps (bs.drop w)

/-- Corrected words of the pieces are reported. -/
def State.pieceCe (s : State) (n : Nat) : List (Nat × Nat) → State
  | [] => s
  | (o, w) :: ps => (s.noteCe n (spadAddr n o) w).pieceCe n ps

/-- The first piece that meets an uncorrectable word: on a read any, on a write one it does not cover whole. -/
def State.pieceBad (s : State) (n : Nat) (write : Bool) (ps : List (Nat × Nat)) : Option Nat :=
  (ps.find? (fun q => if write then s.writeBad (spadAddr n q.1) q.2 else s.readBad (spadAddr n q.1) q.2)).map
    (fun q => s.firstBad n q.1 q.2)

/-- Uncorrectable words that an access to pieces of core n's scratchpad finds: on a write those that it does not cover whole. -/
def State.pieceUes (s : State) (n : Nat) (write : Bool) (ps : List (Nat × Nat)) : Nat :=
  s.badWords.countP (fun g => ps.any (fun q => decide (g < spadAddr n q.1 + q.2) && decide (spadAddr n q.1 < g + 8) &&
    !(write && decide (spadAddr n q.1 ≤ g) && decide (g + 8 ≤ spadAddr n q.1 + q.2))))

/-- Result of an access of a task. -/
inductive Acc (α : Type)
  | ok (s : State) (v : α)
  | held
  | access
  | ue (s : State)

/-- A read of len bytes at a task address by the task of slot t of core n (R174, R184, R185). An uncorrectable word
freezes the task and no data are delivered. -/
def State.taskRead (s : State) (n t : Nat) (addr : Word) (len : Nat) (i : SpadInit) : Acc Bytes :=
  match (s.core n).xlate t addr len false with
  | .bad => .access
  | .held => .held
  | .ok ps =>
    match s.pieceBad n false ps with
    | some o => .ue ((s.noteUe n o (s.pieceUes n false ps) i (s.jobTag n t)).freezeTask n t .recovery)
    | none => .ok (s.pieceCe n ps) (s.pieceBytes n ps)

/-- A write at a task address (R160, R174, R184, R185). -/
def State.taskWrite (s : State) (n t : Nat) (addr : Word) (bs : Bytes) (i : SpadInit) : Acc Unit :=
  match (s.core n).xlate t addr bs.length true with
  | .bad => .access
  | .held => .held
  | .ok ps =>
    match s.pieceBad n true ps with
    | some o => .ue (((s.pieceStore n ps bs).noteUe n o (s.pieceUes n true ps) i (s.jobTag n t)).freezeTask n t .recovery)
    | none => .ok ((s.mergeCe n ps).pieceStore n ps bs) ()

/-! ## Queue target words (spec/07 R219, R220) -/

/-- DEVICE. -/
def tgDev (w : Word) : Nat := field w 63 48
/-- REMOTE. -/
def tgRemote (w : Word) : Bool := bitOf w 47
/-- CORE. -/
def tgCore (w : Word) : Nat := field w 46 38
/-- QUEUE. -/
def tgQueue (w : Word) : Nat := field w 37 32
/-- SHEAF. -/
def tgSheaf (w : Word) : Bool := bitOf w 31
/-- ANYGEN. -/
def tgAnygen (w : Word) : Bool := bitOf w 30
/-- GEN. -/
def tgGen (w : Word) : Nat := field w 29 22
/-- CHAN. -/
def tgChan (w : Word) : Nat := field w 21 18
/-- LANE. -/
def tgLane (w : Word) : Nat := field w 17 4

/-- A target word that sends a packet (R220). -/
def targetOk (w : Word) : Bool :=
  decide (field w 3 0 = 0) && (if tgSheaf w then decide (field w 37 35 = 0) else decide (tgLane w = 0))

end Sys2Proof.Machine
end

