-- ==== Sys2Proof/Machine/Seq.lean ====
section
/-! DEFINITION. Issue: what every instruction of a task shares (spec/04 R130 to R134, R150): the check of its form at
issue, its guard, its wait for result registers, and what becomes of the program counter. -/

namespace Sys2Proof.Machine

/-- What an attempt at an instruction comes to. -/
inductive Try
  /-- It completes and PC moves on. -/
  | done (s : State)
  /-- It completes and sets PC. -/
  | jump (s : State) (pc : Int)
  /-- The task has ended or is frozen. -/
  | stop (s : State)
  /-- It waits: how far it has come, a value kept, the queue, sheaf or group waited on, and whether it waits for seals. -/
  | wait (s : State) (stage keep operand : Nat) (sealed : Bool)

/-- Register files (spec/04 R128). -/
inductive RFile | none | g | a | k | p
  deriving DecidableEq, Repr

/-- A register number lies in its file (R132). -/
def RFile.ok : RFile → Nat → Bool
  | .a, i => decide (i < 16)
  | .k, i => decide (i < 8)
  | .p, i => decide (i < 8)
  | _, _ => true

/-- The form of an opcode (R132, instruction tables): the files that D, A and B name, the X bits it defines, whether
X.I replaces B, and whether B or D runs on to B + X or D + X. -/
structure Form where
  d     : RFile
  a     : RFile
  b     : RFile
  x     : Nat
  i     : Bool
  spanB : Bool
  spanD : Bool
  deriving DecidableEq, Repr

/-- The form of an opcode; none for an opcode that is not listed. -/
def formOf (opc : Nat) (f : InsnBits) : Option Form :=
  match opc with
  | 0x00 | 0x01 | 0x02 | 0x06 => some ⟨.none, .none, .none, 0, false, false, false⟩
  | 0x03 => some ⟨.none, .g, .none, 0, false, false, false⟩
  | 0x04 => some ⟨.k, .none, .none, 0, false, false, false⟩
  | 0x05 => some ⟨.k, .none, .g, 16, true, false, false⟩
  | 0x07 => some ⟨.g, .none, .none, 0, false, false, false⟩
  | 0x10 | 0x11 | 0x12 | 0x13 | 0x14 | 0x15 | 0x16 | 0x17 | 0x18 | 0x19 | 0x1A =>
    some ⟨.g, .g, .g, 16, true, false, false⟩
  | 0x1B | 0x1C => some ⟨.g, .none, .none, 0, false, false, false⟩
  | 0x1D => some ⟨.p, .g, .g, 23, true, false, false⟩
  | 0x1E => some ⟨.p, .p, .p, 3, false, false, false⟩
  | 0x1F => some ⟨.a, .a, .g, 16, true, false, false⟩
  | 0x20 =>
    match fX f % 4 with
    | 0 => some ⟨.g, .a, .none, 3, false, false, false⟩
    | 1 => some ⟨.a, .g, .none, 3, false, false, false⟩
    | 2 => some ⟨.g, .k, .none, 3, false, false, false⟩
    | _ => some ⟨.g, .p, .none, 3, false, false, false⟩
  | 0x28 => some ⟨.g, .a, .none, 7, false, false, false⟩
  | 0x29 => some ⟨.none, .a, .g, 3, false, false, false⟩
  | 0x40 | 0x41 => some ⟨.none, .a, .g, 15, false, false, false⟩
  | 0x42 => some ⟨.none, .a, .none, 15, false, false, false⟩
  | 0x43 => some ⟨.none, .none, .none, 0, false, false, false⟩
  | 0x50 => some ⟨.none, .a, .none, 31, false, false, false⟩
  | 0x51 => some ⟨.none, .a, .g, 31, false, false, false⟩
  | 0x52 => some ⟨.none, .a, .none, 0, false, false, false⟩
  | 0x58 => some ⟨.g, .a, .none, 0, false, false, false⟩
  | 0x59 => some ⟨.none, .g, .none, 16, false, false, false⟩
  | 0x5A => some ⟨.none, .a, .none, 0, false, false, false⟩
  | 0x60 => some ⟨.g, .g, .g, 3, false, true, false⟩
  | 0x61 => some ⟨.g, .g, .a, 0, false, false, false⟩
  | 0x62 => some ⟨.g, .a, .g, 3, false, true, false⟩
  | 0x63 => some ⟨.g, .none, .none, 3, false, false, true⟩
  | 0x64 => some ⟨.g, .p, .none, 3, false, false, true⟩
  | 0x65 => some ⟨.g, .p, .none, 0, false, false, false⟩
  | 0x66 => some ⟨.none, .none, .none, 0, false, false, false⟩
  | 0x68 => some ⟨.none, .g, .g, 3, false, false, false⟩
  | 0x69 => some ⟨.none, .g, .none, 0, false, false, false⟩
  | 0x6A => some ⟨.g, .none, .none, 0, false, false, false⟩
  | 0x70 => some ⟨.g, .none, .g, 3, false, false, false⟩
  | 0x78 => some ⟨.none, .a, .g, 0, false, false, false⟩
  | 0x79 => some ⟨.p, .a, .g, 0, false, false, false⟩
  | 0x7C => some ⟨.none, .none, .none, 1, false, false, false⟩
  | 0x80 => some ⟨.none, .none, .none, 0, false, false, false⟩
  | 0x81 => some ⟨.none, .a, .none, 0, false, false, false⟩
  | 0x82 => some ⟨.g, .none, .none, 0, false, false, false⟩
  | 0x88 => some ⟨.none, .none, .g, 16, true, false, false⟩
  | 0x89 => some ⟨.none, .none, .none, 3, false, false, false⟩
  | 0x8A => some ⟨.g, .none, .none, 0, false, false, false⟩
  | _ => none

/-- Sub-operations that are not defined within the X bits of their form: CMP conditions 6 and 7, a SHFADD kind of 3, an
EVCTL action of 3 (spec/04). -/
def subOk (opc : Nat) (f : InsnBits) : Bool :=
  if opc = 0x1D then decide (fX f % 8 < 6)
  else if opc = 0x68 ∨ opc = 0x89 then decide (fX f % 4 < 3)
  else true

/-- The instruction is legal at issue (R131, R132). -/
def legal (opc : Nat) (f : InsnBits) : Bool :=
  match formOf opc f with
  | none => false
  | some m =>
    !(decide (fPred f = 0) && fPneg f) && m.d.ok (fD f) && m.a.ok (fA f) && ((m.i && fI f) || m.b.ok (fB f)) &&
    decide (fX f &&& m.x = fX f) && subOk opc f &&
    (!m.spanB || decide (fB f + fX f % 4 < 32)) && (!m.spanD || decide (fD f + fX f % 4 < 32))

/-- The g registers that an instruction reads (R134); MOVHI keeps bits 31:0 of g[D]. -/
def readsOf (opc : Nat) (f : InsnBits) : List Nat :=
  match formOf opc f with
  | none => []
  | some m =>
    (if m.a = .g ∧ ¬(opc = 0x59 ∧ fI f) then [fA f] else []) ++
    (if m.b = .g ∧ ¬(m.i ∧ fI f) then
      (if m.spanB then (List.range (fX f % 4 + 1)).map (fun j => fB f + j) else [fB f]) else []) ++
    (if opc = 0x1C then [fD f] else [])

/-- The guard holds (R130, R131). -/
def Task.guard (k : Task) (f : InsnBits) : Bool := k.preg (fPred f) != fPneg f

/-- PC moves to an index; an index not below CODE_LEN ends the task with ILLEGAL (R132). -/
def State.setPc (s : State) (n t : Nat) (pc : Int) : State :=
  let k := s.task n t
  if 0 ≤ pc ∧ pc < k.img.codeLen then s.setTask n t { k with pc := pc.toNat, phase := .running, wait := none }
  else s.endTask n t endIllegal k.lastWord

/-- What an attempt leaves of the task. A wait that goes on keeps the time it began. -/
def State.finish (s0 : State) (n t opc : Nat) (f : InsnBits) : Try → State
  | .done s => s.setPc n t ((s.task n t).pc + 1)
  | .jump s pc => s.setPc n t pc
  | .stop s => s
  | .wait s stage keep operand sealed =>
    let k := s.task n t
    let since := match k.wait with
      | some w => w.since
      | none => s0.ns
    s.setTask n t { k with phase := .waiting, wait := some ⟨opc, f, stage, keep, operand, sealed, since⟩ }

/-- An attempt at an instruction whose registers are awaited or whose body runs (R134). -/
def State.attempt (s : State) (n t opc : Nat) (f : InsnBits) (stage keep : Nat)
    (body : Nat → Nat → State → Try) : State :=
  let k := s.task n t
  if stage = 0 ∧ (readsOf opc f).any (fun r => k.pending.contains r) then s.finish n t opc f (.wait s 0 keep 0 false)
  else s.finish n t opc f (body stage keep s)

/-- HOLD holds issue for the slot (spec/04 SEQ_CTRL). -/
def State.held (s : State) (n t : Nat) : Bool := bitOf (s.reg (coreKey n rSEQ_CTRL)) (8 + t)

/-- The task of slot t of core n can issue. -/
def State.canIssue (s : State) (n t : Nat) : Bool :=
  s.live n && decide ((s.task n t).phase = .running) && !s.held n t

/-- The state at the issue of an instruction: the issue is counted, and its word is the last one issued. -/
def State.atIssue (s : State) (n t opc : Nat) (f : InsnBits) : State :=
  ((s.count (coreKey n rSEQ_ISSUE) 31 0 1).event n 0x02 1).modTask n t (fun k => { k with lastWord := insnWord opc f })

/-- Issue of an instruction (R131, R132, R139). A slot that cannot issue is left as it is. -/
def State.issue (s : State) (n t opc : Nat) (f : InsnBits) (body : Nat → Nat → State → Try) : State :=
  if s.canIssue n t then
    if legal opc f then
      if (s.task n t).guard f then (s.atIssue n t opc f).attempt n t opc f 0 0 body
      else (s.atIssue n t opc f).finish n t opc f (.done (s.atIssue n t opc f))
    else s.endTask n t endIllegal (insnWord opc f)
  else s

/-- A unit's access to its data carried into an attempt: its fault is one of the operation, reported with ASYNC (R155). -/
def Acc.tryAsync {α : Type} (x : Acc α) (s : State) (n t : Nat) (addr : Word) (ok : State → α → Try) : Try :=
  match x with
  | .ok s v => ok s v
  | .held => .wait s 0 0 0 false
  | .access => .stop (s.endAsync n t (s.task n t).pc endAccess addr)
  | .ue s => .stop s

/-- A task access carried into an attempt: what each outcome of the access comes to. -/
def Acc.try_ {α : Type} (x : Acc α) (s : State) (n t : Nat) (addr : Word) (ok : State → α → Try) : Try :=
  match x with
  | .ok s v => ok s v
  | .held => .wait s 0 0 0 false
  | .access => .stop (s.endTask n t endAccess addr)
  | .ue s => .stop s

end Sys2Proof.Machine
end

