-- ==== Sys2Proof/Machine/Units.lean ====
section
/-! DEFINITION. What a task still has outstanding in the units of its core (spec/04 R151, R153; spec/05 R176), operand
blocks (spec/04 R136, R137), and UWAIT. -/

namespace Sys2Proof.Machine

/-- The head entry departs from a queue (spec/07 R231). -/
def RQueue.depart (x : RQueue) (now : Nat) : RQueue :=
  { x with entries := x.entries.drop 1, row := 0, departs := (now :: x.departs).take 65 }

/-- Streams of a task, in issue order. -/
def Core.taskStreams (c : Core) (t : Nat) : List Stream := c.streams.filter (fun x => decide (x.task = t))

/-- Streams that name array a, in issue order. -/
def Core.arrayStreams (c : Core) (a : Nat) : List Stream := c.streams.filter (fun x => x.mask.testBit a)

/-- Drain d has something of task t that is not written: a stream on its array, half-sums, rounds or messages. -/
def Core.drainBusy (c : Core) (t d : Nat) : Bool :=
  let x := c.drain d
  (c.arrayStreams d).any (fun u => decide (u.task = t)) ||
  (decide (x.set.task = t) && !(x.halfs.isEmpty && x.rounds.isEmpty && x.outbox.isEmpty)) ||
  c.drainToks.any (fun k => decide (x.set.task = t) && decide (x.set.outKind = 1) && decide (k.link = x.set.link - 1) && decide (k.order / 8 % 4 = d))

/-- Position of a token in the order of R189: stream and row, drain, column group, part. -/
def tokenOrder (id : RowId) (d grp part : Nat) : Nat := (id.stream * 2 ^ 32 + id.row) * 32 + d * 8 + grp * 4 + part

/-- A stream runs on array a, or a diagnostic pass streams its test rows (ARR_STATE.STREAMING; spec/02 R89). -/
def Core.streaming (c : Core) (a : Nat) : Bool := (c.arrayStreams a).any (fun x => x.started) || (c.array a).diag.isSome

/-- Drain d holds no window in use: no stream runs for it, no reduction is open and nothing is left to add, round or send
(spec/02 R72, R93). -/
def Core.drainFree (c : Core) (d : Nat) : Bool :=
  let x := c.drain d
  !(c.arrayStreams d).any (fun y => y.started) && x.red.isNone && x.halfs.isEmpty && x.rounds.isEmpty && x.outbox.isEmpty && x.windows.isEmpty

/-- The row engine has an operation or a message of task t. -/
def Core.rowBusy (c : Core) (t : Nat) : Bool :=
  c.rowOps.any (fun o => decide (o.task = t)) || c.rowOutbox.any (fun m => decide (m.task = t))

/-- A DMA of task t is in progress. -/
def Core.dmaBusy (c : Core) (t : Nat) : Bool := c.dmas.any (fun d => decide (d.task = t))

/-- A weight load of task t is under way. -/
def Core.loadBusy (c : Core) (t : Nat) : Bool :=
  (List.range 4).any (fun a => match (c.array a).shadow with
    | .loading r => decide (r.task = t)
    | _ => false)

/-- Everything that DRAINING waits for (spec/04 R151). -/
def Core.outstanding (c : Core) (t : Nat) : Bool :=
  !(c.taskStreams t).isEmpty || (List.range 4).any (fun d => c.drainBusy t d) || c.rowBusy t || c.dmaBusy t ||
  c.loadBusy t || !(c.task t).sends.isEmpty

/-- A 32-bit task address lies in circular region r. -/
def inCirc (r addr : Nat) : Bool := decide ((addr % 2 ^ 32) / 2 ^ 27 = 16 + r)

/-- A DMA end names circular region r of core n: by region form, or by local addresses within it (spec/08 R267). -/
def Core.dmaNames (c : Core) (n r : Nat) (region : Bool) (addr : Word) (len : Nat) : Bool :=
  if region then decide (field addr 46 38 = n) && !bitOf addr 47 && decide (field addr 30 27 = r)
  else
    let q := c.circ r
    let a := field addr 47 0
    decide (a < spadAddr n (q.base + q.size)) && decide (spadAddr n q.base < a + len)

/-- An operation of task t started by an earlier instruction still writes circular region r (spec/05 R176). -/
def Core.writesTo (c : Core) (n t r : Nat) : Bool :=
  (List.range 4).any (fun d => c.drainBusy t d && (inCirc r (c.drain d).set.out || inCirc r (c.drain d).set.outScales ||
    inCirc r (c.drain d).set.pre)) ||
  c.rowOps.any (fun o => decide (o.task = t) && (inCirc r (leAt o.blk 8 4) || inCirc r (leAt o.blk 12 4))) ||
  c.dmas.any (fun d => decide (d.task = t) && c.dmaNames n r (d.flags.testBit 1) d.dst d.len)

/-- A landing descriptor in queue q names a place in circular region r of core n (spec/07 R238). -/
def Core.landsIn (c : Core) (n r q : Nat) : Bool :=
  match c.queue q with
  | some x =>
    let z := c.circ r
    let hit (a len : Nat) : Bool := decide (a % 2 ^ 48 < spadAddr n (z.base + 2 ^ z.sizeLog2)) && decide (spadAddr n z.base < a % 2 ^ 48 + len)
    z.valid && x.entries.any (fun e => hit (leAt e.words 0 8) (leAt e.words 32 4 * leAt e.words 36 4 + 128) || hit (leAt e.words 40 8) (2 * leAt e.words 32 4))
  | none => false

/-- A row engine operation reads at OUT2: the target of its exports, or δ (spec/04 ROW block). -/
def rowReadsOut2 (o : RowOp) : Bool := (leAt o.blk 38 1).testBit 6 || (decide (o.op = 9) && (leAt o.blk 38 1).testBit 3)

/-- An operation of task t started by an earlier instruction still reads circular region r (spec/05 R176). -/
def Core.readsFrom (c : Core) (n t r : Nat) : Bool :=
  (c.taskStreams t).any (fun x => decide (x.source = 0) && (inCirc r x.src || inCirc r x.scales)) ||
  (List.range 4).any (fun a => match (c.array a).shadow with
    | .loading q => decide (q.task = t) && (inCirc r q.src || inCirc r q.scales)
    | _ => false) ||
  (List.range 4).any (fun d => c.drainBusy t d && (inCirc r (c.drain d).set.addCol || inCirc r (c.drain d).set.addElem ||
    inCirc r (c.drain d).set.pre)) ||
  (c.taskStreams t).any (fun x => decide (x.source = 5) && c.landsIn n r x.queue) ||
  c.rowOps.any (fun o => decide (o.task = t) && (inCirc r (leAt o.blk 0 4) || inCirc r (leAt o.blk 4 4) ||
    (rowReadsOut2 o && inCirc r (leAt o.blk 12 4)))) ||
  c.dmas.any (fun d => decide (d.task = t) && c.dmaNames n r (d.flags.testBit 0) d.src d.len)

/-- The 64 B operand block at [a[A] + IMM] (spec/04 R136, R137): an address outside the regions or not aligned to 64 B
ends the task with ACCESS. -/
def State.block (s : State) (n t : Nat) (addr : Word) (len : Nat) : Acc Bytes :=
  if addr.toNat % 64 ≠ 0 then .access else s.taskRead n t addr len .narrow

/-- Bytes [lo, hi] of a block are zero: its reserved bytes (R137). -/
def zeroFrom (b : Bytes) (lo n : Nat) : Bool := ((b.drop lo).take n).all (fun x => x == 0)

/-- Every unit in a UWAIT mask is idle for the task (spec/04 UWAIT): bits 3:0 drains, 4 row engine, 5 vector unit,
whose operations complete at issue in this model, 6 DMA. -/
def Core.idleFor (c : Core) (t mask : Nat) : Bool :=
  (List.range 4).all (fun d => !(mask.testBit d && c.drainBusy t d)) &&
  !(mask.testBit 4 && c.rowBusy t) && !(mask.testBit 6 && c.dmaBusy t)

/-- UWAIT: waits until every unit in mask IMM is idle for this task. -/
def tryUwait (n t : Nat) (f : InsnBits) (s : State) : Try :=
  if (s.core n).idleFor t (fImm f) then .done s else .wait s 0 0 0 false

/-- UWAIT. -/
def execUwait (c : CoreId) (t : TaskSlot) (f : InsnBits) (s : State) : Host.Outcome State Fault Refusal :=
  .next (s.issue c t 0x43 f (fun _ _ => tryUwait c t f))

end Sys2Proof.Machine
end

