-- ==== Sys2Proof/Machine/Discard.lean ====
section
/-! DEFINITION. What is discarded: the outstanding operations of a task that is killed or recovered, and the open windows and
banks of a core whose lattice is drained by force or whose compute domain is reset (spec/02 R69, R94, spec/04 R150, R152). -/

namespace Sys2Proof.Machine

/-- A drain without anything of task t. When task t's reduction is the open one, its windows go with it. -/
def Drain.without (d : Drain) (t : Nat) : Drain :=
  let mine := decide (d.set.task = t)
  { d with red := if mine then none else d.red, windows := if mine then [] else d.windows
           halfs := d.halfs.filter (fun h => decide (h.id.task ≠ t)), rounds := d.rounds.filter (fun r => decide (r.id.task ≠ t))
           tileFail := if mine then false else d.tileFail, tileBounded := if mine then false else d.tileBounded
           tile := if mine then none else d.tile, tiles := if mine then [] else d.tiles
           outbox := d.outbox.filter (fun m => decide (m.task ≠ t)) }

/-- An array without a weight load of task t. -/
def ArraySt.without (a : ArraySt) (t : Nat) : ArraySt :=
  match a.shadow with
  | .loading r => if r.task = t then { a with shadow := .empty } else a
  | _ => a

/-- TAGs of the mesh requests that DMAs of task t await. -/
def Core.dmaTags (c : Core) (t : Nat) : List (BitVec 32) :=
  (c.dmas.filter (fun d => decide (d.task = t))).flatMap (fun d => d.pkts.map (fun p => p.tag))

/-- The core without the outstanding operations of task t; replies that still come find nothing that awaits them. Requests already sent stay
those that a later FENCE waits for (spec/08 R262). -/
def Core.dropTask (c : Core) (t : Nat) : Core :=
  let tags := c.dmaTags t
  let own (d : Nat) : Bool := decide ((c.drain d).set.task = t) && decide ((c.drain d).set.outKind = 1)
  let c := { c with
    streams := c.streams.filter (fun x => decide (x.task ≠ t))
    rowOps := c.rowOps.filter (fun o => decide (o.task ≠ t))
    rowOutbox := c.rowOutbox.filter (fun m => decide (m.task ≠ t))
    drainToks := c.drainToks.filter (fun k => !own (k.order / 8 % 4))
    dmas := c.dmas.filter (fun d => decide (d.task ≠ t))
    outs := c.outs.filter (fun o => !c.fenced.any (fun h => decide (h.id = o.id) && tags.contains h.pkt.tag))
    fenced := c.fenced.filter (fun h => !tags.contains h.pkt.tag) }
  let c := (List.range 4).foldl (fun c d => (c.setDrain d ((c.drain d).without t)).setArray d ((c.array d).without t)) c
  c.setTask t { c.task t with sends := [] }

/-- Scans of the task at the tier agents (spec/09 R300) are outstanding operations of it. -/
def Agent.dropTask (a : Agent) (n t : Nat) : Agent :=
  { a with descs := a.descs.filter (fun d => !(decide (d.core = n) && decide (d.task = t) && decide (leAt d.desc 0 1 = 4))) }

/-- Tier agent of die d. -/
def State.agent (s : State) (d : Nat) : Agent := tget (fun _ => Agent.zero) s.tier.agents d
/-- Tier agent of die d replaced. -/
def State.setAgent (s : State) (d : Nat) (a : Agent) : State :=
  { s with tier := { s.tier with agents := tset (fun _ => Agent.zero) s.tier.agents d a } }

/-- A descriptor address of a tier agent has the region form (spec/09 R296, R298): bits 37:31 zero, and REMOTE or a valid circular region of a
present core. The descriptor has no bit that says so (DESIGN CHOICE, notes/assumptions/40.md). -/
def State.regionForm (s : State) (a : Word) : Bool :=
  decide (field a 37 31 = 0) && (bitOf a 47 || (s.present (field a 46 38) && ((s.core (field a 46 38)).circ (field a 30 27)).valid))

/-- A descriptor of task t of core n at the tier agent names circular region r by one of the addresses at these offsets (spec/05 R176). -/
def State.descNames (s : State) (n t r : Nat) (offs : Bytes → List Nat) : Bool :=
  (s.agent (n / 128)).descs.any (fun d => decide (d.core = n) && decide (d.task = t) && (offs d.desc).any (fun o =>
    let a : Word := BitVec.ofNat 64 (leAt d.desc o 8)
    (s.core n).dmaNames n r (s.regionForm a) a 64))

/-- A prefetch descriptor still writes region r: its STATUS, and OUT of a SCAN (spec/09 R298, R303). -/
def State.descWrites (s : State) (n t r : Nat) : Bool :=
  s.descNames n t r (fun b => (if (leAt b 1 1).testBit 0 then [16] else []) ++ (if leAt b 0 1 = 4 then [24] else []))

/-- A prefetch descriptor still reads region r: its LIST, and QUERY of a SCAN. -/
def State.descReads (s : State) (n t r : Nat) : Bool := s.descNames n t r (fun b => 8 :: (if leAt b 0 1 = 4 then [32] else []))

/-- The outstanding operations of the task in slot t of core n are discarded. -/
def State.discardOps (s : State) (n t : Nat) : State :=
  let s := (s.modCore n (fun c => c.dropTask t)).leaveBar n t
  s.setAgent (n / 128) ((s.agent (n / 128)).dropTask n t)

/-- A scan of the task is in flight. -/
def State.scanning (s : State) (n t : Nat) : Bool :=
  (s.agent (n / 128)).descs.any (fun d => decide (d.core = n) && decide (d.task = t) && decide (leAt d.desc 0 1 = 4))

/-- Every open window, incomplete check tile and weight bank of the core goes (spec/02 R69, R94). -/
def Core.dropWindows (c : Core) : Core :=
  (List.range 4).foldl (fun c d =>
    let x := c.drain d
    (c.setDrain d { x with red := none, windows := [], halfs := [], rounds := [], tileFail := false, tileBounded := false, tile := none, tiles := [] }).setArray d
      { c.array d with active := none, shadow := .empty }) c

end Sys2Proof.Machine
end

