-- ==== Sys2Proof/Machine/SealOps.lean ====
section
/-! DEFINITION. Operations on seal logic that other units use: opening an output window, own references of the blocks
it writes, the state of blocks, and the module's device number (spec/12 R381, R384 to R388, R396 to R399). -/

namespace Sys2Proof.Machine

/-- The module's device number (spec/10 R313). -/
def State.devNum (s : State) : BitVec 16 := BitVec.ofNat 16 (s.regField rSPAN_IDENT 15 0)

/-- The producer key of core n now (R384). -/
def State.prodKey (s : State) (n : Nat) : ProdKey :=
  ⟨s.devNum, BitVec.ofNat 9 n, (s.sealUnit n).incarn⟩

/-- OPEN windows of a unit. -/
def SealUnit.openWins (u : SealUnit) : List SealWin := u.wins.filter (fun w => decide (w.st = .opened))

/-- The window of an epoch. -/
def SealUnit.win (u : SealUnit) (e : BitVec 32) : Option SealWin := u.wins.find? (fun w => decide (w.epoch = e))

/-- A window replaced. -/
def SealUnit.setWin (u : SealUnit) (w : SealWin) : SealUnit :=
  { u with wins := u.wins.map (fun v => if v.epoch = w.epoch then w else v) }

/-- The window of an epoch of core n changed. -/
def State.modWin (s : State) (n : Nat) (e : BitVec 32) (f : SealWin → SealWin) : State :=
  let u := s.sealUnit n
  s.setSeal n { u with wins := u.wins.map (fun v => if v.epoch = e then f v else v) }

/-- Most OPEN windows of a core (R381). -/
def maxWins : Nat := 256

/-- Depth of a window that depends on the task's set (R398). -/
def Task.winDepth (k : Task) : Nat := k.deps.foldl (fun m d => max m (d.depth + 1)) 0

/-- An output window opens at epoch NEXT (R381, R398, R402); none when 256 windows are OPEN. unit: 0 to 3 drain, 4 row
engine, 5 vector unit. -/
def State.openWindow (s : State) (n t unit : Nat) : Option (BitVec 32 × State) :=
  let u := s.sealUnit n
  let k := s.task n t
  if maxWins ≤ u.openWins.length then none
  else
    let w : SealWin :=
      { epoch := u.next, task := t, unit := unit, job := k.tag, st := .opened, passed := false, failed := false
        bounded := false, loss := false, flags := Flags.zero, nonrep := k.nonrep, depth := k.winDepth
        deps := k.deps.map (fun d => (d.key, d.epoch)), latDeps := [], links := [] }
    some (u.next, s.setSeal n { u with next := u.next + 1, wins := u.wins ++ [w] })

/-- References held on a block. -/
def SealUnit.refsOn (u : SealUnit) (b : Nat) : List SealRef := u.refs.filter (fun r => decide (r.block = b))

/-- The 4 KiB blocks of [o, o + len). -/
def blocksOf (o len : Nat) : List Nat :=
  if len = 0 then [] else (List.range ((o + len - 1) / 4096 + 1 - o / 4096)).map (fun i => o / 4096 + i)

/-- Most references of a block (R387). -/
def maxRefs : Nat := 15

/-- The own references that a write of an OPEN window adds (R387): one for each block that has none of that epoch. -/
def State.ownRefs (s : State) (n : Nat) (e : BitVec 32) (bs : List Nat) : State :=
  let u := s.sealUnit n
  let key := s.prodKey n
  let isOpen : Bool := match u.win e with
    | some w => decide (w.st = .opened)
    | none => false
  if isOpen then
    let need := bs.filter (fun b => !(u.refsOn b).any (fun r => decide (r.key = key) && decide (r.epoch = e)))
    s.setSeal n { u with refs := u.refs ++ need.map (fun b => SealRef.mk b key e true .opened 0 0) }
  else s

/-- A write of window e over blocks would give one a 16th reference: its unit is held and REF_FULL set (R390). -/
def State.refsFull (s : State) (n : Nat) (e : BitVec 32) (bs : List Nat) : Bool :=
  let u := s.sealUnit n
  bs.any (fun b => decide (maxRefs ≤ (u.refsOn b).length) &&
    !(u.refsOn b).any (fun r => decide (r.key = s.prodKey n) && decide (r.epoch = e)))

/-- Seal states of a block under R18: 0 OPEN, 1 SEALED, 2 RETRACTED, 3 LAPSED (R387). -/
def SealUnit.blockState (u : SealUnit) (b : Nat) : Nat :=
  let rs := u.refsOn b
  if rs.any (fun r => decide (r.st = .lapsed)) then 3
  else if rs.any (fun r => decide (r.st = .retracted)) then 2
  else if rs.any (fun r => decide (r.st = .opened)) then 0
  else 1

/-- A write of an output window by a unit of task t (R184, R387, R390): as a task write, and own references on the blocks
it names. -/
def State.windowWrite (s : State) (n t : Nat) (e : Option (BitVec 32)) (addr : Word) (bs : Bytes) : Acc Unit :=
  match (s.core n).xlate t addr bs.length true, e with
  | .ok ps, some e =>
    let bl := ps.flatMap (fun q => blocksOf q.1 q.2)
    if s.refsFull n e bl then .held
    else match s.taskWrite n t addr bs .wide with
      | .ok s u => .ok (s.ownRefs n e bl) u
      | r => r
  | _, _ => s.taskWrite n t addr bs .wide

/-- Flags of a result travel with its output window; WINDOW_LOSS gives it LOSS (spec/01 R49, R382). -/
def State.winFlags (s : State) (n : Nat) (e : Option (BitVec 32)) (f : Flags) : State :=
  match e with
  | some e => if f = Flags.zero then s else s.modWin n e (fun w => { w with loss := w.loss || f.loss, flags := w.flags.or f })
  | none => s

end Sys2Proof.Machine
end

