-- ==== Sys2Proof/Machine/Access.lean ====
section
/-! DEFINITION. Who may write a register: the reach of BAR0 by bring-up stage, absent cores, write classes and denied
writes (spec/00 R13, spec/11 R355, spec/15 R473, R476 to R478), and a write under the register's own access codes. -/

namespace Sys2Proof.Machine

/-- Highest bring-up stage reached (spec/14 R446); 4 is ready. -/
def State.stage (s : State) : Nat := s.regField rBOOT_STAGE 2 0

/-- A byte of OTP. -/
def State.otpByte (s : State) (a : Nat) : Byte := tget zeroByte s.otp a


/-- A thermometer of OTP: its set bits (spec/15 R472). -/
def State.otpBits (s : State) (a n : Nat) : Nat :=
  ((List.range n).map (fun i => popCount 8 (s.otpByte (a + i)).toNat)).sum

/-- Lifecycle state (spec/15 R473): 0 BLANK, 1 TEST, 2 PROVISIONED, 3 OWNED, 4 RMA. -/
def State.lifecycle (s : State) : Nat := min 4 (s.otpBits 0 16)

/-- A write class admits an initiator (spec/15 R473, R476). -/
def State.mayWrite (s : State) (who : Initiator) (cls : RegClass) : Bool :=
  match cls, who with
  | .h, _ => true
  | .f, .host => decide (s.lifecycle ≠ 2 ∧ s.lifecycle ≠ 3)
  | .f, _ => true
  | .w, .warden => true
  | .w, _ => false

/-- BAR0 offsets that answer the host from Stage 0 (spec/11 R355): CXL_IDENT, CXL_HSTAT and the mailbox. -/
def stage0Offset (off : Nat) : Bool :=
  decide (off = rCXL_IDENT) || decide (off = rCXL_HSTAT) || decide (0x2611000 ≤ off ∧ off < 0x2613000)

/-- Stage 0 has been reached: configuration space answers (spec/14 R446, R448). -/
def State.stage0 (s : State) : Bool := s.boot.stage0

/-- The host's access reaches a BAR0 offset (spec/11 R355). -/
def State.hostReach (s : State) (off : Nat) : Bool := s.stage0 && (decide (1 ≤ s.stage) || stage0Offset off)

/-- Code of an initiator in WDN_DENYLOG. -/
def initCode : Initiator → Nat
  | .host => 0
  | .forester => 1
  | .warden => 2

/-- A write that its class does not allow is discarded, counted, logged and reported (spec/15 R478). -/
def State.deny (s : State) (who : Initiator) (off : Nat) : State :=
  let first := !bitOf (s.reg rWDN_DENYLOG) 63
  let s := (s.count rWDN_DENYCNT 31 0 1).orReg rWDN_STATUS 1
  let s := s.logOnce rWDN_DENYLOG 63 (BitVec.ofNat 64 (initCode who * 2 ^ 60 + off % 2 ^ 26 - off % 8))
  if first then s.record ⟨sevInfo, 20, 0, 0, 0, 0, 0, s.reg rWDN_DENYLOG, 0⟩ else s

/-- A key in the core page of an absent logical core (spec/00 R13). -/
def State.absentPage (s : State) (key : Nat) : Bool := decide (key < 0x2000000) && !s.present (key / 0x10000)

/-- A write to a register takes its effect when it reaches it and its class allows it (spec/15 R476 to R478). -/
def State.gate (s : State) (who : Initiator) (key : Nat) (cls : RegClass) (eff : State → State) : State :=
  if (who = .host ∧ !s.hostReach key) ∨ s.absentPage key then s
  else if s.mayWrite who cls then eff s
  else s.deny who key

/-- Write class of a register. -/
def classOf (key : Nat) : RegClass :=
  match regSpec key with
  | some r => r.cls
  | none => .w

/-- A write gated by the register's own class. -/
def State.gateReg (s : State) (who : Initiator) (key : Nat) (eff : State → State) : State := s.gate who key (classOf key) eff

/-- A 64-bit write under a register's access codes (spec/00 R13): RW bits take the value, W1C bits are cleared, W1S bits
set. -/
def State.regWrite (s : State) (key : Nat) (v : Word) : State :=
  match regSpec key with
  | none => s
  | some r =>
    let rw : Word := BitVec.ofNat 64 r.rw
    let w1c : Word := BitVec.ofNat 64 r.w1c
    let w1s : Word := BitVec.ofNat 64 r.w1s
    let old := s.reg key
    s.setReg key ((((old &&& ~~~rw) ||| (v &&& rw)) &&& ~~~(v &&& w1c)) ||| (v &&& w1s))

end Sys2Proof.Machine
end

