-- ==== Sys2Proof/Machine/Flits.lean ====
section
/-! DEFINITION. The mesh as places and bits: routers, their ports and links, the header of a packet and the flits that carry it, and the
packets that flits deliver (spec/08 R250 to R257, R263). -/

namespace Sys2Proof.Machine

/-- Number of a router port. -/
def portNo : RPort → Nat
  | .n => 0
  | .e => 1
  | .s => 2
  | .w => 3
  | .loc => 4
  | .seam2 => 5

/-- Mesh row of a router (R250). -/
def meshRow (p : Nat) : Nat := 16 * (p / 288) + p % 144 / 9
/-- Mesh column of a router (R250). -/
def meshCol (p : Nat) : Nat := 9 * (p / 144 % 2) + p % 9
/-- The router at a mesh row and column. -/
def routerAt (r c : Nat) : Nat := (2 * (r / 16) + c / 9) * 144 + r % 16 * 9 + c % 9

/-- The routers that have a SEAM2 port (R250). -/
def hasSeam2 (p : Nat) : Bool :=
  decide (1 ≤ p % 9) && decide (p % 9 ≤ 7) && (if p < 288 then decide (p % 144 / 9 = 15) else decide (p % 144 / 9 = 0))

/-- The router and input port at the far end of an output port; none at a ring port, LOCAL or a port that does not exist. -/
def linkTo (p port : Nat) : Option (Nat × Nat) :=
  let r := meshRow p
  let c := meshCol p
  match port with
  | 0 => if r = 0 then none else some (routerAt (r - 1) c, 2)
  | 1 => if c = 17 then none else some (routerAt r (c + 1), 3)
  | 2 => if r = 31 then none else some (routerAt (r + 1) c, 0)
  | 3 => if c = 0 then none else some (routerAt r (c - 1), 1)
  | 5 => if hasSeam2 p then some (if p < 288 then routerAt (r + 1) c else routerAt (r - 1) c, 5) else none
  | _ => none

/-- Ring port number of an edge port of a router: on the outer row by slot, on the outer column 9 plus the row (R252). -/
def ringPort (p port : Nat) : Option Nat :=
  if (port = 0 ∧ meshRow p = 0) ∨ (port = 2 ∧ meshRow p = 31) then some (p % 9)
  else if (port = 3 ∧ meshCol p = 0) ∨ (port = 1 ∧ meshCol p = 17) then some (9 + p % 144 / 9)
  else none

/-- The router and output port of ring port k of die d. -/
def ringExit (d k : Nat) : Nat × Nat :=
  if k < 9 then (d * 144 + (if d < 2 then 0 else 15) * 9 + k, if d < 2 then 0 else 2)
  else (d * 144 + (k - 9) * 9 + (if d % 2 = 0 then 0 else 8), if d % 2 = 0 then 3 else 1)

/-! ## Packets as flits (R253, R254, R255) -/

/-- TYPE of a message as coded in its header. -/
def msgTypeCode : MsgType → Nat
  | .word => 0
  | .desc => 1
  | .shfInt64 => 2
  | .shfFp32 => 3
  | .shfWindow => 4
  | .shfEnd => 5
  | .reply => 6
  | .reserved => 7

/-- The 16 B message header (spec/07 R221). -/
def msgBytes (h : MsgHeader) : Bytes :=
  leBytes 16 (at_ h.key.dev.toNat 112 + at_ h.key.core.toNat 103 + at_ h.key.slot.toNat 101 + at_ h.key.chan.toNat 97 +
    at_ h.seq.toNat 81 + at_ h.dstCore.val 72 + at_ h.dstQ.toNat 66 + at_ (msgTypeCode h.type) 62 + at_ h.gen.toNat 54 +
    at_ (b2n h.anygen) 53 + at_ h.words.toNat 51 + at_ h.lane.toNat 37 + at_ (b2n h.mcast) 36)

/-- TYPE of a packet as its header codes it (R254). -/
def pktCode : PktType → Nat
  | .dmaWrite => 0
  | .dmaRead => 1
  | .readData => 2
  | .writeAck => 3
  | .message => 4
  | .msgReply => 5
  | .seal => 6
  | .migrate => 7
  | .span => 8

/-- STATUS as a header codes it (R254). -/
def statusCode : RespStatus → Nat
  | .ok => 0
  | .refused => 1
  | .poisoned => 2
  | .denied => 3

/-- A request is a request and not a response (R255). -/
def isRequest : PktType → Bool
  | .readData | .writeAck | .msgReply => false
  | _ => true

/-- A physical position as DST and SRC code it. -/
def posCode (p : Nat) : Nat := p / 144 + p % 144 / 9 * 4 + p % 9 * 64

/-- DST or SRC of a place: the slot that holds the core, or the ring port (ADDR 20:8) mod 25 of the die (R257). -/
def State.placeCode (s : State) (x : Place) (a : Word) : Nat :=
  match x with
  | .core n => posCode ((s.slotOf n).getD 0)
  | .ring d => d + 1024 + field a 20 8 % 25 * 2048
  | .slot p => posCode p

/-- DST_LC or SRC_LC of a place. -/
def lcCode : Place → Nat
  | .core n => 32768 + n
  | .ring _ | .slot _ => 0

/-- The header of a packet as its source makes it (R254). -/
def State.pktHeader (s : State) (p : Packet) : Bytes :=
  leBytes 2 (s.placeCode p.dst p.addr) ++ leBytes 2 (s.placeCode p.src p.addr) ++ leBytes 2 (lcCode p.dst) ++ leBytes 2 (lcCode p.src) ++
    [BitVec.ofNat 8 (pktCode p.type), BitVec.ofNat 8 (b2n (!isRequest p.type) + 2 * b2n p.fence + 4 * b2n p.poison + 8 * b2n p.adv),
     BitVec.ofNat 8 (statusCode p.status), 0] ++ leBytes 4 p.len ++ leBytes 4 p.tag.toNat ++ leBytes 8 p.addr.toNat ++ leBytes 4 0

/-- The payload of a packet: a message header first, where it has one. -/
def payloadOf (p : Packet) : Bytes := ((p.msg.map msgBytes).getD []) ++ p.data

/-- The data bits of a packet's flits: ceil((32 + payload) / 256) of them (R254). -/
def State.flitData (s : State) (p : Packet) : List (BitVec 2048) :=
  let b := s.pktHeader p ++ payloadOf p
  (List.range ((b.length + 255) / 256)).map (fun i => BitVec.ofNat 2048 (ofLe ((b.drop (256 * i)).take 256)))

/-- Field of a head flit's header, byte b, n bytes (R254). -/
def hdr (f : Flit) (b n : Nat) : Nat := fieldN f.data.toNat (8 * (b + n) - 1) (8 * b)

/-- The router that a packet header goes to, and the ring port it leaves by. -/
def headDest (f : Flit) : Nat × Option Nat :=
  let d := hdr f 0 2
  let die := fieldN d 1 0
  if d.testBit 10 then
    let x := ringExit die (fieldN d 15 11)
    (x.1, some x.2)
  else (die * 144 + fieldN d 5 2 * 9 + fieldN d 9 6, none)

/-- The sideband of a flit below its CRC. -/
def sideband (f : Flit) : Nat := f.kind.toNat + 4 * f.vc.toNat + 16 * b2n f.kill

/-- The CRC-32 over the 2,048 data bits of a flit and the sideband bits 4:0 (R253). -/
def flitCrc (f : Flit) : BitVec 32 :=
  BitVec.ofNat 32 (crcBits 5 (sideband f) ((leBytes 256 f.data.toNat).foldl (fun c b => crcByte c b.toNat) 0xFFFFFFFF) ^^^ 0xFFFFFFFF)

/-- The CRC of a flit is right (R253). -/
def flitOk (f : Flit) : Bool := decide (flitCrc f = f.crc)

/-- A flit with its CRC made anew. -/
def resealFlit (f : Flit) : Flit := { f with crc := flitCrc f }

/-- A flit as a link delivers it: the bits of `err` are inverted, numbered as data 2047:0 and the sideband from 2048 (R253). -/
def damagedFlit (f : Flit) (err : BitVec 2085) : Flit :=
  { data := f.data ^^^ err.extractLsb' 0 2048, kind := f.kind ^^^ err.extractLsb' 2048 2, vc := f.vc ^^^ err.extractLsb' 2050 2
    kill := f.kill ^^ err.getLsbD 2052, crc := f.crc ^^^ err.extractLsb' 2053 32 }

/-- HEAD or SINGLE. -/
def isHead (f : Flit) : Bool := decide (f.kind = 0) || decide (f.kind = 3)
/-- TAIL or SINGLE. -/
def isTail (f : Flit) : Bool := decide (f.kind = 2) || decide (f.kind = 3)

/-- KIND of flit i of n (R253). -/
def flitKind (n i : Nat) : BitVec 2 := if n = 1 then 3 else if i = 0 then 0 else if i + 1 = n then 2 else 1

/-- The adaptive channel of a packet's class (R256). -/
def classVc (t : PktType) : BitVec 2 := if isRequest t then 0 else 2

/-- The router and input port at which a packet of a source enters the mesh: LOCAL, or the ring port. -/
def State.entry (s : State) (p : Packet) : Nat × Nat :=
  match p.src with
  | .core n => ((s.slotOf n).getD 0, 4)
  | .ring d => ringExit d (field p.addr 20 8 % 25)
  | .slot q => (q, 4)

/-- The flits of a packet, on their way from its source's interface to its router (R254). -/
def State.packetFlits (s : State) (p : Packet) : List FlitWire :=
  let ds := s.flitData p
  let at_ := s.entry p
  ds.zipIdx.map (fun x => ⟨at_.1, at_.2, resealFlit { data := x.1, kind := flitKind ds.length x.2, vc := classVc p.type, kill := false, crc := 0 }⟩)

/-- A packet enters the mesh: its flits leave the interface of its source. -/
def State.inject (s : State) (p : Packet) : State := { s with net := s.net ++ [p], flits := s.flits ++ s.packetFlits p }

/-- What tells a packet by its head flit: all but DST and HOPS, which routers change, and SRC. -/
def fixedHead (d : BitVec 2048) : Nat := d.toNat / 2 ^ 32 % 2 ^ 56 + d.toNat / 2 ^ 96 * 2 ^ 96

/-- A packet on the mesh that a head flit belongs to. -/
def State.packetOf (s : State) (f : Flit) : Option Packet :=
  s.net.find? (fun p => decide (((s.flitData p).head?).map fixedHead = some (fixedHead f.data)))

/-- A packet whose head flit is gone does not arrive (R261, R263). -/
def State.lose (s : State) (f : Flit) : State :=
  match if isHead f then s.packetOf f else none with
  | some p => { s with net := s.net.erase p }
  | none => s

/-- The flits of a whole packet are at its destination: it has landed there, or is discarded when a flit has KILL (R263). -/
def State.land (s : State) (fs : List Flit) : State :=
  match fs.head?.bind s.packetOf with
  | some p =>
    let s := { s with net := s.net.erase p }
    if fs.any (fun f => f.kill) then s else { s with landed := s.landed ++ [p] }
  | none => s

/-- Router p. -/
def State.router (s : State) (p : Nat) : Router := tget (fun _ => Router.zero) s.routers p
/-- Router p changed. -/
def State.modRouter (s : State) (p : Nat) (f : Router → Router) : State :=
  { s with routers := tset (fun _ => Router.zero) s.routers p (f (s.router p)) }

/-- No packet is on the escape channels: none waits there, is on its way there or has a channel open. -/
def State.escIdle (s : State) : Bool :=
  s.flits.all (fun w => decide (w.flit.vc.toNat % 2 = 0)) &&
    s.routers.all (fun e => e.2.bufs.all (fun x => decide (x.1 % 2 = 0) || x.2.isEmpty) && e.2.owner.all (fun x => decide (x.1 % 2 = 0) || x.2.isNone))

/-- A table set that passed its check takes effect once no packet is left that follows the old one (R259). -/
def State.escSettle (s : State) : State :=
  match s.escNew with
  | some (t, true) => if s.escIdle then { s with esc := t, escNew := none } else s
  | _ => s

/-- Router p has lost its power or failed: the flits that it held are lost, and its neighbours' credits toward it stand as after a reset (R261). -/
def State.emptyRouter (s : State) (p : Nat) : State :=
  let s := (s.router p).bufs.foldl (fun s e => e.2.foldl (fun s f => s.lose f) s) s
  let s := (s.router p).asm.foldl (fun s e => e.2.foldl (fun s f => s.lose f) s) s
  let s := s.modRouter p (fun _ => Router.zero)
  ((List.range 6).foldl (fun s o => match linkTo p o with
    | some (u, q) => s.modRouter u (fun r => { r with credits := r.credits.filter (fun e => decide (e.1 / 4 ≠ q)) })
    | none => s) s).escSettle

/-- A packet has landed and waits at its destination. -/
def State.here (s : State) (p : Packet) : Bool := s.landed.contains p

/-- A packet is taken at its destination. -/
def State.take (s : State) (p : Packet) : State := { s with landed := s.landed.erase p }

end Sys2Proof.Machine
end

