-- ==== Sys2Proof/Machine/Gather.lean ====
section
/-! DEFINITION. Bank groups' power, narrow accesses of the control tree to a scratchpad, and the gather buffer
(spec/05 R161, R166 to R169, R184, R185). -/

namespace Sys2Proof.Machine

/-- Group g of core n is powered: ON and READY (R169). -/
def State.groupOn (s : State) (n g : Nat) : Bool :=
  let r := s.reg (coreKey n rSPAD_PWR)
  bitOf r g && bitOf r (16 + g)

/-- Every group of [o, o + len) is powered (R158, R184). -/
def State.spadPowered (s : State) (n o len : Nat) : Bool :=
  (List.range 12).all (fun g => !(decide (o < (g + 1) * 2 ^ 20) && decide (g * 2 ^ 20 < o + len)) || s.groupOn n g)

/-- The scratchpad of core n is in gather mode (R166). -/
def State.gathering (s : State) (n : Nat) : Bool := (s.slotFor n).iso || (s.slotFor n).rst

/-- The byte that the buffer holds at an offset of its line, when it was written. -/
def Gather.at_ (g : Gather) (o : Nat) : Option Byte := tget (fun _ => none) g.bytes (o % 256)

/-- Every byte of the 64-bit word at an offset was written to the buffer. -/
def Gather.whole (g : Gather) (o : Nat) : Bool := (List.range 8).all (fun i => (g.at_ (o - o % 8 + i)).isSome)

/-- Bytes written to the buffered line at an offset, under their mask (R167). -/
def Gather.merge (g : Gather) : Nat → Bytes → Gather
  | _, [] => g
  | o, b :: bs => { g with bytes := tset (fun _ => none) g.bytes (o % 256) (some b) }.merge (o + 1) bs

/-- One word of the buffer flushed: whole, or merged with the stored word; a merge with an uncorrectable word is discarded and the
word reported (R160, R185). -/
def State.flushWord (s : State) (n : Nat) (g : Gather) (o : Nat) : State :=
  let bs := (List.range 8).filterMap (fun i => (g.at_ (o + i)).map (fun b => (o + i, b)))
  if bs.isEmpty then s
  else if bs.length = 8 then s.store (spadAddr n o) (bs.map (fun e => e.2))
  else if s.badWords.contains (spadAddr n o) then s.noteUe n o 1 .gather 0
  else bs.foldl (fun s e => s.store (spadAddr n e.1) [e.2]) (s.mergeCe n [(o, 4)])

/-- The gather buffer flushed: one wide write with the accumulated byte mask (R167). -/
def State.gatherFlush (s : State) (n : Nat) : State :=
  match (s.core n).gather with
  | none => s
  | some g =>
    ((List.range 32).foldl (fun s i => s.flushWord n g (g.line * 256 + 8 * i)) s).modCore n (fun c => { c with gather := none })

/-- The buffer flushed before an access to any other line than that of offset o (R167). -/
def State.gatherAway (s : State) (n o : Nat) : State :=
  match (s.core n).gather with
  | some g => if g.line = o / 256 then s else s.gatherFlush n
  | none => s

/-- The buffer of core n for the line of offset o; an empty one when none is buffered. -/
def State.gatherLine (s : State) (n o : Nat) : Gather := ((s.gatherAway n o).core n).gather.getD ⟨o / 256, false, []⟩

/-- The wide read of a line into the buffer (R167): its corrected words are counted, its uncorrectable ones reported (R160, R185). -/
def State.loadLine (s : State) (n o : Nat) : State :=
  let a := o / 256 * 256
  let s := s.noteCe n (spadAddr n a) 256
  if s.ueIn n a 256 = 0 then s else s.noteUe n (s.firstBad n a 256) (s.ueIn n a 256) .control 0

/-- A narrow read through the gather buffer (R167): the line is loaded first unless it is buffered. A word that is uncorrectable and that no
write to the buffer covers whole reads as all ones (R184). -/
def State.gatherRead (s : State) (n o size : Nat) : State :=
  let s := s.gatherAway n o
  let g := s.gatherLine n o
  let bad := s.badWords.contains (spadAddr n (o - o % 8)) && !g.whole o
  let s := if g.loaded then (if bad then s.noteUe n o 1 .control 0 else s) else s.loadLine n o
  let s := s.modCore n (fun c => { c with gather := some { g with loaded := true } })
  let v := ofLe ((List.range size).map (fun i => (g.at_ (o + i)).getD (s.byte (spadAddr n (o + i)))))
  { s with rd := if bad then BitVec.allOnes 64 else BitVec.ofNat 64 v }

/-- A narrow write through the gather buffer: it merges into the buffered line (R167). -/
def State.gatherWrite (s : State) (n o : Nat) (bs : Bytes) : State :=
  let g := s.gatherLine n o
  (s.gatherAway n o).modCore n (fun c => { c with gather := some (g.merge o bs) })

/-- A narrow read of the control tree outside gather mode (R184). -/
def State.treeRead (s : State) (n o size : Nat) : State :=
  match s.pieceBad n false [(o, size)] with
  | some x => { s.noteUe n x 1 .control 0 with rd := BitVec.allOnes 64 }
  | none => { s.noteCe n (spadAddr n o) size with rd := BitVec.ofNat 64 (s.loadN (spadAddr n o) size) }

/-- A narrow write of the control tree outside gather mode (R160, R184). -/
def State.treeWrite (s : State) (n o : Nat) (bs : Bytes) : State :=
  match s.pieceBad n true [(o, bs.length)] with
  | some x => s.noteUe n x 1 .control 0
  | none => (s.mergeCe n [(o, bs.length)]).pieceStore n [(o, bs.length)] bs

/-- A narrow access of the control tree to a local address: 2^x bytes (R161), through the gather buffer in gather mode (R167). Of an
unpopulated offset, of an absent core's and of a group without power a read returns all ones and a write is discarded (R184), as of an
access that is not aligned. -/
def State.treeAccess (s : State) (a size : Nat) (write : Option Word) : State :=
  let none_ (s : State) : State := if write.isNone then { s with rd := BitVec.allOnes 64 } else s
  match s.kindOf a with
  | .spad n o =>
    if a % size ≠ 0 then none_ s
    else if !s.spadPowered n o size then none_ (s.coreStat n rSPAD_STATUS 3)
    else match write with
      | some v => if s.gathering n then s.gatherWrite n o (leBytes size v.toNat) else s.treeWrite n o (leBytes size v.toNat)
      | none => if s.gathering n then s.gatherRead n o size else s.treeRead n o size
  | _ => none_ s

/-- GATHER_IDLE_FLUSH (R167): after 64 stages without a narrow access the gather buffer is flushed. -/
def execGatherIdleFlush (c : CoreId) (s : State) : Host.Outcome State Fault Refusal := .next (s.gatherFlush c)

end Sys2Proof.Machine
end

