-- ==== Sys2Proof/Machine/RingErr.lean ====
section
/-! DEFINITION. What the rings record of corrected and uncorrectable lines of hearth and peat (spec/09 R279, R283). -/

namespace Sys2Proof.Machine

/-- Key of a register of hearth stack k of the module. -/
def stackKey (k off : Nat) : Nat := dieKey (k / 3) (off + 0x40 * (k % 3))
/-- Key of a register of peat channel k of the module. -/
def chanKey (k off : Nat) : Nat := dieKey (k / 3) (off + 0x40 * (k % 3))

/-- A corrected hearth read on a stack: counted, and a record at the first since HTH_Ss_ECC was last read (R279). -/
def State.hearthCe (s : State) (a : Nat) : State :=
  let (k, _) := hearthPlace a
  let key := stackKey k rHTH_Ss_ECC
  let first := decide (s.regField key 31 0 = 0)
  let s := (s.count key 31 0 1).orReg (dieKey (k / 3) rHTH_STATUS) (2 ^ (4 * (k % 3)))
  if first then s.record ⟨sevCorrected, 11, 4 * (k % 3), 4, k, 0, a - a % 64, 0, 0⟩ else s

/-- An uncorrected hearth read (R279). -/
def State.hearthUe (s : State) (a : Nat) : State :=
  let (k, o) := hearthPlace a
  let log := stackKey k rHTH_Ss_UELOG
  let s := (s.count (stackKey k rHTH_Ss_ECC) 63 32 1).orReg (dieKey (k / 3) rHTH_STATUS) (2 ^ (4 * (k % 3) + 1))
  let s := s.logOnce log 63 (BitVec.ofNat 64 (o - o % 64))
  s.record ⟨sevDegraded, 11, 4 * (k % 3) + 1, 4, k, 0, a - a % 64, s.reg log, 0⟩

/-- A corrected peat read (R283). -/
def State.peatCe (s : State) (a : Nat) : State :=
  let (k, _) := s.peatPlace a
  (s.count (chanKey k rPEAT_Cc_ECC) 31 0 1).orReg (dieKey (k / 3) rPEAT_STATUS) (2 ^ (8 * (k % 3)))

/-- An uncorrectable peat read (R283); it raises a repair request of its row (R285), whose place is the DIMM's own. -/
def State.peatUe (s : State) (a : Nat) : State :=
  let (k, o) := s.peatPlace a
  let log := chanKey k rPEAT_Cc_UELOG
  let s := (s.count (chanKey k rPEAT_Cc_ECC) 63 32 1).orReg (dieKey (k / 3) rPEAT_STATUS) (2 ^ (8 * (k % 3) + 1))
  let s := s.logOnce log 63 (BitVec.ofNat 64 (o - o % 64))
  s.record ⟨sevDegraded, 12, 8 * (k % 3) + 1, 5, k, 0, a - a % 64, s.reg log, 0⟩

/-- A repair request for the row of a peat line (R285): PPR_REQ and PEAT_Cc_PPR, unless one is held. -/
def State.pprRequest (s : State) (a : Nat) : State :=
  let (k, o) := s.peatPlace a
  let key := chanKey k rPEAT_Cc_PPR
  if bitOf (s.reg key) 63 then s
  else
    (s.setReg key (setBit (BitVec.ofNat 64 ((Config.peatRow k o).toNat * 2 ^ 28)) 63 true)).orReg (dieKey (k / 3) rPEAT_STATUS) (2 ^ (8 * (k % 3) + 2))

/-- An uncorrectable line at a physical local address is reported (R279, R283). -/
def State.lineUe (s : State) (a : Nat) : State :=
  if a < hearthBytes then s.hearthUe a else (s.peatUe a).pprRequest a

/-- What a read of [a, a + len) reports beyond the lines known to be uncorrectable: corrections, and lines newly uncorrectable. -/
def State.noteErrs (s : State) (a len : Nat) (errs : LineErrs) : State :=
  (errs.filter (fun e => decide (e.1 - e.1 % 64 < a + len) && decide (a < e.1 - e.1 % 64 + 64))).foldl (fun s e =>
    let g := s.phys (e.1 - e.1 % 64)
    if s.badLines.contains g then s
    else if e.2 then { s with badLines := s.badLines ++ [g] }
    else if g < hearthBytes then s.hearthCe g else s.peatCe g) s

/-- The channel of a physical peat address has failed (R282). -/
def State.chanFailed (s : State) (a : Nat) : Bool := decide (peatBase ≤ a) && decide (a < spadBase) && s.tier.failed.contains (s.peatPlace a).1

/-- An access to [a, a + len) meets a row under repair: it is held (R285). -/
def State.repairHeld (s : State) (a len : Nat) : Bool :=
  (s.linesOf a len).any (fun g => decide (peatBase ≤ g) && decide (g < spadBase) && (
    let (k, o) := s.peatPlace g
    let w := s.reg (chanKey k rPEAT_Cc_PPR)
    bitOf w 62 && decide (field w 55 28 = (Config.peatRow k o).toNat)))

/-- A read of hearth or peat lines, every uncorrectable one of which is reported: the bytes, or none at such a line or on a channel that has
failed. -/
def State.lineRead (s : State) (a len : Nat) : Option Bytes × State :=
  let ls := s.linesOf a len
  let bad := ls.filter (fun g => s.badLines.contains g)
  (if bad.isEmpty && !ls.any s.chanFailed then some (s.bytes a len) else none, bad.foldl (fun s g => s.lineUe g) s)

end Sys2Proof.Machine
end

