-- ==== Sys2Proof/Machine/Pool.lean ====
section
/-! DEFINITION. The context pool: its names and their heat, the map and its cache, and reads of the rings through it (spec/09 R290 to R295). -/

namespace Sys2Proof.Machine

/-- Names that hearth frames hold: frames below this index lie in hearth. -/
def State.hearthFrames (s : State) : Nat := s.pool.hsize / 65536
/-- Name i is held in hearth. -/
def State.inHearth (s : State) (i : Nat) : Bool := decide (field (s.mapEntry i) 26 0 < s.hearthFrames)
/-- HEAT of name i. -/
def State.heat (s : State) (i : Nat) : Nat := field (s.mapEntry i) 59 54
/-- PIN of name i. -/
def State.pinned (s : State) (i : Nat) : Bool := bitOf (s.mapEntry i) 62
/-- MOVING of name i. -/
def State.moving (s : State) (i : Nat) : Bool := bitOf (s.mapEntry i) 63
/-- Address of name i: that of the frame it would have by identity. -/
def State.nameAddr (s : State) (i : Nat) : Nat := s.pool.frameAddr i
/-- HEAT of name i set. -/
def State.setHeat (s : State) (i h : Nat) : State := s.setMapEntry i (setField (s.mapEntry i) 59 54 h)
/-- PIN of name i set. -/
def State.setPin (s : State) (i : Nat) (b : Bool) : State := s.setMapEntry i (setBit (s.mapEntry i) 62 b)
/-- MOVING of name i set. -/
def State.setMoving (s : State) (i : Nat) (b : Bool) : State := s.setMapEntry i (setBit (s.mapEntry i) 63 b)

/-- The map line of name i has read uncorrectable (R295). -/
def State.mapUnusable (s : State) (i : Nat) : Bool := s.tier.mapBad.contains (i / 8)

/-- A bit of TIER_STATUS. -/
def State.tierStat (s : State) (b : Nat) : State := s.orReg rTIER_STATUS (2 ^ b)

/-- An uncorrectable line of the map that a read of the entry of name i meets: it is reported, and its eight names become unusable (R295). -/
def State.mapUe (s : State) (i : Nat) : State :=
  let g := s.pool.map + 8 * i
  if s.badLines.contains (g - g % 64) ∧ !s.mapUnusable i then
    ({ s.lineUe (g - g % 64) with tier := { s.tier with mapBad := s.tier.mapBad ++ [i / 8] } }.tierStat 5).record
      ⟨sevDegraded, 13, 5, 0, 0, 0, g - g % 64, 0, 0⟩
  else s

/-- The agent reads the map entry of name i from hearth: the miss is counted (R292). -/
def State.readMap (s : State) (i : Nat) : State := ((s.count rTIER_CNT 31 0 1).dieEvent (s.nameDie i) 0x07 0 1).mapUe i

/-- Entries of an agent's part of the map cache (R292). -/
def cacheSize : Nat := 4096

/-- The agent looks up name i: in its part of the map cache, or in hearth, which brings the name into the cache in place of the oldest. -/
def State.lookup (s : State) (i : Nat) : State :=
  let d := s.nameDie i
  if (s.agent d).cache.contains i then s
  else
    let s := s.readMap i
    let a := s.agent d
    s.setAgent d { a with cache := (if a.cache.length < cacheSize then a.cache else a.cache.drop 1) ++ [i] }

/-- A promotion appended to the promote queue of its agent: a full queue drops the one that has waited longest (R294). -/
def State.promote (s : State) (i : Nat) : State :=
  let d := s.nameDie i
  let a := s.agent d
  if a.promote.contains i then s
  else if a.promote.length < 1024 then s.setAgent d { a with promote := a.promote ++ [i] }
  else ((s.setAgent d { a with promote := a.promote.drop 1 ++ [i] }).tierStat 0).count rTIER_CNT2 31 0 1

/-- A promotion put at the head of its agent's queue (R297). -/
def State.promoteFirst (s : State) (i : Nat) : State :=
  let d := s.nameDie i
  let a := s.agent d
  let q := a.promote.filter (fun j => decide (j ≠ i))
  if q.length < 1024 then s.setAgent d { a with promote := i :: q }
  else ((s.setAgent d { a with promote := i :: q.take 1023 }).tierStat 0).count rTIER_CNT2 31 0 1

/-- An access to name i heats it: by 1, by 4 under the window preference HEARTH, not at all under PEAT (R293); a name held in peat whose
HEAT rises to PROMOTE_T is promoted (R294). -/
def State.touch (s : State) (i tier : Nat) : State :=
  let k := if tier = 2 then 0 else if tier = 1 then 4 else 1
  if k = 0 then s
  else
    let was := s.heat i
    let h := min 63 (was + k)
    let s := s.setHeat i h
    if !s.inHearth i ∧ was < h ∧ s.regField rTIER_POLICY 15 8 ≤ h then s.promote i else s

/-- A compute reset is in progress (spec/14 R462). -/
def State.computeReset (s : State) : Bool := match s.boot.run with
  | some r => r.core.isNone
  | none => false

/-- A translated access to name i (R292, R293). -/
def State.access (s : State) (i tier : Nat) : State := (s.lookup i).touch i tier

/-- Names of the pool that [a, a + len) touches. -/
def State.namesIn (s : State) (a len : Nat) : List Nat :=
  (List.range ((a % 65536 + len + 65535) / 65536)).filterMap (fun i => s.pool.nameOf (a - a % 65536 + 65536 * i))

/-- The map entry of a name that [a, a + len) touches is unusable: the access is answered POISONED (R295). -/
def State.unusable (s : State) (a len : Nat) : Bool := (s.namesIn a len).any s.mapUnusable

/-- A read of hearth or peat by a unit of the module, through the pool's map: its bytes, or none where it is answered POISONED. -/
def State.ringRead (s : State) (a len : Nat) : Option Bytes × State :=
  let s := (s.namesIn a len).foldl (fun s i => s.access i 0) s
  if s.unusable a len then (none, s) else s.lineRead a len

/-! ## Back-invalidation (spec/11 R360) -/

/-- A snoop of a line that its host has not answered. -/
def HostLine.waits (l : HostLine) : Bool := decide (l.snoop = some (true, false)) || decide (l.snoop = some (false, false))

/-- A snoop sent for a line now. -/
def HostLine.sent (l : HostLine) (inv : Bool) (now : Nat) : HostLine := { l with snoop := some (inv, false), since := now }

/-- Whether device-side accesses to ranges (address, length, whether it writes) may be served, and the state with the snoops that they must
first wait for: BISnpData before a read, BISnpInv before a write. -/
def State.snoopedAll (s : State) (rs : List (Nat × Nat × Bool)) : Bool × State :=
  let on (l : HostLine) : List (Nat × Nat × Bool) := rs.filter (fun r => decide (l.line < r.1 + r.2.1) && decide (r.1 < l.line + 64))
  let inv (l : HostLine) : Bool := (on l).any (fun r => r.2.2)
  let blocks (l : HostLine) : Bool := !(on l).isEmpty && !(!inv l && decide (l.snoop = some (false, true)))
  let due (l : HostLine) : Bool := blocks l && !l.waits
  if s.port.lines.any blocks then
    let s := s.count rCXL_SFCNT 63 32 (s.port.lines.countP due)
    (false, { s with port := { s.port with lines := s.port.lines.map (fun l => if due l then l.sent (inv l) s.ns else l) } })
  else
    (true, { s with port := { s.port with lines := s.port.lines.map (fun l => if (on l).isEmpty then l else { l with snoop := none }) } })

/-- A device-side access to [a, a + len). -/
def State.snooped (s : State) (a len : Nat) (write : Bool) : Bool × State := s.snoopedAll [(a, len, write)]

end Sys2Proof.Machine
end

