-- ==== Sys2Proof/Machine/Jobs.lean ====
section
/-! DEFINITION. Jobs as their tasks and seals report to them: the first cause, KILL on what is still resident, the seals of the
output regions (spec/04 R150, R152, R154, spec/11 R377, R378, spec/12 R406). -/

namespace Sys2Proof.Machine

/-- Completion statuses (spec/00 R17). -/
abbrev stSealed : Nat := 0x00
/-- DONE_PROVISIONAL. -/
abbrev stProvisional : Nat := 0x01
/-- STATE_CONFLICT. -/
abbrev stConflict : Nat := 0x10
/-- BAD_DESCRIPTOR. -/
abbrev stBadDescriptor : Nat := 0x11
/-- PERMISSION. -/
abbrev stPermission : Nat := 0x12
/-- TIMEOUT. -/
abbrev stTimeout : Nat := 0x20
/-- RETRACTED_UNRECOVERED. -/
abbrev stRetracted : Nat := 0x21
/-- CAPACITY_LOST. -/
abbrev stCapacity : Nat := 0x22
/-- ABORTED_BY_RESET. -/
abbrev stReset : Nat := 0x30

/-- The completion status that an end code contributes (spec/04 R154). -/
def endStatus (code : Nat) : Nat :=
  if code = endOk then stSealed
  else if code < 0x10 then stBadDescriptor
  else if code = endTimeout then stTimeout
  else if code = endPermission then stPermission
  else if code = endRetracted then stRetracted
  else if code = endAbsent then stCapacity
  else stReset

/-- The job of a tag. -/
def State.job (s : State) (tag : Nat) : Option Job := tget (fun _ => none) s.jobs tag
/-- The job of a tag replaced or removed. -/
def State.setJob (s : State) (tag : Nat) (j : Option Job) : State := { s with jobs := tset (fun _ => none) s.jobs tag j }
/-- The job of a tag changed. -/
def State.modJob (s : State) (tag : Nat) (f : Job → Job) : State := s.setJob tag ((s.job tag).map f)

/-- OP of a job. -/
def Job.op (j : Job) : Nat := leAt j.desc 0 1
/-- PROVISIONAL. -/
def Job.provisional (j : Job) : Bool := (leAt j.desc 1 1).testBit 0
/-- Tag of a job (R372). -/
def Job.tag (j : Job) : Nat := j.ring * 2 ^ 26 + j.idx.toNat % 2 ^ 26

/-- The used output regions of a job: address and length; only a START has any (R372). -/
def descRegions (desc : Bytes) : List (Nat × Nat) :=
  if leAt desc 0 1 ≠ 1 then []
  else ((List.range 6).map (fun i => (leAt desc (32 + 16 * i) 8, leAt desc (40 + 16 * i) 4))).filter (fun r => decide (r.2 ≠ 0))

/-- A task that holds a slot under KILL (spec/04 R150, R152): its operations are discarded and it drains with TASK_RESET, which
replaces any end code not yet reported. -/
def State.killTask (s : State) (n t : Nat) : State :=
  if (s.task n t).phase = .empty then s
  else (s.discardOps n t).modTask n t (fun k =>
    { k with phase := .draining, wait := none, freeze := none, killed := true, endSet := true, endCode := endReset, async := false
             detail := 0 })

/-- KILL on every task of a job that is still resident (R377). -/
def State.killJob (s : State) (j : Job) : State :=
  j.tasks.foldl (fun s x => match x.slot, x.ended with
    | some t, none => s.killTask x.core t
    | _, _ => s) s

/-- The first cause of a job (R377): it stands, and what is still resident of the job is killed. -/
def State.jobCause (s : State) (tag : Nat) (c : JobCause) : State :=
  match s.job tag with
  | some j =>
    if j.cause.isSome then s
    else (s.setJob tag (some { j with cause := some c, phase := .ending })).killJob j
  | none => s

/-- A reference stands on a block of region r, kept by unit u (R406). -/
def refInRegion (u : Nat) (x : SealRef) (r : Nat × Nat) : Bool :=
  let lo := if u < 512 then spadAddr u (x.block * 4096) else x.block * 4096
  decide (lo < r.1 + r.2) && decide (r.1 < lo + 4096) && (decide (512 ≤ u) || decide (spadBase ≤ r.1))

/-- References on the blocks of region r. -/
def State.regionRefs (s : State) (r : Nat × Nat) : List SealRef :=
  s.seals.flatMap (fun e => e.2.refs.filter (fun x => refInRegion e.1 x r))

/-- State of region r under R18: 0 OPEN, 1 SEALED, 2 RETRACTED, 3 LAPSED. -/
def State.regionState (s : State) (r : Nat × Nat) : Nat :=
  let rs := s.regionRefs r
  if rs.any (fun x => decide (x.st = .lapsed)) then 3 else if rs.any (fun x => decide (x.st = .retracted)) then 2
  else if rs.isEmpty then 1 else 0

/-- Every task of the job has ended with END_OK. -/
def Job.allOk (j : Job) : Bool := !j.tasks.isEmpty && j.tasks.all (fun x => decide (x.ended = some endOk))

/-- No task of the job holds a slot. -/
def Job.allGone (j : Job) : Bool := j.tasks.all (fun x => x.ended.isSome || x.slot.isNone)

/-- Every job whose tasks have all ended with END_OK takes an output region that is RETRACTED or LAPSED as its cause
(R377, R406). -/
def State.jobsSee (s : State) : State :=
  { s with jobs := s.jobs.map (fun e => (e.1, e.2.map (fun j =>
      if j.cause.isSome ∨ !j.allOk then j
      else match ((descRegions j.desc).map s.regionState).find? (fun v => decide (2 ≤ v)) with
        | some v => { j with cause := some ⟨stRetracted, 0, 0, none, v⟩, phase := .ending }
        | none => j))) }

/-- An epoch that unit u held seals: every job with an output region on a block that refers to it takes its flags (R378). -/
def State.jobsSeal (s : State) (u : Nat) (key : ProdKey) (e : BitVec 32) (flags : Nat) : State :=
  if flags = 0 then s
  else
    let rs := (s.sealUnit u).refs.filter (fun r => decide (r.key = key) && decide (r.epoch = e))
    { s with jobs := s.jobs.map (fun x => (x.1, x.2.map (fun j =>
        if (descRegions j.desc).any (fun g => rs.any (fun r => refInRegion u r g)) then { j with flags := j.flags ||| flags } else j))) }

/-- A task of a job reports its end (R377): a code other than END_OK is a cause. -/
def State.taskReported (s : State) (tag n : Nat) (no : BitVec 32) (code : Nat) : State :=
  let mine (x : JobTask) : Bool := decide (x.core = n) && decide (x.no = no) && x.slot.isSome && x.ended.isNone
  let s := s.modJob tag (fun j => { j with tasks := modFirst mine (fun x => { x with ended := some code }) j.tasks })
  if code = endOk then s.jobsSee else s.jobCause tag ⟨endStatus code, code, 0, some (n, no), 0⟩

end Sys2Proof.Machine
end

