-- ==== Sys2Proof/Machine/Routes.lean ====
section
/-! DEFINITION. The operand lattice's links: their routes over physical slots, the tokens on them, and the steering that follows the
kindling map (spec/06 R186, R191 to R196, R209, R210). Links are numbered 0 N, 1 E, 2 S, 3 W. -/

namespace Sys2Proof.Machine

/-- Number of a link. -/
def dirNo : Dir → Nat
  | .n => 0
  | .e => 1
  | .s => 2
  | .w => 3

/-- Link of a number. -/
def dirOf : Nat → Dir
  | 0 => .n
  | 1 => .e
  | 2 => .s
  | _ => .w

/-- Row of the module grid of a core. -/
def gridRow (n : Nat) : Nat := 16 * (n / 256) + n / 8 % 16
/-- Column of the module grid of a core. -/
def gridCol (n : Nat) : Nat := 8 * (n / 128 % 2) + n % 8
/-- The core at a place of the module grid. -/
def coreAt (r c : Nat) : Nat := (2 * (r / 16) + c / 8) * 128 + r % 16 * 8 + c % 8

/-- The core at the far end of link i of core n; none at an edge of the grid (R186). -/
def neighbour (n i : Nat) : Option Nat :=
  let r := gridRow n
  let c := gridCol n
  match i with
  | 0 => if r = 0 then none else some (coreAt (r - 1) c)
  | 1 => if c = 15 then none else some (coreAt r (c + 1))
  | 2 => if r = 31 then none else some (coreAt (r + 1) c)
  | _ => if c = 0 then none else some (coreAt r (c - 1))

/-- The link at the far end. -/
def opposite (i : Nat) : Nat := (i + 2) % 4

/-- The physical slot east of a slot, across the seam of a western die. -/
def eastOf (p : Nat) : Option Nat :=
  if p % 9 < 8 then some (p + 1) else if p / 144 % 2 = 0 then some (p + 144 - 8) else none

/-- The physical slot west of a slot, across the seam of an eastern die. -/
def westOf (p : Nat) : Option Nat :=
  if 0 < p % 9 then some (p - 1) else if p / 144 % 2 = 1 then some (p + 8 - 144) else none

/-- A slot passes tokens by: it holds no logical core and its router domain is powered (R191). -/
def State.isBypass (s : State) (p : Nat) : Bool := (s.holder p).isNone && (s.slot p).routerOn

/-- The slots strictly between two slots going east or west from p to q; none when q is not met in `fuel` steps. -/
def between (east : Bool) (q : Nat) : Nat → Nat → Option (List Nat)
  | 0, _ => none
  | fuel + 1, p =>
    match (if east then eastOf p else westOf p) with
    | none => none
    | some x => if x = q then some [] else (between east q fuel x).map (fun l => x :: l)

/-- The bypass slots of link i of core n; none when the link is absent (R192, R193). -/
def State.routeOf (s : State) (n i : Nat) : Option (List Nat) :=
  match neighbour n i, s.slotOf n with
  | some m, some p => match s.slotOf m with
    | none => none
    | some q =>
      if i % 2 = 0 then some []
      else match between (decide (i = 1)) q 4 p with
        | some l => if l.all (fun x => s.isBypass x) then some l else none
        | none => none
  | _, _ => none

/-- LAT_ROUTEi.PRESENT. -/
def State.linkPresent (s : State) (n i : Nat) : Bool := (s.routeOf n i).isSome

/-- Every slot of link i of core n as the kindling map places it, both ends among them. -/
def State.mapPath (s : State) (n i : Nat) : Option (List Nat) :=
  match s.routeOf n i, s.slotOf n, (neighbour n i).bind s.slotOf with
  | some l, some p, some q => some (p :: l ++ [q])
  | _, _, _ => none

/-- Number of a link of the module. -/
def linkId (n i : Nat) : Nat := n * 4 + i

/-- The steering of link i of core n waits for its route to be empty: the route that it still has (R194). -/
def State.steered (s : State) (k : Nat) : Option (List Nat) := tget (fun _ => none) s.steer k

/-- The slots of a link's route in force. -/
def State.path (s : State) (k : Nat) : Option (List Nat) :=
  match s.steered k with
  | some p => some p
  | none => s.mapPath (k / 4) (k % 4)

/-- Stages of the wire between two slots of a route, each of which holds one token (R195, R209): 1, or 13 across a seam, and one more for a
diagonal N–S path. -/
def wireStages (p q : Nat) : Nat :=
  let jog := if p % 144 / 9 = q % 144 / 9 ∨ p % 9 = q % 9 then 0 else 1
  (if p / 144 = q / 144 then 1 else 13) + jog

/-- Room of a route for tokens on their way to its slot at place k + 1: the stages of the wire, and of the crossing when the slot is a bypass
slot (R195, R209). -/
def segRoom (path : List Nat) (k : Nat) : Nat :=
  wireStages (path.getD k 0) (path.getD (k + 1) 0) + (if k + 2 < path.length then 2 else 0)

/-- The wire to place k + 1 of a link's route has room. -/
def State.segFree (s : State) (l k : Nat) : Bool :=
  match s.path l with
  | some p => decide (s.wires.countP (fun w => decide (w.link = l) && decide (w.pos = k)) < segRoom p k)
  | none => false

/-- A token moved on a link: both its cores have seen their lattice move (R211). -/
def State.linkMoved (s : State) (l : Nat) : State :=
  let s := s.modCore (l / 4) (fun c => { c with moved := s.ns })
  match neighbour (l / 4) (l % 4) with
  | some m => s.modCore m (fun c => { c with moved := s.ns })
  | none => s

/-- What the output register of a link holds enters the wire once that has room; none does while the link's steering waits (R194, R210). -/
def State.pumpLink (s : State) (l : Nat) : State :=
  let k := (s.core (l / 4)).link (l % 4)
  match k.out with
  | [] => s
  | x :: xs =>
    if (s.steered l).isSome ∨ !s.segFree l 0 then s
    else ((s.modCore (l / 4) (fun c => c.setLink (l % 4) { k with out := xs })).linkMoved l |> fun s => { s with wires := s.wires ++ [⟨l, 0, x⟩] })

/-- An item enters the output register of link i of core n, and the wire from there when that has room. -/
def State.emit (s : State) (n i : Nat) (x : LatItem) : State :=
  (s.modCore n (fun c => c.setLink i { c.link i with out := (c.link i).out ++ [x] })).pumpLink (linkId n i)

/-- The route of link i of core n holds a token. -/
def State.routeBusy (s : State) (n i : Nat) : Bool := s.wires.any (fun w => decide (w.link = linkId n i))

/-- ROUTE_STEER_CHANGE (R194): a change of steering that waits takes effect once the route holds no token. -/
def execRouteSteerChange (c : CoreId) (d : Dir) (s : State) : Host.Outcome State Fault Refusal :=
  let k := linkId c (dirNo d)
  if (s.steered k).isNone ∨ s.routeBusy c (dirNo d) then .next s
  else .next (({ s with steer := tset (fun _ => none) s.steer k none } : State).pumpLink k)

end Sys2Proof.Machine
end

