-- ==== Sys2Proof/Machine/Kindling.lean ====
section
/-! DEFINITION. The kindling map and the service states of slots: placement, moves of the resting slot, fences, watches, the defect
map, tests under way (spec/13 R413 to R427, R440 to R442). Physical slots are numbered die × 144 + row × 9 + slot, rows die × 16 + row. -/

namespace Sys2Proof.Machine

/-- Service states under spec/00 R18. -/
abbrev svcIn : Nat := 0
/-- STANDING_IN. -/
abbrev svcStanding : Nat := 1
/-- ON_TEST. -/
abbrev svcTest : Nat := 2
/-- WATCH. -/
abbrev svcWatch : Nat := 3
/-- FENCED. -/
abbrev svcFenced : Nat := 4
/-- FENCED_COND. -/
abbrev svcCond : Nat := 5
/-- CINDER. -/
abbrev svcCinder : Nat := 6

/-- The nine slots of a row. -/
def rowSlots (r : Nat) : List Nat := (List.range 9).map (fun i => r * 9 + i)

/-- The eight logical cores of a row. -/
def rowCores (r : Nat) : List Nat := (List.range 8).map (fun c => r * 8 + c)

/-- A slot is FENCED or CINDER. -/
def Slot.lost (x : Slot) : Bool := decide (x.service = svcFenced) || decide (x.service = svcCinder)

/-- Slots of row r that are FENCED or CINDER, as a set of slot numbers (R414). -/
def State.lostMask (s : State) (r : Nat) : Nat := ((List.range 9).filter (fun i => (s.slot (r * 9 + i)).lost)).foldl (fun m i => m ||| 2 ^ i) 0

/-- q of row r (R414). -/
def State.lostCount (s : State) (r : Nat) : Nat := popCount 9 (s.lostMask r)

/-- The slot that core n would hold with the free slots u. -/
def State.slotUnder (s : State) (n u : Nat) : Option Nat :=
  if (s.row (n / 8)).withheld.toNat.testBit (n % 8) then none
  else match (placeRow u)[n % 8]? with
    | some (some i) => some (n / 8 * 9 + i)
    | _ => none

/-- The resting slot of row r: the one slot of U when it is not FENCED, CINDER or conditionally fenced (R414). -/
def State.resting (s : State) (r : Nat) : Option Nat :=
  let u := (s.row r).u.toNat
  match (List.range 9).filter (fun i => u.testBit i) with
  | [i] => let x := s.slot (r * 9 + i); if x.lost ∨ x.service = svcCond then none else some i
  | _ => none

/-- Row r has a stand-in: its resting slot is STANDING_IN (R415). -/
def State.standIn (s : State) (r : Nat) : Bool :=
  match s.resting r with
  | some i => decide ((s.slot (r * 9 + i)).service = svcStanding)
  | none => false

/-- A test or a move is under way in row r. -/
def State.rowBusy (s : State) (r : Nat) : Bool := (s.row r).move.isSome || (rowSlots r).any (fun p => (s.slot p).test.isSome)

/-- A bit of SMD_STATUS. -/
def State.smdStat (s : State) (b : Nat) : State := s.orReg rSMD_STATUS (2 ^ b)

/-! ## The defect map (R442) -/

/-- Bits 59:50 of an entry: the place of slot p. -/
def posBits (p : Nat) : Nat := (p / 144) * 2 ^ 58 + (p % 144 / 9) * 2 ^ 54 + (p % 9) * 2 ^ 50

/-- Place of word w of OTP generation g. -/
def genWord (g w : Nat) : Nat := 0x1000 + g * 1024 + 8 * w
/-- A word of OTP. -/
def State.otpWord (s : State) (a : Nat) : Nat := ofLe (tread zeroByte s.otp a 8)
/-- The value of a parameter in a list of records. -/
def paramIn (ps : List Param) (key idx : Nat) : Option Word :=
  (ps.find? (fun p => decide (p.key.toNat = key) && decide (p.index.toNat = idx))).map (fun p => p.value)

/-- The DEFAULTS records of OTP, up to a record whose KEY is zero. -/
def State.otpParams (s : State) : List Param :=
  ((List.range 224).map (fun i => Param.mk (BitVec.ofNat 32 (ofLe (tread zeroByte s.otp (0x200 + 16 * i) 4)))
    (BitVec.ofNat 32 (ofLe (tread zeroByte s.otp (0x204 + 16 * i) 4))) (BitVec.ofNat 64 (s.otpWord (0x208 + 16 * i))))).takeWhile (fun p => decide (p.key ≠ 0))

/-- A parameter in force: the image's record, or else the OTP default. -/
def State.param (s : State) (key idx : Nat) : Option Word :=
  match (s.boot.image.bind (fun i => paramIn i.params key idx)) with
  | some v => some v
  | none => paramIn s.otpParams key idx

/-- A number parameter with its default. -/
def State.paramN (s : State) (key idx default_ : Nat) : Nat := ((s.param key idx).map (fun v => v.toNat)).getD default_

/-- Bits of an OTP word set: written from 0 to 1 and never back (spec/15 R472). -/
def State.setOtp (s : State) (a v : Nat) : State := { s with otp := twrite zeroByte s.otp a (leBytes 8 (s.otpWord a ||| v)) }
/-- The first unused word of the lowest generation that is not full; generation 0 was closed at manufacture (spec/15 R485). -/
def State.freeWordAt (s : State) : Option (Nat × Nat) :=
  ((List.range 381).map (fun i => (1 + i / 127, 1 + i % 127))).find? (fun q => decide (s.otpWord (genWord q.1 q.2) = 0))

/-- An entry of the defect map committed (spec/15 R485): in OTP while a generation has room, and in the flash journal after that. -/
def State.journalEntry (s : State) (e : Word) : State :=
  let s := { s with dmap := s.dmap ++ [e] }
  match s.freeWordAt with
  | some (g, w) => (s.setOtp (genWord g 0) (0x4447 * 2 ^ 48 + g * 2 ^ 40)).setOtp (genWord g w) e.toNat
  | none => s.flash 1 (leBytes 8 e.toNat ++ leBytes 8 0)

/-- An entry about slot p journaled. -/
def State.journal (s : State) (kind p rest : Nat) : State := s.journalEntry (BitVec.ofNat 64 (kind * 2 ^ 60 + posBits p + rest))

/-- A row marked in a repair map; none when both places are taken. -/
def markRow (w : Word) (i : Nat) : Option Word :=
  if (bitOf w 0 ∧ field w 7 1 = i) ∨ (bitOf w 8 ∧ field w 15 9 = i) then some w
  else if !bitOf w 0 then some (setBit (setField w 7 1 i) 0 true)
  else if !bitOf w 8 then some (setBit (setField w 15 9 i) 8 true)
  else none

/-- A column marked in a repair map; none when both places are taken. -/
def markCol (w : Word) (i : Nat) : Option Word :=
  if (bitOf w 16 ∧ field w 23 17 = i) ∨ (bitOf w 24 ∧ field w 31 25 = i) then some w
  else if !bitOf w 16 then some (setBit (setField w 23 17 i) 16 true)
  else if !bitOf w 24 then some (setBit (setField w 31 25 i) 24 true)
  else none

/-- The soft repair map of array a of slot p that the defect map gives (R92, R443). -/
def State.mapRepair (s : State) (p a : Nat) : Word :=
  s.dmap.foldl (fun w e =>
    if field e 59 50 ≠ posBits p / 2 ^ 50 ∨ field e 49 48 ≠ a then w
    else if field e 63 60 = 3 then (markRow w (field e 47 41)).getD w
    else if field e 63 60 = 4 then (markCol w (field e 47 41)).getD w
    else w) 0

/-! ## Registers that belong to a physical slot -/

/-- Key of a register of the core page of slot p: the page of the logical core that it holds, or the slot's own. -/
def State.pageKey (s : State) (p off : Nat) : Nat :=
  match s.holder p with
  | some n => coreKey n off
  | none => slotKey p off

/-- ARR_REPAIR of slot p's arrays set. -/
def State.setRepairs (s : State) (p : Nat) (ws : List Word) : State :=
  ws.zipIdx.foldl (fun s x => s.setReg (s.pageKey p (rARR_REPAIRa + 8 * x.2)) x.1) s

/-- Registers of a core page that belong to the physical slot and stay with it: repair maps and router port marks. -/
def slotOwned : List Nat := (List.range 4).map (fun a => rARR_REPAIRa + 8 * a) ++ (List.range 6).map (fun i => rMESH_PORTp + 8 * i)

/-- The registers of slot p's core page at their reset values, ARR_REPAIR from the defect map (R421). -/
def State.resetPage (s : State) (p : Nat) : State :=
  let base := s.pageKey p 0
  let s := { s with regs := tdrop (fun k => decide (base ≤ k) && decide (k < base + 0x10000)) s.regs }
  s.setRepairs p ((List.range 4).map (fun a => s.mapRepair p a))

/-- Bytes of core n's scratchpad outside the regions that its tasks hold. -/
def State.dropLoose (s : State) (n : Nat) : State :=
  let spans := (s.core n).tasks.flatMap (fun e => e.2.img.regions.map (fun r => (spadAddr n r.base, r.size)))
  let loose (x : Nat) : Bool := decide (spadAddr n 0 ≤ x) && decide (x < spadAddr n 0 + spadSize) &&
    !spans.any (fun q => decide (q.1 ≤ x) && decide (x < q.1 + q.2))
  { s with ram := tdrop loose s.ram, badWords := s.badWords.filter (fun x => !loose x), ceWords := s.ceWords.filter (fun x => !loose x) }

/-- What a reset of a core's compute domain leaves: its lattice switch, which goes on passing streams of other cores (spec/02 R57); STOP reads 0
then, and a stopped lattice idles (spec/06 R215). -/
def Core.passThrough (c : Core) : Core :=
  { Core.zero with moved := c.moved, links := if c.stopped then [] else c.links.map (fun e => (e.1, { e.2 with hwm := 0 })) }

/-- Slot p is re-initialised (R421): scratchpad zero, queue store, statistics, banks and windows empty, registers reset; queue and
sheaf generations stay. -/
def State.reinit (s : State) (p : Nat) : State :=
  let s := s.resetPage p
  match s.holder p with
  | some n =>
    let c := s.core n
    let hit (x : Nat) : Bool := decide (spadAddr n 0 ≤ x) && decide (x < spadAddr n 0 + spadSize)
    { s.setCore n { c.passThrough with qgen := c.qgen, sgen := c.sgen, refusal := c.refusal } with
      ram := tdrop hit s.ram, badWords := s.badWords.filter (fun x => !hit x), ceWords := s.ceWords.filter (fun x => !hit x) }
  | none => s

/-! ## Placement -/

/-- Links whose route a change of row r's placement may change: those of its cores, and those that face them (spec/06 R192, R194). -/
def rowLinks (r : Nat) : List Nat :=
  (List.range 32).flatMap (fun x =>
    let k := linkId (r * 8 + x / 4) (x % 4)
    k :: ((neighbour (r * 8 + x / 4) (x % 4)).map (fun m => [linkId m (opposite (x % 4))])).getD [])

/-- Links that hold tokens keep the route that they had in `before` where the map now gives another (spec/06 R194). -/
def State.keepRoutes (s before : State) (ks : List Nat) : State :=
  ks.foldl (fun s k =>
    if (s.steered k).isNone ∧ s.wires.any (fun w => decide (w.link = k)) ∧ before.path k ≠ s.path k then
      { s with steer := tset (fun _ => none) s.steer k (before.path k) }
    else s) s

/-- Core n now stands on another slot (R429): its state has come with it, but for weight banks, windows and bytes outside its
regions, which the new slot holds empty. -/
def State.moved (s : State) (n : Nat) : State := (s.modCore n Core.dropWindows).dropLoose n

/-- A slot that takes or gives up a logical core by a placement. -/
def State.settleSlot (s : State) (p : Nat) : State :=
  let x := s.slot p
  let holds := (s.holder p).isSome
  if holds ∧ x.service = svcStanding then s.setSlot p { x with service := svcIn, iso := false, rst := false }
  else if holds ∧ x.service = svcWatch then s.setSlot p { x with iso := false, rst := false }
  else if !holds ∧ x.service = svcIn then s.setSlot p { x with service := svcStanding, iso := true }
  else if !holds ∧ x.service = svcWatch then s.setSlot p { x with iso := true }
  else s

/-- The map of row r set: each slot keeps its own registers, under whichever page serves them now. -/
def State.placeRow (s : State) (r : Nat) (m : RowMap) : State :=
  let own := (rowSlots r).flatMap (fun p => slotOwned.map (fun o => (p, o, s.reg (s.pageKey p o))))
  own.foldl (fun s x => s.setReg (s.pageKey x.1 x.2.1) x.2.2) (s.setRow r m)

/-- U of row r set (R413, R414): cores that change slots keep their state, each slot keeping its repair maps and port marks; links with tokens
on their way keep their routes for these (spec/06 R194). -/
def State.commitU (s : State) (r u : Nat) : State :=
  let was := s
  let s := s.placeRow r { s.row r with u := BitVec.ofNat 9 u }
  let s := (List.range 8).foldl (fun s c =>
    let n := r * 8 + c
    if was.slotOf n ≠ s.slotOf n ∧ (s.slotOf n).isSome then s.moved n else s) s
  ((rowSlots r).foldl (fun s p => s.settleSlot p) s).keepRoutes was (rowLinks r)

/-! ## Tests under way -/

/-- HOURS of SMD_PERIOD in ns. -/
def hoursNs (h : Nat) : Nat := h * 3600000000000

/-- ACT of a row power in units of 10 mW against the row maximum of 56 W (R426, spec/16 R511). -/
def actClass (units : Nat) : Nat := if units < 1400 then 0 else if units < 2800 then 1 else if units < 4200 then 2 else 3

/-- The condition cell of slot p now (R426, spec/16 R511): TBAND in 10:6, VBAND in 5:2, ACT in 1:0. -/
def State.cellOf (s : State) (p : Nat) : Nat :=
  let d := p / 144
  let row := s.reg (dieKey d (rPWR_ROWr + 8 * (p % 144 / 9)))
  let mv := s.regField (dieKey d rPWR_VCORE) 43 30
  let t := min 31 (field row 23 16 / 5)
  let v := min 14 ((mv - 550) / 25)
  t * 64 + v * 4 + actClass (field row 15 0)

/-- Cell x lies within one TBAND and one VBAND of cell y with ACT equal to or above it (R426). -/
def cellNear (x y : Nat) : Bool :=
  let near (a b : Nat) : Bool := decide (a ≤ b + 1) && decide (b ≤ a + 1)
  near (x / 64) (y / 64) && near (x / 4 % 16) (y / 4 % 16) && decide (y % 4 ≤ x % 4)

/-- The last test record of slot p (SMD_Ss_LAST). -/
def State.testRecord (s : State) (p slice result : Nat) (pinch : Bool) : State :=
  let cell := s.cellOf p
  s.modSlot p (fun x => { x with last := BitVec.ofNat 64 ((s.ns >>> 30) % 2 ^ 32 * 2 ^ 32 + cell % 4 * 2 ^ 30 + cell / 4 % 16 * 2 ^ 26 +
    cell / 64 * 2 ^ 21 + result * 2 ^ 19 + b2n pinch * 2 ^ 18 + x.passNo % 4 * 2 ^ 16 + slice * 2 ^ 10) })

/-- A command of SMD_CMD of die d ends with a result (R444). -/
def State.smdDone (s : State) (d result : Nat) : State :=
  let key := dieKey d rSMD_CMD
  s.setReg key (setField (setBit (setBit (s.reg key) 63 false) 62 true) 61 60 result)

/-- No slice runs in place on slot p any more. -/
def State.quitSlice (s : State) (p : Nat) : State :=
  let m := s.row (p / 9)
  if m.slice = some (p % 9) then s.setRow (p / 9) { m with slice := none } else s

/-- A test ends, its slot back in a service state; a TEST command that waited for it ends with a result. -/
def State.endTest (s : State) (p svc result : Nat) : State :=
  let x := s.slot p
  let cmd := (x.test.map (fun t => t.cmd)).getD false
  let idle := decide (svc = svcStanding) || (decide (svc = svcWatch) && (s.holder p).isNone)
  let s := match s.holder p with
    | some n => s.gatherFlush n
    | none => s
  let s := (s.setSlot p { x with test := none, service := svc, iso := idle, on := decide (svc ≠ svcFenced) && decide (svc ≠ svcCinder) }).quitSlice p
  if cmd then s.smdDone (p / 144) result else s

/-- The test on slot p is abandoned (R417, R418): a slot not tested in place is re-initialised, and the slot returns to its state before the
test. -/
def State.abandonTest (s : State) (p : Nat) : State :=
  let x := s.slot p
  match x.test with
  | some t =>
    let s := s.testRecord p (if t.next = 40 then 48 else t.next) 2 false
    (if t.inPlace then s else s.reinit p).endTest p (if x.service = svcTest then x.prior else x.service) 2
  | none => s

/-- A test begins on slot p (R419, R424): its domain is powered and isolated for the time of the test, or, in place, for that of each slice. -/
def State.startTest (s : State) (p : Nat) (inPlace cmd : Bool) : State :=
  s.modSlot p (fun x =>
    let every := s.regField rSMD_CTRL 11 8
    let no := x.passNo + 1
    { x with test := some ⟨inPlace, 0, false, false, decide (every ≠ 0) && decide (no % every = 0), 0, cmd, 0, false⟩, passNo := no, on := true, iso := x.iso || !inPlace
             first := false, dueAt := s.ns })

/-- A core has no task and no reservation: a slice may run in place (R425). -/
def State.coreIdle (s : State) (n : Nat) : Bool := (List.range 4).all (fun t => !(s.task n t).holds)

/-- A slice of the test t on slot p runs, or may: in place only while it is the one slice of its row, at its time, and while the core holds no
resident task (R425). -/
def State.mayRun (s : State) (p : Nat) (t : TestRun) : Bool :=
  !t.inPlace || match (s.row (p / 9)).slice with
    | some i => decide (i = p % 9)
    | none => decide (t.sliceAt ≤ s.ns) && (match s.holder p with
        | some n => s.coreIdle n
        | none => true)

/-- A slice in place begins on slot p: its domain is isolated while it runs (R420, R425). -/
def State.beginSlice (s : State) (p : Nat) : State :=
  (s.setRow (p / 9) { s.row (p / 9) with slice := some (p % 9) }).modSlot p (fun x => { x with iso := true })

/-- A slice on slot p is over; in place the domain is in use again, and the next slice comes when slices of 25 ms have held at most CHECK_BUDGET
of the time (R425). -/
def State.endSlice (s : State) (p : Nat) (t : TestRun) : State :=
  if !t.inPlace then s
  else
    let s := match s.holder p with
      | some n => s.gatherFlush n
      | none => s
    (s.quitSlice p).modSlot p (fun x => { x with
      iso := false, test := x.test.map (fun y => { y with sliceAt := s.ns + 25000000 * 10000 / s.regField rSMD_CTRL 25 16 }) })

/-- The resting slot of row r is tested (R417). -/
def State.testResting (s : State) (r i : Nat) (cmd : Bool) : State :=
  let p := r * 9 + i
  (s.modSlot p (fun x => { x with prior := x.service, service := svcTest })).startTest p false cmd

/-! ## Moves of the resting slot (R427, R430) -/

/-- Tasks of core n that a migration froze resume at their frozen PC (R429, R433). -/
def State.thaw (s : State) (n : Nat) : State :=
  (List.range 4).foldl (fun s t =>
    let k := s.task n t
    if k.phase = .suspended ∧ k.freeze = some .migration then s.setTask n t { k with phase := .running, freeze := none, wait := none } else s) s

/-- Logical cores that migrate, in order, when the resting slot of row r moves from slot g to slot k (R430). -/
def State.moveCols (s : State) (r g k : Nat) : List Nat :=
  let cols := if k < g then ((List.range (g - k)).map (fun i => g - 1 - i)) else (List.range (k - g)).map (fun i => g + i)
  (cols.map (fun c => r * 8 + c)).filter (fun n => s.present n)

/-- Logical cores of row r that change slots and stay present when U becomes u (R440, R514). -/
def State.changedCols (s : State) (r u : Nat) : List Nat :=
  (rowCores r).filter (fun n =>
    let new := s.slotUnder n u
    new.isSome && decide (new ≠ s.slotOf n) && (s.slotOf n).isSome)

/-- A move has no column left: the target is the resting slot, and its test begins when the move serves one. A move that follows a
fence, a conditional fence or a CINDER is reported (R432). -/
def State.finishMove (s : State) (r : Nat) (m : Move) : State :=
  let s := s.setRow r { s.row r with move := none }
  let s := if m.cmd ∧ !m.test then s.smdDone (r / 16) 0 else s
  let s := if m.bad then s.record ⟨sevDegraded, 24, 0, 2, r * 9 + m.target, 0, 0, 0, 0⟩ else s
  if m.test then s.testResting r m.target m.cmd else s

/-- A move of the free slot of row r from slot g to slot k begins; the cores of `lost` are frozen already and are not copied. -/
def State.beginMove (s : State) (r g k : Nat) (lost : List Nat) (test cmd bad : Bool) : State :=
  let m : Move := ⟨k, s.moveCols r g k, lost, lost, test, cmd, bad, s.ns, [], none⟩
  if m.cols.isEmpty then (s.commitU r (2 ^ k)).finishMove r m else s.setRow r { s.row r with move := some m }

/-- A move of the resting slot of row r to slot k begins. -/
def State.planMove (s : State) (r k : Nat) (test cmd bad : Bool) : State :=
  match s.resting r with
  | some g => s.beginMove r g k [] test cmd bad
  | none => s

/-! ## Fences and watches -/

/-- Every resident task of core n is frozen for a recovery. -/
def State.freezeAll (s : State) (n : Nat) (why : Freeze) : State := (List.range 4).foldl (fun s t => s.freezeTask n t why) s

/-- A layout revision of row r begins (R440, R514): starts that name the row are refused, the tasks of the cores that become absent are
frozen, and the columns whose slots change await their migrations; a core that stood on a lost slot is not copied. -/
def State.beginRevision (s : State) (r : Nat) (cmd : Bool) : State :=
  let u := s.lostMask r
  let lost := (rowCores r).filter (fun n => (s.slotFor n).lost)
  let m : Move := ⟨9, s.changedCols r u, lost, lost, false, cmd, true, s.ns, [], none⟩
  let gone := (rowCores r).filter (fun n => s.present n && (s.slotUnder n u).isNone)
  let s := gone.foldl (fun s n => s.freezeAll n .recovery) s
  s.setRow r { s.row r with revising := true, move := some m }

/-- The move of row r is given up (R418, R433): the columns that have migrated stay, the others resume where they are. `abort`: a destination
has failed. -/
def State.dropMove (s : State) (r : Nat) (abort : Bool) : State :=
  match (s.row r).move with
  | some m =>
    let s := m.cols.foldl (fun s n => s.thaw n) (s.setRow r { s.row r with move := none })
    let s := if abort then s.smdStat 5 else s
    if m.cmd then s.smdDone (r / 16) 2 else s
  | none => s

/-- The router domain of slot p is lost with what it held: flits, and the lattice tokens that were on their way to it (R441, spec/08 R261). -/
def State.routerLost (s : State) (p : Nat) : State :=
  { s.emptyRouter p with wires := s.wires.filter (fun w => decide (((s.path w.link).bind (fun l => l[w.pos + 1]?)) ≠ some p)) }

/-- Slot p leaves service (R417, R418, R440): it becomes FENCED or CINDER, tests and moves of its row are abandoned, a conditional fence of
the row is revoked, the tasks of the core it held await recovery, and the row is re-placed: by a move while q is 1, by a layout revision
otherwise or after a router failure. `cmd`: a command of SMD_CMD waits for the re-placement. -/
def State.leaveService (s : State) (p svc : Nat) (router cmd : Bool) : State :=
  let r := p / 9
  let s : State := match (s.slot p).test with
    | some t => if t.cmd then s.smdDone (p / 144) 2 else s
    | none => s
  let s : State := (rowSlots r).foldl (fun s y => if y = p then s else s.abandonTest y) s
  let s : State := s.dropMove r (decide (s.resting r = some (p % 9)))
  let free := s.resting r
  let held := (s.holder p).toList
  let s : State := held.foldl (fun s n => s.freezeAll n .recovery) s
  let s := s.quitSlice p
  let s : State := s.modSlot p (fun y => { y with service := svc, on := false, iso := true, test := none, condActive := false, streak := 0
                                                  repaired := false, failCells := [], watchAt := s.ns, routerOn := y.routerOn && !router })
  let s : State := (rowSlots r).foldl (fun s y => if y ≠ p ∧ (s.slot y).service = svcCond then
      s.modSlot y (fun z => { z with service := svcFenced, on := false, condActive := false }) else s) s
  let s : State := if router then s.routerLost p else s
  let s : State := (s.smdStat 3).journal (if svc = svcCinder then 2 else 1) p 0
  if s.lostCount r = 1 ∧ router = false then
    match free with
    | some g =>
      if r * 9 + g = p then
        let s := s.setRow r { s.row r with rest := if g = 8 then 7 else 8 }
        if cmd then s.smdDone (p / 144) 0 else s
      else (s.setRow r { s.row r with rest := g }).beginMove r g (p % 9) held false cmd true
    | none => if cmd then s.smdDone (p / 144) 0 else s
  else s.beginRevision r cmd

/-- Slot p moves to WATCH (R417, R427): a row with a stand-in moves its resting slot there, and tests it while the rotation is enabled. -/
def State.enterWatch (s : State) (p : Nat) : State :=
  let r := p / 9
  let s := s.modSlot p (fun x => { x with service := svcWatch, watchAt := s.ns, first := true })
  if s.standIn r ∧ !s.rowBusy r ∧ (s.holder p).isSome then s.planMove r (p % 9) (bitOf (s.reg rSMD_CTRL) 0) false true else s

/-- A check failure attributed to the slot of core n (R423): it is placed first, and a second one within RECUR_H moves it to WATCH. -/
def State.attributed (s : State) (n : Nat) : State :=
  match s.slotOf n with
  | none => s
  | some p =>
    let x := s.slot p
    let window := hoursNs (s.regField rSMD_PERIOD 55 48)
    let again := x.attr.any (fun t => decide (s.ns ≤ t + window))
    let s := s.setSlot p { x with first := true, attr := s.ns :: x.attr.filter (fun t => decide (s.ns ≤ t + window)), watchAt := s.ns }
    if again ∧ x.service = svcIn then s.enterWatch p else s

/-- Start reservations for core n wait (R425, R429): a slice runs in place on its slot, or the core is frozen for a migration. -/
def State.startsWait (s : State) (n : Nat) : Bool :=
  (match s.slotOf n with
    | some p => decide ((s.row (p / 9)).slice = some (p % 9))
    | none => false) ||
  (((s.row (n / 8)).move).map (fun m => m.frozen.contains n && m.cols.contains n)).getD false && !(s.row (n / 8)).revising

/-- An array fault on core n (spec/02 R90): the tasks that name an array of the mask are frozen and the slot is fenced. -/
def State.arrayFaulty (s : State) (n mask : Nat) : State :=
  let s := (List.range 4).foldl (fun s t => if (s.task n t).img.arrays &&& mask ≠ 0 then s.freezeTask n t .recovery else s) s
  match s.slotOf n with
  | some p => s.leaveService p svcFenced false false
  | none => s

end Sys2Proof.Machine
end

