-- ==== Sys2Proof/Machine/Arith.lean ====
section
/-! DEFINITION. Arithmetic of the row engine and the vector unit: correctly rounded division and roots, exact sums in
windows, rows of elements and their conversion (spec/01 R40 to R48, spec/03 R95, R96, R106, R117). -/

namespace Sys2Proof.Machine

/-- +0. -/
def zeroNum : Num := .fin false 0 0
/-- 1. -/
def oneNum : Num := .fin false 1 0

/-- A value rounded once to FP32 by RNE (R106), with its flags. -/
def r32 (x : Num) : Num × Flags :=
  let (v, f) := roundTo 7 false .rne 0 false x
  (decodeF32 v, f)

/-- Flags of a list together. -/
def flagsOf (fs : List Flags) : Flags := fs.foldl Flags.or Flags.zero

/-- Values rounded to FP32, with their flags together. -/
def r32s (xs : List Num) : List Num × Flags :=
  let rs := xs.map r32
  (rs.map Prod.fst, flagsOf (rs.map Prod.snd))

/-- Bits beyond an operand's own that a quotient or root is carried to before its one rounding; the rest is sticky. -/
def guardBits : Nat := 128

/-- A quotient: its leading bits and whether anything is left below them. IEEE 754 signs and special cases (PRESUMED,
notes/assumptions/22.md). -/
def divExact (a b : Num) : Num × Bool :=
  match a, b with
  | .nan, _ => (.nan, false)
  | _, .nan => (.nan, false)
  | .inf _, .inf _ => (.nan, false)
  | .inf n, .fin m _ _ => (.inf (n != m), false)
  | .fin n _ _, .inf m => (.fin (n != m) 0 0, false)
  | .fin n x e, .fin m y g =>
    if y = 0 then (if x = 0 then .nan else .inf (n != m), false)
    else
      let k := guardBits + Nat.log2 y
      let q := (x <<< k) / y
      (.fin (n != m) q (e - g - k), decide ((x <<< k) % y ≠ 0))

/-- Integer square root by bits from b down: the largest r whose square is at most v. -/
def isqrtFrom (v : Nat) : Nat → Nat → Nat
  | 0, r => r
  | b + 1, r => let t := r + 2 ^ b; isqrtFrom v b (if t * t ≤ v then t else r)

/-- Integer square root. -/
def isqrt (v : Nat) : Nat := isqrtFrom v (Nat.log2 v / 2 + 1) 0

/-- A square root; that of a negative number is NaN and a zero keeps its sign (PRESUMED, notes/assumptions/22.md). -/
def sqrtExact (a : Num) : Num × Bool :=
  match a with
  | .nan => (.nan, false)
  | .inf n => (if n then .nan else .inf false, false)
  | .fin n x e =>
    if x = 0 then (.fin n 0 0, false)
    else if n then (.nan, false)
    else
      let x := if e % 2 = 0 then x else 2 * x
      let e := if e % 2 = 0 then e else e - 1
      let v := x <<< (2 * guardBits)
      let q := isqrt v
      (.fin false q (e / 2 - guardBits), decide (q * q ≠ v))

/-- A reciprocal square root; of a zero an infinity of its sign, of a negative number NaN (PRESUMED,
notes/assumptions/22.md). -/
def rsqrtExact (a : Num) : Num × Bool :=
  match a with
  | .nan => (.nan, false)
  | .inf n => (if n then .nan else zeroNum, false)
  | .fin n x e =>
    if x = 0 then (.inf n, false)
    else if n then (.nan, false)
    else
      let x := if e % 2 = 0 then x else 2 * x
      let e := if e % 2 = 0 then e else e - 1
      let k := guardBits + Nat.log2 x
      let q := isqrt (2 ^ (2 * k) / x)
      (.fin false q (-(e / 2) - k), decide (q * q * x ≠ 2 ^ (2 * k)))

/-- A value known to its leading bits rounded to FP32 by RNE. -/
def r32Sticky (x : Num × Bool) : Num × Flags :=
  let (v, f) := roundSticky 7 false .rne 0 false x.2 x.1
  (decodeF32 v, f)

/-- A quotient correctly rounded to FP32. -/
def div32 (a b : Num) : Num × Flags := r32Sticky (divExact a b)

/-- The exact sum of values in a window (R106); a row is far below the term limit of R34. -/
def sumWindow (xs : List Num) : Window := xs.foldl (fun w x => (w.addNum x).getD w) .empty

/-- The sum of a row divided by a count, correctly rounded, and whether the window lost bits. -/
def mean32 (xs : List Num) (n : Nat) : Num × Flags :=
  let w := sumWindow xs
  let (v, f) := div32 w.value (.fin false n 0)
  (v, { f with loss := f.loss || w.loss })

/-- Products of two rows, exact. -/
def dots (xs ys : List Num) : List Num := List.zipWith Num.mul xs ys

/-- The floor of a finite value. -/
def floorNum (n : Bool) (m : Nat) (e : Int) : Int :=
  let i : Int := if n then -(m : Int) else m
  if 0 ≤ e then i * 2 ^ e.toNat else i / 2 ^ (-e).toNat

/-- The ceiling of a finite value. -/
def ceilNum (n : Bool) (m : Nat) (e : Int) : Int := -floorNum (!n) m e

/-- Larger of two values that are no NaN. -/
def maxNum (a b : Num) : Num := if a.lt b then b else a

/-- Values converted to FP32 by a mode with SAT: exact but for an overflow, and for an INT32 value, which is rounded by RNE (R42, R109,
R117). -/
def toF32 (int32 : Bool) (rnd : Rnd) (sat : Bool) (xs : List Num) : List Num × Flags :=
  let rs := xs.map (fun x => let (v, f) := roundTo 7 false (if int32 then .rne else rnd) 0 sat x; (decodeF32 v, f))
  (rs.map Prod.fst, flagsOf (rs.map Prod.snd))

/-- Elements of a row: element codes packed in v and one scale byte for every 32 (R22 to R24). -/
def decodeRow (fmt len v : Nat) (scales : List Nat) : List Num :=
  let code := fmtCode fmt
  (List.range len).map (fun i =>
    let x := decodeElem code (fmtMx fmt) (packedAt v (elemBits code) i)
    if fmtMx fmt then
      match scaleExp (scales.getD (i / 32) 0) with
      | some e => x.scale e
      | none => .nan
    else x)

/-- Output set-up of a unit operation: format, mode, SAT, and the inputs of R48. -/
structure OutCtx where
  fmt    : Nat
  rnd    : Rnd
  sat    : Bool
  seed   : Word
  tensor : Nat
  deriving DecidableEq, Repr

/-- MX blocks of a row of values: scale bytes, element codes and flags (R45, R46). -/
def mxBlocks (x : OutCtx) : Nat → List Num → List Nat → List Nat × List Nat × Flags
  | 0, _, _ => ([], [], Flags.zero)
  | k + 1, vs, rs =>
    let b := mxBlock (fmtCode x.fmt) x.rnd x.sat (vs.take 32) (rs.take 32)
    let r := mxBlocks x k (vs.drop 32) (rs.drop 32)
    (b.1 :: r.1, b.2.1 ++ r.2.1, b.2.2.or r.2.2)

/-- A row of values, each known to its leading bits, converted to the output format: scale bytes, element codes and
flags (R40 to R48). m, n0: logical row and first column; step: the row advances instead of the column. -/
def OutCtx.row (x : OutCtx) (m n0 : Nat) (vs : List (Num × Bool)) : List Nat × List Nat × Flags :=
  let rs := (List.range vs.length).map (fun j => srand x.seed x.tensor m (n0 + j))
  if fmtMx x.fmt then mxBlocks x (ceilDiv vs.length 32) (vs.map Prod.fst) rs
  else
    let es := (vs.zip rs).map (fun p => roundSticky (fmtCode x.fmt) false x.rnd p.2 x.sat p.1.2 p.1.1)
    ([], es.map Prod.fst, flagsOf (es.map Prod.snd))

/-- Bytes of a row of len elements; a row starts at a byte (DESIGN CHOICE, notes/assumptions/21.md). -/
def rowBytes (fmt len : Nat) : Nat := ceilDiv (len * elemBits (fmtCode fmt)) 8

/-- Scale bytes of a row of len elements. -/
def rowScales (fmt len : Nat) : Nat := if fmtMx fmt then ceilDiv len 32 else 0

/-- A format that the row engine and the vector unit write, INT32 apart (R98, R117, R119). -/
def unitOut (fmt : Nat) : Bool :=
  fmtOk fmt && (fmtMx fmt || decide (fmtCode fmt = 1) || decide (fmtCode fmt = 2) || decide (fmtCode fmt = 6) ||
    decide (fmtCode fmt = 7))

end Sys2Proof.Machine
end

