-- ==== Sys2Proof/Machine/TileCheck.lean ====
section
/-! DEFINITION. Tile checks: checksum weights, the column check, the check former and the row check of a tile (spec/02 R81 to R88,
spec/12 R407, R408; notes/assumptions/92.md). The checks compare the integers of the column path, operands that are NaN or infinite
left out. -/

namespace Sys2Proof.Machine

/-! ## Checksum weights (R81, R86) -/

/-- Significand bits of a BF16 tile's checksum weight (R86). -/
def checkBits : Nat := 40

/-- An element value in units of 2^-16; a NaN or an infinity counts as zero. -/
def units16 (x : Num) : Int :=
  match x with
  | .fin n m e => intAt n m e (-16)
  | _ => 0

/-- The finite part of a value. -/
def finiteOnly (x : Num) : Num :=
  match x with
  | .fin n m e => .fin n m e
  | _ => zeroNum

/-- A value rounded to a 40-bit significand, to nearest even. -/
def roundCheck (x : Num) : Num :=
  match x with
  | .fin n m e =>
    let q := e + (Nat.log2 m : Int) - (checkBits - 1)
    let (k, _) := roundMag .rne 0 m e false (max q e)
    .fin n k (max q e)
  | x => x

/-- The checksum weight of a row of weights: their exact sum in units of 2^-16, or for BF16 the sum at 40 bits (R81, R86). -/
def checkWeight (bf16 : Bool) (ws : List Num) : Num :=
  if bf16 then roundCheck ((ws.map finiteOnly).foldl Num.add zeroNum)
  else numOfInt ((ws.map units16).sum) (-16)

/-- Key of the checksum weight of K position k; c: the column half, always 0 in cordwood form. -/
def checkKey (k c : Nat) : Nat := k * 2 + c

/-- The checksum column of a bank as its elements give it: one weight a K position and column half. Elements that are zero have no
entry. -/
def checksOf (meadow : Bool) (fmt : Nat) (elems : Tab Nat) : Tab Num :=
  (List.range (if meadow then 32 else 64)).foldl (fun m k =>
    (List.range (if meadow then 2 else 1)).foldl (fun m c =>
      let row := elems.filter (fun e => decide (e.1 / 128 = k ∧ e.1 % 128 / 64 = c))
      tset (fun _ => zeroNum) m (checkKey k c)
        (checkWeight (decide (fmtCode fmt = 6)) (row.map (fun e => decodeElem (fmtCode fmt) (fmtMx fmt) e.2)))) m) []

/-! ## Half-sums of the checksum column -/

/-- Product exponents with a checksum weight, whose significand has any number of bits. -/
def checkRef (ps : List (Num × Num)) : Option Int :=
  ps.foldl (fun r q =>
    match q.1, q.2 with
    | .fin _ m e, .fin _ k g =>
      if m = 0 ∨ k = 0 then r
      else
        let x := e + 7 + (g + (Nat.log2 k : Int))
        some (match r with
          | some y => max x y
          | none => x)
    | _, _ => r) none

/-- The half-sum integer of the checksum column, with its e_ref (R81, R86). -/
def checkHalf (bf16 : Bool) (ps : List (Num × Num)) : Int × Option Int :=
  if bf16 then
    let er := checkRef ps
    ((sumAligned (er.getD 0 - 62) ps).1, er)
  else (sumProducts (-32) ps, none)

/-- The operand pairs of the checksum column for an activation row, by half. -/
def checkPairs (b : Bank) (acts : List Num) (h : Nat) : List (Num × Num) :=
  (List.range 32).map (fun i =>
    let k := if b.meadow then i else 32 * h + i
    (acts.getD k zeroNum, tget (fun _ => zeroNum) b.checks (checkKey k (if b.meadow then h else 0))))

/-- Half of entry i of an array's half-sums, which come two a column in cordwood form and one a column in meadow form. -/
def halfAt (meadow : Bool) (i j : Nat) : Nat := if meadow then j / 64 else i % 2

/-- A half-sum integer as a value in the window domain, before the exponent offset (R86). -/
def rawValue (raw : Int) (er : Option Int) : Num := numOfInt raw (er.getD 0 - 62)

/-- The larger of two exponents, either of them absent. -/
def maxExp : Option Int → Option Int → Option Int
  | some a, some b => some (max a b)
  | some a, none => some a
  | none, r => r

/-- 2^(e + k) of an exponent, zero when there is none. -/
def boundOf (e : Option Int) (k : Int) : Num :=
  match e with
  | some e => .fin false 1 (e + k)
  | none => zeroNum

/-- A difference keeps a bound: it is below it, or there is none (R408). -/
def keeps (d b : Num) : Bool := d.isZero || d.abs.lt b

/-- The column check of one activation row and one half (R82, R408): the data columns' half-sums against the checksum column's. -/
def columnOk (bf16 : Bool) (data : List HalfSum) (chk : Int × Option Int) : Bool :=
  if bf16 then
    let emax := data.foldl (fun m h => maxExp m h.eref) chk.2
    let sum := data.foldl (fun a h => Num.add a (rawValue h.raw h.eref)) zeroNum
    keeps (Num.add sum (rawValue chk.1 chk.2).neg) (boundOf emax (-33))
  else decide ((data.map HalfSum.raw).sum = chk.1)

/-! ## Upsets: what a faulty circuit does to a half-sum -/

/-- The sum of the errors that strike one half-sum; col: a data column, or none for the checksum column. -/
def upsetOf (ups : List Upset) (a lane : Nat) (col : Option Nat) (h : Nat) : Int :=
  (ups.filter (fun u => decide (u.array.val = a ∧ u.lane.val = lane ∧ u.col.map BitVec.toNat = col ∧ b2n u.half = h))).foldl
    (fun s u => s + u.delta) 0

/-- Half-sums as a faulty column path delivers them. -/
def upsetSums (ups : List Upset) (a lane : Nat) (meadow : Bool) (hs : List (Nat × HalfSum)) : List (Nat × HalfSum) :=
  if ups.isEmpty then hs
  else hs.zipIdx.map (fun x =>
    let e := upsetOf ups a lane (some x.1.1) (halfAt meadow x.2 x.1.1)
    (x.1.1, { x.1.2 with p := x.1.2.p + e, raw := x.1.2.raw + e }))

/-! ## The check tile (R82 to R84, R88) -/

/-- A tile that begins with row `first` of a stream. -/
def CheckTile.start (stream first : Nat) (epoch : Option (BitVec 32)) (meadow bf16 : Bool) : CheckTile :=
  { stream := stream, epoch := epoch, meadow := meadow, bf16 := bf16, first := first, rows := 0, acts := [], sums := []
    emax := none, rowsFail := 0, firstFail := none, colsFail := [], dupFail := false, poison := false }

/-- Two lists added place by place; the longer one's rest stays. -/
def addZip {α : Type} (f : α → α → α) : List α → List α → List α
  | a :: as, b :: bs => f a b :: addZip f as bs
  | [], bs => bs
  | as, [] => as

/-- The sum of a check former or of a column's half-sums: modulo 255 for the integer checks, exact for BF16 (R83, R408). -/
def checkAdd (bf16 : Bool) (a b : Num) : Num :=
  if bf16 then Num.add a b
  else numOfInt ((units16 a + units16 b) % 255) (-16)

/-- A half-sum as the row check adds it: its integer in units of the path, or its value. -/
def checkTerm (bf16 : Bool) (h : HalfSum) : Num :=
  if bf16 then rawValue h.raw h.eref else numOfInt (h.raw % 255) (-16)

/-- One activation row enters the tile: the check former takes its elements, the row's half-sums are added column by column, and the
column check is made for each half (R82, R83). -/
def CheckTile.addRow (t : CheckTile) (b : Bank) (ups : List Upset) (a lane : Nat) (acts : List Num) (hs : List (Nat × HalfSum)) :
    CheckTile :=
  let bad := (List.range 2).filter (fun h =>
    let data := (hs.zipIdx.filter (fun x => decide (halfAt b.meadow x.2 x.1.1 = h))).map (fun x => x.1.2)
    let chk := checkHalf t.bf16 (checkPairs b acts h)
    !columnOk t.bf16 data (chk.1 + upsetOf ups a lane none h, chk.2))
  let elem (x : Num) : Num := if t.bf16 then finiteOnly x else numOfInt (units16 x % 255) (-16)
  { t with
    rows := t.rows + 1
    acts := addZip (checkAdd t.bf16) t.acts (acts.map elem)
    sums := addZip (checkAdd t.bf16) t.sums (hs.map (fun x => checkTerm t.bf16 x.2))
    emax := hs.foldl (fun m x => maxExp m x.2.eref) t.emax
    rowsFail := if bad.isEmpty then t.rowsFail else t.rowsFail + 1
    firstFail := match t.firstFail with
      | some x => some x
      | none => bad.head?.map (fun h => (t.rows, h)) }

/-- The check row that the check former sends through the array: residues in units of 2^-16, or for BF16 the sums rounded to BF16
(R83, R408). -/
def CheckTile.checkRow (t : CheckTile) : List Num :=
  if t.bf16 then t.acts.map (fun x => decodeElem 6 false (roundTo 6 false .rne 0 false x).1) else t.acts

/-- The row check passes for one column and half: the check row's half-sum against the sum of the tile's (R83, R408). -/
def CheckTile.colOk (t : CheckTile) (chk : HalfSum) (sum : Num) : Bool :=
  if t.bf16 then
    keeps (Num.add sum (rawValue chk.raw chk.eref).neg) (Num.add (boundOf chk.eref (-2)) (boundOf t.emax (-45)))
  else decide (chk.raw % 255 = units16 sum)

/-- The tile ends: its check row has passed through the array with the half-sums given, and the row check is made (R83, R84). -/
def CheckTile.finish (t : CheckTile) (chk : List (Nat × HalfSum)) : CheckTile :=
  let bad := chk.zipIdx.filter (fun x => !t.colOk x.1.2 (t.sums.getD x.2 zeroNum))
  { t with colsFail := bad.map (fun x => (x.1.1, halfAt t.meadow x.2 x.1.1)) }

/-- Columns that fail the row check. -/
def CheckTile.badCols (t : CheckTile) : List Nat := (t.colsFail.map Prod.fst).eraseDups

/-- KIND of a failing tile (R88): 0 DATA, 1 CHECKSUM, 2 CHECKROW, 3 MULTI, 4 DRAIN. A tile that fails for a poisoned token alone is a
broadcast fault, MULTI. -/
def CheckTile.kind (t : CheckTile) : Nat :=
  if t.rowsFail ≠ 0 ∧ t.badCols.length = 1 then 0
  else if t.rowsFail ≠ 0 ∧ t.badCols = [] then 1
  else if t.rowsFail = 0 ∧ t.badCols ≠ [] then 2
  else if t.rowsFail ≠ 0 then 3
  else if t.dupFail then 4
  else 3

/-- A column or row check of the tile failed, or a poisoned token entered it (R87, spec/06 R190). -/
def CheckTile.checkFails (t : CheckTile) : Bool := decide (t.rowsFail ≠ 0) || !t.colsFail.isEmpty || t.poison

/-- The tile fails (R87). -/
def CheckTile.fails (t : CheckTile) : Bool := t.checkFails || t.dupFail

/-- DRN_CKLOG of a failing tile (R88). -/
def CheckTile.log (t : CheckTile) (d epoch : Nat) : Word :=
  let half := match t.firstFail, t.colsFail with
    | some x, _ => x.2
    | none, x :: _ => x.2
    | none, [] => 0
  BitVec.ofNat 64 (epoch * 2 ^ 32 + b2n t.bf16 * 2 ^ 29 + (t.firstFail.map Prod.fst).getD 0 * 2 ^ 17
    + (if t.kind = 0 then t.badCols.headD 0 * 2 ^ 10 else 0) + t.kind * 2 ^ 7 + half * 2 ^ 6 + b2n t.meadow * 2 ^ 4 + d * 2 ^ 2)

/-- A half-row belongs to the tile. -/
def CheckTile.holds (t : CheckTile) (id : RowId) : Bool :=
  decide (id.stream = t.stream) && decide (t.first ≤ id.row) && decide (id.row < t.first + t.rows)

/-- The duplicate comparison of R85 failed for a row: its tile fails; false when the tile's result is already out. -/
def Drain.markDup (d : Drain) (id : RowId) : Drain × Bool :=
  let hit := d.tiles.any (fun t => t.holds id) || (match d.tile with
    | some t => t.holds id
    | none => false)
  ({ d with tiles := d.tiles.map (fun t => if t.holds id then { t with dupFail := true } else t)
            tile := d.tile.map (fun t => if t.holds id then { t with dupFail := true } else t) }, hit)

end Sys2Proof.Machine
end

