-- ==== Sys2Proof/Machine/ArrayUnit.lean ====
section
/-! DEFINITION. The matrix arrays: weight loads, streams and activation rows (spec/02 R59 to R70, R81 to R91; spec/04
WLOAD, STREAM and DSET blocks). -/

namespace Sys2Proof.Machine

/-- A read of several ranges at task addresses, in order. -/
def State.taskReads (s : State) (n t : Nat) : List (Nat × Nat) → Acc (List Bytes)
  | [] => .ok s []
  | (a, len) :: rs =>
    match s.taskRead n t (BitVec.ofNat 64 (a % 2 ^ 32)) len .wide with
    | .ok s b =>
      match s.taskReads n t rs with
      | .ok s bs => .ok s (b :: bs)
      | .held => .held
      | .access => .access
      | .ue s => .ue s
    | .held => .held
    | .access => .access
    | .ue s => .ue s

/-- The arrays of a 4-bit mask. -/
def arraysOf (mask : Nat) : List Nat := (List.range 4).filter (fun a => mask.testBit a)

/-- Core output column of column j of array a (R59, R60). -/
def coreCol (meadow : Bool) (a j : Nat) : Nat := if meadow then 128 * a + j else 64 * a + j

/-- Output columns of one array (R59, R60). -/
def arrayCols (meadow : Bool) : Nat := if meadow then 128 else 64
/-- K-depth (R59, R60). -/
def kDepth (meadow : Bool) : Nat := if meadow then 32 else 64
/-- Output columns of a core. -/
def coreCols (meadow : Bool) : Nat := if meadow then 512 else 256

/-- End a task with ARRAY_CFG at issue. -/
def State.arrayFault (s : State) (n t : Nat) : Try := .stop (s.endTask n t endArrayCfg 0)

/-- A range of the 32-bit task address space, offset by half of g[B] (spec/04 WLOAD, STREAM blocks). -/
def offsetBy (base : Nat) (v : Word) (hi : Bool) : Nat := (base + (if hi then field v 63 32 else field v 31 0)) % 2 ^ 32

/-! ## WLOAD -/

/-- WLOAD: load the shadow banks of the named arrays; waits until each is EMPTY (R66, R67, R69, R137). -/
def tryWload (n t : Nat) (f : InsnBits) (s : State) : Try :=
  let k := s.task n t
  (s.block n t (k.addrA f) 64).try_ s n t (k.addrA f) (fun s b =>
    let mask := fX f % 16
    let fmt := leAt b 12 1
    if ¬(fmtOk fmt ∧ fmtCode fmt ≤ 6 ∧ leAt b 13 1 ≤ 1 ∧ leAt b 14 1 ≤ 1 ∧ zeroFrom b 15 49 ∧
        mask &&& k.img.arrays = mask) then s.arrayFault n t
    else
      let c := s.core n
      if (arraysOf mask).any (fun a => decide ((c.array a).shadow ≠ .empty) || (c.array a).diag.isSome) then .wait s 0 0 0 false
      else
        let v := k.greg (fB f)
        let r : LoadReq := ⟨t, k.pc, offsetBy (leAt b 0 4) v false, offsetBy (leAt b 4 4) v true, leAt b 8 4, fmt,
          decide (leAt b 13 1 = 1), decide (leAt b 14 1 = 1)⟩
        .done (s.setCore n ((arraysOf mask).foldl
          (fun c a => c.setArray a { c.array a with shadow := .loading r }) c)))

/-- WLOAD. -/
def execWload (c : CoreId) (t : TaskSlot) (f : InsnBits) (s : State) : Host.Outcome State Fault Refusal :=
  .next (s.issue c t 0x40 f (fun _ _ => tryWload c t f))

/-- The element ranges that a load reads for array a (R68). -/
def LoadReq.ranges (r : LoadReq) (a : Nat) : List (Nat × Nat) :=
  let w := elemBits (fmtCode r.fmt)
  let c0 := coreCol r.meadow a 0
  if r.trans then
    (List.range (arrayCols r.meadow)).map (fun j => (r.src + (c0 + j) * r.stride, kDepth r.meadow * w / 8))
  else (List.range (kDepth r.meadow)).map (fun k => (r.src + k * r.stride + c0 * w / 8, arrayCols r.meadow * w / 8))

/-- The scale ranges that a load reads for array a (R68); none for a plain format. -/
def LoadReq.scaleRanges (r : LoadReq) (a : Nat) : List (Nat × Nat) :=
  let c0 := coreCol r.meadow a 0
  let nb := kDepth r.meadow / 32
  if !fmtMx r.fmt then []
  else if r.trans then (List.range (arrayCols r.meadow)).map (fun j => (r.scales + (c0 + j) * nb, nb))
  else (List.range nb).map (fun b => (r.scales + b * coreCols r.meadow + c0, arrayCols r.meadow))

/-- Key of the weight at K position k and column j of an array. -/
def bankKey (k j : Nat) : Nat := k * 128 + j

/-- A table from rows of values: entry (i, j) at the key that kf gives. -/
def tabOf (kf : Nat → Nat → Nat) (rows : List (Nat × List Nat)) : Tab Nat :=
  rows.foldl (fun m r => (r.2.zipIdx).foldl (fun m v => tset (fun _ => 0) m (kf r.1 v.2) v.1) m) []

/-- The bank that the bytes of a load make, with its checksum column (R66 to R68, R81). -/
def LoadReq.bank (r : LoadReq) (els scs : List Bytes) : Bank :=
  let w := elemBits (fmtCode r.fmt)
  let per := if r.trans then kDepth r.meadow else arrayCols r.meadow
  let rows := els.zipIdx.map (fun b => (b.2, (List.range per).map (packedAt (ofLe b.1) w)))
  let srows := scs.zipIdx.map (fun b => (b.2, b.1.map BitVec.toNat))
  let elems := tabOf (fun i j => if r.trans then bankKey j i else bankKey i j) rows
  { meadow := r.meadow, trans := r.trans, fmt := r.fmt
    elems := elems
    checks := checksOf r.meadow r.fmt elems
    scales := tabOf (fun i j => if r.trans then bankKey j i else bankKey i j) srows }

/-- WEIGHT_LOAD_READY (R66 to R69): the load's lines are read and the shadow bank becomes READY. A read held by a circular
region leaves the load LOADING; a read outside the task's regions ends the task, and an uncorrectable word freezes it. -/
def execWeightLoadReady (c : CoreId) (a : ArrayId) (s : State) : Host.Outcome State Fault Refusal :=
  let x := (s.core c).array a
  match x.shadow with
  | .loading r =>
    if s.live c then
      match s.taskReads c r.task (r.ranges a) with
      | .ok s els =>
        match s.taskReads c r.task (r.scaleRanges a) with
        | .ok s scs => .next (s.modCore c (fun k => k.setArray a { k.array a with shadow := .ready (r.bank els scs) }))
        | .held => .next s
        | .access => .next ((empty s).endAsync c r.task r.pc endAccess (BitVec.ofNat 64 r.scales))
        | .ue s => .next (empty s)
      | .held => .next s
      | .access => .next ((empty s).endAsync c r.task r.pc endAccess (BitVec.ofNat 64 r.src))
      | .ue s => .next (empty s)
    else .next s
  | _ => .next s
where
  empty (s : State) : State := s.modCore c (fun k => k.setArray a { k.array a with shadow := .empty })

/-! ## STREAM and DSET -/

/-- STREAM: queue a stream on the named arrays; waits while an array has one queued (R65, R135, R137, R144). -/
def tryStream (n t : Nat) (f : InsnBits) (s : State) : Try :=
  let k := s.task n t
  (s.block n t (k.addrA f) 64).try_ s n t (k.addrA f) (fun s b =>
    let mask := fX f % 16
    let fmt := leAt b 16 1
    let src := leAt b 17 1
    let fl := leAt b 19 1
    let c := s.core n
    let queueOk := match c.queue (leAt b 18 1) with
      | some q => decide (q.owner = t) && decide (q.land = 1)
      | none => false
    if ¬(fmtOk fmt ∧ fmtCode fmt ≤ 6 ∧ 1 ≤ leAt b 12 4 ∧ src ≤ 5 ∧ fl < 8 ∧ zeroFrom b 28 36 ∧
        mask &&& k.img.arrays = mask ∧ (src = 5 → leAt b 18 1 < 64 ∧ queueOk = true) ∧
        (1 ≤ src ∧ src ≤ 4 → k.img.lattice = true)) then s.arrayFault n t
    else if (arraysOf mask).any (fun a => decide (2 ≤ (c.arrayStreams a).length)) then .wait s 0 0 0 false
    else if mask = 0 then .done s
    else
      let v := k.greg (fB f)
      let x : Stream :=
        { id := c.streamId, task := t, pc := k.pc, mask := mask, src := offsetBy (leAt b 0 4) v false
          scales := offsetBy (leAt b 4 4) v true, stride := leAt b 8 4, rows := leAt b 12 4, fmt := fmt, source := src
          queue := leAt b 18 1, swap := fl.testBit 0, final := fl.testBit 1, first := fl.testBit 2
          m0 := leAt b 20 4, n0 := leAt b 24 4, epoch := c.epoch, started := false, next := 0
          poison := false, tokens := [], sealEp := none }
      .done (s.setCore n { c with streams := c.streams ++ [x], streamId := c.streamId + 1 }))

/-- STREAM. -/
def execStream (c : CoreId) (t : TaskSlot) (f : InsnBits) (s : State) : Host.Outcome State Fault Refusal :=
  .next (s.issue c t 0x41 f (fun _ _ => tryStream c t f))

/-- CFG_FAULT of the drains of a mask is set (spec/02 DRN_STATUS). -/
def State.drainCfgBits (s : State) (n mask : Nat) : State := s.orReg (coreKey n rDRN_STATUS) ((mask % 16) <<< 24)

/-- Write a register of the drains of a mask under its writable bits. -/
def drainReg (n base mask : Nat) (rw : Nat) (v : Nat) (s : State) : State :=
  (arraysOf mask).foldl (fun s d => s.setReg (coreKey n (base + 0x20 * d)) (BitVec.ofNat 64 (v &&& rw))) s

/-- DSET: set up the named drains; waits until each holds no window in use and no stream issued before it has still to
start (R93, R135, R137, R144; DEDUCED, notes/assumptions/20.md). -/
def tryDset (n t : Nat) (f : InsnBits) (s : State) : Try :=
  let k := s.task n t
  (s.block n t (k.addrA f) 64).try_ s n t (k.addrA f) (fun s b =>
    let mask := fX f % 16
    let kind := leAt b 28 1
    let link := leAt b 29 1
    if ¬(fmtOk (leAt b 0 1) ∧ fmtOk (leAt b 20 1) ∧ kind ≤ 2 ∧ (kind = 1 → 1 ≤ link ∧ link ≤ 4 ∧ k.img.lattice = true) ∧
        zeroFrom b 30 2 ∧ mask &&& k.img.arrays = mask) then
      .stop ((s.drainCfgBits n mask).endTask n t endDrainCfg 0)
    else
      let c := s.core n
      if (arraysOf mask).any (fun d => !c.drainFree d || !(c.arrayStreams d).isEmpty) then
        .wait s 0 0 0 false
      else
        let s := drainReg n rDRN_CFGd mask 0xffff0001ff3fffff (leAt b 0 8) s
        let s := drainReg n rDRN_SEEDd mask 0xffffffffffffffff (leAt b 8 8) s
        let s := drainReg n rDRN_AUXd mask 0x1ffffffffff (leAt b 16 8) s
        let st : DrainSet := ⟨t, leAt b 24 4, kind, link, leAt b 32 4, leAt b 36 4, leAt b 40 4, leAt b 44 4, leAt b 48 4,
          leAt b 52 4, BitVec.ofNat 64 (leAt b 56 8)⟩
        .done (s.modCore n (fun c => (arraysOf mask).foldl (fun c d => c.setDrain d { c.drain d with set := st }) c)))

/-- DSET. -/
def execDset (c : CoreId) (t : TaskSlot) (f : InsnBits) (s : State) : Host.Outcome State Fault Refusal :=
  .next (s.issue c t 0x42 f (fun _ _ => tryDset c t f))

/-! ## Repair maps (R90, R91) -/

/-- Rows and columns that a repair map marks (ARR_REPAIR layout). -/
def repairMarks (v : Word) : List Nat × List Nat :=
  ((if bitOf v 0 then [field v 7 1] else []) ++ (if bitOf v 8 then [field v 15 9] else []),
   (if bitOf v 16 then [field v 23 17] else []) ++ (if bitOf v 24 then [field v 31 25] else []))

/-- The union of two maps marks more than two rows or columns (R90). -/
def overSpares (a b : Word) : Bool :=
  let (r1, c1) := repairMarks a
  let (r2, c2) := repairMarks b
  decide (2 < (r1 ++ r2).eraseDups.length) || decide (2 < (c1 ++ c2).eraseDups.length)

/-- ARR_STATE.UNREPAIRABLE of array a of core n (R90). -/
def State.unrepairable (s : State) (n a : Nat) : Bool :=
  overSpares (s.reg (coreKey n (rARR_REPAIRa + 8 * a))) (Config.arrFuse ((s.slotOf n).getD 0) a)

/-! ## Stream start (R61, R62, R70, R72, R93) -/

/-- The active bank that array a has once a stream starts, after its swap. -/
def Core.bankAfter (c : Core) (a : Nat) (swap : Bool) : Option Bank :=
  if swap then (match (c.array a).shadow with
    | .ready b => some b
    | _ => none)
  else (c.array a).active

/-- Fields of DRN_CFG (spec/02). -/
structure DrainCfg where
  outFmt : Nat
  rmode  : Nat
  sat    : Bool
  wexp   : Bool
  func   : Nat
  addMode : Nat
  addFmt : Nat
  texp   : Int
  tensor : Nat
  preEn  : Bool
  preFmt : Nat
  alpha  : BitVec 32
  deriving DecidableEq, Repr

/-- The set-up of drain d of core n as its registers hold it. -/
def State.drainCfg (s : State) (n d : Nat) : DrainCfg :=
  let c := s.reg (coreKey n (rDRN_CFGd + 0x20 * d))
  let x := s.reg (coreKey n (rDRN_AUXd + 0x20 * d))
  ⟨field c 7 0, field c 9 8, bitOf c 10, bitOf c 11, field c 15 12, field c 17 16, field c 21 18,
    signedN 9 (field c 32 24), field c 63 48, bitOf x 40, field x 39 32, BitVec.ofNat 32 (field x 31 0)⟩

/-- A derivative code (R76). -/
def isDeriv (fn : Nat) : Bool := decide (9 ≤ fn)

/-- The set-up of a drain is valid for a product (R38, R39, R74, R76, R79, R93). -/
def DrainCfg.valid (g : DrainCfg) (st : DrainSet) (a w : Nat) : Bool :=
  decide (g.rmode < 3) && outOk g.outFmt a w && decide (g.func ≠ 8) &&
  (decide (g.addMode = 0) ||
    (if fmtCode g.outFmt = 8 ∧ !fmtMx g.outFmt then decide (g.addFmt = 8) else decide (g.addFmt = 6) || decide (g.addFmt = 7))) &&
  !(g.wexp && (decide (g.func ≠ 0) || fmtMx g.outFmt || decide (st.outKind = 1))) &&
  (!(g.preEn || isDeriv g.func) ||
    (decide (g.preFmt = 1) || decide (g.preFmt = 2) || decide (g.preFmt = 6) || decide (g.preFmt = 7)) &&
    !(g.preEn && isDeriv g.func) && decide (st.outStride * 8 % elemBits (fmtCode g.outFmt) = 0))

/-- Rows that the windows of a drain serve (R71). -/
def rowsServed (meadow : Bool) : Nat := if meadow then 32 else 64

/-- The rules of R72 at a stream's start, given ROWS of the drain's open reduction. -/
def reductionOk (x : Stream) (meadow : Bool) : Option Nat → Bool
  | none => x.first && (x.final || decide (x.rows ≤ rowsServed meadow))
  | some r => !x.first && decide (r = x.rows) && (x.final || decide (x.rows ≤ rowsServed meadow))

/-- A tile of the reduction whose FINAL stream starts with window e has terms in that window (R87). -/
def CheckTile.inWindow (e : Option (BitVec 32)) (t : CheckTile) : CheckTile :=
  { t with epoch := if t.epoch.isSome then t.epoch else e }

/-- A drain after a stream has started on it, with its window when it is FINAL: FIRST opens the reduction, FINAL ends it for further
streams (R72). A BF16 stream makes the tiles of the reduction BOUNDED (R86). -/
def Drain.begin_ (d : Drain) (x : Stream) (e : Option (BitVec 32)) : Drain :=
  { d with set := { d.set with task := x.task }
           red := if x.final then none else some x.rows
           tileFail := if x.final then false else d.tileFail
           tileBounded := if x.final then false else d.tileBounded || decide (fmtCode x.fmt = 6)
           tiles := d.tiles.map (CheckTile.inWindow e) }

/-- STREAM_START (R61, R62, R69, R70, R72, R90, R93, R381): the first stream of array a that has not started does so when
every array it names is free for it; an unmet condition ends the task or holds the stream. A stream whose banks have another form than
those of a stream that runs on other arrays of the core is held until that one has ended (DESIGN CHOICE, notes/assumptions/91.md). -/
def execStreamStart (c : CoreId) (a : ArrayId) (s : State) : Host.Outcome State Fault Refusal :=
  let k := s.core c
  match (k.arrayStreams a).head? with
  | none => .next s
  | some x =>
    let as := arraysOf x.mask
    if x.started ∨ !s.live c ∨ as.any (fun b => decide ((k.arrayStreams b).head? ≠ some x) || (k.array b).diag.isSome) then
      .next s
    else if as.any (fun b => s.unrepairable c b) then
      .next (s.arrayFaulty c x.mask)
    else if x.swap ∧ as.any (fun b => decide ((k.array b).shadow = .empty)) then fail s x endArrayCfg
    else if x.swap ∧ as.any (fun b => match (k.array b).shadow with
        | .ready _ => false
        | _ => true) then .next s
    else
      let banks := as.filterMap (fun b => (k.bankAfter b x.swap).map (fun w => (b, w)))
      match banks.head? with
      | none => fail s x endArrayCfg
      | some (_, b0) =>
        if banks.length < as.length ∨ banks.any (fun w => w.2.meadow != b0.meadow) ∨
            banks.any (fun w => !pairOk x.fmt w.2.fmt) then fail s x endArrayCfg
        else if k.streams.any (fun y => y.started && (arraysOf y.mask).any (fun b => match (k.array b).active with
            | some w => w.meadow != b0.meadow
            | none => false)) then .next s
        else if banks.any (fun w => !(s.drainCfg c w.1).valid (k.drain w.1).set x.fmt w.2.fmt ||
            !reductionOk x b0.meadow (k.drain w.1).red) then
          fail (s.drainCfgBits c (banks.foldl (fun m w =>
            if !(s.drainCfg c w.1).valid (k.drain w.1).set x.fmt w.2.fmt || !reductionOk x b0.meadow (k.drain w.1).red
            then m ||| 2 ^ w.1 else m) 0)) x endDrainCfg
        else if x.final then
          match s.openWindow c x.task a with
          | none => .next s
          | some (e, s) =>
            let bad := as.any (fun d => (k.drain d).tileFail)
            let bnd := decide (fmtCode x.fmt = 6) || as.any (fun d => (k.drain d).tileBounded)
            let s := s.modWin c e (fun w => { w with failed := bad, bounded := bnd })
            .next (start s x as (some e))
        else .next (start s x as none)
where
  fail (s : State) (x : Stream) (code : Nat) : Host.Outcome State Fault Refusal :=
    .next ((s.modCore c (fun k => { k with streams := k.streams.filter (fun y => decide (y.id ≠ x.id)) })).endAsync
      c x.task x.pc code 0)
  start (s : State) (x : Stream) (as : List Nat) (e : Option (BitVec 32)) : State :=
    s.modCore c (fun k =>
      let k := if x.swap then as.foldl (fun k b => match (k.array b).shadow with
        | .ready w => k.setArray b { k.array b with active := some w, shadow := .empty }
        | _ => k) k else k
      let k := as.foldl (fun k d => k.setDrain d ((k.drain d).begin_ x e)) k
      { k with streams := k.streams.map (fun y => if y.id = x.id then { y with started := true, sealEp := e } else y) })

/-! ## Activation rows (R62 to R65, R187, R188, R238) -/

/-- Both operands of every pair are FP6 or FP4: two rows in one intake (R62, R63). -/
def dualRow (fmt : Nat) (banks : List Bank) : Bool :=
  decide (3 ≤ fmtCode fmt ∧ fmtCode fmt ≤ 5) && banks.all (fun b => decide (3 ≤ fmtCode b.fmt ∧ fmtCode b.fmt ≤ 5))

/-- One activation row: element codes and one scale byte per block of 32, none for a plain format. -/
structure ActRow where
  elems  : List Nat
  scales : List Nat
  deriving DecidableEq, Repr

/-- A row from packed bytes. -/
def actRow (fmt d v : Nat) (sc : List Nat) : ActRow :=
  ⟨(List.range d).map (packedAt v (elemBits (fmtCode fmt))), if fmtMx fmt then sc else []⟩

/-- Half-sums of one activation row in every column of an array (R26 to R30, R59, R60): two per column in cordwood form,
one in meadow form. Of the two, the half-sum of rows 0 to 31 enters its window first (DESIGN CHOICE for R54, notes/assumptions/91.md). -/
def halfSumsOf (fmt : Nat) (g : Int) (b : Bank) (r : ActRow) : List (Nat × HalfSum) :=
  let code := fmtCode fmt
  let wcode := fmtCode b.fmt
  let half (j h : Nat) : HalfSum :=
    let ps := (List.range 32).map (fun i =>
      (decodeElem code (fmtMx fmt) (r.elems.getD (32 * h + i) 0),
       decodeElem wcode (fmtMx b.fmt) (tget (fun _ => 0) b.elems (bankKey (32 * h + i) j))))
    let sa := if fmtMx fmt then scaleExp (r.scales.getD h 0) else some 0
    let sb := if fmtMx b.fmt then scaleExp (tget (fun _ => 0) b.scales (bankKey h j)) else some 0
    halfSum (decide (code = 6)) sa sb g ps
  (List.range (arrayCols b.meadow)).flatMap (fun j =>
    if b.meadow then [(j, half j 0)] else [(j, half j 0), (j, half j 1)])

/-- What the broadcast port's source supplies for one intake. -/
inductive Intake
  | rows (s : State) (rs : List ActRow) (poison : Bool)
  | held
  | access (addr : Word)
  | ended (s : State) (code : Nat)
  | ue (s : State)

/-- One row read from the core's own memory by offset, for a landing port (R238). -/
def State.spadRow (s : State) (n o len : Nat) : Option (State × Bytes) :=
  if s.readBad (spadAddr n o) len then none else some (s.noteCe n (spadAddr n o) len, s.bytes (spadAddr n o) len)

/-- Every block of a range of core n's scratchpad is SEALED. -/
def State.rangeSealed (s : State) (n o len : Nat) : Bool :=
  (blocksOf o len).all (fun b => (s.sealUnit n).blockState b == 1)

/-- Offset of an address with a device number in the populated part of core n's own scratchpad (R238). -/
def State.ownOffset (s : State) (n dev : Nat) (a : Nat) : Option Nat :=
  match s.kindOf (a % 2 ^ 48) with
  | .spad m o => if m = n ∧ a / 2 ^ 48 = dev then some o else none
  | _ => none

/-- The intake of a stream from scratchpad (R65). Scales of an MX stream lie at K-depth / 32 bytes a row (DESIGN CHOICE,
notes/assumptions/91.md). -/
def State.intakeSpad (s : State) (n : Nat) (x : Stream) (d k : Nat) : Intake :=
  let w := elemBits (fmtCode x.fmt)
  let row := x.src + x.next * x.stride
  let rows := (List.range k).map (fun i => (row + i * x.stride, d * w / 8))
  let scs := if fmtMx x.fmt then (List.range k).map (fun i => (x.scales + (x.next + i) * (d / 32), d / 32)) else []
  match s.taskReads n x.task rows with
  | .ok s bs =>
    match s.taskReads n x.task scs with
    | .ok s ss => .rows s (bs.zipIdx.map (fun b =>
        actRow x.fmt d (ofLe b.1) ((ss.getD b.2 []).map BitVec.toNat))) false
    | .held => .held
    | .access => .access (BitVec.ofNat 64 x.scales)
    | .ue s => .ue s
  | .held => .held
  | .access => .access (BitVec.ofNat 64 row)
  | .ue s => .ue s

/-- The intake of a stream from a lattice link (R187, R188): one token, or two when the intake is wider than 512 bits. -/
def intakeLink (s : State) (x : Stream) (d k : Nat) (dual : Bool) : Intake :=
  let w := elemBits (fmtCode x.fmt)
  let bits := d * w * (if dual then 2 else 1)
  let need := if 512 < bits then 2 else 1
  if x.tokens.length < need then .held
  else
    let ts := x.tokens.take need
    let data := (ts.zipIdx).foldl (fun v t => v + t.1.data.toNat <<< (512 * t.2)) 0
    let sc := match ts.head? with
      | some t => t.scale.toNat
      | none => 0
    let nb := d / 32
    .rows s ((List.range k).map (fun i =>
        actRow x.fmt d (data >>> (i * d * w)) ((List.range nb).map (fun b => (sc >>> (8 * (i * nb + b))) % 256))))
      (ts.any (fun t => t.poison))

/-- The intake of a stream from an array landing port (R238, spec/12 R400): one row of the head descriptor. Its scales lie at K-depth
/ 32 bytes a row (DESIGN CHOICE, notes/assumptions/91.md). -/
def State.intakeQueue (s : State) (n : Nat) (x : Stream) (d : Nat) : Intake :=
  match (s.core n).queue x.queue with
  | none => .held
  | some q =>
    match q.entries with
    | [] => .held
    | e :: _ =>
      let w := elemBits (fmtCode x.fmt)
      let b := e.words
      let rows := leAt b 32 4
      match s.ownOffset n s.devNum.toNat (leAt b 0 8), (if fmtMx x.fmt then s.ownOffset n 0 (leAt b 40 8) else some 0) with
      | some o, some so =>
        if leAt b 12 1 ≠ x.fmt then .ended s endArrayCfg
        else
          let ro := o + q.row * leAt b 36 4
          let sco := so + q.row * (d / 32)
          if spadSize < ro + d * w / 8 ∨ spadSize < sco + d / 32 then .ended s endArrayCfg
          else if rows = 0 then .held
          else if !s.rangeSealed n ro (d * w / 8) && !bitOf (s.reg (coreKey n rSEAL_CTRL)) 0 then .held
          else match s.spadRow n ro (d * w / 8) with
            | none => .ue ((s.noteUe n (s.firstBad n ro (d * w / 8)) (s.ueIn n ro (d * w / 8)) .wide (s.jobTag n x.task)).freezeTask n x.task .recovery)
            | some (s, bs) =>
              match (if fmtMx x.fmt then s.spadRow n sco (d / 32) else some (s, [])) with
              | none => .ue ((s.noteUe n (s.firstBad n sco (d / 32)) (s.ueIn n sco (d / 32)) .wide (s.jobTag n x.task)).freezeTask n x.task .recovery)
              | some (s, ss) => .rows s [actRow x.fmt d (ofLe bs) (ss.map BitVec.toNat)] false
      | _, _ => .ended s endArrayCfg

/-- The stream after an intake of k rows: rows presented, tokens taken, and a landing descriptor that leaves its queue
when its last row has been read (R188, R238). -/
def Core.afterIntake (c : Core) (x : Stream) (k need now : Nat) (poison : Bool) : Core :=
  let y := { x with next := x.next + k, tokens := x.tokens.drop need, poison := x.poison || poison }
  let c := if x.source = 5 then
      match c.queue x.queue with
      | some q =>
        match q.entries with
        | e :: _ => c.setQueue x.queue (some (if leAt e.words 32 4 ≤ q.row + 1 then q.depart now else { q with row := q.row + 1 }))
        | [] => c
      | none => c
    else c
  let ss := c.streams.map (fun z => if z.id = x.id then y else z)
  { c with streams := if x.rows ≤ y.next then ss.filter (fun z => decide (z.id ≠ x.id)) else ss }

/-- Rows of a check tile, CK_ROWS (R84). -/
def State.ckRows (s : State) (n : Nat) : Nat := 2 ^ s.regField (coreKey n rDRN_CKCFG) 3 0

/-- The elements of a row as values, before any block scale (R82). -/
def ActRow.values (r : ActRow) (fmt : Nat) : List Num := r.elems.map (decodeElem (fmtCode fmt) (fmtMx fmt))

/-- The half-sums of a check row (R83): its elements are values already and carry no scale. -/
def checkRowSums (bf16 : Bool) (b : Bank) (acts : List Num) : List (Nat × HalfSum) :=
  let half (j h : Nat) : HalfSum :=
    halfSum bf16 (some 0) (some 0) 0 ((List.range 32).map (fun i =>
      (acts.getD (32 * h + i) zeroNum, finiteOnly (decodeElem (fmtCode b.fmt) (fmtMx b.fmt) (tget (fun _ => 0) b.elems (bankKey (32 * h + i) j))))))
  (List.range (arrayCols b.meadow)).flatMap (fun j => if b.meadow then [(j, half j 0)] else [(j, half j 0), (j, half j 1)])

/-- One activation row reaches drain a with its half-sums: they wait for their windows, and the row joins its check tile, which ends
after CK_ROWS rows or with the stream (R71, R82 to R84). lane: which of the rows taken in it is. -/
def Drain.takeRow (d : Drain) (x : Stream) (b : Bank) (g : Int) (ck a : Nat) (ups : List Upset) (poison : Bool) (lane : Nat) (r : ActRow) :
    Drain :=
  let row := x.next + lane
  let hs := upsetSums ups a lane b.meadow (halfSumsOf x.fmt g b r)
  let id : RowId := ⟨x.id, row, x.task, x.pc, x.m0 + row, x.n0, b.meadow, x.sealEp⟩
  let t := (match d.tile with
    | some t => if t.stream = x.id then t else .start x.id row x.sealEp b.meadow (decide (fmtCode x.fmt = 6))
    | none => .start x.id row x.sealEp b.meadow (decide (fmtCode x.fmt = 6))).addRow b ups a lane (r.values x.fmt) hs
  let t := { t with poison := t.poison || poison }
  let d := { d with halfs := d.halfs ++ [(⟨id, x.final, hs⟩ : HalfRow)] }
  if ck ≤ t.rows ∨ x.rows ≤ row + 1 then
    { d with tile := none, tiles := d.tiles ++ [t.finish (upsetSums ups a 2 b.meadow (checkRowSums t.bf16 b t.checkRow))] }
  else { d with tile := some t }

/-- The rows of one intake reach drain a. -/
def Drain.takeRows (d : Drain) (x : Stream) (b : Bank) (g : Int) (ck a : Nat) (ups : List Upset) (poison : Bool) (rs : List ActRow) : Drain :=
  rs.zipIdx.foldl (fun d r => d.takeRow x b g ck a ups poison r.2 r.1) d

/-- ACTIVATION_ROW (R63 to R65, R81 to R84): the running stream of array a takes its next row, or its next two in dual-row mode, and
every array of the stream forms half-sums and checks them; a source that cannot supply holds it. ups: errors of faulty circuits. -/
def execActivationRow (c : CoreId) : RowIn → State → Host.Outcome State Fault Refusal
  | ⟨a, ups⟩, s =>
  let k := s.core c
  match (k.arrayStreams a).head? with
  | none => .next s
  | some x =>
    if !x.started ∨ !s.live c then .next s
    else
      let as := arraysOf x.mask
      let banks := as.filterMap (fun b => ((k.array b).active).map (fun w => (b, w)))
      let meadow := banks.any (fun w => w.2.meadow)
      let d := kDepth meadow
      let dual := dualRow x.fmt (banks.map Prod.snd)
      let want := if dual ∧ x.source ≠ 5 ∧ x.next + 1 < x.rows then 2 else 1
      let bits := d * elemBits (fmtCode x.fmt) * (if dual then 2 else 1)
      let need := if 1 ≤ x.source ∧ x.source ≤ 4 then (if 512 < bits then 2 else 1) else 0
      let got := if x.source = 0 then s.intakeSpad c x d want
        else if x.source = 5 then s.intakeQueue c x d
        else intakeLink s x d want dual
      match got with
      | .held => .next s
      | .access addr => .next ((drop s x).endAsync c x.task x.pc endAccess addr)
      | .ended s code => .next ((drop s x).endAsync c x.task x.pc code 0)
      | .ue s => .next (drop s x)
      | .rows s rs poison =>
        let s := s.event c 0x04 1
        .next (s.setCore c (banks.foldl (fun k w =>
          k.setDrain w.1 ((k.drain w.1).takeRows x w.2 (s.drainCfg c w.1).texp (s.ckRows c) w.1 ups poison rs))
          ((s.core c).afterIntake x rs.length need s.ns poison)))
where
  drop (s : State) (x : Stream) : State := s.modCore c (fun k => { k with streams := k.streams.filter (fun y => decide (y.id ≠ x.id)) })

end Sys2Proof.Machine
end

