-- ==== Sys2Proof/Machine/Narrow.lean ====
section
/-! DEFINITION. LD and ST with the control words of circular regions, and the advance of their pointers (spec/04 R133,
spec/05 R174 to R177). -/

namespace Sys2Proof.Machine

/-- Selector 4: the control words of circular regions (spec/05 R170). -/
def isControl (addr : Word) : Bool := decide (addr.toNat / 2 ^ 27 = 4)

/-- The circular region and word (0 TAIL, 8 HEAD) of a control address, when the task owns the region (R175). -/
def Core.control (c : Core) (t : Nat) (addr : Word) (size : Nat) : Option (Nat × Bool) :=
  let o := addr.toNat % 2 ^ 27
  let r := o / 16
  let w := o % 16
  if size = 8 ∧ r < 16 ∧ (w = 0 ∨ w = 8) ∧ (c.circ r).valid ∧ (c.circ r).owner = t then some (r, decide (w = 8)) else none

/-- A pointer advance on its own (R175): TAIL while occ + v ≤ SIZE, HEAD while v ≤ occ; none when it breaks this. -/
def Circ.advance (r : Circ) (head : Bool) (v : Nat) : Option Circ :=
  if head then (if v ≤ r.occ then some { r with head := (r.head + v) % posMod } else none)
  else (if r.occ + v ≤ r.size then some { r with tail := (r.tail + v) % posMod } else none)

/-- Sign extension of an LD of 2^x bytes. -/
def ldValue (x : Nat) (bs : Bytes) : Word :=
  if x / 4 % 2 = 1 then wordOf (signedN (8 * 2 ^ (x % 4)) (ofLe bs)) else BitVec.ofNat 64 (ofLe bs)

/-- LD: g[D] := the 2^X bytes at [a+IMM] (R133, R174, R175). -/
def tryLd (n t : Nat) (f : InsnBits) (s : State) : Try :=
  let k := s.task n t
  let addr := k.addrA f
  let size := 2 ^ (fX f % 4)
  if addr.toNat % size ≠ 0 then .stop (s.endTask n t endAccess addr)
  else if isControl addr then
    match (s.core n).control t addr size with
    | some (r, head) =>
      let q := (s.core n).circ r
      doneLd n t f (BitVec.ofNat 64 (if head then q.head else q.tail)) s
    | none => .stop (s.endTask n t endAccess addr)
  else (s.taskRead n t addr size .narrow).try_ s n t addr (fun s bs => doneLd n t f (ldValue (fX f) bs) s)
where
  doneLd (n t : Nat) (f : InsnBits) (v : Word) (s : State) : Try := .done (s.modTask n t (fun k => k.setG (fD f) v))

/-- The advance of an ST to a control word, once the accesses of earlier operations have their slots (R175, R176). -/
def State.tryAdvance (s : State) (n t r : Nat) (head : Bool) (v : Nat) (addr : Word) : Try :=
  let c := s.core n
  if (if head then c.readsFrom n t r || s.descReads n t r else c.writesTo n t r || s.descWrites n t r) then .wait s 1 0 0 false
  else match (c.circ r).advance head v with
    | some q => .done (s.setCore n (c.setCirc r q))
    | none => .stop (s.endTask n t endAccess addr)

/-- ST: the 2^X bytes at [a+IMM] := low bytes of g[B] (R133, R174 to R176). -/
def trySt (n t : Nat) (f : InsnBits) (s : State) : Try :=
  let k := s.task n t
  let addr := k.addrA f
  let size := 2 ^ (fX f % 4)
  let v := k.greg (fB f)
  if addr.toNat % size ≠ 0 then .stop (s.endTask n t endAccess addr)
  else if isControl addr then
    match (s.core n).control t addr size with
    | some (r, head) => s.tryAdvance n t r head v.toNat addr
    | none => .stop (s.endTask n t endAccess addr)
  else (s.taskWrite n t addr (leBytes size v.toNat) .narrow).try_ s n t addr (fun s _ => .done s)

/-- LD. -/
def execLd (c : CoreId) (t : TaskSlot) (f : InsnBits) (s : State) : Host.Outcome State Fault Refusal :=
  .next (s.issue c t 0x28 f (fun _ _ => tryLd c t f))

/-- ST. -/
def execSt (c : CoreId) (t : TaskSlot) (f : InsnBits) (s : State) : Host.Outcome State Fault Refusal :=
  .next (s.issue c t 0x29 f (fun _ _ => trySt c t f))

/-- CIRC_ADVANCE (R176): the task's waiting TAIL or HEAD advance takes effect once the accesses before it have their
slots; a task that waits on no advance is left as it is. -/
def execCircAdvance (c : CoreId) (t : TaskSlot) (s : State) : Host.Outcome State Fault Refusal :=
  let k := s.task c t
  match k.wait with
  | some w =>
    if k.phase = .waiting ∧ w.opc = 0x29 ∧ isControl (k.addrA w.f) ∧ w.stage = 1 then
      .next (s.attempt c t 0x29 w.f w.stage w.keep (fun _ _ => trySt c t w.f))
    else .next s
  | none => .next s

end Sys2Proof.Machine
end

