-- ==== Sys2Proof/Machine/Net.lean ====
section
/-! DEFINITION. Mesh requests and responses at their source and destination: steering by address, the answer to a request
that never enters the mesh, FENCE, and the packets in flight (spec/08 R254 to R264, R267, spec/10 R313 to R315). -/

namespace Sys2Proof.Machine

/-- The place of a core number. -/
def placeOf (n : Nat) : Place := .core (Fin.ofNat 512 n)
/-- The ring of a die. -/
def ringOf (d : Nat) : Place := .ring (Fin.ofNat 4 d)

/-- A span address names another module, or one in region form has REMOTE set and loops back (spec/10 R313, R314). -/
def State.isRemote (s : State) (region : Bool) (a : Word) : Bool :=
  decide (field a 63 48 ≠ s.devNum.toNat) || (region && bitOf a 47)

/-- Where a request for an address goes: none when it falls under R9 and is answered at the source (R257). -/
def State.route (s : State) (region : Bool) (a : Word) (len : Nat) : Option Place :=
  if s.isRemote region a then some (ringOf (field a 63 48 % 4))
  else if region then (if s.present (field a 46 38) then some (placeOf (field a 46 38)) else none)
  else
    let l := field a 47 0
    if s.memOk l len then
      match s.kindOf l with
      | .spad n _ => some (placeOf n)
      | .hearth => some (ringOf (s.ringDie l))
      | .peat => some (ringOf (s.ringDie l))
      | _ => none
    else none

/-- The response to a request. -/
def answer (p : Packet) (t : PktType) (st : RespStatus) (data : Bytes) (msg : Option MsgHeader) : Packet :=
  { dst := p.src, src := p.dst, type := t, fence := false, poison := decide (st = .poisoned), adv := false, status := st
    tag := p.tag, addr := p.addr, region := p.region, len := data.length + (if msg.isSome then 16 else 0), data := data
    msg := msg, span := none }

/-- The type of the one response to a request (R255). -/
def respType : PktType → PktType
  | .dmaRead => .readData
  | .message => .msgReply
  | _ => .writeAck

/-- The header of the reply to a message: TYPE REPLY, and DST_CORE naming the sender (spec/07 R221). -/
def replyHead (h : MsgHeader) : MsgHeader := { h with type := .reply, dstCore := Fin.ofNat 512 h.key.core.toNat }

/-- The response to a request that its endpoint does not decide as a message: one to a message is a reply whose result word the spec does
not give, a free value. -/
def State.answered (s : State) (p : Packet) (st : RespStatus) (data : Bytes) : Packet × State :=
  match p.msg with
  | some h =>
    let (w, s) := s.fresh
    (answer p .msgReply st (leBytes 8 w.toNat) (some (replyHead h)), s)
  | none => (answer p (respType p.type) st data none, s)

/-- A request that never enters the mesh is answered REFUSED by its source's interface, at once (R257). -/
def State.refuseAtSource (s : State) (p : Packet) : State :=
  let (a, s) := s.answered p .refused []
  { s with landed := s.landed ++ [a] }

/-- The response to a request sent back. -/
def State.respond (s : State) (p : Packet) (st : RespStatus) (data : Bytes) : State :=
  let (a, s) := s.answered p st data
  s.inject a

/-- The router of core n counts a packet that it discarded (R57). -/
def State.countDiscard (s : State) (n : Nat) : State :=
  match s.slotOf n with
  | some p => s.modRouter p (fun r => { r with discards := r.discards + 1 })
  | none => s

/-- Where on the mesh a seal message goes. -/
def sealDest : SealEnd → Place
  | .core m => .core m
  | .dir d _ => .ring d
  | .remote dev _ _ => ringOf (dev.toNat % 4)

/-- Earlier requests of core n to a destination that have neither a response nor timed out (R262). -/
def State.awaits (s : State) (n : Nat) (d : Place) : List Nat :=
  ((s.core n).outs.filter (fun o => decide (o.dst = d) && decide (s.ns ≤ o.due))).map (fun o => o.id)

/-- Seal messages of core n to a destination that are not acknowledged: they are requests too (R255). -/
def State.sealAwaits (s : State) (n : Nat) (d : Place) : List Nat :=
  ((s.sealUnit n).outs.filter (fun o => decide (sealDest o.dst = d))).map (fun o => o.id)

/-- A request of core n leaves its source interface: a FENCE packet is held while an earlier one to the same destination is
unanswered (R262). It has timed out once the time passes `due`. -/
def State.request (s : State) (n : Nat) (p : Packet) (due : Nat) : State :=
  let c := s.core n
  let w := s.awaits n p.dst
  let q := s.sealAwaits n p.dst
  let c' := { c with outs := c.outs ++ [⟨c.reqNo, p.tag, p.dst, due⟩], reqNo := c.reqNo + 1 }
  if p.fence ∧ ¬(w.isEmpty ∧ q.isEmpty) then s.setCore n { c' with fenced := c.fenced ++ [⟨c.reqNo, p, w, q⟩] }
  else (s.setCore n c').inject p

/-- The request with a tag is answered or timed out (R262, R264). -/
def Core.settle (c : Core) (tag : BitVec 32) : Core := { c with outs := c.outs.filter (fun o => decide (o.tag ≠ tag)) }

/-- Every request that a held FENCE packet waits for has its response or has timed out (R262). -/
def State.fenceReady (s : State) (n : Nat) (h : FenceHold) : Bool :=
  !h.waits.any (fun i => (s.awaits n h.pkt.dst).contains i) && !h.seals.any (fun i => (s.sealAwaits n h.pkt.dst).contains i)

/-- FENCE_RELEASE (R262): the oldest FENCE packet of core n's source interface that waits for nothing more enters the mesh. -/
def execFenceRelease (c : CoreId) (s : State) : Host.Outcome State Fault Refusal :=
  let k := s.core c
  match k.fenced.find? (fun h => s.fenceReady c h) with
  | none => .next s
  | some h => .next ((s.setCore c { k with fenced := k.fenced.erase h }).inject h.pkt)

/-- The time at which a request with a timeout in µs, from a start, has timed out (R264). -/
def usAfter (since us : Nat) : Nat := since + us * 1000

/-- Reply to a message: its header with TYPE REPLY and DST_CORE naming the sender, and the result word (spec/07 R221). -/
def State.reply (s : State) (p : Packet) (h : MsgHeader) (r : Word) : State :=
  s.inject (answer p .msgReply .ok (leBytes 8 r.toNat)
    (some (replyHead h)))

end Sys2Proof.Machine
end

