-- ==== Sys2Proof/Machine/Sends.lean ====
section
/-! DEFINITION. The sending side of messages: SEND, SENDD, MSEND, SHFADD, SHFEND, units that send, and results that return
(spec/07 R219 to R227, R234, R235, R241, R242, spec/12 R399). -/

namespace Sys2Proof.Machine

/-! ## Result words (R224) and NACK codes (spec/00 R17) -/

/-- FULL. -/
abbrev nackFull : Nat := 1
/-- CLOSED. -/
abbrev nackClosed : Nat := 2
/-- STALE_GEN. -/
abbrev nackStale : Nat := 3
/-- FENCED. -/
abbrev nackFenced : Nat := 4
/-- NO_QUEUE. -/
abbrev nackNoQueue : Nat := 5
/-- DENIED. -/
abbrev nackDenied : Nat := 6
/-- MALFORMED. -/
abbrev nackMalformed : Nat := 7

/-- A result word: OUTCOME, CODE, BACKOFF, the place held, GEN, SEQ and OCC (R224). -/
def resultWord (outcome code backoff : Nat) (place : Option Nat) (gen seq occ : Nat) : Word :=
  BitVec.ofNat 64 (outcome * 2 ^ 62 + code * 2 ^ 58 + backoff * 2 ^ 54 + (match place with
    | some p => 2 ^ 53 + p * 2 ^ 51
    | none => 0) + gen * 2 ^ 43 + seq * 2 ^ 27 + occ * 2 ^ 18)

/-- The code of a NACK result; 0 for any other result. -/
def nackOf (r : Word) : Nat := if field r 63 62 = 2 then field r 61 58 else 0

/-- A result formed at the sender (R220, spec/13 R440). -/
def localNack (code : Nat) (seq : BitVec 16) : Word := resultWord 2 code 0 none 0 seq.toNat 0

/-! ## Channels (R225 to R227) -/

/-- NEXT of channel c. -/
def Task.nextSeq (k : Task) (c : Nat) : BitVec 16 := tget (fun _ => 0) k.next c

/-- A channel has a send in flight (R225). -/
def Task.sending (k : Task) (c : Nat) : Bool := k.sends.any (fun r => decide (r.chan = c))

/-- A code that leaves the channel PENDING (R227). -/
def pendingCode (code : Nat) : Bool := decide (code = nackFull) || decide (code = nackFenced) || decide (code = nackStale)

/-- The channel after every reply of a send has returned (R227). -/
def Task.channelDone (k : Task) (c : Nat) (codes : List Nat) : Task :=
  if codes.any pendingCode then { k with pendBits := k.pendBits ||| BitVec.ofNat 16 (2 ^ c) }
  else { k with pendBits := k.pendBits &&& ~~~(BitVec.ofNat 16 (2 ^ c))
                next := tset (fun _ => 0) k.next c (k.nextSeq c + 1) }

/-! ## A send's messages -/

/-- One message to be sent: its place in a target list, its target word, TYPE, WORDS, LANE, payload and the sheaf that SHFADD
and SHFEND name. -/
structure OutMsg where
  idx     : Nat
  target  : Word
  type    : MsgType
  words   : Nat
  lane    : Nat
  sheaf   : Option Nat
  payload : Bytes
  mcast   : Bool
  deriving DecidableEq, Repr

/-- The header of a message of task t of core n on a channel (R221). -/
def State.header (s : State) (n t chan : Nat) (m : OutMsg) : MsgHeader :=
  { key := ⟨s.devNum, BitVec.ofNat 9 n, BitVec.ofNat 2 t, BitVec.ofNat 4 chan⟩
    seq := (s.task n t).nextSeq chan
    dstCore := Fin.ofNat 512 (tgCore m.target)
    dstQ := BitVec.ofNat 6 (m.sheaf.getD (tgQueue m.target))
    sheaf := tgSheaf m.target
    type := m.type, gen := BitVec.ofNat 8 (tgGen m.target), anygen := tgAnygen m.target
    words := BitVec.ofNat 2 m.words, lane := BitVec.ofNat 14 m.lane, mcast := m.mcast }

/-- TAG of a message: task slot, channel, place in its list and the low bits of SEQ. -/
def msgTag (t chan idx : Nat) (seq : BitVec 16) : BitVec 32 :=
  BitVec.ofNat 32 (2 ^ 31 + t * 2 ^ 29 + chan * 2 ^ 25 + idx * 2 ^ 19 + seq.toNat)

/-- The packet of a message. -/
def State.msgPacket (s : State) (n t chan : Nat) (m : OutMsg) : Packet :=
  let h := s.header n t chan m
  { dst := if tgRemote m.target then ringOf (tgDev m.target % 4) else placeOf (tgCore m.target)
    src := placeOf n, type := .message, fence := false, poison := false, adv := false, status := .ok
    tag := msgTag t chan m.idx h.seq, addr := m.target, region := true, len := 16 + m.payload.length, data := m.payload
    msg := some h, span := none }

/-- What a message comes to at the sender: a result at once, or a packet. A malformed target sends nothing (R220), nor does a
local target whose core is absent (spec/13 R440). -/
def State.localResult (s : State) (n t chan : Nat) (m : OutMsg) : Option Word :=
  let seq := (s.task n t).nextSeq chan
  if !targetOk m.target ∨ (m.mcast ∧ tgSheaf m.target) then some (localNack nackMalformed seq)
  else if !tgRemote m.target ∧ !s.present (tgCore m.target) then some (localNack nackNoQueue seq)
  else none

/-- When a send of core n that leaves now has timed out (spec/08 R264). -/
def State.msgDue (s : State) (n : Nat) : Nat := usAfter s.ns (s.regField (coreKey n rMESH_TMO) 63 32)

/-- The messages of a send leave, in order; each target's result when it is known at once. -/
def State.postAll (s : State) (n t chan : Nat) : List OutMsg → State × List SendTarget
  | [] => (s, [])
  | m :: ms =>
    let r := s.localResult n t chan m
    let s := if r.isNone then s.request n (s.msgPacket n t chan m) (s.msgDue n) else s
    let (s, ts) := s.postAll n t chan ms
    (s, ⟨m.idx, tgCore m.target, m.sheaf.getD (tgQueue m.target), r⟩ :: ts)

/-- Codes of every target of the last multicast of slot t in QUE_MCLOGt (R235). -/
def State.mclog (s : State) (n t : Nat) (ts : List SendTarget) : State :=
  let v := ts.foldl (fun v x => v + nackOf (x.result.getD 0) * 2 ^ (4 * x.idx)) 0
  (List.range 4).foldl (fun s j => s.setReg (coreKey n (rQUE_MCLOGt_j + 0x20 * t + 8 * j)) (BitVec.ofNat 64 (v >>> (64 * j)))) s

/-- What g[D] takes: the result word, or the bitmap of targets that answered NACK (R224, R235). -/
def SendRec.value (r : SendRec) : Word :=
  if r.multi then BitVec.ofNat 64 (r.targets.foldl (fun v x => if nackOf (x.result.getD 0) ≠ 0 then v + 2 ^ x.idx else v) 0)
  else (r.targets.head?.bind (fun x => x.result)).getD 0

/-- The outbox of a sending unit. -/
def Core.outbox (c : Core) : SendUnit → List UnitMsg
  | .drain d => (c.drain d).outbox
  | .rowEngine => c.rowOutbox

/-- The earliest time at which 2^(e + 3) stages from now have passed: none is shorter than 0.47 ns (R232, R242, spec/00 R15). -/
def State.backoffEnd (s : State) (e : Nat) : Nat := s.ns + ceilDiv (2 ^ (e + 3) * 47) 100

/-- A unit's message after its reply (R242): accepted it leaves; FULL and FENCED make it wait; any other NACK ends the task. -/
def State.unitReply (s : State) (n t : Nat) (u : SendUnit) (r : Word) : State :=
  let code := nackOf r
  let after (q : List UnitMsg) : List UnitMsg :=
    match q with
    | m :: ms =>
      if code = 0 then ms
      else if code = nackFull ∨ code = nackFenced then { m with flying := false, backoff := some (s.backoffEnd (field r 57 54)) } :: ms
      else ms
    | [] => []
  let pc := match u with
    | .drain d => (((s.core n).drain d).outbox.head?.map (fun m => m.pc)).getD 0
    | .rowEngine => ((s.core n).rowOutbox.head?.map (fun m => m.pc)).getD 0
  let s := s.modCore n (fun c => match u with
    | .drain d => c.setDrain d { c.drain d with outbox := after (c.drain d).outbox }
    | .rowEngine => { c with rowOutbox := after c.rowOutbox })
  if code = 0 ∨ code = nackFull ∨ code = nackFenced then s
  else match u with
    | .drain d => (s.drainCfgBits n (2 ^ d.val)).endAsync n t pc endDrainCfg 0
    | .rowEngine => (s.coreStat n rROW_STATUS 9).endAsync n t pc endRowCfg 0

/-- A send whose every reply has returned: the channel, g[D], the multicast log (R227, R235, R242). -/
def State.sendDone (s : State) (n t : Nat) (r : SendRec) : State :=
  let codes := r.targets.map (fun x => nackOf (x.result.getD 0))
  let s := s.event n 0x1A (codes.countP (fun c => decide (c ≠ 0)))
  let s := s.modTask n t (fun k =>
    let k := { k with sends := k.sends.filter (fun x => decide (x.chan ≠ r.chan)) }
    let k := k.channelDone r.chan codes
    match r.dst with
    | some d => { k.setG d r.value with pending := k.pending.erase d }
    | none => k)
  let s := if r.multi then s.mclog n t r.targets else s
  match r.unit with
  | some u => s.unitReply n t u r.value
  | none => s

/-- A send on a channel that has none in flight (R225, R227, R235). -/
def State.post (s : State) (n t chan opc : Nat) (dst : Option Nat) (multi : Bool) (unit : Option SendUnit)
    (ms : List OutMsg) : State :=
  let seq := (s.task n t).nextSeq chan
  let since := s.ns
  let pc := match unit with
    | none => (s.task n t).pc
    | some u => (((s.core n).outbox u).head?.map (fun m => m.pc)).getD 0
  let (s, ts) := s.postAll n t chan ms
  let r : SendRec := ⟨unit, chan, seq, dst, multi, opc, since, ts, pc⟩
  let s := s.modTask n t (fun k => { k with
    sends := k.sends ++ [r]
    pending := match dst with
      | some d => k.pending ++ [d]
      | none => k.pending })
  if ts.all (fun x => x.result.isSome) then s.sendDone n t r else s

/-- A send instruction once its messages are known: it waits for the task's dependency set to hold no OPEN epoch (spec/12
R399), and for its channel (R225). -/
def State.trySend (s : State) (n t chan opc : Nat) (dst : Option Nat) (multi : Bool) (ms : List OutMsg) : Try :=
  let k := s.task n t
  if !k.deps.isEmpty then .wait s 1 0 0 true
  else if k.sending chan then .wait s 1 0 0 false
  else .done (s.post n t chan opc dst multi none ms)

/-- SEND: a word-mode message of g[B] to g[B + X] (R219 to R225). -/
def trySENDw (n t : Nat) (f : InsnBits) (s : State) : Try :=
  let k := s.task n t
  let w := k.greg (fA f)
  let x := fX f % 4
  s.trySend n t (tgChan w) 0x60 (some (fD f)) false
    [⟨0, w, .word, x, tgLane w, none, (List.range (x + 1)).flatMap (fun j => leBytes 8 (k.greg (fB f + j)).toNat), false⟩]

/-- SENDD: the 64 B descriptor at a[B] + IMM, which is aligned to 64 B (spec/04 R133, R219 to R225). -/
def trySENDd (n t : Nat) (f : InsnBits) (s : State) : Try :=
  let k := s.task n t
  let w := k.greg (fA f)
  let addr := k.areg (fB f) + fImm64 f
  if addr.toNat % 64 ≠ 0 then .stop (s.endTask n t endAccess addr)
  else (s.taskRead n t addr 64 .narrow).try_ s n t addr (fun s b =>
    s.trySend n t (tgChan w) 0x61 (some (fD f)) false [⟨0, w, .desc, 0, tgLane w, none, b, false⟩])

/-- MSEND: one WORD message to each enabled target of the list at [a+IMM] (R234, R235). -/
def tryMSEND (n t : Nat) (f : InsnBits) (s : State) : Try :=
  let k := s.task n t
  let addr := k.addrA f
  if addr.toNat % 8 ≠ 0 then .stop (s.endTask n t endAccess addr)
  else (s.taskRead n t addr 16 .narrow).try_ s n t addr (fun s h =>
    let cnt := leAt h 0 1
    let en := leAt h 8 8
    if cnt = 0 ∨ 64 < cnt then .stop (s.endTask n t endIllegal (s.task n t).lastWord)
    else (s.taskRead n t (addr + 16) (8 * cnt) .narrow).try_ s n t addr (fun s b =>
      let x := fX f % 4
      let words := (List.range (x + 1)).flatMap (fun j => leBytes 8 (k.greg (fB f + j)).toNat)
      s.trySend n t (leAt h 1 1 % 16) 0x62 (some (fD f)) true
        (((List.range cnt).filter (fun i => en.testBit i)).map (fun i =>
          ⟨i, BitVec.ofNat 64 (leAt b (8 * i) 8), .word, x, tgLane (BitVec.ofNat 64 (leAt b (8 * i) 8)), none, words, true⟩))))

/-- SHFADD: a contribution to sheaf IMM bits 2:0: INT64, FP32, or the window partial at task address g[B] (R244). -/
def tryShfadd (n t : Nat) (f : InsnBits) (s : State) : Try :=
  let k := s.task n t
  let w := k.greg (fA f)
  let v := k.greg (fB f)
  let h := some (fImm f % 8)
  match fX f % 4 with
  | 0 => s.trySend n t (tgChan w) 0x68 none false [⟨0, w, .shfInt64, 0, tgLane w, h, leBytes 8 v.toNat, false⟩]
  | 1 => s.trySend n t (tgChan w) 0x68 none false [⟨0, w, .shfFp32, 0, tgLane w, h, leBytes 8 (field v 31 0), false⟩]
  | _ => (s.taskRead n t v 64 .narrow).try_ s n t v (fun s b =>
      s.trySend n t (tgChan w) 0x68 none false [⟨0, w, .shfWindow, 0, tgLane w, h, b, false⟩])

/-- SHFEND: an end token to sheaf IMM bits 2:0. The spec gives the instruction no operand for the count, which is free
(notes/assumptions/25.md). -/
def tryShfend (n t : Nat) (f : InsnBits) (s : State) : Try :=
  let w := (s.task n t).greg (fA f)
  let (v, s) := s.fresh
  s.trySend n t (tgChan w) 0x69 none false
    [⟨0, w, .shfEnd, 0, tgLane w, some (fImm f % 8), leBytes 8 (field v 31 0), false⟩]

/-- SEND. -/
def execSend (c : CoreId) (t : TaskSlot) (f : InsnBits) (s : State) : Host.Outcome State Fault Refusal :=
  .next (s.issue c t 0x60 f (fun _ _ => trySENDw c t f))
/-- SENDD. -/
def execSendd (c : CoreId) (t : TaskSlot) (f : InsnBits) (s : State) : Host.Outcome State Fault Refusal :=
  .next (s.issue c t 0x61 f (fun _ _ => trySENDd c t f))
/-- MSEND. -/
def execMsend (c : CoreId) (t : TaskSlot) (f : InsnBits) (s : State) : Host.Outcome State Fault Refusal :=
  .next (s.issue c t 0x62 f (fun _ _ => tryMSEND c t f))
/-- SHFADD. -/
def execShfadd (c : CoreId) (t : TaskSlot) (f : InsnBits) (s : State) : Host.Outcome State Fault Refusal :=
  .next (s.issue c t 0x68 f (fun _ _ => tryShfadd c t f))
/-- SHFEND. -/
def execShfend (c : CoreId) (t : TaskSlot) (f : InsnBits) (s : State) : Host.Outcome State Fault Refusal :=
  .next (s.issue c t 0x69 f (fun _ _ => tryShfend c t f))

/-! ## Results (R224, R227) -/

/-- A reply that no send of the task awaits is discarded and counted LATE (spec/08 R264). -/
def State.lateResponse (s : State) (n : Nat) : State := s.count (coreKey n rMESH_CNT) 63 32 1

/-- A reply reaches the core that sent its message (R224, R227, R235). A reply with STATUS REFUSED or DENIED from the
span engine ends the task (spec/08 R269, spec/10 R328). -/
def State.coreReply (s : State) (pkt : Packet) (h : MsgHeader) (n : CoreId) : State :=
  let t := h.key.slot.toNat
  let chan := h.key.chan.toNat
  let s := s.modCore n (fun c => c.settle pkt.tag)
  match (s.task n t).sends.find? (fun r => decide (r.chan = chan) && decide (r.seq = h.seq)) with
  | none => (s.lateResponse n)
  | some r =>
    if pkt.status = .refused then
      ((s.modTask n t (fun k => { k with sends := k.sends.filter (fun x => decide (x.chan ≠ chan)) })).endAsync n t r.pc endAccess 0)
    else if pkt.status = .denied then
      ((s.modTask n t (fun k => { k with sends := k.sends.filter (fun x => decide (x.chan ≠ chan)) })).endAsync n t r.pc endPermission 0)
    else
      let w : Word := BitVec.ofNat 64 (ofLe pkt.data)
      if !r.targets.any (fun x => decide (msgTag t chan x.idx h.seq = pkt.tag) && x.result.isNone) then
        (s.lateResponse n)
      else
        let r := { r with targets := r.targets.map (fun x =>
          if msgTag t chan x.idx h.seq = pkt.tag then { x with result := some w } else x) }
        let s := s.modTask n t (fun k => { k with sends := k.sends.map (fun x => if x.chan = chan then r else x) })
        (if r.targets.all (fun x => x.result.isSome) then s.sendDone n t r else s)

/-! ## Units that send (R241, R242, spec/12 R399) -/

/-- The window of an epoch of core n is SEALED: its entry says so, or has been freed after its seal. -/
def State.windowSealed (s : State) (n : Nat) (e : BitVec 32) : Bool :=
  match (s.sealUnit n).win e with
  | some w => decide (w.st = .sealed)
  | none => true

/-- The first message of an outbox marked as sent. -/
def Core.markFlying (c : Core) (u : SendUnit) : Core :=
  let mark (q : List UnitMsg) : List UnitMsg := match q with
    | m :: ms => { m with flying := true, backoff := none } :: ms
    | [] => []
  match u with
  | .drain d => c.setDrain d { c.drain d with outbox := mark (c.drain d).outbox }
  | .rowEngine => { c with rowOutbox := mark c.rowOutbox }

/-- A drain that sends to the same target has still to round or send a message of the same stream that comes earlier in the order of R189
(R241). -/
def Core.msgOwed (c : Core) (u : SendUnit) (m : UnitMsg) : Bool :=
  match u with
  | .rowEngine => false
  | .drain _ => (List.range 4).any (fun d =>
      let x := c.drain d
      let before (o : Nat) : Bool := decide (o / 2 ^ 37 = m.order / 2 ^ 37) && decide (o < m.order)
      decide (x.set.outKind = 2) && decide (x.set.target = m.target) &&
        (x.outbox.any (fun y => before y.order) || x.halfs.any (fun h => h.final && before (tokenOrder h.id d 0 0)) ||
          x.rounds.any (fun r => before (tokenOrder r.id d (r.col / 64) 0))))

/-- The first message of a unit's outbox leaves when its window is SEALED, its channel is free and no message comes before it. -/
def State.unitPost (s : State) (n : Nat) (u : SendUnit) (again : Bool) : State :=
  match (s.core n).outbox u with
  | [] => s
  | m :: _ =>
    let chan := tgChan m.target
    if m.flying ∨ m.backoff.isSome ≠ again ∨ s.ns < m.backoff.getD 0 ∨ !s.live n ∨ !s.windowSealed n m.epoch ∨ (s.core n).msgOwed u m ∨ (s.task n m.task).sending chan then s
    else
      let words := if m.type = .word then m.payload.length / 8 - 1 else 0
      let sheaf := if m.type = .word then none else some (tgQueue m.target % 8)
      (s.modCore n (fun c => c.markFlying u)).post n m.task chan (match u with | .drain _ => 0x41 | .rowEngine => 0x50) none false (some u)
        [⟨0, m.target, m.type, words, if m.type = .word then tgLane m.target else m.lane, sheaf, m.payload, false⟩]

/-- UNIT_SEND (R241, R399): a drain or the row engine sends its next message, once its own window is SEALED. -/
def execUnitSend (c : CoreId) (u : SendUnit) (s : State) : Host.Outcome State Fault Refusal := .next (s.unitPost c u false)

/-- UNIT_RESEND (R242): after FULL or FENCED and its back-off the unit sends the same message again. -/
def execUnitResend (c : CoreId) (u : SendUnit) (s : State) : Host.Outcome State Fault Refusal := .next (s.unitPost c u true)

end Sys2Proof.Machine
end

