-- ==== Sys2Proof/Machine/Queues.lean ====
section
/-! DEFINITION. The queue store: acceptance of messages, generations, RECV and its like, ring landing, sheaf rounds and the
posy snapshot (spec/07 R216 to R249). -/

namespace Sys2Proof.Machine

/-! ## Generations (R229) -/

/-- Entries discarded by a generation increase: counted, and DISCARD set when there were any. -/
def State.discardEntries (s : State) (n k : Nat) : State :=
  if k = 0 then s else (s.count (coreKey n rQUE_CNT2) 31 0 k).coreStat n rQUE_STATUS 3

/-- The generation of receive queue q of core n rises: entries, sender table and reservation list go. -/
def State.raiseQueue (s : State) (n q : Nat) : State :=
  let c := s.core n
  let c' := { c with qgen := tset (fun _ => 0) c.qgen q (c.genOf q + 1) }
  match c.queue q with
  | none => s.setCore n c'
  | some x => (s.setCore n (c'.setQueue q (some { x with entries := [], table := [], resv := [], row := 0 }))).discardEntries n x.entries.length

/-- The generation of sheaf h of core n rises: all its state goes. -/
def State.raiseSheaf (s : State) (n h : Nat) : State :=
  s.modCore n (fun c => { c with sgen := tset (fun _ => 0) c.sgen h (c.sgenOf h + 1) }.setSheaf h none)

/-- Numbers below b whose bit is set in a mask. -/
def bitsOf (mask b : Nat) : List Nat := (List.range b).filter (fun i => mask.testBit i)

/-- The generations of every queue and sheaf in two masks rise. -/
def State.raiseMasks (s : State) (n queues sheaves : Nat) : State :=
  (bitsOf sheaves 8).foldl (fun s h => s.raiseSheaf n h) ((bitsOf queues 64).foldl (fun s q => s.raiseQueue n q) s)

/-! ## Lanes of a sheaf (R243, R244) -/

/-- Task address of lane l of the buffer of round r (R243). -/
def Sheaf.laneAddr (x : Sheaf) (r l : Nat) : Nat := x.region + (r % 2) * x.lanes * 64 + l * 64

/-- Task address of the sender table (R243). -/
def Sheaf.tableAddr (x : Sheaf) : Nat := x.region + 2 * x.lanes * 64 + (8 * x.lanes + 63) / 64 * 64

/-- Task address of the out area. -/
def Sheaf.outAddr (x : Sheaf) : Nat := x.region + 2 * x.lanes * 64

/-- A buffer with every lane an empty window. -/
def clearedBuffer (lanes : Nat) : Bytes := (List.range lanes).flatMap (fun _ => Window.empty.toBytes)

/-- A round opens: nothing received, EXPECT from the entry or unknown (R244, R246). -/
def Sheaf.open_ (x : Sheaf) (r : Nat) : Sheaf :=
  { x with phase := .opened, round := r, received := 0, expect := if x.openCount then none else some x.expect0
           endSeen := false, loss := false }

/-- A contribution enters its lane: an integer as a term, FP32 as an addend, a window by merging (R244); none above 2^26 terms. -/
def contribute (u : Window) (t : MsgType) (b : Bytes) : Option Window :=
  match t with
  | .shfInt64 => u.addNum (numOfInt (signedN 64 (leAt b 0 8)) 0)
  | .shfFp32 => u.addNum (decodeF32 (leAt b 0 4))
  | .shfWindow => u.merge (Window.ofBytes b)
  | _ => some u

/-! ## Acceptance (R222) -/

/-- Bytes of payload that a TYPE demands (R221). -/
def payloadLen (h : MsgHeader) : Option Nat :=
  match h.type with
  | .word => some (8 * (h.words.toNat + 1))
  | .desc => some 64
  | .shfInt64 => some 8
  | .shfFp32 => some 8
  | .shfWindow => some 64
  | .shfEnd => some 8
  | _ => none

/-- A contribution to a sheaf (R244). -/
def isContribution : MsgType → Bool
  | .shfInt64 => true
  | .shfFp32 => true
  | .shfWindow => true
  | _ => false

/-- Check 1: the header and the payload agree, and WORDS and LANE lie inside the target. -/
def wellMade (h : MsgHeader) (len lanes : Nat) : Bool :=
  decide (payloadLen h = some len) && (decide (h.type = .word) || decide (h.words = 0)) &&
  (if h.sheaf then decide (h.lane.toNat < lanes) else decide (h.lane = 0))

/-- L of a key in a sender table (R226). -/
def lastSeq (t : List (SenderKey × BitVec 16)) (k : SenderKey) : Option (BitVec 16) :=
  (t.find? (fun e => decide (e.1 = k))).map (fun e => e.2)

/-- A duplicate (R226). -/
def isDup (t : List (SenderKey × BitVec 16)) (h : MsgHeader) : Bool :=
  match lastSeq t h.key with
  | some l => let d := (h.seq - l).toNat; decide (d = 0) || decide (2 ^ 15 ≤ d)
  | none => false

/-- The sender is not in the table and the table is full (check 10). -/
def tableFull (t : List (SenderKey × BitVec 16)) (h : MsgHeader) (size : Nat) : Bool :=
  (lastSeq t h.key).isNone && decide (size ≤ t.length)

/-- L := SEQ on acceptance (R226). -/
def noteSeq (t : List (SenderKey × BitVec 16)) (h : MsgHeader) : List (SenderKey × BitVec 16) :=
  if (lastSeq t h.key).isSome then t.map (fun e => if e.1 = h.key then (e.1, h.seq) else e) else t ++ [(h.key, h.seq)]

/-- Checks 4 and 5 of R222: a reader that is LOADING or DRAINING, and a remote sender that the target or its window refuses. -/
def readerChecks (span : Option Bool) (phase : Phase) (remoteOk : Bool) : Option (Nat × Nat) :=
  if phase = .loading ∨ phase = .draining then some (2, nackClosed)
  else if span.isSome ∧ (!remoteOk ∨ span = some false) then some (2, nackDenied)
  else none

/-- What the checks of R222 before the target's own state decide; none: they all pass. REMOTE_OK, ANYGEN_OK, the generation,
the sender table and its size are the target's. -/
def commonChecks (h : MsgHeader) (span : Option Bool) (phase : Phase) (remoteOk fits anygenOk : Bool) (gen : BitVec 8)
    (table : List (SenderKey × BitVec 16)) (size : Nat) : Option (Nat × Nat) :=
  match readerChecks span phase remoteOk with
  | some r => some r
  | none =>
  if !fits then some (2, nackMalformed)
  else if h.anygen ∧ !anygenOk then some (2, nackDenied)
  else if !h.anygen ∧ h.gen ≠ gen then some (2, nackStale)
  else if isDup table h then some (1, 0)
  else if tableFull table h size then some (2, nackDenied)
  else none

/-- What an arriving message comes to: its outcome and code, back-off, place held and occupancy; or it is held. -/
structure Decision where
  outcome : Nat
  code    : Nat
  backoff : Nat
  place   : Option Nat
  occ     : Nat
  deriving DecidableEq, Repr

/-- BACKOFF: the smallest e from 0 to 15 with 2^(e+3) ≥ (p + 1) × RI, RI being the mean of 64 intervals of sum n; 15 when none reaches it
(R231; DESIGN CHOICE, notes/assumptions/94.md). -/
def backoffOf (p n : Nat) : Nat := ((List.range 16).find? (fun e => decide ((p + 1) * n ≤ 64 * 2 ^ (e + 3)))).getD 15

/-- Sum of the 64 intervals for RI until 65 entries have left: RI is 2^18 (R231). -/
def riStart : Nat := 64 * 2 ^ 18

/-- Stages that a time in ns may take: a stage lasts 0.47 to 1.05 ns (spec/00 R15), and which of these numbers passed is free. -/
def State.stagesIn (s : State) (t : Nat) : Nat × State :=
  let (w, s) := s.fresh
  let lo := ceilDiv (t * 100) 105
  (lo + w.toNat % (t * 100 / 47 - lo + 1), s)

/-- The 64 intervals between the last 65 departures from a queue, summed in stages (R231). -/
def State.intervals (s : State) (x : RQueue) : Nat × State :=
  match x.departs[0]?, x.departs[64]? with
  | some b, some a => s.stagesIn (b - a)
  | _, _ => (riStart, s)

/-- Place of a key in a reservation list (R230). -/
def placeIn (l : List Resv) (k : SenderKey) : Option Nat := l.findIdx? (fun r => decide (r.key = k))

/-- An entry is free to a sender (R230): F > i at place i, F > Lr when not listed. -/
def RQueue.admits (x : RQueue) (k : SenderKey) : Bool :=
  decide (x.entries.length + (placeIn x.resv k).getD x.resv.length < x.depth)

/-- FULL: the sender keeps or takes a place (R230, R231). -/
def State.refuseFull (s : State) (n q : Nat) (x : RQueue) (k : SenderKey) : Decision × State :=
  let (ri, s) := s.intervals x
  match placeIn x.resv k with
  | some p =>
    let e := backoffOf p ri
    (⟨2, nackFull, e, some p, x.entries.length⟩,
      s.modCore n (fun c => c.setQueue q (some { x with resv := x.resv.map (fun r => if r.key = k then ⟨k, e⟩ else r) })))
  | none =>
    if x.resv.length < 4 then
      let e := backoffOf x.resv.length ri
      (⟨2, nackFull, e, some x.resv.length, x.entries.length⟩,
        s.modCore n (fun c => c.setQueue q (some { x with resv := x.resv ++ [⟨k, e⟩] })))
    else (⟨2, nackFull, backoffOf 4 ri, none, x.entries.length⟩, s)

/-- A message to a configured receive queue whose reader is not suspended (checks 4 to 12). -/
def State.acceptQueue (s : State) (n q : Nat) (x : RQueue) (h : MsgHeader) (b : Bytes) (span : Option Bool) : Decision × State :=
  let fits := decide (h.type = if x.desc then .desc else .word)
  match commonChecks h span (s.task n x.owner).phase x.remoteOk fits x.anygenOk ((s.core n).genOf q) x.table x.senders with
  | some (o, c) => (⟨o, c, 0, none, x.entries.length⟩, s)
  | none =>
    if x.admits h.key then
      let y := { x with entries := x.entries ++ [⟨h.key, b⟩], table := noteSeq x.table h
                        resv := x.resv.filter (fun r => decide (r.key ≠ h.key)) }
      (⟨0, 0, 0, none, y.entries.length⟩, s.modCore n (fun c => c.setQueue q (some y)))
    else s.refuseFull n q x h.key

/-- A sheaf releases its round (R246, R248, spec/12 R402): a lane that lost bits marks the result and the reader's later windows. -/
def State.release (s : State) (n h : Nat) (x : Sheaf) : State :=
  let s := s.modCore n (fun c => c.setSheaf h (some { x with phase := .released }))
  if x.loss then (s.coreStat n rSHF_STATUS (8 + h)).modTask n x.owner (fun k => { k with nonrep := true }) else s

/-- The sheaf after an accepted message, released when what it expects has come (R246). -/
def State.settleSheaf (s : State) (n h : Nat) (x : Sheaf) : State :=
  if x.expect = some x.received then s.release n h x else s.modCore n (fun c => c.setSheaf h (some x))

/-- An end token of count v that reaches an OPEN sheaf (R246). -/
def State.endToken (s : State) (n h : Nat) (x : Sheaf) (m : MsgHeader) (v : Nat) : Decision × State :=
  let ok : Decision := ⟨0, 0, 0, none, 0⟩
  let y := { x with table := noteSeq x.table m }
  if x.endSeen then
    if x.expect = some v then (ok, s.settleSheaf n h y)
    else (⟨2, nackMalformed, 0, none, 0⟩, s.coreStat n rSHF_STATUS (32 + h))
  else if x.received ≤ v then (ok, s.settleSheaf n h { y with expect := some v, endSeen := true })
  else (⟨2, nackMalformed, 0, none, 0⟩, s.coreStat n rSHF_STATUS (32 + h))

/-- A lane of task t's sheaf region written whole. -/
def State.laneStore (s : State) (n t : Nat) (addr : Word) (u : Window) : State :=
  match (s.core n).xlate t addr 64 true with
  | .ok ps => s.pieceStore n ps u.toBytes
  | _ => s

/-- The sender table of a sheaf in its region after a change: the spec gives its entries no layout, so the bytes of those named are free
(R243, R244). -/
def State.tableBytes (s : State) (n t : Nat) (x : Sheaf) (from_ count : Nat) : State :=
  (List.range count).foldl (fun s i =>
    let (w, s) := s.fresh
    match (s.core n).xlate t (BitVec.ofNat 64 (x.tableAddr + 8 * (from_ + i))) 8 true with
    | .ok ps => s.pieceStore n ps (leBytes 8 w.toNat)
    | _ => s) s

/-- The sender table notes an accepted message. -/
def State.noteSender (s : State) (n : Nat) (x : Sheaf) (m : MsgHeader) : State :=
  let i := ((noteSeq x.table m).findIdx? (fun e => decide (e.1 = m.key))).getD 0
  s.tableBytes n x.owner x i 1

/-- A message to a configured sheaf whose reader is not suspended (checks 4 to 12, R246); no decision while CLEARING. The lane is read for
check 6, once checks 4 and 5 have passed. -/
def State.acceptSheaf (s : State) (n h : Nat) (x : Sheaf) (m : MsgHeader) (b : Bytes) (span : Option Bool) :
    Option Decision × State :=
  let addr : Word := BitVec.ofNat 64 (x.laneAddr x.round m.lane.toNat)
  let fin (lane : Option Window) (s : State) : Option Decision × State :=
    match commonChecks m span (s.task n x.owner).phase x.remoteOk (lane.isSome && decide (m.type ≠ .word) && decide (m.type ≠ .desc))
        false ((s.core n).sgenOf h) x.table x.senders with
    | some (o, c) => (some ⟨o, c, 0, none, 0⟩, s)
    | none =>
      match x.phase, lane with
      | .released, _ => (some ⟨2, nackFull, backoffOf 4 riStart, none, 0⟩, s)
      | .clearing, _ => (none, s)
      | .opened, none => (none, s)
      | .opened, some u =>
        if m.type = .shfEnd then
          let (d, s) := s.endToken n h x m (leAt b 0 4)
          (some d, if d.outcome = 0 then s.noteSender n x m else s)
        else
          let s := (s.laneStore n x.owner addr u).noteSender n x m
          (some ⟨0, 0, 0, none, 0⟩,
            (s.event n 0x1B 1).settleSheaf n h { x with received := x.received + 1, table := noteSeq x.table m, loss := x.loss || u.loss })
  if isContribution m.type ∧ (readerChecks span (s.task n x.owner).phase x.remoteOk).isNone then
    match s.taskRead n x.owner addr 64 .dma with
    | .ok s u => fin (contribute (Window.ofBytes u) m.type b) s
    | .ue s => (some ⟨2, nackFenced, 15, none, 0⟩, s)
    | _ => fin none s
  else fin (some Window.empty) s

/-- What QUE_CNT, QUE_CNT2, QUE_STATUS and SHF_STATUS record of a decision. -/
def State.countDecision (s : State) (n : Nat) (m : MsgHeader) (d : Decision) : State :=
  if d.outcome = 0 then (s.count (coreKey n rQUE_CNT) 63 32 1).event n 0x18 1
  else if d.outcome = 1 then
    let s := (s.count (coreKey n rQUE_CNT2) 63 32 1).coreStat n rQUE_STATUS 0
    if m.sheaf then s.coreStat n rSHF_STATUS (m.dstQ.toNat % 8) else s
  else
    let s := (s.count (coreKey n rQUE_CNT) 31 0 1).event n 0x19 1
    if d.code = nackDenied then s.coreStat n rQUE_STATUS 1 else s

/-- The reply of a decision, with the target's present generation. -/
def State.answerMsg (s : State) (n : Nat) (pkt : Packet) (m : MsgHeader) (d : Decision) : State :=
  let gen := if m.sheaf then (s.core n).sgenOf (m.dstQ.toNat % 8) else (s.core n).genOf m.dstQ.toNat
  (s.countDecision n m d).reply pkt m (resultWord d.outcome d.code d.backoff d.place gen.toNat m.seq.toNat d.occ)

/-- MESSAGE_ACCEPTANCE (R222): the queue store of the packet's core decides one arriving message. -/
def execMessageAcceptance (pkt : Packet) (s : State) : Host.Outcome State Fault Refusal :=
  match pkt.dst, pkt.msg with
  | .core n, some m =>
    if !s.here pkt then .next s
    else
    let c := s.core n
    let q := m.dstQ.toNat
    let h := q % 8
    let nack (code e occ : Nat) : Host.Outcome State Fault Refusal := .next ((s.take pkt).answerMsg n pkt m ⟨2, code, e, none, occ⟩)
    let owner := if m.sheaf then (c.sheaf h).map (fun x => x.owner) else (c.queue q).map (fun x => x.owner)
    let lanes := if m.sheaf then ((c.sheaf h).map (fun x => x.lanes)).getD (2 ^ 14) else 0
    let occ := if m.sheaf then 0 else ((c.queue q).map (fun x => x.entries.length)).getD 0
    if !wellMade m pkt.data.length lanes then nack nackMalformed 0 occ
    else match owner with
      | none => if s.live n then nack nackNoQueue 0 0 else nack nackFenced 15 0
      | some t =>
        if !s.live n ∨ (s.task n t).phase = .suspended then nack nackFenced 15 occ
        else if m.sheaf then
          match c.sheaf h with
          | some x =>
            match s.acceptSheaf n h x m pkt.data pkt.span with
            | (some d, s) => .next ((s.take pkt).answerMsg n pkt m d)
            | (none, s) => .next s
          | none => nack nackNoQueue 0 0
        else
          match c.queue q with
          | some x =>
            let (d, s) := s.acceptQueue n q x m pkt.data pkt.span
            .next ((s.take pkt).answerMsg n pkt m d)
          | none => nack nackNoQueue 0 0
  | _, _ => .next s

/-- RESERVATION_LAPSE (R230): a place of a reservation list lapses; those behind it move up. -/
def execReservationLapse (c : CoreId) (q : Fin 64) (place : Fin 4) (s : State) : Host.Outcome State Fault Refusal :=
  match (s.core c).queue q with
  | some x => .next (s.modCore c (fun k => k.setQueue q (some { x with resv := x.resv.eraseIdx place })))
  | none => .next s

/-! ## Receiving (R236, R240, R247) -/

/-- A queue that the task owns, configured, with LAND 0 (R236). -/
def Core.readQueue (c : Core) (t q : Nat) : Option RQueue :=
  match c.queue q with
  | some x => if x.owner = t ∧ x.land = 0 then some x else none
  | none => none

/-- The head entry leaves the queue. -/
def Core.popQueue (c : Core) (q : Nat) (x : RQueue) (now : Nat) : Core := c.setQueue q (some (x.depart now))

/-- Words of an entry into g[D] to g[D + X]; registers beyond it take zero (R236). -/
def Task.setWords (k : Task) (d : Nat) (b : Bytes) : Nat → Task
  | 0 => k
  | j + 1 => (k.setWords d b j).setG (d + j) (BitVec.ofNat 64 (leAt b (8 * j) 8))

/-- The head entry taken into the registers of task t (R236). -/
def State.takeEntry (s : State) (n t q : Nat) (f : InsnBits) (x : RQueue) (e : QEntry) : State :=
  let x1 := fX f % 4 + 1
  let s := s.modCore n (fun c => c.popQueue q x s.ns)
  let s := s.modTask n t (fun k => k.setWords (fD f) e.words x1)
  if !x.desc ∧ 8 * x1 < e.words.length then s.coreStat n rQUE_STATUS 2 else s

/-- RECV (R236). -/
def tryRecv (n t : Nat) (f : InsnBits) (s : State) : Try :=
  let q := fImm f % 64
  match (s.core n).readQueue t q with
  | none => .stop (s.endTask n t endIllegal (s.task n t).lastWord)
  | some x => match x.entries with
    | [] => .wait s 0 0 q false
    | e :: _ => .done (s.takeEntry n t q f x e)

/-- RECVT (R236): p[A] says whether a message was taken. -/
def tryRecvt (n t : Nat) (f : InsnBits) (s : State) : Try :=
  let q := fImm f % 64
  match (s.core n).readQueue t q with
  | none => .stop (s.endTask n t endIllegal (s.task n t).lastWord)
  | some x => match x.entries with
    | [] => .done (s.modTask n t (fun k => k.setP (fA f) false))
    | e :: _ => .done ((s.takeEntry n t q f x e).modTask n t (fun k => k.setP (fA f) true))

/-- RECVC (R141, R236): a control token; a reserved TYPE ends the task with ILLEGAL, the entry taken. -/
def tryRecvc (n t : Nat) (f : InsnBits) (s : State) : Try :=
  let q := fImm f % 64
  match (s.core n).readQueue t q with
  | none => .stop (s.endTask n t endIllegal (s.task n t).lastWord)
  | some x =>
    if x.desc then .stop (s.endTask n t endIllegal (s.task n t).lastWord)
    else match x.entries with
      | [] => .wait s 0 0 q false
      | e :: _ =>
        let w : Word := BitVec.ofNat 64 (leAt e.words 0 8)
        let s := s.modCore n (fun c => c.popQueue q x s.ns)
        let s := if 8 < e.words.length then s.coreStat n rQUE_STATUS 2 else s
        if 4 ≤ field w 63 60 then .stop (s.endTask n t endIllegal (s.task n t).lastWord)
        else .done (s.modTask n t (fun k => (k.setG (fD f) w).setP (fA f) (decide (field w 63 60 ≠ 1))))

/-- QDONE (R240). -/
def tryQdone (n t : Nat) (f : InsnBits) (s : State) : Try :=
  let q := fImm f % 64
  if (s.task n t).img.queues.testBit q then .done (s.raiseQueue n q)
  else .stop (s.endTask n t endIllegal (s.task n t).lastWord)

/-- A lane rounded as SHFRECV delivers it (R247): the 8 bytes, OVERFLOW and INVALID. -/
def laneValue (kind : Nat) (u : Window) : Nat × Bool × Bool :=
  match kind with
  | 1 => let r := roundTo 7 false .rne 0 false u.value; (r.1, r.2.overflow, r.2.invalid)
  | _ => match u.value with
    | .nan => (2 ^ 63, false, true)
    | .inf true => (2 ^ 63, true, false)
    | .inf false => (2 ^ 63 - 1, true, false)
    | .fin neg m e =>
      let i := rneInt neg m e
      if i < -(2 ^ 63 : Int) then (2 ^ 63, true, false)
      else if (2 ^ 63 : Int) ≤ i then (2 ^ 63 - 1, true, false)
      else (wrapN 64 i, false, false)
where
  /-- m × 2^e rounded to the nearest integer, ties to even. -/
  rneInt (neg : Bool) (m : Nat) (e : Int) : Int :=
    let a : Nat :=
      if 0 ≤ e then m * 2 ^ e.toNat
      else
        let d := 2 ^ (-e).toNat
        let q := m / d
        let r := m % d
        if 2 * r > d ∨ (2 * r = d ∧ q % 2 = 1) then q + 1 else q
    if neg then -(a : Int) else a

/-- SHFRECV (R246, R247): the result of a released round, and clearing of the next buffer begins. -/
def tryShfrecv (n t : Nat) (f : InsnBits) (s : State) : Try :=
  let h := fImm f % 8
  match (s.core n).sheaf h with
  | none => .stop (s.endTask n t endIllegal (s.task n t).lastWord)
  | some x =>
    if x.owner ≠ t then .stop (s.endTask n t endIllegal (s.task n t).lastWord)
    else if x.phase ≠ .released then .wait s 0 0 h false
    else
      let s := s.modCore n (fun c => c.setSheaf h (some { x with phase := .clearing }))
      let g (v : Nat) (s : State) : Try := .done (s.modTask n t (fun k => k.setG (fD f) (BitVec.ofNat 64 v)))
      if x.kind = 2 then g (x.laneAddr x.round 0) s
      else
        let a : Word := BitVec.ofNat 64 (x.laneAddr x.round 0)
        (s.taskRead n t a (64 * x.lanes) .dma).try_ s n t a (fun s b =>
          let vs := (List.range x.lanes).map (fun l => laneValue x.kind (Window.ofBytes ((b.drop (64 * l)).take 64)))
          let s := if vs.any (fun v => v.2.1) then s.coreStat n rSHF_STATUS (24 + h) else s
          let s := if vs.any (fun v => v.2.2) then s.coreStat n rSHF_STATUS (16 + h) else s
          if x.lanes = 1 then g ((vs.map (fun v => v.1)).headD 0) s
          else
            let o : Word := BitVec.ofNat 64 x.outAddr
            (s.taskWrite n t o (vs.flatMap (fun v => leBytes 8 v.1)) .dma).try_ s n t o (fun s _ => g x.outAddr s))

/-- RECV. -/
def execRecv (c : CoreId) (t : TaskSlot) (f : InsnBits) (s : State) : Host.Outcome State Fault Refusal :=
  .next (s.issue c t 0x63 f (fun _ _ => tryRecv c t f))
/-- RECVT. -/
def execRecvt (c : CoreId) (t : TaskSlot) (f : InsnBits) (s : State) : Host.Outcome State Fault Refusal :=
  .next (s.issue c t 0x64 f (fun _ _ => tryRecvt c t f))
/-- RECVC. -/
def execRecvc (c : CoreId) (t : TaskSlot) (f : InsnBits) (s : State) : Host.Outcome State Fault Refusal :=
  .next (s.issue c t 0x65 f (fun _ _ => tryRecvc c t f))
/-- QDONE. -/
def execQdone (c : CoreId) (t : TaskSlot) (f : InsnBits) (s : State) : Host.Outcome State Fault Refusal :=
  .next (s.issue c t 0x66 f (fun _ _ => tryQdone c t f))
/-- SHFRECV. -/
def execShfrecv (c : CoreId) (t : TaskSlot) (f : InsnBits) (s : State) : Host.Outcome State Fault Refusal :=
  .next (s.issue c t 0x6A f (fun _ _ => tryShfrecv c t f))

/-- RING_LANDING_WRITE (R239): the head entry of a ring queue is written at TAIL of its region, TAIL advances and the entry
is freed; a write held under R174 leaves it occupied. -/
def execRingLandingWrite (c : CoreId) (q : Fin 64) (s : State) : Host.Outcome State Fault Refusal :=
  let k := s.core c
  match k.queue q with
  | some x =>
    match x.entries with
    | e :: _ =>
      let r := k.circ x.ring
      let w := e.words.length
      if x.land = 2 ∧ s.live c ∧ r.valid ∧ r.occ + w ≤ r.size then
        let k := (k.popQueue q x s.ns).setCirc x.ring { r with tail := (r.tail + w) % posMod }
        .next ((s.setCore c k).pieceStore c (r.pieces (r.tail % posMod) w) e.words)
      else .next s
    | [] => .next s
  | none => .next s

/-- SHEAF_BUFFER_CLEARED (R246): the buffer of the next round holds empty windows and the round opens. -/
def execSheafBufferCleared (c : CoreId) (h : Fin 8) (s : State) : Host.Outcome State Fault Refusal :=
  match (s.core c).sheaf h with
  | some x =>
    if x.phase = .clearing ∧ s.live c then
      match s.taskWrite c x.owner (BitVec.ofNat 64 (x.laneAddr (x.round + 1) 0)) (clearedBuffer x.lanes) .dma with
      | .ok s _ => .next (s.modCore c (fun k => k.setSheaf h (some (x.open_ (x.round + 1)))))
      | _ => .next s
    else .next s
  | none => .next s

/-! ## Posy read (R249) -/

/-- The posy record of receive queue q. -/
def Core.posyQueue (c : Core) (q : Nat) : Bytes :=
  match c.queue q with
  | some x =>
    leBytes 1 0 ++ leBytes 1 q ++ leBytes 1 (1 + 2 * x.owner + 8 * b2n x.desc + 16 * x.land) ++ leBytes 1 (c.genOf q).toNat
      ++ leBytes 2 x.entries.length ++ leBytes 2 x.depth ++ leBytes 1 x.resv.length ++ leBytes 23 0
      ++ (((x.entries.head?.map (fun e => e.words)).getD []) ++ leBytes 32 0).take 32
  | none => leBytes 1 0 ++ leBytes 1 q ++ leBytes 1 0 ++ leBytes 1 (c.genOf q).toNat ++ leBytes 60 0

/-- STATE of a sheaf in registers and records. -/
def SheafPhase.code : SheafPhase → Nat
  | .opened => 0
  | .released => 1
  | .clearing => 2

/-- The posy record of sheaf h. -/
def Core.posySheaf (c : Core) (h : Nat) : Bytes :=
  match c.sheaf h with
  | some x =>
    leBytes 1 1 ++ leBytes 1 h ++ leBytes 1 (1 + 2 * x.owner + 16 * x.phase.code + 64 * b2n x.loss) ++ leBytes 1 (c.sgenOf h).toNat
      ++ leBytes 2 0 ++ leBytes 2 x.lanes ++ leBytes 8 0 ++ leBytes 4 x.received ++ leBytes 4 (x.expect.getD 0xFFFFFFFF)
      ++ leBytes 40 0
  | none => leBytes 1 1 ++ leBytes 1 h ++ leBytes 1 0 ++ leBytes 1 (c.sgenOf h).toNat ++ leBytes 60 0

/-- The 72 records. -/
def Core.posyRecords (c : Core) : List Bytes :=
  (List.range 64).map (fun q => c.posyQueue q) ++ (List.range 8).map (fun h => c.posySheaf h)

/-- POSY_READ (R249): a write to QUE_POSY; GO takes the records in one stage, is ignored while a posy read is in progress, and
ends at once with POSY_ERR while the compute domain is powered down. -/
def execPosyRead (who : Initiator) (c : CoreId) (v : Word) (s : State) : Host.Outcome State Fault Refusal :=
  let key := coreKey c rQUE_POSY
  .next (s.gate who key .f (fun s =>
    if !bitOf v 63 then s.regWrite key v
    else if (s.core c).posy.isSome then s
    else
      let s := s.regWrite key v
      if !(s.slotFor c).on then (s.setReg key (setBit (setBit (s.reg key) 63 false) 62 true)).coreStat c rQUE_STATUS 4
      else
        let s := s.setReg key (setBit (s.reg key) 62 false)
        s.modCore c (fun k => { k with posy := some (field v 47 6 * 64, k.posyRecords) })))

end Sys2Proof.Machine
end

