-- ==== Sys2Proof/Machine/SealLogic.lean ====
section
/-! DEFINITION. Seal logic and seal directories: windows that seal or retract, references and their entries, seal messages and
their subscribers, lapses (spec/12 R381 to R404). Unit n is the seal logic of core n, unit 512 + d the directory of die d. -/

namespace Sys2Proof.Machine

/-- Index of the unit of an endpoint of this module. -/
def unitOf : SealEnd → Option Nat
  | .core n => some n
  | .dir d _ => some (512 + d)
  | .remote _ _ _ => none

/-- The endpoint of a unit for a range at a local address: a directory is reached at the ring port that R257 gives. -/
def endOf (i a : Nat) : SealEnd := if i < 512 then .core (Fin.ofNat 512 i) else .dir (Fin.ofNat 4 (i - 512)) (Fin.ofNat 25 (a / 256 % 8192))

/-- A seal unit changed. -/
def State.modSeal (s : State) (i : Nat) (f : SealUnit → SealUnit) : State := s.setSeal i (f (s.sealUnit i))

/-- A bit of SEAL_STATUS when the unit belongs to a core. -/
def State.sealStat (s : State) (i b : Nat) : State := if i < 512 then s.coreStat i rSEAL_STATUS b else s

/-! ## Sending (R391 to R394) -/

/-- The 32 B payload of a seal message (R391). -/
def sealBytes (m : SealMsg) : Bytes :=
  leBytes 2 m.key.dev.toNat ++ leBytes 2 m.key.core.toNat ++ leBytes 2 m.key.incarn.toNat
    ++ leBytes 1 (match m.kind with
      | .notice => 0
      | .seal => 1
      | .retract => 2)
    ++ leBytes 1 (b2n m.bounded + 2 * b2n m.loss + 4 * b2n m.nonrep + 8 * m.depth.toNat + 64 * b2n m.lapse)
    ++ leBytes 4 m.epoch.toNat ++ leBytes 4 m.len ++ leBytes 8 m.addr.toNat ++ leBytes 8 0

/-- A seal message as its payload spells it; none for a reserved KIND (R391). -/
def sealOf (b : Bytes) : Option SealMsg :=
  let f := leAt b 7 1
  let mk (k : SealKind) : SealMsg :=
    { key := ⟨BitVec.ofNat 16 (leAt b 0 2), BitVec.ofNat 9 (leAt b 2 2), BitVec.ofNat 16 (leAt b 4 2)⟩, kind := k, bounded := f.testBit 0
      loss := f.testBit 1, nonrep := f.testBit 2, depth := BitVec.ofNat 3 (f / 8), lapse := f.testBit 6, epoch := BitVec.ofNat 32 (leAt b 8 4)
      len := leAt b 12 4, addr := BitVec.ofNat 48 (leAt b 16 8) }
  match leAt b 6 1 with
  | 0 => some (mk .notice)
  | 1 => some (mk .seal)
  | 2 => some (mk .retract)
  | _ => none

/-- TAG of a seal message sent by unit i. -/
def sealTag (i id : Nat) : BitVec 32 := BitVec.ofNat 32 (2 ^ 30 + i * 2 ^ 20 + id % 2 ^ 20)

/-- The mesh place of a unit. -/
def sealPlace (i : Nat) : Place := if i < 512 then placeOf i else ringOf (i - 512)

/-- The unit at a place; a slot that no logical core names has none. -/
def unitAt : Place → Nat
  | .core n => n
  | .ring d => 512 + d
  | .slot _ => 516

/-- ADDR of the mesh packet of a seal message: the range of a NOTICE, the address at another module, or one that leads to the directory's ring
port (R257, R392, R393). -/
def State.sealAddr (s : State) (dst : SealEnd) (m : SealMsg) : Word :=
  let own (a : Nat) : Word := setField (BitVec.ofNat 64 a) 63 48 s.devNum.toNat
  match dst with
  | .core _ => own m.addr.toNat
  | .dir _ port => own (if m.kind = .notice then m.addr.toNat else 256 * port.val)
  | .remote _ a _ => a

/-- A seal message as a mesh packet of TYPE SEAL (R391, R392). -/
def State.sealPacket (s : State) (i id : Nat) (dst : SealEnd) (m : SealMsg) : Packet :=
  { dst := sealDest dst, src := sealPlace i, type := .seal, fence := false, poison := false, adv := false, status := .ok, tag := sealTag i id
    addr := s.sealAddr dst m
    region := match dst with
      | .remote _ _ r => r
      | _ => false
    len := 32, data := sealBytes m, msg := none, span := none }

/-- A seal message enters the mesh. -/
def State.emitSeal (s : State) (i id : Nat) (dst : SealEnd) (m : SealMsg) : State :=
  (if i < 512 then s.count (coreKey i rSEAL_CNT2) 63 32 1 else s).inject (s.sealPacket i id dst m)

/-- A seal message leaves unit i: it awaits its acknowledgement. -/
def State.sendSeal (s : State) (i : Nat) (dst : SealEnd) (m : SealMsg) : State :=
  let u := s.sealUnit i
  (s.setSeal i { u with ids := u.ids + 1, outs := u.outs ++ [⟨u.ids, dst, m, 0, s.ns⟩] }).emitSeal i u.ids dst m

/-- A NOTICE of an epoch to an endpoint is still unanswered. -/
def SealUnit.noticeOut (u : SealUnit) (key : ProdKey) (e : BitVec 32) (dst : SealEnd) : Bool :=
  u.outs.any (fun o => decide (o.msg.kind = .notice) && decide (o.msg.key = key) && decide (o.msg.epoch = e) && decide (o.dst = dst))

/-- A verdict goes to one subscriber, or waits until its NOTICEs are acknowledged (R394). -/
def State.tell (s : State) (i : Nat) (m : SealMsg) (b : SealSub) : State :=
  if (s.sealUnit i).noticeOut b.key b.epoch b.dst then
    s.modSeal i (fun u => { u with subs := u.subs.map (fun x =>
      if x.key = b.key ∧ x.epoch = b.epoch ∧ x.dst = b.dst then { x with queued := some m } else x) })
  else s.sendSeal i b.dst m

/-- A verdict on an epoch goes to every subscriber of it (R385, R393). -/
def State.tellAll (s : State) (i : Nat) (m : SealMsg) : State :=
  ((s.sealUnit i).subs.filter (fun b => decide (b.key = m.key) && decide (b.epoch = m.epoch))).foldl (fun s b => s.tell i m b) s

/-- A verdict message: LEN and ADDR zero (R391). -/
def verdictMsg (key : ProdKey) (e : BitVec 32) (kind : SealKind) (bounded loss nonrep lapse : Bool) : SealMsg :=
  ⟨key, kind, bounded, loss, nonrep, 0, lapse, e, 0, 0⟩

/-- A window that has left OPEN and every message of which is answered is freed (R385). -/
def SealUnit.freeWins (u : SealUnit) (own : ProdKey) : SealUnit :=
  { u with wins := u.wins.filter (fun w => decide (w.st = .opened) ||
      u.subs.any (fun b => decide (b.key = own) && decide (b.epoch = w.epoch))) }

/-- Windows freed in the unit of a core. -/
def State.freeWins (s : State) (i : Nat) : State :=
  if i < 512 then s.modSeal i (fun u => u.freeWins (s.prodKey i)) else s

/-- The answered message of unit i is done with: a verdict ends its subscription; after the last NOTICE a waiting verdict goes. -/
def State.outDone (s : State) (i : Nat) (o : SealOut) : State :=
  let s := s.modSeal i (fun u => { u with outs := u.outs.filter (fun x => decide (x.id ≠ o.id)) })
  match o.msg.kind with
  | .notice =>
    if (s.sealUnit i).noticeOut o.msg.key o.msg.epoch o.dst then s
    else match (s.sealUnit i).subs.find? (fun b => decide (b.key = o.msg.key) && decide (b.epoch = o.msg.epoch) && decide (b.dst = o.dst)) with
      | some b => match b.queued with
        | some m => (s.modSeal i (fun u => { u with subs := u.subs.map (fun x => if x = b then { x with queued := none } else x) })).sendSeal i b.dst m
        | none => s
      | none => s
  | _ => (s.modSeal i (fun u => { u with subs := u.subs.filter (fun b =>
      !(decide (b.key = o.msg.key) && decide (b.epoch = o.msg.epoch) && decide (b.dst = o.dst))) })).freeWins i

/-! ## Windows that seal or retract (R385, R387, R398) -/

/-- References of an epoch after a verdict: a SEAL removes those not LAPSED, a RETRACT makes OPEN ones RETRACTED, a lapse LAPSED
(R387, R389). -/
def SealUnit.settleRefs (u : SealUnit) (key : ProdKey) (e : BitVec 32) (sealed lapse : Bool) : SealUnit :=
  { u with refs := u.refs.filterMap (fun r =>
      if r.key ≠ key ∨ r.epoch ≠ e then some r
      else if sealed then (if r.st = .lapsed then some r else none)
      else if r.st = .opened then some { r with st := if lapse then .lapsed else .retracted, lines := 0 } else some r) }

/-- An epoch leaves the dependency sets and the windows of core n; a window takes the flags of what sealed (R385, R398). -/
def State.dropDep (s : State) (n : Nat) (key : ProdKey) (e : BitVec 32) (bounded loss nonrep : Bool) : State :=
  let s := (List.range 4).foldl (fun s t => s.modTask n t (fun k =>
    { k with deps := k.deps.filter (fun d => !(decide (d.key = key) && decide (d.epoch = e))) })) s
  s.modSeal n (fun u => { u with wins := u.wins.map (fun w =>
    if w.deps.contains (key, e) then
      { w with deps := w.deps.filter (fun d => decide (d ≠ (key, e))), bounded := w.bounded || bounded, loss := w.loss || loss
               nonrep := w.nonrep || nonrep }
    else w) })

/-- Window w of core n seals (R385): SEAL to its subscribers, its references resolved, its dependants released. -/
def State.sealOne (s : State) (n : Nat) (w : SealWin) : State :=
  let key := s.prodKey n
  let s := s.jobsSeal n key w.epoch (b2n w.bounded + 2 * b2n w.loss + 4 * b2n w.nonrep)
  let s := s.modSeal n (fun u => (u.setWin { w with st := .sealed }).settleRefs key w.epoch true false)
  let s := s.tellAll n (verdictMsg key w.epoch .seal w.bounded w.loss w.nonrep false)
  let s := (s.count (coreKey n rSEAL_CNT) 63 32 1).event n 0x1D 1
  let s := if w.bounded then s.coreStat n rSEAL_STATUS 4 else s
  let s := if w.loss then s.coreStat n rSEAL_STATUS 5 else s
  let s := if w.nonrep then s.coreStat n rSEAL_STATUS 6 else s
  (s.dropDep n key w.epoch w.bounded w.loss w.nonrep).freeWins n

/-- A window that may seal: OPEN, its own check passed, nothing left that it depends on (R385, R403). -/
def SealWin.ready (w : SealWin) : Bool := decide (w.st = .opened) && w.passed && w.deps.isEmpty && w.latDeps.isEmpty

/-- Every window of core n that may seal does, one releasing the next. -/
def State.sealReady (s : State) (n : Nat) : Nat → State
  | 0 => s
  | fuel + 1 => match (s.sealUnit n).wins.find? (fun w => w.ready) with
    | some w => (s.sealOne n w).sealReady n fuel
    | none => s

/-- Causes of a retraction (SEAL_LOG.CAUSE). -/
inductive Cause | check | cascade | lapse | lattice | recovery
  deriving DecidableEq, Repr

/-- Code of a cause. -/
def Cause.code : Cause → Nat
  | .check => 0
  | .cascade => 1
  | .lapse => 2
  | .lattice => 3
  | .recovery => 4

/-- Messages of units that wait for a window's seal are not sent once it has retracted (R399). -/
def Core.dropUnsent (c : Core) (e : BitVec 32) : Core :=
  let keep (q : List UnitMsg) : List UnitMsg := q.filter (fun m => m.flying || decide (m.epoch ≠ e))
  (List.range 4).foldl (fun (c : Core) d => c.setDrain d { c.drain d with outbox := keep (c.drain d).outbox })
    { c with rowOutbox := keep c.rowOutbox }

/-- Window w of core n retracts (R385, R387, R404): RETRACT to its subscribers and on the lanes of the links that took its
tokens, its references RETRACTED, its task frozen, the first retraction logged. -/
def State.retractOne (s : State) (n : Nat) (w : SealWin) (why : Cause) : State :=
  let key := s.prodKey n
  let s := s.modSeal n (fun u => (u.setWin { w with st := .retracted }).settleRefs key w.epoch false false)
  let s := s.tellAll n (verdictMsg key w.epoch .retract w.bounded w.loss w.nonrep false)
  let s := ((s.count (coreKey n rSEAL_CNT) 31 0 1).event n 0x1E 1).coreStat n rSEAL_STATUS 0
  let s := if why = .cascade then s.coreStat n rSEAL_STATUS 3 else s
  let s := s.logOnce (coreKey n rSEAL_LOG) 31
    (BitVec.ofNat 64 (w.epoch.toNat * 2 ^ 32 + why.code * 2 ^ 28 + w.unit * 2 ^ 25 + w.task * 2 ^ 23))
  let s := s.modCore n (fun c => w.links.foldl (fun c i => c.setLink i { c.link i with retract := true }) c)
  let s := s.modCore n (fun c => c.dropUnsent w.epoch)
  let s := if why = .recovery ∨ (s.task n w.task).tag ≠ w.job then s else s.freezeTask n w.task .recovery
  s.jobsSee.freeWins n

/-- A window of core n depends on an epoch that retracted. -/
def SealWin.dependsOn (w : SealWin) (bad : List (ProdKey × BitVec 32)) : Bool :=
  decide (w.st = .opened) && w.deps.any (fun d => bad.contains d)

/-- Every OPEN window of core n that depends on a retracted epoch retracts, and so on (R385, R398). -/
def State.cascade (s : State) (n : Nat) (bad : List (ProdKey × BitVec 32)) (why : Cause) : Nat → State
  | 0 => s
  | fuel + 1 => match (s.sealUnit n).wins.find? (fun w => w.dependsOn bad) with
    | some w => (s.retractOne n w why).cascade n (bad ++ [(s.prodKey n, w.epoch)]) why fuel
    | none => s

/-- The tasks of core n whose dependency set holds a retracted epoch are frozen, and the epoch leaves the set. -/
def State.freezeDeps (s : State) (n : Nat) (bad : List (ProdKey × BitVec 32)) : State :=
  (List.range 4).foldl (fun s t =>
    if (s.task n t).deps.any (fun d => bad.contains (d.key, d.epoch)) then
      (s.freezeTask n t .recovery).modTask n t (fun k => { k with deps := k.deps.filter (fun d => !bad.contains (d.key, d.epoch)) })
    else s) s

/-- An epoch has retracted or lapsed at core n: dependants retract, the tasks that inherited it are frozen. -/
def State.retractAt (s : State) (n : Nat) (key : ProdKey) (e : BitVec 32) (why : Cause) : State :=
  let s1 := s.cascade n [(key, e)] why 257
  s1.freezeDeps n ((key, e) :: (s1.sealUnit n).wins.filterMap (fun w =>
    if w.st = .retracted then some (s.prodKey n, w.epoch) else none))

/-- Window w of core n retracts and what depends on it follows. -/
def State.retractWin (s : State) (n : Nat) (w : SealWin) (why : Cause) : State :=
  let key := s.prodKey n
  (s.retractOne n w why).retractAt n key w.epoch .cascade

/-- A unit of core n still works on the window of an epoch: a stream, half-sums, roundings or check tiles of its drains, or a row engine
operation (R381, R382). -/
def Core.workOn (c : Core) (e : BitVec 32) : Bool :=
  c.streams.any (fun x => decide (x.sealEp = some e)) || c.rowOps.any (fun o => decide (o.sealEp = e)) ||
  (List.range 4).any (fun d =>
    let x := c.drain d
    x.halfs.any (fun h => decide (h.id.epoch = some e)) || x.rounds.any (fun r => decide (r.id.epoch = some e)) ||
      x.tiles.any (fun t => decide (t.epoch = some e)) || x.tile.any (fun t => decide (t.epoch = some e)))

/-- WINDOW_VERDICT (R382, R385, R423): the window's own check result reaches the seal logic after its last output. It fails when a tile
failed or the duplicate circuits differ. -/
def execWindowVerdict (c : CoreId) (epoch : BitVec 32) (dupFail : Bool) (s : State) : Host.Outcome State Fault Refusal :=
  match (s.sealUnit c).win epoch with
  | some w =>
    if w.st ≠ .opened ∨ w.passed ∨ (s.core c).workOn epoch then .next s
    else if w.failed ∨ dupFail then .next ((s.retractWin c w .check).attributed c)
    else .next ((s.modWin c epoch (fun w => { w with passed := true })).sealReady c 257)
  | none => .next s

/-! ## Messages that arrive (R387 to R394) -/

/-- The blocks of unit i that a NOTICE names: first block and count; none when the range falls under R9 or is another unit's. -/
def State.noticeBlocks (s : State) (i : Nat) (m : SealMsg) : Option (Nat × Nat) :=
  let a := m.addr.toNat
  if m.len = 0 ∨ !s.memOk a m.len then none
  else match s.kindOf a with
    | .spad n o => if n = i then some (o / 4096, (o + m.len - 1) / 4096 + 1 - o / 4096) else none
    | .hearth => if i < 512 then none else some (a / 4096, (a + m.len - 1) / 4096 + 1 - a / 4096)
    | .peat => if i < 512 then none else some (a / 4096, (a + m.len - 1) / 4096 + 1 - a / 4096)
    | _ => none

/-- Most foreign entries of a unit (R390). -/
def maxEntries (i : Nat) : Nat := if i < 512 then 1024 else 16384

/-- Entries that still have a reference. -/
def SealUnit.pruned (u : SealUnit) : SealUnit :=
  { u with entries := u.entries.filter (fun e => u.refs.any (fun r => decide (r.key = e.key) && decide (r.epoch = e.epoch))) }

/-- A range joins an entry of its epoch with fewer than four, or a new one that keeps the first deadline (R389, R390). -/
def SealUnit.addEntry (u : SealUnit) (key : ProdKey) (e : BitVec 32) (r : Nat × Nat) (due cap : Nat) : Option SealUnit :=
  let mine := u.entries.filter (fun x => decide (x.key = key) && decide (x.epoch = e))
  match mine.find? (fun x => decide (x.ranges.length < 4)) with
  | some x => some { u with entries := u.entries.map (fun y => if y = x then { y with ranges := y.ranges ++ [r] } else y) }
  | none =>
    if cap ≤ u.entries.length then none
    else
      let due := (mine.head?.map (fun x => x.due)).getD due
      some { u with entries := u.entries ++ [⟨key, e, [r], due, mine.any (fun x => x.lapsed)⟩] }

/-- A NOTICE adds a reference to every block of its range that has none of its epoch; none when an entry or a block has no room
(R387, R390). -/
def SealUnit.notice (u0 : SealUnit) (m : SealMsg) (b cnt due cap : Nat) : Option SealUnit :=
  let u := u0.pruned
  let bs := (List.range cnt).map (fun j => b + j)
  let need := bs.filter (fun b => !(u.refsOn b).any (fun r => decide (r.key = m.key) && decide (r.epoch = m.epoch)))
  if need.any (fun b => decide (maxRefs ≤ (u.refsOn b).length)) then none
  else
    let lapsed := u.entries.any (fun x => decide (x.key = m.key) && decide (x.epoch = m.epoch) && x.lapsed)
    (u.addEntry m.key m.epoch (b, cnt) due cap).map (fun u => { u with
      refs := u.refs ++ need.map (fun b => ⟨b, m.key, m.epoch, false, if lapsed then .lapsed else .opened, m.depth.toNat, 0⟩) })

/-- Reads of a unit that wait on a NOTICE that was not accepted (R391, R392): they are answered as it was. -/
def State.refuseReads (s : State) (i id : Nat) (st : RespStatus) : State :=
  let u := s.sealUnit i
  let hit := u.reads.filter (fun r => r.waiting.contains id)
  hit.foldl (fun s r => s.respond r.pkt st []) (s.setSeal i { u with reads := u.reads.filter (fun r => !r.waiting.contains id) })

/-- The lapse time of a unit in ns (R389): of a core SEAL_CTRL.TMO_US, of a directory what the Turca image sets. -/
def State.lapseTime (s : State) (i : Nat) : Nat := 1000 * (if i < 512 then s.regField (coreKey i rSEAL_CTRL) 63 32 else s.paramN 0x22 0 50000)

/-- A NOTICE reaches unit i: its outcome, some status when it is answered, none while it waits for room (R390). -/
def State.takeNotice (s : State) (i : Nat) (m : SealMsg) : Option RespStatus × State :=
  match s.noticeBlocks i m with
  | none => (some .refused, s)
  | some (b, cnt) =>
    match (s.sealUnit i).notice m b cnt (s.ns + s.lapseTime i) (maxEntries i) with
    | none => (none, s.sealStat i 8)
    | some u => (some .ok, s.setSeal i u)

/-- A mesh packet of TYPE SEAL that has landed at a seal unit of this module. -/
def State.sealHere (s : State) (p : Packet) : Bool := s.here p && decide (p.type = .seal) && !s.isRemote p.region p.addr

/-- A seal message of a kind reaches its unit: one of a reserved KIND is answered REFUSED and otherwise ignored (R391). -/
def State.sealIn (s : State) (p : Packet) (kind : SealKind) (act : State → Nat → SealMsg → State) : State :=
  if !s.sealHere p then s
  else match sealOf p.data with
    | none => (s.take p).respond p .refused []
    | some m => if m.kind = kind then act s (unitAt p.dst) m else s

/-- NOTICE_ARRIVE (R387, R389 to R391): the NOTICE is answered, or waits for room. -/
def execNoticeArrive (pkt : Packet) (_u : Unit) (s : State) : Host.Outcome State Fault Refusal :=
  .next (s.sealIn pkt .notice (fun s i m => match s.takeNotice i m with
    | (some st, s) => (s.take pkt).respond pkt st []
    | (none, s) => s))

/-- A unit holds a reference to an epoch that a verdict can still change. -/
def SealUnit.holds (u : SealUnit) (key : ProdKey) (e : BitVec 32) : Bool :=
  u.refs.any (fun r => decide (r.key = key) && decide (r.epoch = e) && decide (r.st ≠ .lapsed))

/-- A verdict on an epoch concerns unit i: it holds a reference to it, or a task or window of its core depends on it. -/
def State.heeds (s : State) (i : Nat) (key : ProdKey) (e : BitVec 32) : Bool :=
  (s.sealUnit i).holds key e || (decide (i < 512) && ((s.sealUnit i).wins.any (fun w => w.dependsOn [(key, e)]) ||
    (List.range 4).any (fun t => (s.task i t).deps.any (fun d => decide (d.key = key) && decide (d.epoch = e)))))

/-- A SEAL reaches unit i (R387, R393): references go, subscribers hear of it, and at a core dependants are released. -/
def State.takeSeal (s : State) (i : Nat) (m : SealMsg) : State :=
  let s := s.jobsSeal i m.key m.epoch (b2n m.bounded + 2 * b2n m.loss + 4 * b2n m.nonrep)
  let s := s.modSeal i (fun u => (u.settleRefs m.key m.epoch true false).pruned)
  let s := s.tellAll i m
  if i < 512 then (s.dropDep i m.key m.epoch m.bounded m.loss m.nonrep).sealReady i 257 else s

/-- A RETRACT reaches unit i (R387, R393, R398). -/
def State.takeRetract (s : State) (i : Nat) (m : SealMsg) (lapse : Bool) : State :=
  let s := if lapse then s else if (s.sealUnit i).holds m.key m.epoch then s.sealStat i 1 else s
  let s := s.modSeal i (fun u => u.settleRefs m.key m.epoch false lapse)
  let s := s.jobsSee.tellAll i m
  if i < 512 then s.retractAt i m.key m.epoch (if lapse then .lapse else .cascade) else s

/-- SEAL_ARRIVE (R385, R387, R393, R394): a SEAL for an epoch that the unit does not hold is acknowledged and ignored. -/
def execSealArrive (pkt : Packet) (_u : Unit) (s : State) : Host.Outcome State Fault Refusal :=
  .next (s.sealIn pkt .seal (fun s i m =>
    let s := (s.take pkt).respond pkt .ok []
    if s.heeds i m.key m.epoch then s.takeSeal i m else s))

/-- RETRACT_ARRIVE (R385, R387, R393, R394). -/
def execRetractArrive (pkt : Packet) (_u : Unit) (s : State) : Host.Outcome State Fault Refusal :=
  .next (s.sealIn pkt .retract (fun s i m =>
    let s := (s.take pkt).respond pkt .ok []
    if s.heeds i m.key m.epoch then s.takeRetract i m false else s))

/-- The answer to message k of unit i, taken from the mesh. -/
def State.sealAck (s : State) (i k : Nat) : Option (RespStatus × State) :=
  (s.landed.find? (fun p => decide (p.type = .writeAck) && decide (p.tag = sealTag i k) && decide (p.dst = sealPlace i))).map
    (fun p => (p.status, s.take p))

/-- SEAL_ACKNOWLEDGED (R385, R391, R392, R394): the WRITE_ACK of message k reaches its sender e. A NOTICE that is refused or DENIED ends the
reads that wait on it so; a verdict that is denied is given up. -/
def execSealAcknowledged (e : SealEnd) (k : Nat) (s : State) : Host.Outcome State Fault Refusal :=
  match unitOf e with
  | none => .next s
  | some i => match s.sealAck i k with
    | none => .next s
    | some (st, s) => match (s.sealUnit i).outs.find? (fun o => decide (o.id = k)) with
      | some o => .next ((if st = .ok ∨ o.msg.kind ≠ .notice then s else s.refuseReads i k st).outDone i o)
      | none => .next s

/-- SEAL_MESSAGE_RESEND (R394): message k of e was not acknowledged within 32 µs; it is sent again at most three times, and then
given up, with the reads that waited on it. -/
def execSealMessageResend (e : SealEnd) (k : Nat) (s : State) : Host.Outcome State Fault Refusal :=
  match unitOf e with
  | none => .next s
  | some i => match (s.sealUnit i).outs.find? (fun o => decide (o.id = k)) with
    | none => .next s
    | some o =>
      if s.ns ≤ o.since + 32000 then .next s
      else if o.tries < 3 then
        let s := s.modSeal i (fun u => { u with outs := u.outs.map (fun x => if x.id = k then { x with tries := x.tries + 1, since := s.ns } else x) })
        let s := s.emitSeal i k o.dst o.msg
        .next (if i < 512 then s.count (coreKey i rSEAL_CNT2) 15 0 1 else s)
      else
        let s := s.modSeal i (fun u => { u with reads := u.reads.filter (fun r => !r.waiting.contains k) })
        .next (s.outDone i o)

/-- The epoch of a producer that has been held longest in a unit and is still OPEN there. -/
def SealUnit.oldestOf (u : SealUnit) (key : ProdKey) : Option SealEntry :=
  (u.entries.filter (fun x => decide (x.key = key) && !x.lapsed &&
    u.refs.any (fun r => decide (r.key = x.key) && decide (r.epoch = x.epoch) && decide (r.st = .opened)))).foldl
      (fun b x => match b with
        | none => some x
        | some y => if x.due < y.due then some x else some y) none

/-- LAPSE (R389): the lapse time has passed since the first NOTICE of the longest-held epoch of a producer; its OPEN references
become LAPSED and the holder acts as on a RETRACT. -/
def execLapse (e : SealEnd) (k : ProdKey) (s : State) : Host.Outcome State Fault Refusal :=
  match unitOf e with
  | none => .next s
  | some i => match (s.sealUnit i).oldestOf k with
    | none => .next s
    | some x =>
      if s.ns < x.due then .next s
      else
      let n := (s.sealUnit i).refs.countP (fun r => decide (r.key = k) && decide (r.epoch = x.epoch) && decide (r.st = .opened))
      let s := s.sealStat i 2
      let s := if i < 512 then s.count (coreKey i rSEAL_CNT2) 31 16 n else s
      let s := s.modSeal i (fun u => { u with entries := u.entries.map (fun y =>
        if y.key = k ∧ y.epoch = x.epoch then { y with lapsed := true } else y) })
      .next (s.takeRetract i (verdictMsg k x.epoch .retract false false false true) true)

/-! ## Reads that pass on references (R393) -/

/-- DEPTH of a reference: of its window when it is an own one. -/
def State.refDepth (s : State) (i : Nat) (r : SealRef) : Nat :=
  if r.own then (((s.sealUnit i).win r.epoch).map (fun w => w.depth)).getD 0 else r.depth

/-- References of a unit on the blocks of some pieces (offset, length), one for each epoch. -/
def SealUnit.refsIn (u : SealUnit) (ps : List (Nat × Nat)) : List SealRef :=
  let bs := ps.flatMap (fun q => blocksOf q.1 q.2)
  u.refs.foldl (fun acc r => if bs.contains r.block ∧ !acc.any (fun q => decide (q.key = r.key) && decide (q.epoch = r.epoch)) then acc ++ [r]
    else acc) []

/-- The subscription of an endpoint to an epoch. -/
def SealUnit.subscribe (u : SealUnit) (key : ProdKey) (e : BitVec 32) (dst : SealEnd) : SealUnit :=
  if u.subs.any (fun b => decide (b.key = key) && decide (b.epoch = e) && decide (b.dst = dst)) then u
  else { u with subs := u.subs ++ [⟨key, e, dst, none⟩] }

/-- Most subscriber entries (R394). -/
def maxSubs : Nat := 4096

/-- The NOTICEs of a read of unit i about references rs, to an endpoint over the ranges it will write: their ids. -/
def State.sendNotices (s : State) (i : Nat) (dst : SealEnd) (ranges : List (Nat × Nat)) : List SealRef → State × List Nat
  | [] => (s, [])
  | r :: rs =>
    let d := s.refDepth i r
    let s := s.modSeal i (fun u => u.subscribe r.key r.epoch dst)
    let (s, ids) := ranges.foldl (fun (x : State × List Nat) g =>
      let id := (x.1.sealUnit i).ids
      (x.1.sendSeal i dst ⟨r.key, .notice, false, false, false, BitVec.ofNat 3 d, false, r.epoch, g.2, BitVec.ofNat 48 g.1⟩, x.2 ++ [id])) (s, [])
    let s := if r.st = .opened then s
      else s.tellAll i (verdictMsg r.key r.epoch .retract false false false (decide (r.st = .lapsed)))
    let (s, more) := s.sendNotices i dst ranges rs
    (s, ids ++ more)

/-- What unit i does with a read of some pieces for an endpoint's ranges: serve it now, hold it until its NOTICEs are
acknowledged, or leave it waiting for a subscriber entry (R393, R394). -/
inductive Serve
  | now
  | held (s : State)
  | full

/-- See Serve. -/
def State.servePlan (s : State) (i : Nat) (ps : List (Nat × Nat)) (dst : Option (SealEnd × List (Nat × Nat))) (pkt : Packet) (errs : LineErrs) : Serve :=
  let rs := (s.sealUnit i).refsIn ps
  match dst with
  | none => .now
  | some (e, ranges) =>
    if rs.isEmpty then .now
    else
      let need := rs.countP (fun r => !(s.sealUnit i).subs.any (fun b => decide (b.key = r.key) && decide (b.epoch = r.epoch) && decide (b.dst = e)))
      if maxSubs < (s.sealUnit i).subs.length + need then .full
      else
        let (s, ids) := s.sendNotices i e ranges rs
        .held (s.modSeal i (fun u => { u with ids := u.ids + 1, reads := u.reads ++ [⟨u.ids, pkt, errs, ids⟩] }))

/-- The read k of unit i whose every NOTICE is acknowledged, taken from the unit (R393). -/
def State.popRead (s : State) (i k : Nat) : Option (SealRead × State) :=
  let u := s.sealUnit i
  match u.reads.find? (fun r => decide (r.id = k)) with
  | some r =>
    if r.waiting.any (fun id => u.outs.any (fun o => decide (o.id = id))) then none
    else some (r, s.setSeal i { u with reads := u.reads.filter (fun x => decide (x.id ≠ k)) })
  | none => none

end Sys2Proof.Machine
end

