-- ==== Sys2Proof/Machine/Spad.lean ====
section
/-! DEFINITION. Power of scratchpad bank groups, and circular regions named by a DMA (spec/05 R168, R169, R178, R184). -/

namespace Sys2Proof.Machine

/-- Stretches [base, base + size) of core n's scratchpad that regions of resident tasks hold or a scrub still writes. -/
def Core.regionSpans (c : Core) : List (Nat × Nat) :=
  (List.range 4).flatMap (fun t => if (c.task t).holds then (c.task t).img.regions.map (fun r => (r.base, r.size)) else [])
    ++ c.scrubs.map (fun x => (x.2.1, x.2.2))

/-- One end of a DMA names group g of core n. -/
def State.dmaEndIn (s : State) (n g : Nat) (region : Bool) (a : Word) (len : Nat) : Bool :=
  if s.isRemote region a then false
  else if region then
    let q := (s.core n).circ (field a 30 27)
    decide (field a 46 38 = n) && decide (q.base < (g + 1) * 2 ^ 20) && decide (g * 2 ^ 20 < q.base + q.size)
  else
    let o := spadAddr n (g * 2 ^ 20)
    decide (field a 47 0 < o + 2 ^ 20) && decide (o < field a 47 0 + len)

/-- A request that a span window admitted, on its way to core n or held for its NOTICEs, names group g: a DMA of another module is in
progress there (R168). -/
def State.spanInGroup (s : State) (n g : Nat) : Bool :=
  let hit (p : Packet) : Bool := (match p.src with | .ring _ => true | _ => false) && (decide (p.type = .dmaRead) || decide (p.type = .dmaWrite)) &&
    decide (p.dst = placeOf n) && (if p.region then
      let q := (s.core n).circ (field p.addr 30 27)
      decide (q.base < (g + 1) * 2 ^ 20) && decide (g * 2 ^ 20 < q.base + q.size)
    else
      let o := spadAddr n (g * 2 ^ 20)
      decide (field p.addr 47 0 < o + 2 ^ 20) && decide (o < field p.addr 47 0 + p.len))
  (s.net ++ s.landed).any hit || (s.sealUnit n).reads.any (fun r => hit r.pkt)

/-- A DMA to or from group g of core n is in progress (R168). -/
def State.dmaInGroup (s : State) (n g : Nat) : Bool :=
  s.spanInGroup n g ||
  s.cores.any (fun e => e.2.dmas.any (fun d => s.dmaEndIn n g (d.flags.testBit 0) d.src d.len || s.dmaEndIn n g (d.flags.testBit 1) d.dst d.len))

/-- A group whose ON bit a write may not clear (R168). -/
def State.groupBusy (s : State) (n g : Nat) : Bool :=
  (s.core n).regionSpans.any (fun x => decide (x.1 < (g + 1) * 2 ^ 20) && decide (g * 2 ^ 20 < x.1 + x.2)) || s.dmaInGroup n g

/-- SPAD_PWR_WRITE (R168): a write that clears the ON bit of a busy group is discarded and PWR_REJECT set. -/
def execSpadPwrWrite (who : Initiator) (c : CoreId) (v : Word) (s : State) : Host.Outcome State Fault Refusal :=
  let key := coreKey c rSPAD_PWR
  .next (s.gateReg who key (fun s =>
    if (List.range 12).any (fun g => bitOf (s.reg key) g && !bitOf v g && s.groupBusy c g) then s.coreStat c rSPAD_STATUS 1
    else s.regWrite key v))

/-- Bytes, uncorrectable words and corrected words of group g of core n are lost. -/
def State.dropGroup (s : State) (n g : Nat) : State :=
  let a := spadAddr n (g * 2 ^ 20)
  let hit (x : Nat) : Bool := decide (a ≤ x) && decide (x < a + 2 ^ 20)
  { s with ram := tdrop hit s.ram, badWords := s.badWords.filter (fun x => !hit x), ceWords := s.ceWords.filter (fun x => !hit x) }

/-- GROUP_POWER_DOWN (R168): a group whose ON bit was cleared loses power and contents. -/
def execGroupPowerDown (c : CoreId) (g : Fin 16) (s : State) : Host.Outcome State Fault Refusal :=
  let key := coreKey c rSPAD_PWR
  if g.val < 12 ∧ !bitOf (s.reg key) g ∧ bitOf (s.reg key) (16 + g) then
    .next ((s.setReg key (setBit (s.reg key) (16 + g) false)).dropGroup c g)
  else .next s

/-- GROUP_POWER_UP_READY (R169): a group whose ON bit was set becomes READY with every check bit valid and its data undefined. -/
def execGroupPowerUpReady (c : CoreId) (g : Fin 16) (s : State) : Host.Outcome State Fault Refusal :=
  let key := coreKey c rSPAD_PWR
  if g.val < 12 ∧ bitOf (s.reg key) g ∧ !bitOf (s.reg key) (16 + g) then
    .next ((s.setReg key (setBit (s.reg key) (16 + g) true)).dropGroup c g)
  else .next s

/-- Physical pieces that a region-form range of core n names, when R178 accepts it. -/
def Core.regionPieces (c : Core) (a : Word) (len : Nat) (write : Bool) : Option (List (Nat × Nat)) :=
  let r := c.circ (field a 30 27)
  if !r.valid then none
  else match (if write then r.writeAt (field a 26 0) len else r.readAt (field a 26 0) len) with
    | .ok ps => some ps
    | _ => none

/-- A pointer of the region that an address names advanced by a DMA; an advance that fails its check is refused (R178). -/
def Core.dmaAdvance (c : Core) (a : Word) (head : Bool) (v : Nat) : Option Core :=
  let r := field a 30 27
  if v < posMod then ((c.circ r).advance head v).map (fun q => c.setCirc r q) else none

end Sys2Proof.Machine
end

