-- ==== Sys2Proof/Machine/Dma.lean ====
section
/-! DEFINITION. The DMA engine of a core, DMA requests at a scratchpad, and mesh timeouts (spec/08 R264 to R269, spec/05 R178,
R184, spec/07 R249). -/

namespace Sys2Proof.Machine

/-! ## Issue (R266, R268) -/

/-- The descriptor's reserved fields, LEN, TIMEOUT_US and addresses are as R266 demands. -/
def dmaDescOk (b : Bytes) : Bool :=
  let flags := leAt b 20 1
  let addrOk (region : Bool) (a : Nat) : Bool := !region || decide (fieldN a 37 31 = 0)
  zeroFrom b 21 3 && zeroFrom b 28 36 && decide (flags < 32) && decide (leAt b 16 4 ≠ 0) && decide (leAt b 24 4 ≤ 4000000) &&
    (!flags.testBit 2 || flags.testBit 0) && (!flags.testBit 3 || flags.testBit 1) &&
    addrOk (flags.testBit 0) (leAt b 0 8) && addrOk (flags.testBit 1) (leAt b 8 8)

/-- Generation of DMA slot i. -/
def Core.dmaGenOf (c : Core) (i : Nat) : Nat := tget (fun _ => 0) c.dmaGen i

/-- The tag that DMA returns: slot and generation (R264). -/
def dmaTag (slot gen : Nat) : Nat := slot + gen * 256

/-- DMA: takes a free DMA slot and returns the tag; waits while all 16 are busy. -/
def tryDma (n t : Nat) (f : InsnBits) (s : State) : Try :=
  let addr := (s.task n t).addrA f
  (s.block n t addr 64).try_ s n t addr (fun s b =>
    let k := s.task n t
    let c := s.core n
    if !dmaDescOk b then .stop (s.endTask n t endIllegal k.lastWord)
    else match (List.range 16).find? (fun i => !c.dmas.any (fun d => decide (d.slot = i))) with
      | none => .wait s 0 0 0 false
      | some i =>
        let gen := c.dmaGenOf i
        let d : Dma :=
          { slot := i, gen := gen, task := t, pc := k.pc, src := BitVec.ofNat 64 (leAt b 0 8), dst := BitVec.ofNat 64 (leAt b 8 8)
            len := leAt b 16 4, flags := leAt b 20 1, timeout := leAt b 24 4, issued := 0
            read := 0, wrote := 0, since := s.ns, pkts := [] }
        let s := s.setCore n { c with dmas := c.dmas ++ [d], dmaGen := tset (fun _ => 0) c.dmaGen i ((gen + 1) % 256) }
        .done (s.modTask n t (fun k => k.setG (fD f) (BitVec.ofNat 64 (dmaTag i gen)))))

/-- DMAWAIT: waits for the task's DMA with tag g[A], or for every DMA of the task. -/
def tryDmawait (n t : Nat) (f : InsnBits) (s : State) : Try :=
  let tag := ((s.task n t).greg (fA f)).toNat
  if (s.core n).dmas.any (fun d => decide (d.task = t) && (fI f || decide (dmaTag d.slot d.gen = tag))) then .wait s 0 0 0 false
  else .done s

/-- DMA. -/
def execDma (c : CoreId) (t : TaskSlot) (f : InsnBits) (s : State) : Host.Outcome State Fault Refusal :=
  .next (s.issue c t 0x58 f (fun _ _ => tryDma c t f))
/-- DMAWAIT. -/
def execDmawait (c : CoreId) (t : TaskSlot) (f : InsnBits) (s : State) : Host.Outcome State Fault Refusal :=
  .next (s.issue c t 0x59 f (fun _ _ => tryDmawait c t f))

/-! ## Packets (R267, R268) -/

/-- An address moved on by an offset: positions count modulo 2^27, local addresses in their 48 bits (R267). -/
def addrPlus (region : Bool) (a : Word) (o : Nat) : Word :=
  if region then setField a 26 0 ((field a 26 0 + o) % posMod) else setField a 47 0 ((field a 47 0 + o) % 2 ^ 48)

/-- SRC_REGION. -/
def Dma.srcRegion (d : Dma) : Bool := d.flags.testBit 0
/-- DST_REGION. -/
def Dma.dstRegion (d : Dma) : Bool := d.flags.testBit 1
/-- Source address of offset o. -/
def Dma.srcAt (d : Dma) (o : Nat) : Word := addrPlus d.srcRegion d.src o
/-- Destination address of offset o. -/
def Dma.dstAt (d : Dma) (o : Nat) : Word := addrPlus d.dstRegion d.dst o

/-- Bytes of the packet at offset o: at most 4,096, crossing no 4 KiB boundary of either address (R268). -/
def Dma.chunk (d : Dma) (o : Nat) : Nat :=
  min (min (d.len - o) 4096) (min (4096 - (d.srcAt o).toNat % 4096) (4096 - (d.dstAt o).toNat % 4096))

/-- TAG of packet i of a DMA. -/
def pktTag (d : Dma) (i : Nat) : BitVec 32 := BitVec.ofNat 32 (dmaTag d.slot d.gen + i * 2 ^ 16)

/-- When a DMA of core n has timed out: TIMEOUT_US, or MESH_TMO.DMA_US when that is 0 (R264). -/
def State.dmaDue (s : State) (n : Nat) (d : Dma) : Nat :=
  usAfter d.since (if d.timeout = 0 then s.regField (coreKey n rMESH_TMO) 31 0 else d.timeout)

/-- A request of a packet leaves core n, or is answered REFUSED at once under R9 (R257). -/
def State.dmaRequest (s : State) (n : Nat) (due : Nat) (type : PktType) (fence adv region : Bool) (tag : BitVec 32) (a : Word) (len : Nat)
    (data : Bytes) : State :=
  let p (dst : Place) : Packet :=
    { dst := dst, src := placeOf n, type := type, fence := fence, poison := false, adv := adv, status := .ok, tag := tag, addr := a
      region := region, len := len, data := data, msg := none, span := none }
  match s.route region a len with
  | some d => s.request n (p d) due
  | none => s.refuseAtSource (p (placeOf n))

/-- A DMA of core n changed. -/
def Core.modDma (c : Core) (slot : Nat) (f : Dma → Dma) : Core :=
  { c with dmas := c.dmas.map (fun d => if d.slot = slot then f d else d) }

/-- The packets of a core that are in flight (R268). -/
def Core.pktsOut (c : Core) : Nat := (c.dmas.map (fun d => d.pkts.length)).sum

/-- DMA_PACKET_ISSUE (R268): the oldest DMA with bytes left reads its next packet from its source. -/
def execDmaPacketIssue (c : CoreId) (s : State) : Host.Outcome State Fault Refusal :=
  let k := s.core c
  match k.dmas.find? (fun d => decide (d.issued < d.len)) with
  | none => .next s
  | some d =>
    if !s.live c ∨ 64 ≤ k.pktsOut then .next s
    else
      let o := d.issued
      let w := d.chunk o
      let i := ((List.range 64).find? (fun i => !d.pkts.any (fun p => decide (p.tag = pktTag d i)))).getD 0
      let last := decide (o + w = d.len)
      let s := s.setCore c (k.modDma d.slot (fun d => { d with issued := o + w, pkts := d.pkts ++ [⟨pktTag d i, o, w, none, false⟩] }))
      let far := decide (s.route d.srcRegion (d.srcAt o) w ≠ some (placeOf c))
      .next ((s.dmaRequest c (s.dmaDue c d) .dmaRead (d.flags.testBit 4 && last && far) (d.flags.testBit 2 && last) d.srcRegion (pktTag d i) (d.srcAt o) w []).event
        c 0x16 1)

/-! ## Responses (R269) and timeouts (R264) -/

/-- The DMA and packet of core n that a TAG names. -/
def Core.dmaOf (c : Core) (tag : BitVec 32) : Option (Dma × DmaPkt) :=
  (c.dmas.find? (fun d => d.pkts.any (fun p => decide (p.tag = tag)))).bind (fun d =>
    (d.pkts.find? (fun p => decide (p.tag = tag))).map (fun p => (d, p)))

/-- A DMA of core n ends, with nothing more of it awaited. -/
def State.dropDma (s : State) (n slot : Nat) : State :=
  s.modCore n (fun c => { c with dmas := c.dmas.filter (fun d => decide (d.slot ≠ slot)) })

/-- The effect of a DMA's first failure on its task (R269). -/
def State.failDma (s : State) (n : Nat) (d : Dma) (st : RespStatus) : State :=
  let s := s.dropDma n d.slot
  match st with
  | .refused => s.endAsync n d.task d.pc endAccess 0
  | .denied => s.endAsync n d.task d.pc endPermission 0
  | _ => (s.coreStat n rMESH_STATUS 5).freezeTask n d.task .recovery

/-- A packet of a DMA is done; the DMA is when all of it is (R268). -/
def State.pktDone (s : State) (n : Nat) (d : Dma) (p : DmaPkt) : State :=
  let left := d.pkts.filter (fun x => decide (x.tag ≠ p.tag))
  if left.isEmpty ∧ d.issued = d.len then s.dropDma n d.slot
  else s.modCore n (fun c => c.modDma d.slot (fun d => { d with pkts := left }))

/-- Packets whose read data are here and whose writes go next, in address order (R268). -/
def nextWrites : List DmaPkt → List DmaPkt
  | [] => []
  | p :: ps =>
    if p.out then nextWrites ps
    else match p.data with
      | some _ => p :: nextWrites ps
      | none => []

/-- The writes of a DMA that can go leave (R268). -/
def State.sendWrites (s : State) (n : Nat) (d : Dma) : State :=
  (nextWrites d.pkts).foldl (fun s p =>
    let last := decide (p.off + p.len = d.len)
    let s := s.modCore n (fun c => c.modDma d.slot (fun d => { d with pkts := d.pkts.map (fun x => if x.tag = p.tag then { x with out := true } else x) }))
    s.dmaRequest n (s.dmaDue n d) .dmaWrite (d.flags.testBit 4 && last) (d.flags.testBit 3 && last) d.dstRegion p.tag (d.dstAt p.off) p.len
      (p.data.getD [])) s

/-- The response to a MIGRATE packet of the copy under way from slot p (R255, spec/13 R429). -/
def State.copyAcked (s : State) (p : Nat) (tag : BitVec 32) : State :=
  let m := s.row (p / 9)
  s.setRow (p / 9) { m with move := m.move.map (fun v => { v with copies := v.copies.map (fun l => l.filter (fun t => t ≠ tag)) }) }

/-- DMA_RESPONSE (R269): READ_DATA is sent on as the packet's write, once the writes before it have left (R268); a WRITE_ACK completes the
packet; a failure ends the DMA. -/
def execDmaResponse (pkt : Packet) (s : State) : Host.Outcome State Fault Refusal :=
  match pkt.dst with
  | .ring _ => .next s
  | .slot q => .next (if s.here pkt then (s.take pkt).copyAcked q pkt.tag else s)
  | .core n =>
    if !s.here pkt then .next s
    else if !s.live n then .next ((s.take pkt).countDiscard n)
    else
    let s := (s.take pkt).modCore n (fun c => c.settle pkt.tag)
    match (s.core n).dmaOf pkt.tag with
    | none => .next (s.lateResponse n)
    | some (d, p) =>
      if pkt.status ≠ .ok then .next (s.failDma n d pkt.status)
      else match pkt.type with
        | .readData =>
          let d := { d with pkts := d.pkts.map (fun x => if x.tag = p.tag then { x with data := some pkt.data } else x) }
          .next ((s.modCore n (fun c => c.modDma d.slot (fun _ => d))).sendWrites n d)
        | .writeAck => .next (s.pktDone n d p)
        | _ => .next s

/-- MESH_TIMEOUT (R264): an operation whose time has passed ends, and its task with TIMEOUT, whose detail is the opcode of the instruction that
issued it (R153); before that time nothing ends. -/
def execMeshTimeout (c : CoreId) (op : MeshOp) (s : State) : Host.Outcome State Fault Refusal :=
  match op with
  | .dma tag =>
    match (s.core c).dmas.find? (fun d => decide (dmaTag d.slot d.gen = tag.toNat)) with
    | some d =>
      if s.ns ≤ s.dmaDue c d then .next s
      else
      let s := d.pkts.foldl (fun s p => s.modCore c (fun k => k.settle p.tag)) s
      .next (((s.dropDma c d.slot).coreStat c rMESH_STATUS 4).endAsync c d.task d.pc endTimeout 0x58)
    | none => .next s
  | .send t chan =>
    match (s.task c t).sends.find? (fun r => decide (r.chan = chan.toNat)) with
    | some r =>
      if s.ns ≤ usAfter r.since (s.regField (coreKey c rMESH_TMO) 63 32) then .next s
      else
      let s := r.targets.foldl (fun s x => s.modCore c (fun k => k.settle (msgTag t r.chan x.idx r.seq))) s
      let s := s.modTask c t (fun k => { k with sends := k.sends.filter (fun x => decide (x.chan ≠ r.chan)) })
      .next ((s.coreStat c rMESH_STATUS 4).endAsync c t r.pc endTimeout (BitVec.ofNat 64 r.opc))
    | none => .next s

/-! ## Requests at a scratchpad (R178, R184, R269, spec/12 R393) -/

/-- Where the bytes of a DMA read will be written: the endpoint and the ranges there (spec/12 R393), from the DMA that the TAG
names; none when no DMA of this module made the request. -/
def State.destOf (s : State) (p : Packet) : Option (SealEnd × List (Nat × Nat)) :=
  match p.src with
  | .ring _ | .slot _ => none
  | .core n => ((s.core n).dmaOf p.tag).bind (fun x =>
      let a := x.1.dstAt x.2.off
      let r := x.1.dstRegion
      if s.isRemote r a then some (.remote (BitVec.ofNat 16 (field a 63 48)) a r, [(field a 47 0, x.2.len)])
      else if r then
        let m := field a 46 38
        let q := (s.core m).circ (field a 30 27)
        if s.present m ∧ q.valid then some (endOf m 0, (q.pieces (field a 26 0) x.2.len).map (fun g => (spadAddr m g.1, g.2))) else none
      else match s.kindOf (field a 47 0) with
        | .spad m _ => some (endOf m 0, [(field a 47 0, x.2.len)])
        | .hearth => some (endOf (512 + s.ringDie (field a 47 0)) (field a 47 0), [(field a 47 0, x.2.len)])
        | .peat => some (endOf (512 + s.ringDie (field a 47 0)) (field a 47 0), [(field a 47 0, x.2.len)])
        | _ => none)

/-- Bytes that a DMA has moved at its destination, or at its source. -/
def Dma.moved (d : Dma) (write : Bool) : Nat := if write then d.wrote else d.read

/-- The whole range of the DMA that made a region-form request is accepted (R178): it is checked before any byte of it moves at this end. A
DMA of this module that has ended moves no byte more; of a request that a span window admitted only its own range is known. -/
def State.wholeOk (s : State) (n : Nat) (p : Packet) : Bool :=
  let write := decide (p.type = .dmaWrite)
  match p.src with
  | .ring _ | .slot _ => true
  | .core m =>
    match (s.core m).dmaOf p.tag with
    | none => false
    | some (d, _) => decide (0 < d.moved write) || ((s.core n).regionPieces (if write then d.dst else d.src) d.len write).isSome

/-- Physical pieces of core n's scratchpad that a request names; none when it is refused (R178, R184). -/
def State.requestPieces (s : State) (n : Nat) (p : Packet) : Option (List (Nat × Nat)) :=
  if p.region then (if s.wholeOk n p then (s.core n).regionPieces p.addr p.len (decide (p.type = .dmaWrite)) else none)
  else
    let a := field p.addr 47 0
    match s.kindOf a with
    | .spad m o => if m = n ∧ s.memOk a p.len then some [(o, p.len)] else none
    | _ => none

/-- The bytes of a request are moved at its end of the DMA that made it: true when they are the last ones there (R178). -/
def State.noteMoved (s : State) (p : Packet) : Option (Dma × Bool) × State :=
  let write := decide (p.type = .dmaWrite)
  match p.src with
  | .ring _ | .slot _ => (none, s)
  | .core m =>
    match (s.core m).dmaOf p.tag with
    | none => (none, s)
    | some (d, _) =>
      let v := d.moved write + p.len
      (some (d, decide (v = d.len)), s.modCore m (fun c => c.modDma d.slot (fun d => if write then { d with wrote := v } else { d with read := v })))

/-- The region advance that a request brings about, after the last byte of its DMA at this end has moved (R178); of a request that a span
window admitted, the one with ADV moves the pointer up to its own end. A refused advance answers REFUSED. -/
def State.applyAdv (s : State) (n : Nat) (p : Packet) (head : Bool) (st : RespStatus) : State × RespStatus :=
  let q := (s.core n).circ (field p.addr 30 27)
  let upTo := (field p.addr 26 0 + p.len + posMod - (if head then q.head else q.tail)) % posMod
  let (by_, s) := match s.noteMoved p with
    | (some (d, last), s) => (if last ∧ d.flags.testBit (if head then 2 else 3) then some d.len else none, s)
    | (none, s) => (if p.adv then some upTo else none, s)
  match p.region, by_ with
  | true, some v => match (s.core n).dmaAdvance p.addr head v with
    | some c => (s.setCore n c, st)
    | none => (s, .refused)
  | _, _ => (s, st)

/-- A DMA read of core n's scratchpad served: the bytes, or POISONED at an uncorrectable word. -/
def State.serveSpadRead (s : State) (n : Nat) (p : Packet) (ps : List (Nat × Nat)) : State :=
  let ues := s.pieceUes n false ps
  match s.pieceBad n false ps with
  | some o => (s.noteUe n o ues .dma 0).respond p .poisoned []
  | none =>
    let b := s.pieceBytes n ps
    let (s, st) := (s.pieceCe n ps).applyAdv n p true .ok
    s.respond p st (if st = .ok then b else [])

/-- A DMA write of core n's scratchpad performed: bytes of an uncorrectable word that it covers in part are not written. -/
def State.serveSpadWrite (s : State) (n : Nat) (p : Packet) (ps : List (Nat × Nat)) : State :=
  let bad := s.pieceBad n true ps
  let ues := s.pieceUes n true ps
  let s := (s.mergeCe n ps).pieceStore n ps p.data
  match bad with
  | some o => (s.noteUe n o ues .dma 0).respond p .poisoned []
  | none =>
    let (s, st) := s.applyAdv n p false .ok
    s.respond p st []

/-- DMA_REQUEST_ARRIVE (R57, R178, R184, R393): a request that has landed reaches a scratchpad. An isolated compute domain discards it; a range
that is not accepted or not powered is refused with no byte moved; a read of blocks with references waits for its NOTICEs. A MIGRATE packet is
acknowledged at its slot (R255). -/
def execDmaRequestArrive (pkt : Packet) (s : State) : Host.Outcome State Fault Refusal :=
  match pkt.dst with
  | .ring _ => .next s
  | .slot _ => .next (if s.here pkt ∧ pkt.type = .migrate then (s.take pkt).respond pkt .ok [] else s)
  | .core n =>
    let s1 := s.take pkt
    if !s.here pkt ∨ (pkt.type ≠ .dmaRead ∧ pkt.type ≠ .dmaWrite) then .next s
    else if !s.live n then .next (s1.countDiscard n)
    else match s.requestPieces n pkt with
      | none => .next (s1.respond pkt .refused [])
      | some ps =>
        if ps.any (fun q => !s.spadPowered n q.1 q.2) then .next ((s1.coreStat n rSPAD_STATUS 2).respond pkt .refused [])
        else if pkt.type = .dmaWrite then .next (s1.serveSpadWrite n pkt ps)
        else
          match s1.servePlan n ps (s.destOf pkt) pkt [] with
          | .now => .next (s1.serveSpadRead n pkt ps)
          | .held s => .next s
          | .full => .next (s.coreStat n rSEAL_STATUS 9)

/-! ## The posy records (spec/07 R249) -/

/-- A core's own DMA write of bytes to a local address is accepted: the address exists, and a scratchpad's group is powered. -/
def State.localWriteOk (s : State) (a len : Nat) : Bool :=
  s.memOk a len && (match s.kindOf a with
    | .spad n o => s.live n && s.spadPowered n o len
    | _ => true)

/-- POSY_DONE (R249): the records are written, or refused with POSY_ERR; DONE is set and GO reads zero. -/
def execPosyDone (c : CoreId) (s : State) : Host.Outcome State Fault Refusal :=
  match (s.core c).posy with
  | none => .next s
  | some (a, recs) =>
    let (go, s) := s.snooped a (72 * 64) true
    if !go then .next s
    else
    let key := coreKey c rQUE_POSY
    let s := s.modCore c (fun k => { k with posy := none })
    let s := s.setReg key (setBit (setBit (s.reg key) 63 false) 62 true)
    if s.localWriteOk a (72 * 64) then .next (s.store a recs.flatten) else .next (s.coreStat c rQUE_STATUS 4)

end Sys2Proof.Machine
end

