-- ==== Sys2Proof/Machine/Lattice.lean ====
section
/-! DEFINITION. The operand lattice: tokens, dispatch and select programs, epochs, slack, seal lanes,
stalls and the forced drain (spec/06 R186 to R215, spec/04 R144 to R147, spec/12 R403, R404). Links are numbered 0 N, 1 E, 2 S,
3 W. -/

namespace Sys2Proof.Machine

/-! ## Schedule images (R200 to R203) -/

/-- An entry of a program. -/
inductive SchedOp
  | run (sel count : Nat)
  | loop (target reps : Nat)
  | halt
  | bad
  deriving DecidableEq, Repr

/-- A schedule entry of 32 bits. -/
def schedOp (w : Nat) : SchedOp :=
  match w / 2 ^ 30 with
  | 0 => .run (w / 2 ^ 25 % 32) (w % 2 ^ 25)
  | 1 => .loop (w / 2 ^ 20 % 1024) (w % 2 ^ 20)
  | 2 => .halt
  | _ => .bad

/-- Program k of a schedule image: dispatch N, E, S, W, then select N, E, S, W. -/
def schedProg (b : Bytes) (k : Nat) : List SchedOp :=
  let first := leAt b (4 + 4 * k) 2
  (List.range (leAt b (6 + 4 * k) 2)).map (fun j => schedOp (leAt b (64 + 4 * (first + j)) 4))

/-- LINKUSE of a schedule image. -/
def linkUse (b : Bytes) : Nat := leAt b 3 1

/-- The loops of a program: index and target. -/
def progLoops (p : List SchedOp) : List (Nat × Nat) :=
  p.zipIdx.filterMap (fun x => match x.1 with
    | .loop t _ => some (x.2, t)
    | _ => none)

/-- Two loop bodies are nested or disjoint. -/
def loopsNest (a b : Nat × Nat) : Bool :=
  if a.1 < b.1 then decide (a.1 < b.2) || decide (b.2 ≤ a.2) else if b.1 < a.1 then decide (b.1 < a.2) || decide (a.2 ≤ b.2) else true

/-- One program passes the check of R203: dispatch program of input i, or select program when i is none. -/
def progOk (use : Nat) (dispatch : Option Nat) (p : List SchedOp) : Bool :=
  let ls := progLoops p
  p.zipIdx.all (fun x => match x.1 with
    | .bad => false
    | .halt => true
    | .loop t _ => decide (t < x.2)
    | .run sel cnt => decide (cnt ≠ 0) && (match dispatch with
      | some i => !sel.testBit (i + 1) && (List.range 4).all (fun j => !sel.testBit (j + 1) || use.testBit (4 + j))
      | none => decide (sel ≤ 4) && (decide (sel = 4) || use.testBit sel))) &&
  ls.all (fun a => ls.all (fun b => loopsNest a b)) &&
  (List.range p.length).all (fun j => decide (ls.countP (fun a => decide (a.2 ≤ j) && decide (j ≤ a.1)) ≤ 4))

/-- The check of R203. -/
def State.schedOk (s : State) (n : Nat) (b : Bytes) : Bool :=
  let use := linkUse b
  decide (leAt b 0 2 = 0x4C54) && decide (leAt b 2 1 = 1) &&
  (List.range 8).all (fun k => decide (64 + 4 * (leAt b (4 + 4 * k) 2 + leAt b (6 + 4 * k) 2) ≤ b.length)) &&
  (List.range 4).all (fun i => progOk use (some i) (schedProg b i)) && (List.range 4).all (fun j => progOk use none (schedProg b (4 + j))) &&
  (List.range 4).all (fun i => !(use.testBit i || use.testBit (4 + i)) || s.linkPresent n i) &&
  (List.range 4).all (fun i => decide (leAt b (36 + i) 1 ≤ 24))

/-- Where a program stands once LOOPs are passed: at a RUN, or idle at a HALT or its end (R201). -/
def Prog.settle (p : List SchedOp) : Nat → Prog → Prog
  | 0, _ => Prog.idle
  | fuel + 1, x =>
    match x.at_ with
    | none => Prog.idle
    | some i => match p[i]? with
      | some (.run _ _) => x
      | some (.loop t reps) =>
        let k := tget (fun _ => 0) x.loops i + 1
        if reps = 0 ∨ k < reps then Prog.settle p fuel { x with at_ := some t, done := 0, loops := tset (fun _ => 0) x.loops i k }
        else Prog.settle p fuel { x with at_ := some (i + 1), done := 0, loops := tset (fun _ => 0) x.loops i 0 }
      | _ => Prog.idle

/-- Steps that settling a program may take. -/
def progFuel (p : List SchedOp) : Nat := 2 * p.length + 2

/-- A program at its first entry. -/
def Prog.start (p : List SchedOp) : Prog := Prog.settle p (progFuel p) ⟨some 0, 0, []⟩

/-- SEL of the RUN where a program stands. -/
def Prog.sel (p : List SchedOp) (x : Prog) : Option Nat :=
  match x.at_ with
  | none => none
  | some i => match p[i]? with
    | some (.run sel _) => some sel
    | _ => none

/-- A program after one token of its RUN. -/
def Prog.step (p : List SchedOp) (x : Prog) : Prog :=
  match x.at_ with
  | none => x
  | some i => match p[i]? with
    | some (.run _ cnt) =>
      if x.done + 1 < cnt then { x with done := x.done + 1 }
      else Prog.settle p (progFuel p) { x with at_ := some (i + 1), done := 0 }
    | _ => x

/-- The dispatch program of link i in force. -/
def Link.dispatch (l : Link) (i : Nat) : List SchedOp := (l.inSched.map (fun b => schedProg b i)).getD []
/-- The select program of link j in force. -/
def Link.select (l : Link) (j : Nat) : List SchedOp := (l.outSched.map (fun b => schedProg b (4 + j))).getD []

/-- Output links that some entry of a dispatch program names. -/
def dispatchOuts (p : List SchedOp) : List Nat :=
  (List.range 4).filter (fun j => p.any (fun x => match x with
    | .run sel _ => sel.testBit (j + 1)
    | _ => false))

/-- Input links that some entry of a select program names. -/
def selectIns (p : List SchedOp) : List Nat :=
  (List.range 4).filter (fun i => p.any (fun x => match x with
    | .run sel _ => decide (sel = i)
    | _ => false))

/-! ## Slack (R197 to R199) -/

/-- Depth of an input queue. -/
def Link.depth (l : Link) : Nat := 8 + l.granted

/-- A link that a schedule image marks: input i, or output j at 4 + j. -/
def marks (b : Option Bytes) (i : Nat) : Bool := (b.map (fun x => (linkUse x).testBit i)).getD false

/-- The schedule image of the active configuration. -/
def Core.activeSched (c : Core) : Option Bytes := (c.cfgSlot c.active).map (fun x => x.schedule)

/-- Input j carries tokens: the active configuration marks it, or the one that it has still to leave does. It lends no slack stage (R197). -/
def Core.carries (c : Core) (j : Nat) : Bool := marks c.activeSched j || marks (c.link j).inSched j

/-- Slack that the router grants to input i for a request: of the core's 24 stages, those that no other link holds; a link that carries tokens
keeps its own six (R197, R198). -/
def Core.grant (c : Core) (i req : Nat) : Nat :=
  let held (j : Nat) : Nat := if j = i then 0 else max (c.link j).granted (if c.carries j then 6 else 0)
  min req (24 - ((List.range 4).map held).sum)

/-- The slack that input i of core n asks for: BASE + ADJUST, capped at 24 (R198). -/
def State.slackAsked (s : State) (n i : Nat) : Nat :=
  min 24 (((s.core n).link i).base + s.regField (coreKey n (rLAT_SLACKi + 8 * i)) 7 0)

/-- Input i of core n runs with what it can be granted of what it asks for. -/
def State.grantLink (s : State) (n i : Nat) : State :=
  s.modCore n (fun c => c.setLink i { c.link i with granted := c.grant i (s.slackAsked n i) })

/-- The slack of input i of core n granted anew from BASE and ADJUST (R198); links that fell short take what it leaves. -/
def State.regrant (s : State) (n i : Nat) : State :=
  let s := s.grantLink n i
  let s := if ((s.core n).link i).granted < s.slackAsked n i then s.coreStat n rLAT_STATUS 6 else s
  (List.range 4).foldl (fun s j => if ((s.core n).link j).granted < s.slackAsked n j then s.grantLink n j else s) s

/-- ADJUST of input i of core n written (R198, R199): a value above 24, or a depth below the present occupancy, is discarded with
SLACK_REJECT. -/
def State.writeSlack (s : State) (n i : Nat) (v : Word) : State :=
  let k := s.core n
  let l := k.link i
  let adj := field v 7 0
  if 24 < adj ∨ 8 + k.grant i (min 24 (l.base + adj)) < l.queue.length then s.coreStat n rLAT_STATUS 5
  else (s.regWrite (coreKey n (rLAT_SLACKi + 8 * i)) v).regrant n i

/-- LAT_SLACK_WRITE (R198, R199). -/
def execLatSlackWrite (who : Initiator) (c : CoreId) (d : Dir) (v : Word) (s : State) : Host.Outcome State Fault Refusal :=
  .next (s.gateReg who (coreKey c (rLAT_SLACKi + 8 * dirNo d)) (fun s => s.writeSlack c (dirNo d) v))

/-! ## Arrival (R190, R208, R214) -/

/-- The epoch that an item arriving at a link must fit: of the last marker queued, else of the link. -/
def Link.tailEpoch (l : Link) : Option Nat :=
  l.queue.foldl (fun e x => match x with
    | .marker m _ => some m
    | .data _ => e) l.inEpoch

/-- A lattice protocol error at core n (R208). -/
def State.epochError (s : State) (n : Nat) : State :=
  let s := ((s.count (coreKey n rLAT_ECC) 63 48 1).coreStat n rLAT_STATUS 4).coreRec sevDegraded 6 4 n
  match (s.core n).owner with
  | some t => s.freezeTask n t .recovery
  | none => s

/-- A token discarded in a forced drain is counted; a marker is not (R214). -/
def State.discardToken (s : State) (n k : Nat) : State :=
  if k = 0 then s
  else
    let s := if (s.slotFor n).iso then s.count (coreKey n rLAT_DISCARD) 63 32 k else s.count (coreKey n rLAT_DISCARD) 31 0 k
    s.coreStat n rLAT_STATUS 0

/-- The item of a token. -/
def itemOf (tok : Token) : LatItem := if tok.marker then .marker tok.epoch.toNat tok.poison else .data tok

/-- The token of an item: a marker carries no data. -/
def tokenOf : LatItem → Token
  | .data t => t
  | .marker e p => ⟨0, 0, BitVec.ofNat 3 e, true, p⟩

/-- Wrong bits of a token of 572 bits in the range of its first or second code (R187). -/
def codeErrors (err : BitVec 572) (second : Bool) : Nat :=
  if second then popCount 276 (err.toNat >>> 276 % 2 ^ 276) + popCount 10 (err.toNat >>> 562 % 2 ^ 10)
  else popCount 276 (err.toNat % 2 ^ 276) + popCount 10 (err.toNat >>> 552 % 2 ^ 10)

/-- A token with bits inverted on its way. Of KIND only the low bit has a meaning (DESIGN CHOICE, notes/assumptions/93.md). -/
def tokenHit (t : Token) (err : BitVec 572) : Token :=
  { data := t.data ^^^ err.extractLsb' 0 512, scale := t.scale ^^^ err.extractLsb' 512 32, epoch := t.epoch ^^^ err.extractLsb' 544 3
    marker := t.marker != err.getLsbD 547, poison := t.poison != err.getLsbD 549 }

/-- The bits of an error that lie in the range of one code. -/
def codeRange (second : Bool) : BitVec 572 :=
  if second then BitVec.ofNat 572 ((2 ^ 276 - 1) * 2 ^ 276 + (2 ^ 10 - 1) * 2 ^ 562) else BitVec.ofNat 572 (2 ^ 276 - 1 + (2 ^ 10 - 1) * 2 ^ 552)

/-- What the check of one code finds (R190): nothing wrong, one bit, two bits. Of three bits and more SEC-DED promises nothing: whether they are
found is a free value. -/
def State.codeCheck (s : State) (k : Nat) : Ecc × State :=
  match k with
  | 0 => (.good, s)
  | 1 => (.corrected, s)
  | 2 => (.uncorrectable, s)
  | _ =>
    let (w, s) := s.fresh
    (if bitOf w 0 then .uncorrectable else .good, s)

/-- The check of both codes of an arriving token with wrong bits (R190). Corrected ranges are restored; an uncorrectable token passes on as it
came, with POISON. -/
def State.checkToken (s : State) (n : Nat) (tok : Token) (err : BitVec 572) : Token × State :=
  let (a, s) := s.codeCheck (codeErrors err false)
  let (b, s) := s.codeCheck (codeErrors err true)
  let keep (e : Ecc) (second : Bool) : BitVec 572 := if e = .corrected then 0 else codeRange second
  let t := tokenHit tok (err &&& (keep a false ||| keep b true))
  if a = .uncorrectable ∨ b = .uncorrectable then
    ({ t with poison := true }, ((s.count (coreKey n rLAT_ECC) 47 24 1).coreStat n rLAT_STATUS 3).coreRec sevDegraded 6 3 n)
  else if a = .corrected ∨ b = .corrected then
    let first := decide (s.regField (coreKey n rLAT_ECC) 23 0 = 0)
    let s := (s.count (coreKey n rLAT_ECC) 23 0 1).coreStat n rLAT_STATUS 2
    (t, if first then s.coreRec sevCorrected 6 2 n else s)
  else (t, s)

/-- The item that reaches input i of core c next: the first on the route of the link that faces it, when it is on the last wire. -/
def State.arriving (s : State) (c i : Nat) : Option WireItem :=
  match neighbour c i with
  | none => none
  | some m =>
    let l := linkId m (opposite i)
    match s.path l, s.wires.find? (fun w => decide (w.link = l)) with
    | some p, some w => if w.pos + 2 = p.length then some w else none
    | _, _ => none

/-- An item leaves the wires; what waits in its link's output register may follow. -/
def State.offWire (s : State) (w : WireItem) : State := (({ s with wires := s.wires.erase w } : State).linkMoved w.link).pumpLink w.link

/-- A token enters input queue i of core c, or is a protocol error (R208). -/
def State.enqueue (s : State) (c i : Nat) (tok : Token) : State :=
  let l := (s.core c).link i
  let wrong := match l.tailEpoch with
    | none => false
    | some e => if tok.marker then decide (tok.epoch.toNat ≠ (e + 1) % 8) else decide (tok.epoch.toNat ≠ e)
  if wrong then s.epochError c
  else
    let q := l.queue ++ [itemOf tok]
    let s := s.modCore c (fun k => k.setLink i { l with queue := q, hwm := max l.hwm q.length, received := l.received + b2n (!tok.marker) })
    if tok.marker then s else (s.count (coreKey c (rLAT_CNTi + 8 * i)) 31 0 1).event c (0x0E + i) 1

/-- TOKEN_ARRIVE (R190, R196, R208, R210, R214): the next token on the route reaches input link d of core c, with wrong bits. A full queue holds
it on the wire. A stopped lattice discards it, and an absent core loses it. -/
def execTokenArrive (c : CoreId) (d : Dir) (err : BitVec 572) (_u : Unit) (s : State) : Host.Outcome State Fault Refusal :=
  let i := dirNo d
  match s.arriving c i with
  | none => .next s
  | some w =>
    let k := s.core c
    let tok := tokenOf w.item
    if !s.present c then .next (s.offWire w)
    else if k.stopped then .next ((s.offWire w).discardToken c (if tok.marker then 0 else 1))
    else if (k.link i).depth ≤ (k.link i).queue.length then .next s
    else
      let (x, s) := (s.offWire w).checkToken c tok err
      .next (s.enqueue c i x)

/-- The item that a bypass slot passes on next: the first on a route through it, eastward or westward, when it has reached the slot. -/
def State.bypassing (s : State) (p : Nat) (east : Bool) : Option WireItem :=
  let first (w : WireItem) : Bool := s.wires.find? (fun x => decide (x.link = w.link) && decide (x.pos ≤ w.pos)) == some w
  s.wires.find? (fun w => decide (w.link % 4 = if east then 1 else 3) && first w &&
    decide (((s.path w.link).map (fun q => q.getD (w.pos + 1) 576 == p && decide (w.pos + 2 < q.length))) = some true))

/-- BYPASS_FORWARD (R191, R196, R210): a bypass slot passes the next token on its way, unchanged, once the wire beyond has room. -/
def execBypassForward (p : PhysId) (fromWest : Bool) (_u : Unit) (s : State) : Host.Outcome State Fault Refusal :=
  match s.bypassing p fromWest with
  | none => .next s
  | some w =>
    if s.segFree w.link (w.pos + 1) then
      .next ((({ s with wires := s.wires.replace w { w with pos := w.pos + 1 } } : State).linkMoved w.link).pumpLink w.link)
    else .next s

/-! ## Dispatch (R201, R202, R205, R206) -/

/-- Source codes of a select program: inputs 0 to 3, DRAIN 4. -/
abbrev fromDrain : Nat := 4

/-- The output link still runs the program under which a source sends: it has no switch to make, or still awaits that input's marker
(R206, R207). -/
def Link.takes (l : Link) (src : Nat) : Bool :=
  match l.pend with
  | [] => true
  | p :: _ => p.awaited.contains src

/-- Output j of core n can take a token from a source now: its program names the source, and its output register is free (R202, R210). -/
def State.outReady (s : State) (n j src : Nat) : Bool :=
  let l := (s.core n).link j
  decide (Prog.sel (l.select j) l.outProg = some src) && l.takes src && s.linkPresent n j && l.out.isEmpty

/-- A DATA token leaves on output j: its program moves on, and what its seal lane counts is noted (spec/12 R403). -/
def State.sendOut (s : State) (n j : Nat) (tok : Token) (lane : Option (BitVec 32) × Option (Nat × Nat)) : State :=
  let s := s.modCore n (fun c =>
    let l := c.link j
    c.setLink j { l with outProg := Prog.step (l.select j) l.outProg, sent := l.sent + 1, outSeals := l.outSeals ++ [lane] })
  s.emit n j (.data tok)

/-- The stream that takes tokens of input i at the broadcast port (R65, R202, R206). -/
def Core.portStream (c : Core) (i : Nat) : Option Stream :=
  match (c.streams.filter (fun x => decide (x.source = i + 1))).head? with
  | some x => if x.started ∧ x.tokens.length < 2 ∧ (c.link i).inEpoch = some x.epoch then some x else none
  | none => none

/-- The broadcast port takes a token of input i, the y-th received: the stream's window depends on it (spec/12 R403). -/
def State.toPort (s : State) (n i y : Nat) (x : Stream) (tok : Token) : State :=
  let s := s.modCore n (fun c => { c with streams := c.streams.map (fun z =>
    if z.id = x.id then { z with tokens := z.tokens ++ [tok], poison := z.poison || tok.poison } else z) })
  match x.sealEp with
  | some e =>
    if y ≤ ((s.core n).link i).sc then s
    else s.modWin n e (fun w => { w with latDeps := w.latDeps.filter (fun q => decide (q.1 ≠ i)) ++ [(i, y)] })
  | none => s

/-- The destinations of a dispatch mask: 0 the broadcast port, j + 1 output j. -/
def destList (sel : Nat) : List Nat := (List.range 5).filter (fun k => sel.testBit k)

/-- The head token goes to each destination that is ready; those that are not remain owed (R202). -/
def State.deliver (s : State) (n i y : Nat) (tok : Token) : List Nat → State × List Nat
  | [] => (s, [])
  | k :: ks =>
    let (s, left) :=
      if k = 0 then match (s.core n).portStream i with
        | some x => (s.toPort n i y x tok, [])
        | none => (s, [0])
      else if s.outReady n (k - 1) i then (s.sendOut n (k - 1) tok (none, some (i, y)), [])
      else (s, [k])
    let (s, more) := s.deliver n i y tok ks
    (s, left ++ more)

/-- The head of input queue i goes where the dispatch program sends it. -/
def State.dispatchIn (s : State) (n i : Nat) : State :=
  let l := (s.core n).link i
  match l.queue with
  | .data tok :: rest =>
    match (match l.owed with
      | some o => some o
      | none => (Prog.sel (l.dispatch i) l.inProg).map destList) with
    | none => s
    | some dests =>
      let y := l.received + 1 - (l.queue.countP (fun x => match x with
        | .data _ => true
        | .marker _ _ => false))
      let (s, left) := s.deliver n i y tok dests
      s.modCore n (fun c =>
        let l := c.link i
        if left.isEmpty then c.setLink i { l with queue := rest, owed := none, inProg := Prog.step (l.dispatch i) l.inProg }
        else c.setLink i { l with owed := some left })
  | _ => s

/-- A drain that sends to the same output has still to round a token of the same stream that comes earlier in the order of R189. -/
def Core.owesEarlier (c : Core) (k : DrainTok) : Bool :=
  (List.range 4).any (fun d =>
    let x := c.drain d
    let before (id : RowId) (grp : Nat) : Bool := decide (id.stream = k.order / 2 ^ 37) && decide (tokenOrder id d grp 0 < k.order)
    decide (x.set.outKind = 1) && decide (x.set.link = k.link + 1) &&
      (x.halfs.any (fun h => h.final && before h.id 0) || x.rounds.any (fun r => before r.id (r.col / 64))))

/-- The drain token first in the order of R189 for an output that takes from DRAIN now. -/
def State.nextDrainTok (s : State) (n : Nat) : Option DrainTok :=
  ((s.core n).drainToks.filter (fun k => s.outReady n k.link fromDrain && !(s.core n).owesEarlier k &&
    !(s.core n).drainToks.any (fun z => decide (z.link = k.link) && decide (z.order < k.order)))).head?

/-- A drain token enters its output link with the core's epoch (R205); its window's tokens are on that link's lane (spec/12 R404). -/
def State.dispatchDrain (s : State) (n : Nat) : State :=
  match s.nextDrainTok n with
  | none => s
  | some k =>
    let c := s.core n
    let s := s.setCore n { c with drainToks := c.drainToks.erase k }
    let s := s.sendOut n k.link { k.token with epoch := BitVec.ofNat 3 c.epoch } (k.sealEp, none)
    match k.sealEp with
    | some e => s.modWin n e (fun w => if w.links.contains k.link then w else { w with links := w.links ++ [k.link] })
    | none => s

/-- TOKEN_DISPATCH (R201, R202, R205): the head of an input queue, or of the drain output, is taken by its destinations. -/
def execTokenDispatch (c : CoreId) (src : Option Dir) (s : State) : Host.Outcome State Fault Refusal :=
  if (s.core c).stopped then .next s
  else match src with
    | some d => .next (s.dispatchIn c (dirNo d))
    | none => .next (s.dispatchDrain c)

/-! ## Epoch switches (R206, R207) -/

/-- Input link i passes to the core's epoch: the program of the active configuration, with its slack. -/
def State.switchIn (s : State) (n i : Nat) : State :=
  let c := s.core n
  let l := c.link i
  let b := c.activeSched
  let l := { l with inEpoch := some c.epoch, inSched := b, base := (b.map (fun x => leAt x (36 + i) 1)).getD 0 }
  (s.setCore n (c.setLink i { l with inProg := Prog.start (l.dispatch i) })).regrant n i

/-- Output link j passes to a schedule. -/
def State.switchOutTo (s : State) (n j : Nat) (b : Option Bytes) : State :=
  s.modCore n (fun c =>
    let l := { c.link j with outSched := b }
    c.setLink j { l with outProg := Prog.start (l.select j) })

/-- Output link j passes to the active configuration, with no switch left to make. -/
def State.switchOut (s : State) (n j : Nat) : State :=
  (s.modCore n (fun c => c.setLink j { c.link j with pend := [] })).switchOutTo n j (s.core n).activeSched

/-- The marker of input i reaches an output link: the first switch that awaits it awaits it no more (R207). -/
def gotMarker (i : Nat) : List OutSwitch → List OutSwitch
  | [] => []
  | p :: ps => if p.awaited.contains i then { p with awaited := p.awaited.filter (fun x => decide (x ≠ i)) } :: ps else p :: gotMarker i ps

/-- INPUT_LINK_SWITCH (R206): the marker at the head of an input goes to the outputs of its old program once the core's epoch has
advanced. -/
def execInputLinkSwitch (c : CoreId) (d : Dir) (s : State) : Host.Outcome State Fault Refusal :=
  let i := dirNo d
  let k := s.core c
  let l := k.link i
  match l.queue with
  | .marker e _ :: rest =>
    if k.stopped ∨ e ≠ k.epoch ∨ l.inEpoch = some k.epoch then .next s
    else
      let outs := dispatchOuts (l.dispatch i)
      let k := outs.foldl (fun k j => k.setLink j { k.link j with pend := gotMarker i (k.link j).pend }) k
      let k := k.setLink i { k.link i with queue := rest }
      .next ((s.setCore c k).switchIn c i)
  | _ => .next s

/-- OUTPUT_LINK_SWITCH (R207): after the last awaited marker the output sends one marker downstream, once its output register is free, and
starts its new program. -/
def execOutputLinkSwitch (c : CoreId) (d : Dir) (s : State) : Host.Outcome State Fault Refusal :=
  let j := dirNo d
  let k := s.core c
  let l := k.link j
  match l.pend with
  | [] => .next s
  | p :: ps =>
    if k.stopped ∨ !p.awaited.isEmpty ∨ (p.send ∧ !l.out.isEmpty) then .next s
    else
      let s := s.setCore c (k.setLink j { l with pend := ps })
      .next ((if p.send then s.emit c j (.marker p.epoch false) else s).switchOutTo c j p.sched)

/-- Every input link has completed the last switch (R145). -/
def Core.inputsSwitched (c : Core) : Bool := (List.range 4).all (fun i => decide ((c.link i).inEpoch = some c.epoch))

/-- What CFGSW waits for first: streams and drain outputs of the task on lattice links (R145). -/
def Core.latticeOutputs (c : Core) (t : Nat) : Bool :=
  (c.taskStreams t).any (fun x => decide (1 ≤ x.source) && decide (x.source ≤ 4)) || !c.drainToks.isEmpty ||
  (List.range 4).any (fun d => decide ((c.drain d).set.outKind = 1) && c.drainBusy t d)

/-- The schedule that output link j runs once the switches before have been made. -/
def Link.lastSched (l : Link) : Option Bytes := match l.pend.getLast? with
  | some p => p.sched
  | none => l.outSched

/-- Output link j of core n is to pass to the core's epoch (R207): it awaits a marker of each input that its program names; unmarked in the old
configuration, it sends none and switches at once. -/
def State.switchLater (s : State) (n j : Nat) : State :=
  let c := s.core n
  let l := c.link j
  let old := l.lastSched
  let add (p : OutSwitch) : State := s.setCore n (c.setLink j { l with pend := l.pend ++ [p] })
  if marks old (4 + j) then add ⟨selectIns ((old.map (fun b => schedProg b (4 + j))).getD []), true, c.epoch, c.activeSched⟩
  else if l.pend.isEmpty then s.switchOut n j
  else add ⟨[], false, c.epoch, c.activeSched⟩

/-- Steps 3 and 4 of CFGSW (R145, R206, R207). -/
def State.switchCore (s : State) (n slot : Nat) : State :=
  let s := s.modCore n (fun c => { c with epoch := (c.epoch + 1) % 8, leaving := c.active, active := slot })
  let s := (List.range 4).foldl (fun s i => if marks ((s.core n).link i).inSched i then s else s.switchIn n i) s
  (List.range 4).foldl (fun s j => s.switchLater n j) s

/-- A link has still to make the last switch. -/
def Core.switchOpen (c : Core) : Bool := !c.inputsSwitched || (List.range 4).any (fun j => !(c.link j).pend.isEmpty)

/-- The task owns configuration slot i. -/
def Core.ownsSlot (c : Core) (t i : Nat) : Bool := decide (c.owner = some t) && (c.task t).img.cfgSlots.testBit i

/-- CFGSW (R145, R146). While the forced drain keeps markers from leaving it waits (DEDUCED from R214). -/
def tryCfgsw (n t : Nat) (f : InsnBits) (s : State) : Try :=
  let i := fImm f % 8
  let c := s.core n
  if !c.ownsSlot t i then .stop (s.endTask n t endCfgSlot 0)
  else match c.cfgSlot i with
    | none => .stop (s.endTask n t endCfgSlot 0)
    | some x =>
      if c.stopped ∨ c.latticeOutputs t ∨ !c.inputsSwitched then .wait s 0 0 0 false
      else .jump (s.switchCore n i) x.entry

/-- A configuration entry that LEN, ENTRY and the reserved fields allow (R144, R146). -/
def cfgEntryOk (h : Bytes) (codeLen : Nat) : Bool :=
  let len := leAt h 2 2
  decide (64 ≤ len) && decide (len ≤ 4032) && decide (len % 64 = 0) && decide (leAt h 0 2 < codeLen) && zeroFrom h 4 60

/-- CFGLD (R146, R203): slot IMM loaded from the entry at a[A]; waits while the slot is active, or was left by a switch that links have still to
make. -/
def tryCfgld (n t : Nat) (f : InsnBits) (s : State) : Try :=
  let i := fImm f % 8
  let k := s.task n t
  let addr := k.areg (fA f)
  let c := s.core n
  if !c.ownsSlot t i then .stop (s.endTask n t endCfgSlot 0)
  else if c.active = i ∨ (c.leaving = i ∧ c.switchOpen) then .wait s 0 0 0 false
  else (s.taskRead n t addr 64 .wide).try_ s n t addr (fun s h =>
    if !cfgEntryOk h k.img.codeLen then .stop (s.endTask n t endCfgSlot 0)
    else (s.taskRead n t (addr + 64) (leAt h 2 2) .wide).try_ s n t addr (fun s b =>
      if s.schedOk n b then .done (s.modCore n (fun c => { c with cfg := tset (fun _ => none) c.cfg i (some ⟨leAt h 0 2, b⟩) }))
      else .stop ((s.coreStat n rLAT_STATUS 7).endTask n t endCfgSlot 0)))

/-- EPOCH: the epoch in bits 2:0, the active slot in bits 6:4. -/
def tryEpoch (n t : Nat) (f : InsnBits) (s : State) : Try :=
  let c := s.core n
  .done (s.modTask n t (fun k => k.setG (fD f) (BitVec.ofNat 64 (c.epoch + 16 * c.active))))

/-- CFGSW. -/
def execCfgsw (c : CoreId) (t : TaskSlot) (f : InsnBits) (s : State) : Host.Outcome State Fault Refusal :=
  .next (s.issue c t 0x80 f (fun _ _ => tryCfgsw c t f))
/-- CFGLD. -/
def execCfgld (c : CoreId) (t : TaskSlot) (f : InsnBits) (s : State) : Host.Outcome State Fault Refusal :=
  .next (s.issue c t 0x81 f (fun _ _ => tryCfgld c t f))
/-- EPOCH. -/
def execEpoch (c : CoreId) (t : TaskSlot) (f : InsnBits) (s : State) : Host.Outcome State Fault Refusal :=
  .next (s.issue c t 0x82 f (fun _ _ => tryEpoch c t f))

/-! ## Stalls and the forced drain (R211 to R215) -/

/-- A queue or an output register of the core's lattice holds a token. -/
def State.latticeHolds (s : State) (n : Nat) : Bool :=
  (List.range 4).any (fun i => !((s.core n).link i).queue.isEmpty || !((s.core n).link i).out.isEmpty)

/-- LATTICE_STALL (R211): no token has moved for LIMIT_US. -/
def execLatticeStall (c : CoreId) (s : State) : Host.Outcome State Fault Refusal :=
  let limit := s.regField (coreKey c rLAT_STALLCFG) 31 0
  if limit = 0 ∨ !s.latticeHolds c ∨ s.ns < (s.core c).moved + limit * 1000 then .next s
  else
    let full := ((List.range 4).map (fun i =>
      let l := (s.core c).link i
      if l.depth ≤ l.queue.length then 2 ^ i else 0)).sum
    let s := s.logOnce (coreKey c rLAT_STALLLOG) 63 (BitVec.ofNat 64 (full * 2 ^ 32 + s.ns / 1024 % 2 ^ 32))
    let s := s.coreStat c rLAT_STATUS 1
    .next (s.record ⟨sevInfo, 6, 1, 1, c, 0, 0, s.reg (coreKey c rLAT_STALLLOG), 0⟩)

/-- DATA tokens in a queue. -/
def dataCount (q : List LatItem) : Nat := q.countP (fun x => match x with
  | .data _ => true
  | .marker _ _ => false)

/-- The forced drain starts (R214): queues and output registers are emptied, local sources stop, a switch in progress is abandoned, and open windows,
check tiles and weight banks go (R215, spec/02 R69, R94). -/
def State.stopLattice (s : State) (n : Nat) : State :=
  let c := s.core n
  let k := ((List.range 4).map (fun i => dataCount ((c.link i).queue ++ (c.link i).out))).sum
  let c := (List.range 4).foldl (fun (c : Core) i => c.setLink i { c.link i with queue := [], owed := none, pend := [], out := [] }) c
  (s.setCore n { c.dropWindows with stopped := true, drained := false, drainToks := [] }).discardToken n k

/-- LAT_STOP_SET (R214): a write that sets LAT_CTRL.STOP. -/
def execLatStopSet (who : Initiator) (c : CoreId) (s : State) : Host.Outcome State Fault Refusal :=
  let key := coreKey c rLAT_CTRL
  .next (s.gateReg who key (fun s => if (s.core c).stopped then s else (s.setReg key 1).stopLattice c))

/-- LATTICE_DRAINED (R214): the stopped lattice has held no token for 16 stages. -/
def execLatticeDrained (c : CoreId) (s : State) : Host.Outcome State Fault Refusal :=
  if (s.core c).stopped ∧ !s.latticeHolds c then .next (s.modCore c (fun k => { k with drained := true })) else .next s

/-- LAT_STOP_CLEAR (R215): a write that clears STOP leaves every link idle with no epoch. -/
def execLatStopClear (who : Initiator) (c : CoreId) (s : State) : Host.Outcome State Fault Refusal :=
  let key := coreKey c rLAT_CTRL
  .next (s.gateReg who key (fun s =>
    if (s.core c).stopped then (s.setReg key 0).modCore c (fun k => { k with stopped := false, drained := false, links := [] })
    else s))

/-! ## Seal lanes (spec/12 R403, R404) -/

/-- A token that output link j sent is sealed. -/
def State.laneSealed (s : State) (n : Nat) (x : Option (BitVec 32) × Option (Nat × Nat)) : Bool :=
  (match x.1 with
    | some e => s.windowSealed n e
    | none => true) &&
  (match x.2 with
    | some (i, y) => decide (y ≤ ((s.core n).link i).sc)
    | none => true)

/-- SC of output link j: the longest sealed prefix of the tokens it sent; a link that raised RETRACT goes no further. -/
def State.laneCount (s : State) (n j : Nat) : Nat :=
  let l := (s.core n).link j
  if l.retract then l.outSc else l.outSc + (l.outSeals.takeWhile (fun x => s.laneSealed n x)).length

/-- The sealed tokens of output link j leave its list. -/
def State.advanceLane (s : State) (n j : Nat) : State :=
  let l := (s.core n).link j
  let k := s.laneCount n j
  s.modCore n (fun c => c.setLink j { l with outSc := k, outSeals := l.outSeals.drop (k - l.outSc) })

/-- SEAL_LANE_UPDATE (R403): SC of input link d advances, to no more than its near end has sealed; windows that waited for it may
seal. -/
def execSealLaneUpdate (c : CoreId) (d : Dir) (sc : Word) (s : State) : Host.Outcome State Fault Refusal :=
  let i := dirNo d
  match neighbour c i with
  | none => .next s
  | some m =>
    let s := s.advanceLane m (opposite i)
    let l := (s.core c).link i
    if sc.toNat ≤ l.sc ∨ ((s.core m).link (opposite i)).outSc < sc.toNat then .next s
    else
      let s := s.modCore c (fun k => k.setLink i { k.link i with sc := sc.toNat })
      let s := s.modSeal c (fun u => { u with wins := u.wins.map (fun w =>
        { w with latDeps := w.latDeps.filter (fun q => !(decide (q.1 = i) && decide (q.2 ≤ sc.toNat))) }) })
      .next (s.sealReady c 257)

/-- A window of core n that took tokens of input i beyond its SC. -/
def SealWin.takenFrom (w : SealWin) (i : Nat) : Bool := decide (w.st = .opened) && w.latDeps.any (fun q => decide (q.1 = i))

/-- Every OPEN window that took tokens of input i beyond SC retracts. -/
def State.retractLane (s : State) (n i : Nat) : Nat → State
  | 0 => s
  | fuel + 1 => match (s.sealUnit n).wins.find? (fun w => w.takenFrom i) with
    | some w => (s.retractWin n w .lattice).retractLane n i fuel
    | none => s

/-- LANE_RETRACT (R404): RETRACT arrives on the seal lane of input link d. -/
def execLaneRetract (c : CoreId) (d : Dir) (s : State) : Host.Outcome State Fault Refusal :=
  let i := dirNo d
  match neighbour c i with
  | none => .next s
  | some m =>
    if !((s.core m).link (opposite i)).retract then .next s
    else
      let s := s.retractLane c i 257
      let s := s.modCore c (fun k => (List.range 4).foldl (fun k j =>
        if (selectIns ((k.link j).select j)).contains i then k.setLink j { k.link j with retract := true } else k) k)
      let s := s.coreStat c rSEAL_STATUS 11
      .next (match (s.core c).owner with
        | some t => s.freezeTask c t .recovery
        | none => s)

end Sys2Proof.Machine
end

