-- ==== Sys2Proof/Machine/BeaconNet.lean ====
section
/-! DEFINITION. The beacon net: BAR at the tap, joins and releases at the root, group registers (spec/08 R271 to R275). -/

namespace Sys2Proof.Machine

/-- Key of a group's register. -/
def groupKey (r g : Nat) : Nat := r + 0x80 * g
/-- BCN_GCFGg. -/
def State.gcfg (s : State) (g : Nat) : Word := s.reg (groupKey rBCN_GCFGg g)
/-- OP of a group (R272). -/
def State.groupOp (s : State) (g : Nat) : Nat := field (s.gcfg g) 2 1
/-- Logical core n is a member of group g. -/
def State.isMember (s : State) (g n : Nat) : Bool := bitOf (s.reg (groupKey rBCN_GMASKg_j g + 8 * (n / 64))) (n % 64)
/-- MEMBERS of a group. -/
def State.members (s : State) (g : Nat) : Nat := (List.range 8).map (fun j => popCount 64 (s.reg (groupKey rBCN_GMASKg_j g + 8 * j)).toNat) |>.sum

/-- Combine of two values (R272). -/
def combine (op : Nat) (a b : Word) : Word :=
  match op with
  | 1 => a + b
  | 2 => if a.toInt < b.toInt then b else a
  | 3 => if b.toInt < a.toInt then b else a
  | _ => 0

/-- Identity of an OP (R272). -/
def identityOf (op : Nat) : Word :=
  match op with
  | 2 => BitVec.ofNat 64 (2 ^ 63)
  | 3 => BitVec.ofNat 64 (2 ^ 63 - 1)
  | _ => 0

/-- BAR (R272, R275): the join waits at the tap for the release; a second BAR waits for the tap. A BAR issued again after a migration finds
its own join there. -/
def tryBar (n t : Nat) (f : InsnBits) (stage : Nat) (s : State) : Try :=
  let g := fImm f % 256
  let c := s.core n
  match c.tap with
  | none => .wait (s.setCore n { c with tap := some ⟨t, g, fX f % 4, (s.task n t).greg (fB f), false, false, none⟩ }) 1 0 g false
  | some x =>
    if x.slot = t then
      match x.released with
      | some v => .done (((s.setCore n { c with tap := none }).count (coreKey n rBCN_TAPCNT) 63 32 1).modTask n t (fun k => k.setG (fD f) v))
      | none => .wait s 1 0 g false
    else .wait s stage 0 g false

/-- BAR. -/
def execBar (c : CoreId) (t : TaskSlot) (f : InsnBits) (s : State) : Host.Outcome State Fault Refusal :=
  .next (s.issue c t 0x70 f (fun stage _ => tryBar c t f stage))

/-- A group moves to RELEASING once every member has joined (R274). -/
def State.gathered (s : State) (g : Nat) (b : Beacon) : Beacon :=
  if b.joined.isEmpty then { b with phase := .idle }
  else if s.members g ≤ b.joined.length then { b with phase := .releasing } else { b with phase := .gathering }

/-- A stray join (R273). -/
def State.strayJoin (s : State) (n : Nat) : State :=
  ((s.count (coreKey n rBCN_TAPCNT) 31 0 1).orReg rBCN_STATUS 1).coreRec sevInfo 10 0 n

/-- BEACON_JOIN (R273, R274): the join of core c reaches the root of group g. -/
def execBeaconJoin (g : GroupId) (c : CoreId) (s : State) : Host.Outcome State Fault Refusal :=
  let k := s.core c
  match k.tap with
  | none => .next s
  | some x =>
    let b := s.beacon g
    if x.group ≠ g.val ∨ x.joined ∨ b.phase = .fault then .next s
    else
      let s := s.setCore c { k with tap := some { x with joined := true } }
      let op := s.groupOp g
      if !s.isMember g c ∨ !bitOf (s.gcfg g) 0 ∨ (x.op ≠ op ∧ x.op ≠ 0) ∨
          (b.phase ≠ .releasing ∧ b.joined.any (fun j => decide (j.1 = c.val))) then
        .next ((s.setCore c { k with tap := some { x with joined := true, stray := true } }).strayJoin c)
      else
        let v := if x.op = 0 then identityOf op else x.value
        if b.phase = .releasing then .next (s.setBeacon g { b with held := b.held ++ [(c.val, v)] })
        else .next (s.setBeacon g (s.gathered g { b with joined := b.joined ++ [(c.val, v)] }))

/-- The release of group g reaches the tap of core n. -/
def State.releaseTap (s : State) (g : Nat) (v : Word) (n : Nat) : State :=
  s.modCore n (fun c => match c.tap with
    | some x => if x.group = g ∧ x.joined ∧ !x.stray then { c with tap := some { x with released := some v } } else c
    | none => c)

/-- BEACON_RELEASE (R274): the combined value is delivered to every member, and the joins held count for the next round. -/
def execBeaconRelease (g : GroupId) (s : State) : Host.Outcome State Fault Refusal :=
  let b := s.beacon g
  if b.phase ≠ .releasing then .next s
  else
    let op := s.groupOp g
    let v := b.joined.foldl (fun a j => combine op a j.2) (identityOf op)
    let s := b.joined.foldl (fun s j => if b.held.any (fun h => decide (h.1 = j.1)) then s else s.releaseTap g v j.1) s
    let s := s.setReg (groupKey rBCN_GVALUEg g) v
    .next (s.setBeacon g (s.gathered g ⟨.idle, (b.round + 1) % 2 ^ 32, b.held, []⟩))

/-- BEACON_FAULT (R274): an uncorrectable beacon word. -/
def execBeaconFault (g : GroupId) (s : State) : Host.Outcome State Fault Refusal :=
  let b := s.beacon g
  if b.phase = .fault then .next s
  else .next (((s.setBeacon g { b with phase := .fault }).orReg rBCN_STATUS 2).record ⟨sevDegraded, 10, 1, 0, 0, 0, 0, 0, 0⟩)

/-- The taps that wait in group g send their join again. -/
def State.rejoin (s : State) (g : Nat) : State :=
  (List.range 512).foldl (fun s n => match (s.core n).tap with
    | some x => if x.group = g ∧ x.released.isNone then s.modCore n (fun c => { c with tap := some { x with joined := false, stray := false } }) else s
    | none => s) s

/-- BEACON_CLEAR (R274): CLEAR in BCN_GCTLg acts in FAULT only. -/
def execBeaconClear (who : Initiator) (g : GroupId) (v : Word) (s : State) : Host.Outcome State Fault Refusal :=
  .next (s.gateReg who (groupKey rBCN_GCTLg g) (fun s =>
    let b := s.beacon g
    if bitOf v 0 ∧ b.phase = .fault then (s.setBeacon g ⟨.idle, b.round, [], []⟩).rejoin g else s))

/-- A die scope holds every member of a mask (R271). -/
def State.scopeOk (s : State) (g : Nat) : Bool :=
  let sc := field (s.gcfg g) 6 4
  decide (sc = 0) || (decide (sc ≤ 4) && (List.range 8).all (fun j =>
    decide (j / 2 = sc - 1) || decide (s.reg (groupKey rBCN_GMASKg_j g + 8 * j) = 0)))

/-- BCN_GCFG_WRITE (R271, BCN_GCFGg, BCN_GMASKg_j): `which` 0 the configuration, 1 + j mask word j. -/
def execBcnGcfgWrite (who : Initiator) (g : GroupId) (which : Fin 9) (v : Word) (s : State) : Host.Outcome State Fault Refusal :=
  let key := if which.val = 0 then groupKey rBCN_GCFGg g else groupKey rBCN_GMASKg_j g + 8 * (which.val - 1)
  .next (s.gateReg who key (fun s =>
    let b := s.beacon g
    let s' := s.regWrite key v
    if (b.phase = .idle ∨ b.phase = .fault) ∧ s'.scopeOk g then s' else s.orReg rBCN_STATUS 4))

/-- A core that has become absent leaves every group (R275). -/
def State.beaconAbsent (s : State) (n : Nat) : State :=
  let gs := (List.range 256).filter (fun g => s.isMember g n)
  let s := gs.foldl (fun s g =>
    let key := groupKey rBCN_GMASKg_j g + 8 * (n / 64)
    let s := s.setReg key (setBit (s.reg key) (n % 64) false)
    let b := s.beacon g
    let b := { b with joined := b.joined.filter (fun j => decide (j.1 ≠ n)), held := b.held.filter (fun j => decide (j.1 ≠ n)) }
    s.setBeacon g (if b.phase = .gathering then s.gathered g b else b)) s
  if gs.isEmpty then s else s.orReg rBCN_STATUS 8

end Sys2Proof.Machine
end

