-- ==== Sys2Proof/Machine/Elementary.lean ====
section
/-! DEFINITION. The functions that the spec only bounds: their exact values, carried to 512 fraction bits, and the choice of an
FP32 value within the bound (spec/02 R76, R77, spec/03 R95, R106, R117; notes/assumptions/3.md). Fixed-point numbers are integers
in units of 2^-512. -/

namespace Sys2Proof.Machine

/-- Fraction bits. -/
def fxBits : Nat := 512
/-- One. -/
def fxOne : Int := 2 ^ fxBits
/-- A product. -/
def fxMul (a b : Int) : Int := a * b / fxOne
/-- A quotient. -/
def fxDiv (a b : Int) : Int := a * fxOne / b
/-- A square root. -/
def fxSqrt (a : Int) : Int := isqrt (a.toNat * 2 ^ fxBits)

/-- A finite value in units of 2^-512; an FP32 value is exact. -/
def fxOf : Num → Int
  | .fin n m e =>
    let i : Int := if n then -(m : Int) else m
    if 0 ≤ e + fxBits then i * 2 ^ (e + fxBits).toNat else i / 2 ^ (-(e + fxBits)).toNat
  | _ => 0

/-- A fixed-point number times 2^k as a value. -/
def fxNum (v : Int) (k : Int) : Num := numOfInt v (k - fxBits)

/-- A value held between −b and b. -/
def fxClamp (b v : Int) : Int := max (-b) (min b v)

/-- Σ of 2^512 / (q^(2i+1) × (2i+1)), with alternating signs where alt is set: the inverse tangent of 1/q, or its hyperbolic form.
`t` is 2^512 / q^(2i+1). -/
def fxAtanFrom (alt : Bool) (q : Int) : Nat → Nat → Int → Int
  | 0, _, _ => 0
  | n + 1, i, t =>
    (if alt ∧ i % 2 = 1 then -(t / (2 * i + 1)) else t / (2 * i + 1)) + fxAtanFrom alt q n (i + 1) (t / (q * q))

/-- ln 2 = 2 artanh (1/3). -/
def fxLn2 : Int := 2 * fxAtanFrom false 3 170 0 (fxOne / 3)
/-- π = 16 arctan (1/5) − 4 arctan (1/239). -/
def fxPi : Int := 16 * fxAtanFrom true 5 120 0 (fxOne / 5) - 4 * fxAtanFrom true 239 40 0 (fxOne / 239)

/-- Σ of r^i / i! from the term t = r^i / i! on. -/
def fxExpFrom (r : Int) : Nat → Nat → Int → Int
  | 0, _, _ => 0
  | n + 1, i, t => t + fxExpFrom r n (i + 1) (fxMul t r / (i + 1))

/-- e^y as a fixed-point number and a power of two: 1 ≤ the number < 2. -/
def fxExp (y : Int) : Int × Int := (fxExpFrom (y % fxLn2) 120 0 fxOne, y / fxLn2)

/-- e^y in units of 2^-512, for y below 2^12; what is below the last unit is dropped. -/
def fxExpAt (y : Int) : Int :=
  let (v, k) := fxExp y
  if 0 ≤ k then v * 2 ^ k.toNat else v / 2 ^ (-k).toNat

/-- Σ of 2 z^(2i+1) / (2i+1) from t = z^(2i+1) on. -/
def fxLogFrom (zz : Int) : Nat → Nat → Int → Int
  | 0, _, _ => 0
  | n + 1, i, t => 2 * t / (2 * i + 1) + fxLogFrom zz n (i + 1) (fxMul t zz)

/-- ln of a positive value m × 2^e. -/
def fxLn (m : Nat) (e : Int) : Int :=
  let l := Nat.log2 m
  let x : Int := (m : Int) * 2 ^ (fxBits - l)
  let z := fxDiv (x - fxOne) (x + fxOne)
  fxLogFrom (fxMul z z) 170 0 z + (e + l) * fxLn2

/-- The logistic function σ. -/
def fxSigma (x : Int) : Int :=
  let u := fxExpAt (-(min (x.natAbs : Int) (1024 * fxOne)))
  if 0 ≤ x then fxDiv fxOne (fxOne + u) else fxDiv u (fxOne + u)

/-- σ (1 − σ). -/
def fxSlope (x : Int) : Int :=
  let u := fxExpAt (-(min (x.natAbs : Int) (1024 * fxOne)))
  fxDiv u (fxMul (fxOne + u) (fxOne + u))

/-- The standard normal density φ. -/
def fxPhi (z : Int) : Int :=
  if 64 * fxOne ≤ z.natAbs then 0 else fxDiv (fxExpAt (-(fxMul z z / 2))) (fxSqrt (2 * fxPi))

/-- Σ of z^(2i+1) / (1 × 3 × … × (2i+1)) from the term t on. -/
def fxErfFrom (zz : Int) : Nat → Nat → Int → Int
  | 0, _, _ => 0
  | n + 1, i, t => t + fxErfFrom zz n (i + 1) (fxMul t zz / (2 * i + 3))

/-- The standard normal distribution Φ; beyond 16 it is 0 or 1 to 180 bits. -/
def fxCdf (z : Int) : Int :=
  let a : Int := z.natAbs
  let h := if 16 * fxOne ≤ a then fxOne / 2 else fxMul (fxPhi a) (fxErfFrom (fxMul a a) 1000 0 a)
  if 0 ≤ z then fxOne / 2 + h else fxOne / 2 - h

/-- Twice the inner argument of GELU_TANH, 2 √(2/π) (x + 0.044715 x³). -/
def fxGeluArg (x : Int) : Int :=
  let x := fxClamp (1024 * fxOne) x
  2 * fxMul (fxSqrt (fxDiv (2 * fxOne) fxPi)) (x + fxMul (fxMul x x) x * 44715 / 1000000)

/-- Its derivative, 2 √(2/π) (1 + 3 × 0.044715 x²). -/
def fxGeluSlope (x : Int) : Int :=
  let x := fxClamp (1024 * fxOne) x
  2 * fxMul (fxSqrt (fxDiv (2 * fxOne) fxPi)) (fxOne + fxMul x x * 134145 / 1000000)

/-- The functions 0x3 to 0x7 of R76 at a fixed-point input. -/
def fxFunc (fn : Nat) (x : Int) : Int :=
  match fn with
  | 3 => fxMul x (fxCdf x)
  | 4 => fxMul x (fxSigma (fxGeluArg x))
  | 5 => fxMul x (fxSigma x)
  | 6 => fxSigma x
  | _ => 2 * fxSigma (2 * x) - fxOne

/-- The derivatives of codes 0xB to 0xF of R76 at z. -/
def fxDeriv (fn : Nat) (z : Int) : Int :=
  match fn with
  | 11 => fxCdf z + fxMul z (fxPhi z)
  | 12 => let a := fxGeluArg z; fxSigma a + fxMul (fxMul (fxClamp (1024 * fxOne) z) (fxSlope a)) (fxGeluSlope z)
  | 13 => fxSigma z + fxMul (fxClamp (1024 * fxOne) z) (fxSlope z)
  | 14 => fxSlope z
  | _ => 4 * fxSlope (2 * z)

/-- 2^d of a value; an exponent beyond every FP32 number is held where the result overflows or vanishes alike. -/
def exp2Num (d : Num) : Num :=
  let y := fxClamp (1024 * fxOne) (fxOf d)
  fxNum (fxExpFrom (fxMul (y % fxOne) fxLn2) 120 0 fxOne) (y / fxOne)

/-- e^d of a value. -/
def expNum (d : Num) : Num :=
  let (v, k) := fxExp (fxClamp (1024 * fxOne) (fxOf d))
  fxNum v k

/-- ln of a positive finite value. -/
def lnNum (m : Nat) (e : Int) : Num := fxNum (fxLn m e) 0
/-- log2 of a positive finite value. -/
def log2Num (m : Nat) (e : Int) : Num := fxNum (fxDiv (fxLn m e) fxLn2) 0

/-! ## Values within a bound -/

/-- Exponent of one unit in the last place of FP32 at a finite value. -/
def ulpExp (m : Nat) (e : Int) : Int := if m = 0 then -149 else max (e + (Nat.log2 m : Int) - 23) (-149)

/-- A finite value lies within k units in the last place of FP32 of an exact one. -/
def within (k : Nat) (p x : Num) : Bool :=
  match p, x with
  | .fin n a d, .fin h m e =>
    let u := ulpExp m e
    let l := min (min d e) u
    decide ((intAt n a d l - intAt h m e l).natAbs ≤ k * 2 ^ (u - l).toNat)
  | _, _ => false

/-- The FP32 value of a function that the spec bounds: what the silicon gives, pick, as far as it keeps the bound of k units in the
last place of the exact value x; else x correctly rounded. Every value that keeps the bound is possible. -/
def bounded (k : Nat) (pick : BitVec 32) (x : Num) : Num :=
  let p := decodeF32 pick.toNat
  if within k p x then p else (r32 x).1

/-- 2^d of an FP32 value: +0 at −∞, else within one unit in the last place by a fixed mapping (R95, R96). -/
def exp2F32 (d : Num) : Num :=
  match d with
  | .inf true => zeroNum
  | _ => bounded 1 (Config.exp2 (BitVec.ofNat 32 (rne32 d))) (exp2Num d)

/-- λ = ln 2 × (μ + log2 SUM) within two units in the last place, by a fixed mapping (R106); the sum of a row that is not EMPTY is
positive. A sum that is not is free. -/
def lseF32 (mu : Int) (sum : Num) : Num :=
  let pick := Config.lse mu (BitVec.ofNat 32 (rne32 sum))
  match sum with
  | .fin false m e => if m = 0 then decodeF32 pick.toNat else bounded 2 pick (fxNum (mu * fxLn2 + fxLn m e) 0)
  | _ => decodeF32 pick.toNat

/-- Codes 0x3 to 0x7 at a finite FP32 value, within two units in the last place by a fixed mapping (R77). -/
def funcF32 (fn : Nat) (x : Num) : Num :=
  bounded 2 (Config.func fn (BitVec.ofNat 32 (rne32 x))) (fxNum (fxFunc fn (fxOf x)) 0)

/-- The derivative of a code 0xB to 0xF at a finite z is negative. It is never zero; where codes 0xB to 0xD vanish to 512 bits, far
below zero, they come from below. -/
def derivNeg (fn : Nat) (z : Num) : Bool := decide (fn ≤ 13 ∧ fxDeriv fn (fxOf z) ≤ 0)

/-- c = τ × log2(e) as the plan sets it for a soft maximum of τ·x, in FP32 by RNE (R95; DEDUCED, notes/assumptions/26.md). -/
def scoreFactor (tau : Num) : Num := (r32 (Num.mul tau (fxNum (fxDiv fxOne fxLn2) 0))).1

/-- Codes 0xB to 0xF at finite FP32 g and z, within two units in the last place by a fixed mapping (R77). -/
def derivF32 (fn : Nat) (g z : Num) : Num :=
  bounded 2 (Config.dfunc fn (BitVec.ofNat 32 (rne32 g)) (BitVec.ofNat 32 (rne32 z))) (Num.mul g (fxNum (fxDeriv fn (fxOf z)) 0))

/-- The functions exp2, log2, exp and log of the vector unit (0 to 3) on an FP32 value, within two units in the last place by a
fixed mapping, NaN for NaN (R117). The spec states no logarithm of what is not positive and finite, and no exponential of an
infinity: these are free (notes/assumptions/3.md). -/
def vfuncF32 (k : Nat) (x : Num) : Num :=
  let pick := Config.vfunc k (BitVec.ofNat 32 (rne32 x))
  match x with
  | .nan => .nan
  | .inf _ => decodeF32 pick.toNat
  | .fin n m e =>
    if k = 0 then bounded 2 pick (exp2Num x)
    else if k = 2 then bounded 2 pick (expNum x)
    else if n ∨ m = 0 then decodeF32 pick.toNat
    else bounded 2 pick (if k = 1 then log2Num m e else lnNum m e)

end Sys2Proof.Machine
end

