-- ==== Sys2Proof/Machine/RowEngine.lean ====
section
/-! DEFINITION. The row engine: its operations' issue, and one row of the operation at its head (spec/03 R95 to R114,
spec/04 ROW block). Where the block leaves a layout open, notes/assumptions/21.md states what the model takes. -/

namespace Sys2Proof.Machine

/-! ## The ROW block -/

/-- ROWS. -/
def RowOp.rows (o : RowOp) : Nat := leAt o.blk 16 4
/-- L. -/
def RowOp.len (o : RowOp) : Nat := leAt o.blk 20 4
/-- C. -/
def RowOp.c (o : RowOp) : Nat := leAt o.blk 24 4
/-- EPS. -/
def RowOp.eps (o : RowOp) : Num := decodeF32 (leAt o.blk 28 4)
/-- STAT. -/
def RowOp.stat (o : RowOp) : Nat := leAt o.blk 32 2
/-- KN. -/
def RowOp.kn (o : RowOp) : Nat := leAt o.blk 34 2
/-- IN_FMT. -/
def RowOp.inFmt (o : RowOp) : Nat := leAt o.blk 36 1
/-- OUT_FMT. -/
def RowOp.outFmt (o : RowOp) : Nat := leAt o.blk 37 1
/-- A bit of MODE. -/
def RowOp.mode (o : RowOp) (i : Nat) : Bool := (leAt o.blk 38 1).testBit i
/-- Output set-up. -/
def RowOp.out (o : RowOp) : OutCtx :=
  ⟨o.outFmt, (Rnd.ofField (leAt o.blk 38 1 % 4)).getD .rne, o.mode 2, BitVec.ofNat 64 (leAt o.blk 40 8), leAt o.blk 48 2⟩

/-- The operation merges or normalises softmax partials, or takes the log-sum-exp of one. The block has no field that says which input
LSE reads: it reads partials when KN is not zero (DESIGN CHOICE, notes/assumptions/91.md). -/
def RowOp.partials (o : RowOp) : Bool := decide (o.op = 2) || decide (o.op = 3) || (decide (o.op = 4) && decide (o.kn ≠ 0))

/-- The limits of R98 and the ranges of the block (spec/04 R137). -/
def RowOp.ok (o : RowOp) : Bool :=
  let ic := fmtCode o.inFmt
  decide (o.op < 12) && fmtOk o.inFmt && decide (ic ≤ 7) && unitOut o.outFmt && decide (leAt o.blk 38 1 % 4 ≠ 3) &&
  decide (leAt o.blk 38 1 < 128) && zeroFrom o.blk 39 1 && zeroFrom o.blk 54 10 &&
  decide (1 ≤ o.rows ∧ o.rows ≤ 65536) &&
  (if o.partials then decide (o.len ≤ 512) else decide (1 ≤ o.len ∧ o.len ≤ 2 ^ 20)) &&
  (decide (o.op ≠ 7) || decide (1 ≤ o.kn ∧ o.kn ≤ 256)) && (decide (o.op ≠ 2) || decide (2 ≤ o.kn ∧ o.kn ≤ 64)) &&
  (decide (o.op ≠ 10) || decide (o.len ≤ 8192)) && (decide (o.op ≠ 11) || decide (o.len ≤ 16384))

/-- The operation writes a statistics record. -/
def RowOp.writesStat (o : RowOp) : Bool :=
  decide (o.op = 0) || decide (3 ≤ o.op ∧ o.op ≤ 6)
/-- The operation reads a statistics record. -/
def RowOp.readsStat (o : RowOp) : Bool := decide (9 ≤ o.op)

/-- The slots that an operation names lie in the task's statistics window (R112, R126). -/
def State.statOk (s : State) (n t : Nat) (o : RowOp) : Bool :=
  let w := s.reg (coreKey n (rROW_STATWINt + 8 * t))
  let b := field w 13 0
  let cnt := field w 30 16
  !(o.writesStat || o.readsStat) ||
    (decide (b + cnt ≤ 16384) && decide (b ≤ o.stat) && decide (o.stat + o.rows ≤ b + cnt))

/-- A SOFTMAX_BWD draws what its block leaves open: the place of its free value (R107). -/
def RowOp.issued (o : RowOp) (s : State) : RowOp × State :=
  if o.op = 9 then ({ o with draw := s.freeIdx }, { s with freeIdx := s.freeIdx + 1 }) else (o, s)

/-- ROWOP op: the operation is checked, opens its output window and waits its turn (R98, R100, R112, R137, R381). -/
def tryRowop (op n t : Nat) (f : InsnBits) (s : State) : Try :=
  let k := s.task n t
  (s.block n t (k.addrA f) 64).try_ s n t (k.addrA f) (fun s b =>
    let (o, s) := RowOp.issued ⟨t, k.pc, op, b, 0, 0, [], [], 0, 0⟩ s
    if !o.ok then .stop ((s.coreStat n rROW_STATUS 9).endTask n t endRowCfg 0)
    else if !s.statOk n t o then .stop ((s.coreStat n rROW_STATUS 10).endTask n t endStat 0)
    else match s.openWindow n t 4 with
      | none => .wait s 0 0 0 false
      | some (e, s) => .done (s.modCore n (fun c => { c with rowOps := c.rowOps ++ [{ o with sealEp := e }] })))

/-- Issue of a ROWOP whose operation the constructor gives. -/
def State.issueRow (s : State) (op c t : Nat) (f : InsnBits) : State :=
  s.issue c t 0x50 (withX f op) (fun _ _ => tryRowop op c t (withX f op))

/-- SOFTMAX. -/
def execSoftmax (c : CoreId) (t : TaskSlot) (f : InsnBits) (s : State) : Host.Outcome State Fault Refusal := .next (s.issueRow 0 c t f)
/-- SMX_PART. -/
def execSmxPart (c : CoreId) (t : TaskSlot) (f : InsnBits) (s : State) : Host.Outcome State Fault Refusal := .next (s.issueRow 1 c t f)
/-- SMX_MERGE. -/
def execSmxMerge (c : CoreId) (t : TaskSlot) (f : InsnBits) (s : State) : Host.Outcome State Fault Refusal := .next (s.issueRow 2 c t f)
/-- SMX_NORM. -/
def execSmxNorm (c : CoreId) (t : TaskSlot) (f : InsnBits) (s : State) : Host.Outcome State Fault Refusal := .next (s.issueRow 3 c t f)
/-- LSE. -/
def execLse (c : CoreId) (t : TaskSlot) (f : InsnBits) (s : State) : Host.Outcome State Fault Refusal := .next (s.issueRow 4 c t f)
/-- LNORM. -/
def execLnorm (c : CoreId) (t : TaskSlot) (f : InsnBits) (s : State) : Host.Outcome State Fault Refusal := .next (s.issueRow 5 c t f)
/-- RMSNORM. -/
def execRmsnorm (c : CoreId) (t : TaskSlot) (f : InsnBits) (s : State) : Host.Outcome State Fault Refusal := .next (s.issueRow 6 c t f)
/-- TOPK. -/
def execTopk (c : CoreId) (t : TaskSlot) (f : InsnBits) (s : State) : Host.Outcome State Fault Refusal := .next (s.issueRow 7 c t f)
/-- ROWDOT. -/
def execRowdot (c : CoreId) (t : TaskSlot) (f : InsnBits) (s : State) : Host.Outcome State Fault Refusal := .next (s.issueRow 8 c t f)
/-- SOFTMAX_BWD. -/
def execSoftmaxBwd (c : CoreId) (t : TaskSlot) (f : InsnBits) (s : State) : Host.Outcome State Fault Refusal := .next (s.issueRow 9 c t f)
/-- LNORM_BWD. -/
def execLnormBwd (c : CoreId) (t : TaskSlot) (f : InsnBits) (s : State) : Host.Outcome State Fault Refusal := .next (s.issueRow 10 c t f)
/-- RMSNORM_BWD. -/
def execRmsnormBwd (c : CoreId) (t : TaskSlot) (f : InsnBits) (s : State) : Host.Outcome State Fault Refusal := .next (s.issueRow 11 c t f)

/-! ## Rows in memory -/

/-- One row of a tensor of `all` rows at base, converted to FP32 with the operation's mode and SAT (R40, R109, R117). -/
def State.readRow (s : State) (n t : Nat) (x : OutCtx) (base all row fmt len : Nat) : Acc (List Num × Flags) :=
  let p := rowBytes fmt len
  let q := rowScales fmt len
  match s.taskReads n t ([(base + row * p, p)] ++ if fmtMx fmt then [(base + all * p + row * q, q)] else []) with
  | .ok s (b :: ss) => .ok s (toF32 (decide (fmt = 8)) x.rnd x.sat (decodeRow fmt len (ofLe b) ((ss.headD []).map BitVec.toNat)))
  | .ok s [] => .ok s ([], Flags.zero)
  | .held => .held
  | .access => .access
  | .ue s => .ue s

/-- The writes of one output row: its elements and its scale bytes. -/
def rowWrites (base all row fmt len : Nat) (scales els : List Nat) : List (Nat × Bytes) :=
  let p := rowBytes fmt len
  let q := rowScales fmt len
  [(base + row * p, leBytes p (packAll (elemBits (fmtCode fmt)) els))] ++
    if fmtMx fmt then [(base + all * p + row * q, scales.map (BitVec.ofNat 8))] else []

/-- A value as four FP32 bytes. -/
def f32Bytes (x : Num) : Bytes := leBytes 4 (rne32 x)

/-- An invalid result. -/
def invalidFlags : Flags := { Flags.zero with invalid := true }

/-- Flags of a window that lost bits. -/
def lossFlags (l : Bool) : Flags := { Flags.zero with loss := l }

/-- What one row comes to: its writes, its statistics record, flags and the operation afterwards. -/
structure RowRes where
  writes : List (Nat × Bytes)
  stat   : Option (BitVec 128)
  flags  : Flags
  op     : RowOp

/-- A statistics record (R110, R111). -/
def statRec (mx sum mean rstd : Num) : BitVec 128 :=
  BitVec.ofNat 128 (rne32 mx + rne32 sum * 2 ^ 32 + rne32 mean * 2 ^ 64 + rne32 rstd * 2 ^ 96)

/-- Field i of a statistics record as FP32. -/
def statField (r : BitVec 128) (i : Nat) : Num := decodeF32 (packedAt r.toNat 32 i)

/-! ## The base-2 exponential (R95, R96) -/

/-- A row of scores against an anchor: its weights e_j. -/
def weights (us : List Num) (mu : Int) : List Num × Flags :=
  let ds := r32s (us.map (fun u => Num.add u (numOfInt (-mu) 0)))
  (ds.1.map exp2F32, ds.2)

/-- What the scores of a row come to (R95, R96). -/
inductive Scores
  | empty
  | invalid
  | row (us : List Num) (fl : Flags)

/-- u_j of a row of scores; a score of −∞ stays −∞. -/
def scoresOf (xs : List Num) (c : Num) : Scores :=
  if xs.any (fun x => x.isNan || (match x with
      | .inf n => !n
      | _ => false)) then .invalid
  else if xs.all (fun x => match x with
      | .inf _ => true
      | _ => false) then .empty
  else
    let us := r32s (xs.map (fun x => match x with
      | .inf n => .inf n
      | x => Num.mul x c))
    .row us.1 us.2

/-- The anchor of a row: the ceiling of its largest u_j. An anchor outside the signed 32-bit range is not stated and is free
(R95; notes/assumptions/23.md). -/
def State.anchorOf (s : State) (us : List Num) : Int × State :=
  let m := us.foldl maxNum (.inf true)
  let free := let (v, s) := s.fresh; (signedN 32 v.toNat, s)
  match m with
  | .fin n g e =>
    let k := ceilNum n g e
    if -(2 ^ 31 : Int) < k ∧ k < 2 ^ 31 then (k, s) else free
  | _ => free

/-! ## Softmax partials (R101 to R105) -/

/-- A softmax partial (R102): anchor (none when EMPTY), flags, S and O as windows or as FP32 values. -/
structure Partial where
  mu    : Option Int
  exact : Bool
  loss  : Bool
  nan   : Bool
  qs    : List Bytes
  deriving DecidableEq, Repr

/-- Size of a partial with D components. -/
def partialSize (exact : Bool) (d : Nat) : Nat := if exact then 128 + 64 * d else alignUp (20 + 4 * d) 64

/-- A partial as its record. -/
def Partial.toBytes (p : Partial) : Bytes :=
  let d := p.qs.length - 1
  let head := leBytes 4 (match p.mu with
      | some m => wrapN 32 m
      | none => 0x80000000) ++ leBytes 2 d ++ leBytes 1 (b2n p.exact) ++ leBytes 1 (b2n p.loss + 2 * b2n p.nan) ++ leBytes 8 0
  let body := head ++ (if p.exact then leBytes 48 0 else []) ++ p.qs.flatten
  body ++ leBytes (partialSize p.exact d - body.length) 0

/-- The partial whose record's first 16 bytes and whole bytes are given; none when it is malformed or its D differs. -/
def Partial.ofBytes (d : Nat) (bs : Bytes) : Option Partial :=
  let fm := leAt bs 6 1
  let mu := leAt bs 0 4
  if 1 < fm ∨ leAt bs 4 2 ≠ d then none
  else
    let exact := decide (fm = 1)
    let qs := (List.range (d + 1)).map (fun i =>
      if exact then (bs.drop (64 + 64 * i)).take 64 else (bs.drop (16 + 4 * i)).take 4)
    some ⟨if mu = 0x80000000 then none else some (signedN 32 mu), exact, (leAt bs 7 1).testBit 0, (leAt bs 7 1).testBit 1, qs⟩

/-- A quantity of a partial entered in a window at an anchor M (R103); none at the term limit of R34. -/
def Partial.enter (p : Partial) (m : Int) (i : Nat) (w : Window) : Option Window :=
  let down := m - p.mu.getD m
  let q := p.qs.getD i []
  if p.exact then
    let v := Window.ofBytes q
    w.merge { v with anchor := v.anchor.map (fun a => a - down) }
  else w.addNum ((decodeF32 (ofLe q)).scale (-down))

/-- Quantity i of the partials that are not EMPTY, summed at anchor M. -/
def mergeAt (ps : List Partial) (m : Int) (i : Nat) : Option Window :=
  ps.foldl (fun w p => match w with
    | some w => p.enter m i w
    | none => none) (some .empty)

/-- SMX_MERGE of one row's partials (R103); none at the term limit. -/
def mergePartials (ps : List Partial) (exact : Bool) (d : Nat) : Option (Partial × Flags) :=
  let ps := ps.filter (fun p => p.mu.isSome)
  match ps with
  | [] =>
    some (⟨none, exact, false, false, (List.range (d + 1)).map (fun _ => if exact then Window.empty.toBytes else leBytes 4 0)⟩,
      Flags.zero)
  | _ =>
    let m := ps.foldl (fun m p => max m (p.mu.getD m)) ((ps.head?.bind (fun p => p.mu)).getD 0)
    let ws := (List.range (d + 1)).map (mergeAt ps m)
    if ws.any Option.isNone then none
    else
      let ws := ws.map (fun w => w.getD .empty)
      let loss := ps.any (fun p => p.loss) || ws.any (fun w => w.loss)
      let nan := ps.any (fun p => p.nan)
      let rs := r32s (ws.map Window.value)
      some (⟨some m, exact, loss, nan, if exact then ws.map Window.toBytes else rs.1.map f32Bytes⟩,
        (if exact then Flags.zero else rs.2).or (lossFlags loss))

/-- The FP32 value of quantity i of a partial (R105). -/
def Partial.value (p : Partial) (i : Nat) : Num × Flags :=
  let q := p.qs.getD i []
  if p.exact then r32 (Window.ofBytes q).value else (decodeF32 (ofLe q), Flags.zero)

/-- A read of one partial record at an address: the bytes, or a form that is malformed. -/
def State.readPartial (s : State) (n t addr d : Nat) : Acc (Option Partial) :=
  match s.taskReads n t [(addr, 16)] with
  | .ok s hs =>
    let fm := leAt (hs.headD []) 6 1
    if 1 < fm ∨ leAt (hs.headD []) 4 2 ≠ d then .ok s none
    else
      match s.taskReads n t [(addr, partialSize (decide (fm = 1)) d)] with
      | .ok s bs => .ok s (Partial.ofBytes d (bs.headD []))
      | .held => .held
      | .access => .access
      | .ue s => .ue s
  | .held => .held
  | .access => .access
  | .ue s => .ue s

/-- A number of partial records one after another from an address; with where the next would begin. -/
def State.readPartials (s : State) (n t d : Nat) : Nat → Nat → Acc (Option (List Partial × Nat))
  | 0, addr => .ok s (some ([], addr))
  | k + 1, addr =>
    match s.readPartial n t addr d with
    | .ok s (some p) =>
      match s.readPartials n t d k (addr + partialSize p.exact d) with
      | .ok s (some (ps, a)) => .ok s (some (p :: ps, a))
      | .ok s none => .ok s none
      | .held => .held
      | .access => .access
      | .ue s => .ue s
    | .ok s none => .ok s none
    | .held => .held
    | .access => .access
    | .ue s => .ue s

/-! ## The operations, one row (R101 to R109) -/

/-- What a row of an operation comes to: its result, a malformed partial, or a term limit. -/
inductive RowOut
  | ok (r : RowRes)
  | malformed
  | limit

/-- IN0. -/
def RowOp.in0 (o : RowOp) : Nat := leAt o.blk 0 4
/-- IN1. -/
def RowOp.in1 (o : RowOp) : Nat := leAt o.blk 4 4
/-- OUT. -/
def RowOp.outAddr (o : RowOp) : Nat := leAt o.blk 8 4
/-- OUT2. -/
def RowOp.out2 (o : RowOp) : Nat := leAt o.blk 12 4
/-- M0 plus the row. -/
def RowOp.m (o : RowOp) : Nat := leAt o.blk 50 4 + o.next

/-- The output row of values, converted (R106 Output). -/
def RowOp.emit (o : RowOp) (vs : List (Num × Bool)) : List (Nat × Bytes) × Flags :=
  let (sc, es, fl) := o.out.row o.m 0 vs
  (rowWrites o.outAddr o.rows o.next o.outFmt o.len sc es, fl)

/-- Exact values to be converted. -/
def exactly (vs : List Num) : List (Num × Bool) := vs.map (fun v => (v, false))

/-- A row that is NaN throughout (R96). -/
def RowOp.nanRow (o : RowOp) (stat : Option (BitVec 128)) : RowRes :=
  let (w, f) := o.emit ((List.range o.len).map (fun _ => (.nan, false)))
  ⟨w, stat, f.or invalidFlags, o⟩

/-- SOFTMAX (R106): q_j of a row with its record; an EMPTY row gives +0, SUM +0 and MAX −∞ as R105 has it. -/
def State.rowSoftmax (s : State) (o : RowOp) (xs : List Num) : RowRes × State :=
  match scoresOf xs (decodeF32 o.c) with
  | .invalid => (o.nanRow (some (statRec .nan .nan zeroNum zeroNum)), s)
  | .empty =>
    let (w, f) := o.emit (exactly (xs.map (fun _ => zeroNum)))
    (⟨w, some (statRec (.inf true) zeroNum zeroNum zeroNum), f, o⟩, s)
  | .row us f0 =>
    let (mu, s) := s.anchorOf us
    let (es, f1) := weights us mu
    let win := sumWindow es
    let (sum, f2) := r32 win.value
    let qs := es.map (fun e => div32 e sum)
    let (w, f3) := o.emit (exactly (qs.map Prod.fst))
    (⟨w, some (statRec (numOfInt mu 0) sum zeroNum zeroNum),
      flagsOf ([f0, f1, f2, f3, lossFlags win.loss] ++ qs.map Prod.snd), o⟩, s)

/-- SMX_PART (R101): the weights as written and the partial of their exact sum, with D = 0. The block has no place for the partial: it
goes to OUT2 + row × record size, and a NAN partial has the anchor 0 (DESIGN CHOICE, notes/assumptions/91.md). -/
def State.rowPart (s : State) (o : RowOp) (xs : List Num) : RowRes × State :=
  let exact := o.mode 5
  let part (mu : Option Int) (nan : Bool) (w : Window) : Nat × Bytes :=
    (o.out2 + o.next * partialSize exact 0,
      (⟨mu, exact, w.loss, nan, [if exact then w.toBytes else f32Bytes w.value]⟩ : Partial).toBytes)
  let sumFlags (w : Window) : Flags := if exact then Flags.zero else (r32 w.value).2
  match scoresOf xs (decodeF32 o.c) with
  | .invalid =>
    let r := o.nanRow none
    ({ r with writes := r.writes ++ [part (some 0) true ((Window.empty.addNum .nan).getD .empty)] }, s)
  | .empty =>
    let (w, f) := o.emit (exactly (xs.map (fun _ => zeroNum)))
    (⟨w ++ [part none false .empty], none, f, o⟩, s)
  | .row us f0 =>
    let (mu, s) := s.anchorOf us
    let (es, f1) := weights us mu
    let (sc, els, f2) := o.out.row o.m 0 (exactly es)
    let ws := decodeRow o.outFmt o.len (packAll (elemBits (fmtCode o.outFmt)) els) sc
    let win := sumWindow ws
    (⟨rowWrites o.outAddr o.rows o.next o.outFmt o.len sc els ++ [part (some mu) false win], none,
      flagsOf [f0, f1, f2, lossFlags win.loss, sumFlags win], o⟩, s)

/-- SMX_NORM of one partial (R105). -/
def rowNorm (o : RowOp) (p : Partial) : RowRes :=
  match p.mu with
  | none =>
    let (w, f) := o.emit (exactly ((List.range o.len).map (fun _ => zeroNum)))
    ⟨w, some (statRec (.inf true) zeroNum zeroNum zeroNum), f.or (lossFlags p.loss), o⟩
  | some mu =>
    if p.nan then
      let r := o.nanRow (some (statRec (numOfInt mu 0) .nan zeroNum zeroNum))
      { r with flags := r.flags.or (lossFlags p.loss) }
    else
      let (sum, f0) := p.value 0
      let vs := (List.range o.len).map (fun i => p.value (i + 1))
      let qs := vs.map (fun v => div32 v.1 sum)
      let (w, f1) := o.emit (exactly (qs.map Prod.fst))
      ⟨w, some (statRec (numOfInt mu 0) sum zeroNum zeroNum),
        flagsOf ([f0, f1, lossFlags p.loss] ++ vs.map Prod.snd ++ qs.map Prod.snd), o⟩

/-- λ of a row from its anchor and its sum (R106 LSE): one FP32 value. -/
def rowLse (o : RowOp) (mu : Option Int) (sum : Num) (nan : Bool) (fl : Flags) : RowRes :=
  let a := o.outAddr + 4 * o.next
  match mu with
  | none => ⟨[(a, f32Bytes (.inf true))], some (statRec (.inf true) zeroNum zeroNum zeroNum), fl, o⟩
  | some m =>
    if nan then ⟨[(a, f32Bytes .nan)], some (statRec (numOfInt m 0) .nan zeroNum zeroNum), fl.or invalidFlags, o⟩
    else ⟨[(a, f32Bytes (lseF32 m sum))],
      some (statRec (numOfInt m 0) sum zeroNum zeroNum), fl, o⟩

/-- LSE over a row of scores. -/
def State.rowLseScores (s : State) (o : RowOp) (xs : List Num) : RowRes × State :=
  match scoresOf xs (decodeF32 o.c) with
  | .invalid => (⟨[(o.outAddr + 4 * o.next, f32Bytes .nan)], some (statRec .nan .nan zeroNum zeroNum), invalidFlags, o⟩, s)
  | .empty => (rowLse o none zeroNum false Flags.zero, s)
  | .row us f0 =>
    let (mu, s) := s.anchorOf us
    let (es, f1) := weights us mu
    let win := sumWindow es
    let (sum, f2) := r32 win.value
    (rowLse o (some mu) sum false (flagsOf [f0, f1, f2, lossFlags win.loss]), s)

/-- LNORM (R106). -/
def rowLnorm (o : RowOp) (xs gs bs : List Num) : RowRes :=
  let (m, f0) := mean32 xs o.len
  let (ds, f1) := r32s (xs.map (fun x => Num.add x m.neg))
  let (var, f2) := mean32 (dots ds ds) o.len
  let (ve, f3) := r32 (Num.add var o.eps)
  let (r, f4) := r32Sticky (rsqrtExact ve)
  let (hs, f5) := r32s (ds.map (fun d => Num.mul d r))
  let (w, f6) := o.emit (exactly (List.zipWith Num.add (dots hs gs) bs))
  ⟨w, some (statRec zeroNum zeroNum m r), flagsOf [f0, f1, f2, f3, f4, f5, f6], o⟩

/-- RMSNORM (R106). -/
def rowRms (o : RowOp) (xs gs : List Num) : RowRes :=
  let (ms, f0) := mean32 (dots xs xs) o.len
  let (ve, f1) := r32 (Num.add ms o.eps)
  let (r, f2) := r32Sticky (rsqrtExact ve)
  let (hs, f3) := r32s (xs.map (fun x => Num.mul x r))
  let (w, f4) := o.emit (exactly (dots hs gs))
  ⟨w, some (statRec zeroNum zeroNum zeroNum r), flagsOf [f0, f1, f2, f3, f4], o⟩

/-- a ranks above b (R109): larger value, NaN below −∞; equal values rank by index, which insertion keeps. -/
def ranksAbove (a b : Num) : Bool := if a.isNan then false else if b.isNan then true else b.lt a

/-- An element inserted in a ranked list, behind its equals. -/
def rankIn (x : Num × Nat) : List (Num × Nat) → List (Num × Nat)
  | [] => [x]
  | y :: ys => if ranksAbove x.1 y.1 then x :: y :: ys else y :: rankIn x ys

/-- TOPK (R109). -/
def rowTopk (o : RowOp) (xs : List Num) : RowRes :=
  let top := (xs.zipIdx.foldl (fun l x => (rankIn x l).take o.kn) [])
  let pad := (List.range (o.kn - top.length)).map (fun _ => ((.inf true, 0xFFFFFFFF) : Num × Nat))
  let all := top ++ pad
  ⟨[(o.outAddr + o.next * 4 * o.kn, (all.map (fun x => f32Bytes x.1)).flatten),
    (o.out2 + o.next * 4 * o.kn, (all.map (fun x => leBytes 4 x.2)).flatten)], none,
    if xs.any Num.isNan then invalidFlags else Flags.zero, o⟩

/-- ROWDOT (R106). -/
def rowDot (o : RowOp) (xs ys : List Num) : RowRes :=
  let w := sumWindow (dots xs ys)
  let (v, f) := r32 w.value
  ⟨[(o.outAddr + 4 * o.next, f32Bytes v)], none, f.or (lossFlags w.loss), o⟩

/-- The weights that a forward SMX_PART wrote for e_j, as this operation's output set-up converts them (R101, R107). -/
def RowOp.written (o : RowOp) (es : List Num) : List Num :=
  let (sc, els, _) := o.out.row o.m 0 (exactly es)
  decodeRow o.outFmt o.len (packAll (elemBits (fmtCode o.outFmt)) els) sc

/-- SOFTMAX_BWD (R106, R107): q_j given, or recomputed from the scores and the stored MAX and SUM. The block does not say whether the
forward operation was SOFTMAX or SMX_PART: that is free, one value for the whole operation (notes/assumptions/26.md). -/
def rowSoftmaxBwd (o : RowOp) (rc : BitVec 128) (dys ys : List Num) (delta : Option Num) : RowRes :=
  let mx := statField rc 0
  let sum := statField rc 1
  let (qs, f0) : List Num × Flags :=
    if o.mode 4 then (ys, Flags.zero)
    else
      match scoresOf ys (scoreFactor (decodeF32 o.c)), mx with
      | .row us f, .fin n g e =>
        let (es, f1) := weights us (ceilNum n g e)
        let rs := (if (Config.freeWord o.draw).getLsbD 0 then o.written es else es).map (fun e => div32 e sum)
        (rs.map Prod.fst, flagsOf ([f, f1] ++ rs.map Prod.snd))
      | .empty, _ => (ys.map (fun _ => zeroNum), Flags.zero)
      | _, _ => (ys.map (fun _ => .nan), invalidFlags)
  let (dl, f1) := match delta with
    | some d => (d, Flags.zero)
    | none =>
      let w := sumWindow (dots dys qs)
      let (v, f) := r32 w.value
      (v, f.or (lossFlags w.loss))
  let (ts, f2) := r32s (dys.map (fun d => Num.add d dl.neg))
  let (ss, f3) := r32s (dots qs ts)
  let (w, f4) := o.emit (exactly (ss.map (fun x => Num.mul x (decodeF32 o.c))))
  ⟨w, none, flagsOf [f0, f1, f2, f3, f4], o⟩

/-- A value added to the window of column j. -/
def addCol (m : Tab Window) (j : Nat) (x : Num) : Tab Window :=
  let w := tget (fun _ => Window.empty) m j
  tset (fun _ => Window.empty) m j ((w.addNum x).getD w)

/-- A row of values added column by column (R108). -/
def addCols (m : Tab Window) (xs : List Num) : Tab Window := xs.zipIdx.foldl (fun m x => addCol m x.2 x.1) m

/-- LNORM_BWD and RMSNORM_BWD (R106 to R108). -/
def rowNormBwd (o : RowOp) (rms : Bool) (rc : BitVec 128) (dys xs gs : List Num) : RowRes :=
  let m := statField rc 2
  let r := statField rc 3
  let (ds, f0) := if rms then (xs, Flags.zero) else r32s (xs.map (fun x => Num.add x m.neg))
  let (hs, f1) := r32s (ds.map (fun d => Num.mul d r))
  let (g, f2) := r32s (dots dys gs)
  let (a, f3) := if rms then (zeroNum, Flags.zero) else mean32 g o.len
  let (b, f4) := mean32 (dots g hs) o.len
  let (ts, f5) := if rms then (g, Flags.zero) else r32s (g.map (fun x => Num.add x a.neg))
  let (ss, f6) := r32s (List.zipWith (fun t h => Num.add t (Num.mul h b).neg) ts hs)
  let (w, f7) := o.emit (exactly (ss.map (fun x => Num.mul r x)))
  ⟨w, none, flagsOf [f0, f1, f2, f3, f4, f5, f6, f7],
    { o with gamma := addCols o.gamma (dots dys hs), beta := if rms then o.beta else addCols o.beta dys }⟩

/-- Several rows of the tensors that an operation reads. -/
def State.readRows (s : State) (n t : Nat) (x : OutCtx) (fmt len : Nat) : List (Nat × Nat × Nat) → Acc (List (List Num) × Flags)
  | [] => .ok s ([], Flags.zero)
  | (base, all, row) :: rs =>
    match s.readRow n t x base all row fmt len with
    | .ok s (y, f) =>
      match s.readRows n t x fmt len rs with
      | .ok s (ys, g) => .ok s (y :: ys, f.or g)
      | .held => .held
      | .access => .access
      | .ue s => .ue s
    | .held => .held
    | .access => .access
    | .ue s => .ue s

/-- The rows that an operation reads for its next row: IN0, IN1 and the vectors γ and β behind the rows of IN1. -/
def RowOp.reads (o : RowOp) : List (Nat × Nat × Nat) :=
  let a := (o.in0, o.rows, o.next)
  match o.op with
  | 5 => [a, (o.in1, o.rows + 2, o.rows), (o.in1, o.rows + 2, o.rows + 1)]
  | 6 => [a, (o.in1, o.rows + 1, o.rows)]
  | 8 => [a, (o.in1, o.rows, o.next)]
  | 9 => [a, (o.in1, o.rows, o.next)]
  | 10 => [a, (o.in1, o.rows + 2, o.next), (o.in1, o.rows + 2, o.rows)]
  | 11 => [a, (o.in1, o.rows + 1, o.next), (o.in1, o.rows + 1, o.rows)]
  | _ => [a]

/-- The next row of an operation over rows of elements. -/
def State.rowOfElems (s : State) (n : Nat) (o : RowOp) (delta : Option Num) : Acc RowOut :=
  let rc := tget (fun _ => (0 : BitVec 128)) (s.core n).stats (o.stat + o.next)
  match s.readRows n o.task o.out o.inFmt o.len o.reads with
  | .ok s (rs, f) =>
    let x := rs.getD 0 []
    let y := rs.getD 1 []
    let z := rs.getD 2 []
    let (r, s) : RowRes × State := match o.op with
      | 0 => s.rowSoftmax o x
      | 1 => s.rowPart o x
      | 4 => s.rowLseScores o x
      | 5 => (rowLnorm o x y z, s)
      | 6 => (rowRms o x y, s)
      | 7 => (rowTopk o x, s)
      | 8 => (rowDot o x y, s)
      | 9 => (rowSoftmaxBwd o rc x y delta, s)
      | 10 => (rowNormBwd o false rc x y z, s)
      | _ => (rowNormBwd o true rc x y z, s)
    .ok s (.ok { r with flags := r.flags.or f })
  | .held => .held
  | .access => .access
  | .ue s => .ue s

/-- A record among the partials from an address is malformed or has another D, as far as they can be read (R98). -/
def State.partialsBad (s : State) (n t d : Nat) : Nat → Nat → Bool
  | 0, _ => false
  | k + 1, addr =>
    match s.taskReads n t [(addr, 16)] with
    | .ok _ hs =>
      let fm := leAt (hs.headD []) 6 1
      decide (1 < fm ∨ leAt (hs.headD []) 4 2 ≠ d) || s.partialsBad n t d k (addr + partialSize (decide (fm = 1)) d)
    | _ => false

/-- The next row of an operation over softmax partials. Before its first row every record that can be read is checked, so that an
operation that breaks a limit of R98 has no effect; a record not yet readable is checked when it is reached (DESIGN CHOICE,
notes/assumptions/91.md). -/
def State.rowOfPartials (s : State) (n : Nat) (o : RowOp) : Acc RowOut :=
  let per := if o.op = 2 then o.kn else 1
  if o.next = 0 ∧ s.partialsBad n o.task o.len (o.rows * per) o.in0 then .ok s .malformed
  else match s.readPartials n o.task o.len per (o.in0 + o.cursor) with
  | .ok s none => .ok s .malformed
  | .ok s (some (ps, a)) =>
    let o := { o with cursor := a - o.in0 }
    match o.op, ps with
    | 2, _ =>
      match mergePartials ps (o.mode 5) o.len with
      | none => .ok s .limit
      | some (p, f) => .ok s (.ok ⟨[(o.outAddr + o.next * partialSize p.exact o.len, p.toBytes)], none, f, o⟩)
    | 3, p :: _ => .ok s (.ok (rowNorm o p))
    | _, p :: _ =>
      let (v, f) := p.value 0
      .ok s (.ok (rowLse o p.mu v p.nan (f.or (lossFlags p.loss))))
    | _, [] => .ok s .malformed
  | .held => .held
  | .access => .access
  | .ue s => .ue s

/-- The next row of an operation; δ is read first when it is given (R107). -/
def State.rowNext (s : State) (n : Nat) (o : RowOp) : Acc RowOut :=
  if o.partials then s.rowOfPartials n o
  else if o.op = 9 ∧ o.mode 3 then
    match s.taskReads n o.task [(o.out2 + 4 * o.next, 4)] with
    | .ok s bs => s.rowOfElems n o (some (decodeF32 (ofLe (bs.headD []))))
    | .held => .held
    | .access => .access
    | .ue s => .ue s
  else s.rowOfElems n o none

/-- Writes by the row engine or the vector unit under an output window. -/
def State.unitWrites (s : State) (n t : Nat) (e : BitVec 32) : List (Nat × Bytes) → Acc Unit
  | [] => .ok s ()
  | (a, bs) :: ws =>
    match s.windowWrite n t (some e) (BitVec.ofNat 64 (a % 2 ^ 32)) bs with
    | .ok s _ => s.unitWrites n t e ws
    | r => r

/-- The windows of dγ, then dβ, in column order (R108). -/
def RowOp.exports (o : RowOp) : List Window :=
  let col (m : Tab Window) := (List.range o.len).map (tget (fun _ => Window.empty) m)
  if o.op = 10 then col o.gamma ++ col o.beta else if o.op = 11 then col o.gamma else []

/-- What the last row leaves: dγ and dβ exported to scratchpad at OUT2, or to a sheaf (R108, spec/07 R241). -/
def State.rowExport (s : State) (n : Nat) (o : RowOp) : Acc Unit :=
  if o.exports.isEmpty then .ok s ()
  else if o.mode 6 then
    match s.taskReads n o.task [(o.out2, 8)] with
    | .ok s bs =>
      let target : Word := BitVec.ofNat 64 (ofLe (bs.headD []))
      .ok (s.modCore n (fun c => { c with rowOutbox := c.rowOutbox ++ o.exports.zipIdx.map (fun w =>
        ({ task := o.task, pc := o.pc, target := target, payload := w.1.toBytes, type := .shfWindow
           lane := tgLane target + w.2, epoch := o.sealEp, order := 0, flying := false, backoff := none } : UnitMsg)) })) ()
    | .held => .held
    | .access => .access
    | .ue s => .ue s
  else s.unitWrites n o.task o.sealEp [(o.out2, o.exports.flatMap Window.toBytes)]

/-- A completed row's effects: flags, counters, statistics and the operation moved on (R100, R111). -/
def State.rowDone (s : State) (n : Nat) (r : RowRes) : State :=
  let o := r.op
  let s := (s.rowFlags n r.flags).winFlags n (some o.sealEp) r.flags
  let s := s.count (coreKey n rROW_CNT) 63 32 1
  let s := if o.op = 2 then s.count (coreKey n rROW_CNT) 31 0 1 else s
  s.modCore n (fun c =>
    let st := match r.stat with
      | some v => tset (fun _ => 0) c.stats (o.stat + o.next) v
      | none => c.stats
    let rest := c.rowOps.drop 1
    { c with stats := st
             rowOps := if o.rows ≤ o.next + 1 then rest else { o with next := o.next + 1 } :: rest })

/-- ROW_COMPLETE (R100): the row engine completes the next row of the operation at its head, and with the last row exports
what it accumulated; a held access leaves it, and a fault ends the task and the operation. -/
def execRowComplete (c : CoreId) (s : State) : Host.Outcome State Fault Refusal :=
  match (s.core c).rowOps with
  | [] => .next s
  | o :: _ =>
    let drop (s : State) : State := s.modCore c (fun k => { k with rowOps := k.rowOps.drop 1 })
    if !s.live c then .next s
    else match s.rowNext c o with
      | .held => .next s
      | .access => .next ((drop s).endAsync c o.task o.pc endAccess (BitVec.ofNat 64 o.in0))
      | .ue s => .next (drop s)
      | .ok s .malformed => .next (((drop s).coreStat c rROW_STATUS 9).endAsync c o.task o.pc endRowCfg 0)
      | .ok s .limit => .next ((drop s).endAsync c o.task o.pc endArith 0)
      | .ok s1 (.ok r) =>
        match s1.unitWrites c o.task o.sealEp r.writes with
        | .held => .next s
        | .access => .next ((drop s).endAsync c o.task o.pc endAccess (BitVec.ofNat 64 o.outAddr))
        | .ue s => .next (drop s)
        | .ok s2 _ =>
          if o.rows ≤ o.next + 1 then
            match s2.rowExport c r.op with
            | .held => .next s
            | .access => .next ((drop s).endAsync c o.task o.pc endAccess (BitVec.ofNat 64 o.out2))
            | .ue s => .next (drop s)
            | .ok s3 _ => .next (s3.rowDone c r)
          else .next (s2.rowDone c r)

/-- ROW_STATWIN_WRITE (R126): takes effect only while slot t holds no resident task. -/
def execRowStatwinWrite (who : Initiator) (c : CoreId) (t : TaskSlot) (v : Word) (s : State) :
    Host.Outcome State Fault Refusal :=
  let key := coreKey c (rROW_STATWINt + 8 * t)
  .next (s.gate who key .f (fun s =>
    if (s.task c t).phase = .empty then s.regWrite key v else s.coreStat c rROW_STATUS 11))

end Sys2Proof.Machine
end

