-- ==== Sys2Proof/Machine/SealWaits.lean ====
section
/-! DEFINITION. WAITSEAL and SEALQ (spec/12 R396 to R398), and the event counter instructions (spec/15 R495). -/

namespace Sys2Proof.Machine

/-- Most epochs in a task's dependency set (R398). -/
def maxDeps : Nat := 16

/-- The seal blocks of physical pieces. -/
def pieceBlocks (ps : List (Nat × Nat)) : List Nat := ps.flatMap (fun q => blocksOf q.1 q.2)

/-- OPEN references of core n on some blocks, one for each epoch. -/
def State.openRefs (s : State) (n : Nat) (ps : List (Nat × Nat)) : List SealRef :=
  ((s.sealUnit n).refsIn ps).filter (fun r => decide (r.st = .opened))

/-- Open references that RUN_AHEAD cannot let the task inherit: too deep, or no room in its set (R398). -/
def State.cannotInherit (s : State) (n t : Nat) (rs : List SealRef) : Bool :=
  let k := s.task n t
  let new := rs.filter (fun r => !k.deps.any (fun d => decide (d.key = r.key) && decide (d.epoch = r.epoch)))
  new.any (fun r => decide (3 < s.refDepth n r)) || decide (maxDeps < k.deps.length + new.length)

/-- Inherited references join the task's dependency set. -/
def State.inherit (s : State) (n t : Nat) (rs : List SealRef) : State :=
  rs.foldl (fun s r => s.modTask n t (fun k =>
    if k.deps.any (fun d => decide (d.key = r.key) && decide (d.epoch = r.epoch)) then k
    else { k with deps := k.deps ++ [⟨r.key, r.epoch, s.refDepth n r⟩] })) s

/-- WAITSEAL (R396 to R398). Stage 0 is the issue, 1 a wait for seals, 2 a wait for TAIL; the policy of issue is kept. -/
def tryWaitseal (n t : Nat) (f : InsnBits) (stage keep : Nat) (s : State) : Try :=
  let k := s.task n t
  let addr := k.areg (fA f)
  let len := (k.greg (fB f)).toNat
  let policy := if stage = 0 then s.regField (coreKey n rSEAL_CTRL) 0 0 else keep
  if len = 0 then .done s
  else match (s.core n).xlate t addr len false with
    | .bad => .stop (s.endTask n t endAccess addr)
    | .held => .wait s 2 policy 0 false
    | .ok ps =>
      let bs := pieceBlocks ps
      let u := s.sealUnit n
      if bs.any (fun b => decide (2 ≤ u.blockState b)) then .stop (s.freezeTask n t .recovery)
      else if bs.all (fun b => u.blockState b == 1) then .done s
      else if policy = 1 then
        let rs := s.openRefs n ps
        if s.cannotInherit n t rs then .wait (s.coreStat n rSEAL_STATUS 7) 1 policy 0 true else .done (s.inherit n t rs)
      else .wait s 1 policy 0 true

/-- SEALQ (R396). -/
def trySealq (n t : Nat) (f : InsnBits) (s : State) : Try :=
  let k := s.task n t
  let addr := k.areg (fA f)
  let len := (k.greg (fB f)).toNat
  let put (b : Bool) : Try := .done (s.modTask n t (fun k => k.setP (fD f) b))
  if len = 0 then put true
  else match (s.core n).xlate t addr len false with
    | .bad => .stop (s.endTask n t endAccess addr)
    | .held => put false
    | .ok ps => put ((pieceBlocks ps).all (fun b => (s.sealUnit n).blockState b == 1))

/-- WAITSEAL. -/
def execWaitseal (c : CoreId) (t : TaskSlot) (f : InsnBits) (s : State) : Host.Outcome State Fault Refusal :=
  .next (s.issue c t 0x78 f (fun stage keep => tryWaitseal c t f stage keep))
/-- SEALQ. -/
def execSealq (c : CoreId) (t : TaskSlot) (f : InsnBits) (s : State) : Host.Outcome State Fault Refusal :=
  .next (s.issue c t 0x79 f (fun _ _ => trySealq c t f))

/-! ## Event counters (spec/15 R495) -/

/-- Counter i obeys the instructions of task t: no other resident task names it. -/
def Core.evMine (c : Core) (t i : Nat) : Bool :=
  (List.range 4).all (fun u => decide (u = t) || !(c.task u).holds || !(c.task u).img.evc.testBit i)

/-- EVSEL: the counter counts source Rb. -/
def tryEvsel (n t : Nat) (f : InsnBits) (s : State) : Try :=
  let i := fImm f % 8
  if (s.core n).evMine t i then .done (s.setReg (coreKey n (rEVC_SELc + 8 * i)) (BitVec.ofNat 64 (((s.task n t).rb f).toNat % 256)))
  else .done s

/-- The counters of a mask that obey the task, each changed. -/
def State.evEach (s : State) (n t : Nat) (f : InsnBits) (act : State → Nat → State) : State :=
  ((List.range 8).filter (fun i => (fImm f).testBit i && (s.core n).evMine t i)).foldl act s

/-- EVCTL: start, stop or clear. -/
def tryEvctl (n t : Nat) (f : InsnBits) (s : State) : Try :=
  let ctl := coreKey n rEVC_CTL
  match fX f % 4 with
  | 0 => .done (s.evEach n t f (fun s i => s.setReg ctl (setBit (s.reg ctl) i true)))
  | 1 => .done (s.evEach n t f (fun s i => s.setReg ctl (setBit (s.reg ctl) i false)))
  | _ => .done (s.evEach n t f (fun s i => s.setReg (coreKey n (rEVC_CNTc + 8 * i)) 0))

/-- EVRD: g[D] := the counter. -/
def tryEvrd (n t : Nat) (f : InsnBits) (s : State) : Try :=
  let i := fImm f % 8
  if (s.core n).evMine t i then
    .done (s.modTask n t (fun k => k.setG (fD f) (BitVec.ofNat 64 (s.regField (coreKey n (rEVC_CNTc + 8 * i)) 47 0))))
  else .done s

/-- EVSEL. -/
def execEvsel (c : CoreId) (t : TaskSlot) (f : InsnBits) (s : State) : Host.Outcome State Fault Refusal :=
  .next (s.issue c t 0x88 f (fun _ _ => tryEvsel c t f))
/-- EVCTL with action start: the constructor gives X bits 1:0. -/
def execEvctlStart (c : CoreId) (t : TaskSlot) (f : InsnBits) (s : State) : Host.Outcome State Fault Refusal :=
  .next (s.issue c t 0x89 (withX f (fX f / 4 * 4)) (fun _ _ => tryEvctl c t (withX f (fX f / 4 * 4))))
/-- EVCTL with action stop. -/
def execEvctlStop (c : CoreId) (t : TaskSlot) (f : InsnBits) (s : State) : Host.Outcome State Fault Refusal :=
  .next (s.issue c t 0x89 (withX f (fX f / 4 * 4 + 1)) (fun _ _ => tryEvctl c t (withX f (fX f / 4 * 4 + 1))))
/-- EVCTL with action clear. -/
def execEvctlClear (c : CoreId) (t : TaskSlot) (f : InsnBits) (s : State) : Host.Outcome State Fault Refusal :=
  .next (s.issue c t 0x89 (withX f (fX f / 4 * 4 + 2)) (fun _ _ => tryEvctl c t (withX f (fX f / 4 * 4 + 2))))
/-- EVRD. -/
def execEvrd (c : CoreId) (t : TaskSlot) (f : InsnBits) (s : State) : Host.Outcome State Fault Refusal :=
  .next (s.issue c t 0x8A f (fun _ _ => tryEvrd c t f))

end Sys2Proof.Machine
end

