-- ==== Sys2Proof/Machine/Mesh.lean ====
section
/-! DEFINITION. The mesh routers: flits, their checks and routes, escape tables, ports marked DOWN, seam repair wires (spec/08 R250
to R263, R270). -/

namespace Sys2Proof.Machine

/-- Key of a register in the core page that a router's slot serves. -/
def State.slotPage (s : State) (p off : Nat) : Nat :=
  match s.holder p with
  | some n => coreKey n off
  | none => slotKey p off

/-- A port is DOWN: the Warden marked it, or the router at its far end has no power (R261). -/
def State.portDown (s : State) (p port : Nat) : Bool :=
  bitOf (s.reg (s.slotPage p (rMESH_PORTp + 8 * port))) 62 || (match linkTo p port with
    | some (q, _) => !(s.slot q).routerOn
    | none => false)

/-- The dimension-order escape port from router p to position q, mesh column first (R259). -/
def dimOrder (p q : Nat) : Nat :=
  if meshCol p < meshCol q then 1 else if meshCol q < meshCol p then 3
  else if meshRow p < meshRow q then 2 else if meshRow q < meshRow p then 0 else 5

/-- Default of the escape tables: router × 1024 + destination. -/
def escDefault (k : Nat) : Nat := dimOrder (k / 1024) (k % 1024)
/-- Escape code of router p toward position q: 0 N, 1 E, 2 S, 3 W, 4 SEAM2, 5 LOCAL. -/
def State.escape (s : State) (p q : Nat) : Nat := tget escDefault s.esc (p * 1024 + q)
/-- Output port of an escape code. -/
def escPort (c : Nat) : Nat := if c = 4 then 5 else if c = 5 then 4 else c

/-! ## Escape table sets (R259) -/

/-- The router that an escape route reaches after k links; none when it leaves the mesh or takes a port that is DOWN. -/
def State.escWalk (s : State) (next : Nat → Nat → Nat) (q : Nat) : Nat → Nat → Option Nat
  | 0, p => some p
  | k + 1, p =>
    if p = q then some p
    else
      let o := escPort (next p q)
      if s.portDown p o then none
      else match linkTo p o with
        | some (r, _) => s.escWalk next q k r
        | none => none

/-- Links that the escape route from p to q takes, as router × 8 + port, in order. -/
def escLinks (next : Nat → Nat → Nat) (q : Nat) : Nat → Nat → List Nat
  | 0, _ => []
  | k + 1, p =>
    if p = q then []
    else
      let o := escPort (next p q)
      match linkTo p o with
      | some (r, _) => (p * 8 + o) :: escLinks next q k r
      | none => []

/-- Edges of the dependency graph of the escape channels of some routers: links taken one after the other on some route. -/
def escEdges (live : List Nat) (next : Nat → Nat → Nat) : List (Nat × Nat) :=
  (live.flatMap (fun p => live.flatMap (fun q => let l := escLinks next q 2 p; l.zip (l.drop 1)))).eraseDups

/-- Edges left after removing, k times, every edge into a node without an outgoing edge. -/
def pruneEdges : Nat → List (Nat × Nat) → List (Nat × Nat)
  | 0, l => l
  | k + 1, l => pruneEdges k (l.filter (fun e => l.any (fun f => decide (f.1 = e.2))))

/-- R259: the dependency graph has no cycle, and every live router reaches every other. -/
def State.escRouted (s : State) (next : Nat → Nat → Nat) : Bool :=
  let live := (List.range 576).filter (fun p => (s.slot p).routerOn)
  live.all (fun p => live.all (fun q => decide (s.escWalk next q 576 p = some q))) && (pruneEdges 4608 (escEdges live next)).isEmpty

/-- A table set put before R259: it is installed if it passes, and otherwise waits with the old one in force. -/
def State.putEsc (s : State) (t : Tab Nat) : State :=
  ({ s with escNew := some (t, s.escRouted (fun p q => tget escDefault t (p * 1024 + q))) } : State).escSettle

/-- The table set as it is written: the one that waits, or the one in force. -/
def State.escWritten (s : State) : Tab Nat := (s.escNew.map (fun x => x.1)).getD s.esc

/-! ## Flits through a router (R256 to R258, R261, R263) -/

/-- Free credits of an output port and channel. -/
def Router.credit (r : Router) (o vc : Nat) : Nat := tget (fun _ => 6) r.credits (o * 4 + vc)
/-- Flits in the buffer of an input channel. -/
def Router.buf (r : Router) (key : Nat) : List Flit := tget (fun _ => []) r.bufs key
/-- The buffer of an input channel changed. -/
def Router.setBuf (r : Router) (key : Nat) (l : List Flit) : Router := { r with bufs := tset (fun _ => []) r.bufs key l }
/-- An output channel that no other packet holds, with a credit. -/
def Router.free (r : Router) (o vc : Nat) : Bool := decide (0 < r.credit o vc) && (tget (fun _ => none) r.owner (o * 4 + vc)).isNone

/-- The flit that leaves an input channel, or is discarded there, gives its credit back to the router that feeds it (R256). -/
def State.returnCredit (s : State) (p key : Nat) : State :=
  match linkTo p (key / 4) with
  | some (u, q) => s.modRouter u (fun r => { r with credits := tset (fun _ => 6) r.credits (q * 4 + key % 4) (min 6 (r.credit q (key % 4) + 1)) })
  | none => s

/-- A head at the slot it names, whose core has moved, is re-steered to the slot that holds the core (R257); none when it is not. -/
def State.resteered (s : State) (p : Nat) (f : Flit) : Option Flit :=
  let lc := hdr f 4 2
  match headDest f with
  | (q, none) =>
    if q = p ∧ lc.testBit 15 ∧ s.holder p ≠ some (lc % 512) then
      (s.slotOf (lc % 512)).map (fun x => resealFlit { f with data := BitVec.ofNat 2048 (f.data.toNat / 65536 * 65536 + posCode x) })
    else none
  | _ => none

/-- The head of an input channel re-steered where it must be, and counted once (R257). -/
def State.resteer (s : State) (p key : Nat) : State :=
  let r := s.router p
  match r.buf key with
  | [] => s
  | f :: rest => match if isHead f then s.resteered p f else none with
    | some g => ((s.modRouter p (fun r => r.setBuf key (g :: rest))).count (s.slotPage p rMESH_CNT) 31 0 1).orReg (s.slotPage p rMESH_STATUS) 2
    | none => s

/-- Output ports on a shortest path from p to q that are not DOWN, in the order that ties take (R258). -/
def State.shortPorts (s : State) (p q : Nat) : List Nat :=
  let east := decide (meshCol p < meshCol q)
  let west := decide (meshCol q < meshCol p)
  let south := decide (meshRow p < meshRow q)
  let north := decide (meshRow q < meshRow p)
  let seam := hasSeam2 p && (if p < 288 then south else north)
  (([(1, east), (3, west), (0, north), (2, south), (5, seam)].filter (fun x => x.2 && !s.portDown p x.1)).map (fun x => x.1))

/-- The port with most credits among some, the first of equals. -/
def Router.best (r : Router) (vc : Nat) : List Nat → Option Nat
  | [] => none
  | o :: os => match r.best vc os with
    | some x => if r.credit o vc < r.credit x vc then some x else some o
    | none => some o

/-- The escape output of a class's channel from router p toward q: none without a credit, and none for a new head while a table set is being
installed (R259). -/
def State.escOut (s : State) (p q vc : Nat) : Option (Nat × Nat) :=
  let o := escPort (s.escape p q)
  let installing := decide (vc % 2 = 0) && ((s.escNew.map (fun x => x.2)).getD false)
  if (s.router p).free o (vc / 2 * 2 + 1) ∧ ¬installing then some (o, vc / 2 * 2 + 1) else none

/-- Where the head of channel vc goes from router p: output port and channel; none while it waits (R258, R261). `esc`: it has
waited long enough for the escape channel. -/
def State.chooseOut (s : State) (p vc : Nat) (f : Flit) (esc : Bool) : Option (Nat × Nat) :=
  let r := s.router p
  let (q, ring) := headDest f
  if q = p then (if (tget (fun _ => none) r.owner (ring.getD 4 * 4 + vc)).isNone then some (ring.getD 4, vc) else none)
  else
    let ps := s.shortPorts p q
    if vc % 2 = 1 then s.escOut p q vc
    else match r.best vc (ps.filter (fun o => r.free o vc)) with
      | some o => some (o, vc)
      | none => if esc ∨ ps.isEmpty then s.escOut p q vc else none

/-- HOPS of a head flit counts one router more, saturating at 255 (R254). -/
def hopped (f : Flit) : Flit :=
  if isHead f then { f with data := BitVec.ofNat 2048 (f.data.toNat + (if hdr f 11 1 < 255 then 2 ^ 88 else 0)) } else f

/-- A flit leaves the mesh by a LOCAL or ring port: with its tail the packet has come (R254). -/
def State.deliverFlit (s : State) (p o vc : Nat) (f : Flit) : State :=
  let k := o * 4 + vc
  let fs := tget (fun _ => []) (s.router p).asm k ++ [f]
  let s := s.modRouter p (fun r => { r with asm := tset (fun _ => []) r.asm k (if isTail f then [] else fs) })
  let s := if isTail f then s.land fs else s
  if o = 4 then (match s.holder p with
    | some n => s.event n 0x17 1
    | none => s)
  else s.dieEvent (p / 144) 0x10 0 1

/-- A flit leaves router p by an output; a credit is spent there and one returns to the router that feeds the input. The packet holds the
output channel up to its tail. -/
def State.passFlit (s : State) (p key o vc : Nat) (f : Flit) (rest : List Flit) : State :=
  let tail := isTail f
  let f := resealFlit { hopped f with vc := BitVec.ofNat 2 vc }
  let s := s.modRouter p (fun r => { r.setBuf key rest with
    route := tset (fun _ => none) r.route key (if tail then none else some (o * 4 + vc))
    owner := tset (fun _ => none) r.owner (o * 4 + vc) (if tail then none else some key) })
  let s := (s.count (s.slotPage p (rMESH_CNTp + 8 * o)) 63 32 1).returnCredit p key
  match linkTo p o with
  | some (q, port) =>
    let s := s.modRouter p (fun r => { r with credits := tset (fun _ => 6) r.credits (o * 4 + vc) (r.credit o vc - 1) })
    let s := if p / 144 = q / 144 then s else s.dieEvent (p / 144) 0x0F (if o = 1 ∨ o = 3 then 0 else 1) 1
    { s with flits := s.flits ++ [⟨q, port, f⟩] }
  | none => s.deliverFlit p o vc f

/-- The first flit of an input channel moves on, if it can; and whether it did. -/
def State.moveFlit (s : State) (p key : Nat) (esc : Bool) : State × Bool :=
  let s := s.resteer p key
  let r := s.router p
  match r.buf key with
  | [] => (s, false)
  | f :: rest =>
    if isHead f then
      match s.chooseOut p (key % 4) f esc with
      | none => (s, false)
      | some (o, vc) =>
        let s := if vc % 2 = 1 ∧ key % 2 = 0 then s.orReg (s.slotPage p rMESH_STATUS) 4 else s
        (s.passFlit p key o vc f rest, true)
    else match tget (fun _ => none) r.route key with
      | some w => if linkTo p (w / 4) = none ∨ 0 < r.credit (w / 4) (w % 4) then (s.passFlit p key (w / 4) (w % 4) f rest, true) else (s, false)
      | none => ((s.modRouter p (fun r => r.setBuf key rest)).returnCredit p key, true)

/-- Flits of an input channel move on while they can. -/
def State.moveAll (s : State) (p key : Nat) (esc : Bool) : Nat → State
  | 0 => s
  | fuel + 1 => match s.moveFlit p key esc with
    | (s, true) => s.moveAll p key false fuel
    | (s, false) => s

/-- Every input channel of router p moves what it can. -/
def State.pump (s : State) (p : Nat) : State := ((List.range 24).foldl (fun s key => s.moveAll p key false 6) s).escSettle

/-- A flit accepted at an input channel: buffered, and moved on as far as credits allow. -/
def State.acceptFlit (s : State) (p key : Nat) (f : Flit) : State :=
  (s.modRouter p (fun r => r.setBuf key (r.buf key ++ [f]))).pump p

/-- A flit discarded at a port that a seam link enters is counted at the seam (MESH_SEAMj_ERR). -/
def State.seamDrop (s : State) (p port : Nat) : State :=
  match linkTo p port with
  | some (q, _) =>
    if q / 144 = p / 144 then s else s.count (dieKey (p / 144) (rMESH_SEAMj_ERR + (if q / 288 = p / 288 then 0 else 64))) 31 0 1
  | none => s

/-- The flit that reaches an input port next: the first on its way there whose channel's buffer has room for it (R256). -/
def State.nextFlit (s : State) (p port : Nat) : Option FlitWire :=
  s.flits.find? (fun w => decide (w.at_ = p) && decide (w.port = port) && decide (((s.router p).buf (port * 4 + w.flit.vc.toNat)).length < 6))

/-- A flit discarded at an input channel: its credit goes back, and its packet arrives no more. `sent`: as it left. -/
def State.discardFlit (s : State) (p key : Nat) (sent : Flit) : State :=
  (((s.lose sent).returnCredit p key).seamDrop p (key / 4)).escSettle

/-- FLIT_ARRIVE (R253, R258, R261, R263): the next flit of an input port of router p arrives with the bits of `err` inverted, on the channel that it was
sent on. A router without power loses it. -/
def execFlitArrive (p : PhysId) (port : RPort) (err : BitVec 2085) (s : State) : Host.Outcome State Fault Refusal :=
  match s.nextFlit p (portNo port) with
  | none => .next s
  | some w =>
    let f := damagedFlit w.flit err
    let key := portNo port * 4 + w.flit.vc.toNat
    let s := { s with flits := s.flits.erase w }
    let r := s.router p
    let dropping := tget (fun _ => false) r.drop key
    if !(s.slot p).routerOn then .next (((s.lose w.flit).returnCredit p key).escSettle)
    else
      let bad := !flitOk f
      let s := if bad then (s.count (s.slotPage p (rMESH_CNTp + 8 * portNo port)) 31 0 1).orReg (s.slotPage p rMESH_STATUS) 1 else s
      if dropping then
        .next ((if f.kind = 2 then s.modRouter p (fun r => { r with drop := tset (fun _ => false) r.drop key false }) else s).discardFlit p key w.flit)
      else if bad ∧ isHead f then
        .next ((s.modRouter p (fun r => { r with drop := tset (fun _ => false) r.drop key true })).discardFlit p key w.flit)
      else
        let killed := !isHead f && (bad || f.kill || tget (fun _ => false) r.kill key)
        let g := if killed then resealFlit { f with kill := true, data := if bad then 0 else f.data } else f
        let s := s.modRouter p (fun r => { r with kill := tset (fun _ => false) r.kill key (killed && !isTail f) })
        .next (s.acceptFlit p key { g with vc := w.flit.vc })

/-- ESCAPE_FALLBACK (R258): heads of a port that have waited 8 stages without an adaptive credit take the escape channel of their
class when it has a credit. -/
def execEscapeFallback (p : PhysId) (port : RPort) (s : State) : Host.Outcome State Fault Refusal :=
  let k := portNo port * 4
  if (s.slot p).routerOn then .next (((s.moveAll p k true 6).moveAll p (k + 2) true 6).pump p) else .next s

/-! ## Registers -/

/-- ESCDATA_WRITE (R259, MESH_ESCIDX, MESH_ESCDATA): the entry that MESH_ESCIDX names is written, and takes effect under R259: with the set that
it stands in, once that passes the check. -/
def execEscdataWrite (who : Initiator) (d : DieId) (v : Word) (s : State) : Host.Outcome State Fault Refusal :=
  .next (s.gateReg who (dieKey d rMESH_ESCDATA) (fun s =>
    let idx := s.reg (dieKey d rMESH_ESCIDX)
    let r := field idx 7 0
    let q := field idx 25 16
    let c := field v 2 0
    if 144 ≤ r ∨ 576 ≤ q ∨ 6 ≤ c then s
    else s.putEsc (tset escDefault s.escWritten ((d.val * 144 + r) * 1024 + q) c)))

/-- A port of router p goes DOWN or comes up by the Warden's mark (R261). -/
def State.markPort (s : State) (p port : Nat) (down : Bool) : State :=
  let key := s.slotPage p (rMESH_PORTp + 8 * port)
  let was := bitOf (s.reg key) 62
  let s := s.setReg key (setBit (s.reg key) 62 down)
  if down ∧ !was then s.orReg (s.slotPage p rMESH_STATUS) 8 else s

/-- MARK_DOWN_WRITE (R261): a write of MARK_DOWN in MESH_PORTp. -/
def execMarkDownWrite (who : Initiator) (c : CoreId) (port : RPort) (v : Word) (s : State) : Host.Outcome State Fault Refusal :=
  .next (s.gateReg who (coreKey c (rMESH_PORTp + 8 * portNo port)) (fun s => match s.slotOf c with
    | some p => s.markPort p (portNo port) (bitOf v 62)
    | none => s))

/-- A free repair wire. -/
abbrev wireFree : Nat := 0xFFF
/-- Data wire that repair wire i of seam j of die d replaces. -/
def State.seamWire (s : State) (d j i : Nat) : Nat := tget (fun _ => wireFree) s.seamWires ((d * 2 + j) * 1024 + i)
/-- Repair wire i of seam j of die d assigned or freed. -/
def State.setSeamWire (s : State) (d j i w : Nat) : State :=
  { s with seamWires := tset (fun _ => wireFree) s.seamWires ((d * 2 + j) * 1024 + i) w }

/-- Repair wires of seam j: 128, and the further repair wires of an N–S seam, which no register names. -/
def seamSpares (j : Nat) : Nat := if j = 0 then 128 else 576
/-- Repair wires assigned, all seams (BOOT_LINKS). -/
def State.seamRepairs (s : State) : Nat := s.seamWires.countP (fun e => decide (e.2 ≠ wireFree))

/-- Data wires of the lattice crossings of seam j, the first of the table of R270. -/
def latticeWires (j : Nat) : Nat := if j = 0 then 1024 else 576
/-- The mesh link that a data wire of seam j carries; none for another group. -/
def seamLinkOf (j w : Nat) : Option Nat :=
  let l := latticeWires j
  if l ≤ w ∧ w < l + 1920 then some ((w - l) / 120) else none
/-- A control-tree, beacon or lattice wire of seam j, which is repaired before mesh wires. -/
def seamVital (j w : Nat) : Bool := decide (w < latticeWires j + 2048) && (seamLinkOf j w).isNone

/-- The port of mesh link r of seam j at die d (R251). -/
def seamPort (d j r : Nat) : Nat × Nat :=
  let e := d * 144
  if j = 0 then (e + r * 9 + (if d % 2 = 0 then 8 else 0), if d % 2 = 0 then 1 else 3)
  else if r < 9 then (e + (if d < 2 then 15 else 0) * 9 + r, if d < 2 then 2 else 0)
  else (e + (if d < 2 then 15 else 0) * 9 + (r - 8), 5)

/-- Mesh link r of seam j of die d is in service: neither of its ports is DOWN (R251, R261). -/
def State.seamLinkUp (s : State) (d j r : Nat) : Bool := !s.portDown (seamPort d j r).1 (seamPort d j r).2

/-- Free repair wires of seam j of die d. -/
def State.freeWires (s : State) (d j : Nat) : List Nat := (List.range (seamSpares j)).filter (fun i => s.seamWire d j i = wireFree)

/-- Mesh links of a seam, from 0, whose failing wires can all be repaired when `room` repair wires are left: above them, links with failing
wires are taken down (R270). -/
def linksKept (j room : Nat) (bad : List Nat) : Nat :=
  ((List.range 17).reverse.find? (fun k => decide (bad.countP (fun w => ((seamLinkOf j w).map (fun r => decide (r < k))).getD false) ≤ room))).getD 0

/-- Both ports of a mesh link of seam j go DOWN. -/
def State.dropSeamLink (s : State) (d j r : Nat) : State :=
  let e := seamPort d j r
  let s := s.markPort e.1 e.2 true
  match linkTo e.1 e.2 with
  | some (q, port) => s.markPort q port true
  | none => s

/-- The Warden repairs the failing data wires of seam j of die d: control-tree, beacon and lattice wires first; mesh links that it cannot repair
are taken down, link 15 first (R270). -/
def State.repairSeam (s : State) (d j : Nat) (bad : List Nat) : State :=
  let free := s.freeWires d j
  let vital := bad.filter (seamVital j)
  let kept := linksKept j (free.length - vital.length) bad
  let mesh := bad.filter (fun w => ((seamLinkOf j w).map (fun r => decide (r < kept))).getD false)
  let s := ((vital ++ mesh).zip free).foldl (fun s x => s.setSeamWire d j x.2 x.1) s
  ((bad.filterMap (seamLinkOf j)).filter (fun r => decide (kept ≤ r))).foldl (fun s r => s.dropSeamLink d j r) s

/-- Failing wires of seam j of die d. -/
def badWiresOf (bad : List (DieId × Fin 2 × BitVec 12)) (d j : Nat) : List Nat :=
  ((bad.filter (fun x => decide (x.1.val = d) && decide (x.2.1.val = j))).map (fun x => x.2.2.toNat)).eraseDups

/-- The first seam, as die × 2 + j, with a control-tree, beacon or lattice wire that no repair wire is left for (spec/14 R456). -/
def State.seamsUnfit (s : State) (bad : List (DieId × Fin 2 × BitVec 12)) : Option Nat :=
  (List.range 8).find? (fun k =>
    decide ((s.freeWires (k / 2) (k % 2)).length < ((badWiresOf bad (k / 2) (k % 2)).filter (seamVital (k % 2))).length))

/-- Every seam repaired (R270, spec/14 R456). -/
def State.repairSeams (s : State) (bad : List (DieId × Fin 2 × BitVec 12)) : State :=
  (List.range 8).foldl (fun s k => s.repairSeam (k / 2) (k % 2) (badWiresOf bad (k / 2) (k % 2))) s

/-- SEAM_RPR_WRITE (R270): WRITE stores TARGET in repair wire INDEX; 0xFFF frees it, and no other value above 3,071 names a wire. -/
def execSeamRprWrite (who : Initiator) (d : DieId) (j : Fin 2) (v : Word) (s : State) : Host.Outcome State Fault Refusal :=
  let key := dieKey d (rMESH_SEAMj_RPR + 64 * j.val)
  .next (s.gateReg who key (fun s =>
    let s := s.setReg key (BitVec.ofNat 64 (field v 19 8 * 256 + field v 6 0))
    let w := field v 19 8
    if bitOf v 31 ∧ (w < 3072 ∨ w = wireFree) then s.setSeamWire d j (field v 6 0) w else s))

end Sys2Proof.Machine
end

