-- ==== Sys2Proof/Machine/TaskLife.lean ====
section
/-! DEFINITION. The life of a task: reservation of its start, its image, loading, the end and the scrub of its regions, KILL and
HOLD (spec/04 R129, R142 to R156, spec/05 R171, R173, R180, R181, spec/07 R217, R218, R229, R243, R244, spec/11 R374). -/

namespace Sys2Proof.Machine

/-! ## The image (spec/04 R148, R149) -/

/-- A header whose MAGIC, VERSION, limits and reserved fields are right: the header checks of R149. -/
def headerOk (h : Bytes) : Bool :=
  decide (leAt h 0 4 = 0x4B53545A) && decide (leAt h 4 2 = 1) && decide (leAt h 6 2 < 4) && decide (leAt h 8 4 ≤ 2 ^ 24) &&
  decide (1 ≤ leAt h 16 4) && decide (leAt h 16 4 ≤ 32768) && decide (1 ≤ leAt h 28 2) && decide (leAt h 28 2 ≤ 21) &&
  decide (leAt h 30 2 ≤ 8) && decide (leAt h 40 2 ≤ 4096) && decide (leAt h 44 4 ≤ 4000000) && zeroFrom h 48 12

/-- A region entry with its placement: the regions of a table from a base, each at the next 4 KiB boundary (spec/05 R171). -/
def placeRegions : Nat → List Bytes → List Region
  | _, [] => []
  | p, e :: es =>
    let b := alignUp p 4096
    let size := leAt e 0 4
    let flags := leAt e 6 1
    ⟨leAt e 4 1, leAt e 5 1, b, size, flags.testBit 1, if flags.testBit 0 then some (leAt e 8 4) else none⟩ :: placeRegions (b + size) es

/-- Entries of n bytes from an offset. -/
def entriesOf (b : Bytes) (off n count : Nat) : List Bytes := (List.range count).map (fun i => (b.drop (off + n * i)).take n)

/-- What the header, the resource block and the region table of an image give to a start at a scratchpad base. -/
def imageInfo (addr base : Nat) (h res : Bytes) (regs : List Bytes) (embers : List EmberPoint) : ImageInfo :=
  let rs := placeRegions base regs
  { addr := addr, scrubAll := (leAt h 6 2).testBit 0, lattice := (leAt h 6 2).testBit 1, length := leAt h 8 4
    codeLen := leAt h 16 4, entry := leAt h 42 2, waitUs := leAt h 44 4, arrays := leAt res 0 1 % 16, sheaves := leAt res 1 1
    cfgSlots := leAt res 2 1, evc := leAt res 3 1, statBase := leAt res 4 4 % 2 ^ 14, statCount := leAt res 4 4 / 2 ^ 16 % 2 ^ 15
    queues := leAt res 8 8, codeBase := ((rs.find? (fun r => decide (r.kind = 2))).map (fun r => r.base)).getD 0
    embers := embers, regions := rs }

/-- The image parts that a reservation reads (spec/11 R374). -/
def State.readInfo (s : State) (addr base : Nat) (h : Bytes) : ImageInfo :=
  imageInfo addr base h (s.bytes (addr + leAt h 20 4) 64) (entriesOf (s.bytes (addr + leAt h 24 4) (16 * leAt h 28 2)) 0 16 (leAt h 28 2)) []

/-- Numbers of a list that come twice. -/
def hasDup (l : List Nat) : Bool := !decide l.Nodup

/-- Region entries that R149 and spec/05 R173 allow. -/
def regionsOk (b : Bytes) (length codeLen : Nat) (es : List Bytes) : Bool :=
  let kind (e : Bytes) := leAt e 4 1
  let idx (e : Bytes) := leAt e 5 1
  let size (e : Bytes) := leAt e 0 4
  es.all (fun e => decide (size e % 64 = 0) && decide (kind e ≤ 3) && decide (leAt e 6 1 < 4) && zeroFrom e 7 1 && zeroFrom e 12 4 &&
    (decide (kind e ≠ 0) || decide (idx e < 4)) &&
    (decide (kind e ≠ 1) || (decide (idx e < 16) && (List.range 12).any (fun i => decide (size e = 2 ^ (12 + i))))) &&
    (!(leAt e 6 1).testBit 0 || decide (leAt e 8 4 + size e ≤ length))) &&
  !hasDup ((es.filter (fun e => decide (kind e = 0))).map idx) && !hasDup ((es.filter (fun e => decide (kind e = 1))).map idx) &&
  decide (es.countP (fun e => decide (kind e = 2)) = 1) && es.all (fun e => decide (kind e ≠ 2) || decide (8 * codeLen ≤ size e)) &&
  decide (es.countP (fun e => decide (kind e = 3)) ≤ 1) && decide (b.length = length)

/-- Ember point entries that R149 allows. -/
def embersOk (codeLen : Nat) (es : List Bytes) : Bool :=
  es.all (fun e => decide (leAt e 2 2 < codeLen) && zeroFrom e 7 1) && !hasDup (es.map (fun e => leAt e 0 2))

/-- The configuration entries of an image, one after another: header and schedule; none when one runs past the image or is not
allowed (R144, R149). -/
def cfgEntries (b : Bytes) (codeLen : Nat) : Nat → Nat → Option (List CfgSlot)
  | _, 0 => some []
  | off, n + 1 =>
    let h := (b.drop off).take 64
    let len := leAt h 2 2
    if cfgEntryOk h codeLen ∧ off + 64 + len ≤ b.length then
      (cfgEntries b codeLen (off + 64 + len) n).map (fun l => ⟨leAt h 0 2, (b.drop (off + 64)).take len⟩ :: l)
    else none

/-- A section at an offset lies within the image, aligned to 64 B (R148, R149). -/
def sectionOk (length off len : Nat) : Bool := decide (off % 64 = 0) && decide (off + len ≤ length)

/-- The checks of R149 over the whole image b, but for its QCFG region and schedules. -/
def imageOk (b : Bytes) : Bool :=
  let h := b.take 64
  let length := leAt h 8 4
  let codeLen := leAt h 16 4
  let nReg := leAt h 28 2
  let nCfg := leAt h 30 2
  let nEmb := leAt h 40 2
  let res := (b.drop (leAt h 20 4)).take 64
  let lattice := (leAt h 6 2).testBit 1
  let slots := leAt res 2 1
  headerOk h && decide ((crc32 ((b.take 60) ++ leBytes 4 0 ++ b.drop 64)).toNat = leAt h 60 4) && decide (64 ≤ length) &&
  sectionOk length (leAt h 12 4) (8 * codeLen) && sectionOk length (leAt h 20 4) 64 && sectionOk length (leAt h 24 4) (16 * nReg) &&
  (decide (nCfg = 0) || sectionOk length (leAt h 32 4) 64) && (decide (nEmb = 0) || sectionOk length (leAt h 36 4) (8 * nEmb)) &&
  decide (leAt h 42 2 < codeLen) && decide (leAt res 0 1 < 16) && decide (leAt res 4 4 / 2 ^ 14 % 4 = 0) && decide (leAt res 4 4 < 2 ^ 31) &&
  zeroFrom res 16 48 && regionsOk b length codeLen (entriesOf b (leAt h 24 4) 16 nReg) && embersOk codeLen (entriesOf b (leAt h 36 4) 8 nEmb) &&
  (if lattice then slots.testBit 0 && decide (1 ≤ nCfg) && decide (nCfg ≤ popCount 8 slots) else decide (nCfg = 0) && decide (slots = 0)) &&
  (cfgEntries b codeLen (leAt h 32 4) nCfg).isSome

/-! ## The start (spec/04 R142, R143, spec/11 R374) -/

/-- Slots of core c that hold a task, its own left out. -/
def Core.holders (c : Core) (t : Nat) : List Task := ((List.range 4).filter (fun u => decide (u ≠ t) && (c.task u).holds)).map c.task

/-- Two ranges share an element; an empty one shares none. -/
def rangesMeet (a m b k : Nat) : Bool := decide (0 < m ∧ 0 < k ∧ a < b + k ∧ b < a + m)

/-- Two statistics windows overlap (spec/03 R113). -/
def statsOverlap (a b : ImageInfo) : Bool := rangesMeet a.statBase a.statCount b.statBase b.statCount

/-- Circular region numbers of an image. -/
def ImageInfo.circs (i : ImageInfo) : List Nat := (i.regions.filter (fun r => decide (r.kind = 1))).map (fun r => r.index)

/-- Every refusal reason of R142 that applies to a start on core n, lowest first. -/
def State.refusals (s : State) (n : Nat) (i : ImageInfo) : List Nat :=
  let c := s.core n
  let os := c.holders 4
  let when (b : Bool) (code : Nat) : List Nat := if b then [code] else []
  when (decide (os.length = 4)) 1 ++ when (os.any (fun k => decide (k.img.arrays &&& i.arrays ≠ 0))) 2 ++
  when (os.any (fun k => decide (k.img.queues &&& i.queues ≠ 0))) 3 ++ when (os.any (fun k => decide (k.img.sheaves &&& i.sheaves ≠ 0))) 4 ++
  when (os.any (fun k => statsOverlap k.img i)) 5 ++
  when (i.regions.any (fun r => decide (spadSize < r.base + r.size) || !s.spadPowered n r.base r.size ||
      c.regionSpans.any (fun q => rangesMeet q.1 q.2 r.base r.size)) ||
    os.any (fun k => k.img.circs.any (fun x => i.circs.contains x))) 6 ++
  when (decide (i.cfgSlots ≠ 0) && os.any (fun k => decide (k.img.cfgSlots ≠ 0))) 7 ++
  when (os.any (fun k => decide (k.img.evc &&& i.evc ≠ 0))) 8 ++
  when (s.row (n / 8)).revising 9 ++ when (i.lattice && c.stopped) 10

/-- Answer code of a reservation whose header failed its checks. -/
abbrev badHeader : Nat := 255

/-- The answer of a reservation whose tasks have all been answered: a failed header, or else a refusal, ends the job (R374). -/
def Job.refused (j : Job) : Option JobCause :=
  let least (p : JobTask → Bool) : Option JobTask :=
    j.tasks.foldl (fun m x => if p x then (match m with
      | some y => if x.no.toNat < y.no.toNat then some x else some y
      | none => some x) else m) none
  if j.tasks.any (fun x => x.answer.isNone) then none
  else match least (fun x => decide (x.answer = some badHeader)) with
    | some x => some ⟨stBadDescriptor, endBadImage, 0, some (x.core, x.no), 0⟩
    | none => (least (fun x => decide (x.answer ≠ some 0))).map (fun x => ⟨stConflict, 0, x.answer.getD 0, some (x.core, x.no), 0⟩)

/-- A reservation's answer reaches the front end (R374). -/
def State.answerStart (s : State) (n : Nat) (req : StartReq) (ans : Nat) (slot : Option Nat) : State :=
  let tag := req.jobTag.toNat
  let mine (x : JobTask) : Bool := decide (x.core = n) && decide (x.no = req.taskNo) && x.answer.isNone
  let s := s.modJob tag (fun j => { j with tasks := modFirst mine (fun x => { x with answer := some ans, slot := slot }) j.tasks })
  match (s.job tag).bind Job.refused with
  | some c => s.jobCause tag c
  | none => s

/-- The record that a slot keeps of its last task (SEQ_TSTATt, SEQ_TDETAILt and the like). -/
def Task.last (k : Task) : Task :=
  { Task.zero with endValid := k.endValid, endCode := k.endCode, async := k.async, detail := k.detail, pc := k.pc
                   img := { ImageInfo.zero with addr := k.img.addr }, tag := k.tag, number := k.number, next := k.next
                   pendBits := k.pendBits, mclog := k.mclog }

/-- START_RESERVATION (R142, R143, R149, R374): the sequencer of core c reads the image header and holds the lowest free slot, or
refuses with the lowest code that applies. It waits while the core's slot is tested in place or the core
migrates (spec/13 R425, R429). -/
def execStartReservation (c : CoreId) (req : StartReq) (s : State) : Host.Outcome State Fault Refusal :=
  if !s.live c ∨ s.startsWait c then .next s
  else
    let a := req.image.toNat
    let (go, s) := s.snooped a 64 false
    if !go then .next s
    else match s.ringRead a 64 with
    | (none, s) => .next (s.answerStart c req badHeader none)
    | (some h, s) =>
      if !headerOk h then .next (s.answerStart c req badHeader none)
      else
        let i := s.readInfo a req.spadBase.toNat h
        match s.refusals c i with
        | code :: _ => .next ((s.modCore c (fun k => { k with refusal := code })).answerStart c req code none)
        | [] =>
          let t := ((List.range 4).find? (fun t => !((s.core c).task t).holds)).getD 0
          let s := s.modTask c t (fun k => { k.last with reserved := true, img := i, arg := req.arg, tag := req.jobTag, number := req.taskNo
                                                         spadBase := req.spadBase.toNat })
          .next (s.answerStart c req 0 (some t))

/-- Tasks that a job reserved enter LOADING. -/
def Core.go (c : Core) (tag : BitVec 32) : Core :=
  (List.range 4).foldl (fun c t =>
    let k := c.task t
    if k.reserved ∧ k.tag = tag then c.setTask t { k with reserved := false, phase := .loading } else c) c

/-- START_GO (R374): every task of the job is reserved and enters LOADING. -/
def execStartGo (jobTag : BitVec 32) (s : State) : Host.Outcome State Fault Refusal :=
  let tag := jobTag.toNat
  match s.job tag with
  | some j =>
    if j.phase = .reserving ∧ j.cause.isNone ∧ j.tasks.all (fun x => decide (x.answer = some 0)) then
      let s := s.setJob tag (some { j with phase := .running })
      .next (j.tasks.foldl (fun s x => s.modCore x.core (fun c => c.go jobTag)) s)
    else .next s
  | none => .next s

/-- RESERVATION_CANCEL (R374): the slot and the resources that it held are free. -/
def execReservationCancel (c : CoreId) (t : TaskSlot) (s : State) : Host.Outcome State Fault Refusal :=
  let k := s.task c t
  if k.reserved then
    let s := s.setTask c t k.last
    .next (s.modJob k.tag.toNat (fun j => { j with tasks := j.tasks.map (fun x =>
      if x.core = c.val ∧ x.slot = some t.val then { x with slot := none } else x) }))
  else .next s

/-! ## Loading (spec/04 R147, R149, spec/05 R180, spec/07 R217, R218) -/

/-- A queue entry of a QCFG region that R218 allows. -/
def queueEntryOk (i : ImageInfo) (e : Bytes) : Bool :=
  let q := leAt e 0 1
  let mode := leAt e 1 1
  let land := mode / 4 % 4
  decide (q < 64) && i.queues.testBit q && decide (mode / 2 % 2 = 0) && decide (land < 3) &&
  decide (8 ≤ leAt e 2 2) && decide (leAt e 2 2 ≤ 256) && decide (1 ≤ leAt e 4 1) && decide (leAt e 4 1 ≤ 64) && decide (leAt e 5 1 < 4) &&
  decide (leAt e 6 2 < 4096) && zeroFrom e 8 8 && (decide (land ≠ 1) || mode.testBit 0) &&
  (decide (land ≠ 2) || (!mode.testBit 0 && i.circs.contains (mode / 16)))

/-- Entry space that a queue entry needs (R217). -/
def queueSpace (e : Bytes) : Nat := leAt e 2 2 * (if (leAt e 1 1).testBit 0 then 64 else 32) + 8 * leAt e 4 1

/-- Bytes of a sheaf region (R243). -/
def sheafBytes (lanes senders : Nat) : Nat := 2 * lanes * 64 + alignUp (8 * lanes) 64 + 8 * senders

/-- A sheaf entry of a QCFG region that R218 and R243 allow. -/
def sheafEntryOk (i : ImageInfo) (e : Bytes) : Bool :=
  let h := leAt e 0 1
  let mode := leAt e 1 1
  let lanes := leAt e 2 2
  let senders := leAt e 4 2
  let expect := leAt e 6 4
  let a := leAt e 10 4
  let pair := (i.regions.find? (fun r => decide (r.kind = 0) && decide (r.index = a / 2 ^ 27))).map (fun r => r.size)
  decide (h < 8) && i.sheaves.testBit h && decide (mode < 16) && decide (mode % 4 ≠ 3) && decide (1 ≤ lanes) && decide (lanes ≤ 16384) &&
  decide (1 ≤ senders) && decide (senders ≤ 1024) && (if mode.testBit 2 then decide (expect = 0) else decide (1 ≤ expect) && decide (expect ≤ 2 ^ 24)) &&
  decide (a % 64 = 0) && decide (leAt e 14 2 < 4096) && (match pair with
    | some size => decide (a % 2 ^ 27 + sheafBytes lanes senders ≤ size)
    | none => false)

/-- The queue that an entry configures. -/
def queueOf (t : Nat) (e : Bytes) : RQueue :=
  let mode := leAt e 1 1
  { owner := t, desc := mode.testBit 0, land := mode / 4 % 4, ring := mode / 16, depth := leAt e 2 2, senders := leAt e 4 1
    anygenOk := (leAt e 5 1).testBit 0, remoteOk := (leAt e 5 1).testBit 1, window := leAt e 6 2, entries := [], table := [], resv := []
    departs := [], row := 0 }

/-- The sheaf that an entry configures: round 0 opens (R244). -/
def sheafOf (t : Nat) (e : Bytes) : Sheaf :=
  let mode := leAt e 1 1
  let x : Sheaf :=
    { owner := t, kind := mode % 4, openCount := mode.testBit 2, remoteOk := mode.testBit 3, lanes := leAt e 2 2, senders := leAt e 4 2
      expect0 := leAt e 6 4, region := leAt e 10 4, window := leAt e 14 2, phase := .opened, round := 0, received := 0, expect := none
      endSeen := false, loss := false, table := [] }
  x.open_ 0

/-- A QCFG region b that R217 and R218 allow. -/
def qcfgOk (i : ImageInfo) (b : Bytes) : Bool :=
  let nq := leAt b 3 1
  let ns := leAt b 4 1
  let qs := entriesOf b 16 16 nq
  let hs := entriesOf b (16 + 16 * nq) 16 ns
  decide (leAt b 0 2 = 0x5143) && decide (leAt b 2 1 = 1) && decide (nq ≤ 64) && decide (ns ≤ 8) && zeroFrom b 5 11 &&
  decide (16 + 16 * (nq + ns) ≤ b.length) && qs.all (queueEntryOk i) && hs.all (sheafEntryOk i) &&
  !hasDup (qs.map (fun e => leAt e 0 1)) && !hasDup (hs.map (fun e => leAt e 0 1)) &&
  decide ((qs.map queueSpace).sum ≤ 768 * popCount 64 i.queues)

/-- A QCFG region applied: queues configured, and each sheaf's buffer 0 and sender table cleared. -/
def State.applyQcfg (s : State) (n t : Nat) (b : Bytes) : State :=
  let nq := leAt b 3 1
  let s := (entriesOf b 16 16 nq).foldl (fun s e => s.modCore n (fun c => c.setQueue (leAt e 0 1) (some (queueOf t e)))) s
  (entriesOf b (16 + 16 * nq) 16 (leAt b 4 1)).foldl (fun s e =>
    let x := sheafOf t e
    let s := s.modCore n (fun c => c.setSheaf (leAt e 0 1) (some x))
    match (s.core n).xlate t (BitVec.ofNat 64 (x.laneAddr 0 0)) (64 * x.lanes) true with
    | .ok ps => (s.pieceStore n ps (clearedBuffer x.lanes)).tableBytes n t x 0 x.senders
    | _ => s) s

/-- One region made valid and filled (spec/05 R171, R180). -/
def State.openRegion (s : State) (n t : Nat) (b code : Bytes) (r : Region) : State :=
  let s :=
    if r.kind = 0 then s.modTask n t (fun k => { k with pairs := tset (fun _ => Pair.zero) k.pairs r.index ⟨true, r.base, r.size⟩ })
    else if r.kind = 1 then s.modCore n (fun c => c.setCirc r.index ⟨true, t, Nat.log2 r.size, r.base, 0, 0⟩)
    else s
  let s := match r.init with
    | some o => s.store (spadAddr n r.base) ((b.drop o).take r.size)
    | none => s
  if r.kind = 2 then s.store (spadAddr n r.base) code else s

/-- Registers of a task at its start (R129): g1 the start argument, g2 the core, everything else zero. -/
def Task.started (k : Task) (n : Nat) (i : ImageInfo) : Task :=
  let z : Task := { Task.zero with
    phase := .running, pc := i.entry, img := i, arg := k.arg, tag := k.tag, number := k.number, spadBase := k.spadBase, pairs := k.pairs
    endValid := k.endValid, endCode := k.endCode, async := k.async, detail := k.detail, mclog := k.mclog }
  (z.setG 1 k.arg).setG 2 (BitVec.ofNat 64 n)

/-- The configuration slots of a mask, lowest first, take the entries of the image (R147). -/
def Core.loadCfg (c : Core) (slots : List Nat) (es : List CfgSlot) : Core :=
  (slots.zip es).foldl (fun c x => { c with cfg := tset (fun _ => none) c.cfg x.1 (some x.2) }) c

/-- The lattice task of core n starts: slot 0 active with E = 0 on every link (R147). -/
def State.startLattice (s : State) (n t : Nat) (slots : List Nat) (es : List CfgSlot) : State :=
  let s := s.modCore n (fun c => { c.loadCfg slots es with owner := some t, epoch := 0, active := 0 })
  (List.range 4).foldl (fun s i => (s.switchIn n i).switchOut n i) s

/-- The QCFG region as the sequencer reads it, none when the image has none. Corrected words are counted, uncorrectable ones reported
(spec/05 R160, R185); a region read with one gives no contents that R218 allows. -/
def State.readQcfg (s : State) (n t : Nat) (i : ImageInfo) : Option Bytes × State :=
  match i.regions.find? (fun r => decide (r.kind = 3)) with
  | none => (none, s)
  | some r =>
    if s.ueIn n r.base r.size = 0 then (some (s.bytes (spadAddr n r.base) r.size), s.noteCe n (spadAddr n r.base) r.size)
    else (some [], s.noteUe n (s.firstBad n r.base r.size) (s.ueIn n r.base r.size) .narrow (s.jobTag n t))

/-- An image that passed its checks is loaded: regions, QCFG, statistics window, configurations, registers. -/
def State.loadImage (s : State) (n t : Nat) (b : Bytes) (i : ImageInfo) : State :=
  let h := b.take 64
  let code := (b.drop (leAt h 12 4)).take (8 * i.codeLen)
  let s := i.regions.foldl (fun s r => s.openRegion n t b code r) s
  let s := s.setReg (coreKey n (rROW_STATWINt + 8 * t)) (BitVec.ofNat 64 (i.statBase + i.statCount * 2 ^ 16))
  let (q, s) := s.readQcfg n t i
  let bad (s : State) (code : Nat) : State := s.endTask n t code 0
  if !((q.map (qcfgOk i)).getD true) then bad s endBadImage
  else
    let s := match q with
      | some b => s.applyQcfg n t b
      | none => s
    let es := (cfgEntries b i.codeLen (leAt h 32 4) (leAt h 30 2)).getD []
    if !es.all (fun e => s.schedOk n e.schedule) then bad (s.coreStat n rLAT_STATUS 7) endCfgSlot
    else
      let s := if i.lattice then s.startLattice n t (bitsOf i.cfgSlots 8) es else s
      s.modTask n t (fun k => { k.started n i with emberAt := s.ns })

/-- TASK_LOAD_COMPLETE (R147 to R149): the image has been read; it passes its checks and the task runs, or it ends. -/
def execTaskLoadComplete (c : CoreId) (t : TaskSlot) (s : State) : Host.Outcome State Fault Refusal :=
  let k := s.task c t
  if k.phase ≠ .loading ∨ !s.live c then .next s
  else
    let (go, s) := s.snooped k.img.addr k.img.length false
    if !go then .next s
    else match s.ringRead k.img.addr k.img.length with
    | (none, s) => .next (s.endTask c t endBadImage 0)
    | (some b, s) =>
      if !imageOk b then .next (s.endTask c t endBadImage 0)
      else
        let h := b.take 64
        let embers := (entriesOf b (leAt h 36 4) 8 (leAt h 40 2)).map (fun e => EmberPoint.mk (leAt e 0 2) (leAt e 2 2) (leAt e 4 2) (leAt e 6 1))
        let i := imageInfo k.img.addr k.spadBase h ((b.drop (leAt h 20 4)).take 64) (entriesOf b (leAt h 24 4) 16 (leAt h 28 2)) embers
        .next (s.loadImage c t b i)

/-! ## The end (spec/04 R150 to R155, spec/05 R181, spec/07 R229, spec/12 R388) -/

/-- References on the blocks of [o, o + len) of core n's scratchpad are dropped (spec/12 R388). -/
def State.dropRefs (s : State) (n o len : Nat) : State :=
  let u := s.sealUnit n
  s.setSeal n { u with refs := u.refs.filter (fun r => !(decide (r.block * 4096 < o + len) && decide (o < r.block * 4096 + 4096))) }

/-- Zero written to every byte of [a, a + len) of scratchpad. -/
def State.zeroRange (s : State) (a len : Nat) : State :=
  let hit (x : Nat) : Bool := decide (a ≤ x) && decide (x < a + len)
  { s with ram := tdrop hit s.ram, badWords := s.badWords.filter (fun x => !hit x), ceWords := s.ceWords.filter (fun x => !hit x) }

/-- A region of the task is scrubbed at its end (R181). -/
def State.scrubs (s : State) (n : Nat) (i : ImageInfo) (r : Region) : Bool :=
  r.scrub || i.scrubAll || bitOf (s.reg (coreKey n rSPAD_CTRL)) 0

/-- What the task's numbers and windows leave behind: generations rise, queues, sheaves and configuration slots are free
(spec/07 R229), and the statistics slots are scrubbed when the image asks (spec/03 R114). -/
def State.releaseUnits (s : State) (n t : Nat) (i : ImageInfo) : State :=
  let s := s.raiseMasks n i.queues i.sheaves
  s.modCore n (fun c =>
    let c := (bitsOf i.queues 64).foldl (fun c q => c.setQueue q none) c
    let c := (List.range 16).foldl (fun (c : Core) r => if (c.circ r).valid ∧ (c.circ r).owner = t then c.setCirc r .zero else c) c
    let c := if i.scrubAll then { c with stats := tdrop (fun x => decide (i.statBase ≤ x) && decide (x < i.statBase + i.statCount)) c.stats }
      else c
    if c.owner = some t then { c with owner := none, cfg := [] } else c)

/-- Regions are released, and with them the references on their blocks (spec/12 R388). -/
def State.releaseRegions (s : State) (n : Nat) (i : ImageInfo) : State := i.regions.foldl (fun s r => s.dropRefs n r.base r.size) s

/-- The end of the task in slot t is reported and the slot is EMPTY (R150, R154). -/
def State.endReport (s : State) (n t : Nat) : State :=
  let k := s.task n t
  let i := k.img
  let s := (s.releaseUnits n t i).releaseRegions n i
  let s := s.setTask n t { k.last with endValid := true }
  let s := if k.endCode = endOk then s
    else s.record ⟨sevTask, 4, 0x100 + k.endCode, 1, n, k.tag.toNat * 2 ^ 32 + k.number.toNat, 0, 0, 0⟩
  s.taskReported k.tag.toNat n k.number k.endCode

/-- The operations of a task in DRAINING are over: the regions to be scrubbed are scrubbed first, the task still in DRAINING and its regions held
(R181), and then its end is reported (R150). -/
def State.drained (s : State) (n t : Nat) : State :=
  let i := (s.task n t).img
  let rs := i.regions.filter (fun r => s.scrubs n i r)
  if rs.isEmpty then s.endReport n t
  else (s.modCore n (fun c => { c with scrubs := c.scrubs ++ rs.map (fun r => (t, r.base, r.size)) })).modTask n t (fun k => { k with scrubbing := true })

/-- TASK_DRAIN_COMPLETE (R150 to R154): a task that ended with END_OK has nothing outstanding; of one that ended otherwise, what is
still outstanding is discarded (DEDUCED: R150 ends DRAINING when operations have completed or been discarded). -/
def execTaskDrainComplete (c : CoreId) (t : TaskSlot) (s : State) : Host.Outcome State Fault Refusal :=
  let k := s.task c t
  if k.phase ≠ .draining ∨ k.scrubbing then .next s
  else if k.endCode = endOk then
    if (s.core c).outstanding t ∨ s.scanning c t then .next s else .next (s.drained c t)
  else .next ((s.discardOps c t).drained c t)

/-- SCRUB_COMPLETE (R181, R388): zero stands in every byte of the regions scrubbed; the task's regions are released and its end reported. -/
def execScrubComplete (c : CoreId) (t : TaskSlot) (s : State) : Host.Outcome State Fault Refusal :=
  let (mine, rest) := (s.core c).scrubs.partition (fun x => decide (x.1 = t.val))
  let s := s.modCore c (fun k => { k with scrubs := rest })
  let s := mine.foldl (fun s x => s.zeroRange (spadAddr c x.2.1) x.2.2) s
  .next (if (s.task c t).scrubbing then s.endReport c t else s)

/-- SEQ_KILL (R150, R152): a write of KILL in SEQ_CTRL. -/
def execSeqKill (who : Initiator) (c : CoreId) (mask : BitVec 4) (s : State) : Host.Outcome State Fault Refusal :=
  .next (s.gateReg who (coreKey c rSEQ_CTRL) (fun s => (bitsOf mask.toNat 4).foldl (fun s t => s.killTask c t) s))

/-- HOLD of slot t set or cleared: the wait timer of its task stands still meanwhile (SEQ_CTRL). -/
def State.holdSlot (s : State) (n t : Nat) (on : Bool) : State :=
  if on = s.held n t then s
  else if on then s.modTask n t (fun k => { k with holdAt := s.ns })
  else s.modTask n t (fun k => { k with wait := k.wait.map (fun w => { w with since := w.since + (s.ns - max k.holdAt w.since) }) })

/-- SEQ_HOLD: a write of HOLD in SEQ_CTRL. -/
def execSeqHold (who : Initiator) (c : CoreId) (mask : BitVec 4) (s : State) : Host.Outcome State Fault Refusal :=
  let key := coreKey c rSEQ_CTRL
  .next (s.gateReg who key (fun s =>
    ((List.range 4).foldl (fun s t => s.holdSlot c t (mask.toNat.testBit t)) s).setRegField key 11 8 mask.toNat))

end Sys2Proof.Machine
end

