-- ==== Sys2Proof/Machine/Smoulder.lean ====
section
/-! DEFINITION. The smoulder rotation: tests and their results, repair, migrations, layout revisions, and the operations of SMD_CMD
(spec/13 R416 to R434, R440, R441, R444, R514). -/

namespace Sys2Proof.Machine

/-! ## Tests (R417, R419 to R425) -/

/-- The rotation runs: bring-up is complete and Forester has not been stopped (R427, spec/15 R471). -/
def State.rotating (s : State) : Bool := decide (s.stage = 4) && !bitOf (s.reg rWDN_STATUS) 11 && !s.wdn.restarting

/-- A test in place that finds no idle time: SKIPPED, and a record (R425). -/
def State.skipTest (s : State) (p : Nat) : State :=
  ((s.smdStat 9).modSlot p (fun x => { x with dueAt := s.ns })).record ⟨sevInfo, 18, 9, 2, p, 0, 0, 0, 0⟩

/-- The period in which slot p falls due, in ns (R416, R425, R427). -/
def State.testPeriod (s : State) (p : Nat) : Nat :=
  let period := s.regField rSMD_PERIOD 15 0 * 1000000000
  let watch := s.regField rSMD_PERIOD 31 16 * 1000000000
  let v := (s.slot p).service
  if v = svcWatch ∨ v = svcFenced then watch
  else if s.standIn (p / 9) then period
  else min period (max watch (10000000000000 / s.regField rSMD_CTRL 25 16))

/-- The next step of row r's sweep, down from slot 8 to slot 0 and back up: the slot next to the resting slot i, and the direction (R427). -/
def sweepStep (i : Nat) (up : Bool) : Nat × Bool :=
  if up then (if i = 8 then (7, false) else (i + 1, true)) else if i = 0 then (1, true) else (i - 1, false)

/-- Time between the steps of a row's sweep (R427). -/
def State.stepNs (s : State) : Nat := s.regField rSMD_PERIOD 15 0 * 1000000000 / 9

/-- Slot p is the next step of its row's sweep, which is due (R427). -/
def State.stepDue (s : State) (p : Nat) : Bool :=
  let m := s.row (p / 9)
  match s.resting (p / 9) with
  | some i => decide ((sweepStep i m.up).1 = p % 9) && decide (m.stepAt + s.stepNs ≤ s.ns)
  | none => false

/-- Slot p is due for test (R416, R425, R427): placed first, at its step of the sweep, or at the end of its period; a test in place that is under
way goes on. -/
def State.isDue (s : State) (p : Nat) : Bool :=
  let x := s.slot p
  x.first || x.test.isSome || (if s.standIn (p / 9) && decide (x.service = svcIn) then s.stepDue p else decide (x.dueAt + s.testPeriod p ≤ s.ns))

/-- A move or a test that is not in place is under way in row r. -/
def State.rowTaken (s : State) (r : Nat) : Bool :=
  (s.row r).move.isSome || (rowSlots r).any (fun p => ((s.slot p).test.map (fun t => !t.inPlace)).getD false && decide ((s.slot p).service ≠ svcFenced))

/-- The test in place of slot p goes on (R425): its next slice begins when it may; one that has found no idle time for a whole period is skipped. -/
def State.pokeTest (s : State) (p : Nat) (t : TestRun) : State :=
  if (s.row (p / 9)).slice.isNone ∧ s.mayRun p t then s.beginSlice p
  else if t.next = 0 ∧ t.pinched = 0 ∧ !t.again ∧ (s.row (p / 9)).slice ≠ some (p % 9) ∧ (s.slot p).dueAt + s.testPeriod p ≤ s.ns then s.skipTest p
  else s

/-- Slot p is tested (R417, R425, R427): by the migration that makes it the resting slot, or where it stands. -/
def State.testDue (s : State) (p : Nat) (cmd : Bool) : State :=
  let r := p / 9
  let x := s.slot p
  let inPlace (s : State) : State :=
    let s := s.startTest p true cmd
    match (s.slot p).test with
    | some t => s.pokeTest p t
    | none => s
  match x.test with
  | some t => if t.inPlace then s.pokeTest p t else s
  | none =>
    if x.service = svcFenced then s.startTest p false cmd
    else if s.rowTaken r ∨ (s.row r).revising then s
    else if x.service = svcIn ∨ x.service = svcWatch then
      if s.resting r = some (p % 9) then s.testResting r (p % 9) cmd
      else if s.standIn r then (if s.rowBusy r then s else s.planMove r (p % 9) true cmd false)
      else inPlace s
    else if x.service = svcStanding then s.testResting r (p % 9) cmd
    else if x.service = svcCond ∧ !x.condActive then inPlace s
    else s

/-- A step of row r's sweep is taken; one that came late is not made up for more than once (R427). -/
def State.takeStep (s : State) (r i : Nat) : State :=
  let m := s.row r
  s.setRow r { m with up := (sweepStep i m.up).2, stepAt := max (m.stepAt + s.stepNs) (s.ns - s.stepNs) }

/-- TEST_DUE. -/
def execTestDue (p : PhysId) (s : State) : Host.Outcome State Fault Refusal :=
  if s.rotating ∧ bitOf (s.reg rSMD_CTRL) 0 ∧ s.isDue p then
    let step := s.stepDue p && s.standIn (p / 9) && !(s.slot p).first && !s.rowBusy (p / 9)
    let s1 := s.testDue p false
    match s.resting (p / 9) with
    | some i => .next (if step then s1.takeStep (p / 9) i else s1)
    | none => .next s1
  else .next s

/-- Rows and columns that the repair map of array a of slot p marks (spec/02 R90). -/
def State.marks (s : State) (p a : Nat) : List Nat × List Nat :=
  let x := repairMarks (s.reg (s.pageKey p (rARR_REPAIRa + 8 * a)))
  let y := repairMarks (Config.arrFuse p a)
  ((x.1 ++ y.1).eraseDups, (x.2 ++ y.2).eraseDups)

/-- Row sets of at most two rows of a list. -/
def rowSets (l : List Nat) : List (List Nat) := [] :: l.map (fun i => [i]) ++ l.flatMap (fun i => (l.filter (fun j => decide (i < j))).map (fun j => [i, j]))

/-- Covers of the cells by rows and columns within the spares left (R422): each a set of rows with the columns that the cells outside
them need. -/
def covers (cells : List (Nat × Nat)) (rows cols : Nat) : List (List Nat × List Nat) :=
  ((rowSets ((cells.map (fun c => c.1)).eraseDups)).map (fun rs =>
    (rs, ((cells.filter (fun c => !rs.contains c.1)).map (fun c => c.2)).eraseDups))).filter (fun x =>
      decide (x.1.length ≤ rows) && decide (x.2.length ≤ cols))

/-- Best covers: fewest spares, then more rows (R422). -/
def bestCovers (l : List (List Nat × List Nat)) : List (List Nat × List Nat) :=
  let cost (x : List Nat × List Nat) : Nat := (x.1.length + x.2.length) * 8 + (2 - x.1.length)
  match (l.map cost).min? with
  | some m => l.filter (fun x => decide (cost x = m))
  | none => []

/-- A cover written to ARR_REPAIR of array a of slot p, each row and column journaled. -/
def State.repairWith (s : State) (p a : Nat) (x : List Nat × List Nat) : State :=
  let key := s.pageKey p (rARR_REPAIRa + 8 * a)
  let s := x.1.foldl (fun s i => (s.setReg key ((markRow (s.reg key) i).getD (s.reg key))).journal 3 p (a * 2 ^ 48 + i * 2 ^ 41)) s
  let s := x.2.foldl (fun s i => (s.setReg key ((markCol (s.reg key) i).getD (s.reg key))).journal 4 p (a * 2 ^ 48 + i * 2 ^ 41)) s
  (s.smdStat 2).modSlot p (fun y => { y with repaired := true })

/-- Repair of the failing cells that the diagnostic pass located in array a of slot p (R422); none when no cell was located or they do
not fit. Among best covers the spec names none: a free value chooses. -/
def State.repairSlice (s : State) (p a : Nat) (cells : List (Nat × Nat)) : Option State :=
  let m := s.marks p a
  let cells := (cells.filter (fun c => decide (c.1 < 66) && decide (c.2 < 67) && !m.1.contains c.1 && !m.2.contains c.2)).eraseDups
  match bestCovers (covers cells (2 - m.1.length) (2 - m.2.length)) with
  | [] => none
  | [x] => if cells.isEmpty then none else some (s.repairWith p a x)
  | x :: xs =>
    let (v, s) := s.fresh
    some (s.repairWith p a ((x :: xs).getD (v.toNat % (xs.length + 1)) x))

/-- A failing slice or march of slot p that is not repaired (R417). -/
def State.testFails (s : State) (p : Nat) : State :=
  let x := s.slot p
  let cell := s.cellOf p
  if x.service = svcFenced then
    let s := s.modSlot p (fun y => if y.failCells.contains cell then y else { y with failCells := y.failCells ++ [cell], streak := 0 })
    s.endTest p svcFenced 2
  else if x.service = svcCond ∧ x.cells.length < 4 then
    ((s.modSlot p (fun y => { y with cells := y.cells ++ [cell] })).journal 5 p (cell * 2 ^ 30)).endTest p svcCond 2
  else (s.leaveService p svcFenced false false).modSlot p (fun y => { y with failCells := (if x.service = svcCond then x.cells else []) ++ [cell] })

/-- A pinch failure (R424): PINCH_FAIL and a record; the second in one cell within RECUR_H moves the slot to WATCH. -/
def State.pinchFails (s : State) (p : Nat) : State :=
  let x := s.slot p
  let cell := s.cellOf p
  let window := hoursNs (s.regField rSMD_PERIOD 55 48)
  let recent := x.pinch.filter (fun e => decide (s.ns ≤ e.1 + window))
  let again := recent.any (fun e => decide (e.2 = cell))
  let s := (s.modSlot p (fun y => { y with watchAt := s.ns, pinch := (s.ns, cell) :: recent, test := y.test.map (fun t => { t with failed := true }) })).smdStat 1
  let s := s.record ⟨sevInfo, 18, 1, 2, p, 0, 0, 0, 0⟩
  if !again then s
  else if x.service = svcTest then s.modSlot p (fun y => { y with prior := svcWatch, watchAt := s.ns })
  else if x.service = svcIn then s.modSlot p (fun y => { y with service := svcWatch, watchAt := s.ns })
  else s

/-- SLICE_RESULT (R419 to R424): a slice of the test on slot p has run, as its pass or, with `pinch`, shortened; `cells` are the failing
cells that the diagnostic pass of the slice's array locates. -/
def execSliceResult (p : PhysId) (slice : Fin 40) (pinch : Bool) (sig : Word) (cells : List (Nat × Nat)) (s : State) :
    Host.Outcome State Fault Refusal :=
  match (s.slot p).test with
  | none => .next s
  | some t =>
    let seed := (s.slot p).passNo % 4
    let good := decide (sig = Config.golden slice seed)
    let run (s : State) : State := (s.count rSMD_CNT 63 32 1).modSlot p (fun y => { y with sig := sig })
    let fail (s : State) : State := ((s.count rSMD_CNT 31 0 1).smdStat 0).modSlot p (fun y => { y with fails := satAdd 16 y.fails 1 })
    if !s.mayRun p t then .next s
    else if pinch then
      if !t.pinch ∨ t.pinched ≠ slice.val ∨ t.next ≤ slice.val then .next s
      else
        let s := (run s).modSlot p (fun y => { y with test := some { t with pinched := t.pinched + 1 } })
        let s := (s.testRecord p slice (b2n (!good)) true).endSlice p t
        .next (if good then s else s.pinchFails p)
    else if t.next ≠ slice.val then .next s
    else
      let s := run s
      if good then
        .next (((s.modSlot p (fun y => { y with test := some { t with next := t.next + 1, again := false } })).testRecord p slice 0 false).endSlice p t)
      else
        let s := (fail s).testRecord p slice 1 false
        let fixed := if slice.val < 16 ∧ !t.again then s.repairSlice p (slice.val / 4) cells else none
        match fixed with
        | some s => .next ((s.modSlot p (fun y => { y with test := some { t with again := true, slipped := true } })).endSlice p t)
        | none => .next (s.testFails p)

/-- MARCH_RESULT (R417, R421): the march tests of slot p complete; with them the pass does, and the slot is re-initialised. -/
def execMarchResult (p : PhysId) (pass : Bool) (s : State) : Host.Outcome State Fault Refusal :=
  match (s.slot p).test with
  | none => .next s
  | some t =>
    if t.next ≠ 40 ∨ (t.pinch ∧ t.pinched ≠ 40) ∨ !s.mayRun p t then .next s
    else if !pass then
      let s := (((s.count rSMD_CNT 31 0 1).smdStat 0).modSlot p (fun y => { y with fails := satAdd 16 y.fails 1 })).testRecord p 48 1 false
      .next (s.testFails p)
    else
      let cell := s.cellOf p
      let s := (s.testRecord p 48 0 false).reinit p
      let s := s.modSlot p (fun y => { y with
        passes := satAdd 16 y.passes 1, passedAt := some s.ns
        pinchAt := if t.pinch ∧ !t.failed then some s.ns else y.pinchAt
        streak := if y.service = svcFenced ∧ !y.failCells.contains cell then y.streak + 1 else y.streak })
      let x := s.slot p
      .next (s.endTest p (if x.service = svcTest then (if x.prior = svcWatch then svcWatch else svcStanding) else x.service) (if t.slipped then 2 else 0))

/-! ## Conditions and times (R417, R426) -/

/-- CONDITION_EVALUATE (R417, R418, R426): a FENCED_COND slot gives its work up while its present cell is near a recorded one, and takes it
back otherwise. -/
def execConditionEvaluate (p : PhysId) (s : State) : Host.Outcome State Fault Refusal :=
  let r := p.val / 9
  let x := s.slot p
  if x.service ≠ svcCond ∨ (s.row r).move.isSome then .next s
  else
    let near := x.cells.any (fun c => cellNear (s.cellOf p) c)
    if near = x.condActive then .next s
    else if near then
      let s := s.abandonTest p
      let s := match s.resting r with
        | some g => s.abandonTest (r * 9 + g)
        | none => s
      match s.resting r with
      | some g =>
        let s := s.modSlot p (fun y => { y with condActive := true })
        .next ((s.setRow r { s.row r with rest := g }).beginMove r g (p % 9) [] false false true)
      | none => .next s
    else .next ((s.modSlot p (fun y => { y with condActive := false })).beginMove r (p % 9) (s.row r).rest [] false false false)

/-- WATCH_EXPIRE (R417): WATCH_H hours have passed in WATCH with no attributed failure. -/
def execWatchExpire (p : PhysId) (s : State) : Host.Outcome State Fault Refusal :=
  let x := s.slot p
  if x.service ≠ svcWatch ∨ x.test.isSome ∨ s.ns < x.watchAt + hoursNs (s.regField rSMD_PERIOD 63 56) then .next s
  else .next (s.setSlot p { x with service := if (s.holder p).isSome then svcIn else svcStanding })

/-- A FENCED slot becomes CINDER: it stays in U. -/
def State.retire (s : State) (p : Nat) : State :=
  let s := s.abandonTest p
  ((s.modSlot p (fun x => { x with service := svcCinder, on := false })).smdStat 3).journal 2 p 0

/-- CINDER_TIMEOUT (R417): 7 days without a passing full pass. -/
def execCinderTimeout (p : PhysId) (s : State) : Host.Outcome State Fault Refusal :=
  let x := s.slot p
  if x.service ≠ svcFenced ∨ s.ns < max x.watchAt (x.passedAt.getD 0) + hoursNs 168 then .next s
  else .next (s.retire p)

/-! ## Migration (R428 to R434) -/

/-- The task of slot t of core n stands at a quiet point: it has issued an EMBER, or has completed a CFGSW on every input link (R428). -/
def State.quiet (s : State) (n t : Nat) : Bool :=
  let k := s.task n t
  decide (field k.lastWord 63 56 = 0x7C) ||
  (decide (field k.lastWord 63 56 = 0x80) && decide (k.phase = .running) && (s.core n).inputsSwitched)

/-- The move under way in the row of core n waits for core n to freeze. -/
def State.migrating (s : State) (n : Nat) : Option Move :=
  match (s.row (n / 8)).move with
  | some m => if m.cols.contains n ∧ !m.frozen.contains n then some m else none
  | none => none

/-- The tasks of core n that execute. -/
def State.executing (s : State) (n : Nat) : List Nat :=
  (List.range 4).filter (fun t => decide ((s.task n t).phase = .running) || decide ((s.task n t).phase = .waiting))

/-- Core n counts as frozen in its row's move; one that is not copied is named so. -/
def State.markFrozen (s : State) (n : Nat) (m : Move) (skip : Bool) : State :=
  s.setRow (n / 8) { s.row (n / 8) with move := some { m with
    frozen := if m.frozen.contains n then m.frozen else m.frozen ++ [n], times := (n, s.ns) :: m.times, skip := if skip then m.skip ++ [n] else m.skip } }

/-- MIGRATION_FREEZE (R429, step 1): each task of the core that stands at a quiet point freezes; with the last of them the core is
frozen. -/
def execMigrationFreeze (c : CoreId) (s : State) : Host.Outcome State Fault Refusal :=
  match s.migrating c with
  | none => .next s
  | some m =>
    let s := (s.executing c).foldl (fun s t => if s.quiet c t then s.freezeTask c t .migration else s) s
    .next (if (s.executing c).isEmpty then s.markFrozen c m false else s)

/-- Core n is not copied (R431): its tasks await recovery, and the lattice task set it belongs to is stopped. -/
def State.forceOut (s : State) (n : Nat) (m : Move) : State :=
  let s := s.freezeAll n .recovery
  let s := if (s.core n).owner.isSome then (s.setReg (coreKey n rLAT_CTRL) 1).stopLattice n else s
  (((s.markFrozen n m true).smdStat 4).count rSMD_CNT2 31 16 1)

/-- MIGRATION_FORCED (R431): DEFER_MS has passed since the move began, without a quiet point. -/
def execMigrationForced (c : CoreId) (s : State) : Host.Outcome State Fault Refusal :=
  match s.migrating c with
  | none => .next s
  | some m =>
    if s.ns < m.since + s.regField rSMD_PERIOD 47 32 * 1000000 then .next s
    else if (s.core c).owner.isSome then .next (s.forceOut c m)
    else .next (((s.freezeAll c .migration).markFrozen c m false).count rSMD_CNT2 31 16 1)

/-- An operation of a task of core n is outstanding. -/
def State.coreOutstanding (s : State) (n : Nat) : Bool :=
  (List.range 4).any (fun t => (s.core n).outstanding t || s.scanning n t)

/-- RUN_EMPTY_TIMEOUT (R431): step 2 of a migration has taken more than 1 ms. -/
def execRunEmptyTimeout (c : CoreId) (s : State) : Host.Outcome State Fault Refusal :=
  match (s.row (c.val / 8)).move with
  | some m =>
    if m.cols.contains c.val ∧ m.frozen.contains c.val ∧ !m.skip.contains c.val ∧ s.coreOutstanding c ∧
        m.times.any (fun q => decide (q.1 = c.val) && decide (q.2 + 1000000 < s.ns)) then .next (s.forceOut c m) else .next s
  | none => .next s

/-- Every core of a move is frozen, and has run empty unless it is not copied. -/
def State.moveReady (s : State) (m : Move) : Bool :=
  m.cols.all (fun n => m.frozen.contains n && (m.skip.contains n || !s.coreOutstanding n))

/-- Where the copy of core n meets an uncorrectable word (R433): the task slot and the region. -/
def State.copyBad (s : State) (n : Nat) : Option (Nat × Region) :=
  (s.core n).tasks.findSome? (fun e => (e.2.img.regions.find? (fun r => s.readBad (spadAddr n r.base) r.size)).map (fun r => (e.1, r)))

/-- The contents of core n's compute domain are lost: what a copy that did not take place leaves (R431, R433, R441). -/
def State.notCopied (s : State) (n : Nat) : State :=
  let hit (x : Nat) : Bool := decide (spadAddr n 0 ≤ x) && decide (x < spadAddr n 0 + spadSize)
  let s := { s with ram := tdrop hit s.ram, badWords := s.badWords.filter (fun x => !hit x), ceWords := s.ceWords.filter (fun x => !hit x) }
  let s := (List.range 4).foldl (fun s t => s.discardOps n t) (s.freezeAll n .recovery)
  s.modCore n (fun c => { c.dropWindows with stats := [], circs := [], gather := none })

/-- The copy of core n's regions: corrected words are counted and stand corrected where they arrive (spec/05 R160). -/
def State.copyCe (s : State) (n : Nat) : State :=
  let s := (s.core n).tasks.foldl (fun s e => e.2.img.regions.foldl (fun s r => s.noteCe n (spadAddr n r.base) r.size) s) s
  { s with ceWords := s.ceWords.filter (fun x => decide (x < spadAddr n 0) || decide (spadAddr n 0 + spadSize ≤ x)) }

/-- Columns of a move that fail to copy await recovery in place of resuming (R433). -/
def State.settleCols (s : State) (m : Move) (cols : List Nat) : State :=
  cols.foldl (fun s n =>
    if m.skip.contains n then s.notCopied n
    else match s.copyBad n with
      | some (t, r) => (s.copyUe n (s.firstBad n r.base r.size) (s.ueIn n r.base r.size) (s.jobTag n t)).notCopied n
      | none => s.copyCe n) s

/-- The MIGRATE packets that copy the regions of core n's tasks from slot p to slot q (R429): at most 65,536 bytes each, with the address that
the bytes have (spec/08 R254). -/
def State.copyPackets (s : State) (n p q : Nat) : List Packet :=
  (s.core n).tasks.flatMap (fun e => e.2.img.regions.flatMap (fun r =>
    (List.range ((r.size + 65535) / 65536)).map (fun i =>
      let a := spadAddr n (r.base + i * 65536)
      let len := min 65536 (r.size - i * 65536)
      { dst := .slot (Fin.ofNat 576 q), src := .slot (Fin.ofNat 576 p), type := .migrate, fence := false, poison := false, adv := false, status := .ok
        tag := 0, addr := setField (BitVec.ofNat 64 a) 63 48 s.devNum.toNat, region := false, len := len, data := s.bytes a len, msg := none
        span := none })))

/-- The copy of columns begins (R429, step 3): their MIGRATE packets enter the mesh, each with a TAG of its own. A column that is not copied, or
whose copy meets an uncorrectable word (R431, R433), sends none. -/
def State.startCopy (s : State) (r : Nat) (m : Move) (cols : List Nat) (u : Nat) : State :=
  let k := (s.row r).copyNo + 1
  let ps := ((cols.filter (fun n => !m.skip.contains n && (s.copyBad n).isNone)).flatMap (fun n => match s.slotOf n, s.slotUnder n u with
    | some p, some q => s.copyPackets n p q
    | _, _ => [])).zipIdx.map (fun x => { x.1 with tag := BitVec.ofNat 32 (k.toNat * 2 ^ 24 + x.2) })
  ps.foldl (fun s p => s.inject p) (s.setRow r { s.row r with copyNo := k, move := some { m with copies := some (ps.map (fun p => p.tag)) } })

/-- The copy of columns that is due begun, unless it has begun. -/
def State.copying (s : State) (r : Nat) (m : Move) (cols : List Nat) (u : Nat) : State :=
  if m.copies.isSome then s else s.startCopy r m cols u

/-- Every packet of the copy in row r is acknowledged. -/
def State.copied (s : State) (r : Nat) : Bool := decide ((s.row r).move.bind (fun m => m.copies) = some [])

/-- MIGRATION_COMMIT (R429, R430): the copy of the next column of a move begins; when all of it is acknowledged the map switches and the tasks
resume. All columns freeze before the first copy. -/
def execMigrationCommit (c : CoreId) (s : State) : Host.Outcome State Fault Refusal :=
  let n := c.val
  let r := n / 8
  match (s.row r).move with
  | none => .next s
  | some m =>
    if m.cols.head? ≠ some n ∨ (s.row r).revising ∨ !s.moveReady m then .next s
    else match s.slotOf n with
      | none => .next s
      | some p =>
        let s := s.copying r m [n] (2 ^ (p % 9))
        if !s.copied r then .next s
        else
          let s := ((s.settleCols m [n]).commitU r (2 ^ (p % 9))).count rSMD_CNT2 63 32 1
          let s := s.thaw n
          let m := { m with cols := m.cols.tail, copies := none }
          let s := s.setRow r { s.row r with move := some m }
          .next (if m.cols.isEmpty then s.finishMove r m else s)

/-! ## Layout revisions (R440, R441, R514) -/

/-- The tasks of a core that has become absent end with CORE_ABSENT; reservations on it end their jobs with CAPACITY_LOST. -/
def State.endAbsentTasks (s : State) (n : Nat) : State :=
  (List.range 4).foldl (fun s t =>
    let k := s.task n t
    if k.reserved then
      (s.setTask n t k.last).jobCause k.tag.toNat ⟨stCapacity, 0, 0, some (n, k.number), 0⟩
    else if k.phase = .suspended then (s.setTask n t { k with phase := .running, freeze := none }).endTask n t endAbsent 0
    else s.endTask n t endAbsent 0) s

/-- The layout revision number rises (R440, R514). -/
def State.raiseLayout (s : State) : State :=
  let v := (s.regField rSMD_LAYOUT 15 0 + 1) % 2 ^ 16
  (s.setRegField rSMD_LAYOUT 15 0 v).setRegField rCXL_HSTAT 47 32 v

/-- The new map of row r is committed (R440, steps 3 and 4, R514): columns migrate, cores that lose their slot become absent, cores that
gain one are re-initialised. -/
def State.commitRevision (s : State) (r : Nat) (m : Move) : State :=
  let before := (rowCores r).filter (fun n => s.present n)
  let s := (s.settleCols m m.cols).commitU r (s.lostMask r)
  let s := s.count rSMD_CNT2 63 32 m.cols.length
  let s := m.cols.foldl (fun s n => s.thaw n) s
  let s := (before.filter (fun n => !s.present n)).foldl (fun s n => (s.endAbsentTasks n).beaconAbsent n) s
  let s := ((rowCores r).filter (fun n => s.present n && !before.contains n)).foldl (fun s n =>
    let s := match s.slotOf n with
      | some p => s.reinit p
      | none => s
    let u := s.sealUnit n
    s.setSeal n { u with incarn := u.incarn + 1, next := 0 }) s
  s.setRow r { s.row r with move := none }

/-- A revision makes a core absent, or only records absent links, rather than restoring one. -/
def State.restores (s : State) (r : Nat) : Bool := (rowCores r).any (fun n => !s.present n && (s.slotUnder n (s.lostMask r)).isSome)

/-- LAYOUT_REVISION (R440): every migration of the revision is ready; the new map is committed and published. -/
def execLayoutRevision (r : Fin 64) (s : State) : Host.Outcome State Fault Refusal :=
  match (s.row r).move with
  | some m =>
    if !(s.row r).revising ∨ s.restores r ∨ !s.moveReady m then .next s
    else
      let s := s.copying r m m.cols (s.lostMask r)
      if !s.copied r then .next s
      else
      let s := ((s.commitRevision r m).raiseLayout).smdStat 10
      let s := s.record ⟨sevDegraded, 18, 10, 0, 0, 0, 0, 0, 0⟩
      let s := s.setRow r { s.row r with revising := false }
      .next (if m.cmd then s.smdDone (r.val / 16) 0 else s)
  | none => .next s

/-- LAYOUT_RESTORE (R514): an UNFENCE has given an absent column a slot again. -/
def execLayoutRestore (r : Fin 64) (s : State) : Host.Outcome State Fault Refusal :=
  match (s.row r).move with
  | some m =>
    if !(s.row r).revising ∨ !s.restores r ∨ !s.moveReady m then .next s
    else
      let s := s.copying r m m.cols (s.lostMask r)
      if !s.copied r then .next s
      else
      let s := (s.commitRevision r m).raiseLayout
      let s := s.record ⟨sevInfo, 18, 10, 0, 0, 0, 0, 0, 0⟩
      let s := s.setRow r { s.row r with revising := false }
      .next (if m.cmd then s.smdDone (r.val / 16) 0 else s)
  | none => .next s

/-- A router fails (R441): its ports go DOWN, its domain is powered down, its slot becomes CINDER. -/
def State.routerFails (s : State) (p : Nat) : State :=
  let s := (List.range 6).foldl (fun s i => s.markPort p i true) (s.smdStat 12)
  if (s.slot p).service = svcCinder then
    (((s.modSlot p (fun x => { x with routerOn := false })).routerLost p).dropMove (p / 9) false).beginRevision (p / 9) false
  else s.leaveService p svcCinder true false

/-- ROUTER_FAILURE (R441). -/
def execRouterFailure (p : PhysId) (s : State) : Host.Outcome State Fault Refusal :=
  if (s.slot p).routerOn then .next (s.routerFails p) else .next s

/-! ## SMD_CMD (R444) -/

/-- What R414 to R418 and the SLOT_OP checks require of an operation of SMD_CMD: the number of the first check that fails, if any
(R444, spec/15 R480). -/
def State.slotOpCheck (s : State) (op p : Nat) : Option Nat :=
  let r := p / 9
  let x := s.slot p
  let v := x.service
  let need (b : Bool) (n : Nat) (rest : Option Nat) : Option Nat := if b then rest else some n
  let within (t : Option Nat) : Bool := match t with
    | some t => decide (s.ns ≤ t + s.regField rSMD_PERIOD 31 16 * 1000000000)
    | none => false
  match op with
  | 0 => need (decide (v ≠ svcTest) && decide (v ≠ svcCinder) && !(decide (v = svcCond) && x.condActive) && !s.rowBusy r && !(s.row r).revising) 1 none
  | 1 => need (decide (v = svcIn) || decide (v = svcStanding) || decide (v = svcWatch) || decide (v = svcCond)) 1 none
  | 2 => need (decide (v = svcFenced) && !(s.row r).move.isSome && !(s.row r).revising) 1
      (need (within x.passedAt && within x.pinchAt && x.repaired) 2 none)
  | 3 => need (decide (v ≠ svcCinder)) 1 none
  | 4 => need (decide (v = svcFenced) && decide (s.lostCount r = 1) && !s.rowBusy r && !(s.row r).revising) 1
      (need (decide (32 ≤ x.streak) && decide (x.failCells.length ≤ 4)) 3 none)
  | 5 => need ((s.resting r).isSome && decide (v ≠ svcFenced) && decide (v ≠ svcCond) && decide (v ≠ svcCinder) &&
      (decide (s.resting r = some (p % 9)) || (!s.rowBusy r && !(s.row r).revising))) 1 none
  | _ => need (x.test.isSome || (((s.row r).move).map (fun m => m.test && decide (m.target = p % 9))).getD false) 1 none

/-- A slot returns from FENCED to WATCH, and the row is re-placed when that gives a column its slot again (R417, R444, R514). -/
def State.unfence (s : State) (p : Nat) : State :=
  let r := p / 9
  let s := (s.modSlot p (fun x => { x with service := svcWatch, on := true, iso := true, watchAt := s.ns, repaired := false
                                           failCells := [], streak := 0 })).journal 7 p 0
  if s.lostCount r = 0 then s.smdDone (p / 144) 0
  else if !s.restores r ∧ (s.changedCols r (s.lostMask r)).isEmpty then (s.commitU r (s.lostMask r)).smdDone (p / 144) 0
  else s.beginRevision r true

/-- A conditional fence is granted (R417, R444). -/
def State.condFence (s : State) (p : Nat) : State :=
  let x := s.slot p
  let s := s.setSlot p { x with service := svcCond, on := true, iso := true, cells := x.failCells, condActive := true }
  let s := x.failCells.foldl (fun s c => s.journal 5 p (c * 2 ^ 30)) s
  s.smdDone (p / 144) 0

/-- An operation of SMD_CMD that its checks allow. -/
def State.slotOp (s : State) (op p : Nat) : State :=
  let r := p / 9
  match op with
  | 0 => s.testDue p true
  | 1 => s.leaveService p svcFenced false true
  | 2 => s.unfence p
  | 3 => if (s.slot p).service = svcFenced then (s.retire p).smdDone (p / 144) 0 else s.leaveService p svcCinder false true
  | 4 => s.condFence p
  | 5 => if s.resting r = some (p % 9) then s.smdDone (p / 144) 0 else s.planMove r (p % 9) false true false
  | _ =>
    if (s.slot p).test.isSome then (s.abandonTest p).smdDone (p / 144) 0
    else match (s.row r).move with
      | some m => (s.testRecord p 0 2 false).setRow r { s.row r with move := some { m with test := false, cmd := true } }
      | none => s

/-- GO of SMD_CMD with an operation and a slot: the checks, and the operation or REFUSED (R444). -/
def State.smdGo (s : State) (op p : Nat) : State :=
  let d := p / 144
  let key := dieKey d rSMD_CMD
  let s := s.setReg key (BitVec.ofNat 64 (2 ^ 63 + op * 2 ^ 12 + p % 144))
  if s.stage < 4 ∨ (s.slotOpCheck op p).isSome then s.smdDone d 1 else s.slotOp op p

/-- A call of the Warden that is committed or refused is counted (spec/15 R479, WDN_CALLCNT). -/
def State.countCall (s : State) (refused : Bool) : State :=
  if refused then (s.count rWDN_CALLCNT 31 0 1).orReg rWDN_STATUS 2 else s.count rWDN_CALLCNT 63 32 1

/-- A write of SMD_CMD that sets GO (R444): the Warden's own, or Forester's carried out as a SLOT_OP call. -/
def State.smdCmd (s : State) (who : Initiator) (op p : Nat) : State :=
  let key := dieKey (p / 144) rSMD_CMD
  match who with
  | .warden => s.smdGo op p
  | .forester => (s.countCall (decide (s.stage < 4) || (s.slotOpCheck op p).isSome)).smdGo op p
  | .host => s.gate .host key .w (fun s => s)

/-- SMD_TEST. -/
def execSmdTest (who : Initiator) (p : PhysId) (s : State) : Host.Outcome State Fault Refusal := .next (s.smdCmd who 0 p)
/-- SMD_FENCE. -/
def execSmdFence (who : Initiator) (p : PhysId) (s : State) : Host.Outcome State Fault Refusal := .next (s.smdCmd who 1 p)
/-- SMD_UNFENCE. -/
def execSmdUnfence (who : Initiator) (p : PhysId) (s : State) : Host.Outcome State Fault Refusal := .next (s.smdCmd who 2 p)
/-- SMD_CINDER. -/
def execSmdCinder (who : Initiator) (p : PhysId) (s : State) : Host.Outcome State Fault Refusal := .next (s.smdCmd who 3 p)
/-- SMD_COND. -/
def execSmdCond (who : Initiator) (p : PhysId) (s : State) : Host.Outcome State Fault Refusal := .next (s.smdCmd who 4 p)
/-- MOVE_RESTING. -/
def execMoveResting (who : Initiator) (p : PhysId) (s : State) : Host.Outcome State Fault Refusal := .next (s.smdCmd who 5 p)
/-- SMD_ABANDON. -/
def execSmdAbandon (who : Initiator) (p : PhysId) (s : State) : Host.Outcome State Fault Refusal := .next (s.smdCmd who 6 p)

end Sys2Proof.Machine
end

