-- ==== Sys2Proof/Machine/Ember.lean ====
section
/-! DEFINITION. Ember checkpoints and the recovery of jobs (spec/13 R435 to R439, spec/12 R399, R405). -/

namespace Sys2Proof.Machine

/-! ## Checkpoints (R435, R436) -/

/-- Base of half h of the ember area of core n (R435). -/
def State.emberBase (s : State) (n h : Nat) : Nat := s.regField rSMD_EMBER 47 32 * 2 ^ 30 + n * 0x2000000 + h * 0x1000000
/-- Offset of the header of task slot t in a half. -/
def emberHeaderOff (t : Nat) : Nat := 0xC48000 + 0x1000 * t
/-- Offset of configuration slot c in a half. -/
def emberCfgOff (c : Nat) : Nat := 0xC40000 + 0x1000 * c
/-- Offset of statistics slot i in a half. -/
def emberStatOff (i : Nat) : Nat := 0xC00000 + 16 * i

/-- The ember point of an image by its number; none carries only the code and QCFG regions. -/
def ImageInfo.ember (i : ImageInfo) (point : Nat) : EmberPoint := (i.embers.find? (fun e => decide (e.point = point))).getD ⟨point, 0, 0, 0⟩

/-- Regions that a checkpoint at an ember point carries (R436, spec/05 R183). -/
def ImageInfo.carried (i : ImageInfo) (live pairs : Nat) : List Region :=
  i.regions.filter (fun r => decide (2 ≤ r.kind) || (decide (r.kind = 0) && pairs.testBit r.index) || (decide (r.kind = 1) && live.testBit r.index))

/-- Bytes 1019:0 of a checkpoint header (R436) at the PC that the task holds. -/
def State.emberHeader (s : State) (n t : Nat) (p : EmberPoint) : Bytes :=
  let k := s.task n t
  let c := s.core n
  let mine (r : Nat) : Bool := (c.circ r).valid && decide ((c.circ r).owner = t)
  leBytes 4 0x45424D52 ++ leBytes 2 1 ++ leBytes 2 p.point ++ leBytes 8 (k.emberSeq + 1) ++ leBytes 8 (s.jobTag n t) ++
  leBytes 8 k.img.addr ++ leBytes 8 s.ns ++ leBytes 2 k.pc ++ leBytes 1 t ++
  leBytes 1 ((if k.img.lattice then c.active + 8 else 0)) ++ leBytes 1 k.img.cfgSlots ++ leBytes 1 p.pairs ++ leBytes 2 p.live ++
  leBytes 4 (s.regField (coreKey n (rROW_STATWINt + 8 * t)) 31 0) ++ leBytes 2 k.pendBits.toNat ++ leBytes 10 0 ++
  (List.range 32).flatMap (fun i => leBytes 8 (k.greg i).toNat) ++ (List.range 16).flatMap (fun i => leBytes 8 (k.areg i).toNat) ++
  (List.range 8).flatMap (fun i => leBytes 4 (k.kreg i).toNat) ++ leBytes 1 (k.p.toNat / 2 * 2) ++ leBytes 31 0 ++
  (List.range 16).flatMap (fun i => leBytes 2 (tget (fun _ => 0) k.next i).toNat) ++
  (List.range 16).flatMap (fun i => leBytes 8 (if mine i then (c.circ i).head % 2 ^ 27 + (c.circ i).tail % 2 ^ 27 * 2 ^ 32 else 0)) ++
  leBytes 348 0

/-- A checkpoint is due, or forced (R436). -/
def State.emberDue (s : State) (n t : Nat) (f : InsnBits) : Bool :=
  let k := s.task n t
  let alone := match s.job k.tag.toNat with
    | some j => decide (j.tasks.length = 1)
    | none => false
  (fX f).testBit 0 || (alone && decide (k.emberAt + s.regField rSMD_EMBER 15 0 * 1000000 ≤ s.ns))

/-- The seals that a checkpoint waits for (spec/12 R399): none to wait for, some, or a block RETRACTED or LAPSED. -/
def State.emberSeals (s : State) (n t : Nat) (rs : List Region) : Nat :=
  let u := s.sealUnit n
  let bs := rs.flatMap (fun r => blocksOf r.base r.size)
  if bs.any (fun b => decide (2 ≤ u.blockState b)) then 2
  else if u.openWins.any (fun w => decide (w.task = t)) ∨ !bs.all (fun b => u.blockState b == 1) then 1
  else 0

/-- EMBER (R428, R436): a quiet point; a checkpoint is written when one is due. Stage 1 waits for seals, stage 2 for the write. -/
def tryEmber (n t : Nat) (f : InsnBits) (stage : Nat) (s : State) : Try :=
  let k := s.task n t
  let p := k.img.ember (fImm f % 2 ^ 16)
  if stage = 2 then .wait s 2 0 0 false
  else if stage = 0 ∧ !s.emberDue n t f then .done s
  else if !k.deps.isEmpty then .wait s 1 0 0 true
  else match s.emberSeals n t (k.img.carried p.live p.pairs) with
    | 0 => .wait s 2 0 0 false
    | 1 => .wait s 1 0 0 true
    | _ => .stop (s.freezeTask n t .recovery)

/-- EMBER. -/
def execEmber (c : CoreId) (t : TaskSlot) (f : InsnBits) (s : State) : Host.Outcome State Fault Refusal :=
  .next (s.issue c t 0x7C f (fun stage _ => tryEmber c t f stage))

/-- A checkpoint written to half h, the header last; words of its regions that are corrected are counted (spec/05 R160). -/
def State.writeEmber (s : State) (n t h : Nat) (p : EmberPoint) : State :=
  let k := s.task n t
  let c := s.core n
  let base := s.emberBase n h
  let hdr := s.emberHeader n t p
  let s := (k.img.carried p.live p.pairs).foldl (fun s r =>
    (s.noteCe n (spadAddr n r.base) r.size).store (base + r.base) (s.bytes (spadAddr n r.base) r.size)) s
  let s := (List.range k.img.statCount).foldl (fun s i =>
    s.store (base + emberStatOff (k.img.statBase + i)) (leBytes 16 (tget (fun _ => (0 : BitVec 128)) c.stats (k.img.statBase + i)).toNat)) s
  let s := (bitsOf k.img.cfgSlots 8).foldl (fun s i => match c.cfgSlot i with
    | some x => s.store (base + emberCfgOff i) (leBytes 2 x.entry ++ leBytes 2 x.schedule.length ++ leBytes 60 0 ++ x.schedule)
    | none => s) s
  s.store (base + emberHeaderOff t) (hdr ++ leBytes 4 (crc32 hdr).toNat)

/-- A checkpoint write that fails (R436). -/
def State.emberFails (s : State) (n t : Nat) : State :=
  (s.smdStat 8).record ⟨sevDegraded, 18, 8, 1, n, s.jobTag n t, 0, 0, 0⟩

/-- EMBER_WRITE_COMPLETE (R436): the write that an EMBER waits for has ended; an uncorrectable word of a region it carries fails it. -/
def execEmberWriteComplete (c : CoreId) (t : TaskSlot) (ok : Bool) (s : State) : Host.Outcome State Fault Refusal :=
  let k := s.task c t
  match k.phase, k.wait with
  | .waiting, some w =>
    if w.opc ≠ 0x7C ∨ w.stage ≠ 2 then .next s
    else
      let p := k.img.ember (fImm w.f % 2 ^ 16)
      let half := match k.emberHalf with
        | some h => 1 - h
        | none => 0
      match (k.img.carried p.live p.pairs).find? (fun r => s.readBad (spadAddr c r.base) r.size) with
      | some r =>
        let s := s.copyUe c (s.firstBad c r.base r.size) (s.ueIn c r.base r.size) (s.jobTag c t)
        .next ((s.emberFails c t).finish c t 0x7C w.f (.done (s.emberFails c t)))
      | none =>
        let (go, s) := s.snooped (s.emberBase c half) 0x1000000 true
        if !go then .next s
        else
        let s := if ok then (s.writeEmber c t half p).modTask c t (fun k => { k with emberAt := s.ns, emberSeq := k.emberSeq + 1, emberHalf := some half })
          else s.emberFails c t
        .next (s.finish c t 0x7C w.f (.done s))
  | _, _ => .next s

/-! ## Recovery of jobs (R437, R438) -/

/-- The header of half h of the task in slot t of core n, when it verifies and is this task's. -/
def State.validEmber (s : State) (n t h : Nat) : Option Bytes :=
  let a := s.emberBase n h + emberHeaderOff t
  let b := s.bytes a 1024
  if !s.readBad a 1024 ∧ leAt b 0 4 = 0x45424D52 ∧ (crc32 (b.take 1020)).toNat = leAt b 1020 4 ∧ leAt b 16 8 = s.jobTag n t then some b else none

/-- Point numbers of the valid checkpoints of a task. -/
def State.emberPoints (s : State) (n t : Nat) : List Nat := ((List.range 2).filterMap (fun h => s.validEmber n t h)).map (fun b => leAt b 6 2)

/-- Tasks of a job as core and slot, of those that hold one. -/
def Job.places (j : Job) : List (Nat × Nat) := j.tasks.filterMap (fun x => x.slot.map (fun t => (x.core, t)))

/-- The recovery line of a job (R437): the largest point at which every task holds a valid checkpoint. -/
def State.recoveryLine (s : State) (j : Job) : Option Nat :=
  match j.places with
  | [] => none
  | q :: qs => ((s.emberPoints q.1 q.2).filter (fun k => qs.all (fun r => (s.emberPoints r.1 r.2).contains k))).max?

/-- The half of a task's valid checkpoint at point k. -/
def State.halfAt (s : State) (n t k : Nat) : Nat :=
  match s.validEmber n t 0 with
  | some b => if leAt b 6 2 = k then 0 else 1
  | none => 1

/-- A region of the checkpoint at point k reads uncorrectable (R438). -/
def State.emberUnreadable (s : State) (n t k : Nat) : Bool :=
  let h := s.halfAt n t k
  let i := (s.task n t).img
  let p := i.ember k
  (i.carried p.live p.pairs).any (fun r => s.readBad (s.emberBase n h + r.base) r.size)

/-- Recovery of a job is impossible (R438). -/
def State.unrecoverable (s : State) (j : Job) : Bool :=
  j.tasks.any (fun x => match x.slot, x.ended with
    | some t, none => decide ((s.task x.core t).phase = .draining) || decide ((s.task x.core t).phase = .empty)
    | _, _ => true) ||
  decide (s.regField rSMD_EMBER 19 16 ≤ j.tries) ||
  (match s.recoveryLine j with
    | some k => j.places.any (fun q => s.emberUnreadable q.1 q.2 k)
    | none => true)

/-- Frozen tasks of a job that cannot be recovered end (R438). -/
def State.endFrozen (s : State) (j : Job) : State :=
  j.places.foldl (fun s q =>
    let k := s.task q.1 q.2
    if k.phase = .suspended then
      (s.setTask q.1 q.2 { k with phase := .running, freeze := none }).endTask q.1 q.2 (if s.present q.1 then endRetracted else endAbsent) 0
    else s) (s.smdStat 7)

/-- Every OPEN window of the task in slot t of core n retracts (R437, step 3). -/
def State.retractTask (s : State) (n t : Nat) : State :=
  ((s.sealUnit n).openWins.filter (fun w => decide (w.task = t) && decide (w.job = (s.task n t).tag))).foldl (fun s w =>
    match (s.sealUnit n).win w.epoch with
    | some w => if w.st = .opened then s.retractWin n w .recovery else s
    | none => s) s

/-- The data of [a, a + len) are undefined from now on (spec/05 R183): they read as bytes that nothing has written; the check bits stand. -/
def State.loseRange (s : State) (a len : Nat) : State := { s with ram := tdrop (fun x => decide (a ≤ x) && decide (x < a + len)) s.ram }

/-- Regions of a task after a restart (R437, spec/05 R183): those that the checkpoint carries from it, the others undefined. -/
def State.restoreRegions (s : State) (n t base : Nat) (carried : List Region) : State :=
  (s.task n t).img.regions.foldl (fun s r =>
    if carried.contains r then ((s.zeroRange (spadAddr n r.base) r.size).store (spadAddr n r.base) (s.bytes (base + r.base) r.size)).dropRefs n r.base r.size
    else s.loseRange (spadAddr n r.base) r.size) s

/-- The registers of a task from a checkpoint header b (R436). -/
def Task.restored (k : Task) (b : Bytes) (half : Nat) : Task :=
  let k := (List.range 32).foldl (fun (k : Task) i => k.setG i (BitVec.ofNat 64 (leAt b (64 + 8 * i) 8))) { k with g := [], a := [], k := [], next := [] }
  let k := (List.range 16).foldl (fun (k : Task) i => k.setA i (BitVec.ofNat 64 (leAt b (320 + 8 * i) 8))) k
  { k with
    k := (List.range 8).foldl (fun m i => tset (fun _ => 0) m i (BitVec.ofNat 32 (leAt b (448 + 4 * i) 4))) []
    p := BitVec.ofNat 8 (leAt b 480 1), pendBits := BitVec.ofNat 16 (leAt b 52 2), pc := leAt b 40 2
    next := (List.range 16).foldl (fun m i => tset (fun _ => 0) m i (BitVec.ofNat 16 (leAt b (512 + 2 * i) 2))) []
    emberSeq := leAt b 8 8, emberHalf := some half, deps := [], pending := [], sends := [], wait := none }

/-- Statistics slots, circular pointers and configuration slots of a task from its checkpoint at base, header b (R436, R437). -/
def State.restoreUnits (s : State) (n t base : Nat) (b : Bytes) : State :=
  let i := (s.task n t).img
  let stat (j : Nat) : BitVec 128 := BitVec.ofNat 128 (s.loadN (base + emberStatOff j) 16)
  let slots := bitsOf (leAt b 44 1) 8
  let cfgs := slots.map (fun c =>
    let h := s.bytes (base + emberCfgOff c) 64
    (c, CfgSlot.mk (leAt h 0 2) (s.bytes (base + emberCfgOff c + 64) (leAt h 2 2))))
  let s := s.modCore n (fun c =>
    let c := { c with stats := (List.range i.statCount).foldl (fun m j => tset (fun _ => 0) m (i.statBase + j) (stat (i.statBase + j))) c.stats }
    let c := i.circs.foldl (fun (c : Core) r => c.setCirc r { c.circ r with head := leAt b (544 + 8 * r) 4 % 2 ^ 27, tail := leAt b (548 + 8 * r) 4 % 2 ^ 27 }) c
    if i.lattice then { c with cfg := cfgs.foldl (fun m x => tset (fun _ => none) m x.1 (some x.2)) [], active := leAt b 43 1 % 8 } else c)
  s.setReg (coreKey n (rROW_STATWINt + 8 * t)) (BitVec.ofNat 64 (leAt b 48 4))

/-- The task in slot t of core n is restored at point k (R437, steps 4 and 5). A configuration that fails R203 ends it. -/
def State.restoreTask (s : State) (n t k : Nat) : State :=
  let h := s.halfAt n t k
  let base := s.emberBase n h
  match s.validEmber n t h with
  | none => s
  | some b =>
    let i := (s.task n t).img
    let s := s.restoreRegions n t base (i.carried (leAt b 46 2) (leAt b 45 1))
    let s := (s.restoreUnits n t base b).modTask n t (fun k => k.restored b h)
    if i.lattice ∧ !(bitsOf (leAt b 44 1) 8).all (fun c => match (s.core n).cfgSlot c with
        | some x => s.schedOk n x.schedule
        | none => true) then
      let s := s.coreStat n rLAT_STATUS 7
      (s.modTask n t (fun k => { k with phase := .running, freeze := none })).endTask n t endCfgSlot 0
    else s

/-- A frozen task's core still awaits the map that is to place it (R90, R437). -/
def State.awaitsMap (s : State) (n : Nat) : Bool :=
  (s.row (n / 8)).revising || (((s.row (n / 8)).move).map (fun m => m.cols.contains n)).getD false

/-- A task of the job is frozen for a recovery. -/
def State.hasFrozen (s : State) (j : Job) : Bool :=
  j.places.any (fun q => decide ((s.task q.1 q.2).phase = .suspended) && decide ((s.task q.1 q.2).freeze = some .recovery))

/-- JOB_RECOVERY (R437, R438): the job is frozen, discarded, retracted and restored at its recovery line, or its frozen tasks end. -/
def execJobRecovery (jobTag : BitVec 32) (s : State) : Host.Outcome State Fault Refusal :=
  match s.job jobTag.toNat with
  | none => .next s
  | some j =>
    let (go, s1) := s.snoopedAll (j.places.flatMap (fun q => [(s.emberBase q.1 0, 0x2000000, false)]))
    if j.phase ≠ .running ∨ !s.hasFrozen j ∨ j.places.any (fun q => s.awaitsMap q.1) then .next s
    else if !go then .next s1
    else
      let s := s1
      let bad := s.unrecoverable j
      let s := j.places.foldl (fun s q => s.freezeTask q.1 q.2 .recovery) s
      let s := j.places.foldl (fun s q =>
        if (s.core q.1).owner = some q.2 ∧ !(s.core q.1).stopped then (s.setReg (coreKey q.1 rLAT_CTRL) 1).stopLattice q.1 else s) s
      let s := j.places.foldl (fun s q => s.discardOps q.1 q.2) s
      let s := j.places.foldl (fun s q => s.retractTask q.1 q.2) s
      if bad then .next (s.endFrozen j)
      else match s.recoveryLine j with
        | none => .next (s.endFrozen j)
        | some k =>
          let s := j.places.foldl (fun s q => s.restoreTask q.1 q.2 k) s
          let s := s.count rSMD_CNT2 15 0 1
          .next (s.modJob jobTag.toNat (fun j => if j.cause.isSome then j else { j with phase := .restored, tries := j.tries + 1 }))

/-- The lattice of core n starts again for its restored task (R437, step 5, spec/06 R215): STOP is cleared, E is 0 and the active slot is the
checkpoint's. -/
def State.restartLattice (s : State) (n t : Nat) : State :=
  let s := (s.setReg (coreKey n rLAT_CTRL) 0).modCore n (fun c => { c with stopped := false, drained := false, links := [], owner := some t, epoch := 0 })
  (List.range 4).foldl (fun s i => (s.switchIn n i).switchOut n i) s

/-- A restored task resumes (R437, step 6): its queues and sheaves at new generations, its PC past the EMBER. -/
def State.resumeTask (s : State) (n t : Nat) : State :=
  let k := s.task n t
  if k.phase ≠ .suspended then s
  else
    let i := k.img
    let s := s.raiseMasks n i.queues i.sheaves
    let s := match i.regions.find? (fun r => decide (r.kind = 3)) with
      | some r => s.applyQcfg n t (s.bytes (spadAddr n r.base) r.size)
      | none => s
    let s := if i.lattice then s.restartLattice n t else s
    (s.modTask n t (fun k => { k with freeze := none, emberAt := s.ns })).setPc n t (k.pc + 1)

/-- RECOVERY_RESUME (R437): every task is restored, and all resume together. -/
def execRecoveryResume (jobTag : BitVec 32) (s : State) : Host.Outcome State Fault Refusal :=
  match s.job jobTag.toNat with
  | none => .next s
  | some j =>
    if j.phase ≠ .restored ∨ j.places.any (fun q => s.awaitsMap q.1 || !s.live q.1) then .next s
    else
      let s := j.places.foldl (fun s q => s.resumeTask q.1 q.2) s
      .next ((s.smdStat 6).setJob jobTag.toNat (some { j with phase := .running }))

end Sys2Proof.Machine
end

