-- ==== Sys2Proof/Machine/Tier.lean ====
section
/-! DEFINITION. The memory rings and the tier engine: requests for hearth and peat, swaps, prefetch descriptors and peat scans, and the
health of stacks and channels (spec/09 R276 to R308, spec/11 R360 to R362, spec/12 R388, R393, R401). -/

namespace Sys2Proof.Machine

/-! ## Work rings and host lines that a write may meet (spec/11 R359, R366) -/

/-- Work ring r. -/
def State.ring (s : State) (r : Nat) : Ring := tget (fun _ => Ring.zero) s.rings r
/-- Work ring r replaced. -/
def State.setRing (s : State) (r : Nat) (x : Ring) : State := { s with rings := tset (fun _ => Ring.zero) s.rings r x }
/-- Key of a register of ring r. -/
def ringKey (r off : Nat) : Nat := off + 0x40 * r
/-- SQ_LOG2. -/
def State.sqLog (s : State) (r : Nat) : Nat := s.regField (ringKey r rCXL_RINGr_SQ) 4 0
/-- CQ_LOG2. -/
def State.cqLog (s : State) (r : Nat) : Nat := s.regField (ringKey r rCXL_RINGr_CQ) 4 0
/-- SQ_BASE. -/
def State.sqBase (s : State) (r : Nat) : Nat := s.regField (ringKey r rCXL_RINGr_SQ) 63 12 * 4096
/-- CQ_BASE. -/
def State.cqBase (s : State) (r : Nat) : Nat := s.regField (ringKey r rCXL_RINGr_CQ) 63 12 * 4096
/-- PL_ADDR. -/
def State.plAddr (s : State) (r : Nat) : Nat := s.regField (ringKey r rCXL_RINGr_PL) 63 6 * 64
/-- LOC: the structures of ring r lie in device memory. -/
def State.ringLocal (s : State) (r : Nat) : Bool := bitOf (s.reg (ringKey r rCXL_RINGr_CFG)) 1

/-- Rings in device memory whose producer line the host has just written are pending (R366). -/
def State.markLine (s : State) (a : Nat) : State :=
  (List.range 64).foldl (fun s r => if s.ringLocal r ∧ s.plAddr r = a - a % 64 then s.setRing r { s.ring r with marked := true } else s) s

/-- The answer to a CXL.mem request. -/
def State.memAnswer (s : State) (x : MemAns) : State :=
  let s := { s with port := { s.port with ans := x } }
  if x = .poison then s.orReg rCXL_STATUS 1 else s

/-! ## Requests at a ring (R279, R283, R288 to R295, R513) -/

/-- Lines read and written, counted by the ring of the die that serves them (spec/15 R496). -/
def State.countLines (s : State) (a len : Nat) (write : Bool) : State :=
  let p := s.phys a
  let n := (a % 64 + len + 63) / 64
  if p < hearthBytes then let k := (hearthPlace p).1; s.dieEvent (k / 3) (if write then 3 else 2) (k % 3) n
  else let k := (s.peatPlace p).1; s.dieEvent (k / 3) (if write then 5 else 4) (k % 3) n

/-- A memory read served: its bytes, or POISONED. -/
def State.serveRead (s : State) (p : Packet) (errs : LineErrs) : State :=
  let a := field p.addr 47 0
  match ((s.noteErrs a p.len errs).countLines a p.len false).lineRead a p.len with
  | (some b, s) => s.respond p .ok b
  | (none, s) => s.respond p .poisoned []

/-- A memory write performed: parts of an uncorrectable line are discarded and the answer is POISONED (R513). -/
def State.serveWrite (s : State) (p : Packet) : State :=
  let a := field p.addr 47 0
  let bad := s.writeBad a p.len
  let s := (s.countLines a p.len true).store a p.data
  s.respond p (if bad then .poisoned else .ok) []

/-- A CXL.mem write of bytes from offset o of a line performed; it is answered as a packet's write is (R513). -/
def State.hostWrite (s : State) (line o : Nat) (b : Bytes) : State :=
  let bad := s.writeBad (line + o) b.length
  (((s.countLines line 64 true).store (line + o) b).markLine line).memAnswer (if bad then .poison else .done)

/-- A write to name i, which is MOVING, is held by the swap's agent and counted (R294). -/
def State.holdWrite (s : State) (i : Nat) (h : HeldWrite) : State :=
  (List.range 4).foldl (fun s d =>
    let a := s.agent d
    match a.swap with
    | some w =>
      if (w.a = i ∨ w.b = i) ∧ ¬w.held.contains h then
        (s.count rTIER_CNT3 63 32 1).setAgent d { a with swap := some { w with held := w.held ++ [h] } }
      else s
    | none => s) s

/-- A held write applied (R294); a request for ownership is made again. -/
def State.applyHeld (s : State) : HeldWrite → State
  | .pkt p => s.serveWrite p
  | .host line o b => s.hostWrite line o b
  | .own _ => s
  | .agent a b => s.store a b

/-- The tier preference under which a request heats the pool: that of the window that admitted a span request (R293). -/
def State.tierOf (s : State) (p : Packet) : Nat :=
  if p.span.isSome then ((s.span.ins.find? (fun x => decide (x.tag = p.tag))).map (fun x => x.tier)).getD 0 else 0

/-- A request taken at a ring: served, held, refused or answered POISONED. -/
def State.ringServe (s : State) (r : RingReq) : State :=
  let p := r.pkt
  let a := field p.addr 47 0
  let s1 := s.take p
  if p.region ∨ !s.memOk a p.len then s1.respond p .refused []
  else
    let write := decide (p.type = .dmaWrite)
    let (go, s2) := s1.snooped a p.len write
    if s.repairHeld a p.len then s
    else if !go then { s2 with landed := s.landed }
    else
      let s := s2
      let name := s.pool.nameOf a
      let s := match name with
        | some i => s.access i (s1.tierOf p)
        | none => s
      let dead := s.unusable a p.len || s.chanFailed (s.phys a)
      if dead then s.respond p .poisoned []
      else if write then
        match name with
        | some i => if s.moving i then s.holdWrite i (.pkt p) else s.serveWrite p
        | none => s.serveWrite p
      else
        match s.servePlan (512 + s.ringDie a) [(a, p.len)] (s.destOf p) p r.errs with
        | .now => s.serveRead p r.errs
        | .held s => s
        | .full => { s2 with landed := s2.landed ++ [p] }

/-- A request of a ring for memory whose bytes lie in hearth, or in peat. -/
def State.ringTakes (s : State) (p : Packet) (peat : Bool) : Bool :=
  let a := field p.addr 47 0
  (match p.dst with
    | .ring _ => true
    | _ => false) && !s.isRemote p.region p.addr && (decide (p.type = .dmaRead) || decide (p.type = .dmaWrite)) &&
  (decide (peatBase ≤ s.phys a) == peat)

/-- HEARTH_ACCESS. -/
def execHearthAccess (req : RingReq) (s : State) : Host.Outcome State Fault Refusal :=
  if s.here req.pkt ∧ s.ringTakes req.pkt false then .next (s.ringServe req) else .next s

/-- PEAT_ACCESS. -/
def execPeatAccess (req : RingReq) (s : State) : Host.Outcome State Fault Refusal :=
  if s.here req.pkt ∧ s.ringTakes req.pkt true then .next (s.ringServe req) else .next s

/-- NOTICE_ACKNOWLEDGED (spec/12 R393): every NOTICE of read k of an endpoint is acknowledged, and the read is served. -/
def execNoticeAcknowledged (e : SealEnd) (k : Nat) (s : State) : Host.Outcome State Fault Refusal :=
  match unitOf e with
  | none => .next s
  | some i => match s.popRead i k with
    | none => .next s
    | some (r, s) =>
      if i < 512 then
        (match s.requestPieces i r.pkt with
          | some ps => .next (s.serveSpadRead i r.pkt ps)
          | none => .next (s.respond r.pkt .refused []))
      else .next (s.serveRead r.pkt r.errs)

/-! ## Heat and swaps (R293, R294) -/

/-- The sweep of die d reads the map entries of its names: an uncorrectable line that it finds makes the names of that line unusable (R293, R295). -/
def State.sweepMap (s : State) (d : Nat) : State :=
  (s.badLines.filter (fun g => decide (s.pool.map ≤ g) && decide (g < s.pool.map + 8 * s.pool.names))).foldl (fun s g =>
    let i := (g - s.pool.map) / 8
    match (List.range 8).find? (fun j => decide (i + j < s.pool.names) && decide (s.nameDie (i + j) = d)) with
    | some j => s.mapUe (i + j)
    | none => s) s

/-- HEAT_DECAY_PERIOD (R293, R294): every HEAT of die d's names is halved, and the sweep lists victims. -/
def execHeatDecayPeriod (d : DieId) (s : State) : Host.Outcome State Fault Refusal :=
  if !bitOf (s.reg rTIER_STATUS) 9 then .next s
  else
    let hot := (s.tierMap.filter (fun e => decide (s.nameDie e.1 = d.val))).map (fun e => e.1)
    let old := hot.map (fun i => (i, s.mapEntry i))
    let s := { s with tier := { s.tier with periods := tset (fun _ => 0) s.tier.periods d (s.periods d + 1) } }
    let s := s.sweepMap d
    let s : State := old.foldl (fun (s : State) x =>
      s.setMapEntry x.1 (setField (setField x.2 59 54 (field x.2 59 54 / 2)) 61 60 ((field x.2 61 60 + 1) % 4))) s
    let cold := (List.range s.pool.names).filter (fun i => decide (s.nameDie i = d.val) && s.inHearth i && !s.pinned i && !s.moving i &&
      decide (s.heat i ≤ s.regField rTIER_POLICY 7 0))
    let a := s.agent d
    let new := cold.filter (fun i => !a.victims.contains i)
    .next (s.setAgent d { a with victims := (a.victims ++ new).take 4096 })

/-- A scan holds name i against swaps (R299). -/
def State.scanHolds (s : State) (i : Nat) : Bool :=
  s.tier.agents.any (fun e => e.2.descs.any (fun x => x.opened && decide (leAt x.desc 0 1 = 4) &&
    x.marked.any (fun b => !x.done.contains b && !x.skipped.contains b &&
      decide (s.pool.nameOf ((x.entries.getD b (0, 0, 0)).1) = some i))))

/-- Name i is free to move. -/
def State.mayMove (s : State) (i : Nat) : Bool := !s.moving i && !s.scanHolds i

/-- SWAP_START (R294, R299, spec/11 R362): agent d pairs the head of its promote queue with the head of agent v's victim list. Heads that
no longer call for the swap leave their lists; tracked lines of both names are back-invalidated first. -/
def execSwapStart (d : DieId) (v : DieId) (s : State) : Host.Outcome State Fault Refusal :=
  let a := s.agent d
  let recent := s.tier.starts.filter (fun x => decide (s.ns < x + 1000000))
  if !bitOf (s.reg rTIER_POLICY) 63 ∨ !bitOf (s.reg rTIER_STATUS) 9 ∨ a.swap.isSome ∨ s.regField rTIER_POLICY 47 32 ≤ recent.length ∨
      s.computeReset then .next s
  else match a.promote with
    | [] => .next s
    | b :: ps =>
      if s.inHearth b ∨ s.pinned b then .next (s.setAgent d { a with promote := ps })
      else match (s.agent v).victims with
        | [] => if (List.range 4).all (fun u => (s.agent u).victims.isEmpty) then .next (s.count rTIER_CNT3 31 0 1) else .next s
        | x :: vs =>
          if !s.inHearth x ∨ s.pinned x then .next (s.setAgent v { s.agent v with victims := vs })
          else if !s.mayMove b ∨ !s.mayMove x then .next s
          else
            let (g1, s1) := s.snooped (s.nameAddr b) 65536 true
            let (g2, s2) := s1.snooped (s.nameAddr x) 65536 true
            if !g1 ∨ !g2 then .next s2
            else
              let s := s2.setAgent v { s2.agent v with victims := vs }
              let s := s.setAgent d { s.agent d with promote := ps, swap := some ⟨x, b, false, false, []⟩ }
              .next { (s.setMoving x true).setMoving b true with tier := { s.tier with starts := recent ++ [s.ns] } }

/-- The bytes of two 64 KiB frames exchanged. -/
def State.swapFrames (s : State) (fa fb : Nat) : State :=
  let at_ (f k : Nat) : Bool := decide (f ≤ k) && decide (k < f + 65536)
  let xs := s.ram.filter (fun e => at_ fa e.1)
  let ys := s.ram.filter (fun e => at_ fb e.1)
  let r := tdrop (fun k => at_ fa k || at_ fb k) s.ram
  let r := xs.foldl (fun r e => tset zeroByte r (e.1 - fa + fb) e.2) r
  { s with ram := ys.foldl (fun r e => tset zeroByte r (e.1 - fb + fa) e.2) r }

/-- Uncorrectable lines of frame j. -/
def State.frameUes (s : State) (j : Nat) : List Nat :=
  let f := s.pool.frameAddr j
  s.badLines.filter (fun g => decide (f ≤ g) && decide (g < f + 65536))

/-- The staging read of frame j fails. -/
def State.frameBad (s : State) (j : Nat) : Bool := !(s.frameUes j).isEmpty || s.chanFailed (s.pool.frameAddr j)

/-- Both entries and both frames' OCC after a swap of names a and b (R291, R294). -/
def State.exchange (s : State) (a b : Nat) : State :=
  let fa := field (s.mapEntry a) 26 0
  let fb := field (s.mapEntry b) 26 0
  let s := s.swapFrames (s.pool.frameAddr fa) (s.pool.frameAddr fb)
  let s := (s.setMapEntry a (setField (s.mapEntry a) 26 0 fb))
  let s := (s.setMapEntry b (setField (s.mapEntry b) 26 0 fa))
  let s := s.setMapEntry fa (setField (s.mapEntry fa) 53 27 b)
  s.setMapEntry fb (setField (s.mapEntry fb) 53 27 a)

/-- A promotion of name b is complete: no PREFETCH waits for it any more (R298). -/
def State.promoted (s : State) (b : Nat) : State :=
  (List.range 4).foldl (fun s d =>
    let a := s.agent d
    s.setAgent d { a with descs := a.descs.map (fun x => if leAt x.desc 0 1 = 0 ∧ x.opened then { x with marked := x.marked.filter (fun i => decide (i ≠ b)) } else x) }) s

/-- SWAP_COMPLETE (R279, R283, R294): the data are exchanged and the map changes, or the swap is abandoned at an uncorrectable word that its
staging reads find and report; held writes are applied. It waits for a row under repair (R285). -/
def execSwapComplete : AgentRun → State → Host.Outcome State Fault Refusal
  | ⟨d, errs⟩, s =>
  match (s.agent d).swap with
  | none => .next s
  | some w =>
    if s.repairHeld (s.nameAddr w.a) 65536 ∨ s.repairHeld (s.nameAddr w.b) 65536 then .next s
    else
    let s := (s.noteErrs (s.nameAddr w.a) 65536 errs).noteErrs (s.nameAddr w.b) 65536 errs
    let fa := field (s.mapEntry w.a) 26 0
    let fb := field (s.mapEntry w.b) 26 0
    let badA := s.frameBad fa
    let badB := s.frameBad fb
    let s := (s.frameUes fa ++ s.frameUes fb).foldl (fun s g => s.lineUe g) s
    let s :=
      if badA ∨ badB then
        let s := [(w.a, badA), (w.b, badB)].foldl (fun s x =>
          if x.2 then
            let s := s.setPin x.1 true
            { s with tier := { s.tier with enginePins := if s.tier.enginePins.contains x.1 then s.tier.enginePins else s.tier.enginePins ++ [x.1] } }
          else s) s
        (s.tierStat 7).record ⟨sevDegraded, 13, 7, 3, d, 0, 0, 0, 0⟩
      else (((s.exchange w.a w.b).count rTIER_CNT 63 32 1).dieEvent d 0x06 0 1).promoted w.b
    let s := (s.setMoving w.a false).setMoving w.b false
    let s := if w.pinA then s.setPin w.a true else s
    let s := if w.pinB then s.setPin w.b true else s
    let s := s.setAgent d { s.agent d with swap := none }
    .next (w.held.foldl (fun s h => s.applyHeld h) s)

/-- TIER_POLICY_WRITE (R308). -/
def execTierPolicyWrite (who : Initiator) (v : Word) (s : State) : Host.Outcome State Fault Refusal :=
  .next (s.gateReg who rTIER_POLICY (fun s =>
    let per := field v 47 32
    let pro := field v 15 8
    let dem := field v 7 0
    if 1 ≤ per ∧ per ≤ 4096 ∧ 100 ≤ field v 31 16 ∧ 1 ≤ pro ∧ pro ≤ 63 ∧ dem ≤ 62 ∧ dem < pro then s.regWrite rTIER_POLICY v
    else s.tierStat 8))

/-! ## Health of stacks and channels (R280, R282, R284, R285) -/

/-- HBM_TEMP_REPORT (R280, spec/16 R510): a stack's temperature, and what its error check and scrub counted since the last report; above 85 °C refresh is doubled; at its own high-temperature limit HOT is
set and the power manager limits access, until the stack reads 3 °C below. The report says whether the stack has reached its limit. -/
def execHbmTempReport (k : StackId) (celsius : BitVec 8) : TempReport → State → Host.Outcome State Fault Refusal
  | ⟨limit, rows, errors⟩, s =>
  let key := stackKey k rHTH_Ss_STATE
  let s := (s.count (stackKey k rHTH_Ss_ECS) 63 32 rows.toNat).count (stackKey k rHTH_Ss_ECS) 31 0 errors.toNat
  let t := celsius.toNat
  let s := s.setReg key (setBit (setField (s.reg key) 31 24 t) 3 (decide (85 < t)))
  let lim := tget (fun _ => 0) s.tier.hot k
  if limit then
    let s := { s with tier := { s.tier with hot := tset (fun _ => 0) s.tier.hot k (t + 1) } }
    let s := (s.setReg key (setBit (s.reg key) 2 true)).orReg (dieKey (k / 3) rHTH_STATUS) (2 ^ (4 * (k.val % 3) + 2))
    .next (s.orReg (dieKey (k / 3) rPWR_STATUS) (2 ^ 5))
  else if lim ≠ 0 ∧ t + 4 ≤ lim then
    .next ({ s with tier := { s.tier with hot := tset (fun _ => 0) s.tier.hot k 0 } }.setReg key (setBit (s.reg key) 2 false))
  else .next s

/-- A physical peat line lies on a channel. -/
def State.onChannel (s : State) (k g : Nat) : Bool := decide (peatBase ≤ g) && decide ((s.peatPlace g).1 = k)

/-- PATROL_SCRUB_PASS (R284, R285): a pass over a channel has corrected some lines and found some uncorrectable, given by local address;
`rowFull`: a line of a row that came to 16 corrected errors within the period. -/
def execPatrolScrubPass (ch : ChanId) (corrected : BitVec 32) (bad : List Nat) (rowFull : Option Nat) (s : State) :
    Host.Outcome State Fault Refusal :=
  let k := ch.val
  let key := chanKey k rPEAT_Cc_SCRUB
  if s.regField key 15 0 = 0 ∨ !s.pool.chans.contains k then .next s
  else
    let new := ((bad.map (fun a => a - a % 64)).filter (fun g => s.onChannel k g && !s.badLines.contains g)).eraseDups
    let s := { s with badLines := s.badLines ++ new }
    let s := if corrected = 0 then s
      else (s.count (chanKey k rPEAT_Cc_ECC) 31 0 corrected.toNat).orReg (dieKey (k / 3) rPEAT_STATUS) (2 ^ (8 * (k % 3)))
    let s := (s.badLines.filter (fun g => s.onChannel k g)).foldl (fun s g => (s.peatUe g).pprRequest g) s
    let s := match rowFull with
      | some g => if s.onChannel k g then s.pprRequest g else s
      | none => s
    .next ((s.setRegField key 41 32 0).orReg (dieKey (k / 3) rPEAT_STATUS) (2 ^ (8 * (k % 3) + 5)))

/-- PPR_COMPLETE (R285): the soft repair that GO started has ended; the row's lines, uncorrectable ones too, stand as before. -/
def execPprComplete (ch : ChanId) (ok : Bool) (s : State) : Host.Outcome State Fault Refusal :=
  let key := chanKey ch rPEAT_Cc_PPR
  if bitOf (s.reg key) 62 then .next (s.setReg key (setBit (setBit (setBit (s.reg key) 62 false) 61 true) 60 (!ok))) else .next s

/-- PEAT_CHANNEL_FAILURE (R282): the channel stays in the interleave, its accesses answered POISONED. -/
def execPeatChannelFailure (ch : ChanId) (s : State) : Host.Outcome State Fault Refusal :=
  if s.pool.chans.contains ch.val ∧ !s.tier.failed.contains ch.val then
    .next { s with tier := { s.tier with failed := s.tier.failed ++ [ch.val] } }
  else .next s

end Sys2Proof.Machine
end

