-- ==== Sys2Proof/Machine/Prefetch.lean ====
section
/-! DEFINITION. Prefetch descriptors and peat scans: TPREF, the operations of the tier agents, their status records, and what a scan unit
computes (spec/09 R296 to R307, spec/12 R401). -/

namespace Sys2Proof.Machine

/-! ## Descriptors (R296) -/

/-- OP of a descriptor. -/
def TierDesc.op (x : TierDesc) : Nat := leAt x.desc 0 1
/-- STATUS_EN. -/
def TierDesc.statusEn (x : TierDesc) : Bool := (leAt x.desc 1 1).testBit 0
/-- OUT_ADV. -/
def TierDesc.outAdv (x : TierDesc) : Bool := (leAt x.desc 1 1).testBit 1
/-- COUNT. -/
def TierDesc.count (x : TierDesc) : Nat := leAt x.desc 2 2
/-- ROWS of a SCAN. -/
def TierDesc.rows (x : TierDesc) : Nat := leAt x.desc 44 1
/-- D of a SCAN. -/
def TierDesc.dim (x : TierDesc) : Nat := 32 * leAt x.desc 45 1
/-- MERGED. -/
def TierDesc.merge (x : TierDesc) : Bool := (leAt x.desc 62 1).testBit 2
/-- Row pitch of the records in OUT (R303). -/
def TierDesc.pitch (x : TierDesc) : Nat := partialSize x.merge x.dim
/-- Bytes of the OUT area (R303). -/
def TierDesc.outBytes (x : TierDesc) : Nat := (if x.merge then 12 else 4096) * x.rows * x.pitch

/-- Most descriptors in flight at an agent (R296). -/
def maxDescs : Nat := 64

/-- TPREF (R296): the descriptor at a[A] + IMM goes to the agent of the core's die, once it has room. -/
def tryTpref (n t : Nat) (f : InsnBits) (s : State) : Try :=
  let k := s.task n t
  let addr := k.addrA f
  (s.block n t addr 64).try_ s n t addr (fun s b =>
    let op := leAt b 0 1
    if 5 ≤ op then .stop (s.endTask n t endIllegal k.lastWord)
    else
      (s.block n t addr (if op = 4 then 128 else 64)).try_ s n t addr (fun s b =>
        let a := s.agent (n / 128)
        if maxDescs ≤ a.descs.length then .wait s 0 0 0 false
        else
          let x : TierDesc := ⟨n, t, k.pc, b, [], false, 0, [], [], [], [], 0, 0, 0, [], false, []⟩
          .done (s.setAgent (n / 128) { a with descs := a.descs ++ [x] })))

/-- TPREF. -/
def execTpref (c : CoreId) (t : TaskSlot) (f : InsnBits) (s : State) : Host.Outcome State Fault Refusal :=
  .next (s.issue c t 0x5A f (fun _ _ => tryTpref c t f))

/-! ## Reads and writes of an agent -/

/-- A read by an agent at a local address; none when it is refused or finds an uncorrectable word. -/
def State.agentRead (s : State) (a len : Nat) : Option Bytes × State :=
  if !s.memOk a len then (none, s)
  else match s.kindOf a with
    | .spad n o =>
      if !s.live n ∨ !s.spadPowered n o len then (none, s)
      else if s.readBad a len then (none, s.noteUe n (s.firstBad n o len) (s.ueIn n o len) .dma 0)
      else (some (s.bytes a len), s)
    | .hearth => s.ringRead a len
    | .peat => s.ringRead a len
    | _ => (none, s)

/-- What becomes of an agent's write: refused, done, or sent to another module under a tag. -/
inductive AgentEnd
  | refused
  | done
  | sent (tag : Nat)
  deriving DecidableEq, Repr

/-- A write by an agent to hearth or peat, through the pool's map: held where its name is MOVING (R294); one that meets an uncorrectable line which
it does not cover, an unusable name or a failed channel is answered POISONED, and so fails (R282, R295, R513). -/
def State.agentStore (s : State) (a : Nat) (b : Bytes) : AgentEnd × State :=
  let s := (s.namesIn a b.length).foldl (fun s i => s.access i 0) s
  if s.unusable a b.length ∨ (s.linesOf a b.length).any s.chanFailed then (.refused, s)
  else match (s.namesIn a b.length).find? s.moving with
    | some i => (.done, s.holdWrite i (.agent a b))
    | none => (if s.writeBad a b.length then .refused else .done, s.store a b)

/-- TAG of write k of agent d to another module. -/
def agentTag (d k : Nat) : Nat := 2 ^ 27 + d * 2 ^ 24 + k % 2 ^ 24

/-- A write by an agent of die d at a DMA destination, moved on by an offset; `adv`: TAIL advances by that much after it (R298, R303). -/
def State.agentWrite (s : State) (d : Nat) (a : Word) (off : Nat) (b : Bytes) (adv : Nat) : AgentEnd × State :=
  let region := s.regionForm a
  let x := addrPlus region a off
  if s.isRemote region x then
    let g := s.agent d
    let tag := agentTag d g.tags
    let p : Packet :=
      { dst := ringOf (field x 63 48 % 4), src := ringOf d, type := .dmaWrite, fence := false, poison := false, adv := decide (adv ≠ 0), status := .ok
        tag := BitVec.ofNat 32 tag, addr := x, region := region, len := b.length, data := b, msg := none, span := none }
    (.sent tag, (s.setAgent d { g with tags := g.tags + 1 }).inject p)
  else if region then
    let n := field a 46 38
    if !s.live n then (.refused, s)
    else match (s.core n).regionPieces x b.length true with
      | none => (.refused, s)
      | some ps =>
        if ps.any (fun q => !s.spadPowered n q.1 q.2) then (.refused, s.coreStat n rSPAD_STATUS 2)
        else
          let s := s.pieceStore n ps b
          if adv = 0 then (.done, s)
          else match (s.core n).dmaAdvance a false adv with
            | some c => (.done, s.setCore n c)
            | none => (.refused, s)
  else
    let l := field x 47 0
    if !s.memOk l b.length then (.refused, s)
    else match s.kindOf l with
      | .spad n o => if s.live n ∧ s.spadPowered n o b.length then (.done, s.store l b) else (.refused, s.coreStat n rSPAD_STATUS 2)
      | .hearth => s.agentStore l b
      | .peat => s.agentStore l b
      | _ => (.refused, s)

/-! ## Status records (R298) -/

/-- A bit map of entries, in whole 64 B (R298). -/
def entryMap (count : Nat) (bits : List Nat) : Bytes :=
  (List.range (ceilDiv count 512 * 64)).map (fun i =>
    BitVec.ofNat 8 ((List.range 8).foldl (fun v j => if bits.contains (8 * i + j) then v + 2 ^ j else v) 0))

/-- A status record: KIND 1 RESOLVED with the entries assigned, 2 DONE with those written. -/
def TierDesc.record (x : TierDesc) (kind : Nat) (bits : List Nat) : Bytes :=
  let scan := decide (x.op = 4)
  leBytes 1 kind ++ leBytes 1 (if kind = 1 then 0 else x.result) ++ leBytes 2 x.count ++ leBytes 4 (leAt x.desc 4 4) ++
  leBytes 2 (if scan then bits.length else 0) ++ leBytes 2 x.badEntries ++ leBytes 2 x.ueBlocks ++ leBytes 2 x.dropped ++ leBytes 48 0 ++
  (if scan then entryMap x.count bits else [])

/-- A status record written to STATUS when STATUS_EN asks for one; a refused write sets STATUS_LOST. -/
def State.putStatus (s : State) (d : Nat) (x : TierDesc) (kind : Nat) (bits : List Nat) : State :=
  if !x.statusEn then s
  else
    let a := BitVec.ofNat 64 (leAt x.desc 16 8)
    let b := x.record kind bits
    match s.agentWrite d a 0 b (if s.regionForm a then b.length else 0) with
    | (.refused, s) => s.tierStat 1
    | (.done, s) => s
    | (.sent tag, s) => s.setAgent d { s.agent d with statusTags := (s.agent d).statusTags ++ [tag] }

/-- A descriptor at an agent replaced, or taken away. -/
def State.setDesc (s : State) (d k : Nat) (x : Option TierDesc) : State :=
  let a := s.agent d
  s.setAgent d { a with descs := match x with
    | some x => a.descs.set k x
    | none => a.descs.eraseIdx k }

/-- A descriptor ends: its DONE record is written (R298). -/
def State.endDesc (s : State) (d k : Nat) (x : TierDesc) : State := (s.putStatus d x 2 x.done).setDesc d k none

/-! ## Opening a descriptor (R296, R297) -/

/-- Checks of the common part (R296). -/
def TierDesc.commonOk (x : TierDesc) : Bool :=
  decide (leAt x.desc 1 1 < (if x.op = 4 then 4 else 2)) && decide (1 ≤ x.count) && decide (x.count ≤ 4096) &&
  decide (leAt x.desc 8 8 % 16 = 0) && (decide (x.op = 4) || zeroFrom x.desc 24 40)

/-- List entries from their bytes. -/
def listEntries (b : Bytes) (count : Nat) : List (Nat × Nat × Nat) :=
  (List.range count).map (fun i => (leAt b (16 * i) 8, leAt b (16 * i + 8) 4, leAt b (16 * i + 12) 4))

/-- The list entries that their checks allow (R296): names aligned, TOKENS and POS zero but for SCAN. -/
def entriesOk (scan : Bool) (es : List (Nat × Nat × Nat)) : Bool :=
  es.all (fun e => decide (e.1 % 65536 = 0) && (scan || (decide (e.2.1 = 0) && decide (e.2.2 = 0))))

/-- A local address range of an agent's access that may meet a row under repair. -/
def State.localHeld (s : State) (a : Word) (len : Nat) : Bool := !s.isRemote (s.regionForm a) a && !s.regionForm a && s.repairHeld (field a 47 0) len

/-- A descriptor's list, queries, records or status lie in a row under repair: its accesses are held (R285). -/
def State.descHeld (s : State) (x : TierDesc) : Bool :=
  s.repairHeld (leAt x.desc 8 8) (16 * x.count) || (x.statusEn && s.localHeld (BitVec.ofNat 64 (leAt x.desc 16 8)) (64 + ceilDiv x.count 512 * 64)) ||
    (decide (x.op = 4) && (s.repairHeld (leAt x.desc 32 8) 8192 || s.localHeld (BitVec.ofNat 64 (leAt x.desc 24 8)) x.outBytes))

/-- A descriptor's accesses may be served: none meets a row under repair, and the host's lines among its list, queries, records and status, and
in `more`, are snooped (R285, spec/11 R360). -/
def State.descReady (s : State) (x : TierDesc) (more : List (Nat × Nat × Bool)) : Bool × State :=
  let at_ (o : Nat) (len : Nat) : List (Nat × Nat × Bool) :=
    let a : Word := BitVec.ofNat 64 (leAt x.desc o 8)
    if s.isRemote (s.regionForm a) a ∨ s.regionForm a then [] else [(field a 47 0, len, true)]
  if s.descHeld x then (false, s)
  else s.snoopedAll ([(leAt x.desc 8 8, 16 * x.count, false)] ++ more ++ (if x.op = 4 then (leAt x.desc 32 8, 8192, false) :: at_ 24 x.outBytes else []) ++
    (if x.statusEn then at_ 16 (64 + ceilDiv x.count 512 * 64) else []))

/-- What the list of a descriptor comes to: RESULT, its entries, and the state after its read. -/
def State.readList (s : State) (x : TierDesc) (errs : LineErrs) : Nat × List (Nat × Nat × Nat) × State :=
  if !x.commonOk then (2, [], s.tierStat 2)
  else match (s.noteErrs (leAt x.desc 8 8) (16 * x.count) errs).agentRead (leAt x.desc 8 8) (16 * x.count) with
    | (none, s) => (3, [], s)
    | (some b, s) =>
      let es := listEntries b x.count
      if entriesOk (decide (x.op = 4)) es then (0, es, s) else (2, [], s.tierStat 2)

/-- Name of a list entry, when it is a pool address. -/
def State.entryName (s : State) (e : Nat × Nat × Nat) : Option Nat := s.pool.nameOf e.1

/-- Entries that are not pool addresses are skipped and counted (R297). -/
def State.badEntries (s : State) (es : List (Nat × Nat × Nat)) : Nat := es.countP (fun e => (s.entryName e).isNone)

/-- The oldest descriptor of an operation at agent d that has not been opened, with its place. -/
def State.oldestDesc (s : State) (d op : Nat) : Option (Nat × TierDesc) :=
  ((s.agent d).descs.zipIdx.find? (fun x => decide (x.1.op = op) && !x.1.opened)).map (fun x => (x.2, x.1))

/-- The operation of a descriptor on a name, through the map; a name whose entry is unusable stays as it is (R295, R297). -/
def State.actOn (s : State) (act : State → Nat → State) (i : Nat) : State :=
  let s := s.lookup i
  if s.mapUnusable i then s else act s i

/-- Agent d opens its oldest descriptor of an operation: it acts on each name, and ends at once unless it awaits some names. -/
def State.runDesc (s : State) (d op : Nat) (errs : LineErrs) (awaits : State → Nat → Bool) (act : State → Nat → State) : State :=
  if !bitOf (s.reg rTIER_STATUS) 9 then s
  else match s.oldestDesc d op with
    | none => s
    | some (k, x) =>
      let (go, s) := s.descReady x []
      if !go then s
      else match s.readList x errs with
      | (0, es, s) =>
        let names := es.filterMap (fun e => s.entryName e)
        let bad := s.badEntries es
        let s := if bad = 0 then s else s.tierStat 3
        let wait := (names.filter (awaits s)).eraseDups
        let s := names.foldl (fun s i => s.actOn act i) s
        let x := { x with opened := true, marked := wait, badEntries := bad }
        if wait.isEmpty then s.endDesc d k x else s.setDesc d k (some x)
      | (r, _, s) => s.endDesc d k { x with result := r }

/-- The oldest open descriptor of an operation at agent d whose names all have what they waited for. -/
def State.readyDesc (s : State) (d op : Nat) (waits : State → Nat → Bool) : Option (TierDesc × Nat) :=
  (s.agent d).descs.zipIdx.find? (fun x => decide (x.1.op = op) && x.1.opened && x.1.marked.all (fun i => !waits s i))

/-- A name held in peat goes to the head of its promote queue with HEAT PROMOTE_T (R297). -/
def State.prefetchName (s : State) (i : Nat) : State :=
  if s.inHearth i then s else (s.setHeat i (s.regField rTIER_POLICY 15 8)).promoteFirst i

/-- A promotion that a PREFETCH asked for is still to come: its name is queued or moving. -/
def State.promoting (s : State) (i : Nat) : Bool := (s.agent (s.nameDie i)).promote.contains i || s.moving i

/-- PREFETCH (R297, R298): the agent opens its oldest PREFETCH; one whose promotions are complete or dropped ends. -/
def execPrefetch : AgentRun → State → Host.Outcome State Fault Refusal
  | ⟨d, errs⟩, s =>
  match s.readyDesc d 0 State.promoting with
  | some (x, k) => .next (s.endDesc d k { x with dropped := x.marked.length })
  | none => .next (s.runDesc d 0 errs (fun s i => !s.inHearth i && !s.mapUnusable i) State.prefetchName)

/-- HEAT := 0; a name in hearth goes to the head of its victim list (R297). -/
def State.coolName (s : State) (i : Nat) : State :=
  let s := s.setHeat i 0
  if s.inHearth i then
    let v := s.nameDie i
    let a := s.agent v
    s.setAgent v { a with victims := (i :: a.victims.filter (fun j => decide (j ≠ i))).take 4096 }
  else s

/-- PIN, or a PIN that waits for the name's swap (R297). -/
def State.pinName (s : State) (i : Nat) : State :=
  if s.moving i then
    (List.range 4).foldl (fun s d =>
      let a := s.agent d
      match a.swap with
      | some w => s.setAgent d { a with swap := some { w with pinA := w.pinA || decide (w.a = i), pinB := w.pinB || decide (w.b = i) } }
      | none => s) s
  else s.setPin i true

/-- PIN := 0, unless the engine set it (R294, R297). -/
def State.unpinName (s : State) (i : Nat) : State :=
  if s.tier.enginePins.contains i then s
  else
    (List.range 4).foldl (fun s d =>
      let a := s.agent d
      match a.swap with
      | some w => s.setAgent d { a with swap := some { w with pinA := w.pinA && decide (w.a ≠ i), pinB := w.pinB && decide (w.b ≠ i) } }
      | none => s) (s.setPin i false)

/-- COOL. -/
def execCool : AgentRun → State → Host.Outcome State Fault Refusal
  | ⟨d, errs⟩, s => .next (s.runDesc d 1 errs (fun _ _ => false) State.coolName)
/-- PIN: a descriptor with names that are MOVING ends once their swaps are complete (R297, R298). -/
def execPin : AgentRun → State → Host.Outcome State Fault Refusal
  | ⟨d, errs⟩, s =>
  match s.readyDesc d 2 State.moving with
  | some (x, k) => .next (s.endDesc d k x)
  | none => .next (s.runDesc d 2 errs State.moving State.pinName)
/-- UNPIN. -/
def execUnpin : AgentRun → State → Host.Outcome State Fault Refusal
  | ⟨d, errs⟩, s => .next (s.runDesc d 3 errs (fun _ _ => false) State.unpinName)

/-! ## Scans (R299 to R307) -/

/-- Format bytes of a SCAN: QFMT, KFMT, VFMT, WFMT. -/
def TierDesc.fmt (x : TierDesc) (i : Nat) : Nat := leAt x.desc (40 + i) 1
/-- Bytes of a row of len elements of a format. -/
def elemBytes (fmt len : Nat) : Nat := len * elemBits (fmtCode fmt) / 8
/-- KS_OFS, V_OFS and VS_OFS. -/
def TierDesc.ksOfs (x : TierDesc) : Nat := leAt x.desc 46 2
/-- V_OFS. -/
def TierDesc.vOfs (x : TierDesc) : Nat := leAt x.desc 48 2
/-- VS_OFS. -/
def TierDesc.vsOfs (x : TierDesc) : Nat := leAt x.desc 50 2

/-- The areas of a block that hold t tokens: offset and length (R301). -/
def TierDesc.areas (x : TierDesc) (t : Nat) : List (Nat × Nat) :=
  [(0, t * elemBytes (x.fmt 1) x.dim), (x.vOfs, t * elemBytes (x.fmt 2) x.dim)] ++
  (if fmtMx (x.fmt 1) then [(x.ksOfs, t * (x.dim / 32))] else []) ++
  (if fmtMx (x.fmt 2) then [(x.vsOfs, ceilDiv t 32 * x.dim)] else [])

/-- No two of some areas overlap, and all lie in a block. -/
def areasOk (l : List (Nat × Nat)) : Bool :=
  let l := l.filter (fun x => decide (x.2 ≠ 0))
  l.all (fun x => decide (x.1 + x.2 ≤ 65536)) &&
  l.zipIdx.all (fun x => l.zipIdx.all (fun y => decide (x.2 = y.2) || decide (x.1.1 + x.1.2 ≤ y.1.1) || decide (y.1.1 + y.1.2 ≤ x.1.1)))

/-- The fields of a SCAN are within their ranges and its pairs permitted (R300, R301). -/
def TierDesc.scanOk (x : TierDesc) (es : List (Nat × Nat × Nat)) : Bool :=
  let g (o : Nat) : Int := signedN 16 (leAt x.desc o 2)
  let w := x.fmt 3
  pairOk (x.fmt 0) (x.fmt 1) && pairOk w (x.fmt 2) && decide (1 ≤ w ∧ w ≤ 5) && decide (1 ≤ x.rows ∧ x.rows ≤ 16) &&
  decide (32 ≤ x.dim ∧ x.dim ≤ 256) && decide (-256 ≤ g 52 ∧ g 52 ≤ 255) && decide (-256 ≤ g 54 ∧ g 54 ≤ 255) &&
  decide (leAt x.desc 62 1 < 8) && decide (leAt x.desc 62 1 % 4 ≠ 3) && zeroFrom x.desc 63 1 && zeroFrom x.desc 76 52 &&
  es.all (fun e => areasOk (x.areas e.2.1))

/-- Bytes of the queries: rows, then their scale plane if MX. -/
def TierDesc.queryBytes (x : TierDesc) : Nat := x.rows * elemBytes (x.fmt 0) x.dim + (if fmtMx (x.fmt 0) then x.rows * (x.dim / 32) else 0)

/-- Entry b is assigned to a peat scan unit (R299, R306): its name is held in peat on a channel whose unit is in service. -/
def State.assigned (s : State) (e : Nat × Nat × Nat) : Bool :=
  match s.entryName e with
  | some i => !s.inHearth i && !s.tier.scanOut.contains (s.peatPlace (s.phys e.1)).1
  | none => false

/-- SCAN (R299, R301): the agent opens its oldest SCAN: list and queries are read, checked and resolved; it waits while a listed name is
MOVING. -/
def execScan : AgentRun → State → Host.Outcome State Fault Refusal
  | ⟨d, errs⟩, s =>
  if !bitOf (s.reg rTIER_STATUS) 9 then .next s
  else match s.oldestDesc d 4 with
    | none => .next s
    | some (k, x) =>
      let stop (s : State) (r : Nat) : State := (s.endDesc d k { x with result := r }).count rTIER_CNT2 63 32 1
      let (go, s) := s.descReady x []
      if !go then .next s
      else match s.readList x errs with
      | (0, es, s1) =>
        if !x.scanOk es then .next (stop (s1.tierStat 2) 2)
        else if es.any (fun e => ((s1.entryName e).map s1.moving).getD false) then .next s
        else match (s1.noteErrs (leAt x.desc 32 8) x.queryBytes errs).agentRead (leAt x.desc 32 8) x.queryBytes with
          | (none, s) => .next (stop s 3)
          | (some q, s) =>
            let bad := s.badEntries es
            let s := if bad = 0 then s else s.tierStat 3
            let s := (es.filterMap (fun e => s.entryName e)).foldl (fun s i => s.lookup i) s
            let mk := (List.range x.count).filter (fun b => s.assigned (es.getD b (0, 0, 0)))
            let x := { x with entries := es, opened := true, marked := mk, queries := q, badEntries := bad }
            .next ((s.putStatus d x 1 mk).setDesc d k (some x))
      | (r, _, s) => .next (stop s r)

/-- Element i of codes packed from a byte offset, with the exponent of its scale (R22 to R24). -/
def packedElem (b : Bytes) (off fmt i : Nat) : Num := decodeElem (fmtCode fmt) (fmtMx fmt) (packedAt (ofLe (b.drop off)) (elemBits (fmtCode fmt)) i)

/-- Scale exponent of a block: 0 for a plain format, none for a NaN scale. -/
def scaleOf (mx : Bool) (b : Bytes) (off : Nat) : Option Int := if mx then scaleExp (leAt b off 1) else some 0

/-- The exact product of two vectors taken 32 positions at a time (R26 to R37): scales by group, a term for each group. -/
def dotWindow (bf16 : Bool) (g : Int) (groups : List (Option Int × Option Int × List (Num × Num))) : Window :=
  groups.foldl (fun w x => (w.addHalf (halfSum bf16 x.1 x.2.1 g x.2.2)).getD w) .empty

/-- The window of score j of query row r (R302). -/
def TierDesc.scoreWindow (x : TierDesc) (blk : Bytes) (r j : Nat) : Window :=
  let d := x.dim
  let qf := x.fmt 0
  let kf := x.fmt 1
  let g := signedN 16 (leAt x.desc 52 2)
  let qPlane := x.rows * elemBytes qf d
  dotWindow (decide (fmtCode qf = 6)) g ((List.range (d / 32)).map (fun h =>
    (scaleOf (fmtMx qf) x.queries (qPlane + r * (d / 32) + h), scaleOf (fmtMx kf) blk (x.ksOfs + j * (d / 32) + h),
     (List.range 32).map (fun i => (packedElem x.queries (r * elemBytes qf d) qf (32 * h + i), packedElem blk (j * elemBytes kf d) kf (32 * h + i))))))

/-- The window of output dimension i from the weights of a row (R302). -/
def TierDesc.valueWindow (x : TierDesc) (blk : Bytes) (ws : List Num) (i : Nat) : Window :=
  let d := x.dim
  let vf := x.fmt 2
  let g := signedN 16 (leAt x.desc 54 2)
  dotWindow (decide (fmtCode vf = 6)) g ((List.range (ceilDiv ws.length 32)).map (fun u =>
    (some 0, scaleOf (fmtMx vf) blk (x.vsOfs + u * d + i),
     ((ws.drop (32 * u)).take 32).zipIdx.map (fun w => (w.1, packedElem blk (x.vOfs + (32 * u + w.2) * elemBytes vf d) vf i)))))

/-- The record of query row r over a block with t valid tokens from position pos (R302). LOSS is set when a window of S or of an O_i has lost bits, and
NAN where R96 gives it, as SMX_PART sets it (R103, R304). -/
def State.scanRow (s : State) (x : TierDesc) (blk : Bytes) (t pos r : Nat) : Partial × State :=
  let d := x.dim
  let xs := (List.range t).map (fun j => (r32 (x.scoreWindow blk r j).value).1)
  let nans : List Bytes := (List.range (d + 1)).map (fun _ => f32Bytes .nan)
  match scoresOf xs (decodeF32 (leAt x.desc 56 4)) with
  | .invalid => (⟨some 0, false, false, true, nans⟩, s)
  | .empty => (⟨none, false, false, false, (List.range (d + 1)).map (fun _ => leBytes 4 0)⟩, s)
  | .row us _ =>
    let (mu, s) := s.anchorOf us
    let (es, _) := weights us mu
    let w := x.fmt 3
    let o : OutCtx := ⟨w, (Rnd.ofField (leAt x.desc 62 1 % 4)).getD .rne, false, BitVec.ofNat 64 (leAt x.desc 64 8), leAt x.desc 60 2⟩
    let (sc, els, _) := o.row (leAt x.desc 72 4 + r) pos (exactly es)
    let ws := decodeRow w t (packAll (elemBits (fmtCode w)) els) sc
    let sum := sumWindow ws
    let vs := (List.range d).map (fun i => x.valueWindow blk ws i)
    let all := sum :: vs
    (⟨some mu, false, all.any (fun u => u.loss), false, all.map (fun u => f32Bytes (r32 u.value).1)⟩, s)

/-- Records of a block with NAN set (R305). -/
def TierDesc.nanRecords (x : TierDesc) : List Partial :=
  (List.range x.rows).map (fun _ => ⟨some 0, false, false, true, (List.range (x.dim + 1)).map (fun _ => f32Bytes .nan)⟩)

/-- Records of every query row over a block. -/
def State.scanRows (s : State) (x : TierDesc) (blk : Bytes) (t pos : Nat) : Nat → List Partial × State
  | 0 => ([], s)
  | r + 1 =>
    let (ps, s) := s.scanRows x blk t pos r
    let (p, s) := s.scanRow x blk t pos r
    (ps ++ [p], s)

/-- A write of a descriptor for one of its entries: refused, it makes RESULT REFUSED and the entry one that is not scanned; sent to another module, its
answer is awaited (R298, R299, R303). -/
def State.descWrite (s : State) (d : Nat) (x : TierDesc) (entry off : Nat) (b : Bytes) (adv : Nat) : TierDesc × State :=
  match s.agentWrite d (BitVec.ofNat 64 (leAt x.desc 24 8)) off b adv with
  | (.refused, s) => ({ x with result := 3, done := x.done.filter (fun i => decide (i ≠ entry)), skipped := if x.marked.contains entry then x.skipped ++ [entry] else x.skipped }, s)
  | (.done, s) => (x, s)
  | (.sent tag, s) => ({ x with owed := x.owed ++ [(tag, entry)] }, s)

/-- The records of entry b, whose scan is done, kept for MERGED or written to OUT (R303). -/
def State.putRecords (s : State) (d : Nat) (x : TierDesc) (ch b : Nat) (ps : List Partial) : TierDesc × State :=
  let x := { x with done := x.done ++ [b] }
  if x.merge then
    ({ x with merged := ps.zipIdx.foldl (fun m p =>
        tset (fun _ => []) m (ch * 16 + p.2) (tget (fun _ => []) m (ch * 16 + p.2) ++ p.1.toBytes)) x.merged }, s)
  else ps.zipIdx.foldl (fun (q : TierDesc × State) p => q.2.descWrite d q.1 b ((b * x.rows + p.2) * x.pitch) p.1.toBytes 0) (x, s)

/-- A scan unit leaves service (R306). -/
def State.scanUnitOut (s : State) (k : Nat) : State :=
  let s := { s with tier := { s.tier with scanOut := s.tier.scanOut ++ [k] } }
  let s := s.setReg (chanKey k rPEAT_Cc_CFG) (setBit (s.reg (chanKey k rPEAT_Cc_CFG)) 3 false)
  let s := (s.orReg (dieKey (k / 3) rPEAT_STATUS) (2 ^ (8 * (k % 3) + 4))).tierStat 6
  s.record ⟨sevDegraded, 13, 6, 5, k, 0, 0, 0, 0⟩

/-- PARTIAL, unless a refusal stands. -/
def TierDesc.partly (x : TierDesc) : TierDesc := { x with result := if x.result = 0 then 1 else x.result }

/-- SCAN_BLOCK (R302 to R306, spec/12 R401): the scan unit of its channel reaches entry b of descriptor k of agent d. It waits while the
block is OPEN, tracked by the host or in a row under repair; `mismatches`: how often its two circuits differed; `errs`: what the read's checks report. -/
def execScanBlock (d : DieId) (k : Fin 64) (b : Fin 4096) (mismatches : Fin 3) (errs : LineErrs) (s : State) : Host.Outcome State Fault Refusal :=
  match (s.agent d).descs[k.val]? with
  | none => .next s
  | some x =>
    let i := b.val
    if x.op ≠ 4 ∨ !x.opened ∨ !x.marked.contains i ∨ x.done.contains i ∨ x.skipped.contains i then .next s
    else
      let (name, t, pos) := x.entries.getD i (0, 0, 0)
      let ch := (s.peatPlace (s.phys name)).1
      let u := s.sealUnit (512 + s.ringDie name)
      let states := (blocksOf name 65536).map u.blockState
      let skip (s : State) : State := s.setDesc d k (some { x with skipped := x.skipped ++ [i] }.partly)
      if states.any (fun v => decide (2 ≤ v)) then .next (skip s)
      else if states.any (fun v => decide (v = 0)) ∨ s.repairHeld name 65536 then .next s
      else if s.tier.scanOut.contains ch then .next (skip s)
      else
        let (go, s) := s.descReady x [(name, 65536, false)]
        if !go then .next s
        else
          let s := if mismatches.val = 0 then s else s.count (chanKey ch rPEAT_Cc_SCANCNT) 31 0 1
          if mismatches.val = 2 then .next (skip (s.scanUnitOut ch))
          else
            let s := s.noteErrs name 65536 errs
            let s := (s.count (chanKey ch rPEAT_Cc_SCANCNT) 63 32 1).dieEvent (ch / 3) 0x08 (ch % 3) 1
            match s.ringRead name 65536 with
            | (none, s) =>
              let (x, s) := s.putRecords d { x with ueBlocks := x.ueBlocks + 1 }.partly ch i x.nanRecords
              .next (s.setDesc d k (some x))
            | (some blk, s) =>
              let (ps, s) := s.scanRows x blk t pos x.rows
              let (x, s) := s.putRecords d x ch i ps
              .next (s.setDesc d k (some x))

/-- Partials of their records one after another. -/
def splitPartials (d p : Nat) : Nat → Bytes → List Partial
  | 0, _ => []
  | n + 1, b => if b.isEmpty then [] else ((Partial.ofBytes d (b.take p)).toList) ++ splitPartials d p n (b.drop p)

/-- The merged record of channel c and row r: an EXACT one over its block records (R303). -/
def TierDesc.mergedRecord (x : TierDesc) (c r : Nat) : Bytes :=
  let b := tget (fun _ => []) x.merged (c * 16 + r)
  match mergePartials (splitPartials x.dim (partialSize false x.dim) 4096 b) true x.dim with
  | some (p, _) => p.toBytes
  | none => []

/-- The merged records of a SCAN, where it has MERGED, and the advance of TAIL over OUT (R303). To another module the advance goes with a write that
ends where OUT ends: the last merged record, or the zero that pads the last block record. -/
def State.closeScan (s : State) (d : Nat) (x : TierDesc) : TierDesc × State :=
  let x := { x with closing := true }
  let out := BitVec.ofNat 64 (leAt x.desc 24 8)
  let far := s.isRemote (s.regionForm out) out
  let (x, s) :=
    if x.merge then
      ((List.range 12).flatMap (fun c => (List.range x.rows).map (fun r => (c, r)))).foldl (fun (q : TierDesc × State) y =>
        q.2.descWrite d q.1 4096 ((y.1 * x.rows + y.2) * x.pitch) (x.mergedRecord y.1 y.2) (b2n (x.outAdv && far && decide (y = (11, x.rows - 1))))) (x, s)
    else (x, s)
  if !x.outAdv then (x, s)
  else if !far then s.descWrite d x 4096 0 [] x.outBytes
  else if x.merge then (x, s)
  else s.descWrite d x 4096 (x.outBytes - 1) [0] 1

/-- SCAN_DONE (R298, R300, R303): the oldest SCAN of agent d whose every assigned entry has been scanned or passed over: merged records are
written, TAIL advances over OUT, and DONE is written once no write to another module awaits its answer. -/
def execScanDone (d : DieId) (s : State) : Host.Outcome State Fault Refusal :=
  match (s.agent d).descs.zipIdx.find? (fun y => decide (y.1.op = 4) && y.1.opened && (!y.1.closing || y.1.owed.isEmpty) &&
      y.1.marked.all (fun b => y.1.done.contains b || y.1.skipped.contains b)) with
  | none => .next s
  | some (x, k) =>
    let (go, s) := s.descReady x []
    if !go then .next s
    else
      let (x, s) := if x.closing then (x, s) else s.closeScan d x
      .next (if x.owed.isEmpty then (s.endDesc d k x).count rTIER_CNT2 63 32 1 else s.setDesc d k (some x))

/-- The answer to a write of agent d to another module: a status record refused is lost, an entry whose record is refused is not written (R298). -/
def State.agentAck (s : State) (d : Nat) (p : Packet) : State :=
  let tag := p.tag.toNat
  let a := s.agent d
  let ok := decide (p.status = .ok)
  if a.statusTags.contains tag then
    let s := s.setAgent d { a with statusTags := a.statusTags.erase tag }
    if ok then s else s.tierStat 1
  else
    s.setAgent d { a with descs := a.descs.map (fun x => match x.owed.find? (fun o => decide (o.1 = tag)) with
      | some o =>
        let x := { x with owed := x.owed.erase o }
        if ok then x else { x with result := 3, done := x.done.filter (fun i => decide (i ≠ o.2)), skipped := if x.marked.contains o.2 then x.skipped ++ [o.2] else x.skipped }
      | none => x) }

end Sys2Proof.Machine
end

