-- ==== Sys2Proof/Machine/SpanLink.lean ====
section
/-! DEFINITION. Span ports and their links: frames and credits of DIRECT mode, flow control of ETHERNET mode, port states, training and
error limits (spec/10 R309 to R312, R319 to R325, R346). -/

namespace Sys2Proof.Machine

/-! ## Packets as bytes (R316, R319, R343, spec/07 R221) -/

/-- TYPE of a span packet. -/
def spanTypeCode : SpanType → Nat
  | .write => 0
  | .read => 1
  | .readData => 2
  | .writeAck => 3
  | .message => 4
  | .msgReply => 5
  | .seal => 6
  | .reserved => 7

/-- The 32 B span header (R316). -/
def spanHeader (p : SpanPkt) : Bytes :=
  leBytes 2 p.srcDev.toNat ++ leBytes 2 p.dstDev.toNat ++ leBytes 1 (spanTypeCode p.type) ++
  leBytes 1 (b2n p.prompt + 4 * b2n p.fence + 8 * b2n p.adv + 16 * b2n p.prot.isSome + 32 * b2n p.region +
    64 * b2n ((p.prot.map (fun x => x.1)).getD false)) ++
  leBytes 1 (statusCode p.status) ++ leBytes 1 0 ++ leBytes 2 p.session.toNat ++ leBytes 4 p.seq.toNat ++ leBytes 4 p.tag.toNat ++
  leBytes 2 p.len ++ leBytes 2 p.window.toNat ++ leBytes 2 p.wgen.toNat ++ leBytes 8 p.addr.toNat

/-- A response travels on the response channel (R321). -/
def isSpanResponse : SpanType → Bool
  | .readData => true
  | .writeAck => true
  | .msgReply => true
  | _ => false

/-- A span packet as bytes: header, the counter of protection, payload, and its tag (R316, R343). -/
def spanWire (p : SpanPkt) : Bytes :=
  match p.prot with
  | some (_, ctr, tag) => spanHeader p ++ leBytes 8 ctr.toNat ++ p.payload ++ leBytes 16 tag.toNat
  | none => spanHeader p ++ p.payload

/-- TYPE of a coded span header. -/
def spanTypeOf : Nat → SpanType
  | 0 => .write
  | 1 => .read
  | 2 => .readData
  | 3 => .writeAck
  | 4 => .message
  | 5 => .msgReply
  | 6 => .seal
  | _ => .reserved

/-- STATUS of a coded header. -/
def statusOf : Nat → RespStatus
  | 1 => .refused
  | 2 => .poisoned
  | 3 => .denied
  | _ => .ok

/-- The span packet that bytes spell (R316, R343). `resv`: a reserved field or PCLASS is not zero, STATUS has no meaning, or the bytes
are too few. -/
def spanOf (b : Bytes) : SpanPkt :=
  let flags := leAt b 5 1
  let prot := flags.testBit 4
  let rest := b.drop 32
  { srcDev := BitVec.ofNat 16 (leAt b 0 2), dstDev := BitVec.ofNat 16 (leAt b 2 2), type := spanTypeOf (leAt b 4 1)
    prompt := flags.testBit 0, fence := flags.testBit 2, adv := flags.testBit 3, region := flags.testBit 5, status := statusOf (leAt b 6 1)
    session := BitVec.ofNat 16 (leAt b 8 2), seq := BitVec.ofNat 32 (leAt b 10 4), tag := BitVec.ofNat 32 (leAt b 14 4), len := leAt b 18 2
    window := BitVec.ofNat 12 (leAt b 20 2), wgen := BitVec.ofNat 16 (leAt b 22 2), addr := BitVec.ofNat 64 (leAt b 24 8)
    payload := if prot then (rest.drop 8).take (rest.length - 24) else rest
    prot := if prot then some (flags.testBit 6, BitVec.ofNat 64 (leAt rest 0 8), BitVec.ofNat 128 (leAt rest (rest.length - 16) 16)) else none
    resv := flags.testBit 1 || flags.testBit 7 || decide (3 < leAt b 6 1) || decide (leAt b 7 1 ≠ 0) || decide (4096 ≤ leAt b 20 2) ||
      decide (b.length < 32 + (if prot then 24 else 0)) }

/-- Credits of 64 B that a DATA frame uses (R321). -/
def frameUnits (bytes : Nat) : Nat := ceilDiv bytes 64

/-- A frame of DIRECT mode: link header, body, CRC-32 over both (R319). -/
def directOctets (kind : Nat) (vc : Bool) (ttl : Nat) (body : Bytes) : Bytes :=
  let b := leBytes 1 (kind + 16 * b2n vc) ++ leBytes 6 ttl ++ body
  b ++ leBytes 4 (crc32 b).toNat

/-- The body of a LINK frame (R319). -/
def linkBody (dev : BitVec 16) (rcvdReq freedReq rcvdRsp freedRsp : BitVec 32) : Bytes :=
  leBytes 4 dev.toNat ++ leBytes 4 rcvdReq.toNat ++ leBytes 4 freedReq.toNat ++ leBytes 4 rcvdRsp.toNat ++ leBytes 16 freedRsp.toNat

/-- The body of a TIME frame (R319). -/
def timeBody (ttx ptx prx : Word) : Bytes := leBytes 8 ttx.toNat ++ leBytes 8 ptx.toNat ++ leBytes 16 prx.toNat

/-- Bytes of a number, the most significant first, as an Ethernet header holds them. -/
def beBytes (n v : Nat) : Bytes := (leBytes n v).reverse
/-- A number of n such bytes at an offset. -/
def beAt (b : Bytes) (o n : Nat) : Nat := ofLe ((b.drop o).take n).reverse

/-- An IEEE 802.3 frame with its optional 802.1Q tag (VID, PCP), padded to 64 B where needed (R323). -/
def etherOctets (dst src : Nat) (vlan : Option (Nat × Nat)) (etype : Nat) (data : Bytes) : Bytes :=
  let tag := match vlan with
    | some (vid, pcp) => beBytes 2 0x8100 ++ beBytes 2 (pcp * 8192 + vid)
    | none => []
  let b := beBytes 6 dst ++ beBytes 6 src ++ tag ++ beBytes 2 etype ++ data
  let b := b ++ List.replicate (60 - b.length) 0
  b ++ leBytes 4 (crc32 b).toNat

/-- The last four octets of a frame are the CRC-32 of those before. -/
def crcHolds (octets : Bytes) : Bool := decide ((crc32 (octets.take (octets.length - 4))).toNat = leAt octets (octets.length - 4) 4)

/-- EtherType and data of a received frame, past its tag. -/
def etherParts (octets : Bytes) : Nat × Bytes :=
  let o := if beAt octets 12 2 = 0x8100 then 16 else 12
  (beAt octets o 2, (octets.take (octets.length - 4)).drop (o + 2))

/-- The span packet in the data of a frame, without the padding of a short one (R323). -/
def spanInData (octets data : Bytes) : Bytes :=
  let p := spanOf data
  let n := match p.type with
    | .read => 0
    | .writeAck => 0
    | .readData => if p.status = .ok then p.len else 0
    | _ => p.len
  if octets.length ≤ 64 then data.take (32 + n + (if p.prot.isSome then 24 else 0)) else data

/-- TYPE of a coded header. -/
def msgTypeOf : Nat → MsgType
  | 0 => .word
  | 1 => .desc
  | 2 => .shfInt64
  | 3 => .shfFp32
  | 4 => .shfWindow
  | 5 => .shfEnd
  | 6 => .reply
  | _ => .reserved

/-- The message header that 16 bytes spell; a sheaf type goes to a sheaf. -/
def msgOf (b : Bytes) : MsgHeader :=
  let v := leAt b 0 16
  let t := msgTypeOf (fieldN v 65 62)
  { key := ⟨BitVec.ofNat 16 (fieldN v 127 112), BitVec.ofNat 9 (fieldN v 111 103), BitVec.ofNat 2 (fieldN v 102 101), BitVec.ofNat 4 (fieldN v 100 97)⟩
    seq := BitVec.ofNat 16 (fieldN v 96 81), dstCore := Fin.ofNat 512 (fieldN v 80 72), dstQ := BitVec.ofNat 6 (fieldN v 71 66)
    sheaf := match t with
      | .shfInt64 => true
      | .shfFp32 => true
      | .shfWindow => true
      | .shfEnd => true
      | _ => false
    type := t, gen := BitVec.ofNat 8 (fieldN v 61 54), anygen := v.testBit 53, words := BitVec.ofNat 2 (fieldN v 52 51)
    lane := BitVec.ofNat 14 (fieldN v 50 37), mcast := v.testBit 36 }

/-! ## Ports -/

/-- Key of a register of module port p. -/
def portKey (p off : Nat) : Nat := dieKey (p / 3) (off + 64 * (p % 3))
/-- Key of RTL_PEERp_TX or RTL_PEERp_RX. -/
def peerKey (p off : Nat) : Nat := dieKey (p / 3) (off + 16 * (p % 3))

/-- Port p. -/
def State.sport (s : State) (p : Nat) : SpanPort := tget (fun _ => SpanPort.zero) s.span.ports p
/-- Port p replaced. -/
def State.setPort (s : State) (p : Nat) (x : SpanPort) : State :=
  { s with span := { s.span with ports := tset (fun _ => SpanPort.zero) s.span.ports p x } }
/-- Port p changed. -/
def State.modPort (s : State) (p : Nat) (f : SpanPort → SpanPort) : State := s.setPort p (f (s.sport p))

/-- A channel of a port. -/
def SpanPort.vc (x : SpanPort) (rsp : Bool) : Vc := if rsp then x.rsp else x.req
/-- A channel replaced. -/
def SpanPort.setVc (x : SpanPort) (rsp : Bool) (v : Vc) : SpanPort := if rsp then { x with rsp := v } else { x with req := v }

/-- A bit of RTL_STATUS of port p. -/
def State.rtlStat (s : State) (p b : Nat) : State := s.orReg (dieKey (p / 3) rRTL_STATUS) (2 ^ (8 * (p % 3) + b))

/-- STATE of a port: 0 DISABLED, 1 TRAINING, 2 UP, 3 DOWN. -/
def State.portState (s : State) (p : Nat) : Nat := s.regField (portKey p rRTL_Pp_STATE) 1 0
/-- The port is UP. -/
def State.portUp (s : State) (p : Nat) : Bool := decide (s.portState p = 2)
/-- The port runs in ETHERNET mode. -/
def State.ethMode (s : State) (p : Nat) : Bool := bitOf (s.reg (portKey p rRTL_Pp_CFG)) 1

/-- Frames counted: sent in the high half, received in the low. -/
def State.countFrame (s : State) (p : Nat) (sent : Bool) : State :=
  if sent then s.count (portKey p rRTL_Pp_CNT) 63 32 1 else s.count (portKey p rRTL_Pp_CNT) 31 0 1

/-- A frame discarded under CRC: counted, CRC_DROP set (R320, R324, R325). -/
def State.crcDrop (s : State) (p : Nat) : State := (s.count (portKey p rRTL_Pp_DROP) 15 0 1).rtlStat p 2

/-- A discard in transit (R322). -/
def State.transitDrop (s : State) : State := (s.count rSPAN_CNT3 31 0 1).orReg rSPAN_STATUS (2 ^ 8)

/-- The module's time base as the ports stamp it. -/
def State.stamp (s : State) : Word := BitVec.ofNat 64 s.ns

/-- Credits that the sender of a channel holds (R321). -/
def Vc.credits (v : Vc) : Nat := 2048 - (v.sent - v.freedBy).toNat

/-- Port p puts frames on its link: this command's first frames replace those of an earlier one. -/
def State.emitFrame (s : State) (p : Nat) (f : TxFrame) : State := (s.modPort p (fun x => { x with tx := x.tx ++ [f] })).countFrame p true

/-- The priority of requests or of responses (SPAN_ETH). -/
def State.prio (s : State) (rsp : Bool) : Nat := if rsp then s.regField rSPAN_ETH 28 26 else s.regField rSPAN_ETH 31 29

/-- The Ethernet peer entry of a device's route (R326). -/
def State.ethPeer (s : State) (dev : BitVec 16) : Word :=
  s.reg (rSPAN_ETHPEERi + 8 * s.regField (rSPAN_ROUTEd + 8 * dev.toNat) 20 9)

/-- The Ethernet frame of a packet that leaves port p (R323). -/
def State.etherFrame (s : State) (p : Nat) (body : Bytes) : Bytes :=
  let f := spanOf body
  let e := s.ethPeer f.dstDev
  etherOctets (field e 47 0) (s.regField (portKey p rRTL_Pp_MAC) 47 0)
    (if bitOf e 60 then some (field e 59 48, s.prio (isSpanResponse f.type)) else none) (s.regField rSPAN_ETH 47 32) body

/-- The first frame of a channel leaves, if the port is UP and its credits or the far end's flow control allow (R321, R324). -/
def State.sendOne (s : State) (p : Nat) (rsp : Bool) : Option State :=
  let x := s.sport p
  let v := x.vc rsp
  match v.queue with
  | [] => none
  | f :: fs =>
    let o := directOctets 0 rsp f.ttl f.body
    let n := frameUnits o.length
    let done (s : State) : State :=
      (s.dieEvent (p / 3) 0x09 (p % 3) 1).dieEvent (p / 3) 0x0B (p % 3) (spanOf f.body).payload.length
    if !s.portUp p then none
    else if s.ethMode p then
      if x.paused.toNat.testBit (s.prio rsp) then none
      else some (done ((s.setPort p (x.setVc rsp { v with queue := fs })).emitFrame p (.octets (s.etherFrame p f.body))))
    else if v.credits < n then none
    else
      let sent := v.sent + BitVec.ofNat 32 n
      some (done ((s.setPort p (x.setVc rsp { v with queue := fs, sent := sent, flying := v.flying ++ [⟨n, s.ns⟩] })).emitFrame p
        (.octets o)))

/-- Frames of a channel leave while they can. -/
def State.sendQueue (s : State) (p : Nat) (rsp : Bool) : Nat → State
  | 0 => s
  | n + 1 => match s.sendOne p rsp with
    | some s => s.sendQueue p rsp n
    | none => s

/-- Both channels of port p send what they can, responses never behind requests. -/
def State.pumpPort (s : State) (p : Nat) : State :=
  let s := s.sendQueue p true (s.sport p).rsp.queue.length
  s.sendQueue p false (s.sport p).req.queue.length

/-- A packet queued at port p, and sent on as far as the port can. -/
def State.queueFrame (s : State) (p : Nat) (f : OutFrame) : State :=
  let rsp := isSpanResponse (spanOf f.body).type
  (s.modPort p (fun x => x.setVc rsp { x.vc rsp with queue := (x.vc rsp).queue ++ [f] })).pumpPort p

/-- What earlier commands put on the links is past. -/
def State.clearTx (s : State) : State :=
  { s with span := { s.span with ports := s.span.ports.map (fun e => (e.1, { e.2 with tx := [] })) } }

/-! ## Spraying (R327) -/

/-- Bytes queued at a port. -/
def SpanPort.queued (x : SpanPort) : Nat := ((x.req.queue ++ x.rsp.queue).map (fun f => f.body.length)).sum

/-- The route entry of a device. -/
def State.routeEntry (s : State) (dev : BitVec 16) : Word := s.reg (rSPAN_ROUTEd + 8 * dev.toNat)
/-- STATE of a route entry: 0 ABSENT, 1 JOINING, 2 ACTIVE, 3 LEAVING. -/
def State.routeState (s : State) (dev : BitVec 16) : Nat := field (s.routeEntry dev) 63 62

/-- Ports of a class's set that are UP; an ETHERNET port with an invalid peer entry counts as not UP. -/
def State.portsFor (s : State) (dev : BitVec 16) (prompt : Bool) : List Nat :=
  let set := if prompt then field (s.routeEntry dev) 49 38 else field (s.routeEntry dev) 61 50
  (List.range 12).filter (fun p => set.testBit p && s.portUp p && (!s.ethMode p || bitOf (s.ethPeer dev) 63))

/-- The port with the fewest bytes queued, ties going to the first after the port last chosen. -/
def State.pickPort (s : State) (die : Nat) (ps : List Nat) : Option Nat :=
  let last := tget (fun _ => 11) s.span.lastPort die
  let order := ((List.range 12).map (fun i => (last + 1 + i) % 12)).filter (fun p => ps.contains p)
  order.foldl (fun b p => match b with
    | none => some p
    | some q => if (s.sport p).queued < (s.sport q).queued then some p else some q) none

/-- The port that a packet's class and device give it, none when none is UP; the engine of the device's home die remembers it. -/
def State.choosePort (s : State) (p : SpanPkt) : Option (Nat × State) :=
  let die := p.dstDev.toNat % 4
  (s.pickPort die (s.portsFor p.dstDev p.prompt)).map (fun q =>
    (q, { s with span := { s.span with lastPort := tset (fun _ => 11) s.span.lastPort die q } }))

/-- The mesh packet of TYPE SPAN that carries a span packet unchanged between the engine of one die and a port on another (R318). ADDR says
which port, in bits 3:0, and above it since when an outgoing packet has been at the module. -/
def spanMesh (src dst : Nat) (body : Bytes) (port since : Nat) : Packet :=
  { dst := ringOf dst, src := ringOf src, type := .span, fence := false, poison := false, adv := false, status := .ok, tag := 0
    addr := BitVec.ofNat 64 (16 * since + port), region := false, len := body.length, data := body, msg := none, span := none }

/-- A packet of the engine of a die on its way to port q: queued there, or first across the mesh to its die (R318). -/
def State.toSpanPort (s : State) (die q : Nat) (f : OutFrame) : State :=
  if q / 3 = die then s.queueFrame q f else s.inject (spanMesh die (q / 3) f.body q f.since)

/-! ## States of a port (R310 to R312) -/

/-- A link begins afresh: no credit is spent, nothing is in flight; what is queued or was received stays at its port (R347). -/
def SpanPort.restart (x : SpanPort) : SpanPort :=
  { SpanPort.zero with req := { Vc.zero with queue := x.req.queue }, rsp := { Vc.zero with queue := x.rsp.queue }
                       rx := x.rx.map (fun f => { f with units := 0 }) }

/-- The port is DISABLED, or DOWN: frames in flight are lost. -/
def State.portOff (s : State) (p st : Nat) : State :=
  (s.modPort p SpanPort.restart).setReg (portKey p rRTL_Pp_STATE) (BitVec.ofNat 64 (0x300 + st))

/-- The port goes DOWN (R311, R312). -/
def State.portDown_ (s : State) (p : Nat) : State :=
  ((s.portOff p 3).rtlStat p 0).record ⟨sevDegraded, 15, 8 * (p % 3), 6, p, 0, 0, 0, 0⟩

/-- RTL_CFG_WRITE (R310, R312): a change of MODE, PMD or WIDTH_MAX while ENABLE stays 1 is discarded; ENABLE set starts training. -/
def execRtlCfgWrite (who : Initiator) (p : PortId) (v : Word) (s : State) : Host.Outcome State Fault Refusal :=
  let key := portKey p rRTL_Pp_CFG
  .next (s.gateReg who key (fun s =>
    let old := s.reg key
    let frozen (w : Word) : Nat := field w 7 4 * 2 + field w 1 1
    if bitOf old 0 ∧ bitOf v 0 ∧ frozen old ≠ frozen v then s.rtlStat p 5
    else
      let s := s.regWrite key v
      if bitOf old 0 ∧ !bitOf v 0 then s.portOff p 0
      else if !bitOf old 0 ∧ bitOf v 0 then s.portOff p 1
      else s))

/-- The lanes at which a port runs: the widest width up to WIDTH_MAX all of whose lanes pass (R309, R311). -/
def widthOf (most lanes : Nat) : Option (Nat × Nat) :=
  if most = 0 ∧ lanes % 16 = 15 then some (0, 15)
  else if most ≤ 1 ∧ lanes % 4 = 3 then some (1, 3)
  else if most ≤ 1 ∧ lanes / 4 % 4 = 3 then some (1, 12)
  else ((List.range 4).find? (fun i => lanes.testBit i)).map (fun i => (2, 2 ^ i))

/-- Training of port p ends with some of its lanes passing: it is UP, narrowed perhaps, or DOWN (R311). -/
def State.trained (s : State) (p lanes : Nat) : State :=
  match widthOf (s.regField (portKey p rRTL_Pp_CFG) 5 4) lanes with
  | none => s.portDown_ p
  | some (w, m) =>
    let s := (s.modPort p SpanPort.restart).setReg (portKey p rRTL_Pp_STATE) (BitVec.ofNat 64 (m * 2 ^ 16 + w * 2 ^ 8 + 2))
    let s := if w = 0 then s else (s.rtlStat p 1).record ⟨sevDegraded, 15, 8 * (p % 3) + 1, 6, p, 0, 0, 0, 0⟩
    s.pumpPort p

/-- PORT_TRAINING_COMPLETE (R310, R311). -/
def execPortTrainingComplete (p : PortId) (lanes : BitVec 4) (s : State) : Host.Outcome State Fault Refusal :=
  if s.portState p = 1 then .next (s.clearTx.trained p lanes.toNat) else .next s

/-- PORT_UCW_CHECK (R312): the codewords of the last second; above UCW_LIMIT the port goes DOWN. -/
def execPortUcwCheck (p : PortId) (corrected ucw : BitVec 32) (s : State) : Host.Outcome State Fault Refusal :=
  if !s.portUp p then .next s
  else
    let k := portKey p rRTL_Pp_FEC
    let s := (s.count k 31 0 corrected.toNat).count k 63 32 ucw.toNat
    let lim := s.regField (portKey p rRTL_Pp_CFG) 63 48
    .next (if lim ≠ 0 ∧ lim < ucw.toNat then s.portDown_ p else s)

/-! ## Frames of DIRECT mode (R319 to R322, R346) -/

/-- Frames in flight after RCVD has risen by d credits: as frames keep their order, it counts the first of them whose credits add up to d. -/
def counted : List Flight → Nat → Option (List Flight)
  | fs, 0 => some fs
  | [], _ + 1 => none
  | f :: fs, d + 1 => (if f.units ≤ d + 1 then counted fs (d + 1 - f.units) else none).orElse (fun _ => (counted fs (d + 1)).map (f :: ·))

/-- A LINK frame from the far end (R321, R322): its counts, its device number. -/
def State.linkFrame (s : State) (p : Nat) (dev : BitVec 16) (rcvdReq freedReq rcvdRsp freedRsp : BitVec 32) : State :=
  let heard (v : Vc) (rcvd freed : BitVec 32) : Vc :=
    { v with rcvdBy := rcvd, freedBy := freed, flying := (counted v.flying (rcvd - v.rcvdBy).toNat).getD v.flying }
  let s := s.modPort p (fun x => { x with req := heard x.req rcvdReq freedReq, rsp := heard x.rsp rcvdRsp freedRsp })
  let k := portKey p rRTL_Pp_STATE
  (s.setReg k (setBit (setField (s.reg k) 63 48 dev.toNat) 47 true)).pumpPort p

/-- A TIME frame from the far end: stamped, and the peer's fields recorded (R346). -/
def State.timeFrame (s : State) (p : Nat) (ttx ptx prx : Word) : State :=
  let s := s.modPort p (fun x => { x with peerTx := ttx, peerRx := s.stamp })
  ((s.setReg (portKey p rRTL_Pp_TSRX) s.stamp).setReg (peerKey p rRTL_PEERp_TX) ptx).setReg (peerKey p rRTL_PEERp_RX) prx

/-- A port that is UP in DIRECT mode. -/
def State.directUp (s : State) (p : Nat) : Bool := s.portUp p && !s.ethMode p

/-- LINK_FRAME (R321, R322). -/
def execLinkFrame (p : PortId) (dev : BitVec 16) (rcvdReq freedReq rcvdRsp freedRsp : BitVec 32) (s : State) : Host.Outcome State Fault Refusal :=
  if s.directUp p then .next ((s.clearTx.countFrame p false).linkFrame p dev rcvdReq freedReq rcvdRsp freedRsp) else .next s

/-- TIME_FRAME (R346). -/
def execTimeFrame (p : PortId) (ttx ptx prx : Word) (s : State) : Host.Outcome State Fault Refusal :=
  if s.directUp p then .next ((s.countFrame p false).timeFrame p ttx ptx prx) else .next s

/-- A LINK frame leaves: this end's device number, RCVD and FREED (R321). -/
def State.sendLink (s : State) (p : Nat) : State :=
  let x := s.sport p
  let s := s.setPort p { x with req := { x.req with told := x.req.freed }, rsp := { x.rsp with told := x.rsp.freed } }
  s.emitFrame p (.octets (directOctets 1 false 0 (linkBody s.devNum x.req.rcvd x.req.freed x.rsp.rcvd x.rsp.freed)))

/-- A LINK frame leaves at once when FREED has advanced by 256 credits since the last (R321). -/
def State.tellFreed (s : State) (p : Nat) : State :=
  let x := s.sport p
  if s.directUp p ∧ (256 ≤ (x.req.freed - x.req.told).toNat ∨ 256 ≤ (x.rsp.freed - x.rsp.told).toNat) then s.sendLink p else s

/-- TIME_FRAME_SEND (R346): with TIME_EN set, departure of this frame, and of and arrival of the last one received. -/
def execTimeFrameSend (p : PortId) (s : State) : Host.Outcome State Fault Refusal :=
  if s.directUp p ∧ bitOf (s.reg (portKey p rRTL_Pp_CFG)) 8 then
    let s := s.clearTx
    let x := s.sport p
    .next ((s.setReg (portKey p rRTL_Pp_TSTX) s.stamp).emitFrame p (.octets (directOctets 2 false 0 (timeBody s.stamp x.peerTx x.peerRx))))
  else .next s

/-- FRAME_VANISHED (R321): the oldest frame of a channel that RCVD does not count 4 µs after its departure has vanished; its credits are
restored. -/
def execFrameVanished (p : PortId) (rsp : Bool) (s : State) : Host.Outcome State Fault Refusal :=
  let x := s.sport p
  let v := x.vc rsp
  match v.flying with
  | [] => .next s
  | f :: fs =>
    if s.ns ≤ f.at_ + 4000 then .next s
    else .next (((s.clearTx.setPort p { x.setVc rsp { v with flying := fs, sent := v.sent - BitVec.ofNat 32 f.units } with tx := [] }).count
      (portKey p rRTL_Pp_DROP) 63 48 1).pumpPort p)

/-- TRANSIT_TIMEOUT (R322): the first packet of a channel of port p that has waited longer than TRANSIT_US at the module is discarded. -/
def execTransitTimeout (p : PortId) (rsp : Bool) (s : State) : Host.Outcome State Fault Refusal :=
  let x := s.sport p
  let v := x.vc rsp
  match v.queue.find? (fun f => decide (f.since + 1000 * s.regField rSPAN_CTRL2 63 32 < s.ns)) with
  | none => .next s
  | some f => .next ((s.clearTx.setPort p { x.setVc rsp { v with queue := v.queue.erase f } with tx := [] }).transitDrop.pumpPort p)

/-- Bytes held in the receive buffer of a channel. -/
def SpanPort.rxBytes (x : SpanPort) (rsp : Bool) : Nat := 64 * ((x.rx.filter (fun f => f.rsp == rsp)).map (fun f => f.units)).sum

/-- A received frame takes buffer space. -/
def State.bufferFrame (s : State) (p : Nat) (rsp : Bool) (n : Nat) (body : Bytes) : State :=
  s.modPort p (fun x => { x.setVc rsp { x.vc rsp with rcvd := (x.vc rsp).rcvd + BitVec.ofNat 32 n } with rx := x.rx ++ [⟨rsp, n, body⟩] })

/-- Buffer space is released: FREED rises; an Ethernet buffer below 64 KiB lets its priority go again (R321, R324). -/
def State.freeFrame (s : State) (p : Nat) (f : RxFrame) : State :=
  let s := s.modPort p (fun x => { x.setVc f.rsp { x.vc f.rsp with freed := (x.vc f.rsp).freed + BitVec.ofNat 32 f.units } with rx := x.rx.erase f })
  let x := s.sport p
  let pr := s.prio f.rsp
  if s.ethMode p ∧ x.xoff.toNat.testBit pr ∧ x.rxBytes f.rsp < 65536 then
    (s.setPort p { x with xoff := x.xoff &&& ~~~(BitVec.ofNat 8 (2 ^ pr)) }).emitFrame p (.pfc (BitVec.ofNat 3 pr) false)
  else s.tellFreed p

/-- A frame that is discarded on receipt is counted in RCVD and its space is free at once (R321). -/
def State.discardFrame (s : State) (p : Nat) (rsp : Bool) (n : Nat) : State :=
  (s.modPort p (fun x => x.setVc rsp { x.vc rsp with rcvd := (x.vc rsp).rcvd + BitVec.ofNat 32 n, freed := (x.vc rsp).freed + BitVec.ofNat 32 n })).tellFreed p

/-- The home die of the device that sent a packet (R315). -/
def homeOf (body : Bytes) : Nat := (spanOf body).srcDev.toNat % 4

/-- A packet received at port p is counted, and its payload (spec/15 R496). -/
def State.seen (s : State) (p : Nat) (body : Bytes) : State :=
  (s.dieEvent (p / 3) 0x0A (p % 3) 1).dieEvent (p / 3) 0x0C (p % 3) (spanOf body).payload.length

/-- A packet for this module is in the receive buffer of port p, and on its way across the mesh when its home die is another (R318). -/
def State.takeIn (s : State) (p : Nat) (rsp : Bool) (n : Nat) (body : Bytes) : State :=
  let s := s.bufferFrame p rsp n body
  if homeOf body = p / 3 then s else s.inject (spanMesh (p / 3) (homeOf body) body p 0)

/-- Buffer space of packets that the mesh has lost is released. -/
def State.freeLost (s : State) : State :=
  (List.range 12).foldl (fun s p =>
    ((s.sport p).rx.filter (fun f => decide (homeOf f.body ≠ p / 3) &&
      !(s.net ++ s.landed).any (fun m => decide (m = spanMesh (p / 3) (homeOf f.body) f.body p 0)))).foldl (fun s f => s.freeFrame p f) s) s

/-- LINK_FRAME_SEND (R321). -/
def execLinkFrameSend (p : PortId) (s : State) : Host.Outcome State Fault Refusal :=
  if s.directUp p then .next (s.clearTx.freeLost.sendLink p) else .next s

/-- A DATA frame for another module is forwarded by its route, or discarded (R322). -/
def State.forward (s : State) (body : Bytes) (ttl : Nat) : State :=
  let pkt := spanOf body
  if ttl ≤ 1 ∨ s.routeState pkt.dstDev = 0 then s.transitDrop
  else match s.choosePort pkt with
    | some (q, s) => s.queueFrame q ⟨ttl - 1, body, s.ns⟩
    | none => s.transitDrop

/-- The bytes of a DATA frame's body are those of one span packet (R316, R320). -/
def dataBodyOk (b : Bytes) : Bool :=
  let k := 32 + (if (leAt b 5 1).testBit 4 then 24 else 0)
  decide (k ≤ b.length) && decide (b.length ≤ k + 512)

/-- A frame that R320 discards: a DATA frame's credits are counted as received and free (R321). -/
def State.badFrame (s : State) (p kind : Nat) (vc : Bool) (n : Nat) : State :=
  (if kind = 1 ∨ kind = 2 then s else s.discardFrame p vc n).crcDrop p

/-- DIRECT_FRAME_RECEIVE (R319 to R322): a frame in DIRECT mode, as the octets of its link header, body and CRC, is checked, and taken
into the receive buffer, forwarded or discarded. -/
def execDirectFrameReceive (p : PortId) (octets : Bytes) (_u : Unit) (s : State) : Host.Outcome State Fault Refusal :=
  if !s.directUp p then .next s
  else
    let s := s.clearTx.countFrame p false
    let kind := leAt octets 0 1 % 16
    let vc := (leAt octets 0 1).testBit 4
    let n := frameUnits octets.length
    let b := (octets.take (octets.length - 4)).drop 7
    if octets.length < 11 ∨ !crcHolds octets then .next (s.badFrame p kind vc n)
    else if kind = 0 ∧ dataBodyOk b then
      let s := s.seen p b
      .next (if (spanOf b).dstDev = s.devNum then s.takeIn p vc n b else (s.discardFrame p vc n).forward b (leAt octets 1 1))
    else if kind = 1 ∧ b.length = 32 then
      let w (i : Nat) : BitVec 32 := BitVec.ofNat 32 (leAt b i 4)
      .next (s.linkFrame p (BitVec.ofNat 16 (leAt b 0 2)) (w 4) (w 8) (w 12) (w 16))
    else if kind = 2 ∧ b.length = 32 then
      let w (i : Nat) : Word := BitVec.ofNat 64 (leAt b i 8)
      .next (s.timeFrame p (w 0) (w 8) (w 16))
    else .next (s.badFrame p kind vc n)

/-- XOFF leaves for a priority whose receive buffer holds more than 96 KiB, with PFC_EN set (R324). -/
def State.holdOff (s : State) (p : Nat) (rsp : Bool) : State :=
  let x := s.sport p
  let pr := s.prio rsp
  if bitOf (s.reg (portKey p rRTL_Pp_CFG)) 3 ∧ 98304 < x.rxBytes rsp ∧ !x.xoff.toNat.testBit pr then
    (s.setPort p { x with xoff := x.xoff ||| BitVec.ofNat 8 (2 ^ pr) }).emitFrame p (.pfc (BitVec.ofNat 3 pr) true)
  else s

/-- A frame of ETHERNET mode (R324, R325, R346): taken, passed to time alignment, or discarded. -/
def State.etherIn (s : State) (p : Nat) (octets : Bytes) : State :=
  if !crcHolds octets then s.crcDrop p
  else
    let (etype, data) := etherParts octets
    if etype = 0x88F7 then s.setReg (portKey p rRTL_Pp_TSRX) s.stamp
    else if etype ≠ s.regField rSPAN_ETH 47 32 then s.count (portKey p rRTL_Pp_DROP) 31 16 1
    else
      let b := spanInData octets data
      let pkt := spanOf b
      let rsp := isSpanResponse pkt.type
      let n := frameUnits octets.length
      if pkt.dstDev ≠ s.devNum then (s.count (portKey p rRTL_Pp_DROP) 47 32 1).rtlStat p 4
      else if 131072 < (s.sport p).rxBytes rsp + 64 * n then s.crcDrop p
      else ((s.seen p b).takeIn p rsp n b).holdOff p rsp

/-- ETHERNET_FRAME_RECEIVE (R324, R325, R346): a frame in ETHERNET mode, or flow control, which is obeyed. -/
def execEthernetFrameReceive (p : PortId) (body : EthBody) (_u : Unit) (s : State) : Host.Outcome State Fault Refusal :=
  if !(s.portUp p && s.ethMode p) then .next s
  else
    let s := s.clearTx.countFrame p false
    match body with
    | .frame octets => .next (s.etherIn p octets)
    | .pause stop =>
      let s := s.modPort p (fun x => { x with paused := if stop then BitVec.allOnes 8 else 0 })
      .next (if stop then s.rtlStat p 3 else s.pumpPort p)
    | .pfc named stop =>
      if !bitOf (s.reg (portKey p rRTL_Pp_CFG)) 3 then .next (s.count (portKey p rRTL_Pp_DROP) 31 16 1)
      else
        let ours : BitVec 8 := BitVec.ofNat 8 (2 ^ s.prio false) ||| BitVec.ofNat 8 (2 ^ s.prio true)
        let n := named &&& ours
        let s := s.modPort p (fun x => { x with paused := (x.paused &&& ~~~n) ||| (stop &&& n) })
        .next (if stop &&& n ≠ 0 then s.rtlStat p 3 else s.pumpPort p)

end Sys2Proof.Machine
end

