-- ==== Sys2Proof/Machine/Span.lean ====
section
/-! DEFINITION. The span engines: splitting and spraying, send and reorder contexts, protection, windows and release, operations (spec/10
R313 to R318, R326 to R345). -/

namespace Sys2Proof.Machine

/-! ## Counters -/

/-- A bit of SPAN_STATUS. -/
def State.spanStat (s : State) (b : Nat) : State := s.orReg rSPAN_STATUS (2 ^ b)
/-- Packets counted LOST in the engine of a die. -/
def State.spanLost (s : State) (die n : Nat) : State :=
  if n = 0 then s else ((s.count rSPAN_CNT 63 32 n).spanStat 2).dieEvent die 0x0D 0 n
/-- A packet counted LATE. -/
def State.spanLate (s : State) : State := (s.count rSPAN_CNT 31 0 1).spanStat 3
/-- A packet for which no slot is free. -/
def State.spanNoSlot (s : State) : State := (s.count rSPAN_CNT2 31 0 1).spanStat 4
/-- A response that cannot be sent, or a request for whose class no port is UP. -/
def State.spanNoPort (s : State) : State := (s.count rSPAN_CNT4 47 32 1).spanStat 1
/-- A packet admitted or denied by window w. -/
def State.winCount (s : State) (w : Nat) (ok : Bool) : State :=
  let k := rSPAN_WINw_CNT + 32 * w
  if ok then s.count k 63 32 1 else ((s.count k 31 0 1).count rSPAN_CNT2 63 32 1).spanStat 6

/-! ## Send contexts and protection (R329, R330, R343) -/

/-- The send context of a device and class. -/
def State.sendCtx (s : State) (dev : BitVec 16) (prompt : Bool) : Option SendCtx :=
  s.span.sends.find? (fun c => decide (c.dev = dev) && c.prompt == prompt)

/-- A context exists after this, unless the home die has none free. -/
def State.openSend (s : State) (dev : BitVec 16) (prompt : Bool) : Option (SendCtx × State) :=
  match s.sendCtx dev prompt with
  | some c => some (c, s)
  | none =>
    let die := dev.toNat % 4
    if 2048 ≤ s.span.sends.countP (fun c => decide (c.dev.toNat % 4 = die)) then none
    else
      let sess := tget (fun _ => (0 : BitVec 16)) s.span.sessions die
      let c : SendCtx := ⟨dev, prompt, sess, 0, s.ns⟩
      some (c, { s with span := { s.span with sends := s.span.sends ++ [c], sessions := tset (fun _ => 0) s.span.sessions die (sess + 1) } })

/-- Packets take SESSION and consecutive SEQ of their context. -/
def State.numbered (s : State) (dev : BitVec 16) (prompt : Bool) (ps : List SpanPkt) : Option (List SpanPkt × State) :=
  (s.openSend dev prompt).map (fun x =>
    let c := x.1
    let s := x.2
    (ps.zipIdx.map (fun y => { y.1 with session := c.session, seq := c.next + BitVec.ofNat 32 y.2 }),
      { s with span := { s.span with sends := s.span.sends.map (fun d =>
          if d.dev = dev ∧ d.prompt = prompt then { d with next := d.next + BitVec.ofNat 32 ps.length, since := s.ns } else d) } }))

/-- Index of a key: slot, phase, and 1 for receive. -/
def keyIndex (slot phase dir : Nat) : Nat := slot * 4 + phase * 2 + dir
/-- A key. -/
def State.spanKey (s : State) (i : Nat) : SpanKey := tget (fun _ => SpanKey.zero) s.span.keys i
/-- A key replaced. -/
def State.setSpanKey (s : State) (i : Nat) (k : SpanKey) : State :=
  { s with span := { s.span with keys := tset (fun _ => SpanKey.zero) s.span.keys i k } }
/-- Transmit phase of a slot. -/
def State.txPhase (s : State) (slot : Nat) : Nat := tget (fun _ => 0) s.span.txPhase slot

/-- KEY of a device's route entry. -/
def State.keySlot (s : State) (dev : BitVec 16) : Nat := field (s.routeEntry dev) 29 22

/-- A payload encrypted or decrypted. -/
def keyStream (k : SpanKey) (ctr : Word) (b : Bytes) : Bytes := b.zipIdx.map (fun x => x.1 ^^^ Config.sm4Stream k.key k.salt ctr x.2)

/-- n packets to a device may be protected: its transmit key is valid and its counter below 2^63 (R343). -/
def State.mayProtect (s : State) (dev : BitVec 16) (n : Nat) : Bool :=
  let slot := s.keySlot dev
  let k := s.spanKey (keyIndex slot (s.txPhase slot) 0)
  decide (slot = 0) || (k.valid && decide (k.ctr + n ≤ 2 ^ 63))

/-- One packet protected by the transmit key of its device's slot, when it names one. -/
def State.protect (s : State) (p : SpanPkt) : SpanPkt × State :=
  let slot := s.keySlot p.dstDev
  if slot = 0 then (p, s)
  else
    let ph := s.txPhase slot
    let i := keyIndex slot ph 0
    let k := s.spanKey i
    let ctr : Word := BitVec.ofNat 64 k.ctr
    let h := { p with prot := some (decide (ph = 1), ctr, 0) }
    let c := keyStream k ctr p.payload
    ({ h with payload := c, prot := some (decide (ph = 1), ctr, Config.sm4Tag k.key k.salt ctr (spanHeader h) c) },
      s.setSpanKey i { k with ctr := k.ctr + 1 })

/-- Packets protected and sprayed, in order. -/
def State.launch (s : State) : List SpanPkt → State
  | [] => s
  | p :: ps =>
    let (q, s) := s.protect p
    match s.choosePort q with
    | some (k, s) => (s.toSpanPort (p.dstDev.toNat % 4) k ⟨s.regField rSPAN_CTRL2 13 8, spanWire q, s.ns⟩).launch ps
    | none => s.spanNoPort.launch ps

/-- A span packet with the fields that a request or response gives. -/
def spanPkt (src dst : BitVec 16) (type : SpanType) (prompt : Bool) (region : Bool) (status : RespStatus) (tag : BitVec 32) (len : Nat)
    (addr : Word) (payload : Bytes) : SpanPkt :=
  { srcDev := src, dstDev := dst, type := type, prompt := prompt, fence := false, adv := false, region := region, status := status
    session := 0, seq := 0, tag := tag, len := len, window := 0, wgen := 0, addr := setField addr 63 48 0, payload := payload, prot := none
    resv := false }

/-- Pieces of 512 B of len bytes: how many, at least one. -/
def spanPieces (len : Nat) : Nat := max 1 (ceilDiv len 512)

/-! ## Responses (R318, R328, R348) -/

/-- Responses to a device leave, or wait for a context; with its entry ABSENT or no port UP they are discarded. -/
def State.sendResponses (s : State) (dev : BitVec 16) (prompt : Bool) (ps : List SpanPkt) : State :=
  if s.routeState dev = 0 ∨ (s.portsFor dev prompt).isEmpty then ps.foldl (fun s _ => s.spanNoPort) s
  else if !s.mayProtect dev ps.length then s
  else match s.numbered dev prompt ps with
    | some (qs, s) => s.launch qs
    | none => { s with span := { s.span with owed := s.span.owed ++ ps } }

/-- The response packets to a request: one, or as many READ_DATA as a READ asks for. -/
def responsesTo (own : BitVec 16) (r : SpanPkt) (st : RespStatus) (data : Bytes) : List SpanPkt :=
  let mk (t : SpanType) (len : Nat) (addr : Word) (b : Bytes) : SpanPkt := spanPkt own r.srcDev t r.prompt r.region st r.tag len addr b
  match r.type with
  | .read => (List.range (spanPieces r.len)).map (fun k =>
      let b := if st = .ok then (data.drop (512 * k)).take 512 else []
      mk .readData b.length (addrPlus r.region r.addr (512 * k)) b)
  | .message => [mk .msgReply 24 0 data]
  | _ => [mk .writeAck 0 0 []]

/-! ## Operations of this module (R335) -/

/-- A response takes its place in its operation; one that no operation awaits is LATE. -/
def State.opResponse (s : State) (p : SpanPkt) : State :=
  match s.span.ops.find? (fun o => decide (o.tag = p.tag) && decide (o.dev = p.srcDev)) with
  | none => s.spanLate
  | some o =>
    let off := if o.req.region then (field p.addr 26 0 + posMod - field o.req.addr 26 0) % posMod else p.addr.toNat - field o.req.addr 47 0
    let o' := { o with
      got := o.got + 1
      parts := if p.type = .readData then o.parts ++ [(off, p.payload)] else o.parts
      status := if o.status = .ok then p.status else o.status
      reply := if p.type = .msgReply then p.payload else o.reply }
    { s with span := { s.span with ops := s.span.ops.map (fun x => if x.tag = o.tag then o' else x) } }

/-- A request answered: over the fabric, or within the engine when it was looped back (R314). A message that no queue store decided is
answered by a reply whose result word the spec does not give, a free value. -/
def State.answerRequest (s : State) (r : SpanPkt) (st : RespStatus) (data : Bytes) : State :=
  let (w, s) := if r.type = .message ∧ data.isEmpty then s.fresh else (0, s)
  let data := if r.type = .message ∧ data.isEmpty then msgBytes (replyHead (msgOf r.payload)) ++ leBytes 8 w.toNat else data
  let ps := responsesTo s.devNum r st data
  if r.srcDev = s.devNum then ps.foldl (fun s p => s.opResponse p) s else s.sendResponses r.srcDev r.prompt ps

/-! ## Windows (R336 to R341) -/

/-- Source group of a device (R338). -/
def State.groupOf (s : State) (dev : BitVec 16) : Nat := field (s.routeEntry dev) 37 30

/-- PERM bit that a request needs. -/
def permBit : SpanType → Nat
  | .read => 56
  | .write => 57
  | .message => 58
  | _ => 59

/-- Checks 1, 3 and 4 of R339 on window w. -/
def State.winAdmits (s : State) (w : Nat) (p : SpanPkt) : Bool :=
  let c := s.reg (rSPAN_WINw_CTRL + 32 * w)
  let g := field c 53 46
  bitOf c 63 && (decide (g = 0xFF) || decide (g = s.groupOf p.srcDev)) && (bitOf c 60 || decide (s.routeState p.srcDev ≠ 1)) &&
    bitOf c (permBit p.type)

/-- The checks of R339 on a WRITE, READ or SEAL. -/
def State.winPasses (s : State) (p : SpanPkt) : Bool :=
  let w := p.window.toNat
  let c := s.reg (rSPAN_WINw_CTRL + 32 * w)
  let b := s.reg (rSPAN_WINw_BASE + 32 * w)
  let l := s.regField (rSPAN_WINw_LIMIT + 32 * w) 47 0
  s.winAdmits w p && decide (field c 45 30 = p.wgen.toNat) &&
    (match field c 62 61 with
      | 0 => !p.region && decide (field b 47 0 ≤ p.addr.toNat) && decide (p.addr.toNat + p.len ≤ l)
      | 1 => p.region && decide (field p.addr 46 38 = field b 8 0) && decide (field p.addr 30 27 = field b 12 9)
      | _ => false)

/-- Local address of the key exchange box (spec/15 R489). -/
def kxBoxBase : Nat := regBase + 0x2810000

/-- The address of a request as a mesh request of this module names it. -/
def State.ownAddr (s : State) (p : SpanPkt) : Word := setBit (setField p.addr 63 48 s.devNum.toNat) 47 (bitOf p.addr 47 && !p.region)

/-- The endpoint of a seal message: of the range that a NOTICE names, or of the destination address (spec/12 R391, R392). -/
def State.sealDest (s : State) (p : SpanPkt) : Option Place :=
  (sealOf p.payload).bind (fun m =>
    let a := if m.kind = .notice then m.addr.toNat else p.addr.toNat
    if p.region ∧ m.kind ≠ .notice then (if s.present (field p.addr 46 38) then some (placeOf (field p.addr 46 38)) else none)
    else if s.memOk a (max 1 m.len) then some (sealPlace (s.sealHome a).1) else none)

/-- Requests of the same context that were released and are not yet answered (R334). -/
def State.unanswered (s : State) (p : SpanPkt) : List (BitVec 32) :=
  (s.span.ins.filter (fun i => decide (i.req.srcDev = p.srcDev) && i.req.prompt == p.prompt)).map (fun i => i.tag)

/-- Mesh TYPE of a request. -/
def meshType : SpanType → PktType
  | .read => .dmaRead
  | .write => .dmaWrite
  | .message => .message
  | _ => .seal

/-- A request delivered to its endpoint; a FENCE packet is held while earlier requests of its context are unanswered (R334). -/
def State.spanDeliver (s : State) (p : SpanPkt) (dst : Place) (verdict : Bool) (tier : Nat) : State :=
  let tag := s.span.nextTag
  let m : Packet :=
    { dst := dst, src := ringOf (p.srcDev.toNat % 4), type := meshType p.type, fence := p.fence, poison := false, adv := p.adv, status := .ok
      tag := tag, addr := s.ownAddr p, region := p.region, len := p.len, data := if p.type = .message then p.payload.drop 16 else p.payload
      msg := if p.type = .message then some (msgOf p.payload) else none, span := some verdict }
  let w := s.unanswered p
  let s : State := { s with span := { s.span with nextTag := tag + 1, ins := s.span.ins ++ [⟨tag, p, tier⟩] } }
  let hold (c : RecvCtx) : RecvCtx := if c.dev = p.srcDev ∧ c.prompt = p.prompt then { c with fences := c.fences ++ [⟨m, w⟩] } else c
  if p.fence ∧ !w.isEmpty then { s with span := { s.span with recvs := s.span.recvs.map hold } }
  else s.inject m

/-- A released request is judged and delivered, or answered (R333, R339, R340; spec/14 R463). -/
def State.releaseRequest (s : State) (p : SpanPkt) : State :=
  if s.computeReset then s.answerRequest p (if p.type = .seal then .ok else .refused) []
  else if p.type = .message then
    let h := msgOf p.payload
    let n := h.dstCore.val
    if !s.present n then s.answerRequest p .refused []
    else
      let w := if h.sheaf then (((s.core n).sheaf (h.dstQ.toNat % 8)).map (fun x => x.window)).getD 0
        else (((s.core n).queue h.dstQ.toNat).map (fun x => x.window)).getD 0
      let ok := s.winAdmits w p
      (s.winCount w ok).spanDeliver p (placeOf n) ok 0
  else if !s.winPasses p then (s.winCount p.window.toNat false).answerRequest p .denied []
  else
    let s := s.winCount p.window.toNat true
    let a := p.addr.toNat
    let tier := s.regField (rSPAN_WINw_CTRL + 32 * p.window.toNat) 55 54
    if p.type = .seal then
      match s.sealDest p with
      | some d => s.spanDeliver p d true 0
      | none => s.answerRequest p .refused []
    else if p.type = .write ∧ p.window = 4095 ∧ !p.region ∧ kxBoxBase ≤ a ∧ a + p.len ≤ kxBoxBase + 0x1000 then
      { s with wdn := { s.wdn with kxBox := twrite zeroByte s.wdn.kxBox (a - kxBoxBase) p.payload } }.answerRequest p .ok []
    else match s.route p.region (s.ownAddr p) p.len with
      | some d => s.spanDeliver p d true tier
      | none => s.answerRequest p .refused []

/-- A packet is released (R333). -/
def State.spanRelease (s : State) (p : SpanPkt) : State := if isSpanResponse p.type then s.opResponse p else s.releaseRequest p

/-! ## Reorder contexts (R331, R332) -/

/-- A reorder context changed. -/
def State.modRecv (s : State) (dev : BitVec 16) (prompt : Bool) (f : RecvCtx → RecvCtx) : State :=
  { s with span := { s.span with recvs := s.span.recvs.map (fun c => if c.dev = dev ∧ c.prompt = prompt then f c else c) } }

/-- The reorder context of a device and class. -/
def State.recvCtx (s : State) (dev : BitVec 16) (prompt : Bool) : Option RecvCtx :=
  s.span.recvs.find? (fun c => decide (c.dev = dev) && c.prompt == prompt)

/-- Held packets that follow without a gap are released, EXPECT advancing past them. -/
def State.releaseHeld (s : State) (dev : BitVec 16) (prompt : Bool) : Nat → State
  | 0 => s
  | fuel + 1 => match s.recvCtx dev prompt with
    | none => s
    | some c => match c.held.find? (fun p => decide (p.seq = c.expect)) with
      | none => s
      | some p =>
        let s := s.modRecv dev prompt (fun c => { c with held := c.held.erase p, expect := c.expect + 1, moved := s.ns })
        (s.spanRelease p).releaseHeld dev prompt fuel

/-- A packet against its context, whose SESSION is its own (R331, from d = 0 on). -/
def State.placeInOrder (s : State) (p : SpanPkt) (c : RecvCtx) : State :=
  let d := (p.seq - c.expect).toNat
  let die := p.srcDev.toNat % 4
  let s := s.modRecv p.srcDev p.prompt (fun c => { c with since := s.ns })
  if d = 0 then
    let s := s.modRecv p.srcDev p.prompt (fun c => { c with expect := c.expect + 1, moved := s.ns })
    (s.spanRelease p).releaseHeld p.srcDev p.prompt c.held.length
  else if d < 4096 then
    if c.held.any (fun q => decide (q.seq = p.seq)) then s.spanLate
    else if c.held.length < s.regField rSPAN_CTRL 15 0 ∧
        ((s.span.recvs.filter (fun x => decide (x.dev.toNat % 4 = die))).map (fun x => x.held.length)).sum < 4096 then
      s.modRecv p.srcDev p.prompt (fun c => { c with held := c.held ++ [p], moved := if c.held.isEmpty then s.ns else c.moved })
    else s.spanNoSlot
  else if d < 2 ^ 31 then s.spanNoSlot
  else s.spanLate

/-- A stale session. -/
def State.spanStale (s : State) : State := s.spanStat 11

/-- A packet that passed R317 and R344 at its reorder context (R331, R345). `newer`: its counter exceeds every one authenticated;
`loop`: it was looped back. -/
def State.reorder (s : State) (p : SpanPkt) (newer loop : Bool) : State :=
  let die := p.srcDev.toNat % 4
  let starts := p.prot.isNone || newer
  if !loop ∧ s.routeState p.srcDev = 0 then s.spanStat 0
  else match s.recvCtx p.srcDev p.prompt with
    | none =>
      if Config.reorderContexts ≤ s.span.recvs.countP (fun c => decide (c.dev.toNat % 4 = die)) then (s.count rSPAN_CNT4 31 16 1).spanStat 5
      else if !starts then s.spanStale
      else
        let c : RecvCtx := ⟨p.srcDev, p.prompt, p.session, 0, [], s.ns, s.ns, []⟩
        { s with span := { s.span with recvs := s.span.recvs ++ [c] } }.placeInOrder p c
    | some c =>
      if c.session = p.session then s.placeInOrder p c
      else if p.seq.toNat < 4096 ∧ starts then
        let c' := { c with session := p.session, expect := 0, held := [] }
        ((s.spanLost die c.held.length).modRecv p.srcDev p.prompt (fun _ => c')).placeInOrder p c'
      else s.spanStale

/-- LEN and the fields of a packet match its TYPE (R316, R317). -/
def spanWellMade (p : SpanPkt) : Bool :=
  let n := p.payload.length
  !p.resv && decide (p.addr.toNat < 2 ^ 48) && (match p.type with
    | .write => decide (1 ≤ p.len) && decide (p.len ≤ 512) && decide (n = p.len)
    | .read => decide (1 ≤ p.len) && decide (p.len ≤ 4096) && decide (n = 0)
    | .readData => if p.status = .ok then decide (1 ≤ p.len) && decide (p.len ≤ 512) && decide (n = p.len) else decide (p.len = 0) && decide (n = 0)
    | .writeAck => decide (p.len = 0) && decide (n = 0)
    | .message => decide (16 < p.len) && decide (p.len ≤ 80) && decide (n = p.len)
    | .msgReply => decide (p.len = 24) && decide (n = 24)
    | .seal => decide (p.len = 32) && decide (n = 32)
    | .reserved => false)

/-- Protection on receipt (R344): the packet with its payload in clear, and whether its counter is higher than any before; none when the
check fails. -/
def State.authenticate (s : State) (p : SpanPkt) : Option (SpanPkt × Bool × State) :=
  match p.prot with
  | none => if bitOf (s.routeEntry p.srcDev) 21 then none else some (p, true, s)
  | some (ph, ctr, tag) =>
    let slot := s.keySlot p.srcDev
    let i := keyIndex slot (b2n ph) 1
    let k := s.spanKey i
    if slot = 0 ∨ !k.valid ∨ Config.sm4Tag k.key k.salt ctr (spanHeader p) p.payload ≠ tag then none
    else
      let newer := match k.high with
        | some h => decide (h < ctr.toNat)
        | none => true
      some ({ p with payload := keyStream k ctr p.payload }, newer, if newer then s.setSpanKey i { k with high := some ctr.toNat } else s)

/-- A packet that a port holds for the engine of its home die, or that the mesh has brought there, is taken and its buffer space released;
none when neither holds it (R318, R321). -/
def State.takeFrame (s : State) (body : Bytes) : Option State :=
  let d := homeOf body
  let held (s : State) (i : Nat) : Option RxFrame := (s.sport i).rx.find? (fun f => decide (f.body = body))
  match ((List.range 12).filter (fun i => decide (i / 3 = d))).find? (fun i => (held s i).isSome) with
  | some i => (held s i).map (fun f => s.freeFrame i f)
  | none => match (List.range 12).find? (fun i => decide (i / 3 ≠ d) && s.here (spanMesh (i / 3) d body i 0)) with
    | some i =>
      let s := s.take (spanMesh (i / 3) d body i 0)
      some (match held s i with
        | some f => s.freeFrame i f
        | none => s)
    | none => none

/-- SPAN_PACKET_ARRIVE (R317, R331, R344): a packet for this module reaches its home die's engine. -/
def execSpanPacketArrive (body : Bytes) (s : State) : Host.Outcome State Fault Refusal :=
  let pkt := spanOf body
  match if pkt.dstDev = s.devNum then s.clearTx.freeLost.takeFrame body else none with
  | none => .next s
  | some s =>
    if !spanWellMade pkt then .next ((s.count rSPAN_CNT4 63 48 1).spanStat 12)
    else match s.authenticate pkt with
      | none => .next (((s.count rSPAN_CNT3 63 32 1).spanStat 7).record ⟨sevInfo, 14, 7, 8, pkt.srcDev.toNat, 0, 0, 0, 0⟩)
      | some (p, newer, s) => .next (s.reorder p newer false)

/-- REORDER_GAP_EXPIRE (R332): EXPECT has not advanced for GAP_US while packets are held: it moves to the oldest held one. -/
def execReorderGapExpire (dev : BitVec 16) (prompt : Bool) (s : State) : Host.Outcome State Fault Refusal :=
  match s.recvCtx dev prompt with
  | none => .next s
  | some c =>
    let d (p : SpanPkt) : Nat := (p.seq - c.expect).toNat
    let least := c.held.foldl (fun m p => match m with
      | none => some (d p)
      | some x => some (min x (d p))) none
    match least with
    | none => .next s
    | some k =>
      if s.ns < c.moved + 1000 * s.regField rSPAN_CTRL 31 16 then .next s
      else
        let s := (s.clearTx.spanLost (dev.toNat % 4) k).modRecv dev prompt (fun c => { c with expect := c.expect + BitVec.ofNat 32 k, moved := s.ns })
        .next (s.releaseHeld dev prompt c.held.length)

/-- Responses that waited for a context are tried again. -/
def State.sendOwed (s : State) : State :=
  let ps := s.span.owed
  ps.foldl (fun s p => s.sendResponses p.dstDev p.prompt [p]) { s with span := { s.span with owed := [] } }

/-- SEND_CONTEXT_EVICT (R329, R330): a send context that has sent nothing for 2 ms goes. -/
def execSendContextEvict (dev : BitVec 16) (prompt : Bool) (s : State) : Host.Outcome State Fault Refusal :=
  match s.sendCtx dev prompt with
  | none => .next s
  | some c =>
    if s.ns < c.since + 2000000 then .next s
    else .next { s.clearTx with span := { s.clearTx.span with sends := s.clearTx.span.sends.erase c } }.sendOwed

/-- REORDER_CONTEXT_EVICT (R330): a reorder context that holds nothing and has received nothing for 1 ms goes. -/
def execReorderContextEvict (dev : BitVec 16) (prompt : Bool) (s : State) : Host.Outcome State Fault Refusal :=
  match s.recvCtx dev prompt with
  | none => .next s
  | some c =>
    if !c.held.isEmpty ∨ !c.fences.isEmpty ∨ s.ns < c.since + 1000000 then .next s
    else .next { s with span := { s.span with recvs := s.span.recvs.erase c } }

/-- SPAN_FENCE_RELEASE (R334): the oldest FENCE packet held is delivered once every earlier request of its context is answered. -/
def execSpanFenceRelease (dev : BitVec 16) (prompt : Bool) (s : State) : Host.Outcome State Fault Refusal :=
  match (s.recvCtx dev prompt).map (fun c => c.fences) with
  | some (f :: fs) =>
    if f.waits.any (fun t => s.span.ins.any (fun i => decide (i.tag = t))) then .next s
    else .next ((s.modRecv dev prompt (fun c => { c with fences := fs })).inject f.pkt)
  | _ => .next s

/-! ## Requests of this module (R313 to R318, R328, R335) -/

/-- The span packets of a mesh request (R318). -/
def splitRequest (own dev : BitVec 16) (p : Packet) (tag : BitVec 32) (win : BitVec 12) (wgen : BitVec 16) : List SpanPkt :=
  let mk (t : SpanType) (prompt : Bool) (len : Nat) (addr : Word) (b : Bytes) : SpanPkt :=
    { spanPkt own dev t prompt p.region .ok tag len addr b with window := win, wgen := wgen }
  match p.type with
  | .dmaWrite => (List.range (spanPieces p.len)).map (fun k =>
      let b := (p.data.drop (512 * k)).take 512
      let last := decide (k + 1 = spanPieces p.len)
      { mk .write false b.length (addrPlus p.region p.addr (512 * k)) b with fence := p.fence && last, adv := p.adv && last })
  | .dmaRead => [{ mk .read false p.len p.addr [] with fence := p.fence, adv := p.adv }]
  | .message =>
    let b := (match p.msg with
      | some h => msgBytes h
      | none => []) ++ p.data
    [{ mk .message true b.length p.addr b with fence := p.fence }]
  | _ => [mk .seal false 32 p.addr p.data]

/-- Responses that an operation awaits. -/
def awaited (p : Packet) : Nat := match p.type with
  | .dmaWrite => spanPieces p.len
  | .dmaRead => spanPieces p.len
  | _ => 1

/-- A mesh request for a remote address at the span engine. -/
def State.spanRequest (s : State) (p : Packet) (win : BitVec 12) (wgen : BitVec 16) : State :=
  let dev : BitVec 16 := BitVec.ofNat 16 (field p.addr 63 48)
  let die := dev.toNat % 4
  let prompt := decide (p.type = .message)
  let loop := decide (dev = s.devNum)
  let st := s.routeState dev
  let n := (splitRequest s.devNum dev p 0 win wgen).length
  if 4096 ≤ s.span.ops.countP (fun o => decide (o.die = die)) then s
  else if !loop ∧ (st = 0 ∨ st = 3) then ((s.take p).spanStat 0).respond p .refused []
  else if !loop ∧ (s.portsFor dev prompt).isEmpty then ((s.take p).spanNoPort).respond p .refused []
  else if !loop ∧ !s.mayProtect dev n then (s.take p).respond p .refused []
  else
    let tag := s.span.nextTag
    match s.numbered dev prompt (splitRequest s.devNum dev p tag win wgen) with
    | none => s
    | some (ps, s) =>
      let o : SpanOp := ⟨die, tag, p, dev, awaited p, 0, [], .ok, [], s.ns⟩
      let s := s.take p
      let s := { s with span := { s.span with nextTag := tag + 1, ops := s.span.ops ++ [o] } }
      if loop then ps.foldl (fun s q => s.reorder q true true) s else s.launch ps

/-- The endpoint's response to a released request goes back to its sender (R318, R339). An answer to a seal message or to a SEND of the front
end is left to its sender. -/
def State.spanReturn (s : State) (p : Packet) : State :=
  match s.span.ins.find? (fun i => decide (i.tag = p.tag)) with
  | none =>
    if 2 ^ 29 ≤ p.tag.toNat ∧ p.tag.toNat < 2 ^ 31 then s
    else if p.tag.toNat / 2 ^ 27 = 1 then (s.take p).agentAck (p.tag.toNat / 2 ^ 24 % 4) p else s.take p
  | some i =>
    let s := s.take p
    let s := { s with span := { s.span with ins := s.span.ins.filter (fun x => decide (x.tag ≠ p.tag)) } }
    s.answerRequest i.req p.status (match p.msg with
      | some h => msgBytes h ++ p.data
      | none => p.data)

/-- A span packet that the mesh has brought to its port's die is queued at the port (R318, R322). -/
def State.fromEngine (s : State) (p : Packet) : State :=
  if (spanOf p.data).dstDev = s.devNum then s
  else (s.take p).queueFrame (field p.addr 3 0) ⟨s.regField rSPAN_CTRL2 13 8, p.data, field p.addr 63 4⟩

/-- SPAN_REQUEST (R313 to R318, R327 to R329, R335, R343): a mesh packet reaches the span engine or a port: a request for a remote address,
which is split and sprayed under the window and generation that its originator learned (R337), an endpoint's response, or a span packet
on its way out. -/
def execSpanRequest (pkt : Packet) (win : BitVec 12) (wgen : BitVec 16) (s : State) : Host.Outcome State Fault Refusal :=
  match pkt.dst with
  | .core _ | .slot _ => .next s
  | .ring _ =>
    let s := s.clearTx
    if !s.here pkt then .next s
    else if !isRequest pkt.type then .next (s.spanReturn pkt)
    else if pkt.type = .span then .next (s.fromEngine pkt)
    else if s.isRemote pkt.region pkt.addr ∧ pkt.type ≠ .migrate then .next (s.spanRequest pkt win wgen)
    else .next s

/-- SPAN_OP_COMPLETE (R335): every response of an operation has come, and the mesh request is answered. -/
def execSpanOpComplete (tag : BitVec 32) (s : State) : Host.Outcome State Fault Refusal :=
  match s.span.ops.find? (fun o => decide (o.tag = tag)) with
  | none => .next s
  | some o =>
    if o.got < o.pieces then .next s
    else
      let s := { s with span := { s.span with ops := s.span.ops.filter (fun x => decide (x.tag ≠ tag)) } }
      if o.req.type = .message then
        .next (s.inject (answer o.req .msgReply o.status (o.reply.drop 16) (some (msgOf o.reply))))
      else
        let data := (List.range o.pieces).flatMap (fun k => ((o.parts.find? (fun x => decide (x.1 = 512 * k))).map (fun x => x.2)).getD [])
        .next (s.respond o.req o.status (if o.status = .ok then data else []))

/-- SPAN_OP_TIMEOUT (R335): an operation without all its responses after OP_US is freed. -/
def execSpanOpTimeout (tag : BitVec 32) (s : State) : Host.Outcome State Fault Refusal :=
  match s.span.ops.find? (fun o => decide (o.tag = tag)) with
  | none => .next s
  | some o =>
    if o.pieces ≤ o.got ∨ s.ns < o.since + 1000 * s.regField rSPAN_CTRL 63 32 then .next s
    else
      let s := { s with span := { s.span with ops := s.span.ops.filter (fun x => decide (x.tag ≠ tag)) } }
      .next (((s.count rSPAN_CNT4 15 0 1).spanStat 9).dieEvent o.die 0x0E 0 1)

/-! ## Registers (R337, R343, R347, R348, R350) -/

/-- A write of a window register (R337). -/
def State.spanWindowWrite (s : State) (w which : Nat) (v : Word) : State :=
  let k := rSPAN_WINw_CTRL + 32 * w
  let c := s.reg k
  if which < 2 then
    if bitOf c 63 then s.spanStat 10 else s.regWrite ((if which = 0 then rSPAN_WINw_BASE else rSPAN_WINw_LIMIT) + 32 * w) v
  else if bitOf v 63 ∧ field v 62 61 = 0 ∧ s.regField (rSPAN_WINw_LIMIT + 32 * w) 47 0 ≤ s.regField (rSPAN_WINw_BASE + 32 * w) 47 0 then
    s.spanStat 10
  else
    let s := s.regWrite k v
    s.setRegField k 45 30 ((field c 45 30 + 1) % 65536)

/-- SPAN_WINDOW_WRITE (R337): which 0 BASE, 1 LIMIT, 2 CTRL. -/
def execSpanWindowWrite (who : Initiator) (w : BitVec 12) (which : Fin 3) (v : Word) (s : State) : Host.Outcome State Fault Refusal :=
  .next (s.gateReg who (rSPAN_WINw_BASE + 32 * w.toNat + 8 * which.val) (fun s => s.spanWindowWrite w.toNat which v))

/-- A write of a route entry (R347, R348): entering ABSENT clears the contexts of the device. -/
def State.routeWrite (s : State) (dev : BitVec 16) (v : Word) : State :=
  let s := s.regWrite (rSPAN_ROUTEd + 8 * dev.toNat) v
  if field v 63 62 = 0 then
    let gone := s.span.recvs.filter (fun c => decide (c.dev = dev))
    let fences := (gone.flatMap (fun c => c.fences)).map (fun f => f.pkt.tag)
    let s := s.spanLost (dev.toNat % 4) ((gone.map (fun c => c.held.length)).sum + fences.length)
    { s with span := { s.span with
        sends := s.span.sends.filter (fun c => decide (c.dev ≠ dev)), recvs := s.span.recvs.filter (fun c => decide (c.dev ≠ dev))
        ins := s.span.ins.filter (fun i => !fences.contains i.tag) } }
  else s

/-- ROUTE_ENTRY_WRITE (R347, R348). -/
def execRouteEntryWrite (who : Initiator) (dev : BitVec 16) (v : Word) (s : State) : Host.Outcome State Fault Refusal :=
  .next (s.gateReg who (rSPAN_ROUTEd + 8 * dev.toNat) (fun s => s.routeWrite dev v))

/-- A value that R350 accepts for SPAN_CTRL, SPAN_CTRL2 or SPAN_ETH. -/
def spanCtrlOk (which : Nat) (v : Word) : Bool :=
  if which = 0 then
    decide (1 ≤ field v 63 32) && decide (field v 63 32 ≤ 4000000) && decide (1 ≤ field v 31 16) && decide (field v 31 16 ≤ 50000) &&
      decide (64 ≤ field v 15 0) && decide (field v 15 0 ≤ 4096)
  else if which = 1 then
    decide (1 ≤ field v 63 32) && decide (field v 63 32 ≤ 400) && decide (1 ≤ field v 13 8) && decide (field v 13 8 * field v 63 32 ≤ 400)
  else decide (field v 31 29 ≠ field v 28 26) && decide (field v 47 32 ≠ 0x88F7)

/-- SPAN_CTRL_WRITE (R350): which 0 SPAN_CTRL, 1 SPAN_CTRL2, 2 SPAN_ETH. -/
def execSpanCtrlWrite (who : Initiator) (which : Fin 3) (v : Word) (s : State) : Host.Outcome State Fault Refusal :=
  let k := rSPAN_CTRL + 8 * which.val
  .next (s.gateReg who k (fun s => if spanCtrlOk which v then s.regWrite k v else s.spanStat 10))

/-- A write of SPAN_KEYIDX: its fields, the transmit phase of the slot, and COMMIT and CLEAR of the selected key (R343, R345). -/
def State.keyIdxWrite (s : State) (v : Word) : State :=
  let s := s.setReg rSPAN_KEYIDX (v &&& 0x10FFF)
  let slot := field v 7 0
  if slot = 0 then s
  else
    let i := keyIndex slot (field v 8 8) (field v 9 9)
    let s := { s with span := { s.span with txPhase := tset (fun _ => 0) s.span.txPhase slot (field v 16 16) } }
    let s := if bitOf v 18 then s.setSpanKey i { s.spanKey i with valid := true, ctr := 0, high := none } else s
    if bitOf v 19 then s.setSpanKey i { s.spanKey i with valid := false } else s

/-- KEY_COMMIT (R343, R345): a write of SPAN_KEYIDX with COMMIT set. -/
def execKeyCommit (who : Initiator) (v : Word) (s : State) : Host.Outcome State Fault Refusal :=
  .next (s.gateReg who rSPAN_KEYIDX (fun s => s.keyIdxWrite (setBit v 18 true)))

/-- KEY_CLEAR (R345): a write of SPAN_KEYIDX with CLEAR set. -/
def execKeyClear (who : Initiator) (v : Word) (s : State) : Host.Outcome State Fault Refusal :=
  .next (s.gateReg who rSPAN_KEYIDX (fun s => s.keyIdxWrite (setBit v 19 true)))

/-- TXPHASE_WRITE (R345): a write of SPAN_KEYIDX. -/
def execTxphaseWrite (who : Initiator) (v : Word) (s : State) : Host.Outcome State Fault Refusal :=
  .next (s.gateReg who rSPAN_KEYIDX (fun s => s.keyIdxWrite v))

/-- A word of a key written: 0 and 1 its halves, 2 its salt. -/
def SpanKey.word (k : SpanKey) (w : Nat) (v : Word) : SpanKey :=
  match w with
  | 0 => { k with key := BitVec.ofNat 128 (k.key.toNat / 2 ^ 64 * 2 ^ 64 + v.toNat) }
  | 1 => { k with key := BitVec.ofNat 128 (v.toNat * 2 ^ 64 + k.key.toNat % 2 ^ 64) }
  | 2 => { k with salt := BitVec.ofNat 32 v.toNat }
  | _ => k

/-- KEYDATA_WRITE (R345): the word that SPAN_KEYIDX selects. -/
def execKeydataWrite (who : Initiator) (v : Word) (s : State) : Host.Outcome State Fault Refusal :=
  .next (s.gateReg who rSPAN_KEYDATA (fun s =>
    let x := s.reg rSPAN_KEYIDX
    if field x 7 0 = 0 then s
    else
      let i := keyIndex (field x 7 0) (field x 8 8) (field x 9 9)
      s.setSpanKey i ((s.spanKey i).word (field x 11 10) v)))

end Sys2Proof.Machine
end

