-- ==== Sys2Proof/Machine/Rings.lean ====
section
/-! DEFINITION. The front end: work rings, jobs from their fetch to their last record, digests of shadow rings, and CXL.mem with
its snoop filter (spec/11 R358 to R380, R515, spec/12 R409, R410). -/

namespace Sys2Proof.Machine

/-! ## Rings (R365 to R371) -/

/-- The exposed ranges in index order: base and size (R358). -/
def State.exposed (s : State) : List (Nat × Nat) :=
  ((List.range 4).map (fun i => s.reg (rCXL_MEMRANGEi + 8 * i))).filterMap (fun w =>
    if bitOf w 63 then some (field w 19 0 * 2 ^ 28, field w 51 28 * 2 ^ 28) else none)

/-- One exposed range holds [a, a + len). -/
def State.isExposed (s : State) (a len : Nat) : Bool := s.exposed.any (fun q => decide (q.1 ≤ a) && decide (a + len ≤ q.1 + q.2))

/-- With LOC 1 every structure of ring r lies inside one exposed range (R371). -/
def State.ringPlaced (s : State) (r : Nat) : Bool :=
  !s.ringLocal r || (s.isExposed (s.sqBase r) (128 * 2 ^ s.sqLog r) && s.isExposed (s.cqBase r) (64 * 2 ^ s.cqLog r) && s.isExposed (s.plAddr r) 64)

/-- A ring faults (R371): it fetches nothing more, and its jobs run on. -/
def State.ringFault (s : State) (r code : Nat) : State :=
  let x := s.ring r
  if x.phase = .on then (s.setRing r { x with phase := .fault, code := code }).orReg rCXL_STATUS 16 else s

/-- Jobs of ring r that are in flight. -/
def State.ringJobs (s : State) (r : Nat) : List Job := s.jobs.filterMap (fun e => e.2.bind (fun j => if j.ring = r then some j else none))

/-- Completion slots that a job holds (R369): two of a PROVISIONAL start until its first record. -/
def Job.slots (j : Job) : Nat := if j.op = 1 ∧ j.provisional ∧ !j.recorded ∧ j.cause.isNone then 2 else 1

/-- A draining ring without jobs is OFF (R368). -/
def State.ringSettle (s : State) (r : Nat) : State :=
  let x := s.ring r
  if x.phase = .draining ∧ (s.ringJobs r).isEmpty then s.setRing r { x with phase := .off } else s

/-- A write of CXL_RINGr_CFG (R368): the proxy fields take the value; LOC does not change while ENABLE is set; setting ENABLE starts an OFF
ring afresh, and clearing it lets the ring drain. -/
def State.ringCfgWrite (s : State) (r : Nat) (v : Word) : State :=
  let key := ringKey r rCXL_RINGr_CFG
  let old := s.reg key
  let x := s.ring r
  let on := bitOf old 0
  let want := bitOf v 0
  let stuck := want && !on && decide (x.phase ≠ .off)
  let keepLoc := on && (bitOf v 1 != bitOf old 1)
  let w := setField (setField 0 24 16 (field v 24 16)) 15 10 (field v 15 10)
  let w := setBit (setBit w 1 (if on then bitOf old 1 else bitOf v 1)) 0 (want && !stuck)
  let s := s.setReg key w
  let s := if keepLoc || stuck then s.orReg rCXL_STATUS 8 else s
  if want && !on && !stuck then s.setRing r { Ring.zero with phase := .on }
  else if !want && on then (s.setRing r { x with phase := .draining }).ringSettle r
  else s

/-- RING_ENABLE (R368): a write of CXL_RINGr_CFG with ENABLE set. -/
def execRingEnable (who : Initiator) (r : RingId) (v : Word) (s : State) : Host.Outcome State Fault Refusal :=
  .next (s.gateReg who (ringKey r rCXL_RINGr_CFG) (fun s => if bitOf v 0 then s.ringCfgWrite r v else s))

/-- RING_DISABLE (R368): a write of CXL_RINGr_CFG with ENABLE clear. -/
def execRingDisable (who : Initiator) (r : RingId) (v : Word) (s : State) : Host.Outcome State Fault Refusal :=
  .next (s.gateReg who (ringKey r rCXL_RINGr_CFG) (fun s => if bitOf v 0 then s else s.ringCfgWrite r v))

/-- A ring works: enabled and bring-up past Stage 3 (R355). -/
def State.ringRuns (s : State) (r : Nat) : Bool := decide ((s.ring r).phase = .on) && decide (3 ≤ s.stage)

/-- The indices that a producer line gives are taken, and judged (R371). -/
def State.takeLine (s : State) (r : Nat) (b : Bytes) : State :=
  let x := { s.ring r with pi := BitVec.ofNat 32 (leAt b 0 4), cr := BitVec.ofNat 32 (leAt b 4 4), marked := false }
  let s := s.setRing r x
  let ahead := (x.cr - x.written).toNat
  if 2 ^ s.sqLog r < (x.pi - x.fetched).toNat then s.ringFault r 1
  else if ahead ≠ 0 ∧ ahead < 2 ^ 31 then s.ringFault r 2
  else s

/-- RING_POLL (R365, R366, R371): the front end polls ring r. A line in host memory is read with RdShared when the device holds no copy;
`line`: what the read returned, none when it failed or carried poison. A line in device memory is read when the host has written it. -/
def execRingPoll (r : RingId) (line : Option Bytes) (s : State) : Host.Outcome State Fault Refusal :=
  let x := s.ring r
  if !s.ringRuns r then .next s
  else if !s.ringPlaced r then .next (s.ringFault r 4)
  else if s.ringLocal r then
    if !x.marked then .next s
    else
      let (go, s) := s.snooped (s.plAddr r) 64 false
      if !go then .next s
      else match s.ringRead (s.plAddr r) 64 with
        | (some b, s) => .next (s.takeLine r b)
        | (none, s) => .next (s.ringFault r 3)
  else if x.cached ∨ !s.port.up then .next s
  else match line with
    | some b => .next ((s.setRing r { x with cached := true }).takeLine r b)
    | none => .next (s.ringFault r 3)

/-- LINK_WAIT_EXPIRE (R371): an access of ring r has waited over 1 s for the link. -/
def execLinkWaitExpire (r : RingId) (s : State) : Host.Outcome State Fault Refusal :=
  if s.ringRuns r ∧ !s.ringLocal r ∧ !s.port.up ∧ s.port.downAt + 1000000000 < s.ns then .next (s.ringFault r 3) else .next s

/-! ## Fetch (R369, R372) -/

/-- The fetch conditions of R369. -/
def State.mayFetch (s : State) (r : Nat) : Bool :=
  let x := s.ring r
  let js := s.ringJobs r
  s.ringRuns r && s.ringPlaced r && decide (x.fetched ≠ x.pi) && !js.any (fun j => decide (j.op = 3)) &&
  decide ((s.jobs.countP (fun e => e.2.isSome)) < 1024) &&
  decide ((x.written + BitVec.ofNat 32 ((js.map Job.slots).sum + 2) - x.cr).toNat ≤ 2 ^ s.cqLog r)

/-- A job whose descriptor has been read. -/
def State.newJob (s : State) (r : Nat) (b : Bytes) : State :=
  let x := s.ring r
  let j : Job := { ring := r, idx := x.fetched, desc := b, fetchedAt := s.ns, phase := .fetched, tasks := [], cause := none, recorded := false
                   flags := 0, short := false, tries := 0, limit := s.reg (ringKey r rCXL_RINGr_LIMIT), key := 0, again := 0 }
  let j := if 3 < j.op then { j with cause := some ⟨stBadDescriptor, 0, 0, none, 0⟩, phase := .ending } else j
  (s.setRing r { x with fetched := x.fetched + 1 }).setJob j.tag (some j)

/-- DESCRIPTOR_FETCH (R369): the front end reads the next descriptor once and copies it; `desc`: what a read of host memory returned, none
when it failed or carried poison. -/
def execDescriptorFetch (r : RingId) (desc : Option Bytes) (s : State) : Host.Outcome State Fault Refusal :=
  if !s.mayFetch r then .next s
  else if s.ringLocal r then
    let a := s.sqBase r + (s.ring r).fetched.toNat % 2 ^ s.sqLog r * 128
    let (go, s) := s.snooped a 128 false
    if !go then .next s
    else match s.ringRead a 128 with
      | (some b, s) => .next (s.newJob r b)
      | (none, s) => .next (s.ringFault r 3)
  else if !s.port.up then .next s
  else match desc with
    | some b => .next (if b.length = 128 then s.newJob r b else s)
    | none => .next (s.ringFault r 3)

/-! ## Checks (R373) -/

/-- The oldest job of ring r that has been fetched and not begun. -/
def State.oldestFetched (s : State) (r : Nat) : Option Job :=
  let age (j : Job) : Nat := ((s.ring r).fetched - j.idx).toNat
  ((s.ringJobs r).filter (fun j => decide (j.phase = .fetched))).foldl (fun m j => match m with
    | some k => if age k < age j then some j else some k
    | none => some j) none

/-- Bytes [a, b) of a descriptor are zero. -/
def zeroIn (b : Bytes) (lo hi : Nat) : Bool := ((b.drop lo).take (hi - lo)).all (fun x => decide (x = 0))

/-- Reserved fields, COUNT and LIST of a descriptor are right. -/
def descFieldsOk (b : Bytes) : Bool :=
  let op := leAt b 0 1
  let flags := leAt b 1 1
  let count := leAt b 2 2
  let list := leAt b 16 8
  zeroIn b 24 32 &&
  (if op = 1 then decide (flags < 2) && decide (1 ≤ count) && decide (count ≤ 512) && decide (list % 32 = 0) &&
      (List.range 6).all (fun i => zeroIn b (44 + 16 * i) (48 + 16 * i))
   else if op = 2 then decide (flags = 0) && decide (1 ≤ count) && decide (count ≤ 4) && zeroIn b 64 128
   else decide (flags = 0) && decide (count = 0) && decide (list = 0) && zeroIn b 32 128)

/-- Local memory that exists and is no device register. -/
def State.memoryAt (s : State) (a len : Nat) : Bool := decide (a < 2 ^ 48) && s.memOk a len

/-- Bytes that the front end reads, a task list among them: none when a line or word is uncorrectable, which is reported (spec/05 R160, R185;
SPAD_ECCLOG lists no INITIATOR for the front end, a free value). A line in the gather buffer is flushed first (spec/05 R167). -/
def State.readMem (s : State) (a len : Nat) : Option Bytes × State :=
  match s.kindOf a with
  | .spad n o =>
    let s := s.gatherFlush n
    if s.ueIn n o len = 0 then (some (s.bytes a len), s.noteCe n a len)
    else (none, s.copyUe n (s.firstBad n o len) (s.ueIn n o len) 0)
  | _ => s.ringRead a len

/-- Entries of a task list: core, base, image, argument, task number (R372). -/
def listTasks (b : Bytes) (n : Nat) : List JobTask :=
  (List.range n).map (fun i =>
    let o := 32 * i
    { core := leAt b o 2, base := BitVec.ofNat 32 (leAt b (o + 4) 4), image := BitVec.ofNat 48 (leAt b (o + 8) 8), arg := BitVec.ofNat 64 (leAt b (o + 16) 8)
      no := BitVec.ofNat 32 (leAt b (o + 24) 4), answer := none, slot := none, ended := none })

/-- A list entry's reserved fields and SPAD_BASE. -/
def entryOk (b : Bytes) (i : Nat) : Bool :=
  zeroIn b (32 * i + 2) (32 * i + 4) && zeroIn b (32 * i + 28) (32 * i + 32) && decide (leAt b (32 * i + 4) 4 % 4096 = 0)

/-- A core lies inside the interval that the ring may name. -/
def Job.allows (j : Job) (n : Nat) : Bool := decide (field j.limit 8 0 ≤ n) && decide (n ≤ field j.limit 24 16)

/-- The status of a job's first failing check that needs no task list, for NOP, SEND and FENCE (R373). -/
def State.plainCheck (s : State) (j : Job) : Option Nat :=
  let target : Word := BitVec.ofNat 64 (leAt j.desc 16 8)
  if !descFieldsOk j.desc then some stBadDescriptor
  else if j.op = 2 ∧ (!bitOf j.limit 33 ∨ tgRemote target ∨ !j.allows (tgCore target)) then some stPermission
  else if s.computeReset then some stConflict
  else none

/-- The outcome of the checks of a START (R373): the tasks of its list, or the status of the first check that fails. -/
def State.startCheck (s : State) (j : Job) : (List JobTask ⊕ Nat) × State :=
  let a := leAt j.desc 16 8
  let n := leAt j.desc 2 2
  if !descFieldsOk j.desc ∨ !s.memoryAt a (32 * n) ∨ !(descRegions j.desc).all (fun q => s.memoryAt q.1 q.2) then (.inr stBadDescriptor, s)
  else match s.readMem a (32 * n) with
    | (none, s) => (.inr stBadDescriptor, s)
    | (some b, s) =>
      let ts := listTasks b n
      let cores := ts.map (fun x => x.core)
      if !(List.range n).all (fun i => s.memoryAt (leAt b (32 * i + 8) 8) 64) then (.inr stBadDescriptor, s)
      else if (j.provisional ∧ !bitOf j.limit 32) ∨ !cores.all j.allows then (.inr stPermission, s)
      else if !(List.range n).all (entryOk b) ∨ cores.any (fun c => decide (4 < cores.count c)) then (.inr stBadDescriptor, s)
      else if !cores.all s.present then (.inr stCapacity, s)
      else if s.computeReset then (.inr stConflict, s)
      else (.inl ts, s)

/-- SEAL of a result (R515): SEALED with DONE_SEALED, otherwise OPEN. -/
def plainCause (status : Nat) : JobCause := ⟨status, 0, 0, none, if status = stSealed then 1 else 0⟩

/-- A job ends with a status and no task behind it. -/
def State.endJob (s : State) (j : Job) (status : Nat) : State := s.setJob j.tag (some { j with cause := some (plainCause status), phase := .ending })

/-! ## The operations (R374 to R377) -/

/-- JOB_NOP (R373, R376): the oldest fetched job of ring r is a NOP and completes at once. -/
def execJobNop (r : RingId) (s : State) : Host.Outcome State Fault Refusal :=
  match s.oldestFetched r with
  | some j => .next (if j.op = 0 then s.endJob j ((s.plainCheck j).getD stSealed) else s)
  | none => .next s

/-- JOB_START (R373, R374): the oldest fetched job of ring r is a START: it is checked, and its tasks are to be reserved. -/
def execJobStart (r : RingId) (s : State) : Host.Outcome State Fault Refusal :=
  match s.oldestFetched r with
  | some j =>
    if j.op ≠ 1 then .next s
    else
      let (go, s) := s.snooped (leAt j.desc 16 8) (32 * leAt j.desc 2 2) false
      if !go then .next s
      else match s.startCheck j with
        | (.inr status, s) => .next (s.endJob j status)
        | (.inl ts, s) => .next (s.setJob j.tag (some { j with tasks := ts, phase := .reserving }))
  | none => .next s

/-- NEXT of a proxy channel. -/
def State.proxyNext (s : State) (key : Nat) : BitVec 16 := tget (fun _ => 0) s.port.proxy key

/-- The message of a SEND under a proxy key, from the ring of die 0 (R375). -/
def State.proxyPacket (s : State) (j : Job) (key : Nat) : Packet :=
  let w : Word := BitVec.ofNat 64 (leAt j.desc 16 8)
  let count := leAt j.desc 2 2
  let h : MsgHeader :=
    { key := ⟨s.devNum, BitVec.ofNat 9 (key / 64), BitVec.ofNat 2 (key / 16), BitVec.ofNat 4 key⟩, seq := s.proxyNext key
      dstCore := Fin.ofNat 512 (tgCore w), dstQ := BitVec.ofNat 6 (tgQueue w), sheaf := tgSheaf w, type := .word, gen := BitVec.ofNat 8 (tgGen w)
      anygen := tgAnygen w, words := BitVec.ofNat 2 (count - 1), lane := 0, mcast := false }
  { dst := placeOf (tgCore w), src := ringOf 0, type := .message, fence := false, poison := false, adv := false, status := .ok
    tag := BitVec.ofNat 32 (2 ^ 29 + key), addr := w, region := true, len := 16 + 8 * count, data := (j.desc.drop 32).take (8 * count)
    msg := some h, span := none }

/-- The status that a result of a SEND gives (R375): none for FULL and FENCED, after which the front end sends again. -/
def sendStatus (code : Nat) : Option Nat :=
  if code = 0 then some stSealed
  else if code = nackFull ∨ code = nackFenced then none
  else if code = nackDenied then some stPermission
  else if code = nackMalformed then some stBadDescriptor
  else some stConflict

/-- A SEND leaves, or is answered at the front end: a malformed target (spec/07 R220), an absent core (spec/13 R440). -/
def State.proxySend (s : State) (j : Job) : State :=
  let w : Word := BitVec.ofNat 64 (leAt j.desc 16 8)
  if !targetOk w then s.endJob j stBadDescriptor
  else if !s.present (tgCore w) then s.endJob j stConflict
  else (s.setJob j.tag (some { j with phase := .sending, tries := j.tries + 1 })).inject (s.proxyPacket j j.key)

/-- JOB_SEND (R373, R375): the oldest fetched job of ring r is a SEND: it is checked, and its message leaves once no other SEND is under
way on its channel. -/
def execJobSend (r : RingId) (s : State) : Host.Outcome State Fault Refusal :=
  match s.oldestFetched r with
  | some j =>
    if j.op ≠ 2 then .next s
    else match s.plainCheck j with
      | some status => .next (s.endJob j status)
      | none =>
        let cfg := s.reg (ringKey r rCXL_RINGr_CFG)
        let key := field cfg 24 16 * 64 + field cfg 11 10 * 16 + field cfg 15 12
        let busy (k : Job) : Bool := decide (k.key = key) && (decide (k.phase = .sending) || decide (k.phase = .backoff))
        if s.jobs.any (fun e => (e.2.map busy).getD false) then .next s else .next (s.proxySend { j with key := key })
  | none => .next s

/-- JOB_SEND_RETRY (R375): after FULL or FENCED and its back-off the front end sends the same message again. -/
def execJobSendRetry (jobTag : BitVec 32) (s : State) : Host.Outcome State Fault Refusal :=
  match s.job jobTag.toNat with
  | some j => .next (if j.phase = .backoff ∧ j.again ≤ s.ns then s.proxySend j else s)
  | none => .next s

/-- A reply reaches the front end (R375): NEXT advances on ACCEPTED or DUPLICATE, and the job ends or waits to send again. -/
def State.proxyReply (s : State) (pkt : Packet) (h : MsgHeader) : State :=
  let key := h.key.core.toNat * 64 + h.key.slot.toNat * 16 + h.key.chan.toNat
  if pkt.tag ≠ BitVec.ofNat 32 (2 ^ 29 + key) ∨ h.seq ≠ s.proxyNext key then s
  else
    let result : Word := BitVec.ofNat 64 (ofLe pkt.data)
    let decided := decide (pkt.status = .ok)
    let code := nackOf result
    let s := if decided ∧ code = 0 then { s with port := { s.port with proxy := tset (fun _ => 0) s.port.proxy key (h.seq + 1) } } else s
    match s.jobs.findSome? (fun e => e.2.bind (fun j => if j.phase = .sending ∧ j.key = key then some j else none)) with
    | none => s
    | some j =>
      match if decided then sendStatus code else some stConflict with
      | some status => s.endJob j status
      | none => s.setJob j.tag (some { j with phase := .backoff, again := s.backoffEnd (field result 57 54) })

/-- SEND_RESULT (spec/07 R224, R227, R235, spec/11 R375): a reply reaches the core or the front end that sent its message. -/
def execSendResult (pkt : Packet) (s : State) : Host.Outcome State Fault Refusal :=
  if !s.here pkt then .next s
  else match pkt.msg, pkt.dst with
  | some h, .core n => .next (if s.live n then (s.take pkt).coreReply pkt h n else (s.take pkt).countDiscard n)
  | some h, .ring d => if d.val = 0 then .next ((s.take pkt).proxyReply pkt h) else .next s
  | _, _ => .next s

/-- JOB_FENCE (R373, R376): the oldest fetched job of ring r is a FENCE and completes once every earlier job of the ring has had its last
record. -/
def execJobFence (r : RingId) (s : State) : Host.Outcome State Fault Refusal :=
  match s.oldestFetched r with
  | some j =>
    if j.op ≠ 3 then .next s
    else match s.plainCheck j with
      | some status => .next (s.endJob j status)
      | none => .next (if (s.ringJobs r).length = 1 then s.endJob j stSealed else s)
  | none => .next s

/-- JOB_TIMEOUT (R377, R378): TIMEOUT_MS from the fetch has passed: it is the job's cause if none came before. -/
def execJobTimeout (jobTag : BitVec 32) (s : State) : Host.Outcome State Fault Refusal :=
  match s.job jobTag.toNat with
  | some j =>
    let ms := leAt j.desc 4 4
    if ms = 0 ∨ s.ns < j.fetchedAt + ms * 1000000 then .next s else .next (s.jobCause jobTag.toNat (plainCause stTimeout))
  | none => .next s

/-! ## Completion records (R378 to R380, R515) -/

/-- The 64 bytes of a record with index k (R380). -/
def State.recordLine (s : State) (j : Job) (k kind : Nat) (c : JobCause) : Bytes :=
  let phase := 1 - (k >>> s.cqLog j.ring) % 2
  let bounded := if c.sealSt = 1 ∧ j.flags.testBit 0 then 32 else 0
  let (core, no) : Nat × Nat := match c.task with
    | some (n, no) => (0x8000 + n, no.toNat)
    | none => (0, 0)
  leBytes 1 (phase + 2 * kind + 8 * c.sealSt + bounded) ++ leBytes 1 c.status ++ leBytes 1 c.endCode ++ leBytes 1 c.refusal ++
  leBytes 4 j.idx.toNat ++ leBytes 8 (leAt j.desc 8 8) ++ leBytes 2 core ++ leBytes 2 0 ++ leBytes 4 no ++ leBytes 8 j.fetchedAt ++
  leBytes 8 s.ns ++ leBytes 24 0

/-- A record can be written: the link is up, or no line that the host holds is in the way, whose snoops are sent (R360, R379). -/
def State.recordReady (s : State) (r : Nat) : Bool × State :=
  if s.ringLocal r then (if s.ringPlaced r then s.snooped (s.cqBase r + (s.ring r).written.toNat % 2 ^ s.cqLog r * 64) 64 true else (true, s))
  else (s.port.up, s)

/-- A record written as one line, and WRITTEN advanced; the completion array of a misplaced ring is not reachable. -/
def State.writeRecord (s : State) (j : Job) (kind : Nat) (c : JobCause) : State :=
  let x := s.ring j.ring
  let k := x.written.toNat
  let a := s.cqBase j.ring + k % 2 ^ s.cqLog j.ring * 64
  let b := s.recordLine j k kind c
  let s := if s.ringLocal j.ring then (if s.ringPlaced j.ring then s.store a b else s) else { s with hostMem := twrite zeroByte s.hostMem a b }
  s.setRing j.ring { x with written := x.written + 1 }

/-- A job's last record has been written: it is in flight no longer, and one DONE_SEALED on a marked ring awaits its digest (spec/12
R409). -/
def State.closeJob (s : State) (j : Job) (status : Nat) : State :=
  let s := if status = stSealed ∧ bitOf (s.reg rMGT_SHADOW) j.ring then { s with digests := s.digests ++ [⟨j.tag, j.ring, j.idx, j.desc, j.flags⟩] } else s
  (s.setJob j.tag none).ringSettle j.ring

/-- The result that a job may be completed with now (R376 to R378): its cause once every task has left DRAINING, DONE_PROVISIONAL once
every task has ended with END_OK, or DONE_SEALED once every output region is sealed as well. -/
def State.jobResult (s : State) (j : Job) : Option JobCause :=
  match j.cause with
  | some c => if j.allGone then some c else none
  | none =>
    if j.op ≠ 1 ∨ !j.allOk then none
    else if j.provisional ∧ !j.recorded then some ⟨stProvisional, 0, 0, none, 0⟩
    else if (descRegions j.desc).all (fun q => decide (s.regionState q = 1)) then some (plainCause stSealed)
    else none

/-- COMPLETION_RECORD_WRITE (R377 to R380, R515): the job's COMPLETION record is written. -/
def execCompletionRecordWrite (jobTag : BitVec 32) (s : State) : Host.Outcome State Fault Refusal :=
  match s.job jobTag.toNat with
  | none => .next s
  | some j =>
    match s.jobResult j with
    | none => .next s
    | some c =>
      if j.recorded then .next s
      else
        let (go, s) := s.recordReady j.ring
        if !go then .next s
        else
          let s := (s.writeRecord j 0 c).count (ringKey j.ring rCXL_RINGr_CNT) (if c.status < 2 then 63 else 31) (if c.status < 2 then 32 else 0) 1
          if c.status = stProvisional then .next (s.setJob j.tag (some { j with recorded := true })) else .next (s.closeJob j c.status)

/-- SEAL_UPDATE (R378, R379): the regions of a provisional job have resolved, or its wait has ended: the second record is written. -/
def execSealUpdate (jobTag : BitVec 32) (s : State) : Host.Outcome State Fault Refusal :=
  match s.job jobTag.toNat with
  | none => .next s
  | some j =>
    match s.jobResult j with
    | none => .next s
    | some c =>
      if !j.recorded then .next s
      else
        let (go, s) := s.recordReady j.ring
        if !go then .next s else .next ((s.writeRecord j 1 c).closeJob j c.status)

/-- A reset is the cause of every job that has none (R379). -/
def State.abortJobs (s : State) : State := s.jobs.foldl (fun s e => s.jobCause e.1 (plainCause stReset)) s

/-! ## Digests (spec/12 R409, R410) -/

/-- The bytes that a digest covers, and whether a region reads uncorrectable. -/
def State.digestInput (s : State) (d : DigestJob) : Option Bytes × State :=
  (descRegions d.desc).foldl (fun x q =>
    let (b, s) := x
    let (r, s) := s.readMem q.1 q.2
    (match b, r with
      | some b, some r => some (b ++ leBytes 8 q.1 ++ leBytes 4 q.2 ++ r)
      | _, _ => none, s)) (some (leBytes 8 (leAt d.desc 8 8)), s)

/-- 32 bytes that nothing constrains. -/
def State.freshDigest (s : State) : Bytes × State :=
  (List.range 4).foldl (fun x _ => let (w, s) := x.2.fresh; (x.1 ++ leBytes 8 w.toNat, s)) ([], s)

/-- DIGEST_COMPUTE (spec/12 R409, R410): the digest engine computes the digest of a job and writes its record, or skips it when the ring is
full. Of a region that reads uncorrectable the spec gives no digest: a free value. -/
def execDigestCompute (jobTag : BitVec 32) (s : State) : Host.Outcome State Fault Refusal :=
  match s.digests.find? (fun d => decide (d.tag = jobTag.toNat)) with
  | none => .next s
  | some d =>
    let loc := s.reg rMGT_SHADOWLOC
    let size := 2 ^ (field loc 51 48 + 6)
    let c := s.regField rMGT_SHADOWCNT 63 32
    let rd := s.regField rMGT_SHADOWRD 31 0
    let (go, s1) := s.snoopedAll ((field loc 47 0 + c % size * 64, 64, true) :: (descRegions d.desc).map (fun q => (q.1, q.2, false)))
    if size ≤ (c + 2 ^ 32 - rd) % 2 ^ 32 then .next ({ s with digests := s.digests.erase d }.count rMGT_SHADOWRD 63 32 1)
    else if !go then .next s1
    else
      let (b, s) := { s1 with digests := s.digests.erase d }.digestInput d
      let (h, s) : Bytes × State := match b with
        | some b => (Config.sm3 b, s)
        | none => s.freshDigest
      let line := leBytes 8 (leAt d.desc 8 8) ++ leBytes 4 d.idx.toNat ++ leBytes 1 d.ring ++ leBytes 1 d.flags ++ leBytes 1 stSealed ++ leBytes 17 0 ++ h.take 32
      .next ((s.store (field loc 47 0 + c % size * 64) line).setRegField rMGT_SHADOWCNT 63 32 (c + 1))

/-- SHADOWLOC_WRITE (spec/12 R410): a write to MGT_SHADOWLOC starts the digest count and RD again; BASE keeps bits 11:0 zero. -/
def execShadowlocWrite (who : Initiator) (v : Word) (s : State) : Host.Outcome State Fault Refusal :=
  .next (s.gateReg who rMGT_SHADOWLOC (fun s =>
    ((s.setReg rMGT_SHADOWLOC (setField (setField v 63 52 0) 11 0 0)).setRegField rMGT_SHADOWCNT 63 32 0).setReg rMGT_SHADOWRD 0))

/-! ## CXL.mem and the snoop filter (R358 to R363) -/

/-- The local address of a device physical address (R358). -/
def dpaIn : List (Nat × Nat) → Nat → Option Nat
  | [], _ => none
  | q :: qs, a => if a < q.2 then some (q.1 + a) else dpaIn qs (a - q.2)

/-- Sets of the snoop filter. -/
def filterSet (line : Nat) : Nat := line / 64 % 16384

/-- The host is granted a line: it becomes the most recently granted one. -/
def State.grantLine (s : State) (line : Nat) : State :=
  { s with port := { s.port with lines := s.port.lines.filter (fun l => decide (l.line ≠ line)) ++ [⟨line, none, 0⟩] } }

/-- Room for a line in the filter (R360): a full set must first give up its least recently granted line by BISnpInv. -/
def State.filterRoom (s : State) (line : Nat) : Bool × State :=
  let set_ := s.port.lines.filter (fun l => decide (filterSet l.line = filterSet line))
  if set_.any (fun l => decide (l.line = line)) ∨ set_.length < 16 then (true, s)
  else match set_ with
    | v :: _ =>
      if v.waits then (false, s)
      else
        let s := (s.count rCXL_SFCNT 31 0 1).count rCXL_SFCNT 63 32 1
        (false, { s with port := { s.port with lines := s.port.lines.map (fun l => if l.line = v.line then l.sent true s.ns else l) } })
    | [] => (true, s)

/-- A host request for a line of an exposed range is served (R359, R362); a write starts at offset o of the line. A write to a name that is MOVING, or a
request for ownership, is held and counted (spec/09 R294); an access to a row under repair waits (spec/09 R285). -/
def State.serveHost (s : State) (a o : Nat) (op : MemOp) (errs : LineErrs) : State :=
  let name := s.pool.nameOf a
  let moving := (name.map s.moving).getD false
  let write : Bool := match op with
    | .write _ => true
    | _ => false
  if s.repairHeld a 64 then s
  else if moving ∧ (write ∨ op = .readOwn) then
    match name, op with
    | some i, .write b => s.holdWrite i (.host a o b)
    | some i, _ => s.holdWrite i (.own a)
    | none, _ => s
  else if s.port.lines.any (fun l => decide (l.line = a) && l.waits) then s
  else
    let (room, s) := if write ∨ op = .readNoCache then (true, s) else s.filterRoom a
    if !room then s
    else
      let s := match name with
        | some i => s.access i 0
        | none => s
      if s.unusable a 64 || s.chanFailed (s.phys a) then s.memAnswer .poison
      else match op with
        | .write b => s.hostWrite a o b
        | _ =>
          let s := if op = .readNoCache then s else s.grantLine a
          match ((s.noteErrs a 64 errs).countLines a 64 false).lineRead a 64 with
          | (some b, s) => s.memAnswer (.data b)
          | (none, s) => s.memAnswer .poison

/-- PRODUCER_LINE_WRITE (R365, R366): the host writes the producer line of ring r: in host memory the device's copy is
invalidated, in device memory the line takes the data and the ring is pending. -/
def execProducerLineWrite (r : RingId) (data : Bytes) (s : State) : Host.Outcome State Fault Refusal :=
  if s.ringLocal r then
    if s.port.up ∧ bitOf (s.reg rCXL_HSTAT) 19 ∧ s.isExposed (s.plAddr r) 64 ∧ 1 ≤ data.length ∧ data.length ≤ 64 then
      .next (s.serveHost (s.plAddr r) 0 (.write data) [])
    else .next s
  else .next (s.setRing r { s.ring r with cached := false })

/-- CXLMEM_REQUEST (R355, R359 to R362): a host request for the line of a device physical address; a write gives bytes of that line, from the
address on. Before Mem_Active, beyond the exposed ranges
and in the filter's directory a read returns poison and a write is discarded. A request that must wait leaves the last answer and is
made again. -/
def execCxlmemRequest (addr : Word) : MemReq → State → Host.Outcome State Fault Refusal
  | ⟨op, errs⟩, s =>
  let dpa := addr.toNat - addr.toNat % 64
  let bad : MemAns := match op with
    | .write _ => .done
    | _ => .poison
  let ok : Bool := match op with
    | .write b => decide (1 ≤ b.length) && decide (addr.toNat % 64 + b.length ≤ 64)
    | _ => true
  if !s.port.up ∨ !ok then .next s
  else if !bitOf (s.reg rCXL_HSTAT) 19 then .next { s with port := { s.port with ans := bad } }
  else match dpaIn s.exposed dpa with
    | none => .next (s.memAnswer bad)
    | some a =>
      if snoopDir ≤ a ∧ a < snoopDir + 0x200000 then .next (s.memAnswer bad) else .next (s.serveHost a (addr.toNat % 64) op errs)

/-- BISNP_RESPONSE (R360): the host answers a back-invalidate snoop of a line, with its data if they were dirty; BISnpInv removes its
copy. -/
def execBisnpResponse (addr : Word) (dirty : Option Bytes) (s : State) : Host.Outcome State Fault Refusal :=
  match dpaIn s.exposed (addr.toNat - addr.toNat % 64) with
  | none => .next s
  | some a =>
    match s.port.lines.find? (fun l => decide (l.line = a)) with
    | some ⟨_, some (inv, false), _⟩ =>
      let s := match dirty with
        | some b => if b.length = 64 then s.store a b else s
        | none => s
      let left := if inv then s.port.lines.filter (fun l => decide (l.line ≠ a))
        else s.port.lines.map (fun l => if l.line = a then { l with snoop := some (false, true) } else l)
      .next { s with port := { s.port with lines := left } }
    | _ => .next s

/-- BISNP_SLOW (R361): a snoop has been outstanding for more than 100 µs. -/
def execBisnpSlow (addr : Word) (s : State) : Host.Outcome State Fault Refusal :=
  match dpaIn s.exposed (addr.toNat - addr.toNat % 64) with
  | none => .next s
  | some a =>
    if s.port.lines.any (fun l => decide (l.line = a) && l.waits && decide (l.since + 100000 < s.ns)) then
      .next ((s.orReg rCXL_STATUS 2).record ⟨sevInfo, 16, 1, 0, 0, 0, a, 0, 0⟩)
    else .next s

/-- IDE_INTEGRITY_FAILURE (R364): a received flit fails its IDE check; its handling on the link is that of the CXL and PCIe
specifications, and a record is written. -/
def execIdeIntegrityFailure (stream : Fin 3) (s : State) : Host.Outcome State Fault Refusal :=
  if bitOf (s.reg rCXL_HSTAT) (20 + stream.val) then .next (s.record ⟨sevDegraded, 16, 0, 0, 0, 0, 0, 0, 0⟩) else .next s

end Sys2Proof.Machine
end

