-- ==== Sys2Proof/Machine/Image.lean ====
section
/-! DEFINITION. The Turca image as bring-up uses it: its parameters and their checks, routes, windows and peers, and sets of escape
tables (spec/14 R453 to R455, spec/15 R472, spec/08 R259, R260). -/

namespace Sys2Proof.Machine

/-! ## What a parameter may be (R453, spec/15 R472) -/

/-- A DIMM population that spec/09 R281 supports, in the layout of PEAT_Cc_CFG. -/
def dimmsOk (v : Word) : Bool :=
  let rate := field v 63 48
  let type := field v 13 12
  let dpc := field v 15 14
  let size := [32, 64, 96, 128, 256].contains (field v 27 19)
  let zero := decide (field v 47 28 = 0) && decide (field v 18 16 = 0) && decide (field v 11 0 = 0)
  zero && (decide (type = 0) ||
    (decide (type = 1) && size && ((decide (dpc = 1) && decide (4800 ≤ rate) && decide (rate ≤ 6400)) ||
      (decide (dpc = 2) && decide (4800 ≤ rate) && decide (rate ≤ 5600)))) ||
    (decide (type = 2) && size && decide (dpc = 1) && decide (8000 ≤ rate) && decide (rate ≤ 8800)))

/-- Capacity of a declared channel in GiB. -/
def chanGib (v : Word) : Nat := field v 15 14 * field v 27 19

/-- A range of hearth or of the peat address range, aligned to 256 MiB (spec/11 R358). -/
def exposeOk (v : Word) : Bool :=
  let lo := field v 19 0
  let hi := lo + field v 51 28
  decide (field v 62 52 = 0) && decide (field v 27 20 = 0) &&
  (!bitOf v 63 || (decide (lo < hi) && (decide (hi ≤ 0x1800) || (decide (0x2000 ≤ lo) && decide (hi ≤ 0x8000)))))

/-- A record with a KEY of R453, an INDEX and a VALUE in range, and no reserved bit set. -/
def paramOk (p : Param) : Bool :=
  let i := p.index.toNat
  let v := p.value.toNat
  match p.key.toNat with
  | 0x01 => decide (i = 0) && decide (v < 2 ^ 16)
  | 0x02 => decide (i < 8)
  | 0x10 => decide (i = 0) && decide (6400 ≤ v) && decide (v ≤ 10000) && decide (v % 400 = 0)
  | 0x11 => decide (i < 12) && dimmsOk p.value
  | 0x12 => decide (i = 0) && decide (field p.value 31 0 + field p.value 63 32 ≤ 1536)
  | 0x13 => decide (i = 0) && (decide (field p.value 63 32 = 0) || (decide (2048 ≤ field p.value 31 0) && decide (field p.value 31 0 + field p.value 63 32 ≤ 8192)))
  | 0x14 => decide (i = 0) && decide (v % 65536 = 0) && decide (v < hearthBytes)
  | 0x15 => decide (i = 0) && decide (v + 16 ≤ 1536)
  | 0x16 => decide (i < 4) && exposeOk p.value
  | 0x20 => decide (i = 0) && decide (50 ≤ v) && decide (v ≤ 625)
  | 0x21 => decide (i = 0) && decide (v ≤ 1)
  | 0x22 => decide (i = 0) && decide (10 ≤ v) && decide (v ≤ 4000000)
  | 0x23 => decide (i = 0) && decide (1 ≤ v) && decide (v < 2 ^ 32)
  | 0x30 => decide (i < 12) && decide (v < 512) && decide (field p.value 2 2 = 0) && decide (field p.value 7 6 ≠ 3) && decide (field p.value 5 4 ≠ 3)
  | 0x31 => decide (i < 12) && decide (v < 2 ^ 48)
  | 0x32 => decide (i = 0) && spanCtrlOk 2 p.value
  | _ => false

/-- Number of blocks that a pool of two ranges names (spec/09 R291). -/
def poolBlocks (h p : Word) : Nat := (field h 63 32 + field p 63 32) * 16384

/-- Two ranges of bytes have no byte in common. -/
def apart (x y : Nat × Nat) : Bool := decide (x.2 = 0) || decide (y.2 = 0) || decide (x.1 + x.2 ≤ y.1) || decide (y.1 + y.2 ≤ x.1)

/-- Hearth pool range, context block map and ember area that parameters declare: first byte and size. -/
def hearthAreas (h p map ember : Word) : List (Nat × Nat) :=
  [(field h 31 0 * 2 ^ 30, field h 63 32 * 2 ^ 30), (map.toNat, 8 * poolBlocks h p), (ember.toNat * 2 ^ 30, 2 ^ 34)]

/-- A PARAMS section that passes R454. -/
def paramsOk (ps : List Param) : Bool :=
  let get (k : Nat) : Word := (paramIn ps k 0).getD 0
  let areas := hearthAreas (get 0x12) (get 0x13) (get 0x14) (get 0x15)
  let dimms := (ps.filter (fun p => decide (p.key = 0x11) && decide (field p.value 13 12 ≠ 0))).map (fun p => chanGib p.value)
  ps.all paramOk && decide ((ps.map (fun p => (p.key, p.index))).Nodup) &&
  [0x01, 0x10, 0x15].all (fun k => (paramIn ps k 0).isSome) && (decide (poolBlocks (get 0x12) (get 0x13) = 0) || (paramIn ps 0x14 0).isSome) &&
  areas.all (fun a => decide (a.1 + a.2 ≤ hearthBytes)) &&
  (List.range 3).all (fun i => (List.range i).all (fun j => apart (areas.getD i (0, 0)) (areas.getD j (0, 0)))) &&
  dimms.all (fun x => decide (x = dimms.headD 0))

/-- ROUTES, WINDOWS and ETHPEERS that pass R455. -/
def tablesOk (i : TurcaImage) : Bool :=
  decide ((i.routes.map (fun r => r.1)).Nodup) && decide ((i.windows.map (fun w => w.1)).Nodup) && decide ((i.ethpeers.map (fun e => e.1)).Nodup) &&
  i.windows.all (fun w => !(bitOf w.2.2.2 63 && decide (field w.2.2.2 62 61 = 0) && decide (field w.2.2.1 47 0 ≤ field w.2.1 47 0)))

/-! ## Image slots as flash holds them (R451, R452, spec/15 R474) -/

/-- An entry of the section directory (R451): TYPE, OFFSET, LENGTH and the section's digest. -/
structure ImgSection where
  type   : Nat
  offset : Nat
  length : Nat
  digest : Bytes
  deriving DecidableEq, Repr

/-- The directory entries in use. -/
def imgSections (b : Bytes) : List ImgSection :=
  (List.range (leAt b 6 2)).map (fun i => ⟨leAt b (64 + 48 * i) 4, leAt b (68 + 48 * i) 4, leAt b (72 + 48 * i) 4, (b.drop (80 + 48 * i)).take 32⟩)

/-- Bytes of a section. -/
def sectionBytes (b : Bytes) (x : ImgSection) : Bytes := (b.drop x.offset).take x.length

/-- The section of a type; none where the image has no such section. -/
def sectionOf (b : Bytes) (type : Nat) : Bytes :=
  (((imgSections b).find? (fun x => decide (x.type = type))).map (sectionBytes b)).getD []

/-- Check 4 of R452: the directory within LENGTH, sections aligned and apart, from the header too, counts as the table gives them, and no
reserved TYPE. -/
def directoryOk (b : Bytes) : Bool :=
  let xs := imgSections b
  let len := leAt b 8 4
  let count (t : Nat) : Nat := xs.countP (fun x => decide (x.type = t))
  decide (1 ≤ xs.length) && decide (xs.length ≤ 16) && decide (1024 ≤ len) && decide (len ≤ 24 * 2 ^ 20) &&
  xs.all (fun x => decide (x.offset % 4096 = 0) && decide (1024 ≤ x.offset) && decide (x.offset + x.length ≤ len) && decide (1 ≤ x.type) && decide (x.type ≤ 5)) &&
  (List.range xs.length).all (fun i => (List.range i).all (fun j =>
    let p := xs.getD i ⟨0, 0, 0, []⟩
    let q := xs.getD j ⟨0, 0, 0, []⟩
    apart (p.offset, p.length) (q.offset, q.length))) &&
  decide (count 1 = 1) && decide (count 2 ≤ 1) && decide (count 3 ≤ 1) && decide (count 4 ≤ 1) && decide (count 5 = 1)

/-- Check 5 of R452: the digest of each section. -/
def digestsOk (b : Bytes) : Bool := (imgSections b).all (fun x => decide (Config.sm3 (sectionBytes b x) = x.digest))

/-- Records of n bytes each. -/
def recordsOf (n : Nat) (b : Bytes) : List Bytes := (List.range (b.length / n)).map (fun i => (b.drop (n * i)).take n)

/-- Words of a record from byte i on. -/
def wordAt (r : Bytes) (i : Nat) : Word := BitVec.ofNat 64 (leAt r i 8)

/-- The parts of an image (R451, spec/15 R474). -/
def parseImage (b : Bytes) : TurcaImage :=
  let f := sectionOf b 5
  { params := (recordsOf 16 (sectionOf b 1)).map (fun r => ⟨BitVec.ofNat 32 (leAt r 0 4), BitVec.ofNat 32 (leAt r 4 4), wordAt r 8⟩)
    routes := (recordsOf 16 (sectionOf b 2)).map (fun r => (BitVec.ofNat 16 (leAt r 0 2), wordAt r 8))
    windows := (recordsOf 32 (sectionOf b 3)).map (fun r => (BitVec.ofNat 12 (leAt r 0 2), wordAt r 8, wordAt r 16, wordAt r 24))
    ethpeers := (recordsOf 16 (sectionOf b 4)).map (fun r => (BitVec.ofNat 12 (leAt r 0 2), wordAt r 8))
    wsvn := BitVec.ofNat 8 (leAt f 6 1), fsvn := BitVec.ofNat 8 (leAt f 7 1)
    header := b.take 1024, wext := (f.drop (leAt f 8 4)).take (leAt f 12 4), fimg := (f.drop (leAt f 16 4)).take (leAt f 20 4) }

/-- Check 6 of R452: PARAMS under R454, the other tables under R455, whole records, and windows and peers that exist. -/
def sectionsOk (b : Bytes) : Bool :=
  let i := parseImage b
  paramsOk i.params && tablesOk i && decide ((sectionOf b 1).length % 16 = 0) && decide ((sectionOf b 2).length % 16 = 0) &&
  decide ((sectionOf b 3).length % 32 = 0) && decide ((sectionOf b 4).length % 16 = 0) &&
  ((recordsOf 32 (sectionOf b 3)) ++ (recordsOf 16 (sectionOf b 4))).all (fun r => decide (leAt r 0 2 < 4096))

/-- The key that signs Turca images, when OTP holds its hash: the customer's in the state OWNED, else the Vygal default (R452, spec/15 R473). -/
def State.imageKey (s : State) : Option Bytes :=
  let owned := decide (s.lifecycle = 3)
  let k := if owned then tread zeroByte s.otp 0x60 64 else Config.imageKey
  if Config.sm3 k = tread zeroByte s.otp (if owned then 0xA0 else 0x40) 32 then some k else none

/-- Check 3 of R452: the signature over the header. -/
def State.imageSigned (s : State) (b : Bytes) : Bool :=
  match s.imageKey with
  | some k => Config.sm2Verify k (Config.sm3 (b.take 960)) ((b.drop 960).take 64)
  | none => false

/-- The Vygal firmware key: the key of boot ROM whose hash equals VROOT and whose REVOKE bit is clear (spec/15 R474). -/
def State.firmwareKey (s : State) : Option Bytes :=
  (Config.romKeys.zipIdx.find? (fun x => decide (Config.sm3 x.1 = tread zeroByte s.otp 0x20 32) && !(s.otpWord 0x118).testBit x.2)).map (fun x => x.1)

/-- The reason code of an image slot: the first check of R452 that fails, 0 when it passes. -/
def State.slotReason (s : State) (b : Bytes) : Nat :=
  if leAt b 0 4 ≠ 0x41435254 ∨ leAt b 4 2 ≠ 1 then 1
  else if field (wordAt b 12) 63 48 < s.otpBits 0x100 16 then 2
  else if !s.imageSigned b then 3
  else if !directoryOk b then 4
  else if !digestsOk b then 5
  else if !sectionsOk b then 6
  else 0

/-- Floors of the Warden extension and of Forester (spec/15 R474). -/
def State.fwFloor (s : State) (forester : Bool) : Nat := s.otpBits (if forester then 0x114 else 0x110) 4

/-- A FORESTER section passes its own signature check (spec/15 R474). -/
def State.foresterOk (s : State) (f : Bytes) : Bool :=
  let inside (off len most : Nat) : Bool := decide (1 ≤ len) && decide (len ≤ most) && decide (off + len ≤ f.length)
  let part (off len : Nat) : Bytes := f.take 64 ++ (f.drop off).take len
  decide (leAt f 0 4 = 0x54464F52) && decide (leAt f 4 2 = 1) && inside (leAt f 8 4) (leAt f 12 4) 0x8000 && inside (leAt f 16 4) (leAt f 20 4) 0x800000 &&
  (match s.firmwareKey with
    | some k => Config.sm2Verify k (Config.sm3 (part (leAt f 8 4) (leAt f 12 4))) ((f.drop 64).take 64) &&
        Config.sm2Verify k (Config.sm3 (part (leAt f 16 4) (leAt f 20 4))) ((f.drop 128).take 64)
    | none => false) &&
  decide (s.fwFloor false ≤ leAt f 6 1) && decide (s.fwFloor true ≤ leAt f 7 1)

/-- Logical core n is withheld (R453). -/
def State.isWithheld (s : State) (n : Nat) : Bool := bitOf ((s.param 0x02 (n / 64)).getD 0) (n % 64)

/-! ## Escape tables (spec/08 R259, R260) -/

/-- The entry toward position q of router p in a table set of 165,952 bytes. -/
def setEntry (b : Bytes) (p q : Nat) : Nat := leAt b (64 + 288 * p + q / 2) 1 / (if q % 2 = 0 then 1 else 16) % 16

/-- A table set whose header, codes and own entries are right (R260). -/
def escSetOk (b : Bytes) : Bool :=
  decide (b.length = 165952) && decide (leAt b 0 4 = 0x45534354) && decide (leAt b 4 2 = 1) && zeroIn b 6 8 && zeroIn b 12 64 &&
  decide (leAt b 8 4 = (crc32 (b.drop 64)).toNat) &&
  (List.range 576).all (fun p => (List.range 576).all (fun q => decide (setEntry b p q ≤ 5)) && decide (setEntry b p p = 5))

/-- A table set installed: the tables of routers that are off are not, and packets on the escape channels finish under the old set (R259, R260). -/
def State.installEsc (s : State) (b : Bytes) : State :=
  ({ s with escNew := some (((List.range 576).filter (fun p => (s.slot p).routerOn)).foldl (fun t p =>
    (List.range 576).foldl (fun t q => tset escDefault t (p * 1024 + q) (setEntry b p q)) t) s.esc, true) } : State).escSettle

/-- No port of a router that is on is DOWN. -/
def State.allPortsUp (s : State) : Bool := (List.range 576).all (fun p => (List.range 6).all (fun i => (linkTo p i).isNone || !s.portDown p i))

/-- The escape tables held meet R259 of spec/08: dimension-order routes do when no port is DOWN. -/
def State.escKept (s : State) : Bool := (s.esc.isEmpty && s.escNew.isNone && s.allPortsUp) || s.escRouted s.escape

end Sys2Proof.Machine
end

