-- ==== Sys2Proof/Machine/Boot.lean ====
section
/-! DEFINITION. Bring-up and resets (spec/14 R445 to R468, spec/13 R443, spec/16 R502 to R504). -/

namespace Sys2Proof.Machine

/-! ## Stages (R446, R447) -/

/-- Bring-up has stopped (R447). -/
def State.bootFailed (s : State) : Bool := bitOf (s.reg rBOOT_STAGE) 3

/-- The module is powered and has not tripped. -/
def State.powered (s : State) : Bool := s.boot.pwrgd && !s.boot.dead

/-- Bring-up stands at stage k and may go on. -/
def State.atStage (s : State) (k : Nat) : Bool := s.powered && s.stage0 && decide (s.stage = k) && !s.bootFailed

/-- Milliseconds since time zero of this bring-up, saturating at 16 bits (R445). -/
def State.bootMs (s : State) : Nat := min ((s.ns - s.boot.zero_) / 1000000) 65535

/-- Stage k is reached: BOOT_STAGE and BOOT_TIMES. -/
def State.reach (s : State) (k : Nat) : State :=
  let s := if k = 4 then s.setRegField rBOOT_TIMES 63 48 s.bootMs else s.setRegField rBOOT_TIMES (16 * k + 15) (16 * k) s.bootMs
  s.setRegField rBOOT_STAGE 2 0 k

/-- Bring-up stops (R447): FAILED with its cause, and a record of severity FATAL_DEVICE. -/
def State.bootFail (s : State) (code detail : Nat) : State :=
  let s := s.setReg rBOOT_STAGE (setField (setField (setBit (s.reg rBOOT_STAGE) 3 true) 15 8 code) 23 16 detail)
  s.record ⟨sevDevice, 19, 0, 0, 0, 0, 0, s.reg rBOOT_STAGE, 0⟩

/-- BOOT_RCAUSE written by a reset as it takes effect. -/
def State.resetCause (s : State) (kind src : Nat) : State :=
  s.setReg rBOOT_RCAUSE (BitVec.ofNat 64 (s.ns / 1000000 % 2 ^ 48 * 2 ^ 16 + src * 2 ^ 8 + kind))

/-! ## Power-good (R445, R503, R504) -/

/-- What outlives a loss of power: OTP, the flash journal, what lies outside the module, and the commands that wait. -/
def State.cold (s : State) : State :=
  { State.reset with pending := s.pending, freeIdx := s.freeIdx, hostMem := s.hostMem, otp := s.otp
                     port := { HostPort.zero with perst := s.port.perst }, wdn := { Wdn.zero with journal := s.wdn.journal } }

/-- POWER_GOOD_ASSERT (R445, R502): a new assertion of PWRGD is a cold start. -/
def execPowerGoodAssert (s : State) : Host.Outcome State Fault Refusal := if s.boot.pwrgd then .next s else .next s.cold

/-- POWER_GOOD_DEASSERT (R503, R504): every domain stops and all state is lost; outputs are high impedance. -/
def execPowerGoodDeassert (s : State) : Host.Outcome State Fault Refusal := .next { s.cold with boot := { Boot.zero with pwrgd := false } }

/-- The module stops as on a loss of PWRGD that only a new assertion clears. -/
def State.stopAll (s : State) (fault trip : Bool) : State :=
  { s.cold with boot := { Boot.zero with dead := true, faultLow := fault, tripLow := trip } }

/-- RAIL_FAULT (R503): a rail has left its range for more than 10 µs while PWRGD is asserted: the module acts as if PWRGD had been deasserted
and holds FAULT_N low while V1P8, rail 7, lasts. -/
def execRailFault (rail : Fin 8) (s : State) : Host.Outcome State Fault Refusal :=
  if s.boot.pwrgd then .next (s.stopAll (decide (rail.val ≠ 7)) s.boot.tripLow) else .next s

/-- CXL_TRAINING_START (R448): at PERST# deassertion or 20 ms after power-good, whichever is later. -/
def execCxlTrainingStart (s : State) : Host.Outcome State Fault Refusal :=
  if s.powered ∧ !s.port.perst ∧ (s.boot.warm ∨ s.boot.zero_ + 20000000 ≤ s.ns) then .next { s with boot := { s.boot with training := true } } else .next s

/-- STAGE_0 (R446, R447, R505): boot ROM runs, VCORE is regulated and the Stage 0 interface answers; when it cannot be reached, the module
asserts its fault contact. -/
def execStage0 (ok : Bool) (s : State) : Host.Outcome State Fault Refusal :=
  if !s.powered ∨ s.stage0 then .next s
  else if !ok then .next { s with boot := { s.boot with faultLow := true } }
  else
    let s := { s with boot := { s.boot with stage0 := true } }
    let s := (List.range 4).foldl (fun s d => s.setRegField (dieKey d rPWR_VCORE) 29 16 750) s
    .next (s.reach 0)

/-! ## Stage 1 (R449 to R455, spec/13 R443, spec/15 R469, R471, R475) -/

/-- Journal records after `prev` that continue the chain and verify (spec/15 R486). -/
def chained (prev : JRec) : List JRec → List JRec
  | [] => []
  | r :: rest =>
    if r.seq = prev.seq + 1 ∧ r.prev = Config.sm3 prev.head ∧ r.sig = Config.sm2Sign (Config.sm3 r.head) then r :: chained r rest else []

/-- The journal up to the first record that fails its signature or chain check (spec/15 R486). -/
def goodJournal : List JRec → List JRec
  | [] => []
  | r :: rest => if r.sig = Config.sm2Sign (Config.sm3 r.head) then r :: chained r rest else []

/-- The journal as bring-up reads it: a bad record ends it, and JBROKEN is set (spec/15 R486). -/
def State.readJournal (s : State) : State :=
  let j := goodJournal s.wdn.journal
  { s with wdn := { s.wdn with journal := j, jbroken := decide (j.length < s.wdn.journal.length) } }

/-- The defect map entries that OTP and the journal hold, in the order in which they apply (spec/15 R485). -/
def State.storedDefects (s : State) : List Word :=
  let gens := (List.range 4).flatMap (fun g => (List.range 127).map (fun w => s.otpWord (genWord g (w + 1))))
  (gens.filter (fun e => decide (e ≠ 0))).map (BitVec.ofNat 64) ++
    ((s.wdn.journal.filter (fun r => decide (r.type = 1))).map (fun r => BitVec.ofNat 64 (leAt r.body 0 8)))

/-- Position that POS of an entry names. -/
def entryPos (e : Word) : Nat := field e 59 58 * 144 + field e 57 54 * 9 + field e 53 50

/-- One entry applied to its slot (R443). -/
def State.applyDefect (s : State) (e : Word) : State :=
  let p := entryPos e
  if 576 ≤ p then s
  else match field e 63 60 with
    | 1 => s.modSlot p (fun x => { x with service := svcFenced, on := false, iso := true, cells := [] })
    | 2 => s.modSlot p (fun x => { x with service := svcCinder, on := false, iso := true })
    | 5 => s.modSlot p (fun x => { x with cells := x.cells ++ [field e 40 30] })
    | 7 => s.modSlot p (fun x => { Slot.initial p with cells := [], passes := x.passes })
    | _ => s

/-- The soft repairs of the defect map (R443): they enter ARR_REPAIR, and a slot whose union with the fuses exceeds the spares is FENCED. -/
def State.applyRepairs (s : State) : State :=
  let named := ((s.dmap.filter (fun e => decide (field e 63 60 = 3) || decide (field e 63 60 = 4))).map entryPos).eraseDups.filter (fun p => decide (p < 576))
  named.foldl (fun s p =>
    let ws := (List.range 4).map (fun a => s.mapRepair p a)
    let s := s.setRepairs p ws
    if ws.zipIdx.any (fun x => overSpares x.1 (Config.arrFuse p x.2)) then s.modSlot p (fun x => { x with service := svcFenced, on := false, iso := true })
    else s) s

/-- Fenced slots with recorded cells are fenced conditionally where R417 allows it (R443). -/
def State.applyCells (s : State) : State :=
  (List.range 576).foldl (fun s p =>
    let x := s.slot p
    if x.service = svcFenced ∧ x.cells ≠ [] ∧ x.cells.length ≤ 4 ∧ s.lostCount (p / 9) = 1 then
      s.setSlot p { x with service := svcCond, on := true, failCells := x.cells } else s) s

/-- The defect map applied (R443). -/
def State.applyDefects (s : State) : State :=
  let s := s.readJournal
  let s := { s with dmap := s.storedDefects }
  ((s.dmap.foldl State.applyDefect s).applyRepairs).applyCells

/-- A register set by a parameter when one is in force. -/
def State.setParam (s : State) (key idx reg : Nat) (f : Word → Word) : State :=
  match s.param key idx with
  | some v => s.setReg reg (f v)
  | none => s

/-- The parameters written to their registers (R453). -/
def State.applyParams (s : State) : State :=
  let s := s.setParam 0x01 0 rSPAN_IDENT (fun v => setBit v 63 true)
  let s := (s.setRegField rSMD_CTRL 25 16 (s.paramN 0x20 0 100)).setRegField rSMD_CTRL 0 0 (s.paramN 0x21 0 1)
  let s := s.setRegField rSMD_EMBER 47 32 (s.paramN 0x15 0 0)
  let s := (List.range 12).foldl (fun s p =>
    let s := s.setReg (portKey p rRTL_Pp_CFG) (setField (s.reg (portKey p rRTL_Pp_CFG)) 8 0 (s.paramN 0x30 p 0))
    s.setParam 0x31 p (portKey p rRTL_Pp_MAC) (fun v => v)) s
  s.setParam 0x32 0 rSPAN_ETH (fun v => v)

/-- STAGE_1 (R446, R452, R453, spec/13 R443, spec/15 R471, R474): the Warden reads and judges the image slots `a` and `b`, takes one, verifies and
starts Forester, and applies OTP, defect map and parameters. -/
def execStage1 (otpOk : Bool) (a b : Bytes) (_u : Unit) (s : State) : Host.Outcome State Fault Refusal :=
  if !s.atStage 0 then .next s
  else if !otpOk then .next (s.bootFail 0x03 0)
  else
    let ra := s.slotReason a
    let rb := s.slotReason b
    let s := s.setReg rBOOT_IMAGE (BitVec.ofNat 64 (ra * 2 ^ 48 + rb * 2 ^ 52))
    if ra ≠ 0 ∧ rb ≠ 0 then .next (s.bootFail 0x01 (ra + rb * 16))
    else
      let useB := decide (ra ≠ 0) || (decide (rb = 0) && decide (leAt a 12 8 < leAt b 12 8))
      let img := if useB then b else a
      let seq := wordAt img 12
      let s := s.setReg rBOOT_IMAGE (setBit (setBit (setField (s.reg rBOOT_IMAGE) 47 0 (field seq 47 0)) 63 useB) 62 (useB && decide (ra ≠ 0)))
      if !s.foresterOk (sectionOf img 5) then .next (s.bootFail 0x02 0)
      else
        let s := { s with boot := { s.boot with image := some (parseImage img), imgSeq := seq }
                          wdn := { s.wdn with beatAt := s.ns, restarts := [], restarting := false } }
        .next ((s.applyDefects.applyParams).reach 1)

/-! ## Stage 2 (R456, R457, spec/09 R277, R278, R282, R290, R291, spec/10 R311, spec/11 R358, spec/15 R491, R492) -/

/-- The stacks as trained (spec/09 R277, R278). -/
def State.bringHearth (s : State) (r : Stage2Report) : State :=
  let rate := s.paramN 0x10 0 0
  (List.range 12).foldl (fun s k =>
    let spare := ((r.hbmSpares.getD k 0).toNat)
    let s := s.setReg (stackKey k rHTH_Ss_STATE) (BitVec.ofNat 64 (rate * 2 ^ 32 + spare * 2 ^ 16 + 3))
    if bitOf r.hbmOut k then s.orReg (dieKey (k / 3) rHTH_STATUS) (2 ^ (4 * (k % 3) + 3)) else s) s

/-- The peat channels as trained (spec/09 R282): those that failed are excluded, and a record is written for each. -/
def State.bringPeat (s : State) (bad : BitVec 12) : State :=
  (List.range 12).foldl (fun s k =>
    let v := (s.param 0x11 k).getD 0
    if field v 13 12 = 0 then s
    else
      let cfg := field v 63 48 * 2 ^ 48 + chanGib v * 2 ^ 28 + field v 27 12 * 2 ^ 12
      if bitOf bad k then
        ((s.setReg (chanKey k rPEAT_Cc_CFG) (BitVec.ofNat 64 (cfg + 4))).orReg (dieKey (k / 3) rPEAT_STATUS) (2 ^ (8 * (k % 3) + 3))).record
          ⟨sevDegraded, 12, 8 * (k % 3) + 3, 5, k, 0, 0, 0, 0⟩
      else
        let s := s.setReg (chanKey k rPEAT_Cc_CFG) (BitVec.ofNat 64 (cfg + 11))
        { s with pool := { s.pool with chans := s.pool.chans ++ [k], chanBytes := chanGib v * 2 ^ 30 } }) s

/-- A span lane that meets R456. -/
def lanePasses (l : Bool × BitVec 8 × BitVec 48) : Bool := decide (l.2.2.toNat ≤ 102000000) && decide (l.2.1 = 0)

/-- The enabled span ports as measured (R456, spec/10 R311): BOOT_SPANLANEl, widths and DOWN ports. -/
def State.bringPorts (s : State) (r : Stage2Report) : State :=
  let lane (l : Nat) : Bool × BitVec 8 × BitVec 48 := r.lanes.getD l (false, 0, 0)
  (List.range 12).foldl (fun s p =>
    if !bitOf (s.reg (portKey p rRTL_Pp_CFG)) 0 then s
    else
      let s := (List.range 4).foldl (fun s i =>
        let x := lane (4 * p + i)
        s.setReg (rBOOT_SPANLANEl + 8 * (4 * p + i)) (BitVec.ofNat 64 (b2n (lanePasses x) * 2 ^ 63 + b2n x.1 * 2 ^ 62 + 2 ^ 61 + x.2.1.toNat * 2 ^ 48 + x.2.2.toNat))) s
      let pass := (List.range 4).foldl (fun m i => if lanePasses (lane (4 * p + i)) then m + 2 ^ i else m) 0
      let s := s.trained p pass
      if s.portState p = 3 then s.setRegField rBOOT_LINKS (9 + p) (9 + p) 1
      else if pass ≠ 15 then s.count rBOOT_LINKS 3 0 1 else s) s

/-- The pool as the image declares it against the memory there is (spec/09 R290, R291). -/
def State.bringPool (s : State) : State :=
  let h := (s.param 0x12 0).getD 0
  let p := (s.param 0x13 0).getD 0
  let top := (peatBase + s.peatBytes) / 2 ^ 30
  let lo := field p 31 0
  let size := min (field p 63 32) (top - lo)
  let s := (s.setReg rTIER_HPOOL h).setReg rTIER_PPOOL (BitVec.ofNat 64 (size * 2 ^ 32 + (if size = 0 then 0 else lo)))
  let s := s.setReg rTIER_MAP ((s.param 0x14 0).getD 0)
  let s := if size < field p 63 32 then s.orReg rTIER_STATUS 16 else s
  { s with tierMap := []
           pool := { s.pool with hbase := field h 31 0 * 2 ^ 30, hsize := field h 63 32 * 2 ^ 30, pbase := if size = 0 then 0 else lo * 2 ^ 30, psize := size * 2 ^ 30
                                 map := s.paramN 0x14 0 0 } }

/-- The exposed ranges laid against populated memory (spec/11 R358). -/
def State.bringRanges (s : State) : State :=
  let top := (peatBase + s.peatBytes) / 2 ^ 28
  (List.range 4).foldl (fun s i =>
    match s.param 0x16 i with
    | none => s
    | some v =>
      if !bitOf v 63 then s
      else
        let lo := field v 19 0
        let size := if lo < 0x1800 then field v 51 28 else min (field v 51 28) (top - lo)
        let s := if size < field v 51 28 then s.orReg rCXL_STATUS 32 else s
        if size = 0 then s else s.setReg (rCXL_MEMRANGEi + 8 * i) (setField v 51 28 size)) s

/-- FAIL_DETAIL of LAYOUT, when an item does not lie where it shall: hearth for the map and the ember area, and clear of the error log ring
and the snoop directory for the pool as well (R456, spec/15 R491). -/
def State.layoutFault (s : State) : Option Nat :=
  let areas := hearthAreas ((s.param 0x12 0).getD 0) ((s.param 0x13 0).getD 0) ((s.param 0x14 0).getD 0) ((s.param 0x15 0).getD 0)
  (List.range 3).findSome? (fun i =>
    let a := areas.getD i (0, 0)
    if decide (hearthBytes < a.1 + a.2) || !apart a (snoopDir, hearthBytes - snoopDir) then some (i + 1) else none)

/-- The records held before Stage 2 enter the error log ring (spec/15 R492). -/
def State.flushEarly (s : State) : State :=
  (s.early.foldl (fun s bs => s.logStore (leAt bs 8 8) bs) s)

/-- STAGE_2 (R446, R447, R456, R457): memories trained and links measured, pool, map and exposed ranges laid out, Mem_Active set. -/
def execStage2 (rep : Stage2Report) (s : State) : Host.Outcome State Fault Refusal :=
  if !s.atStage 1 then .next s
  else match rep.hbmTrainFail with
    | some k => .next (s.bootFail 0x10 k)
    | none => match rep.hbmLaneFail with
      | some k => .next (s.bootFail 0x11 k)
      | none => match s.seamsUnfit rep.seamBad with
        | some k => .next (s.bootFail 0x12 k)
        | none =>
          let s := s.repairSeams rep.seamBad
          let s := ((s.bringHearth rep).bringPeat rep.peatBad).bringPorts rep
          let spares := min ((rep.hbmSpares.map (fun x => x.toNat)).sum) 255
          let excluded := ((List.range 12).filter (fun k => bitOf (s.reg (chanKey k rPEAT_Cc_CFG)) 2)).foldl (fun m k => m + 2 ^ k) 0
          let s := (((s.setRegField rBOOT_LINKS 51 51 (b2n rep.cxlReduced)).setRegField rBOOT_LINKS 50 39 excluded).setRegField rBOOT_LINKS 38 31 spares).setRegField
            rBOOT_LINKS 30 21 (min s.seamRepairs 1023)
          let s := if rep.cxlReduced then s.record ⟨sevDegraded, 19, 0, 0, 0, 0, 0, 0, 0⟩ else s
          match s.layoutFault with
          | some k => .next (s.bootFail 0x13 k)
          | none =>
            let s := ((s.bringPool.bringRanges).orReg rTIER_STATUS 512).reach 2
            .next ({ s.flushEarly with early := [] }.setRegField rCXL_HSTAT 19 19 1)

/-! ## Stage 3 (R458, R459, spec/13 R414, R441, R443, spec/15 R469, R470) -/

/-- State of management processor k in MGT_MP: 0 Forester, 1 Warden, 2 under test, 3 out of service. -/
def State.mp (s : State) (k : Nat) : Nat := s.regField rMGT_MP (2 * k + 1) (2 * k)
/-- State of a management processor set. -/
def State.setMp (s : State) (k v : Nat) : State := s.setRegField rMGT_MP (2 * k + 1) (2 * k) v

/-- The Warden moves to processor k (spec/15 R469): WDN_STATUS names its die and number. -/
def State.moveWarden (s : State) (from_ k : Nat) : State := ((s.setMp from_ 0).setMp k 1).setRegField rWDN_STATUS 15 12 k

/-- A slot leaves a full pass without migration as R417 of spec/13 states (R443, R458): FENCED, or a condition cell more. -/
def State.failAtBoot (s : State) (p : Nat) : State :=
  let x := s.slot p
  let cell := s.cellOf p
  if x.service = svcFenced then
    s.setSlot p { x with failCells := if x.failCells.contains cell then x.failCells else x.failCells ++ [cell], streak := 0 }
  else if x.service = svcCond ∧ x.cells.length < 4 then (s.setSlot p { x with cells := x.cells ++ [cell] }).journal 5 p (cell * 2 ^ 30)
  else
    let s := s.setSlot p { x with service := svcFenced, on := false, iso := true, condActive := false, watchAt := s.ns, streak := 0, repaired := false
                                  failCells := (if x.service = svcCond then x.cells else []) ++ [cell] }
    let s := (rowSlots (p / 9)).foldl (fun s y => if y ≠ p ∧ (s.slot y).service = svcCond then
      s.modSlot y (fun z => { z with service := svcFenced, on := false, condActive := false }) else s) s
    (s.smdStat 3).journal 1 p 0

/-- One failing slice of a full pass (R458): a repair is attempted (spec/13 R422), and without one, or when the slice fails again, the slot fails
and joins the list. -/
def State.bootFault (s : State) (failed : List Nat) (f : SlotFail) : State × List Nat :=
  let p := f.slot.val
  if (s.slot p).service = svcCinder then (s, failed)
  else
    let s := ((s.count rSMD_CNT 31 0 1).smdStat 0).modSlot p (fun y => { y with fails := satAdd 16 y.fails 1 })
    let s := s.testRecord p f.slice 1 false
    match if f.slice.val < 16 then s.repairSlice p (f.slice.val / 4) f.cells else none with
    | some s => if f.still then (s.failAtBoot p, p :: failed) else (s, failed)
    | none => (s.failAtBoot p, p :: failed)

/-- Slot p passes every slice and the march of a full pass. -/
def State.bootPass (s : State) (p : Nat) : State :=
  let cell := s.cellOf p
  (s.modSlot p (fun y => { y with
    passes := satAdd 16 y.passes 1, passedAt := some s.ns
    streak := if y.service = svcFenced ∧ !y.failCells.contains cell then y.streak + 1 else y.streak })).testRecord p 48 0 false

/-- A router fails its slices there (R441): CINDER, its ports DOWN. -/
def State.routerAtBoot (s : State) (p : Nat) : State :=
  let x := s.slot p
  let s := (List.range 6).foldl (fun s i => s.markPort p i true) (s.smdStat 12)
  let s := (s.setSlot p { x with service := svcCinder, on := false, iso := true, routerOn := false }).routerLost p
  if x.service = svcCinder then s else (s.smdStat 3).journal 2 p 0

/-- The full pass of every slot that is not CINDER (R443, R458): 40 compute and 8 router slices, two at a time, and the march. The signature of a
slot's last slice is a free value: the spec gives no order of the pairs. -/
def State.bootTest (s : State) (bad : List SlotFail) (routers : List PhysId) : State :=
  let tested := (List.range 576).filter (fun p => decide ((s.slot p).service ≠ svcCinder))
  let s := tested.foldl (fun s p =>
    let (w, s) := s.fresh
    s.modSlot p (fun x => { x with passNo := x.passNo + 1, sig := w, dueAt := s.ns, first := false })) (s.count rSMD_CNT 63 32 (48 * tested.length))
  let (s, failed) := bad.foldl (fun q f => q.1.bootFault q.2 f) (s, [])
  let s := tested.foldl (fun s p => if failed.contains p then s else s.bootPass p) s
  routers.foldl (fun s (p : PhysId) => s.routerAtBoot p.val) s

/-- The resting slot of a row with no slot FENCED or CINDER and no active condition: the one it has, else the one it last had, or the end of the
row where that slot is FENCED_COND. -/
def State.restingOf (s : State) (r : Nat) : Nat :=
  match s.resting r with
  | some g => g
  | none => let g := (s.row r).rest; if (s.slot (r * 9 + g)).service ≠ svcCond then g else if g = 8 then 7 else 8

/-- U of row r under R414. -/
def State.buildU (s : State) (r : Nat) : Nat :=
  let lost := s.lostMask r
  if lost ≠ 0 then lost
  else match (List.range 9).find? (fun i => decide ((s.slot (r * 9 + i)).service = svcCond) && (s.slot (r * 9 + i)).condActive) with
    | some i => 2 ^ i
    | none => 2 ^ s.restingOf r

/-- The map built under R414: the withheld columns, U, and the slots that hold a core released and in service. -/
def State.buildMap (s : State) : State :=
  let s := s.cores.foldl (fun s e => s.gatherFlush e.1) s
  (List.range 64).foldl (fun s r =>
    let s := (rowSlots r).foldl (fun s p =>
      let x := s.slot p
      if x.service = svcCond then s.setSlot p { x with condActive := x.cells.any (fun y => cellNear (s.cellOf p) y) } else s) s
    let w := (List.range 8).foldl (fun m c => if s.isWithheld (r * 8 + c) then m + 2 ^ c else m) 0
    let s := s.placeRow r { RowMap.initial with u := BitVec.ofNat 9 (s.buildU r), withheld := BitVec.ofNat 8 w, rest := (s.row r).rest }
    (rowSlots r).foldl (fun s p =>
      let x := s.slot p
      let holds := (s.holder p).isSome
      if x.lost then s.setSlot p { x with on := false, iso := true, rst := false }
      else
        let svc := if x.service = svcWatch ∨ x.service = svcCond then x.service else if holds then svcIn else svcStanding
        s.setSlot p { x with service := svc, on := true, iso := !holds, rst := false }) s) s

/-- Seeding of the span tables and of window 4,095 (R455, spec/15 R481, R489). -/
def State.seedSpan (s : State) : State :=
  match s.boot.image with
  | none => s
  | some i =>
    let s := i.routes.foldl (fun s r => s.routeWrite r.1 r.2) s
    let s := i.windows.foldl (fun s w => ((s.spanWindowWrite w.1.toNat 0 w.2.1).spanWindowWrite w.1.toNat 1 w.2.2.1).spanWindowWrite w.1.toNat 2 w.2.2.2) s
    let s := i.ethpeers.foldl (fun s e => s.regWrite (rSPAN_ETHPEERi + 8 * e.1.toNat) e.2) s
    let base : Word := BitVec.ofNat 64 kxBoxBase
    let s := ((s.setReg (rSPAN_WINw_BASE + 32 * 4095) base).setReg (rSPAN_WINw_LIMIT + 32 * 4095) (base + 0x1000))
    s.spanWindowWrite 4095 2 (BitVec.ofNat 64 (2 ^ 63 + 2 ^ 60 + 2 ^ 57 + 0xFF * 2 ^ 46))

/-- INCARN of every core drawn, NEXT 0 (R459, spec/12 R384). -/
def State.drawIncarns (s : State) : State :=
  (List.range 512).foldl (fun s n =>
    let (w, s) := s.fresh
    s.setSeal n { SealUnit.zero with incarn := BitVec.ofNat 16 w.toNat }) s

/-- A link came up reduced (R457). -/
def State.reduced (s : State) : Bool :=
  let v := s.reg rBOOT_LINKS
  bitOf v 51 || decide (field v 50 39 ≠ 0) || decide (field v 20 9 ≠ 0) || decide (field v 3 0 ≠ 0)

/-- Management processors that fail their test in Stage 3 leave service (R459, spec/15 R470); the Warden moves off one that does. -/
def State.bootMps (s : State) (bad : BitVec 16) : State :=
  let failing := (List.range 16).filter (fun k => bad.toNat.testBit k)
  let good (k : Nat) : Bool := !bad.toNat.testBit k && decide (s.mp k ≠ 3)
  let s := match failing.find? (fun k => decide (s.mp k = 1)), ([4, 5, 6, 7] ++ List.range 16).find? good with
    | some k, some j => s.moveWarden k j
    | _, _ => s
  failing.foldl (fun s k => (s.setMp k 3).record ⟨sevDegraded, 20, 0, 9, k, 0, 0, 0, 0⟩) s

/-- The first die none of whose management processors passes (R459). -/
def deadDie (bad : BitVec 16) : Option Nat := (List.range 4).find? (fun d => (List.range 4).all (fun i => bad.toNat.testBit (4 * d + i)))

/-- The tests of the rotation count from now on (spec/13 R427). -/
def State.startRotation (s : State) : State := (List.range 64).foldl (fun s r => s.setRow r { s.row r with stepAt := s.ns, up := false }) s

/-- STAGE_3 (R446, R447, R458, R459): `bad` are the failing slices, `routers` the slots that fail their router slices, `mps` the management
processors that fail; the Warden installs the escape tables of `esc`, which meet R259 of spec/08. The module is ready. -/
def execStage3 (bad : List SlotFail) (routers : List PhysId) (esc : EscPlan) (mps : BitVec 16) (s : State) :
    Host.Outcome State Fault Refusal :=
  if !s.atStage 2 then .next s
  else
    let s0 := s
    let s := ((s.bootTest bad routers).bootMps mps).buildMap
    let ready (s : State) : Host.Outcome State Fault Refusal :=
      match deadDie mps with
      | some d => .next (s.bootFail 0x21 d)
      | none =>
        let s := ((s.drawIncarns.seedSpan).reach 4).startRotation
        let s := { s with boot := { s.boot with readyAt := s.ns } }
        .next (if s.reduced then s.orReg rBOOT_STATUS 1 else s)
    match esc with
    | .keep => if s.escKept then ready s else .next s0
    | .tables b => if escSetOk b ∧ s.escRouted (setEntry b) then ready (s.installEsc b) else .next s0
    | .none_ d => if s.escKept then .next s0 else .next (s.bootFail 0x20 d)

/-! ## Module reset (R460, R461, R467, R468) -/

/-- Registers that a module reset keeps: the Stage 0 part, the totals that count from power-good and the mark that stays until a cold
start. -/
def State.keptByModule (s : State) : List (Nat × Word) :=
  [rCXL_MBCMD, rCXL_MBRES, rMGT_TIMESTEP].map (fun k => (k, s.reg k)) ++
  [(rCXL_HSTAT, BitVec.ofNat 64 (((s.regField rCXL_HSTAT 63 48 + 1) % 2 ^ 16) * 2 ^ 48 + s.regField rCXL_HSTAT 22 20 * 2 ^ 20 + s.regField rCXL_HSTAT 18 8 * 2 ^ 8)),
   (rMGT_TSTAT, s.reg rMGT_TSTAT &&& 0x200000000)]

/-- A module reset takes effect: everything is as after a cold start but for the Stage 0 interface, the time base and what lies outside
the module; the first record names the last SEQ issued before (spec/15 R492). -/
def State.moduleReset (s : State) (src : Nat) : State :=
  let seq := (s.reg rMGT_LOG).toNat
  let (last, s) : Word × State := if seq = 0 then s.fresh else (BitVec.ofNat 64 (seq - 1), s)
  let kept := s.keptByModule
  let z := s.cold
  let z := { z with time := s.time, port := { z.port with up := s.port.up }
                    boot := { Boot.zero with stage0 := true, zero_ := s.ns, warm := true, training := s.boot.training, fatals := s.boot.fatals }
                    wdn := { z.wdn with mbox := s.wdn.mbox } }
  let z := kept.foldl (fun z e => z.setReg e.1 e.2) z
  let z := (List.range 4).foldl (fun z d => z.setRegField (dieKey d rPWR_VCORE) 29 16 750) z
  ((z.resetCause 1 src)).record ⟨sevInfo, 19, 0, 0, 0, 0, 0, last, 0⟩

/-! ## Compute and core resets (R462 to R466) -/

/-- Every task of core n ends with TASK_RESET, and its end is reported; reservations are given up (R462, R465). -/
def State.endAllTasks (s : State) (n : Nat) : State :=
  (List.range 4).foldl (fun s t =>
    let k := s.task n t
    if k.reserved then
      (s.setTask n t k.last).modJob k.tag.toNat (fun j => { j with tasks := j.tasks.map (fun x => if x.core = n ∧ x.slot = some t then { x with slot := none } else x) })
    else if k.phase = .empty then s
    else (s.killTask n t).endReport n t) s

/-- The generation of each of the first k numbers, raised once. -/
def raisedAll (m : Tab (BitVec 8)) (k : Nat) : Tab (BitVec 8) :=
  (List.range k).foldl (fun g q => tset (fun _ => 0) g q (tget (fun _ => 0) m q + 1)) []

/-- Nothing of core n's compute domain is left but the generations of its queues and sheaves: each is one above what it was in `was`, the core
before the reset, and its lattice switch (R467, spec/02 R57, spec/07 R229). -/
def State.wipeCore (s : State) (n : Nat) (was : Core) : State :=
  let hit (x : Nat) : Bool := decide (spadAddr n 0 ≤ x) && decide (x < spadAddr n 0 + spadSize)
  { s.setCore n { was.passThrough with qgen := raisedAll was.qgen 64, sgen := raisedAll was.sgen 8, refusal := 0 } with
    ram := tdrop hit s.ram, badWords := s.badWords.filter (fun x => !hit x), ceWords := s.ceWords.filter (fun x => !hit x) }

/-- The seal logic of core n after a compute reset: the next incarnation, and nothing else (spec/12 R384). -/
def State.resetSeal (s : State) (n : Nat) : State :=
  let u := s.sealUnit n
  s.setSeal n { SealUnit.zero with incarn := u.incarn + 1 }

/-- Registers that a compute reset puts at their reset values (R467): every core page, and of the die and module blocks MESH_ but its repair
assignments and BCN_ but the configurations of its groups. -/
def resetByCompute (k : Nat) : Bool :=
  decide (k < 0x2000000) || decide (0x100000000 ≤ k) ||
  (decide (k < 0x2400000) && decide (0x50000 ≤ k % 0x100000) && decide (k % 0x100000 < 0x60000) &&
    !([rMESH_SEAMj_RPR, rMESH_SEAMj_RPR + 64].contains (k % 0x100000))) ||
  (decide (0x2b00000 ≤ k) && decide (k < 0x2b01000)) ||
  (decide (0x2b01000 ≤ k) && decide (k < 0x2c00000) && decide ((k - 0x2b01000) % 128 = 0x10))

/-- Tests and moves in progress are abandoned (R467, spec/13 R418). -/
def State.abandonRotation (s : State) : State :=
  let s := (List.range 576).foldl (fun s p => if (s.slot p).test.isSome then s.abandonTest p else s) s
  (List.range 64).foldl (fun s r => if (s.row r).move.isSome then (s.dropMove r false).setRow r { s.row r with move := none, revising := false } else s) s

/-- Requests that peers sent to this module and that its endpoints have not answered are answered REFUSED, seal messages acknowledged; its
own operations are freed without an answer (R463). -/
def State.dropSpanOps (s : State) : State :=
  let ins := s.span.ins
  let s := { s with span := { s.span with ops := [], ins := [], recvs := s.span.recvs.map (fun c => { c with fences := [] }) } }
  ins.foldl (fun s i => s.answerRequest i.req (if i.req.type = .seal then .ok else .refused) []) s

/-- TIER_ registers that a compute reset with KEEP_HEARTH clear sets back to what Stage 2 leaves (R467). -/
def tierReset : List Nat := [rTIER_POLICY, rTIER_CNT, rTIER_CNT2, rTIER_CNT3, rTIER_LKIDX]

/-- Hearth contents and the tier engine with KEEP_HEARTH clear (R464, R467); map lines that read uncorrectable stay so (spec/09 R295), and of
TIER_STATUS what bring-up set: READY and POOL_TRUNC. -/
def State.clearHearth (s : State) : State :=
  let lost (a : Nat) : Bool := decide (a < hearthBytes) || (decide (s.pool.pbase ≤ a) && decide (a < s.pool.pbase + s.pool.psize))
  let v := s.reg rTIER_STATUS
  ({ s with ram := tdrop lost s.ram, badLines := s.badLines.filter (fun a => !lost a), tierMap := []
            regs := tdrop (fun k => tierReset.contains k) s.regs
            tier := { Tier.zero with mapBad := s.tier.mapBad, scanOut := s.tier.scanOut, failed := s.tier.failed, hot := s.tier.hot } } : State).setReg
    rTIER_STATUS (v &&& 0x210)

/-- A compute reset is accepted (R462, steps 1 to 5): jobs end with ABORTED_BY_RESET, every task with TASK_RESET, what is in flight on the die is
discarded, and the domains are held in reset. -/
def State.startCompute (s : State) (keep bist : Bool) (src : Nat) : State :=
  let s := (s.resetCause 2 src).setRegField rBOOT_RESET 62 62 1
  let s := { s with boot := { s.boot with run := some ⟨none, keep, bist⟩ } }
  let s := s.abandonRotation.abortJobs
  let was := s
  let s := (List.range 512).foldl (fun s n => s.endAllTasks n) s
  let s := s.dropSpanOps
  let s := { s with net := [], landed := [], flits := [], routers := [], wires := [], steer := [], beacons := [] }
  let s := (List.range 512).foldl (fun s n => (s.wipeCore n { was.core n with stopped := true }).resetSeal n) s
  let s := { s with regs := tdrop resetByCompute s.regs }
  let s := (List.range 576).foldl (fun s p => s.modSlot p (fun x => { x with rst := true })) s
  if keep then s else s.clearHearth

/-- A request through BOOT_RESET, or absorbed into it, completes (R466). -/
def State.resetDone (s : State) : State :=
  let v := setBit (s.reg rBOOT_RESET) 62 false
  s.setReg rBOOT_RESET (if bitOf v 63 then setBit (setBit v 63 false) 61 true else v)

/-- References that the seal directories hold are LAPSED after a compute reset (R463). -/
def State.lapseDirectories (s : State) : State :=
  (List.range 4).foldl (fun s d =>
    let u := s.sealUnit (512 + d)
    s.setSeal (512 + d) { u with refs := u.refs.map (fun r => { r with st := .lapsed }), reads := [] }) s

/-- Repair maps and router port marks rebuilt (R462, R467, spec/13 R421, R441). -/
def State.rebuildPages (s : State) : State :=
  (List.range 576).foldl (fun s p =>
    let ws := (List.range 4).map (fun a => s.mapRepair p a)
    let s := if ws.all (fun w => decide (w = 0)) then s else s.setRepairs p ws
    if (s.slot p).routerOn then s else (List.range 6).foldl (fun s i => s.markPort p i true) s) s

/-- COMPUTE_RESET_COMPLETE (R462, steps 6 and 7): the test, when the reset has one, the map, and release. Cores that the test made absent are a
layout revision (spec/13 R440), and so are those that it makes present again (spec/13 R418, R514). -/
def execComputeResetComplete (bad : List SlotFail) (routers : List PhysId) (s : State) : Host.Outcome State Fault Refusal :=
  match s.boot.run with
  | some ⟨none, _, bist⟩ =>
    let before := (List.range 512).filter (fun n => s.present n)
    let s := if bist then s.bootTest bad routers else s
    let s := (s.buildMap).rebuildPages
    let gone := before.filter (fun n => !s.present n)
    let s := gone.foldl (fun s n => s.beaconAbsent n) s
    let s := if gone.isEmpty then s else ((s.raiseLayout).smdStat 10).record ⟨sevDegraded, 18, 10, 0, 0, 0, 0, 0, 0⟩
    let back := (List.range 512).filter (fun n => s.present n && !before.contains n)
    let s := if back.isEmpty then s else s.raiseLayout.record ⟨sevInfo, 18, 10, 0, 0, 0, 0, 0, 0⟩
    let s := { s with boot := { s.boot with run := none } }
    .next (s.lapseDirectories.resetDone)
  | _ => .next s

/-- Registers of a core page that a core reset puts at their reset values (R467): all but the scratchpad's power, MESH_, BCN_ and SEAL_. -/
def resetByCore (off : Nat) : Bool := decide (off < 0x5000) || (decide (0x6000 ≤ off) && decide (off < 0x9000)) || decide (0xC000 ≤ off)

/-- A core reset of core n is accepted (R465). -/
def State.startCore (s : State) (n src : Nat) : State :=
  let s := (s.resetCause 3 src).setRegField rBOOT_RESET 62 62 1
  let s := { s with boot := { s.boot with run := some ⟨some n, true, false⟩ } }
  let s := (s.endAllTasks n).wipeCore n (s.core n)
  let u := s.sealUnit n
  let s := s.setSeal n { u with incarn := u.incarn + 1, next := 0 }
  let s := { s with regs := tdrop (fun k => decide (coreKey n 0 ≤ k) && decide (k < coreKey n 0 + 0x10000) && resetByCore (k % 0x10000)) s.regs }
  match s.slotOf n with
  | some p => (s.setRepairs p ((List.range 4).map (fun a => s.mapRepair p a))).modSlot p (fun x => { x with rst := true })
  | none => s

/-- CORE_RESET_COMPLETE (R465): the compute domain is released. -/
def execCoreResetComplete (c : CoreId) (s : State) : Host.Outcome State Fault Refusal :=
  match s.boot.run with
  | some ⟨some n, _, _⟩ =>
    if n ≠ c.val then .next s
    else
      let s := match s.slotOf n with
        | some p => (s.gatherFlush n).modSlot p (fun x => { x with rst := false })
        | none => s
      .next ({ s with boot := { s.boot with run := none } }.resetDone)
  | none => .next s
  | some ⟨none, _, _⟩ => .next s

/-- Kinds of a reset request. -/
inductive ResetReq | compute (keep bist : Bool) | core (n : Nat) | module
  deriving DecidableEq, Repr

/-- What a reset request comes to: 0 it starts, 1 it is absorbed, 2 it is refused (R466). -/
def State.judgeReset (s : State) (r : ResetReq) : Nat :=
  match r with
  | .module => 0
  | .compute _ bist =>
    if s.stage < 4 then 2
    else match s.boot.run with
      | some ⟨none, _, b⟩ => if bist && !b then 0 else 1
      | _ => 0
  | .core n => if s.stage < 4 ∨ !s.present n then 2 else if s.boot.run.isSome then 1 else 0

/-- A reset request that is not refused or absorbed takes effect (R466): a compute reset with BIST adds its test to one without; a compute
reset abandons a core reset. -/
def State.doReset (s : State) (r : ResetReq) (src : Nat) : State :=
  match r with
  | .module => s.moduleReset src
  | .core n => s.startCore n src
  | .compute keep bist =>
    match s.boot.run with
    | some ⟨none, k, _⟩ => { s with boot := { s.boot with run := some ⟨none, k, bist⟩ } }
    | _ => s.startCompute keep bist src

/-- A reset request from outside BOOT_RESET: its outcome is marked in BOOT_STATUS. -/
def State.askReset (s : State) (r : ResetReq) (src : Nat) : Nat × State :=
  match s.judgeReset r with
  | 0 => (0, s.doReset r src)
  | 1 => (1, s.orReg rBOOT_STATUS 4)
  | k => (k, s.orReg rBOOT_STATUS 2)

/-- GO in BOOT_RESET (R466): DONE clears and GO reads as 1 until the request completes; one that is refused completes at once. -/
def State.resetGo (s : State) (r : ResetReq) : State :=
  let v := setField (setBit (setBit (s.reg rBOOT_RESET) 63 true) 61 false) 60 59 0
  match s.judgeReset r with
  | 0 => (s.setReg rBOOT_RESET v).doReset r 4
  | 1 => (s.setReg rBOOT_RESET (setField v 60 59 1)).orReg rBOOT_STATUS 4
  | _ => (s.setReg rBOOT_RESET (setField (setBit (setBit v 63 false) 61 true) 60 59 2)).orReg rBOOT_STATUS 2

/-- A write of BOOT_RESET: its fields, and GO with a KIND that is not reserved while GO does not already read as 1. -/
def State.bootResetWrite (s : State) (v : Word) : State :=
  let old := s.reg rBOOT_RESET
  let s := s.setReg rBOOT_RESET (setField (setField (setBit old 19 (bitOf v 19)) 18 16 (field v 18 16)) 8 0 (field v 8 0))
  if !bitOf v 63 ∨ bitOf old 63 then s
  else match field v 18 16 with
    | 0 => s.resetGo (.compute (bitOf v 19) false)
    | 1 => s.resetGo (.compute (bitOf v 19) true)
    | 2 => s.resetGo (.core (field v 8 0))
    | 3 => s.resetGo .module
    | _ => s

/-- A write of BOOT_RESET with GO and a KIND. -/
def State.bootReset (s : State) (who : Initiator) (kind : Nat) (v : Word) : State :=
  s.gateReg who rBOOT_RESET (fun s => if bitOf v 63 ∧ field v 18 16 = kind then s.bootResetWrite v else s)

/-- BOOT_RESET_COMPUTE (R462). -/
def execBootResetCompute (who : Initiator) (v : Word) (s : State) : Host.Outcome State Fault Refusal := .next (s.bootReset who 0 v)
/-- BOOT_RESET_COMPUTE_BIST (R462). -/
def execBootResetComputeBist (who : Initiator) (v : Word) (s : State) : Host.Outcome State Fault Refusal := .next (s.bootReset who 1 v)
/-- BOOT_RESET_CORE (R465). -/
def execBootResetCore (who : Initiator) (v : Word) (s : State) : Host.Outcome State Fault Refusal := .next (s.bootReset who 2 v)
/-- BOOT_RESET_MODULE (R461). -/
def execBootResetModule (who : Initiator) (v : Word) (s : State) : Host.Outcome State Fault Refusal := .next (s.bootReset who 3 v)

end Sys2Proof.Machine
end

