-- ==== Sys2Proof/Machine/Drains.lean ====
section
/-! DEFINITION. The drains: half-sums into windows, the rounding of a completed row, its output to scratchpad, to a lattice
link or to a queue; tile checks, the diagnostic pass and the repair and set-up registers (spec/02 R71 to R79, R82 to R93,
spec/06 R189, spec/07 R241). -/

namespace Sys2Proof.Machine

/-! ## Half-sums into windows (R71, R72) -/

/-- Key of the window of row m and column j of a drain. -/
def winKey (m j : Nat) : Nat := m * 128 + j

/-- Windows of a drain. -/
def windowsPerDrain : Nat := 4096

/-- Windows that a drain holds: open, and completed but not yet rounded (R72). -/
def Drain.inUse (d : Drain) : Nat := d.windows.length + (d.rounds.map (fun r => r.cols.length)).sum

/-- The window of row m and column j of a drain. -/
def Drain.window (d : Drain) (m j : Nat) : Window := tget (fun _ => Window.empty) d.windows (winKey m j)

/-- A term's effect with its own loss apart: the window, and whether this term discarded bits. Each term increments N, so a
window in use never equals the empty one. -/
def Window.addCounted (u : Window) (h : HalfSum) : Option (Window × Bool) :=
  match ({ u with loss := false }).addHalf h with
  | some v => some ({ v with loss := u.loss || v.loss }, v.loss)
  | none => none

/-- The half-sums of a row added: the drain, whether bits were lost, and whether a term limit was met (R32, R34). -/
def Drain.addSums (d : Drain) (m : Nat) : List (Nat × HalfSum) → Drain × Bool × Bool
  | [] => (d, false, false)
  | (j, h) :: hs =>
    match (d.window m j).addCounted h with
    | some (v, l) =>
      let (d, l', f) := ({ d with windows := tset (fun _ => Window.empty) d.windows (winKey m j) v }).addSums m hs
      (d, l || l', f)
    | none =>
      let (d, l, _) := d.addSums m hs
      (d, l, true)

/-- The windows as the drain's second circuit has them: skew is by how much a faulty one differs in the first window of a row (R85). -/
def Drain.second (d : Drain) (h : HalfRow) (skew : BitVec 256) : Tab Window :=
  match h.sums.head? with
  | some (j, _) =>
    let w := d.window h.id.row j
    tset (fun _ => Window.empty) d.windows (winKey h.id.row j) { w with w := w.w ^^^ skew }
  | none => d.windows

/-- The duplicate comparison of R85: both circuits' windows after a row's half-sums agree. -/
def Drain.agrees (d : Drain) (h : HalfRow) (skew : BitVec 256) : Bool := decide ((d.addSums h.id.row h.sums).1.windows =
  ((d.addSums h.id.row h.sums).1).second h skew)

/-- A final row's windows become rounding requests of 64 columns each and leave the open windows (R72). -/
def Drain.complete (d : Drain) (id : RowId) : Drain :=
  let cols := arrayCols id.meadow
  let reqs := (List.range (cols / 64)).map (fun g =>
    (⟨id, 64 * g, (List.range 64).map (fun j => d.window id.row (64 * g + j))⟩ : RoundReq))
  { d with rounds := d.rounds ++ reqs
           windows := tdrop (fun k => decide (k / 128 = id.row)) d.windows }

/-- The duplicate comparison of a row failed (R85, R87): its check tile fails. When the tile's result is already out, the failure is
counted and logged at once. -/
def State.dupFails (s : State) (n d : Nat) (id : RowId) : State :=
  let (x, hit) := ((s.core n).drain d).markDup id
  let s := s.modCore n (fun k => k.setDrain d x)
  if hit then s else lateFail ((s.coreStat n rDRN_STATUS (20 + d)).count (coreKey n rDRN_CKCNT) 31 0 1)
where
  lateFail (s : State) : State :=
    match id.epoch with
    | some e => (s.logOnce (coreKey n rDRN_CKLOG) 0 (({ CheckTile.start id.stream id.row id.epoch id.meadow false with dupFail := true }).log d e.toNat)).modWin
        n e (fun w => { w with failed := true })
    | none => s.modCore n (fun k => k.setDrain d { k.drain d with tileFail := true })

/-- HALF_SUM_ADD (R32 to R34, R71, R72, R85): the oldest half-sums of drain d enter their windows; a row that needs windows not
yet released waits. skew: by how much the drain's second circuit differs, zero when both are sound. -/
def execHalfSumAdd (c : CoreId) : AddIn → State → Host.Outcome State Fault Refusal
  | ⟨d, skew⟩, s =>
  let x := (s.core c).drain d
  match x.halfs with
  | [] => .next s
  | h :: hs =>
    let opens := !(x.windows.any (fun w => decide (w.1 / 128 = h.id.row)))
    if !s.live c ∨ (opens ∧ windowsPerDrain < x.inUse + arrayCols h.id.meadow) then .next s
    else
      let (y, lost, limit) := x.addSums h.id.row h.sums
      let y := { y with halfs := hs }
      let y := if h.final then y.complete h.id else y
      let s := s.modCore c (fun k => k.setDrain d y)
      let s := if x.agrees h skew then s else s.dupFails c d h.id
      let s := if lost then s.drainFlags c d { Flags.zero with loss := true } else s
      .next (if limit then (s.coreStat c rDRN_STATUS (28 + d)).endAsync c h.id.task h.id.pc endArith 0 else s)

/-! ## Addends (R35, R73) -/

/-- The values at a task address: 64 elements of a plain code, read by the drain. -/
def State.readElems (s : State) (n t addr code cnt : Nat) : Acc (List Num) :=
  let w := elemBits code
  match s.taskRead n t (BitVec.ofNat 64 (addr % 2 ^ 32)) (cnt * w / 8) .wide with
  | .ok s bs => .ok s ((List.range cnt).map (fun i => decodeElem code false (packedAt (ofLe bs) w i)))
  | .held => .held
  | .access => .access
  | .ue s => .ue s

/-- An addend enters a window; its own loss apart. -/
def Window.addCountedNum (u : Window) (x : Num) : Option (Window × Bool) :=
  match ({ u with loss := false }).addNum x with
  | some v => some ({ v with loss := u.loss || v.loss }, v.loss)
  | none => none

/-- Addends into windows, one each: the windows, whether bits were lost, and whether a term limit was met. -/
def addAll : List Window → List Num → List Window × Bool × Bool
  | w :: ws, x :: xs =>
    let (r, l, f) := addAll ws xs
    match w.addCountedNum x with
    | some (v, l') => (v :: r, l || l', f)
    | none => (w :: r, l, true)
  | ws, _ => (ws, false, false)

/-- What one rounding step works on: the request, the drain's set-up and its DSET. -/
structure RoundCtx where
  req : RoundReq
  cfg : DrainCfg
  set : DrainSet
  col : Nat
  deriving DecidableEq, Repr

/-- Task address of a plane that holds one element of w bits per output element: row pitch in bytes, first column. -/
def RoundCtx.elemAddr (x : RoundCtx) (base stride w : Nat) : Nat := base + x.req.id.row * stride + x.col * w / 8

/-- Row pitch in elements of the output, P of R79. -/
def RoundCtx.pitch (x : RoundCtx) : Nat := x.set.outStride * 8 / elemBits (fmtCode x.cfg.outFmt)

/-- Address of the group's elements in the pre-activation region (R79). -/
def RoundCtx.preAddr (x : RoundCtx) : Nat :=
  x.set.pre + (x.req.id.row * x.pitch + x.col) * elemBits x.cfg.preFmt / 8

/-- Windows with their addends, the per-column addend first (R73): loss and term limit as above. -/
def State.withAddends (s : State) (n : Nat) (x : RoundCtx) : Acc (List Window × Bool × Bool) :=
  let t := x.req.id.task
  let w := elemBits x.cfg.addFmt
  let read (on : Bool) (s : State) (addr : Nat) : Acc (List Num) :=
    if on then s.readElems n t addr x.cfg.addFmt 64 else .ok s []
  match read (x.cfg.addMode.testBit 0) s (x.set.addCol + x.col * w / 8) with
  | .ok s cs =>
    match read (x.cfg.addMode.testBit 1) s (x.elemAddr x.set.addElem x.set.addStride w) with
    | .ok s es =>
      let (ws, l1, f1) := addAll x.req.cols cs
      let (ws, l2, f2) := addAll ws es
      .ok s (ws, l1 || l2, f1 || f2)
    | .held => .held
    | .access => .access
    | .ue s => .ue s
  | .held => .held
  | .access => .access
  | .ue s => .ue s

/-! ## Fused functions (R76 to R78) -/

/-- FP32 one. -/
def oneF32 : Num := .fin false 1 0

/-- Greater than zero. -/
def Num.pos (x : Num) : Bool := Num.lt (.fin false 0 0) x

/-- An infinity. -/
def Num.isInf : Num → Bool
  | .inf _ => true
  | _ => false

/-- A product rounded to FP32 by RNE (R77). -/
def mulF32 (a b : Num) : Num × Flags :=
  let (v, f) := roundTo 7 false .rne 0 false (Num.mul a b)
  (decodeF32 v, f)

/-- The limit of a function at an infinite input (R78). -/
def funcLimit (fn : Nat) (neg : Bool) : Num :=
  match fn, neg with
  | 6, false => oneF32
  | 6, true => .fin false 0 0
  | 7, n => .fin n 1 0
  | _, false => .inf false
  | _, true => .fin true 0 0

/-- α·x for x not above zero (R77). At −∞ with α zero the limit is a zero, on the side from which α·x comes to it (R78). -/
def leaky (alpha x : Num) : Num × Flags :=
  match x with
  | .inf n => if alpha.isZero then (.fin (alpha.isNeg != n) 0 0, Flags.zero) else mulF32 alpha x
  | _ => mulF32 alpha x

/-- Codes 0x1 to 0x7 at an FP32 value (R76 to R78). -/
def applyFunc (fn : Nat) (alpha x : Num) : Num × Flags :=
  if x.isNan then (.nan, { Flags.zero with invalid := true })
  else if fn = 1 then (if x.pos then x else .fin false 0 0, Flags.zero)
  else if fn = 2 then (if x.pos then (x, Flags.zero) else leaky alpha x)
  else match x with
    | .inf n => (funcLimit fn n, Flags.zero)
    | _ => (funcF32 fn x, Flags.zero)

/-- The limit of a derivative at an infinite z (R78): 1 above for the functions that grow, and a zero approached from below
or above. -/
def derivLimit (fn : Nat) (neg : Bool) : Num :=
  if fn = 14 ∨ fn = 15 then .fin false 0 0
  else if neg then .fin true 0 0 else oneF32

/-- The result of a product g times a derivative; an infinite g with a zero derivative is NaN (R78). -/
def derivProd (g d : Num) : Num × Flags :=
  let r := Num.mul g d
  (r, if r.isNan then { Flags.zero with invalid := true } else Flags.zero)

/-- Codes 0x9 to 0xF at FP32 g and stored pre-activation z (R76 to R78). An infinite g gives its limit, an infinity with the sign of the
product; no derivative of codes 0xB to 0xF is zero at a finite z. -/
def applyDeriv (fn : Nat) (alpha g z : Num) : Num × Flags :=
  if g.isNan ∨ z.isNan then (.nan, { Flags.zero with invalid := true })
  else if fn = 9 then
    (if z.pos then (g, Flags.zero)
     else match g with
       | .inf _ => (.nan, { Flags.zero with invalid := true })
       | _ => (.fin false 0 0, Flags.zero))
  else if fn = 10 then (if z.pos then (g, Flags.zero) else mulF32 alpha g)
  else match z, g with
    | .inf n, _ => derivProd g (derivLimit fn n)
    | _, .inf n => (.inf (n != derivNeg fn z), Flags.zero)
    | _, _ => (derivF32 fn g z, Flags.zero)

/-- One element's value before the final conversion: FUNC applied to x, the window rounded to FP32 (R55, R76); with the FP32
bits of x, and flags. -/
def RoundCtx.value (x : RoundCtx) (w : Window) (z : Num) : Num × Nat × Flags :=
  let (xb, xf) := roundTo 7 false .rne 0 false w.value
  let xf := if x.cfg.func ≠ 0 ∨ x.cfg.preEn then xf else Flags.zero
  let alpha := decodeF32 x.cfg.alpha.toNat
  if x.cfg.func = 0 then (w.value, xb, xf)
  else
    let (v, f) := if isDeriv x.cfg.func then applyDeriv x.cfg.func alpha (decodeF32 xb) z
      else applyFunc x.cfg.func alpha (decodeF32 xb)
    (v, xb, xf.or f)

/-! ## Conversion and output -/

/-- The random numbers of the group's elements (R48). -/
def State.rands (s : State) (n d : Nat) (x : RoundCtx) : List Nat :=
  (List.range 64).map (fun j =>
    srand (s.reg (coreKey n (rDRN_SEEDd + 0x20 * d))) x.cfg.tensor x.req.id.m (x.req.id.n0 + x.col + j))

/-- The output of a group of 64 elements: scale bytes, packed element bits and flags (R41 to R48). -/
def RoundCtx.convert (x : RoundCtx) (vs : List Num) (rs : List Nat) : List Nat × List Nat × Flags :=
  let code := fmtCode x.cfg.outFmt
  let rnd := (Rnd.ofField x.cfg.rmode).getD .rne
  if fmtMx x.cfg.outFmt then
    let b0 := mxBlock code rnd x.cfg.sat (vs.take 32) (rs.take 32)
    let b1 := mxBlock code rnd x.cfg.sat (vs.drop 32) (rs.drop 32)
    ([b0.1, b1.1], b0.2.1 ++ b1.2.1, b0.2.2.or b1.2.2)
  else
    let es := (vs.zip rs).map (fun p => roundTo code false rnd p.2 x.cfg.sat p.1)
    ([], es.map Prod.fst, es.foldl (fun a e => a.or e.2) Flags.zero)

/-- Lattice tokens of a group: 512 bits each, the scale bytes in the first (R189). -/
def groupTokens (w bits : Nat) (scales : List Nat) : List Token :=
  let cnt := if w ≤ 8 then 1 else w / 8
  (List.range cnt).map (fun i =>
    { data := BitVec.ofNat 512 (bits >>> (512 * i)), scale := if i = 0 then BitVec.ofNat 32 (packAll 8 scales) else 0
      epoch := 0, marker := false, poison := false })

/-- WORD messages of four words for a group's bytes, the lower 32 B first (spec/07 R241). -/
def groupMsgs (d : Nat) (x : RoundCtx) (bs : Bytes) : List UnitMsg :=
  (List.range (ceilDiv bs.length 32)).map (fun i =>
    { task := x.req.id.task, pc := x.req.id.pc, target := x.set.target
      payload := leBytes 32 (ofLe ((bs.drop (32 * i)).take 32)), type := .word, lane := 0
      epoch := x.req.id.epoch.getD 0, order := tokenOrder x.req.id d (x.req.col / 64) 0, flying := false, backoff := none })

/-- SHF_WINDOW messages of exported windows, lane LANE + r × c + j (spec/07 R241). -/
def exportMsgs (d : Nat) (x : RoundCtx) (ws : List Window) (j0 : Nat) : List UnitMsg :=
  ws.zipIdx.map (fun w =>
    { task := x.req.id.task, pc := x.req.id.pc, target := x.set.target, payload := w.1.toBytes, type := .shfWindow
      lane := tgLane x.set.target + x.req.id.row * arrayCols x.req.id.meadow + j0 + w.2
      epoch := x.req.id.epoch.getD 0, order := tokenOrder x.req.id d (x.req.col / 64) 0, flying := false, backoff := none })

/-- Several writes of an output window; the first that is held or refused decides. -/
def State.windowWrites (s : State) (n t : Nat) (e : Option (BitVec 32)) : List (Nat × Bytes) → Acc Unit
  | [] => .ok s ()
  | (a, bs) :: ws =>
    match s.windowWrite n t e (BitVec.ofNat 64 (a % 2 ^ 32)) bs with
    | .ok s _ => s.windowWrites n t e ws
    | r => r

/-- The drain's pre-activations of a group as bytes (R79), x to PRE_FMT by RNE, and the flags of the conversion (R40, R49). -/
def RoundCtx.preBytes (x : RoundCtx) (xs : List Nat) : Bytes × Flags :=
  let w := elemBits x.cfg.preFmt
  let es := xs.map (fun b => roundTo x.cfg.preFmt false .rne 0 x.cfg.sat (decodeF32 b))
  (leBytes (64 * w / 8) (packAll w (es.map Prod.fst)), flagsOf (es.map Prod.snd))

/-- The group leaves the drain: its writes, tokens and messages (R74, R75, R79, R189, R241). Scale bytes lie at the core's output
columns / 32 a row (DESIGN CHOICE, notes/assumptions/91.md). -/
def State.roundOut (s : State) (n d : Nat) (x : RoundCtx) (pre : List (Nat × Bytes)) (scales els : List Nat) : Acc Unit :=
  let w := elemBits (fmtCode x.cfg.outFmt)
  let bits := packAll w els
  let bs := leBytes (64 * w / 8) bits
  let t := x.req.id.task
  let e := x.req.id.epoch
  let sc := if fmtMx x.cfg.outFmt ∧ x.set.outKind ≠ 1 then
      [(x.set.outScales + x.req.id.row * (coreCols x.req.id.meadow / 32) + x.col / 32, scales.map (BitVec.ofNat 8))] else []
  let out := if x.set.outKind = 0 then [(x.elemAddr x.set.out x.set.outStride w, bs)] else []
  match s.windowWrites n t e (pre ++ out ++ sc) with
  | .ok s u => .ok (match x.set.outKind with
      | 1 => s.modCore n (fun c => { c with drainToks := c.drainToks ++ (groupTokens w bits scales).zipIdx.map (fun k =>
          ⟨tokenOrder x.req.id d (x.req.col / 64) k.2, x.set.link - 1, k.1, e⟩) })
      | 2 => s.modCore n (fun c => c.setDrain d { c.drain d with outbox := (c.drain d).outbox ++ groupMsgs d x bs })
      | _ => s) u
  | r => r

/-- Windows exported instead of rounded (R74): records to scratchpad at 64 B a column, or to a sheaf. -/
def State.exportOut (s : State) (n d : Nat) (x : RoundCtx) (ws : List Window) : Acc Unit :=
  if x.set.outKind = 2 then
    .ok (s.modCore n (fun c => c.setDrain d { c.drain d with outbox := (c.drain d).outbox ++ exportMsgs d x ws x.req.col })) ()
  else s.windowWrites n x.req.id.task x.req.id.epoch
    [(x.set.out + x.req.id.row * x.set.outStride + x.col * 64, ws.flatMap Window.toBytes)]

/-- Stored pre-activations of the group, when FUNC is a derivative (R79). -/
def State.readPre (s : State) (n : Nat) (x : RoundCtx) : Acc (List Num) :=
  if isDeriv x.cfg.func then s.readElems n x.req.id.task x.preAddr x.cfg.preFmt 64 else .ok s []

/-- One rounding of a request with its set-up: the state after it, and whether the task met its term limit. Where WEXPORT and PRE_EN
are both set nothing is rounded and no pre-activation is written (DESIGN CHOICE, notes/assumptions/91.md). -/
def State.roundGroup (s : State) (n d : Nat) (x : RoundCtx) : Acc Bool :=
  match s.withAddends n x with
  | .ok s (ws, lost, limit) =>
    if limit then .ok s true
    else
      match s.readPre n x with
      | .ok s zs =>
        let loss := { Flags.zero with loss := lost }
        let win (s : State) (f : Flags) : State := s.winFlags n x.req.id.epoch { f with loss := ws.any (fun w => w.loss) }
        if x.cfg.wexp then
          match s.exportOut n d x ws with
          | .ok s _ => .ok ((win s loss).drainFlags n d loss) false
          | .held => .held
          | .access => .access
          | .ue s => .ue s
        else
          let vs := ws.zipIdx.map (fun w => x.value w.1 (zs.getD w.2 (.fin false 0 0)))
          let (scales, els, fl) := x.convert (vs.map Prod.fst) (s.rands n d x)
          let fl := vs.foldl (fun a v => a.or v.2.2) (fl.or loss)
          let (pb, pf) := x.preBytes (vs.map (fun v => v.2.1))
          let pre := if x.cfg.preEn then [(x.preAddr, pb)] else []
          let fl := if x.cfg.preEn then fl.or pf else fl
          match s.roundOut n d x pre scales els with
          | .ok s _ => .ok ((win s fl).drainFlags n d fl) false
          | .held => .held
          | .access => .access
          | .ue s => .ue s
      | .held => .held
      | .access => .access
      | .ue s => .ue s
  | .held => .held
  | .access => .access
  | .ue s => .ue s

/-- The rounding context of a request of drain d of core n. -/
def State.roundCtx (s : State) (n d : Nat) (r : RoundReq) : RoundCtx :=
  ⟨r, s.drainCfg n d, ((s.core n).drain d).set, coreCol r.id.meadow d r.col⟩

/-- WINDOW_ROUND (R72 to R79, R85): the oldest completed group of drain d is rounded once and leaves; a held access leaves it
waiting, and one outside the task's regions ends the task. skew: by how much the second circuit's results differ, zero when both are
sound. -/
def execWindowRound (c : CoreId) : RoundIn → State → Host.Outcome State Fault Refusal
  | ⟨d, skew⟩, s =>
  match ((s.core c).drain d).rounds with
  | [] => .next s
  | r :: rs =>
    if !s.live c then .next s
    else
      let pop (s : State) : State := s.modCore c (fun k => k.setDrain d { k.drain d with rounds := rs })
      let x := s.roundCtx c d r
      match s.roundGroup c d x with
      | .ok s false => .next ((if skew = 0 then pop s else (pop s).dupFails c d r.id).event c 0x08 1)
      | .ok s true => .next (((pop s).coreStat c rDRN_STATUS (28 + d)).endAsync c r.id.task r.id.pc endArith 0)
      | .held => .next s
      | .access => .next ((pop s).endAsync c r.id.task r.id.pc endAccess (BitVec.ofNat 64 (x.set.out % 2 ^ 32)))
      | .ue s => .next (pop s)

/-! ## Tile checks (R82 to R88) -/

/-- TILE_CHECK_RESULT (R83 to R88): the result of the oldest ended check tile of drain d reaches the seal logic, once every half-sum of
the tile is in its window. A tile of a reduction whose FINAL stream has not started has no window yet: the reduction's window will fail,
and EPOCH of the log is open. -/
def execTileCheckResult (c : CoreId) (d : ArrayId) (_u _v : Unit) (s : State) : Host.Outcome State Fault Refusal :=
  let x := (s.core c).drain d
  match x.tiles with
  | [] => .next s
  | t :: ts =>
    if !s.live c ∨ x.halfs.any (fun h => t.holds h.id) then .next s
    else
      let s := s.modCore c (fun k => k.setDrain d { x with tiles := ts })
      let s := (s.count (coreKey c rDRN_CKCNT) 63 32 1).event c 0x06 1
      if t.fails then
        let s := (s.count (coreKey c rDRN_CKCNT) 31 0 1).event c 0x07 1
        let s := if t.checkFails then s.coreStat c rDRN_STATUS (16 + d) else s
        let s := if t.dupFail then s.coreStat c rDRN_STATUS (20 + d) else s
        match t.epoch with
        | some e =>
          .next ((s.logOnce (coreKey c rDRN_CKLOG) 0 (t.log d e.toNat)).modWin c e (fun w => { w with failed := true }))
        | none =>
          let (v, s) := s.fresh
          .next ((s.logOnce (coreKey c rDRN_CKLOG) 0 (t.log d (field v 31 0))).modCore c
            (fun k => k.setDrain d { k.drain d with tileFail := true }))
      else .next s

/-! ## Diagnostic pass, repair and set-up registers (R89 to R93) -/

/-- The shadow bank of array a is loading. -/
def Core.loading (c : Core) (a : Nat) : Bool :=
  match (c.array a).shadow with
  | .loading _ => true
  | _ => false

/-- DIAG_PASS (R89): a write to ARR_DIAG; GO starts a pass unless the array streams, its shadow bank is not EMPTY or COLUMN is above
66: then the whole write is ignored. A pass fills the shadow bank with its test tile and streams. -/
def execDiagPass (who : Initiator) (c : CoreId) (v : Word) (s : State) : Host.Outcome State Fault Refusal :=
  .next (s.gate who (coreKey c rARR_DIAG) .w (fun s =>
    let k := s.core c
    let a := field v 2 1
    let col := field v 9 3
    let old := s.reg (coreKey c rARR_DIAG)
    let fields := setField (setField old 9 3 col) 2 1 a
    if !bitOf v 0 then s.setReg (coreKey c rARR_DIAG) fields
    else if k.streaming a ∨ (k.array a).shadow ≠ .empty ∨ 66 < col then s
    else (s.setReg (coreKey c rARR_DIAG) (setBit (setBit fields 16 false) 0 true)).modCore c
      (fun k => k.setArray a { k.array a with diag := some col })))

/-- DIAG_DONE (R89): the pass on array a has completed, with the first failing physical row or none. GO reads as 1 while another pass
still runs. -/
def execDiagDone (c : CoreId) : DiagEnd → State → Host.Outcome State Fault Refusal
  | ⟨a, failRow⟩, s =>
  match ((s.core c).array a).diag with
  | none => .next s
  | some col =>
    let more := (List.range 4).any (fun b => decide (b ≠ a.val) && ((s.core c).array b).diag.isSome)
    let r := setBit (setBit (s.reg (coreKey c rARR_DIAG)) 0 more) 16 true
    let (r, loc) := match failRow with
      | some x => (setField (setBit r 17 true) 24 18 x.toNat, some (col, x.toNat, s.ns))
      | none => (setField (setBit r 17 false) 24 18 0, none)
    .next ((s.setReg (coreKey c rARR_DIAG) r).modCore c
      (fun k => k.setArray a { k.array a with diag := none, located := loc }))

/-- A repair map with a valid entry outside the array (ARR_REPAIR). -/
def repairBad (v : Word) : Bool :=
  let (rs, cs) := repairMarks v
  rs.any (fun r => decide (65 < r)) || cs.any (fun k => decide (66 < k))

/-- Two soft maps give the same repair map with a fuse map: the unions mark the same rows and columns (R90). -/
def sameMap (fuse a b : Word) : Bool :=
  let marks (v : Word) (i : Nat) : Bool × Bool :=
    let (r0, c0) := repairMarks fuse
    let (r1, c1) := repairMarks v
    ((r0 ++ r1).contains i, (c0 ++ c1).contains i)
  (List.range 67).all (fun i => marks a i == marks b i)

/-- A soft repair map written (R91): it takes effect only while the array neither streams nor loads, and a change of the repair map,
the union with the fuses, invalidates both banks. -/
def State.writeRepair (s : State) (n a : Nat) (v : Word) : State :=
  let k := s.core n
  let v := v &&& 0xffffffff
  if k.streaming a ∨ k.loading a ∨ repairBad v then s.coreStat n rARR_STATE (8 * a + 6)
  else
    let fuse := Config.arrFuse ((s.slotOf n).getD 0) a
    let t := s.setReg (coreKey n (rARR_REPAIRa + 8 * a)) v
    if sameMap fuse (s.reg (coreKey n (rARR_REPAIRa + 8 * a))) v then t
    else t.modCore n (fun k => k.setArray a { k.array a with active := none, shadow := .empty })

/-- ARR_REPAIR_WRITE (R91). -/
def execArrRepairWrite (who : Initiator) (c : CoreId) (a : ArrayId) (v : Word) (s : State) :
    Host.Outcome State Fault Refusal :=
  .next (s.gate who (coreKey c (rARR_REPAIRa + 8 * a)) .w (fun s => s.writeRepair c a v))

/-- A drain holds no window in use (R93). -/
def Drain.noWindow (d : Drain) : Bool := d.red.isNone && d.halfs.isEmpty && decide (d.inUse = 0)

/-- DRN_CFG_WRITE (R93): a write to DRN_CFGd, DRN_SEEDd or DRN_AUXd takes effect only while drain d holds no window in use. -/
def execDrnCfgWrite (who : Initiator) (c : CoreId) (d : ArrayId) (which : Fin 3) (v : Word) (s : State) :
    Host.Outcome State Fault Refusal :=
  let off := rDRN_CFGd + 0x20 * d + 8 * which
  .next (s.gate who (coreKey c off) .f (fun s =>
    if ((s.core c).drain d).noWindow && !((s.core c).arrayStreams d).any (fun x => x.started) then s.regWrite (coreKey c off) v else s.coreStat c rDRN_STATUS (32 + d)))

end Sys2Proof.Machine
end

