-- ==== Sys2Proof/Machine/Held.lean ====
section
/-! DEFINITION. Operations of a task that wait: which of them the present state holds (spec/04 R153, spec/05 R174, R177). -/

namespace Sys2Proof.Machine

/-- An attempt at an access is held. -/
def Acc.isHeld {α : Type} : Acc α → Bool
  | .held => true
  | _ => false

/-- What the broadcast port supplies for a stream's next intake. -/
def State.streamIntake (s : State) (n : Nat) (x : Stream) : Intake :=
  let k := s.core n
  let banks := (arraysOf x.mask).filterMap (fun b => (k.array b).active)
  let d := kDepth (banks.any (fun w => w.meadow))
  let dual := dualRow x.fmt banks
  let want := if dual ∧ x.source ≠ 5 ∧ x.next + 1 < x.rows then 2 else 1
  if x.source = 0 then s.intakeSpad n x d want
  else if x.source = 5 then s.intakeQueue n x d
  else intakeLink s x d want dual

/-- A stream waits: for the arrays, or its source holds it. -/
def State.streamHeld (s : State) (n : Nat) (x : Stream) : Bool :=
  !x.started || (match s.streamIntake n x with
    | .held => true
    | _ => false)

/-- A weight load's reads are held. -/
def State.loadHeld (s : State) (n a : Nat) (r : LoadReq) : Bool :=
  (s.taskReads n r.task (r.ranges a)).isHeld || (s.taskReads n r.task (r.scaleRanges a)).isHeld

/-- The oldest group of drain d waits for its addends or its output. -/
def State.roundHeld (s : State) (n d : Nat) (r : RoundReq) : Bool := (s.roundGroup n d (s.roundCtx n d r)).isHeld

/-- The operation at the head of the row engine is held. -/
def State.rowHeld (s : State) (n : Nat) (o : RowOp) : Bool :=
  match s.rowNext n o with
  | .held => true
  | .ok s (.ok r) => (s.unitWrites n o.task o.sealEp r.writes).isHeld
  | _ => false

/-- Operations of task t that wait, as the PC and the opcode of the instruction that started each: streams, weight loads, drain outputs,
row engine operations, messages of units that were refused, DMAs, and sends whose result has not returned. A message that waits for its
window's seal is no such wait (R153). -/
def State.heldOps (s : State) (n t : Nat) : List (Nat × Nat) :=
  let c := s.core n
  let msgs (q : List UnitMsg) (opc : Nat) := ((q.head?.toList).filter (fun m => decide (m.task = t) && m.backoff.isSome)).map (fun m => (m.pc, opc))
  (c.taskStreams t).filterMap (fun x => if s.streamHeld n x then some (x.pc, 0x41) else none) ++
  (List.range 4).filterMap (fun a => match (c.array a).shadow with
    | .loading r => if r.task = t ∧ s.loadHeld n a r then some (r.pc, 0x40) else none
    | _ => none) ++
  (List.range 4).filterMap (fun d => match (c.drain d).rounds with
    | r :: _ => if r.id.task = t ∧ s.roundHeld n d r then some (r.id.pc, 0x41) else none
    | [] => none) ++
  (List.range 4).flatMap (fun d => msgs (c.drain d).outbox 0x41) ++
  (c.rowOps.head?.toList).filterMap (fun o => if o.task = t ∧ s.rowHeld n o then some (o.pc, 0x50) else none) ++
  msgs c.rowOutbox 0x50 ++
  (c.dmas.filter (fun x => decide (x.task = t))).map (fun x => (x.pc, 0x58)) ++
  ((c.task t).sends.filter (fun r => r.unit.isNone)).map (fun r => (r.pc, r.opc))

end Sys2Proof.Machine
end

