-- ==== Sys2Proof/Machine/Warden.lean ====
section
/-! DEFINITION. The management processors, the Forester watchdog and the calls of the Warden (spec/15 R469 to R485, R497,
spec/12 R411). -/

namespace Sys2Proof.Machine

/-! ## Calls (R479) -/

/-- Forester runs and posts calls: it was started in Stage 1 and is neither stopped nor restarting (R471). -/
def State.foresterRuns (s : State) : Bool :=
  s.powered && s.boot.image.isSome && !s.bootFailed && !bitOf (s.reg rWDN_STATUS) 11 && !s.wdn.restarting

/-- RESULT and CHECK of the call just executed. -/
def State.callResult (s : State) (result check : Nat) : State := { s with wdn := { s.wdn with call := (result, check) } }

/-- A call executed (R479): BAD_CALL for an argument out of range, BUSY while the state is changing, REFUSED with the first check that
fails, which changes nothing, or OK with its commit. -/
def State.call (s : State) (argsOk busy : Bool) (check : Option Nat) (commit : State → State) : State :=
  if !s.foresterRuns then s
  else if !argsOk then s.callResult 2 0
  else if busy then s.callResult 3 0
  else match check with
    | some k => (s.countCall true).callResult 1 k
    | none => (commit (s.countCall false)).callResult 0 0

/-- The first of a list of checks, numbered from 1, that fails. -/
def firstFail (cs : List Bool) : Option Nat := (cs.findIdx? (fun c => !c)).map (fun i => i + 1)

/-! ## Management processors and Forester (R469 to R471) -/

/-- The processor to which the Warden moves before its own is tested (R470): one of die 1 if any passes, the lowest of those. -/
def State.wardenTarget (s : State) : Option Nat :=
  let pass (k : Nat) : Bool := decide (s.mp k = 0)
  match [4, 5, 6, 7].find? pass with
  | some k => some k
  | none => (List.range 16).find? pass

/-- MP_TEST (R470): a processor is tested once per PERIOD_S; one that fails leaves service; with none left, the device asserts its fault contact. -/
def execMpTest (k : Fin 16) (pass : Bool) (s : State) : Host.Outcome State Fault Refusal :=
  let last := match tget (fun _ => 0) s.wdn.mpAt k with
    | 0 => s.boot.readyAt
    | t => t
  if !s.rotating ∨ s.mp k = 3 ∨ s.ns < last + s.regField rSMD_PERIOD 15 0 * 1000000000 then .next s
  else
    let s := { s with wdn := { s.wdn with mpAt := tset (fun _ => 0) s.wdn.mpAt k s.ns } }
    let s := if s.mp k = 1 then (match s.wardenTarget with
      | some j => s.moveWarden k j
      | none => s) else s
    if pass then .next s
    else
      let s := (s.setMp k 3).record ⟨sevDegraded, 20, 0, 9, k, 0, 0, 0, 0⟩
      if (List.range 16).all (fun j => decide (s.mp j = 3)) then
        .next { s.record ⟨sevDevice, 20, 0, 0, 0, 0, 0, 0, 0⟩ with boot := { s.boot with faultLow := true } }
      else .next s

/-- FORESTER_WATCHDOG (R471): 3 s without a HEARTBEAT restart Forester; after four restarts within an hour it is left stopped. -/
def execForesterWatchdog (s : State) : Host.Outcome State Fault Refusal :=
  if !s.powered ∨ s.boot.image.isNone ∨ bitOf (s.reg rWDN_STATUS) 11 ∨ s.ns < s.wdn.beatAt + 3000000000 then .next s
  else
    let recent := s.wdn.restarts.filter (fun t => decide (s.ns ≤ t + hoursNs 1))
    if 4 ≤ recent.length then .next ({ s with wdn := { s.wdn with restarting := false } }.orReg rWDN_STATUS 2048)
    else
      let s := { s with wdn := { s.wdn with restarting := true, beatAt := s.ns, restarts := recent ++ [s.ns] } }
      .next ((s.orReg rWDN_STATUS 4).record ⟨sevDegraded, 20, 2, 0, 0, 0, 0, 0, 0⟩)

/-- HEARTBEAT (R471, R480): restarts the watchdog; the first one shows that a restarted Forester runs. -/
def execHeartbeat (s : State) : Host.Outcome State Fault Refusal :=
  .next ({ s with wdn := { s.wdn with restarting := false } }.call true false none (fun s => { s with wdn := { s.wdn with beatAt := s.ns } }))

/-! ## Slots, repairs and ports -/

/-- SLOT_OP (R480): an operation of SMD_CMD on a slot of a die. -/
def execSlotOp (die slot op : Word) (s : State) : Host.Outcome State Fault Refusal :=
  let p := die.toNat * 144 + slot.toNat
  .next (s.call (decide (die.toNat < 4) && decide (slot.toNat < 144) && decide (op.toNat ≤ 6)) false
    (if s.stage < 4 then some 1 else s.slotOpCheck op.toNat p) (fun s => s.smdGo op.toNat p))

/-- SOFT_REPAIR (R480): a diagnostic pass located the row or column within the last second, and the union fits the spares. While the array streams or loads
the map cannot change (spec/02 R91): BUSY. -/
def execSoftRepair (die slot array : Word) (row : Bool) (idx : Word) (s : State) : Host.Outcome State Fault Refusal :=
  let p := die.toNat * 144 + slot.toNat
  let a := array.toNat
  let i := idx.toNat
  let ok := decide (die.toNat < 4) && decide (slot.toNat < 144) && decide (a < 4) && decide (i ≤ if row then 65 else 66)
  let key := s.pageKey p (rARR_REPAIRa + 8 * a)
  let located := match s.holder p with
    | some n => (match ((s.core n).array a).located with
      | some (c, r, t) => decide ((if row then r else c) = i) && decide (s.ns ≤ t + 1000000000)
      | none => false)
    | none => false
  let new := if row then markRow (s.reg key) i else markCol (s.reg key) i
  let fits := match new with
    | some w => !overSpares w (Config.arrFuse p a)
    | none => false
  let busy := match s.holder p with
    | some n => (s.core n).streaming a || (s.core n).loading a
    | none => false
  .next (s.call ok busy (firstFail [located, fits]) (fun s =>
    let s := (s.journal (if row then 3 else 4) p (a * 2 ^ 48 + i * 2 ^ 41)).modSlot p (fun y => { y with repaired := true })
    match s.holder p, new with
    | some n, some w => (s.writeRepair n a w).smdStat 2
    | _, _ => s))

/-- SET_SLACK (R480): ADJUST of an input of a present core. -/
def execSetSlack (core link adjust : Word) (s : State) : Host.Outcome State Fault Refusal :=
  .next (s.call (decide (core.toNat < 512) && decide (link.toNat < 4)) false (firstFail [s.present core.toNat, decide (adjust.toNat ≤ 24)])
    (fun s => s.writeSlack core.toNat link.toNat adjust))

/-- ESC_INSTALL (R480, spec/08 R259, R260): the table set that Forester's management memory holds. -/
def execEscInstall (table : Bytes) (s : State) : Host.Outcome State Fault Refusal :=
  .next (s.call (escSetOk table) false (firstFail [s.escRouted (setEntry table)]) (fun s => s.installEsc table))

/-- PORT_MARK (R480): the escape tables installed stay valid under spec/08 R259. -/
def execPortMark (core port : Word) (down : Bool) (s : State) : Host.Outcome State Fault Refusal :=
  let marked (s : State) : State := match s.slotOf core.toNat with
    | some p => s.markPort p port.toNat down
    | none => s
  .next (s.call (decide (core.toNat < 512) && decide (port.toNat < 6)) false (firstFail [(marked s).escRouted s.escape]) marked)

/-- SEAM_REPAIR (R480, spec/08 R270): the repair wire is free, or is being freed. Control-tree, beacon and lattice wires come before mesh wires, and a lower mesh
link before a higher: a wire of a mesh link is not repaired while a lower link of the seam is down for want of repair wires. -/
def execSeamRepair (die seam wire data : Word) (s : State) : Host.Outcome State Fault Refusal :=
  let ok := decide (die.toNat < 4) && decide (seam.toNat < 2) && decide (wire.toNat < 128) && (decide (data.toNat < 3072) || decide (data.toNat = wireFree))
  let free := decide (s.seamWire die.toNat seam.toNat wire.toNat = wireFree) || decide (data.toNat = wireFree)
  let order := match seamLinkOf seam.toNat data.toNat with
    | some r => (List.range r).all (fun k => s.seamLinkUp die.toNat seam.toNat k)
    | none => true
  .next (s.call ok false (firstFail [free, order]) (fun s => s.setSeamWire die.toNat seam.toNat wire.toNat data.toNat))

/-- PPR_GO (R480, spec/09 R285): starts the repair of the row that PEAT_Cc_PPR holds. Whether it is hard, and so enters the defect map, the
spec leaves open: a free value. -/
def execPprGo (die chan : Word) (s : State) : Host.Outcome State Fault Refusal :=
  let k := die.toNat * 3 + chan.toNat
  let key := chanKey k rPEAT_Cc_PPR
  .next (s.call (decide (die.toNat < 4) && decide (chan.toNat < 3)) false (firstFail [bitOf (s.reg key) 63]) (fun s =>
    let (w, s) := s.fresh
    let s := if bitOf w 0 then s.journalEntry (BitVec.ofNat 64 (6 * 2 ^ 60 + k * 2 ^ 56 + s.regField key 55 28 * 2 ^ 28)) else s
    s.setReg key (setBit (s.reg key) 62 true)))

/-! ## Span tables and keys (R481, R482, R489) -/

/-- A window that some grant of the image allows (R481). -/
def State.windowGranted (s : State) (base limit ctrl : Word) : Bool :=
  match s.boot.image with
  | none => false
  | some i => i.windows.any (fun g =>
      let c := g.2.2.2
      decide (g.1.toNat ≠ 4095) && decide (field c 62 61 = field ctrl 62 61) &&
      (if field ctrl 62 61 = 0 then decide (field g.2.1 47 0 ≤ field base 47 0) && decide (field limit 47 0 ≤ field g.2.2.1 47 0)
        else decide (field g.2.1 12 0 = field base 12 0)) &&
      (List.range 5).all (fun b => !bitOf ctrl (56 + b) || bitOf c (56 + b)) &&
      (decide (field c 53 46 = 0xFF) || decide (field c 53 46 = field ctrl 53 46)))

/-- The writes of BASE, LIMIT and CTRL are none of those that R337 of spec/10 discards. -/
def State.windowWritable (s : State) (w : Nat) (base limit ctrl : Word) : Bool :=
  (!bitOf (s.reg (rSPAN_WINw_CTRL + 32 * w)) 63 || (decide (s.reg (rSPAN_WINw_BASE + 32 * w) = base) && decide (s.reg (rSPAN_WINw_LIMIT + 32 * w) = limit))) &&
  !(bitOf ctrl 63 && decide (field ctrl 62 61 = 0) && decide (field limit 47 0 ≤ field base 47 0))

/-- WINDOW_SET (R480, R481). -/
def execWindowSet (w base limit ctrl : Word) (s : State) : Host.Outcome State Fault Refusal :=
  .next (s.call (decide (w.toNat < 4096) && decide (base.toNat < 2 ^ 48) && decide (limit.toNat < 2 ^ 48)) false
    (firstFail [decide (w.toNat ≠ 4095), !bitOf ctrl 63 || s.windowGranted base limit ctrl, s.windowWritable w.toNat base limit ctrl])
    (fun s =>
      let s := if bitOf (s.reg (rSPAN_WINw_CTRL + 32 * w.toNat)) 63 then s else (s.spanWindowWrite w.toNat 0 base).spanWindowWrite w.toNat 1 limit
      s.spanWindowWrite w.toNat 2 ctrl))

/-- A key slot is bound to a device (R489). -/
def State.boundTo (s : State) (slot dev : Nat) : Bool := decide (tget (fun _ => 0) s.wdn.bound slot = dev + 1)

/-- A route entry that ROUTE_SET accepts (R482). -/
def State.routeAllowed (s : State) (dev : Nat) (e : Word) : Bool :=
  let slot := field e 29 22
  let group := field e 37 30
  match (s.boot.image.bind (fun i => i.routes.find? (fun r => decide (r.1.toNat = dev)))) with
  | some (_, l) => decide (group = field l 37 30) && bitOf e 21 == bitOf l 21 && (decide (slot = field l 29 22) || s.boundTo slot dev)
  | none => decide (group = 0) || (decide (0x80 ≤ group) && decide (group ≤ 0xFE) && bitOf e 21 && s.boundTo slot dev &&
      (s.spanKey (keyIndex slot (s.txPhase slot) 1)).valid)

/-- ROUTE_SET (R480, R482). -/
def execRouteSet (d entry : Word) (s : State) : Host.Outcome State Fault Refusal :=
  .next (s.call (decide (d.toNat < 65536)) false (firstFail [s.routeAllowed d.toNat entry]) (fun s => s.routeWrite (BitVec.ofNat 16 d.toNat) entry))

/-- KEY_SWITCH (R480): the idle phase of a slot, both of whose keys are valid, becomes its transmit phase. -/
def execKeySwitch (slot : Word) (s : State) : Host.Outcome State Fault Refusal :=
  let k := slot.toNat
  let idle := 1 - s.txPhase k
  .next (s.call (decide (1 ≤ k) && decide (k < 256)) false (firstFail [(s.spanKey (keyIndex k idle 0)).valid && (s.spanKey (keyIndex k idle 1)).valid])
    (fun s => s.keyIdxWrite (BitVec.ofNat 64 (k + idle * 2 ^ 16))))

/-! ## Resets, floors and fatal conditions (R466, R475, R484) -/

/-- RESET (R480, spec/14 R466): a request through BOOT_RESET; BUSY while GO reads as 1. -/
def execReset (kind core : Word) (keep : Bool) (s : State) : Host.Outcome State Fault Refusal :=
  let r : ResetReq := match kind.toNat with
    | 0 => .compute keep false
    | 1 => .compute keep true
    | 2 => .core core.toNat
    | _ => .module
  .next (s.call (decide (kind.toNat < 4) && decide (core.toNat < 512)) (bitOf (s.reg rBOOT_RESET) 63) (firstFail [decide (s.judgeReset r ≠ 2)])
    (fun s => s.bootResetWrite (BitVec.ofNat 64 (2 ^ 63 + b2n keep * 2 ^ 19 + kind.toNat * 2 ^ 16 + core.toNat))))

/-- A thermometer with v set bits in OTP from bit lo of the word at a (R472). -/
def State.raiseFloor (s : State) (a lo v : Nat) : State := s.setOtp a ((2 ^ v - 1) * 2 ^ lo)

/-- FLOOR_RAISE (R475, R480): a floor goes to the value in use once the module has been ready for an hour. -/
def execFloorRaise (which : Word) (s : State) : Host.Outcome State Fault Refusal :=
  .next (s.call (decide (which.toNat < 2)) false (firstFail [decide (s.stage = 4) && decide (s.boot.readyAt + hoursNs 1 ≤ s.ns)]) (fun s =>
    match s.boot.image with
    | none => s
    | some i =>
      if which = 0 then
        let e := field s.boot.imgSeq 63 48
        (s.raiseFloor 0x100 0 (min 64 e)).raiseFloor 0x108 0 (min 64 (e - 64))
      else (s.raiseFloor 0x110 0 (min 32 i.wsvn.toNat)).raiseFloor 0x110 32 (min 32 i.fsvn.toNat)))

/-- A FATAL_DEVICE condition (R484): loss of the control tree to a die, a failed OTP read after Stage 0, or a VCORE outside its absolute limits:
the record, and a module reset unless three such resets fell within the last hour. -/
def State.fatalDevice (s : State) (b : RecBody) : State :=
  let s := s.record b
  let recent := s.boot.fatals.filter (fun t => decide (s.ns ≤ t + hoursNs 1))
  if 3 ≤ recent.length then s.setReg rBOOT_STAGE (setBit (s.reg rBOOT_STAGE) 3 true)
  else { s with boot := { s.boot with fatals := recent ++ [s.ns] } }.moduleReset 4

/-- FATAL_DEVICE_CONDITION (R484). -/
def execFatalDeviceCondition (cause : Fin 3) (d : DieId) (s : State) : Host.Outcome State Fault Refusal :=
  if !s.powered ∨ !s.stage0 then .next s
  else .next (s.fatalDevice ⟨sevDevice, if cause = 2 then 22 else 20, if cause = 2 then 4 else 0, if cause = 1 then 0 else 3, if cause = 1 then 0 else d.val, 0, 0, 0, 0⟩)

/-! ## Shadow mode (spec/12 R411) -/

/-- Bytes of the digest ring: first address and length (spec/12 R410). -/
def State.digestRing (s : State) : Nat × Nat := (s.regField rMGT_SHADOWLOC 47 0, 2 ^ (s.regField rMGT_SHADOWLOC 51 48 + 6) * 64)

/-- Two digest records of one job compared (spec/12 R411). -/
def State.comparePair (s : State) (own got : Bytes) : State :=
  let skip (b : Bytes) : Bool := decide (leAt b 14 1 ≠ stSealed) || (leAt b 13 1).testBit 2
  if leAt own 0 8 ≠ leAt got 0 8 ∨ skip own ∨ skip got then s
  else if own.drop 32 = got.drop 32 then s.setRegField rMGT_SHADOWCNT 31 0 (min (s.regField rMGT_SHADOWCNT 31 0 + 1) (2 ^ 32 - 1))
  else (s.record ⟨sevDegraded, 21, 0, 0, 0, 0, 0, 0, 0⟩).setRegField rMGT_SHADOWCNT 31 0 0

/-- SHADOW_PAIR (R480, spec/12 R411): `rec` is the address of the local digest record, `got` what the span READ of the primary's record through
the window named returned; without it nothing is compared and the call is BUSY. -/
def execShadowPair (rec primary win addr : Word) (got : Option Bytes) (s : State) : Host.Outcome State Fault Refusal :=
  let q := s.digestRing
  let a := rec.toNat
  let ok := decide (q.1 ≤ a) && decide (a + 64 ≤ q.1 + q.2) && decide (a % 64 = 0) && decide (primary.toNat < 65536) && decide (win.toNat < 4096) &&
    decide (addr.toNat < 2 ^ 48)
  let keyed := decide (s.keySlot (BitVec.ofNat 16 primary.toNat) ≠ 0)
  let (go, s) := if ok then s.snooped a 64 false else (true, s)
  .next (s.call ok (keyed && (got.isNone || !go)) (firstFail [keyed]) (fun s =>
    match got, s.readMem a 64 with
    | some g, (some b, s) => s.comparePair b (g.take 64)
    | _, (_, s) => s))

/-- SHADOW_EXIT (R480, spec/12 R411): CLEAN_JOBS consecutive equal pairs. -/
def execShadowExit (s : State) : Host.Outcome State Fault Refusal :=
  .next (s.call true false (firstFail [decide (s.paramN 0x23 0 100000 ≤ s.regField rMGT_SHADOWCNT 31 0)])
    (fun s => { s with wdn := { s.wdn with shadowDone := true } }))

/-! ## Notes and time -/

/-- LOG_NOTE (R480, R490): an error record from Forester, of SOURCE 24. -/
def execLogNote (sev code d0 d1 : Word) (s : State) : Host.Outcome State Fault Refusal :=
  .next (s.call (decide (code.toNat < 65536)) false (firstFail [decide (sev.toNat ≤ sevDegraded)])
    (fun s => s.record ⟨sev.toNat, 24, code.toNat, 0, 0, 0, 0, d0, d1⟩))

/-- TIME_STEP (R480, R497): the time base goes forward at once. -/
def execTimeStep (ns : Word) (s : State) : Host.Outcome State Fault Refusal :=
  .next (s.call true false (firstFail [decide (1 ≤ ns.toNat) && decide (ns.toNat ≤ 2 ^ 62)]) (fun s =>
    { s with time := s.time + ns.toNat * 2 ^ 32 }.setReg rMGT_TIMESTEP (s.reg rMGT_TIMESTEP + ns)))

end Sys2Proof.Machine
end

