-- ==== Sys2Proof/Machine/Mgmt.lean ====
section
/-! DEFINITION. Key exchange between modules, identity and attestation, the management ports, and the time base (spec/15 R472, R473,
R487 to R489, R491, R493, R494, R497; spec/11 R364). -/

namespace Sys2Proof.Machine

/-! ## Keys between modules (R489) -/

/-- The exchange in progress with a device. -/
def State.kxWith (s : State) (dev : BitVec 16) : Option Kx := s.wdn.kxs.find? (fun k => decide (k.dev = dev))
/-- The exchange with a device replaced, or removed. -/
def State.setKx (s : State) (dev : BitVec 16) (k : Option Kx) : State :=
  let rest := s.wdn.kxs.filter (fun x => decide (x.dev ≠ dev))
  { s with wdn := { s.wdn with kxs := rest ++ k.toList } }
/-- An exchange is abandoned: nothing is installed. -/
def State.abandonKx (s : State) (dev : BitVec 16) : State := (s.setKx dev none).orReg rWDN_STATUS 8

/-- n × 8 bytes that nothing constrains. -/
def State.freshBytes (s : State) : Nat → Bytes × State
  | 0 => ([], s)
  | n + 1 =>
    let (w, s) := s.fresh
    let (b, s) := s.freshBytes n
    (leBytes 8 w.toNat ++ b, s)

/-- CUSTHASH of OTP (R472). -/
def State.custHash (s : State) : Bytes := tread zeroByte s.otp 0xA0 32

/-- A key exchange message: its 16 B header and its body. -/
def kxMessage (kind : Nat) (own : BitVec 16) (id : Word) (body : Bytes) : Bytes :=
  leBytes 1 kind ++ leBytes 3 0 ++ leBytes 2 own.toNat ++ leBytes 2 0 ++ leBytes 8 id.toNat ++ body

/-- A message leaves as a span WRITE into a slot of the peer's WDN_KXBOX; the spec names no slot: a free value. -/
def State.kxSend (s : State) (dev : BitVec 16) (kind : Nat) (id : Word) (body : Bytes) : State :=
  let (w, s) := s.fresh
  let m := kxMessage kind s.devNum id body
  s.inject { dst := ringOf (dev.toNat % 4), src := ringOf 1, type := .dmaWrite, fence := false, poison := false, adv := false, status := .ok
             tag := 2 ^ 28, addr := BitVec.ofNat 64 (dev.toNat * 2 ^ 48 + kxBoxBase + 512 * (w.toNat % 8)), region := false, len := m.length
             data := m, msg := none, span := none }

/-- The certificate chain leaves in pieces of 448 B. -/
def State.kxSendChain (s : State) (dev : BitVec 16) (id : Word) : State :=
  let n := max 1 (ceilDiv Config.certChain.length 448)
  (List.range n).foldl (fun s i => s.kxSend dev 1 id (leBytes 1 i ++ leBytes 1 n ++ (Config.certChain.drop (448 * i)).take 448)) s

/-- An exchange begins at this module. -/
def State.startKx (s : State) (dev : BitVec 16) (slot : Nat) (id : Word) (first : Bool) : State :=
  (s.setKx dev (some ⟨dev, slot, id, first, [], false, false, s.ns, []⟩)).kxSendChain dev id

/-- KEY_AGREE (R480, R489): the slot is free or bound to the device; BUSY while an exchange with it is in progress. -/
def execKeyAgree (d slot : Word) (s : State) : Host.Outcome State Fault Refusal :=
  let dev : BitVec 16 := BitVec.ofNat 16 d.toNat
  let k := slot.toNat
  let free := decide (1 ≤ k) && decide (k ≤ 255) && (decide (tget (fun _ => 0) s.wdn.bound k = 0) || s.boundTo k dev.toNat)
  .next (s.call (decide (d.toNat < 65536)) (s.kxWith dev).isSome (firstFail [free]) (fun s =>
    let (id, s) := s.fresh
    s.startKx dev k id true))

/-- The slot that a responder uses: KEY of its route entry for the peer, else the slot bound to it, else the lowest free one. -/
def State.responderSlot (s : State) (dev : BitVec 16) : Option Nat :=
  let free (k : Nat) : Bool := decide (tget (fun _ => 0) s.wdn.bound k = 0)
  let k := s.keySlot dev
  let slots := (List.range 255).map (fun i => i + 1)
  if k ≠ 0 ∧ (free k ∨ s.boundTo k dev.toNat) then some k
  else match slots.find? (fun k => s.boundTo k dev.toNat) with
    | some k => some k
    | none => slots.find? free

/-- A message taken from a slot of WDN_KXBOX when it has the KIND given: its sender, its identifier and its body. -/
def State.kxTake (s : State) (slot : Fin 8) (kind : Nat) : Option ((BitVec 16 × Word × Bytes) × State) :=
  let b := tread zeroByte s.wdn.kxBox (512 * slot.val) 512
  if leAt b 0 1 ≠ kind then none
  else some ((BitVec.ofNat 16 (leAt b 4 2), BitVec.ofNat 64 (leAt b 8 8), b.drop 16),
    { s with wdn := { s.wdn with kxBox := twrite zeroByte s.wdn.kxBox (512 * slot.val) (List.replicate 512 0) } })

/-- HELLO leaves: ephemeral point, nonce and CUSTHASH. -/
def State.sendHello (s : State) (k : Kx) : State :=
  let (r, s) := s.freshBytes 12
  let body := r ++ s.custHash
  (s.setKx k.dev (some { k with hello := true, log := body })).kxSend k.dev 2 k.id body

/-- A piece of the peer's chain (R489); when all have come, the chain shall lead to a Vygal root. -/
def State.takePiece (s : State) (k : Kx) (body : Bytes) : State :=
  let n := leAt body 1 1
  let k := { k with pieces := k.pieces.filter (fun x => decide (x.1 ≠ leAt body 0 1)) ++ [(leAt body 0 1, (body.drop 2).take 448)] }
  let piece (i : Nat) : Option Bytes := (k.pieces.find? (fun x => decide (x.1 = i))).map (fun x => x.2)
  if !(List.range n).all (fun i => (piece i).isSome) then s.setKx k.dev (some k)
  else if !Config.chainOk ((List.range n).flatMap (fun i => (piece i).getD [])) then s.abandonKx k.dev
  else
    let k := { k with certOk := true }
    let s := s.setKx k.dev (some k)
    if k.init_ ∧ !k.hello then s.sendHello k else s

/-- KX_CERT (R489): of two exchanges begun at once, that of the lower device number proceeds. -/
def execKxCert (slot : Fin 8) (_u : Unit) (s : State) : Host.Outcome State Fault Refusal :=
  match s.kxTake slot 1 with
  | none => .next s
  | some ((dev, id, body), s) =>
    let respond (s : State) : State := match s.responderSlot dev with
      | none => s
      | some k =>
        let s := s.startKx dev k id false
        match s.kxWith dev with
        | some x => s.takePiece x body
        | none => s
    match s.kxWith dev with
    | none => .next (respond s)
    | some k =>
      if k.id = id then .next (s.takePiece k body)
      else if k.init_ ∧ dev.toNat < s.devNum.toNat then .next (respond (s.abandonKx dev))
      else .next s

/-- KX_HELLO (R489): the responder answers a peer whose chain passed and whose CUSTHASH equals its own. -/
def execKxHello (slot : Fin 8) (s : State) : Host.Outcome State Fault Refusal :=
  match s.kxTake slot 2 with
  | none => .next s
  | some ((dev, id, body), s) => match s.kxWith dev with
    | none => .next s
    | some k =>
      if k.id ≠ id ∨ k.init_ ∨ !k.certOk ∨ k.hello then .next s
      else if (body.drop 96).take 32 ≠ s.custHash then .next (s.abandonKx dev)
      else
        let (r, s) := s.freshBytes 12
        let log := body.take 128 ++ r ++ s.custHash
        .next ((s.setKx dev (some { k with hello := true, log := log })).kxSend dev 3 id (r ++ s.custHash ++ (Config.sm2Keys log 1).take 32))

/-- One key written into the idle phase of a slot and committed. -/
def State.installKey (s : State) (slot dir : Nat) (key salt : Bytes) : State :=
  let idle := 1 - s.txPhase slot
  let s := s.setSpanKey (keyIndex slot idle dir) { SpanKey.zero with key := BitVec.ofNat 128 (ofLe key), salt := BitVec.ofNat 32 (ofLe salt) }
  s.keyIdxWrite (BitVec.ofNat 64 (slot + idle * 2 ^ 8 + dir * 2 ^ 9 + s.txPhase slot * 2 ^ 16 + 2 ^ 18))

/-- The keys of an exchange installed, and the slot bound (R489). -/
def State.finishKx (s : State) (k : Kx) : State :=
  let b := Config.sm2Keys k.log 0
  let there := ((b.take 16), ((b.drop 16).take 4))
  let back := ((b.drop 20).take 16, (b.drop 36).take 4)
  let tx := if k.init_ then there else back
  let rx := if k.init_ then back else there
  let s := (s.installKey k.slot 0 tx.1 tx.2).installKey k.slot 1 rx.1 rx.2
  { s with wdn := { s.wdn with bound := tset (fun _ => 0) s.wdn.bound k.slot (k.dev.toNat + 1) } }.setKx k.dev none

/-- KX_REPLY (R489): the initiator checks the confirmation S_B, confirms and installs. -/
def execKxReply (slot : Fin 8) (_u : Unit) (s : State) : Host.Outcome State Fault Refusal :=
  match s.kxTake slot 3 with
  | none => .next s
  | some ((dev, id, body), s) => match s.kxWith dev with
    | none => .next s
    | some k =>
      if k.id ≠ id ∨ !k.init_ ∨ !k.certOk ∨ !k.hello then .next s
      else
        let k := { k with log := k.log ++ body.take 128 }
        if (body.drop 128).take 32 ≠ (Config.sm2Keys k.log 1).take 32 ∨ (body.drop 96).take 32 ≠ s.custHash then .next (s.abandonKx dev)
        else
        .next ((s.kxSend dev 4 id ((Config.sm2Keys k.log 2).take 32)).finishKx k)

/-- KX_CONFIRM (R489): the responder checks the confirmation S_A and installs. -/
def execKxConfirm (slot : Fin 8) (_u : Unit) (s : State) : Host.Outcome State Fault Refusal :=
  match s.kxTake slot 4 with
  | none => .next s
  | some ((dev, id, body), s) => match s.kxWith dev with
    | none => .next s
    | some k =>
      if k.id ≠ id ∨ k.init_ ∨ !k.hello then .next s
      else if body.take 32 = (Config.sm2Keys k.log 2).take 32 then .next (s.finishKx k)
      else .next (s.abandonKx dev)

/-- KX_TIMEOUT (R489): an exchange without CONFIRM within 100 ms. -/
def execKxTimeout (dev : BitVec 16) (s : State) : Host.Outcome State Fault Refusal :=
  match s.kxWith dev with
  | some k => if k.since + 100000000 ≤ s.ns then .next (s.abandonKx dev) else .next s
  | none => .next s

/-! ## Identity and attestation (R487, R488) -/

/-- An answer of the responder. -/
def State.spdmAnswer (s : State) (a : SpdmAns) : State := { s with wdn := { s.wdn with spdm := { s.wdn.spdm with ans := a } } }
/-- UnexpectedRequest. -/
abbrev errUnexpected : Nat := 0x04
/-- InvalidRequest. -/
abbrev errInvalid : Nat := 0x01
/-- InvalidSession. -/
abbrev errSession : Nat := 0x02
/-- DecryptError. -/
abbrev errDecrypt : Nat := 0x06
/-- VersionMismatch. -/
abbrev errVersion : Nat := 0x41

/-- A request reaches the responder, which answers from Stage 1 on (spec/11 R355). -/
def State.spdm (s : State) (f : State → State) : State := if s.powered ∧ 1 ≤ s.stage then f s else s

/-- A request after NEGOTIATE_ALGORITHMS: UnexpectedRequest before it, and outside PROVISIONED and OWNED (R487). -/
def State.spdmLate (s : State) (f : State → State) : State :=
  s.spdm (fun s => if s.wdn.spdm.phase = 3 ∧ (s.lifecycle = 2 ∨ s.lifecycle = 3) then f s else s.spdmAnswer (.error errUnexpected))

/-- A session, when FINISH has completed it. -/
def State.secured (s : State) (session : BitVec 32) : Bool := s.wdn.spdm.sessions.any (fun x => decide (x.1 = session) && x.2.1)

/-- A request inside a secured session. -/
def State.spdmIn (s : State) (session : BitVec 32) (f : State → State) : State :=
  s.spdmLate (fun s => if s.secured session then f s else s.spdmAnswer (.error errSession))

/-- The sessions changed. -/
def State.setSessions (s : State) (l : List (BitVec 32 × Bool × Nat)) : State :=
  { s with wdn := { s.wdn with spdm := { s.wdn.spdm with sessions := l } } }

/-- GET_VERSION (R487): 1.2 and 1.3; the connection starts again. -/
def execGetVersion (s : State) : Host.Outcome State Fault Refusal :=
  .next (s.spdm (fun s => { s with wdn := { s.wdn with spdm := ⟨1, 0, [], .version [0x12, 0x13]⟩ } }))

/-- GET_CAPABILITIES (R487). -/
def execGetCapabilities (version : BitVec 8) (s : State) : Host.Outcome State Fault Refusal :=
  .next (s.spdm (fun s =>
    if s.wdn.spdm.phase ≠ 1 then s.spdmAnswer (.error errUnexpected)
    else if version = 0x12 ∨ version = 0x13 then
      { s with wdn := { s.wdn with spdm := { s.wdn.spdm with phase := 2, version := version, ans := .capabilities version } } }
    else s.spdmAnswer (.error errVersion)))

/-- NEGOTIATE_ALGORITHMS (R487). `common`: the requester offers SM2_P256, SM3_256 and AEAD_SM4_GCM, and nothing else is taken. -/
def execNegotiateAlgorithms (common : Bool) (s : State) : Host.Outcome State Fault Refusal :=
  .next (s.spdm (fun s =>
    if s.wdn.spdm.phase ≠ 2 then s.spdmAnswer (.error errUnexpected)
    else if common then { s with wdn := { s.wdn with spdm := { s.wdn.spdm with phase := 3, ans := .algorithms } } }
    else s.spdmAnswer (.error errInvalid)))

/-- GET_DIGESTS (R487): slot 0 only. -/
def execGetDigests (s : State) : Host.Outcome State Fault Refusal :=
  .next (s.spdmLate (fun s => s.spdmAnswer (.digests (Config.sm3 Config.certChain))))

/-- GET_CERTIFICATE (R487): part of the chain of slot 0. -/
def execGetCertificate (slot : BitVec 4) (off len : Nat) (s : State) : Host.Outcome State Fault Refusal :=
  .next (s.spdmLate (fun s => s.spdmAnswer (if slot = 0 then .certificate ((Config.certChain.drop off).take len) else .error errInvalid)))

/-- CHALLENGE (R487): signed with the identity key. -/
def execChallenge (slot : BitVec 4) (nonce : Bytes) (s : State) : Host.Outcome State Fault Refusal :=
  .next (s.spdmLate (fun s => s.spdmAnswer
    (if slot = 0 then .challengeAuth (Config.sm2Sign (Config.sm3 (Config.sm3 Config.certChain ++ nonce))) else .error errInvalid)))

/-- Absent logical cores. -/
def State.absentCount (s : State) : Nat := countN 512 (fun n => !s.present n)

/-- A measurement block (R488). -/
def State.measurement (s : State) (i : Nat) : Bytes :=
  let img (f : TurcaImage → Bytes) : Bytes := (s.boot.image.map f).getD []
  match i with
  | 1 => Config.sm3 Config.bootRom
  | 2 => Config.sm3 (img (fun x => x.wext))
  | 3 => Config.sm3 (img (fun x => x.fimg))
  | 4 => Config.sm3 (img (fun x => x.header))
  | 5 => Config.sm3 (tread zeroByte s.otp 0 16 ++ tread zeroByte s.otp 0xA0 32 ++ tread zeroByte s.otp 0x100 32)
  | 6 => Config.sm3 (s.dmap.flatMap (fun e => leBytes 8 e.toNat))
  | _ => leBytes 2 (s.regField rSMD_LAYOUT 15 0) ++ leBytes 2 s.absentCount ++ leBytes 4 0

/-- GET_MEASUREMENTS (R488): one block, or all of them. -/
def execGetMeasurements (index : BitVec 8) (s : State) : Host.Outcome State Fault Refusal :=
  let i := index.toNat
  .next (s.spdmLate (fun s => s.spdmAnswer
    (if 1 ≤ i ∧ i ≤ 7 then .measurements [(i, s.measurement i)]
    else if i = 0xFF then .measurements ((List.range 7).map (fun k => (k + 1, s.measurement (k + 1))))
    else .error errInvalid)))

/-- KEY_EXCHANGE (R487): a session begins. -/
def execKeyExchange (slot : BitVec 4) (session : BitVec 32) (exchange : Bytes) (s : State) : Host.Outcome State Fault Refusal :=
  .next (s.spdmLate (fun s =>
    if slot ≠ 0 ∨ s.wdn.spdm.sessions.any (fun x => decide (x.1 = session)) then s.spdmAnswer (.error errInvalid)
    else (s.setSessions (s.wdn.spdm.sessions ++ [(session, false, 0)])).spdmAnswer (.keyExchangeRsp session (Config.sm2Sign (Config.sm3 exchange)))))

/-- FINISH (R487): completes a session. `ok`: its HMAC verifies. -/
def execFinish (session : BitVec 32) (ok : Bool) (s : State) : Host.Outcome State Fault Refusal :=
  .next (s.spdmLate (fun s =>
    if !s.wdn.spdm.sessions.any (fun x => decide (x.1 = session) && !x.2.1) then s.spdmAnswer (.error errSession)
    else if ok then (s.setSessions (s.wdn.spdm.sessions.map (fun x => if x.1 = session then (session, true, x.2.2) else x))).spdmAnswer .finishRsp
    else (s.setSessions (s.wdn.spdm.sessions.filter (fun x => decide (x.1 ≠ session)))).spdmAnswer (.error errDecrypt)))

/-- SPDM HEARTBEAT (R487). -/
def execSpdmHeartbeat (session : BitVec 32) (s : State) : Host.Outcome State Fault Refusal :=
  .next (s.spdmIn session (fun s => s.spdmAnswer .heartbeatAck))

/-- KEY_UPDATE (R487). -/
def execKeyUpdate (session : BitVec 32) (s : State) : Host.Outcome State Fault Refusal :=
  .next (s.spdmIn session (fun s =>
    (s.setSessions (s.wdn.spdm.sessions.map (fun x => if x.1 = session then (session, true, x.2.2 + 1) else x))).spdmAnswer .keyUpdateAck))

/-- END_SESSION (R487). -/
def execEndSession (session : BitVec 32) (s : State) : Host.Outcome State Fault Refusal :=
  .next (s.spdmIn session (fun s => (s.setSessions (s.wdn.spdm.sessions.filter (fun x => decide (x.1 ≠ session)))).spdmAnswer .endSessionAck))

/-- Bits of OTP written from 0 to 1 (R472). -/
def State.writeOtp (s : State) (a : Nat) (bs : Bytes) : State :=
  { s with otp := twrite zeroByte s.otp a (bs.zipIdx.map (fun x => s.otpByte (a + x.2) ||| x.1)) }

/-- OWNERSHIP_RECORD (R473): a record signed with the Vygal firmware key, inside a secured session, moves the lifecycle from PROVISIONED to OWNED or
from OWNED to RMA. -/
def execOwnershipRecord (session : BitVec 32) (owned : Bool) (serial custKey : Bytes) (sigOk : Bool) (s : State) :
    Host.Outcome State Fault Refusal :=
  .next (s.spdmIn session (fun s =>
    let ok := sigOk && decide (serial = tread zeroByte s.otp 0x10 12) && decide (s.lifecycle = if owned then 2 else 3) &&
      (!owned || decide (custKey.length = 64))
    if !ok then s.spdmAnswer (.error errInvalid)
    else
      let n := s.lifecycle
      let s := if owned then (s.writeOtp 0x60 custKey).writeOtp 0xA0 ((Config.sm3 custKey).take 32) else s.writeOtp 0xC0 (List.replicate 32 0xFF)
      (s.setOtp 0 (2 ^ n)).spdmAnswer (.vendorDefined [])))

/-- IDE_KM (spec/11 R364): keys of a stream are programmed and the stream enabled or disabled; CXL_HSTAT.IDE reports it. -/
def execIdeKm (session : BitVec 32) (stream : Fin 3) (on : Bool) (s : State) : Host.Outcome State Fault Refusal :=
  .next (s.spdmIn session (fun s => (s.setReg rCXL_HSTAT (setBit (s.reg rCXL_HSTAT) (20 + stream.val) on)).spdmAnswer (.vendorDefined [])))

/-! ## Management ports (R493, R494) -/

/-- NETKEY_WRITE (R493, MGT_NETKEY): eight bytes of the key in rotation, the key held once its four parts have come; zero removes it. -/
def execNetkeyWrite (who : Initiator) (v : Word) (s : State) : Host.Outcome State Fault Refusal :=
  .next (s.gateReg who rMGT_NETKEY (fun s =>
    let w := s.wdn
    if v = 0 then { s with wdn := { w with netKey := [], netKeyAt := 0, netKeyOn := false } }
    else { s with wdn := { w with netKey := twrite zeroByte w.netKey (8 * w.netKeyAt) (leBytes 8 v.toNat), netKeyAt := (w.netKeyAt + 1) % 4
                                  netKeyOn := w.netKeyOn || decide (w.netKeyAt = 3) } }))

/-- The datagram that carries n records (R493). -/
def State.datagram (s : State) (recs : List Bytes) : Bytes :=
  let head := leBytes 4 0x4D474C5A ++ leBytes 2 1 ++ leBytes 1 recs.length ++ leBytes 1 (b2n s.wdn.netKeyOn) ++ leBytes 2 s.devNum.toNat ++ leBytes 2 0 ++
    tread zeroByte s.otp 0x10 12 ++ leBytes 8 0
  let body := head ++ recs.flatten
  body ++ (if s.wdn.netKeyOn then (Config.hmacSm3 (tread zeroByte s.wdn.netKey 0 32) body).take 32 else [])

/-- NET_DATAGRAM (R493): 1 to 16 records that wait, in SEQ order. -/
def execNetDatagram (s : State) : Host.Outcome State Fault Refusal :=
  if s.netQ.isEmpty ∨ !s.powered then .next s
  else .next { s with netQ := s.netQ.drop 16, wdn := { s.wdn with netSent := s.datagram (s.netQ.take 16) } }

/-- The value of a sensor (R494): 0 module input power, 1–4 VCORE and 5–8 hottest junction of each die, 9–20 temperature of each stack,
21 bring-up stage, 22 health. What value health takes the spec leaves open: a free value. -/
def State.sensor (s : State) (i : Nat) : Option Nat × State :=
  if i = 0 then (some (s.regField (dieKey 0 rPWR_MOD) 15 0), s)
  else if i ≤ 4 then (some (s.regField (dieKey (i - 1) rPWR_VCORE) 43 30), s)
  else if i ≤ 8 then (some (s.regField (dieKey (i - 5) rPWR_TEMP) 23 16), s)
  else if i ≤ 20 then (some (s.regField (stackKey (i - 9) rHTH_Ss_STATE) 31 24), s)
  else if i = 21 then (some s.stage, s)
  else if i = 22 then
    let (w, s) := s.fresh
    (some w.toNat, s)
  else (none, s)

/-- PLDM_SENSOR_READ (R494): answered from Stage 0 on. -/
def execPldmSensorRead (sensor : BitVec 8) (s : State) : Host.Outcome State Fault Refusal :=
  if !s.powered ∨ !s.stage0 then .next s
  else
    let (v, s) := s.sensor sensor.toNat
    .next { s with wdn := { s.wdn with pldmAns := v } }

/-- PLDM_MODULE_RESET (R483, R494): always granted. -/
def execPldmModuleReset (s : State) : Host.Outcome State Fault Refusal :=
  if !s.powered ∨ !s.stage0 then .next s else .next (s.askReset .module 3).2

/-- PLDM_COMPUTE_RESET (R483, R494): granted as REQ_COMPUTE_RESET but for the HOST flags. -/
def execPldmComputeReset (bist : Bool) (s : State) : Host.Outcome State Fault Refusal :=
  if !s.powered ∨ !s.stage0 then .next s else .next (s.askReset (.compute true bist) 3).2

/-! ## The time base and the log (R491, R497) -/

/-- What a reference clock period adds, in units of 2^-32 ns. -/
def State.tickStep (s : State) : Nat := ((10 * 2 ^ 32 * (1000000000 + signedN 32 (s.regField rMGT_TIMERATE 31 0))) / 1000000000).toNat

/-- TIME_BASE_TICK (R497). -/
def execTimeBaseTick (s : State) : Host.Outcome State Fault Refusal := if s.powered then .next { s with time := s.time + s.tickStep } else .next s

/-- A read by an initiator reaches a register. -/
def State.readReach (s : State) (who : Initiator) (key : Nat) : Bool := s.powered && (decide (who ≠ .host) || s.hostReach key)

/-- TIME_LOW_READ (R497): the high half stands for the initiator's next read of it; held as one more than its value. -/
def execTimeLowRead (who : Initiator) (s : State) : Host.Outcome State Fault Refusal :=
  if s.readReach who rMGT_TIME then .next { s with wdn := { s.wdn with latch := tset (fun _ => 0) s.wdn.latch (initCode who) (s.ns / 2 ^ 32 + 1) } }
  else .next s

/-- LOGDATA_READ (R491): bytes of the record of slot LOGIDX are read together; all ones before Stage 2. What an uncorrectable line reads
as the spec leaves open: a free value. -/
def execLogdataRead (who : Initiator) (s : State) : Host.Outcome State Fault Refusal :=
  if !s.readReach who rMGT_LOGDATAj then .next s
  else
    let (b, s) := if s.stage < 2 then (some (List.replicate 64 0xFF), s) else s.ringRead (logRing + s.regField rMGT_LOGIDX 15 0 * 64) 64
    let (b, s) := match b with
      | some b => (b, s)
      | none => s.freshBytes 8
    .next ((List.range 8).foldl (fun s j => s.setReg (rMGT_LOGDATAj + 8 * j) (BitVec.ofNat 64 (leAt b (8 * j) 8))) s)

end Sys2Proof.Machine
end

