-- ==== Sys2Proof/Machine/RegView.lean ====
section
/-! DEFINITION. What a read of a register returns: the stored value, with the fields that show other state as it stands (the register
sections of spec/02 to spec/15). -/

namespace Sys2Proof.Machine

/-- A word built of fields: value and lowest bit of each. -/
def word (fs : List (Nat × Nat)) : Word := BitVec.ofNat 64 ((fs.map (fun x => x.1 <<< x.2)).sum)

/-- Every bit set: what a read that names nothing returns. -/
def ones64 : Word := BitVec.allOnes 64

/-! ## Core page -/

/-- CORE_DOMAIN of a slot. -/
def Slot.domain (x : Slot) : Word := word [(b2n x.on, 0), (b2n x.iso, 1), (b2n x.rst, 2), (b2n x.routerOn, 3)]

/-- CORE_ID of logical core n. -/
def State.coreId (s : State) (n : Nat) : Word :=
  word [(n, 0), (n / 128, 9), (n / 8 % 16, 11), (n % 8, 15), ((s.slotOf n).getD 0 % 9, 18)]

/-- Byte a of ARR_STATE but for REPAIR_REJECT. While a diagnostic pass runs the shadow bank shows LOADING, its test tile, and the array
STREAMING (R89; DESIGN CHOICE, notes/assumptions/91.md). -/
def State.arrByte (s : State) (n a : Nat) : Nat :=
  let c := s.core n
  let x := c.array a
  let sh := if x.diag.isSome then 1 else match x.shadow with
    | .empty => 0
    | .loading _ => 1
    | .ready _ => 2
  sh + 4 * b2n (c.streaming a) + 8 * b2n (x.active.map (fun b => b.meadow) == some true) + 16 * b2n (x.active.map (fun b => b.trans) == some true)
    + 32 * b2n (s.unrepairable n a)

/-- ARR_STATE. -/
def State.arrState (s : State) (n : Nat) : Word :=
  (s.reg (coreKey n rARR_STATE) &&& 0x40404040) ||| word ((List.range 4).map (fun a => (s.arrByte n a, 8 * a)))

/-- SEQ_CFG. -/
def Core.seqCfg (c : Core) : Word :=
  let valid := ((List.range 8).filter (fun i => (c.cfgSlot i).isSome)).foldl (fun m i => m + 2 ^ i) 0
  word [(c.active, 0), (c.epoch, 4), (b2n (c.owner.isSome && !c.inputsSwitched), 7), (if c.owner.isSome then valid else 0, 8), (c.owner.getD 0, 16), (b2n c.owner.isSome, 18)]

/-- STATE of SEQ_TSTATt. -/
def Phase.code : Phase → Nat
  | .empty => 0
  | .loading => 1
  | .running => 2
  | .waiting => 3
  | .draining => 4
  | .suspended => 5

/-- SEQ_TSTATt. -/
def Core.tstat (c : Core) (t : Nat) : Word :=
  let k := c.task t
  word [(k.phase.code, 0), (k.endCode, 8), (b2n k.endValid, 16), (b2n k.async, 17), (c.refusal, 24), (k.pc, 32)]

/-- SEQ_TWAITt of slot t; its timer stands still while the slot is held. -/
def State.twait (s : State) (n t : Nat) : Word :=
  let k := s.task n t
  let now := if s.held n t then k.holdAt else s.ns
  match k.phase, k.wait with
  | .waiting, some w => word [(w.opc, 0), (w.operand % 256, 8), (min ((now - w.since) / 1000) (2 ^ 32 - 1), 16)]
  | .empty, _ => 0
  | _, _ => match (s.heldOps n t).head? with
    | some (_, opc) => word [(opc, 0), (field (Config.freeWord now) 31 0, 16)]
    | none => 0

/-- SEQ_RDATA: a register of the slot that SEQ_RSEL names, while the slot is held or DRAINING. -/
def State.rdata (s : State) (n : Nat) : Word :=
  let sel := s.reg (coreKey n rSEQ_RSEL)
  let t := field sel 1 0
  let i := field sel 9 5
  let k := s.task n t
  let shown := decide (k.phase = .draining) ||
    (s.held n t && (decide (k.phase = .running) || decide (k.phase = .waiting) || decide (k.phase = .suspended)))
  if !shown then ones64
  else match field sel 4 2 with
    | 0 => tget dWord k.g i
    | 1 => if i < 16 then tget dWord k.a i else ones64
    | 2 => if i < 8 then (tget (fun _ => 0) k.k i).setWidth 64 else ones64
    | 3 => if i < 8 then BitVec.ofNat 64 (b2n (k.preg i)) else ones64
    | _ => ones64

/-- SPAD_PAIRt_p. -/
def Task.pairReg (k : Task) (p : Nat) : Word :=
  let x := tget (fun _ => Pair.zero) k.pairs p
  if x.valid then word [(x.base, 0), (x.size, 32), (1, 63)] else 0

/-- SPAD_CIRCr. -/
def Circ.reg (x : Circ) : Word := if x.valid then word [(x.base, 0), (x.sizeLog2, 48), (x.owner, 60), (1, 63)] else 0
/-- SPAD_PTRr. -/
def Circ.ptr (x : Circ) : Word := word [(x.head, 0), (x.tail, 32)]

/-- A marker waits at the head of an input for CFGSW (spec/06 R206). -/
def Link.markerHeld (l : Link) (epoch : Nat) : Bool :=
  match l.queue with
  | .marker e _ :: _ => decide (e ≠ epoch)
  | _ => false

/-- LAT_STATUS. -/
def State.latStatus (s : State) (n : Nat) : Word :=
  let c := s.core n
  (s.reg (coreKey n rLAT_STATUS) &&& 0xFF) ||| word
    ([(b2n c.stopped, 14), (b2n c.drained, 15)] ++ (List.range 4).map (fun i => (b2n ((c.link i).markerHeld c.epoch), 16 + i))
      ++ (List.range 4).map (fun i => ((c.link i).inEpoch.getD 0, 20 + 3 * i)))

/-- Die row of a core and whether link i crosses a seam. -/
def crossesSeam (n m : Nat) : Bool := decide (n / 128 ≠ m / 128)

/-- LAT_ROUTEi (spec/06 R193, R195): three stages for each bypass slot, 12 for a seam, one for a diagonal. -/
def State.latRoute (s : State) (n i : Nat) : Word :=
  let used := b2n ((s.core n).activeSched.map (fun b => (linkUse b).testBit i) == some true)
  match neighbour n i, s.routeOf n i with
  | some m, some l =>
    let here := (s.slotOf n).getD 0 % 9
    let far := (s.slotOf m).getD 0 % 9
    let seam := crossesSeam n m
    let jog := if i % 2 = 1 ∨ far = here then 0 else if far < here then 1 else 2
    word [(1, 0), (used, 2), (b2n seam, 3), (l.length, 4), (jog, 6), (far, 8), (3 * l.length + 12 * b2n seam + (if jog = 0 then 0 else 1), 12)]
  | _, _ => word [(used, 2)]

/-- LAT_SLACKi. -/
def State.latSlack (s : State) (n i : Nat) : Word :=
  let l := (s.core n).link i
  word [(s.regField (coreKey n (rLAT_SLACKi + 8 * i)) 7 0, 0), (l.base, 8), (l.granted, 16)]

/-- LAT_OCCi. -/
def Link.occ (l : Link) : Word := word [(l.queue.length, 8), (l.depth, 16), (l.hwm, 24), (l.inProg.at_.getD 0, 32)]

/-- QUE_STATEq. -/
def Core.queState (c : Core) (q : Nat) : Word :=
  match c.queue q with
  | some x => word [(x.ring, 16), (x.entries.length, 22), (x.depth, 31), ((c.genOf q).toNat, 40), (x.table.length, 48), (x.resv.length, 55), (x.land, 58),
      (b2n x.desc, 60), (x.owner, 61), (1, 63)]
  | none => word [((c.genOf q).toNat, 40)]

/-- QUE_CHANt_j. -/
def Task.chans (k : Task) (j : Nat) : Word := word ((List.range 4).map (fun i => ((k.nextSeq (4 * j + i)).toNat, 16 * i)))

/-- SHF_STATEs. -/
def Core.shfState (c : Core) (h : Nat) : Word :=
  match c.sheaf h with
  | some x => word [(x.round % 2 ^ 20, 0), (x.table.length, 20), (x.lanes, 31), ((c.sgenOf h).toNat, 46), (b2n x.loss, 54), (x.round % 2, 55), (x.kind, 56),
      (b2n x.openCount, 58), (x.phase.code, 59), (x.owner, 61), (1, 63)]
  | none => word [((c.sgenOf h).toNat, 46)]

/-- SHF_COUNTs. -/
def Core.shfCount (c : Core) (h : Nat) : Word :=
  match c.sheaf h with
  | some x => word [(x.received, 0), (x.expect.getD 0xFFFFFFFF, 32)]
  | none => 0

/-- MESH_PORTp of the router of slot p. -/
def State.meshPort (s : State) (p port : Nat) : Word :=
  let r := s.router p
  let mark := b2n (bitOf (s.reg (s.slotPage p (rMESH_PORTp + 8 * port))) 62)
  let rp := ringPort p port
  let there := (linkTo p port).isSome || decide (port = 4) || rp.isSome
  word [(r.credit port 0, 0), (r.credit port 1, 4), (r.credit port 2, 8), (rp.getD 0, 55), (b2n rp.isSome, 60), (b2n there, 61), (mark, 62),
    (b2n (s.portDown p port), 63)]

/-- BCN_TAP. -/
def Core.tapReg (c : Core) : Word :=
  match c.tap with
  | some x => word [(x.group, 8), (x.slot, 16), (1, 63)]
  | none => 0

/-- SEAL_OWN. -/
def SealUnit.own (u : SealUnit) : Word :=
  word [(u.openWins.length, 0), ((u.openWins.head?.map (fun w => w.epoch.toNat)).getD 0, 32)]

/-- SEAL_TDEPt. -/
def Task.tdep (k : Task) : Word :=
  let held := match k.phase, k.wait with
    | .waiting, some w => decide (w.opc = 0x78)
    | _, _ => false
  word [(k.deps.length, 0), (k.deps.foldl (fun m d => max m d.depth) 0, 5), (b2n held, 8)]

/-- SEAL_BLKDATA. -/
def SealUnit.blkData (u : SealUnit) (b : Nat) : Word :=
  let rs := u.refsOn b
  word [(u.blockState b, 0), (rs.length, 4), (rs.foldl (fun m r => max m (popCount 64 r.lines.toNat)) 0, 8)]

/-- Views of the core page before LAT_: identity, arrays, row engine, sequencer, scratchpad. -/
def State.coreViewA (s : State) (n off : Nat) : Option Word :=
  let c := s.core n
  if off = rCORE_ID then some (s.coreId n)
  else if off = rCORE_DOMAIN then some (s.slotFor n).domain
  else if off = rARR_STATE then some (s.arrState n)
  else if rARR_FUSEa ≤ off ∧ off < rARR_FUSEa + 32 then some (Config.arrFuse ((s.slotOf n).getD 0) ((off - rARR_FUSEa) / 8) &&& 0xFFFFFFFF)
  else if off = rROW_STATDATA0 then some ((tget (fun _ => 0) c.stats (s.regField (coreKey n rROW_STATIDX) 13 0)).setWidth 64)
  else if off = rROW_STATDATA1 then some ((tget (fun _ => 0) c.stats (s.regField (coreKey n rROW_STATIDX) 13 0) >>> 64).setWidth 64)
  else if off = rSEQ_CTRL then some (s.reg (coreKey n off) ||| word ((List.range 4).map (fun t => (b2n ((c.task t).killed && decide ((c.task t).phase ≠ .empty)), t))))
  else if off = rSEQ_CFG then some c.seqCfg
  else if rSEQ_TSTATt ≤ off ∧ off < rSEQ_TSTATt + 256 then
    let t := (off - rSEQ_TSTATt) / 64
    let k := c.task t
    match (off - rSEQ_TSTATt) % 64 with
    | 0 => some (c.tstat t)
    | 8 => some k.detail
    | 16 => some (BitVec.ofNat 64 k.img.addr)
    | 24 => some (word [(k.number.toNat, 0), (k.tag.toNat, 32)])
    | 32 => some (s.twait n t)
    | _ => none
  else if off = rSEQ_RDATA then some (s.rdata n)
  else if off = rSPAD_STATUS then
    some (setBit (s.reg (coreKey n off)) 0 ((s.slotFor n).iso || (s.slotFor n).rst))
  else if rSPAD_PAIRt_p ≤ off ∧ off < rSPAD_PAIRt_p + 128 then some ((c.task ((off - rSPAD_PAIRt_p) / 32)).pairReg ((off - rSPAD_PAIRt_p) % 32 / 8))
  else if rSPAD_CIRCr ≤ off ∧ off < rSPAD_CIRCr + 256 then
    let x := c.circ ((off - rSPAD_CIRCr) / 16)
    some (if (off - rSPAD_CIRCr) % 16 = 0 then x.reg else x.ptr)
  else none

/-- Views of the core page from LAT_ on: lattice, queues, mesh, beacon tap, seals. -/
def State.coreViewB (s : State) (n off : Nat) : Option Word :=
  let c := s.core n
  let u := s.sealUnit n
  if off = rLAT_STATUS then some (s.latStatus n)
  else if rLAT_ROUTEi ≤ off ∧ off < rLAT_ROUTEi + 32 then some (s.latRoute n ((off - rLAT_ROUTEi) / 8))
  else if rLAT_SLACKi ≤ off ∧ off < rLAT_SLACKi + 32 then some (s.latSlack n ((off - rLAT_SLACKi) / 8))
  else if rLAT_OCCi ≤ off ∧ off < rLAT_OCCi + 32 then some (c.link ((off - rLAT_OCCi) / 8)).occ
  else if rQUE_STATEq ≤ off ∧ off < rQUE_STATEq + 512 then some (c.queState ((off - rQUE_STATEq) / 8))
  else if rQUE_CHANt_j ≤ off ∧ off < rQUE_CHANt_j + 128 then some ((c.task ((off - rQUE_CHANt_j) / 32)).chans ((off - rQUE_CHANt_j) % 32 / 8))
  else if rQUE_CHANPt ≤ off ∧ off < rQUE_CHANPt + 32 then some ((c.task ((off - rQUE_CHANPt) / 8)).pendBits.setWidth 64)
  else if rSHF_STATEs ≤ off ∧ off < rSHF_STATEs + 64 then some (c.shfState ((off - rSHF_STATEs) / 8))
  else if rSHF_COUNTs ≤ off ∧ off < rSHF_COUNTs + 64 then some (c.shfCount ((off - rSHF_COUNTs) / 8))
  else if off = rMESH_DMA then some (word [(c.dmas.length, 0), (c.pktsOut, 8)])
  else if rMESH_PORTp ≤ off ∧ off < rMESH_PORTp + 48 then some (s.meshPort ((s.slotOf n).getD 0) ((off - rMESH_PORTp) / 8))
  else if off = rBCN_TAP then some c.tapReg
  else if off = rSEAL_EPOCH then some (word [(u.next.toNat, 0), (u.incarn.toNat, 32)])
  else if off = rSEAL_OWN then some u.own
  else if rSEAL_TDEPt ≤ off ∧ off < rSEAL_TDEPt + 32 then some (c.task ((off - rSEAL_TDEPt) / 8)).tdep
  else if off = rSEAL_BLKDATA then some (u.blkData (s.regField (coreKey n rSEAL_BLKIDX) 11 0))
  else if rSEAL_LANEi ≤ off ∧ off < rSEAL_LANEi + 32 then
    let l := c.link ((off - rSEAL_LANEi) / 8)
    some (word [(l.received % 2 ^ 32, 0), (l.sc % 2 ^ 32, 32)])
  else none

/-- Views of the core page of a slot that holds no logical core: its domain, fuses and ports. -/
def State.slotView (s : State) (p off : Nat) : Option Word :=
  if off = rCORE_DOMAIN then some (s.slot p).domain
  else if off = rARR_STATE then
    some ((s.reg (slotKey p off) &&& 0x40404040) ||| word ((List.range 4).map (fun a =>
      (32 * b2n (overSpares (s.reg (slotKey p (rARR_REPAIRa + 8 * a))) (Config.arrFuse p a)), 8 * a))))
  else if rARR_FUSEa ≤ off ∧ off < rARR_FUSEa + 32 then some (Config.arrFuse p ((off - rARR_FUSEa) / 8) &&& 0xFFFFFFFF)
  else if off = rSPAD_STATUS then some (setBit (s.reg (slotKey p off)) 0 ((s.slot p).iso || (s.slot p).rst))
  else if rMESH_PORTp ≤ off ∧ off < rMESH_PORTp + 48 then some (s.meshPort p ((off - rMESH_PORTp) / 8))
  else none

/-! ## Die page -/

/-- MESH_SEAMj_STATE of die d. -/
def State.seamState (s : State) (d j : Nat) : Word :=
  let ready := decide (2 ≤ s.stage)
  let up := if ready then ((List.range 16).filter (fun r => s.seamLinkUp d j r)).foldl (fun m r => m + 2 ^ r) 0 else 0
  word [(b2n ready, 0), (3072, 28), (countN 128 (fun i => s.seamWire d j i != wireFree), 40), (up, 48)]

/-- Slice running in a test: 48 the march, 0x3F none. -/
def Slot.sliceNow (x : Slot) (running : Bool) : Nat :=
  match x.test with
  | none => 0x3F
  | some t => if t.inPlace ∧ !running then 0x3F else if t.pinch ∧ t.pinched < t.next then t.pinched else if t.next < 40 then t.next else 48

/-- SMD_Ss_STATE of physical slot p. -/
def State.smdState (s : State) (p : Nat) : Word :=
  let x := s.slot p
  let running := decide ((s.row (p / 9)).slice = some (p % 9))
  word [(x.service, 0), ((s.holder p).getD 0, 6), (b2n (s.holder p).isSome, 15), (x.sliceNow running, 16), (b2n running, 22),
    (b2n x.condActive, 23), (min x.fails 65535, 32), (min x.passes 65535, 48)]

/-- SMD_Ss_COND. -/
def Slot.condReg (x : Slot) : Word := word ((x.cells.take 4).zipIdx.map (fun q => (q.1 % 2048 + 2048, 12 * q.2)))

/-- Views of the die page of die d. -/
def State.dieView (s : State) (d off : Nat) : Option Word :=
  if off = rMESH_SEAMj_STATE then some (s.seamState d 0)
  else if off = rMESH_SEAMj_STATE + 64 then some (s.seamState d 1)
  else if off = rMESH_ESCDATA then
    let x := s.reg (dieKey d rMESH_ESCIDX)
    some (BitVec.ofNat 64 (if field x 7 0 < 144 ∧ field x 25 16 < 576 then tget escDefault s.escWritten ((d * 144 + field x 7 0) * 1024 + field x 25 16) else 0))
  else if rSMD_Ss_STATE ≤ off ∧ off < rSMD_Ss_STATE + 32 * 144 then
    let p := d * 144 + (off - rSMD_Ss_STATE) / 32
    match (off - rSMD_Ss_STATE) % 32 with
    | 0 => some (s.smdState p)
    | 8 => some (s.slot p).last
    | 16 => some (s.slot p).sig
    | _ => some (s.slot p).condReg
  else if off = rSMD_PXDATA then none
  else if (off = rPWR_ENV ∨ off = rPWR_MOD) ∧ d ≠ 0 then some 0
  else none

/-! ## Module blocks -/

/-- SMD_ROWr. -/
def State.smdRow (s : State) (r : Nat) : Word :=
  let m := s.row r
  let absent := ((List.range 8).filter (fun c => !s.present (r * 8 + c))).foldl (fun x c => x + 2 ^ c) 0
  word [(m.u.toNat, 0), ((s.resting r).getD 15, 9), (absent, 13), (b2n ((rowSlots r).any (fun p => decide ((s.slot p).service = svcCond))), 21),
    (b2n (!s.standIn r), 22), (b2n m.revising, 23), (s.lostCount r, 24)]

/-- SMD_ABSENTj. -/
def State.absentWord (s : State) (j : Nat) : Word :=
  BitVec.ofNat 64 (((List.range 64).filter (fun i => !s.present (64 * j + i))).foldl (fun m i => m + 2 ^ i) 0)

/-- TIER_LKDATA. -/
def State.lkData (s : State) : Word :=
  match s.pool.nameOf (s.regField rTIER_LKIDX 47 16 * 65536) with
  | some i => if bitOf (s.reg rTIER_STATUS) 9 then s.mapEntry i else ones64
  | none => ones64

/-- SPAN_KEYSTAT. -/
def State.keyStat (s : State) : Word :=
  let k := s.regField rSPAN_KEYIDX 7 0
  let ph := tget (fun _ => 0) s.span.txPhase k
  word ((List.range 4).map (fun i => (b2n (s.spanKey (4 * k + i)).valid, i)) ++ [(ph, 4), ((s.spanKey (keyIndex k ph 0)).ctr / 65536, 16)])

/-- CXL_RINGr_STAT (spec/11 R368, R371). -/
def State.ringStat (s : State) (r : Nat) : Word :=
  let x := s.ring r
  let js := s.ringJobs r
  let st := match x.phase with
    | .off => 0
    | .on => if s.stage < 4 then 1 else if js.any (fun j => decide (j.op = 3)) then 3 else 2
    | .draining => 4
    | .fault => 5
  word [(st, 0), (js.length, 11), (x.code, 28), (x.fetched.toNat, 32)]

/-- CXL_HSTAT. -/
def State.hstat (s : State) : Word := setField (s.reg rCXL_HSTAT) 2 0 s.stage

/-- CXL_IDENT: VENDOR and REVISION are the silicon's. -/
def identReg : Word := (regReset rCXL_IDENT &&& 0xFF00FFFF0000) ||| (Config.cxlIdent &&& 0xFF0000FFFF)

/-- WDN_FLOORS (spec/15 R475). -/
def State.floors (s : State) : Word := word [(s.fwFloor false, 0), (s.fwFloor true, 8), (min 255 (s.otpBits 0x100 16), 16)]

/-- WDN_DMAP (spec/15 R485, R486). -/
def State.dmapReg (s : State) : Word :=
  let g := (((List.range 4).filter (fun g => decide (s.otpWord (genWord g 0) ≠ 0))).getLast?).getD 0
  word [(countN 127 (fun i => s.otpWord (genWord g (i + 1)) != 0), 0), (g, 8), (min s.wdn.journal.length (2 ^ 22 - 1), 10),
    (ceilDiv s.wdn.journal.length 512, 32), (b2n s.wdn.jbroken, 63)]

/-- BCN_GSTATEg. -/
def State.gstate (s : State) (g : Nat) : Word :=
  let b := s.beacon g
  let st := match b.phase with
    | .idle => 0
    | .gathering => 1
    | .releasing => 2
    | .fault => 3
  word [(st, 0), (b.joined.length, 12), (s.members g, 22), (b.round % 2 ^ 32, 32)]

/-- Views of the module blocks. -/
def State.modView (s : State) (k : Nat) : Option Word :=
  if k = rTIER_LKDATA then some s.lkData
  else if k = rSPAN_KEYSTAT then some s.keyStat
  else if k = rCXL_IDENT then some identReg
  else if k = rCXL_HSTAT then some s.hstat
  else if k = rCXL_FE then some (setField (s.reg k) 26 16 (s.jobs.countP (fun e => e.2.isSome)))
  else if 0x2620000 ≤ k ∧ k < 0x2621000 then
    let r := (k - 0x2620000) / 64
    match k % 64 with
    | 0x20 => some (s.ringStat r)
    | 0x28 => some (word [((s.ring r).cr.toNat, 0), ((s.ring r).written.toNat, 32)])
    | _ => none
  else if k = rWDN_STATUS then some (setField (s.reg k) 10 8 s.lifecycle)
  else if k = rWDN_FLOORS then some s.floors
  else if k = rWDN_DMAP then some s.dmapReg
  else if k = rMGT_TIME then some (BitVec.ofNat 64 s.ns)
  else if k = rSMD_LAYOUT then
    some (setBit (setField (s.reg k) 25 16 s.absentCount) 63 ((List.range 64).any (fun r => (s.row r).revising)))
  else if rSMD_ROWr ≤ k ∧ k < rSMD_ROWr + 512 then some (s.smdRow ((k - rSMD_ROWr) / 8))
  else if rSMD_ABSENTj ≤ k ∧ k < rSMD_ABSENTj + 64 then some (s.absentWord ((k - rSMD_ABSENTj) / 8))
  else if rBCN_GCFGg ≤ k ∧ k < rBCN_GCFGg + 0x80 * 256 ∧ k % 0x80 = 8 then some (s.gstate ((k - rBCN_GCFGg) / 0x80))
  else none

/-! ## Reads -/

/-- First offset of the mailbox buffer. -/
def mboxBase : Nat := 0x2612000
/-- First offset of WDN_KXBOX. -/
def kxBase : Nat := 0x2810000

/-- An aligned 8-byte word of a byte buffer. -/
def bufWord (b : Tab Byte) (o : Nat) : Word := BitVec.ofNat 64 (ofLe (tread zeroByte b o 8))

/-- The stored value of a register without its write-only bits; a reserved offset reads zero (spec/00 R13). -/
def State.plainView (s : State) (key : Nat) : Word :=
  match regSpec key with
  | some r => s.reg key &&& ~~~(BitVec.ofNat 64 r.wo)
  | none => 0

/-- The views that a key has over the stored value. -/
def State.liveView (s : State) (key : Nat) : Option Word :=
  if key < 0x2000000 then
    let off := key % 0x10000
    if off < 0x6000 then s.coreViewA (key / 0x10000) off else s.coreViewB (key / 0x10000) off
  else if 0x100000000 ≤ key then s.slotView ((key - 0x100000000) / 0x10000) (key % 0x10000)
  else if key < 0x2400000 then s.dieView ((key - 0x2000000) / 0x100000) (key % 0x100000)
  else s.modView key

/-- What a read of the 64-bit register at a key returns to an initiator that reaches it (spec/00 R13). -/
def State.view (s : State) (who : Initiator) (key : Nat) : Word :=
  if s.absentPage key then ones64
  else if mboxBase ≤ key ∧ key < mboxBase + 0x1000 then bufWord s.wdn.mbox (key - mboxBase)
  else if kxBase ≤ key ∧ key < kxBase + 0x1000 then if who = .warden then bufWord s.wdn.kxBox (key - kxBase) else 0
  else match s.liveView key with
    | some v => v
    | none => s.plainView key

/-- The bits of a register that a read of its mask m clears go to zero (spec/00 R13): RC fields; the highest occupancy of LAT_OCCi. -/
def State.readClear (s : State) (key : Nat) (m : Word) : State :=
  if s.absentPage key then s
  else
    let s := match regSpec key with
      | some r => if r.rc = 0 then s else s.setReg key (s.reg key &&& ~~~(m &&& BitVec.ofNat 64 r.rc))
      | none => s
    let off := key % 0x10000
    if key < 0x2000000 ∧ rLAT_OCCi ≤ off ∧ off < rLAT_OCCi + 32 ∧ bitOf m 24 then
      s.modCore (key / 0x10000) (fun c =>
        let i := (off - rLAT_OCCi) / 8
        c.setLink i { c.link i with hwm := 0 })
    else s

end Sys2Proof.Machine
end

