-- ==== Sys2Proof/Machine/HostPort.lean ====
section
/-! DEFINITION. The host port: resets and link state that the host brings about, and the mailbox commands (spec/11 R354 to R357, spec/14
R448, R461, spec/15 R483). -/

namespace Sys2Proof.Machine

/-! ## Link and resets (R354) -/

/-- Every ring is OFF with ENABLE clear, and no job is in flight: none of them gets a record. -/
def State.dropRings (s : State) : State :=
  let s := (List.range 64).foldl (fun s r => (s.setRing r Ring.zero).setRegField (ringKey r rCXL_RINGr_CFG) 0 0 0) s
  { s with jobs := [] }

/-- PERST_ASSERT: the link and configuration space reset, rings are disabled and jobs get no records; a module reset follows the
deassertion once Stage 0 has been reached. -/
def execPerstAssert (s : State) : Host.Outcome State Fault Refusal :=
  if !s.powered ∨ s.port.perst then .next s
  else
    let s := (s.setReg rCXL_HSTAT (setField (setField (s.reg rCXL_HSTAT) 22 20 0) 18 8 0)).dropRings
    .next { s with port := { s.port with up := false, perst := true, downAt := s.ns }, boot := { s.boot with training := false, perst := s.stage0 } }

/-- PERST_DEASSERT: the module reset owed takes effect; neither configuration space nor the mailbox is kept (R461). -/
def execPerstDeassert (s : State) : Host.Outcome State Fault Refusal :=
  if !s.powered ∨ !s.port.perst then .next s
  else
    let s := { s with port := { s.port with perst := false } }
    if !s.boot.perst then .next s
    else
      let s := (s.setReg rCXL_MBCMD 0).setReg rCXL_MBRES 0
      .next ({ s with wdn := { s.wdn with mbox := [] }, boot := { s.boot with perst := false } }.moduleReset 1)

/-- LINK_DOWN: a hot reset or a link that fails; the link retrains and nothing else is reset. -/
def execLinkDown (s : State) : Host.Outcome State Fault Refusal :=
  if !s.port.up then .next s
  else
    let s := s.setReg rCXL_HSTAT (setField (s.reg rCXL_HSTAT) 16 8 0)
    .next { s with port := { s.port with up := false, downAt := s.ns } }

/-- CXL_LINK_UP: training ends with a speed, a width and a flit mode (CXL_HSTAT). -/
def execCxlLinkUp (speed : BitVec 3) (width : BitVec 6) (flit : BitVec 2) (s : State) : Host.Outcome State Fault Refusal :=
  if !s.boot.training ∨ s.port.perst ∨ s.port.up ∨ speed = 0 then .next s
  else
    let s := s.setReg rCXL_HSTAT (setField (s.reg rCXL_HSTAT) 18 8 (flit.toNat * 2 ^ 9 + speed.toNat * 2 ^ 6 + width.toNat))
    .next { s with port := { s.port with up := true } }

/-- CXL_RESET: a compute reset without BIST that keeps hearth, and every ring disabled once its jobs have ended. -/
def execCxlReset (s : State) : Host.Outcome State Fault Refusal :=
  if !s.stage0 then .next s
  else
    let s := (s.askReset (.compute true false) 5).2
    .next ((List.range 64).foldl (fun s r => s.ringCfgWrite r (setBit (s.reg (ringKey r rCXL_RINGr_CFG)) 0 false)) s)

/-! ## The mailbox (R356, R357) -/

/-- The opcodes of the mailbox and the stage from which each answers. -/
def mboxStage (opc : Nat) : Option Nat :=
  if opc = 0x01 ∨ opc = 0x02 then some 0
  else if opc = 0x10 ∨ opc = 0x11 ∨ opc = 0x12 ∨ opc = 0x20 ∨ opc = 0x21 then some 1
  else none

/-- A request that Forester handles. -/
def mboxForester (opc : Nat) : Bool := decide (0x10 ≤ opc) && decide (opc ≤ 0x12)

/-- Bytes of the mailbox buffer. -/
def State.mboxBytes (s : State) (n : Nat) : Bytes := tread zeroByte s.wdn.mbox 0 n

/-- LEN and the reserved bits of a request are as R357 lays them out. -/
def State.mboxPayloadOk (s : State) (opc : Nat) : Bool :=
  let len := s.regField rCXL_MBCMD 28 16
  if opc = 0x20 then decide (len = 8) && decide (ofLe (s.mboxBytes 8) < 2) else decide (len = 0)

/-- The code with which a request fails before it is handled: its stage, a Forester that is stopped or restarting, its payload
(R356, R357, spec/15 R471). -/
def State.mboxError (s : State) (opc : Nat) : Option Nat :=
  match mboxStage opc with
  | none => some 1
  | some st =>
    if s.stage < st ∨ (mboxForester opc ∧ bitOf (s.reg rWDN_STATUS) 11) then some 2
    else if mboxForester opc ∧ s.wdn.restarting then some 5
    else if !s.mboxPayloadOk opc then some 3
    else none

/-- A command completes: its result in the buffer and CXL_MBRES, and OWNER clear. -/
def State.mboxDone (s : State) (code : Nat) (res : Bytes) : State :=
  let s := { s with wdn := { s.wdn with mbox := twrite zeroByte s.wdn.mbox 0 res } }
  (s.setReg rCXL_MBRES (BitVec.ofNat 64 (res.length * 2 ^ 16 + code))).setRegField rCXL_MBCMD 63 63 0

/-- Firmware takes the command posted in the mailbox when it is the one named, or one that no opcode names. -/
def State.mailbox (s : State) (opc : Nat) (eff : State → State) : State :=
  let cmd := s.reg rCXL_MBCMD
  let posted := field cmd 15 0
  if !s.stage0 ∨ !bitOf cmd 63 ∨ (posted ≠ opc ∧ (mboxStage posted).isSome) then s
  else match s.mboxError posted with
    | some c => s.mboxDone c []
    | none => eff s

/-- Eight bytes of a register. -/
def regBytes (v : Word) : Bytes := leBytes 8 v.toNat

/-- Bytes of an ASCII string, padded with zero bytes. -/
def asciiPad (t : String) (n : Nat) : Bytes := (t.toList.map (fun c => BitVec.ofNat 8 c.toNat) ++ leBytes n 0).take n

/-- The result of IDENTIFY. -/
def State.identity (s : State) : Bytes :=
  let up := decide (1 ≤ s.stage)
  let fw (f : TurcaImage → Nat) : Nat := if up then (s.boot.image.map f).getD 0 else 0
  asciiPad "ZT1-512H" 16 ++ (List.range 12).map (fun i => s.otpByte (0x10 + i)) ++ leBytes 1 s.lifecycle ++ leBytes 1 (field identReg 39 32)
    ++ leBytes 1 (fw (fun i => i.wsvn.toNat)) ++ leBytes 1 (fw (fun i => i.fsvn.toNat)) ++ (if up then regBytes s.boot.imgSeq else leBytes 8 0)
    ++ leBytes 4 Config.romVersion.toNat ++ leBytes 1 (if up then field (s.reg rBOOT_IMAGE) 63 63 else 0xFF) ++ leBytes 19 0

/-- The result of GET_STATE. -/
def State.bringUpState (s : State) : Bytes :=
  let after (k : Nat) (v : Word) : Bytes := if k ≤ s.stage then regBytes v else leBytes 8 0
  regBytes (s.reg rBOOT_STAGE) ++ regBytes (s.reg rBOOT_TIMES) ++ after 2 (s.reg rBOOT_LINKS) ++ after 1 (s.reg rBOOT_IMAGE)

/-- A job put in a list in the order of its fetch, the latest first. -/
def putJob (j : Job) : List Job → List Job
  | [] => [j]
  | x :: xs => if x.fetchedAt ≤ j.fetchedAt then j :: x :: xs else x :: putJob j xs

/-- Running jobs whose plan is short of slack after a move (spec/13 R432): the 64 most recent. -/
def State.shortJobs (s : State) : List Job :=
  let js := s.jobs.filterMap (fun e => e.2.bind (fun j => if j.short ∧ j.phase = .running then some j else none))
  (js.foldl (fun l j => putJob j l) []).take 64

/-- The result of GET_LAYOUT. -/
def State.layoutResult (s : State) : Bytes :=
  let js := s.shortJobs
  leBytes 2 (s.regField rSMD_LAYOUT 15 0) ++ leBytes 2 s.absentCount ++ leBytes 2 js.length ++ leBytes 2 0
    ++ (List.range 8).flatMap (fun j => regBytes (s.absentWord j)) ++ (List.range 64).flatMap (fun r => regBytes (s.smdRow r)) ++ leBytes 16 0
    ++ js.flatMap (fun j => leBytes 8 j.tag)

/-- The result of GET_LOG_PTR. -/
def State.logPtr (s : State) : Bytes := leBytes 8 logRing ++ regBytes (s.reg rMGT_LOG) ++ regBytes (s.reg rMGT_LOGCNT)

/-- The result of GET_TELEMETRY. -/
def State.telemetry (s : State) : Bytes :=
  regBytes (s.reg (dieKey 0 rPWR_MOD)) ++ leBytes 8 0 ++ (List.range 4).flatMap (fun d =>
    regBytes (s.reg (dieKey d rPWR_VCORE)) ++ leBytes 8 (s.regField (dieKey d rPWR_PACE) 15 0) ++ regBytes (s.reg (dieKey d rPWR_TEMP))
      ++ regBytes (s.reg (dieKey d rPWR_STATUS)))

/-- IDENTIFY. -/
def execIdentify (s : State) : Host.Outcome State Fault Refusal := .next (s.mailbox 0x01 (fun s => s.mboxDone 0 s.identity))
/-- GET_STATE. -/
def execGetState (s : State) : Host.Outcome State Fault Refusal := .next (s.mailbox 0x02 (fun s => s.mboxDone 0 s.bringUpState))
/-- GET_LAYOUT. -/
def execGetLayout (s : State) : Host.Outcome State Fault Refusal := .next (s.mailbox 0x10 (fun s => s.mboxDone 0 s.layoutResult))
/-- GET_LOG_PTR. -/
def execGetLogPtr (s : State) : Host.Outcome State Fault Refusal := .next (s.mailbox 0x11 (fun s => s.mboxDone 0 s.logPtr))
/-- GET_TELEMETRY. -/
def execGetTelemetry (s : State) : Host.Outcome State Fault Refusal := .next (s.mailbox 0x12 (fun s => s.mboxDone 0 s.telemetry))

/-- A reset that the host asks for: refused before Stage 3 and by the flag of MGT_CTRL for its kind, and otherwise accepted (spec/15 R483). -/
def State.reqReset (s : State) (flag : Nat) (r : ResetReq) : State :=
  if s.stage < 4 then s.mboxDone 2 []
  else if !bitOf (s.reg rMGT_CTRL) flag then s.mboxDone 4 []
  else ((s.mboxDone 0 []).askReset r 2).2

/-- REQ_COMPUTE_RESET: with BIST as the payload asks; hearth is kept. -/
def execReqComputeReset (s : State) : Host.Outcome State Fault Refusal :=
  .next (s.mailbox 0x20 (fun s => s.reqReset 0 (.compute true (decide (ofLe (s.mboxBytes 8) = 1)))))
/-- REQ_MODULE_RESET. -/
def execReqModuleReset (s : State) : Host.Outcome State Fault Refusal := .next (s.mailbox 0x21 (fun s => s.reqReset 1 .module))

end Sys2Proof.Machine
end

