-- ==== Sys2Proof/Machine/Power.lean ====
section
/-! DEFINITION. The power manager: samples, control steps, thermal limits, droop and pace (spec/16 R505 to R511). -/

namespace Sys2Proof.Machine

/-! ## Limits (R505, R507) -/

/-- SUSTAIN_W of PWR_ENV. -/
def State.sustainW (s : State) : Nat := s.regField (dieKey 0 rPWR_ENV) 15 0
/-- PEAK_W of PWR_ENV. -/
def State.peakW (s : State) : Nat := s.regField (dieKey 0 rPWR_ENV) 31 16
/-- Samples that PEAK_MS is worth. -/
def State.peakSamples (s : State) : Nat := s.regField (dieKey 0 rPWR_ENV) 39 32 * 100
/-- The moving average over the samples of the last second. -/
def Power.average (p : Power) : Nat := p.samples.sum / max 1 p.samples.length
/-- Samples above a level within the last 100 ms. -/
def Power.aboveIn (p : Power) (w : Nat) : Nat := (p.samples.take 10000).countP (fun x => decide (w < x))

/-- SET_MV of die d. -/
def State.setMv (s : State) (d : Nat) : Nat := s.regField (dieKey d rPWR_VCORE) 29 16

/-- Lowest VCORE that R505 allows die d now. -/
def State.floorMv (s : State) (d : Nat) : Nat :=
  max (s.regField (dieKey d rPWR_LIMIT) 13 0) (if s.stage < 3 ∨ s.computeReset then 550 else 600)

/-- VCORE of die d lowered by some mV, no lower than R505 allows. -/
def State.lowerMv (s : State) (d mv : Nat) : State :=
  let v := s.setMv d
  if v ≤ s.floorMv d then s else s.setRegField (dieKey d rPWR_VCORE) 29 16 (max (s.floorMv d) (v - mv))

/-! ## Input power (R507) -/

/-- Of two times at least a period lies between them; before the first, none has passed. -/
def elapsed (last : Option Nat) (now period : Nat) : Bool :=
  match last with
  | some t => decide (t + period ≤ now)
  | none => true

/-- POWER_SAMPLE (R507): input power in W and VIN in units of 10 mV, every 10 µs; VIN within 1 % of a limit of its range sets RAIL_WARN. A sample above PEAK_W, or one that brings the samples above
SUSTAIN_W of the last 100 ms to PEAK_MS worth, lowers every die by 25 mV at once. -/
def execPowerSample (watts vin : BitVec 16) (s : State) : Host.Outcome State Fault Refusal :=
  if !s.powered ∨ !elapsed s.power.sampleAt s.ns 10000 then .next s
  else
    let s : State := if vin.toNat ≤ 4040 ∨ 5940 ≤ vin.toNat then s.orReg (dieKey 0 rPWR_STATUS) 64 else s
    let w := watts.toNat
    let p : Power := { s.power with samples := (w :: s.power.samples).take 100000, above := s.power.above || decide (s.sustainW < w), energy := s.power.energy + w
                                    sampleAt := some s.ns }
    let s : State := { s with power := { p with energy := p.energy % 100 } }.dieEvent 0 0x14 0 (p.energy / 100)
    let s : State := s.setReg (dieKey 0 rPWR_MOD) (BitVec.ofNat 64 (vin.toNat * 2 ^ 48 + p.average * 2 ^ 16 + w))
    if s.peakW < w ∨ (s.sustainW < w ∧ s.peakSamples ≤ p.aboveIn s.sustainW) then
      .next ((List.range 4).foldl (fun s d => (s.lowerMv d 25).orReg (dieKey d rPWR_STATUS) 8) s)
    else .next s

/-- Every limit on die d has a margin of 5 % (R507): the average, the last sample, the samples above SUSTAIN_W, the hottest junction and the current. -/
def State.margin (s : State) (d : Nat) : Bool :=
  let within (x lim : Nat) : Bool := decide (100 * x ≤ 95 * lim)
  within s.power.average s.sustainW && within (s.power.samples.headD 0) s.peakW && within (s.power.aboveIn s.sustainW) s.peakSamples &&
  within (s.regField (dieKey d rPWR_TEMP) 23 16) (s.regField (dieKey d rPWR_LIMIT) 47 40) && within (s.regField (dieKey d rPWR_VCORE) 53 44) 950

/-- What the limits ask of die d at a control step (R507 to R510): temperature, then the envelope, then droop and Forester's request. -/
def State.stepDie (s : State) (env : Bool) (total d : Nat) : State :=
  let stat := dieKey d rPWR_STATUS
  let top := min (s.regField (dieKey d rPWR_VCORE) 13 0) (s.regField (dieKey d rPWR_LIMIT) 27 14)
  let v := s.setMv d
  let junction := s.power.hot.contains d
  let stack := (List.range 3).any (fun k => decide (tget (fun _ => 0) s.tier.hot (3 * d + k) ≠ 0))
  if junction ∨ stack then
    let s := (s.lowerMv d 5).count (dieKey d rPWR_CNT) 31 0 1
    if junction then s.orReg stat 2 else s
  else if env ∧ total ≤ 4 * tget (fun _ => 0) s.power.dieW d then ((s.lowerMv d 5).count (dieKey d rPWR_CNT) 63 32 1).orReg stat 4
  else if s.power.droop.contains d ∨ top < v then s.lowerMv d 5
  else if v < s.floorMv d ∨ (v + 5 ≤ top ∧ s.margin d) then s.setRegField (dieKey d rPWR_VCORE) 29 16 (v + 5)
  else s

/-- POWER_CONTROL_STEP (R505, R507, R508): power in W over the last 100 µs, measured VCORE in mV and current in A of each die, every
100 µs. -/
def execPowerControlStep (dies : List (BitVec 16 × BitVec 14 × BitVec 10)) (s : State) : Host.Outcome State Fault Refusal :=
  if !s.powered ∨ !s.stage0 ∨ dies.length ≠ 4 ∨ !elapsed s.power.stepAt s.ns 100000 then .next s
  else
    let s : State := dies.zipIdx.foldl (fun s x => (s.setRegField (dieKey x.2 rPWR_VCORE) 43 30 x.1.2.1.toNat).setRegField (dieKey x.2 rPWR_VCORE) 53 44 x.1.2.2.toNat) s
    let w := dies.map (fun x => x.1.toNat)
    let s : State := { s with power := { s.power with dieW := twrite (fun _ => 0) [] 0 w } }
    let env := s.power.above || decide (s.sustainW < s.power.average)
    let s := (List.range 4).foldl (fun s d => s.stepDie env w.sum d) s
    .next { s with power := { s.power with above := false, droop := [], stepAt := some s.ns } }

/-! ## Temperature, droop and pace (R505, R506, R509, R511) -/

/-- Index of the first largest value. -/
def hottest (l : List Nat) : Nat := (l.findIdx? (fun x => l.all (fun y => decide (y ≤ x)))).getD 0

/-- THERMAL_SAMPLE (R509, R511): 20 junction sensors of a die in °C and the power of its rows over the last 1 ms in units of 10 mW. At TRIP_C the
module stops with FATAL_DEVICE. -/
def execThermalSample (d : DieId) (temps : List (BitVec 8)) (rowMw : List (BitVec 16)) (s : State) : Host.Outcome State Fault Refusal :=
  if !s.powered ∨ temps.length ≠ 20 ∨ rowMw.length ≠ 16 then .next s
  else
    let t := temps.map (fun x => x.toNat)
    let i := hottest t
    let c := t.getD i 0
    let s := s.setReg (dieKey d rPWR_TEMP) (BitVec.ofNat 64 (i * 2 ^ 24 + c * 2 ^ 16 + t.sum / 20))
    let s := rowMw.zipIdx.foldl (fun s x =>
      s.setReg (dieKey d (rPWR_ROWr + 8 * x.2)) (BitVec.ofNat 64 (actClass x.1.toNat * 2 ^ 24 + t.getD x.2 0 * 2 ^ 16 + x.1.toNat))) s
    let lim := s.reg (dieKey d rPWR_LIMIT)
    if field lim 55 48 ≤ c then .next ((s.record ⟨sevDevice, 22, 0, 3, d, 0, 0, 0, 0⟩).stopAll true true)
    else if field lim 47 40 ≤ c then .next { s with power := { s.power with hot := (s.power.hot ++ [d.val]).eraseDups } }
    else if c + 2 ≤ field lim 47 40 then .next { s with power := { s.power with hot := s.power.hot.filter (fun x => decide (x ≠ d.val)) } }
    else .next s

/-- VCORE_DROOP (R506): the converter holds its current limit and VCORE falls to `mv`; `long`: for more than 100 µs. Below 0.60 V for so long, or below
the absolute minimum at any moment, R484 of spec/15 applies. -/
def execVcoreDroop (d : DieId) (mv : BitVec 14) (long : Bool) (s : State) : Host.Outcome State Fault Refusal :=
  if !s.powered ∨ !s.stage0 then .next s
  else
    let s := ((s.setRegField (dieKey d rPWR_VCORE) 43 30 mv.toNat).setRegField (dieKey d rPWR_VCORE) 53 44 950).orReg (dieKey d rPWR_STATUS) 16
    let s : State := { s with power := { s.power with droop := (s.power.droop ++ [d.val]).eraseDups } }
    if (mv.toNat < 600 ∧ long) ∨ mv.toNat < 500 then .next (s.fatalDevice ⟨sevDevice, 22, 4, 3, d, 0, 0, 0, 0⟩) else .next s

/-- PACE_MEASURE (R505): the stage time of a die in ps, every 10 µs. -/
def execPaceMeasure (d : DieId) (ps : BitVec 16) (s : State) : Host.Outcome State Fault Refusal :=
  if !s.powered then .next s
  else
    let key := dieKey d rPWR_PACE
    .next ((s.setRegField key 15 0 ps.toNat).setRegField key 31 16 (max (s.regField key 31 16) ps.toNat))

end Sys2Proof.Machine
end

