-- ==== Sys2Proof/Machine/RegAccess.lean ====
section
/-! DEFINITION. Register accesses (spec/00 R10 to R14, spec/15 R476 to R478): size and alignment, who reaches a register, the ranges that
the register tables state, and SMD_PXDATA (spec/13). A register that a command of its own writes is written by that command's meaning. -/

namespace Sys2Proof.Machine

/-- The state that a command's meaning answers. -/
def State.via (s : State) : Host.Outcome State Fault Refusal → State
  | .next t => t
  | _ => s

/-- Bytes of BAR0 (spec/00 R11). -/
def barBytes : Nat := 0x4000000

/-- An aligned access of 4 or 8 bytes (spec/00 R10). -/
def accessOk (off size : Nat) : Bool := (decide (size = 4) || decide (size = 8)) && decide (off % size = 0)

/-- The bits of the 64-bit register that an access reaches. -/
def laneMask (off size : Nat) : Word :=
  if size = 8 then ones64 else if off % 8 = 0 then 0xFFFFFFFF else 0xFFFFFFFF00000000

/-- The CXL component registers (spec/11 R353). -/
def isComponent (off : Nat) : Bool := decide (0x2600000 ≤ off) && decide (off < 0x2610000)

/-! ## Writes with a rule of their own -/

/-- A counter of core n that some task's mask names (spec/15 R495). -/
def Core.evOwned (c : Core) (i : Nat) : Bool :=
  (List.range 4).any (fun u => (c.task u).holds && (c.task u).img.evc.testBit i)

/-- A write of EVC_CTL: RUN and CLEAR of the counters that no task owns; a change of any other is discarded with REJECT (spec/15 R495). -/
def State.evcCtl (s : State) (n : Nat) (v : Word) : State :=
  let key := coreKey n rEVC_CTL
  (List.range 8).foldl (fun s i =>
    if (s.core n).evOwned i then
      if bitOf v (8 + i) ∨ bitOf v i ≠ bitOf (s.reg key) i then s.orReg (coreKey n rEVC_STATUS) 256 else s
    else
      let s := s.setReg key (setBit (s.reg key) i (bitOf v i))
      if bitOf v (8 + i) then s.setReg (coreKey n (rEVC_CNTc + 8 * i)) 0 else s) s

/-- A write of the source or the count of a counter. -/
def State.evcReg (s : State) (n i key : Nat) (v : Word) : State :=
  if (s.core n).evOwned i then s.orReg (coreKey n rEVC_STATUS) 256 else s.regWrite key v

/-- A write of EVC_DCTL of die d. -/
def State.evcDctl (s : State) (d : Nat) (v : Word) : State :=
  (List.range 32).foldl (fun s i => if bitOf v (32 + i) then s.setReg (dieKey d (rEVC_DCNTi + 8 * i)) 0 else s)
    (s.setReg (dieKey d rEVC_DCTL) (BitVec.ofNat 64 (field v 31 0)))

/-- Fields within a range. -/
def inRange (v : Word) (hi lo least most : Nat) : Bool := decide (least ≤ field v hi lo) && decide (field v hi lo ≤ most)

/-- A write to PEAT_Cc_PPR: VALID for an initiator of class F, GO for the Warden (spec/15 R477, spec/09 R285). -/
def State.pprWrite (s : State) (who : Initiator) (key : Nat) (v : Word) : State :=
  let s := if bitOf v 63 then s.gate who key .f (fun s => s.setReg key (setBit (s.reg key) 63 false)) else s
  if bitOf v 62 then s.gate who key .w (fun s => if bitOf (s.reg key) 63 then s.setReg key (setBit (s.reg key) 62 true) else s) else s

/-- A PWR_ write that is out of range (spec/16). -/
def State.pwrReject (s : State) (d : Nat) : State := s.orReg (dieKey d rPWR_STATUS) 128

/-- The fields of a write to PWR_VCORE, PWR_LIMIT or PWR_ENV lie in their ranges. -/
def pwrOk (off : Nat) (v : Word) : Bool :=
  if off = rPWR_VCORE then inRange v 13 0 600 900 && decide (field v 13 0 % 5 = 0)
  else if off = rPWR_LIMIT then
    inRange v 55 48 90 120 && inRange v 47 40 60 105 && decide (field v 47 40 + 5 < field v 55 48) && inRange v 27 14 600 900 &&
    inRange v 13 0 550 (field v 27 14)
  else inRange v 39 32 0 10 && inRange v 31 16 (field v 15 0) 3600 && inRange v 15 0 1000 3000

/-- The limits that a PWR_ register holds: high and low bit of each. -/
def pwrLimits (off : Nat) : List (Nat × Nat) :=
  if off = rPWR_LIMIT then [(55, 48), (47, 40), (27, 14), (13, 0)] else if off = rPWR_ENV then [(39, 32), (31, 16), (15, 0)] else []

/-- A write to PWR_VCORE, PWR_LIMIT or PWR_ENV of die d: class W when it raises a limit, class F otherwise (spec/15 R477, spec/16). -/
def State.pwrWrite (s : State) (who : Initiator) (d off : Nat) (v : Word) : State :=
  let key := dieKey d off
  let old := s.reg key
  let raises := (pwrLimits off).any (fun q => decide (field old q.1 q.2 < field v q.1 q.2))
  if off = rPWR_ENV ∧ d ≠ 0 then s
  else s.gate who key (if raises then .w else .f) (fun s => if pwrOk off v then s.regWrite key v else s.pwrReject d)

/-- The fields of a write to SMD_CTRL, SMD_PERIOD or SMD_EMBER lie in their ranges (spec/13). -/
def smdOk (key : Nat) (v : Word) : Bool :=
  if key = rSMD_CTRL then inRange v 25 16 50 625
  else if key = rSMD_PERIOD then
    inRange v 63 56 1 255 && inRange v 55 48 1 255 && inRange v 47 32 10 10000 && inRange v 31 16 10 600 && inRange v 15 0 60 65535
  else inRange v 19 16 1 15 && inRange v 15 0 1 10000

/-- A write to SMD_CMD of die d (spec/13 R444): a reserved OP or a slot above 143 is discarded whole; GO starts the operation. -/
def State.smdCmdWrite (s : State) (who : Initiator) (d : Nat) (v : Word) : State :=
  let key := dieKey d rSMD_CMD
  let op := field v 15 12
  let slot := field v 7 0
  if 7 ≤ op ∨ 144 ≤ slot then (if who = .host then s.gateReg who key (fun s => s.smdStat 11) else s.smdStat 11)
  else if bitOf v 63 then (if who = .host ∧ !s.hostReach key then s else s.smdCmd who op (d * 144 + slot))
  else s.gateReg who key (fun s => s.setRegField key 15 0 (op * 4096 + slot))

/-- A write to CXL_RINGr_SQ, CXL_RINGr_CQ or CXL_RINGr_PL (spec/11 R368): discarded with RING_REJECT while ENABLE is set. -/
def State.ringAddrWrite (s : State) (r key : Nat) (v : Word) : State :=
  if bitOf (s.reg (ringKey r rCXL_RINGr_CFG)) 0 then s.orReg rCXL_STATUS 8
  else if key % 64 < 16 ∧ !inRange v 4 0 4 16 then s
  else s.regWrite key v

/-- Firmware owns the mailbox (spec/11 R356). -/
def State.mboxOwned (s : State) : Bool := bitOf (s.reg rCXL_MBCMD) 63

/-- A write of n bytes to the mailbox buffer. -/
def State.mboxWrite (s : State) (off n v : Nat) : State :=
  if s.mboxOwned then s.orReg rCXL_STATUS 4
  else { s with wdn := { s.wdn with mbox := twrite zeroByte s.wdn.mbox (off - mboxBase) (leBytes n v) } }

/-! ## Writes by page -/

/-- A write to a register of the core page of logical core n. -/
def State.writeCore (s : State) (who : Initiator) (n off : Nat) (v : Word) : State :=
  let key := coreKey n off
  let c : CoreId := Fin.ofNat 512 n
  let plain : State := s.gateReg who key (fun s => s.regWrite key v)
  if rARR_REPAIRa ≤ off ∧ off < rARR_REPAIRa + 32 then s.via (execArrRepairWrite who c (Fin.ofNat 4 ((off - rARR_REPAIRa) / 8)) v s)
  else if off = rARR_DIAG then s.via (execDiagPass who c v s)
  else if rDRN_CFGd ≤ off ∧ off < rDRN_CFGd + 128 then
    if (off - rDRN_CFGd) % 32 = 24 then s
    else s.via (execDrnCfgWrite who c (Fin.ofNat 4 ((off - rDRN_CFGd) / 32)) (Fin.ofNat 3 ((off - rDRN_CFGd) % 32 / 8)) v s)
  else if off = rDRN_CKCFG then s.gateReg who key (fun s => if inRange v 3 0 6 12 then s.regWrite key v else s)
  else if rROW_STATWINt ≤ off ∧ off < rROW_STATWINt + 32 then s.via (execRowStatwinWrite who c (Fin.ofNat 4 ((off - rROW_STATWINt) / 8)) v s)
  else if off = rSEQ_CTRL then
    let s1 := s.via (execSeqHold who c (BitVec.ofNat 4 (field v 11 8)) s)
    if field v 3 0 = 0 ∨ !s.mayWrite who .f then s1 else s1.via (execSeqKill who c (BitVec.ofNat 4 (field v 3 0)) s1)
  else if rSEQ_TSTATt ≤ off ∧ off < rSEQ_TSTATt + 256 then
    if (off - rSEQ_TSTATt) % 64 = 0 then
      s.gateReg who key (fun s => if bitOf v 16 then s.modTask n ((off - rSEQ_TSTATt) / 64) (fun k => { k with endValid := false }) else s)
    else s
  else if off = rSPAD_PWR then s.via (execSpadPwrWrite who c v s)
  else if off = rLAT_CTRL then s.via (if bitOf v 0 then execLatStopSet who c s else execLatStopClear who c s)
  else if rLAT_SLACKi ≤ off ∧ off < rLAT_SLACKi + 32 then s.via (execLatSlackWrite who c (dirOf ((off - rLAT_SLACKi) / 8)) v s)
  else if off = rQUE_POSY then s.via (execPosyRead who c v s)
  else if off = rMESH_TMO then s.gateReg who key (fun s => if inRange v 63 32 1 4000000 ∧ inRange v 31 0 1 4000000 then s.regWrite key v else s)
  else if rMESH_PORTp ≤ off ∧ off < rMESH_PORTp + 48 then
    s.gateReg who key (fun s => match s.slotOf n with
      | some p => s.markPort p ((off - rMESH_PORTp) / 8) (bitOf v 62)
      | none => s)
  else if off = rSEAL_CTRL then s.gateReg who key (fun s => if inRange v 63 32 10 4000000 then s.regWrite key v else s.coreStat n rSEAL_STATUS 10)
  else if off = rSEAL_BLKIDX then s.gateReg who key (fun s => if field v 11 0 < 3072 then s.regWrite key v else s)
  else if off = rEVC_CTL then s.gateReg who key (fun s => s.evcCtl n v)
  else if rEVC_SELc ≤ off ∧ off < rEVC_SELc + 64 then s.gateReg who key (fun s => s.evcReg n ((off - rEVC_SELc) / 8) key v)
  else if rEVC_CNTc ≤ off ∧ off < rEVC_CNTc + 64 then s.gateReg who key (fun s => s.evcReg n ((off - rEVC_CNTc) / 8) key v)
  else plain

/-- A write to a register of the core page of a slot that holds no logical core. -/
def State.writeSlot (s : State) (who : Initiator) (p off : Nat) (v : Word) : State :=
  let key := slotKey p off
  s.gateReg who key (fun s =>
    if rMESH_PORTp ≤ off ∧ off < rMESH_PORTp + 48 then s.markPort p ((off - rMESH_PORTp) / 8) (bitOf v 62)
    else if rARR_REPAIRa ≤ off ∧ off < rARR_REPAIRa + 32 then if !repairBad v then s.regWrite key v else s.orReg (slotKey p rARR_STATE) (2 ^ (8 * ((off - rARR_REPAIRa) / 8) + 6))
    else match regSpec key with
      | some r => if r.w1s = 0 then s.regWrite key v else s.regWrite key (v &&& ~~~(BitVec.ofNat 64 r.w1s))
      | none => s)

/-- A write to a register of the page of die d. -/
def State.writeDie (s : State) (who : Initiator) (d off : Nat) (v : Word) : State :=
  let key := dieKey d off
  let die : DieId := Fin.ofNat 4 d
  let plain : State := s.gateReg who key (fun s => s.regWrite key v)
  let inBank (base n : Nat) : Bool := decide (base ≤ off) && decide (off < base + 64 * n) && decide ((off - base) % 64 = 0)
  if inBank rPEAT_Cc_SCRUB 3 then s.gateReg who key (fun s => if field v 15 0 ≤ 168 then s.regWrite key v else s)
  else if inBank rPEAT_Cc_PPR 3 then s.pprWrite who key v
  else if inBank rRTL_Pp_CFG 3 then s.via (execRtlCfgWrite who (Fin.ofNat 12 (3 * d + (off - rRTL_Pp_CFG) / 64)) v s)
  else if off = rPWR_VCORE ∨ off = rPWR_LIMIT ∨ off = rPWR_ENV then s.pwrWrite who d off v
  else if off = rEVC_DCTL then s.gateReg who key (fun s => s.evcDctl d v)
  else if inBank rMESH_SEAMj_RPR 2 then s.via (execSeamRprWrite who die (Fin.ofNat 2 ((off - rMESH_SEAMj_RPR) / 64)) v s)
  else if off = rMESH_ESCDATA then s.via (execEscdataWrite who die v s)
  else if off = rSMD_CMD then s.smdCmdWrite who d v
  else if off = rSMD_PXSEL then
    s.gateReg who key (fun s => if field v 7 0 < 144 then s.regWrite key (setField v 18 16 0) else s.smdStat 11)
  else plain

/-- A write to a register of the CXL_ and MGT_ blocks that has a rule of its own. -/
def State.writeModA (s : State) (who : Initiator) (key : Nat) (v : Word) : Option State :=
  if key = rCXL_FE then some (s.gateReg who key (fun s => if inRange v 15 0 100 10000 then s.regWrite key v else s))
  else if key = rCXL_MBCMD then some (s.gateReg who key (fun s => if s.mboxOwned then s.orReg rCXL_STATUS 4 else s.regWrite key v))
  else if 0x2620000 ≤ key ∧ key < 0x2621000 then
    let r := (key - 0x2620000) / 64
    let ring : RingId := Fin.ofNat 64 r
    match key % 64 with
    | 0x00 | 0x08 | 0x10 => some (s.gateReg who key (fun s => s.ringAddrWrite r key v))
    | 0x18 => some (s.via (if bitOf v 0 then execRingEnable who ring v s else execRingDisable who ring v s))
    | _ => none
  else if key = rMGT_TIMERATE then
    some (s.gateReg who key (fun s => if (signedN 32 (field v 31 0)).natAbs ≤ 4000000 then s.regWrite key v else s))
  else if key = rMGT_NETKEY then some (s.via (execNetkeyWrite who v s))
  else if key = rMGT_SHADOWLOC then some (s.via (execShadowlocWrite who v s))
  else if key = rBOOT_RESET then some (s.gateReg who key (fun s => s.bootResetWrite v))
  else none

/-- A write to a register of the TIER_, SPAN_, SMD_ and BCN_ blocks that has a rule of its own. -/
def State.writeModB (s : State) (who : Initiator) (key : Nat) (v : Word) : Option State :=
  if key = rTIER_POLICY then some (s.via (execTierPolicyWrite who v s))
  else if rSPAN_CTRL ≤ key ∧ key ≤ rSPAN_ETH then some (s.via (execSpanCtrlWrite who (Fin.ofNat 3 ((key - rSPAN_CTRL) / 8)) v s))
  else if key = rSPAN_KEYIDX then some (s.via (execTxphaseWrite who v s))
  else if key = rSPAN_KEYDATA then some (s.via (execKeydataWrite who v s))
  else if rSPAN_WINw_BASE ≤ key ∧ key < rSPAN_WINw_BASE + 32 * 4096 ∧ key % 32 < 24 then
    some (s.via (execSpanWindowWrite who (BitVec.ofNat 12 ((key - rSPAN_WINw_BASE) / 32)) (Fin.ofNat 3 (key % 32 / 8)) v s))
  else if rSPAN_ROUTEd ≤ key ∧ key < rSPAN_ROUTEd + 8 * 65536 then some (s.via (execRouteEntryWrite who (BitVec.ofNat 16 ((key - rSPAN_ROUTEd) / 8)) v s))
  else if key = rSMD_CTRL ∨ key = rSMD_PERIOD ∨ key = rSMD_EMBER then
    some (s.gateReg who key (fun s => if smdOk key v then s.regWrite key v else s.smdStat 11))
  else if rBCN_GCFGg ≤ key ∧ key < rBCN_GCFGg + 0x80 * 256 then
    let g : GroupId := Fin.ofNat 256 ((key - rBCN_GCFGg) / 0x80)
    let o := key % 0x80
    if o = 0 then some (s.via (execBcnGcfgWrite who g 0 v s))
    else if o = 0x18 then some (s.via (execBeaconClear who g v s))
    else if 0x40 ≤ o then some (s.via (execBcnGcfgWrite who g (Fin.ofNat 9 ((o - 0x40) / 8 + 1)) v s))
    else none
  else none

/-- A 64-bit write by an initiator to the register at a key: it takes the effect that the register's own rule gives it. -/
def State.writeKey (s : State) (who : Initiator) (key : Nat) (v : Word) : State :=
  match regSpec key with
  | none => s
  | some r =>
    if r.rw = 0 ∧ r.w1c = 0 ∧ r.w1s = 0 ∧ r.wo = 0 then s
    else if key < 0x2000000 then s.writeCore who (key / 0x10000) (key % 0x10000) v
    else if 0x100000000 ≤ key then s.writeSlot who ((key - 0x100000000) / 0x10000) (key % 0x10000) v
    else if key < 0x2400000 then s.writeDie who ((key - 0x2000000) / 0x100000) (key % 0x100000) v
    else match s.writeModA who key v with
      | some t => t
      | none => match s.writeModB who key v with
        | some t => t
        | none => s.gateReg who key (fun s => s.regWrite key v)

/-- What stands in the RW bits of a register, in the entry that an indexed data register names and in a write-only register, for the half that a
32-bit write does not reach (R10). -/
def State.kept (s : State) (key : Nat) : Word :=
  if key = rMGT_NETKEY then bufWord s.wdn.netKey (8 * s.wdn.netKeyAt)
  else if key = rSPAN_KEYDATA then
    let x := s.reg rSPAN_KEYIDX
    let k := s.spanKey (keyIndex (field x 7 0) (field x 8 8) (field x 9 9))
    match field x 11 10 with
    | 0 => k.key.setWidth 64
    | 1 => (k.key >>> 64).setWidth 64
    | 2 => k.salt.setWidth 64
    | _ => 0
  else if 0x2000000 ≤ key ∧ key < 0x2400000 ∧ key % 0x100000 = rMESH_ESCDATA then (s.dieView ((key - 0x2000000) / 0x100000) rMESH_ESCDATA).getD 0
  else match regSpec key with
    | some r => s.reg key &&& BitVec.ofNat 64 r.rw
    | none => 0

/-! ## SMD_PXDATA (spec/13, spec/15 R477) -/

/-- Registers of the router domain within a core page: CORE_, LAT_, MESH_, BCN_ and SEAL_ blocks (spec/02 R56, spec/12 R384). -/
def routerDomain (off : Nat) : Bool :=
  decide (off < 0x1000) || (decide (0x6000 ≤ off) && decide (off < 0x7000)) || (decide (0x9000 ≤ off) && decide (off < 0xC000))

/-- Physical slot and key that SMD_PXSEL of die d names. -/
def State.pxTarget (s : State) (d : Nat) : Nat × Nat :=
  let x := s.reg (dieKey d rSMD_PXSEL)
  let p := d * 144 + field x 7 0 % 144
  (p, s.pageKey p (field x 31 16 / 8 * 8))

/-- A read through SMD_PXDATA of die d: all ones from the compute domain of a slot whose compute domain has no power. CORE_ID of a slot that
holds no logical core names its die, row and slot; the spec gives its COL and LOGICAL no value, so they are free. -/
def State.pxRead (s : State) (who : Initiator) (d : Nat) (m : Word) : Word × State :=
  let (p, key) := s.pxTarget d
  let off := key % 0x10000
  if !(s.slot p).on ∧ !routerDomain off then (ones64, s)
  else if off = rCORE_ID ∧ (s.holder p).isNone then
    let (w, s) := s.fresh
    (word [(field w 8 0, 0), (p / 144, 9), (p % 144 / 9, 11), (field w 11 9, 15), (p % 9, 18)], s)
  else (s.view who key, s.readClear key m)

/-- A write through SMD_PXDATA of die d, judged by the class of the register that it reaches. -/
def State.pxWrite (s : State) (who : Initiator) (d : Nat) (v : Word) : State :=
  let (p, key) := s.pxTarget d
  if !(s.slot p).on ∧ !routerDomain (key % 0x10000) then s else s.writeKey who key v

/-! ## Commands -/

/-- SMD_PXDATA_ACCESS: a read or a write of a core page's register, or of bytes of a scratchpad over the control tree (spec/05 R167, R184). -/
def execSmdPxdataAccess (who : Initiator) (d : DieId) (acc : PageAccess) (s : State) : Host.Outcome State Fault Refusal :=
  let key := dieKey d rSMD_PXDATA
  match acc with
  | .spad a x write => .next (if s.powered then s.treeAccess a.toNat (2 ^ x.val) write else s)
  | .page (some v) => .next (if s.powered ∧ (who ≠ .host ∨ s.hostReach key) then s.pxWrite who d v else s)
  | .page none =>
    if s.readReach who key then
      let (w, s) := s.pxRead who d ones64
      .next { s with rd := w }
    else .next { s with rd := ones64 }

/-- REGISTER_WRITE (spec/00 R10, R13, spec/15 R476 to R478). -/
def execRegisterWrite (who : Initiator) (off : BitVec 32) (size : Nat) (v : Word) (s : State) : Host.Outcome State Fault Refusal :=
  let o := off.toNat
  if !s.powered ∨ !accessOk o size ∨ barBytes ≤ o then .next s
  else if isComponent o then if who = .host ∧ !s.hostReach o then .next s else .refused .cxlComponentRegister
  else if mboxBase ≤ o ∧ o < mboxBase + 0x1000 then .next (s.gate who o .h (fun s => s.mboxWrite o size (v.toNat % 2 ^ (8 * size))))
  else
    let key := o - o % 8
    let m := laneMask o size
    let w := if o % 8 = 0 then v else v <<< 32
    let px := 0x2000000 ≤ key ∧ key < 0x2400000 ∧ key % 0x100000 = rSMD_PXDATA
    let full := (w &&& m) ||| (s.kept (if px then (s.pxTarget ((key - 0x2000000) / 0x100000)).2 else key) &&& ~~~m)
    if px then
      .next (if who ≠ .host ∨ s.hostReach key then s.pxWrite who ((key - 0x2000000) / 0x100000) full else s)
    else .next (s.writeKey who key full)

/-- The 64-bit value that a read of a key returns, and the state after it. A read of MGT_TIME returns the high half that its initiator's read
of the low half held (spec/15 R497). -/
def State.readKey (s : State) (who : Initiator) (key : Nat) (m : Word) : Word × State :=
  if key = rMGT_TIME then
    let held := tget (fun _ => 0) s.wdn.latch (initCode who)
    if m = 0xFFFFFFFF00000000 ∧ held ≠ 0 then 
      (BitVec.ofNat 64 ((held - 1) * 2 ^ 32), { s with wdn := { s.wdn with latch := tset (fun _ => 0) s.wdn.latch (initCode who) 0 } })
    else if m = 0xFFFFFFFF then (s.view who key, s.via (execTimeLowRead who s))
    else (s.view who key, s)
  else if key = rMGT_LOGDATAj then
    let s := s.via (execLogdataRead who s)
    (s.view who key, s)
  else if 0x2000000 ≤ key ∧ key < 0x2400000 ∧ key % 0x100000 = rSMD_PXDATA then s.pxRead who ((key - 0x2000000) / 0x100000) m
  else (s.view who key, s.readClear key m)

/-- READ_TO_CLEAR (spec/00 R10, R13, spec/11 R355): a register read; its RC fields clear once they are returned. -/
def execReadToClear (who : Initiator) (off : BitVec 32) (size : Nat) (s : State) : Host.Outcome State Fault Refusal :=
  let o := off.toNat
  if !accessOk o size ∨ !s.readReach who o then .next { s with rd := ones64 }
  else if barBytes ≤ o then .next { s with rd := 0 }
  else if isComponent o then .refused .cxlComponentRegister
  else
    let m := laneMask o size
    let (w, s) := s.readKey who (o - o % 8) m
    .next { s with rd := if size = 8 then w else if o % 8 = 0 then w &&& 0xFFFFFFFF else w >>> 32 }

end Sys2Proof.Machine
end

