-- ==== Sys2Proof/Machine/Scalar.lean ====
section
/-! DEFINITION. Control and scalar instructions (spec/04, control and scalar instruction table). -/

namespace Sys2Proof.Machine

/-- Write g[D] and go on. -/
def doneG (n t : Nat) (f : InsnBits) (v : Word) (s : State) : Try := .done (s.modTask n t (fun k => k.setG (fD f) v))

/-- NOP: nothing. -/
def tryNop (s : State) : Try := .done s

/-- END: the task passes to DRAINING with END_OK (spec/04 R150). -/
def tryEnd (n t : Nat) (s : State) : Try := .stop (s.endTask n t endOk 0)

/-- BR: PC := PC + IMM (R132). -/
def tryBr (n t : Nat) (f : InsnBits) (s : State) : Try := .jump s ((s.task n t).pc + (fImm64 f).toInt)

/-- JR: PC := g[A] bits 14:0. -/
def tryJr (n t : Nat) (f : InsnBits) (s : State) : Try := .jump s (field ((s.task n t).greg (fA f)) 14 0 : Nat)

/-- LOOP: count k[D] down and branch while it stays nonzero. -/
def tryLoop (n t : Nat) (f : InsnBits) (s : State) : Try :=
  let k := s.task n t
  let v := k.kreg (fD f)
  if v = 0 then .done s
  else
    let u := s.setTask n t (k.setK (fD f) (v - 1))
    let pc := k.pc + (fImm64 f).toInt
    if v - 1 = 0 then .done u else .jump (if 0 ≤ pc ∧ pc < k.img.codeLen then u else s) pc

/-- KSET: k[D] := low 32 bits of Rb. -/
def tryKset (n t : Nat) (f : InsnBits) (s : State) : Try :=
  .done (s.modTask n t (fun k => k.setK (fD f) ((k.rb f).setWidth 32)))

/-- FAULT: the task ends with USER, detail IMM. -/
def tryFault (n t : Nat) (f : InsnBits) (s : State) : Try := .stop (s.endTask n t endUser (fImm64 f))

/-- TIME: g[D] := the module time base in nanoseconds (spec/15 R497). -/
def tryTime (n t : Nat) (f : InsnBits) (s : State) : Try := doneG n t f (BitVec.ofNat 64 s.ns) s

/-- The scalar operations 0x10 to 0x1A on g[A] and Rb: MUL keeps the low 64 bits, shifts use bits 5:0, MIN and MAX are
signed. -/
def aluOp : Nat → Word → Word → Word
  | 0, a, b => a + b
  | 1, a, b => a - b
  | 2, a, b => a * b
  | 3, a, b => a &&& b
  | 4, a, b => a ||| b
  | 5, a, b => a ^^^ b
  | 6, a, b => a <<< (b.toNat % 64)
  | 7, a, b => a >>> (b.toNat % 64)
  | 8, a, b => a.sshiftRight (b.toNat % 64)
  | 9, a, b => if a.toInt ≤ b.toInt then a else b
  | _, a, b => if a.toInt ≤ b.toInt then b else a

/-- g[D] := g[A] op Rb. -/
def tryAlu (op n t : Nat) (f : InsnBits) (s : State) : Try :=
  let k := s.task n t
  doneG n t f (aluOp op (k.greg (fA f)) (k.rb f)) s

/-- MOVI: g[D] := IMM. -/
def tryMovi (n t : Nat) (f : InsnBits) (s : State) : Try := doneG n t f (fImm64 f) s

/-- MOVHI: g[D] bits 63:32 := IMM. -/
def tryMovhi (n t : Nat) (f : InsnBits) (s : State) : Try :=
  doneG n t f (setField ((s.task n t).greg (fD f)) 63 32 (fImm f)) s

/-- CMP: p[D] := g[A] cond Rb. -/
def tryCmp (n t : Nat) (f : InsnBits) (s : State) : Try :=
  .done (s.modTask n t (fun k => k.setP (fD f) ((cmpCond (fX f % 8) (k.greg (fA f)) (k.rb f)).getD false)))

/-- PLOG: p[D] := p[A] op p[B]. -/
def tryPlog (n t : Nat) (f : InsnBits) (s : State) : Try :=
  .done (s.modTask n t (fun k => k.setP (fD f) (plogOp (fX f % 4) (k.preg (fA f)) (k.preg (fB f)))))

/-- AADD: a[D] := a[A] + Rb. -/
def tryAadd (n t : Nat) (f : InsnBits) (s : State) : Try :=
  .done (s.modTask n t (fun k => k.setA (fD f) (k.areg (fA f) + k.rb f)))

/-- MOVR: moves between register files as X selects. -/
def tryMovr (n t : Nat) (f : InsnBits) (s : State) : Try :=
  .done (s.modTask n t (fun k =>
    match fX f % 4 with
    | 0 => k.setG (fD f) (k.areg (fA f))
    | 1 => k.setA (fD f) (k.greg (fA f))
    | 2 => k.setG (fD f) ((k.kreg (fA f)).setWidth 64)
    | _ => k.setG (fD f) (if k.preg (fA f) then 1 else 0)))

/-- NOP. -/
def execNop (c : CoreId) (t : TaskSlot) (f : InsnBits) (s : State) : Host.Outcome State Fault Refusal :=
  .next (s.issue c t 0x00 f (fun _ _ => tryNop))
/-- END. -/
def execEnd (c : CoreId) (t : TaskSlot) (f : InsnBits) (s : State) : Host.Outcome State Fault Refusal :=
  .next (s.issue c t 0x01 f (fun _ _ => tryEnd c t))
/-- BR. -/
def execBr (c : CoreId) (t : TaskSlot) (f : InsnBits) (s : State) : Host.Outcome State Fault Refusal :=
  .next (s.issue c t 0x02 f (fun _ _ => tryBr c t f))
/-- JR. -/
def execJr (c : CoreId) (t : TaskSlot) (f : InsnBits) (s : State) : Host.Outcome State Fault Refusal :=
  .next (s.issue c t 0x03 f (fun _ _ => tryJr c t f))
/-- LOOP. -/
def execLoop (c : CoreId) (t : TaskSlot) (f : InsnBits) (s : State) : Host.Outcome State Fault Refusal :=
  .next (s.issue c t 0x04 f (fun _ _ => tryLoop c t f))
/-- KSET. -/
def execKset (c : CoreId) (t : TaskSlot) (f : InsnBits) (s : State) : Host.Outcome State Fault Refusal :=
  .next (s.issue c t 0x05 f (fun _ _ => tryKset c t f))
/-- FAULT. -/
def execFault (c : CoreId) (t : TaskSlot) (f : InsnBits) (s : State) : Host.Outcome State Fault Refusal :=
  .next (s.issue c t 0x06 f (fun _ _ => tryFault c t f))
/-- TIME. -/
def execTime (c : CoreId) (t : TaskSlot) (f : InsnBits) (s : State) : Host.Outcome State Fault Refusal :=
  .next (s.issue c t 0x07 f (fun _ _ => tryTime c t f))
/-- ADD. -/
def execAdd (c : CoreId) (t : TaskSlot) (f : InsnBits) (s : State) : Host.Outcome State Fault Refusal :=
  .next (s.issue c t 0x10 f (fun _ _ => tryAlu 0 c t f))
/-- SUB. -/
def execSub (c : CoreId) (t : TaskSlot) (f : InsnBits) (s : State) : Host.Outcome State Fault Refusal :=
  .next (s.issue c t 0x11 f (fun _ _ => tryAlu 1 c t f))
/-- MUL. -/
def execMul (c : CoreId) (t : TaskSlot) (f : InsnBits) (s : State) : Host.Outcome State Fault Refusal :=
  .next (s.issue c t 0x12 f (fun _ _ => tryAlu 2 c t f))
/-- AND. -/
def execAnd (c : CoreId) (t : TaskSlot) (f : InsnBits) (s : State) : Host.Outcome State Fault Refusal :=
  .next (s.issue c t 0x13 f (fun _ _ => tryAlu 3 c t f))
/-- OR. -/
def execOr (c : CoreId) (t : TaskSlot) (f : InsnBits) (s : State) : Host.Outcome State Fault Refusal :=
  .next (s.issue c t 0x14 f (fun _ _ => tryAlu 4 c t f))
/-- XOR. -/
def execXor (c : CoreId) (t : TaskSlot) (f : InsnBits) (s : State) : Host.Outcome State Fault Refusal :=
  .next (s.issue c t 0x15 f (fun _ _ => tryAlu 5 c t f))
/-- SHL. -/
def execShl (c : CoreId) (t : TaskSlot) (f : InsnBits) (s : State) : Host.Outcome State Fault Refusal :=
  .next (s.issue c t 0x16 f (fun _ _ => tryAlu 6 c t f))
/-- SHR. -/
def execShr (c : CoreId) (t : TaskSlot) (f : InsnBits) (s : State) : Host.Outcome State Fault Refusal :=
  .next (s.issue c t 0x17 f (fun _ _ => tryAlu 7 c t f))
/-- SAR. -/
def execSar (c : CoreId) (t : TaskSlot) (f : InsnBits) (s : State) : Host.Outcome State Fault Refusal :=
  .next (s.issue c t 0x18 f (fun _ _ => tryAlu 8 c t f))
/-- MIN. -/
def execMin (c : CoreId) (t : TaskSlot) (f : InsnBits) (s : State) : Host.Outcome State Fault Refusal :=
  .next (s.issue c t 0x19 f (fun _ _ => tryAlu 9 c t f))
/-- MAX. -/
def execMax (c : CoreId) (t : TaskSlot) (f : InsnBits) (s : State) : Host.Outcome State Fault Refusal :=
  .next (s.issue c t 0x1a f (fun _ _ => tryAlu 10 c t f))
/-- MOVI. -/
def execMovi (c : CoreId) (t : TaskSlot) (f : InsnBits) (s : State) : Host.Outcome State Fault Refusal :=
  .next (s.issue c t 0x1b f (fun _ _ => tryMovi c t f))
/-- MOVHI. -/
def execMovhi (c : CoreId) (t : TaskSlot) (f : InsnBits) (s : State) : Host.Outcome State Fault Refusal :=
  .next (s.issue c t 0x1c f (fun _ _ => tryMovhi c t f))
/-- CMP. -/
def execCmp (c : CoreId) (t : TaskSlot) (f : InsnBits) (s : State) : Host.Outcome State Fault Refusal :=
  .next (s.issue c t 0x1d f (fun _ _ => tryCmp c t f))
/-- PLOG. -/
def execPlog (c : CoreId) (t : TaskSlot) (f : InsnBits) (s : State) : Host.Outcome State Fault Refusal :=
  .next (s.issue c t 0x1e f (fun _ _ => tryPlog c t f))
/-- AADD. -/
def execAadd (c : CoreId) (t : TaskSlot) (f : InsnBits) (s : State) : Host.Outcome State Fault Refusal :=
  .next (s.issue c t 0x1f f (fun _ _ => tryAadd c t f))
/-- MOVR. -/
def execMovr (c : CoreId) (t : TaskSlot) (f : InsnBits) (s : State) : Host.Outcome State Fault Refusal :=
  .next (s.issue c t 0x20 f (fun _ _ => tryMovr c t f))

end Sys2Proof.Machine
end

