-- ==== Sys2Proof/Machine/Vector.lean ====
section
/-! DEFINITION. The vector unit: the VOP operations and the turning copy VTURN, each with its whole effect at issue
(spec/03 R116 to R119, spec/04 VEC block, R138; notes/assumptions/24.md for what the block leaves open). -/

namespace Sys2Proof.Machine

/-- A VEC block. -/
structure Vec where
  blk : Bytes
  op  : Nat
  deriving DecidableEq, Repr

/-- COUNT. -/
def Vec.count (v : Vec) : Nat := leAt v.blk 16 4
/-- IN_FMT. -/
def Vec.inFmt (v : Vec) : Nat := leAt v.blk 20 1
/-- OUT_FMT. -/
def Vec.outFmt (v : Vec) : Nat := leAt v.blk 21 1
/-- A bit of MODE. -/
def Vec.mode (v : Vec) (i : Nat) : Bool := (leAt v.blk 22 1).testBit i
/-- SUB. -/
def Vec.sub (v : Vec) : Nat := leAt v.blk 23 1
/-- AUX. -/
def Vec.aux (v : Vec) : Nat := leAt v.blk 24 4
/-- OUT. -/
def Vec.outAddr (v : Vec) : Nat := leAt v.blk 12 4
/-- M0. -/
def Vec.m0 (v : Vec) : Nat := leAt v.blk 42 4
/-- N0. -/
def Vec.n0 (v : Vec) : Nat := leAt v.blk 46 4
/-- Output set-up. -/
def Vec.out (v : Vec) : OutCtx :=
  ⟨v.outFmt, (Rnd.ofField (leAt v.blk 22 1 % 4)).getD .rne, v.mode 2, BitVec.ofNat 64 (leAt v.blk 32 8), leAt v.blk 40 2⟩

/-- The block is in range (spec/04 R137, R138). -/
def Vec.ok (v : Vec) (turn : Bool) : Bool :=
  fmtOk v.inFmt && fmtOk v.outFmt && decide (leAt v.blk 22 1 % 4 ≠ 3) && decide (leAt v.blk 22 1 < 64) &&
  zeroFrom v.blk 28 4 && zeroFrom v.blk 50 14 &&
  (if turn then unitOut v.outFmt && decide (fmtCode v.inFmt ≤ 7)
   else (unitOut v.outFmt || decide (v.outFmt = 8)) && decide (v.op < 25) &&
    (decide (v.op ≠ 0x08) || decide (v.sub < 6)) && (decide (v.op ≠ 0x09) || decide (v.sub < 8)) &&
    (decide (v.op ≠ 0x13) || decide (v.sub < 16 ∧ v.sub ≠ 8)))

/-- How many of IN0, IN1 and IN2 an operation reads. -/
def Vec.arity (v : Vec) : Nat :=
  match v.op with
  | 0x03 => 3
  | 0x00 | 0x01 | 0x02 | 0x04 | 0x05 | 0x08 | 0x09 | 0x0B | 0x15 => 2
  | 0x13 => if 9 ≤ v.sub then 2 else 1
  | _ => 1

/-- Operand i: a scalar from g[B] for every element, or COUNT elements at INi, converted to FP32 (R116, R117). -/
def State.vecIn (s : State) (n t : Nat) (v : Vec) (g : Word) (i : Nat) : Acc (List Num × Flags) :=
  if v.mode (3 + i) then .ok s ((List.range v.count).map (fun _ => decodeF32 (field g 31 0)), Flags.zero)
  else s.readRow n t v.out (leAt v.blk (4 * i) 4) 1 0 v.inFmt v.count

/-- The operands of an operation from index i on. -/
def State.vecIns (s : State) (n t : Nat) (v : Vec) (g : Word) : Nat → Nat → Acc (List (List Num) × Flags)
  | 0, _ => .ok s ([], Flags.zero)
  | k + 1, i =>
    match s.vecIn n t v g i with
    | .ok s (x, f) =>
      match s.vecIns n t v g k (i + 1) with
      | .ok s (xs, h) => .ok s (x :: xs, f.or h)
      | .held => .held
      | .access => .access
      | .ue s => .ue s
    | .held => .held
    | .access => .access
    | .ue s => .ue s

/-- The smaller of two values; NaN if either is (R117). Of +0 and −0 the first operand (DESIGN CHOICE, notes/assumptions/91.md). -/
def vmin (a b : Num) : Num := if a.isNan || b.isNan then .nan else if b.lt a then b else a
/-- The larger of two values; NaN if either is (R117). Of +0 and −0 the first operand (DESIGN CHOICE, notes/assumptions/91.md). -/
def vmax (a b : Num) : Num := if a.isNan || b.isNan then .nan else if a.lt b then b else a

/-- FUNC of the vector unit: a code of R76 on its arguments; the derivative codes take g from IN0 and z from IN1. -/
def Vec.func (v : Vec) (x y : Num) : Num × Flags :=
  let alpha := decodeF32 v.aux
  if v.sub = 0 then (x, Flags.zero)
  else if isDeriv v.sub then applyDeriv v.sub alpha x y else applyFunc v.sub alpha x

/-- One element of an element-wise operation: its value before the conversion, to its leading bits (R117). -/
def Vec.elem (v : Vec) (sel : Bool) (x y z : Num) : (Num × Bool) × Flags :=
  match v.op with
  | 0x00 => ((Num.add x y, false), Flags.zero)
  | 0x01 => ((Num.add x y.neg, false), Flags.zero)
  | 0x02 => ((Num.mul x y, false), Flags.zero)
  | 0x03 => ((Num.add (Num.mul x y) z, false), Flags.zero)
  | 0x04 => ((vmin x y, false), Flags.zero)
  | 0x05 => ((vmax x y, false), Flags.zero)
  | 0x06 => ((x.abs, false), Flags.zero)
  | 0x07 => ((x.neg, false), Flags.zero)
  | 0x09 => ((if sel then x else y, false), Flags.zero)
  | 0x0A => ((x, false), Flags.zero)
  | 0x0B => (divExact x y, Flags.zero)
  | 0x0C => (divExact oneNum x, Flags.zero)
  | 0x0D => (sqrtExact x, Flags.zero)
  | 0x0E => (rsqrtExact x, Flags.zero)
  | 0x13 => let (r, f) := v.func x y; ((r, false), f)
  | _ => ((vfuncF32 (v.op - 0x0F) x, false), Flags.zero)

/-- A reduction over its operands: the value, and whether its window lost bits (R117). The maximum of no element is −∞ and the minimum
+∞ (DESIGN CHOICE, notes/assumptions/91.md). -/
def Vec.reduce (v : Vec) (xs ys : List Num) : Num × Bool :=
  match v.op with
  | 0x14 => let w := sumWindow xs; (w.value, w.loss)
  | 0x15 => let w := sumWindow (dots xs ys); (w.value, w.loss)
  | 0x16 => let w := sumWindow (dots xs xs); (w.value, w.loss)
  | 0x17 => (match xs with
    | [] => .inf true
    | a :: as => as.foldl vmax a, false)
  | _ => (match xs with
    | [] => .inf false
    | a :: as => as.foldl vmin a, false)

/-- The writes and flags of an operation on its operands. CMP writes its mask to memory at OUT, one bit
an element, and SEL selects by its one-bit predicate register for every element (DESIGN CHOICE, notes/assumptions/91.md). -/
def Vec.result (v : Vec) (sel : Bool) (ins : List (List Num)) : List (Nat × Bytes) × Flags :=
  let x := ins.getD 0 []
  let y := ins.getD 1 []
  let z := ins.getD 2 []
  if v.op = 0x08 then
    let bits := (List.zipWith (fun a b => b2n ((numCond v.sub a b).getD false)) x y)
    ([(v.outAddr, leBytes (ceilDiv v.count 8) (packAll 1 bits))], Flags.zero)
  else if 0x14 ≤ v.op then
    let (r, l) := v.reduce x y
    let (sc, es, f) := v.out.row v.m0 v.n0 [(r, false)]
    (rowWrites v.outAddr 1 0 v.outFmt 1 sc es, f.or (lossFlags l))
  else
    let es := x.zipIdx.map (fun a => v.elem sel a.1 (y.getD a.2 zeroNum) (z.getD a.2 zeroNum))
    let (sc, cs, f) := v.out.row v.m0 v.n0 (es.map Prod.fst)
    (rowWrites v.outAddr 1 0 v.outFmt v.count sc cs, f.or (flagsOf (es.map Prod.snd)))

/-- End a task with ROW_CFG. -/
def State.rowCfgFault (s : State) (n t : Nat) : Try := .stop ((s.coreStat n rROW_STATUS 9).endTask n t endRowCfg 0)

/-- An operation's writes under a window that opens for it, with its flags (R118, R381). -/
def State.vecOut (s : State) (n t : Nat) (addr : Word) (ws : List (Nat × Bytes)) (f : Flags) : Try :=
  match s.openWindow n t 5 with
  | none => .wait s 0 0 0 false
  | some (e, s1) =>
    (s1.unitWrites n t e ws).tryAsync s n t addr (fun s _ => .done ((s.vecFlags n f).winFlags n (some e) f))

/-- Task slot t of the core waits for the vector unit. -/
def Core.waitsVec (c : Core) (t : Nat) : Bool :=
  match (c.task t).phase, (c.task t).wait with
  | .waiting, some w => decide (w.opc = 0x51 ∨ w.opc = 0x52)
  | _, _ => false

/-- The operations of other tasks that the vector unit accepts before one of slot t: those that wait, issued earlier (spec/04 R135). A
fresh issue comes after all that wait. -/
def Core.vecBefore (c : Core) (t : Nat) : List Nat :=
  let q := if c.waitsVec t then c.vecWait.takeWhile (fun u => decide (u ≠ t)) else c.vecWait.filter (fun u => decide (u ≠ t))
  q.filter c.waitsVec

/-- The vector unit takes operations in issue order (spec/04 R135): an attempt waits while an earlier one waits, and keeps its place. -/
def inVecOrder (n t : Nat) (body : State → Try) (s : State) : Try :=
  let c := s.core n
  let q := c.vecWait.filter (fun u => decide (u ≠ t))
  let line := if c.waitsVec t then c.vecWait else q ++ [t]
  let keep (s : State) : State := s.modCore n (fun c => { c with vecWait := line })
  let leave (s : State) : State := if c.vecWait.contains t then s.modCore n (fun c => { c with vecWait := q }) else s
  if !(c.vecBefore t).isEmpty then .wait (keep s) 0 0 0 false
  else match body s with
    | .done s => .done (leave s)
    | .jump s pc => .jump (leave s) pc
    | .stop s => .stop (leave s)
    | .wait s stage val operand sealed => .wait (keep s) stage val operand sealed

/-- VOP op: the block is checked, its operands read and its result written (R116 to R118). -/
def tryVop (op n t : Nat) (f : InsnBits) : State → Try := inVecOrder n t (fun s =>
  let k := s.task n t
  (s.block n t (k.addrA f) 64).try_ s n t (k.addrA f) (fun s b =>
    let v : Vec := ⟨b, op⟩
    if !v.ok false then s.rowCfgFault n t
    else (s.vecIns n t v (k.greg (fB f)) v.arity 0).tryAsync s n t (BitVec.ofNat 64 (leAt b 0 4)) (fun s ins =>
      let (ws, fl) := v.result (k.preg v.sub) ins.1
      s.vecOut n t (BitVec.ofNat 64 v.outAddr) ws (fl.or ins.2))))

/-- Rows i of a tensor, converted to FP32. -/
def State.turnRows (s : State) (n t : Nat) (v : Vec) : List Nat → Acc (List (List Num) × Flags)
  | [] => .ok s ([], Flags.zero)
  | i :: is =>
    match s.readRow n t v.out (leAt v.blk 0 4) v.count i v.inFmt v.aux with
    | .ok s (x, f) =>
      match s.turnRows n t v is with
      | .ok s (xs, g) => .ok s (x :: xs, f.or g)
      | .held => .held
      | .access => .access
      | .ue s => .ue s
    | .held => .held
    | .access => .access
    | .ue s => .ue s

/-- The transposed rows as they are written: row j holds element j of every row read (R119). -/
def Vec.turned (v : Vec) (rows : List (List Num)) : List (Nat × Bytes) × Flags :=
  let outs := (List.range v.aux).map (fun j =>
    let (sc, es, f) := v.out.row (v.m0 + j) v.n0 (exactly (rows.map (fun r => r.getD j zeroNum)))
    (rowWrites v.outAddr v.aux j v.outFmt v.count sc es, f))
  (outs.flatMap Prod.fst, flagsOf (outs.map Prod.snd))

/-- VTURN: the turning copy (R119). -/
def tryVturn (n t : Nat) (f : InsnBits) : State → Try := inVecOrder n t (fun s =>
  let k := s.task n t
  (s.block n t (k.addrA f) 64).try_ s n t (k.addrA f) (fun s b =>
    let v : Vec := ⟨b, 0⟩
    if !v.ok true then s.rowCfgFault n t
    else (s.turnRows n t v (List.range v.count)).tryAsync s n t (BitVec.ofNat 64 (leAt b 0 4)) (fun s ins =>
      let (ws, fl) := v.turned ins.1
      s.vecOut n t (BitVec.ofNat 64 v.outAddr) ws (fl.or ins.2))))

/-- Issue of a VOP whose operation the constructor gives. -/
def State.issueVec (s : State) (op c t : Nat) (f : InsnBits) : State :=
  s.issue c t 0x51 (withX f op) (fun _ _ => tryVop op c t (withX f op))

/-- VOP ADD (R138 code 0x00). -/
def execVopAdd (c : CoreId) (t : TaskSlot) (f : InsnBits) (s : State) : Host.Outcome State Fault Refusal :=
  .next (s.issueVec 0x00 c t f)
/-- VOP SUB (R138 code 0x01). -/
def execVopSub (c : CoreId) (t : TaskSlot) (f : InsnBits) (s : State) : Host.Outcome State Fault Refusal :=
  .next (s.issueVec 0x01 c t f)
/-- VOP MUL (R138 code 0x02). -/
def execVopMul (c : CoreId) (t : TaskSlot) (f : InsnBits) (s : State) : Host.Outcome State Fault Refusal :=
  .next (s.issueVec 0x02 c t f)
/-- VOP FMA (R138 code 0x03). -/
def execVopFma (c : CoreId) (t : TaskSlot) (f : InsnBits) (s : State) : Host.Outcome State Fault Refusal :=
  .next (s.issueVec 0x03 c t f)
/-- VOP MIN (R138 code 0x04). -/
def execVopMin (c : CoreId) (t : TaskSlot) (f : InsnBits) (s : State) : Host.Outcome State Fault Refusal :=
  .next (s.issueVec 0x04 c t f)
/-- VOP MAX (R138 code 0x05). -/
def execVopMax (c : CoreId) (t : TaskSlot) (f : InsnBits) (s : State) : Host.Outcome State Fault Refusal :=
  .next (s.issueVec 0x05 c t f)
/-- VOP ABS (R138 code 0x06). -/
def execVopAbs (c : CoreId) (t : TaskSlot) (f : InsnBits) (s : State) : Host.Outcome State Fault Refusal :=
  .next (s.issueVec 0x06 c t f)
/-- VOP NEG (R138 code 0x07). -/
def execVopNeg (c : CoreId) (t : TaskSlot) (f : InsnBits) (s : State) : Host.Outcome State Fault Refusal :=
  .next (s.issueVec 0x07 c t f)
/-- VOP CMP (R138 code 0x08). -/
def execVopCmp (c : CoreId) (t : TaskSlot) (f : InsnBits) (s : State) : Host.Outcome State Fault Refusal :=
  .next (s.issueVec 0x08 c t f)
/-- VOP SEL (R138 code 0x09). -/
def execVopSel (c : CoreId) (t : TaskSlot) (f : InsnBits) (s : State) : Host.Outcome State Fault Refusal :=
  .next (s.issueVec 0x09 c t f)
/-- VOP CVT (R138 code 0x0A). -/
def execVopCvt (c : CoreId) (t : TaskSlot) (f : InsnBits) (s : State) : Host.Outcome State Fault Refusal :=
  .next (s.issueVec 0x0A c t f)
/-- VOP DIV (R138 code 0x0B). -/
def execVopDiv (c : CoreId) (t : TaskSlot) (f : InsnBits) (s : State) : Host.Outcome State Fault Refusal :=
  .next (s.issueVec 0x0B c t f)
/-- VOP RCP (R138 code 0x0C). -/
def execVopRcp (c : CoreId) (t : TaskSlot) (f : InsnBits) (s : State) : Host.Outcome State Fault Refusal :=
  .next (s.issueVec 0x0C c t f)
/-- VOP SQRT (R138 code 0x0D). -/
def execVopSqrt (c : CoreId) (t : TaskSlot) (f : InsnBits) (s : State) : Host.Outcome State Fault Refusal :=
  .next (s.issueVec 0x0D c t f)
/-- VOP RSQRT (R138 code 0x0E). -/
def execVopRsqrt (c : CoreId) (t : TaskSlot) (f : InsnBits) (s : State) : Host.Outcome State Fault Refusal :=
  .next (s.issueVec 0x0E c t f)
/-- VOP EXP2 (R138 code 0x0F). -/
def execVopExp2 (c : CoreId) (t : TaskSlot) (f : InsnBits) (s : State) : Host.Outcome State Fault Refusal :=
  .next (s.issueVec 0x0F c t f)
/-- VOP LOG2 (R138 code 0x10). -/
def execVopLog2 (c : CoreId) (t : TaskSlot) (f : InsnBits) (s : State) : Host.Outcome State Fault Refusal :=
  .next (s.issueVec 0x10 c t f)
/-- VOP EXP (R138 code 0x11). -/
def execVopExp (c : CoreId) (t : TaskSlot) (f : InsnBits) (s : State) : Host.Outcome State Fault Refusal :=
  .next (s.issueVec 0x11 c t f)
/-- VOP LOG (R138 code 0x12). -/
def execVopLog (c : CoreId) (t : TaskSlot) (f : InsnBits) (s : State) : Host.Outcome State Fault Refusal :=
  .next (s.issueVec 0x12 c t f)
/-- VOP FUNC (R138 code 0x13). -/
def execVopFunc (c : CoreId) (t : TaskSlot) (f : InsnBits) (s : State) : Host.Outcome State Fault Refusal :=
  .next (s.issueVec 0x13 c t f)
/-- VOP RSUM (R138 code 0x14). -/
def execVopRsum (c : CoreId) (t : TaskSlot) (f : InsnBits) (s : State) : Host.Outcome State Fault Refusal :=
  .next (s.issueVec 0x14 c t f)
/-- VOP RDOT (R138 code 0x15). -/
def execVopRdot (c : CoreId) (t : TaskSlot) (f : InsnBits) (s : State) : Host.Outcome State Fault Refusal :=
  .next (s.issueVec 0x15 c t f)
/-- VOP RSSQ (R138 code 0x16). -/
def execVopRssq (c : CoreId) (t : TaskSlot) (f : InsnBits) (s : State) : Host.Outcome State Fault Refusal :=
  .next (s.issueVec 0x16 c t f)
/-- VOP RMAX (R138 code 0x17). -/
def execVopRmax (c : CoreId) (t : TaskSlot) (f : InsnBits) (s : State) : Host.Outcome State Fault Refusal :=
  .next (s.issueVec 0x17 c t f)
/-- VOP RMIN (R138 code 0x18). -/
def execVopRmin (c : CoreId) (t : TaskSlot) (f : InsnBits) (s : State) : Host.Outcome State Fault Refusal :=
  .next (s.issueVec 0x18 c t f)

/-- VTURN. -/
def execVturn (c : CoreId) (t : TaskSlot) (f : InsnBits) (s : State) : Host.Outcome State Fault Refusal :=
  .next (s.issue c t 0x52 f (fun _ _ => tryVturn c t f))

end Sys2Proof.Machine
end

