-- ==== Sys2Proof/Machine/Wait.lean ====
section
/-! DEFINITION. Waits of a task: the waiting instruction tried again, and the wait timeout (spec/04 R150, R153). -/

namespace Sys2Proof.Machine

/-- Control and register instructions by opcode. -/
def scalarBody (opc n t : Nat) (f : InsnBits) (s : State) : Option Try :=
  match opc with
  | 0x00 => some (tryNop s)
  | 0x01 => some (tryEnd n t s)
  | 0x02 => some (tryBr n t f s)
  | 0x03 => some (tryJr n t f s)
  | 0x04 => some (tryLoop n t f s)
  | 0x05 => some (tryKset n t f s)
  | 0x06 => some (tryFault n t f s)
  | 0x07 => some (tryTime n t f s)
  | 0x10 | 0x11 | 0x12 | 0x13 | 0x14 | 0x15 | 0x16 | 0x17 | 0x18 | 0x19 | 0x1A => some (tryAlu (opc - 0x10) n t f s)
  | 0x1B => some (tryMovi n t f s)
  | 0x1C => some (tryMovhi n t f s)
  | 0x1D => some (tryCmp n t f s)
  | 0x1E => some (tryPlog n t f s)
  | 0x1F => some (tryAadd n t f s)
  | 0x20 => some (tryMovr n t f s)
  | 0x28 => some (tryLd n t f s)
  | 0x29 => some (trySt n t f s)
  | _ => none

/-- Unit instructions by opcode. -/
def unitBody (opc n t : Nat) (f : InsnBits) (s : State) : Option Try :=
  match opc with
  | 0x40 => some (tryWload n t f s)
  | 0x41 => some (tryStream n t f s)
  | 0x42 => some (tryDset n t f s)
  | 0x43 => some (tryUwait n t f s)
  | 0x50 => some (tryRowop (fX f) n t f s)
  | 0x51 => some (tryVop (fX f) n t f s)
  | 0x52 => some (tryVturn n t f s)
  | 0x58 => some (tryDma n t f s)
  | 0x59 => some (tryDmawait n t f s)
  | 0x5A => some (tryTpref n t f s)
  | _ => none

/-- Messages, barriers, seals, configurations and counters by opcode. -/
def netBody (opc n t : Nat) (f : InsnBits) (stage keep : Nat) (s : State) : Option Try :=
  match opc with
  | 0x60 => some (trySENDw n t f s)
  | 0x61 => some (trySENDd n t f s)
  | 0x62 => some (tryMSEND n t f s)
  | 0x63 => some (tryRecv n t f s)
  | 0x64 => some (tryRecvt n t f s)
  | 0x65 => some (tryRecvc n t f s)
  | 0x66 => some (tryQdone n t f s)
  | 0x68 => some (tryShfadd n t f s)
  | 0x69 => some (tryShfend n t f s)
  | 0x6A => some (tryShfrecv n t f s)
  | 0x70 => some (tryBar n t f stage s)
  | 0x78 => some (tryWaitseal n t f stage keep s)
  | 0x79 => some (trySealq n t f s)
  | 0x7C => some (tryEmber n t f stage s)
  | 0x80 => some (tryCfgsw n t f s)
  | 0x81 => some (tryCfgld n t f s)
  | 0x82 => some (tryEpoch n t f s)
  | 0x88 => some (tryEvsel n t f s)
  | 0x89 => some (tryEvctl n t f s)
  | 0x8A => some (tryEvrd n t f s)
  | _ => none

/-- An attempt at the instruction with an opcode, from a stage of it already done. An opcode that is not listed never waits. -/
def bodyOf (opc n t : Nat) (f : InsnBits) (stage keep : Nat) (s : State) : Try :=
  match scalarBody opc n t f s with
  | some x => x
  | none => match unitBody opc n t f s with
    | some x => x
    | none => (netBody opc n t f stage keep s).getD (.stop s)

/-- WAIT_CONDITION_MET (R150): the instruction on which a task waits is tried again; it completes, or goes on waiting. -/
def execWaitConditionMet (c : CoreId) (t : TaskSlot) (s : State) : Host.Outcome State Fault Refusal :=
  let k := s.task c t
  match k.phase, k.wait with
  | .waiting, some w => if s.live c then .next (s.attempt c t w.opc w.f w.stage w.keep (bodyOf w.opc c t w.f)) else .next s
  | _, _ => .next s

/-- WAIT_TIMEOUT (R153, spec/05 R177): a task with WAIT_US ends with TIMEOUT when its wait, one for seals apart, has lasted longer, or
when an operation that it started is held and has waited longer; for how long a unit has held it the sender asserts (notes/assumptions/15.md).
The timer stands still while the slot is held. -/
def execWaitTimeout (c : CoreId) (t : TaskSlot) (s : State) : Host.Outcome State Fault Refusal :=
  let k := s.task c t
  let late : Option Nat := match k.phase, k.wait with
    | .waiting, some w => if !w.sealed ∧ w.since + k.img.waitUs * 1000 < s.ns then some w.opc else none
    | _, _ => none
  if k.img.waitUs = 0 ∨ s.held c t ∨ k.phase = .empty ∨ k.phase = .suspended then .next s
  else match late with
    | some opc => .next (s.endTask c t endTimeout (BitVec.ofNat 64 opc))
    | none => match (s.heldOps c t).head? with
      | some (pc, opc) => .next (s.endAsync c t pc endTimeout (BitVec.ofNat 64 opc))
      | none => .next s

end Sys2Proof.Machine
end

