-- ==== Sys2Proof/Machine/Dispatch.lean ====
section
/-! DEFINITION. The dispatch: one arm per command, each a direct call of that command's meaning. -/

namespace Sys2Proof.Machine

/-- The effect of a command on everything but the queue. -/
def exec (i : Instr) (s : State) : Host.Outcome State Fault Refusal :=
  match i with
  | .registerWrite who off size v => Sys2Proof.Machine.execRegisterWrite who off size v s
  | .readToClear who off size => Sys2Proof.Machine.execReadToClear who off size s
  | .nop c t f => Sys2Proof.Machine.execNop c t f s
  | .endTask c t f => Sys2Proof.Machine.execEnd c t f s
  | .br c t f => Sys2Proof.Machine.execBr c t f s
  | .jr c t f => Sys2Proof.Machine.execJr c t f s
  | .loopI c t f => Sys2Proof.Machine.execLoop c t f s
  | .kset c t f => Sys2Proof.Machine.execKset c t f s
  | .faultI c t f => Sys2Proof.Machine.execFault c t f s
  | .time c t f => Sys2Proof.Machine.execTime c t f s
  | .addI c t f => Sys2Proof.Machine.execAdd c t f s
  | .subI c t f => Sys2Proof.Machine.execSub c t f s
  | .mulI c t f => Sys2Proof.Machine.execMul c t f s
  | .andI c t f => Sys2Proof.Machine.execAnd c t f s
  | .orI c t f => Sys2Proof.Machine.execOr c t f s
  | .xorI c t f => Sys2Proof.Machine.execXor c t f s
  | .shl c t f => Sys2Proof.Machine.execShl c t f s
  | .shr c t f => Sys2Proof.Machine.execShr c t f s
  | .sar c t f => Sys2Proof.Machine.execSar c t f s
  | .minI c t f => Sys2Proof.Machine.execMin c t f s
  | .maxI c t f => Sys2Proof.Machine.execMax c t f s
  | .movi c t f => Sys2Proof.Machine.execMovi c t f s
  | .movhi c t f => Sys2Proof.Machine.execMovhi c t f s
  | .cmp c t f => Sys2Proof.Machine.execCmp c t f s
  | .plog c t f => Sys2Proof.Machine.execPlog c t f s
  | .aadd c t f => Sys2Proof.Machine.execAadd c t f s
  | .movr c t f => Sys2Proof.Machine.execMovr c t f s
  | .ld c t f => Sys2Proof.Machine.execLd c t f s
  | .st c t f => Sys2Proof.Machine.execSt c t f s
  | .wload c t f => Sys2Proof.Machine.execWload c t f s
  | .stream c t f => Sys2Proof.Machine.execStream c t f s
  | .dset c t f => Sys2Proof.Machine.execDset c t f s
  | .uwait c t f => Sys2Proof.Machine.execUwait c t f s
  | .vturn c t f => Sys2Proof.Machine.execVturn c t f s
  | .dma c t f => Sys2Proof.Machine.execDma c t f s
  | .dmawait c t f => Sys2Proof.Machine.execDmawait c t f s
  | .tpref c t f => Sys2Proof.Machine.execTpref c t f s
  | .send c t f => Sys2Proof.Machine.execSend c t f s
  | .sendd c t f => Sys2Proof.Machine.execSendd c t f s
  | .msend c t f => Sys2Proof.Machine.execMsend c t f s
  | .recv c t f => Sys2Proof.Machine.execRecv c t f s
  | .recvt c t f => Sys2Proof.Machine.execRecvt c t f s
  | .recvc c t f => Sys2Proof.Machine.execRecvc c t f s
  | .qdone c t f => Sys2Proof.Machine.execQdone c t f s
  | .shfadd c t f => Sys2Proof.Machine.execShfadd c t f s
  | .shfend c t f => Sys2Proof.Machine.execShfend c t f s
  | .shfrecv c t f => Sys2Proof.Machine.execShfrecv c t f s
  | .bar c t f => Sys2Proof.Machine.execBar c t f s
  | .waitseal c t f => Sys2Proof.Machine.execWaitseal c t f s
  | .sealq c t f => Sys2Proof.Machine.execSealq c t f s
  | .ember c t f => Sys2Proof.Machine.execEmber c t f s
  | .cfgsw c t f => Sys2Proof.Machine.execCfgsw c t f s
  | .cfgld c t f => Sys2Proof.Machine.execCfgld c t f s
  | .epoch c t f => Sys2Proof.Machine.execEpoch c t f s
  | .evsel c t f => Sys2Proof.Machine.execEvsel c t f s
  | .evctlStart c t f => Sys2Proof.Machine.execEvctlStart c t f s
  | .evctlStop c t f => Sys2Proof.Machine.execEvctlStop c t f s
  | .evctlClear c t f => Sys2Proof.Machine.execEvctlClear c t f s
  | .evrd c t f => Sys2Proof.Machine.execEvrd c t f s
  | .waitConditionMet c t => Sys2Proof.Machine.execWaitConditionMet c t s
  | .waitTimeout c t => Sys2Proof.Machine.execWaitTimeout c t s
  | .softmax c t f => Sys2Proof.Machine.execSoftmax c t f s
  | .smxPart c t f => Sys2Proof.Machine.execSmxPart c t f s
  | .smxMerge c t f => Sys2Proof.Machine.execSmxMerge c t f s
  | .smxNorm c t f => Sys2Proof.Machine.execSmxNorm c t f s
  | .lse c t f => Sys2Proof.Machine.execLse c t f s
  | .lnorm c t f => Sys2Proof.Machine.execLnorm c t f s
  | .rmsnorm c t f => Sys2Proof.Machine.execRmsnorm c t f s
  | .topk c t f => Sys2Proof.Machine.execTopk c t f s
  | .rowdot c t f => Sys2Proof.Machine.execRowdot c t f s
  | .softmaxBwd c t f => Sys2Proof.Machine.execSoftmaxBwd c t f s
  | .lnormBwd c t f => Sys2Proof.Machine.execLnormBwd c t f s
  | .rmsnormBwd c t f => Sys2Proof.Machine.execRmsnormBwd c t f s
  | .rowComplete c => Sys2Proof.Machine.execRowComplete c s
  | .vopAdd c t f => Sys2Proof.Machine.execVopAdd c t f s
  | .vopSub c t f => Sys2Proof.Machine.execVopSub c t f s
  | .vopMul c t f => Sys2Proof.Machine.execVopMul c t f s
  | .vopFma c t f => Sys2Proof.Machine.execVopFma c t f s
  | .vopMin c t f => Sys2Proof.Machine.execVopMin c t f s
  | .vopMax c t f => Sys2Proof.Machine.execVopMax c t f s
  | .vopAbs c t f => Sys2Proof.Machine.execVopAbs c t f s
  | .vopNeg c t f => Sys2Proof.Machine.execVopNeg c t f s
  | .vopCmp c t f => Sys2Proof.Machine.execVopCmp c t f s
  | .vopSel c t f => Sys2Proof.Machine.execVopSel c t f s
  | .vopCvt c t f => Sys2Proof.Machine.execVopCvt c t f s
  | .vopDiv c t f => Sys2Proof.Machine.execVopDiv c t f s
  | .vopRcp c t f => Sys2Proof.Machine.execVopRcp c t f s
  | .vopSqrt c t f => Sys2Proof.Machine.execVopSqrt c t f s
  | .vopRsqrt c t f => Sys2Proof.Machine.execVopRsqrt c t f s
  | .vopExp2 c t f => Sys2Proof.Machine.execVopExp2 c t f s
  | .vopLog2 c t f => Sys2Proof.Machine.execVopLog2 c t f s
  | .vopExp c t f => Sys2Proof.Machine.execVopExp c t f s
  | .vopLog c t f => Sys2Proof.Machine.execVopLog c t f s
  | .vopFunc c t f => Sys2Proof.Machine.execVopFunc c t f s
  | .vopRsum c t f => Sys2Proof.Machine.execVopRsum c t f s
  | .vopRdot c t f => Sys2Proof.Machine.execVopRdot c t f s
  | .vopRssq c t f => Sys2Proof.Machine.execVopRssq c t f s
  | .vopRmax c t f => Sys2Proof.Machine.execVopRmax c t f s
  | .vopRmin c t f => Sys2Proof.Machine.execVopRmin c t f s
  | .startReservation c req => Sys2Proof.Machine.execStartReservation c req s
  | .startGo jobTag => Sys2Proof.Machine.execStartGo jobTag s
  | .reservationCancel c t => Sys2Proof.Machine.execReservationCancel c t s
  | .taskLoadComplete c t => Sys2Proof.Machine.execTaskLoadComplete c t s
  | .taskDrainComplete c t => Sys2Proof.Machine.execTaskDrainComplete c t s
  | .scrubComplete c t => Sys2Proof.Machine.execScrubComplete c t s
  | .seqKill who c mask => Sys2Proof.Machine.execSeqKill who c mask s
  | .seqHold who c mask => Sys2Proof.Machine.execSeqHold who c mask s
  | .weightLoadReady c a => Sys2Proof.Machine.execWeightLoadReady c a s
  | .streamStart c a => Sys2Proof.Machine.execStreamStart c a s
  | .activationRow c x => Sys2Proof.Machine.execActivationRow c x s
  | .halfSumAdd c x => Sys2Proof.Machine.execHalfSumAdd c x s
  | .windowRound c x => Sys2Proof.Machine.execWindowRound c x s
  | .tileCheckResult c d u v => Sys2Proof.Machine.execTileCheckResult c d u v s
  | .diagPass who c v => Sys2Proof.Machine.execDiagPass who c v s
  | .diagDone c x => Sys2Proof.Machine.execDiagDone c x s
  | .arrRepairWrite who c a v => Sys2Proof.Machine.execArrRepairWrite who c a v s
  | .drnCfgWrite who c d which v => Sys2Proof.Machine.execDrnCfgWrite who c d which v s
  | .rowStatwinWrite who c t v => Sys2Proof.Machine.execRowStatwinWrite who c t v s
  | .gatherIdleFlush c => Sys2Proof.Machine.execGatherIdleFlush c s
  | .spadPwrWrite who c v => Sys2Proof.Machine.execSpadPwrWrite who c v s
  | .groupPowerDown c g => Sys2Proof.Machine.execGroupPowerDown c g s
  | .groupPowerUpReady c g => Sys2Proof.Machine.execGroupPowerUpReady c g s
  | .circAdvance c t => Sys2Proof.Machine.execCircAdvance c t s
  | .dmaRequestArrive pkt => Sys2Proof.Machine.execDmaRequestArrive pkt s
  | .tokenArrive c d err u => Sys2Proof.Machine.execTokenArrive c d err u s
  | .bypassForward p fromWest u => Sys2Proof.Machine.execBypassForward p fromWest u s
  | .tokenDispatch c src => Sys2Proof.Machine.execTokenDispatch c src s
  | .routeSteerChange c d => Sys2Proof.Machine.execRouteSteerChange c d s
  | .latSlackWrite who c d v => Sys2Proof.Machine.execLatSlackWrite who c d v s
  | .inputLinkSwitch c d => Sys2Proof.Machine.execInputLinkSwitch c d s
  | .outputLinkSwitch c d => Sys2Proof.Machine.execOutputLinkSwitch c d s
  | .latticeStall c => Sys2Proof.Machine.execLatticeStall c s
  | .latStopSet who c => Sys2Proof.Machine.execLatStopSet who c s
  | .latticeDrained c => Sys2Proof.Machine.execLatticeDrained c s
  | .latStopClear who c => Sys2Proof.Machine.execLatStopClear who c s
  | .messageAcceptance pkt => Sys2Proof.Machine.execMessageAcceptance pkt s
  | .sendResult pkt => Sys2Proof.Machine.execSendResult pkt s
  | .reservationLapse c q place => Sys2Proof.Machine.execReservationLapse c q place s
  | .ringLandingWrite c q => Sys2Proof.Machine.execRingLandingWrite c q s
  | .unitSend c u => Sys2Proof.Machine.execUnitSend c u s
  | .unitResend c u => Sys2Proof.Machine.execUnitResend c u s
  | .sheafBufferCleared c h => Sys2Proof.Machine.execSheafBufferCleared c h s
  | .posyRead who c v => Sys2Proof.Machine.execPosyRead who c v s
  | .posyDone c => Sys2Proof.Machine.execPosyDone c s
  | .flitArrive p port err => Sys2Proof.Machine.execFlitArrive p port err s
  | .escapeFallback p port => Sys2Proof.Machine.execEscapeFallback p port s
  | .escdataWrite who d v => Sys2Proof.Machine.execEscdataWrite who d v s
  | .markDownWrite who c port v => Sys2Proof.Machine.execMarkDownWrite who c port v s
  | .fenceRelease c => Sys2Proof.Machine.execFenceRelease c s
  | .meshTimeout c op => Sys2Proof.Machine.execMeshTimeout c op s
  | .dmaPacketIssue c => Sys2Proof.Machine.execDmaPacketIssue c s
  | .dmaResponse pkt => Sys2Proof.Machine.execDmaResponse pkt s
  | .seamRprWrite who d j v => Sys2Proof.Machine.execSeamRprWrite who d j v s
  | .beaconJoin g c => Sys2Proof.Machine.execBeaconJoin g c s
  | .beaconRelease g => Sys2Proof.Machine.execBeaconRelease g s
  | .beaconFault g => Sys2Proof.Machine.execBeaconFault g s
  | .beaconClear who g v => Sys2Proof.Machine.execBeaconClear who g v s
  | .bcnGcfgWrite who g which v => Sys2Proof.Machine.execBcnGcfgWrite who g which v s
  | .hearthAccess req => Sys2Proof.Machine.execHearthAccess req s
  | .peatAccess req => Sys2Proof.Machine.execPeatAccess req s
  | .hbmTempReport k celsius x => Sys2Proof.Machine.execHbmTempReport k celsius x s
  | .patrolScrubPass ch corrected bad rowFull => Sys2Proof.Machine.execPatrolScrubPass ch corrected bad rowFull s
  | .pprComplete ch ok => Sys2Proof.Machine.execPprComplete ch ok s
  | .heatDecayPeriod d => Sys2Proof.Machine.execHeatDecayPeriod d s
  | .swapStart d v => Sys2Proof.Machine.execSwapStart d v s
  | .swapComplete x => Sys2Proof.Machine.execSwapComplete x s
  | .prefetch x => Sys2Proof.Machine.execPrefetch x s
  | .cool x => Sys2Proof.Machine.execCool x s
  | .pin x => Sys2Proof.Machine.execPin x s
  | .unpin x => Sys2Proof.Machine.execUnpin x s
  | .scan x => Sys2Proof.Machine.execScan x s
  | .scanBlock d k b mismatches errs => Sys2Proof.Machine.execScanBlock d k b mismatches errs s
  | .scanDone d => Sys2Proof.Machine.execScanDone d s
  | .tierPolicyWrite who v => Sys2Proof.Machine.execTierPolicyWrite who v s
  | .rtlCfgWrite who p v => Sys2Proof.Machine.execRtlCfgWrite who p v s
  | .portUcwCheck p corrected ucw => Sys2Proof.Machine.execPortUcwCheck p corrected ucw s
  | .spanRequest pkt win wgen => Sys2Proof.Machine.execSpanRequest pkt win wgen s
  | .directFrameReceive p octets u => Sys2Proof.Machine.execDirectFrameReceive p octets u s
  | .linkFrame p dev rcvdReq freedReq rcvdRsp freedRsp => Sys2Proof.Machine.execLinkFrame p dev rcvdReq freedReq rcvdRsp freedRsp s
  | .linkFrameSend p => Sys2Proof.Machine.execLinkFrameSend p s
  | .frameVanished p rsp => Sys2Proof.Machine.execFrameVanished p rsp s
  | .transitTimeout p rsp => Sys2Proof.Machine.execTransitTimeout p rsp s
  | .ethernetFrameReceive p body u => Sys2Proof.Machine.execEthernetFrameReceive p body u s
  | .timeFrame p ttx ptx prx => Sys2Proof.Machine.execTimeFrame p ttx ptx prx s
  | .timeFrameSend p => Sys2Proof.Machine.execTimeFrameSend p s
  | .spanPacketArrive body => Sys2Proof.Machine.execSpanPacketArrive body s
  | .reorderGapExpire dev prompt => Sys2Proof.Machine.execReorderGapExpire dev prompt s
  | .sendContextEvict dev prompt => Sys2Proof.Machine.execSendContextEvict dev prompt s
  | .reorderContextEvict dev prompt => Sys2Proof.Machine.execReorderContextEvict dev prompt s
  | .spanFenceRelease dev prompt => Sys2Proof.Machine.execSpanFenceRelease dev prompt s
  | .spanOpComplete tag => Sys2Proof.Machine.execSpanOpComplete tag s
  | .spanOpTimeout tag => Sys2Proof.Machine.execSpanOpTimeout tag s
  | .spanWindowWrite who w which v => Sys2Proof.Machine.execSpanWindowWrite who w which v s
  | .routeEntryWrite who dev v => Sys2Proof.Machine.execRouteEntryWrite who dev v s
  | .spanCtrlWrite who which v => Sys2Proof.Machine.execSpanCtrlWrite who which v s
  | .keyCommit who v => Sys2Proof.Machine.execKeyCommit who v s
  | .keyClear who v => Sys2Proof.Machine.execKeyClear who v s
  | .txphaseWrite who v => Sys2Proof.Machine.execTxphaseWrite who v s
  | .keydataWrite who v => Sys2Proof.Machine.execKeydataWrite who v s
  | .perstAssert => Sys2Proof.Machine.execPerstAssert s
  | .perstDeassert => Sys2Proof.Machine.execPerstDeassert s
  | .linkDown => Sys2Proof.Machine.execLinkDown s
  | .cxlReset => Sys2Proof.Machine.execCxlReset s
  | .identify => Sys2Proof.Machine.execIdentify s
  | .getState => Sys2Proof.Machine.execGetState s
  | .getLayout => Sys2Proof.Machine.execGetLayout s
  | .getLogPtr => Sys2Proof.Machine.execGetLogPtr s
  | .getTelemetry => Sys2Proof.Machine.execGetTelemetry s
  | .reqComputeReset => Sys2Proof.Machine.execReqComputeReset s
  | .reqModuleReset => Sys2Proof.Machine.execReqModuleReset s
  | .cxlmemRequest addr x => Sys2Proof.Machine.execCxlmemRequest addr x s
  | .bisnpResponse addr dirty => Sys2Proof.Machine.execBisnpResponse addr dirty s
  | .bisnpSlow addr => Sys2Proof.Machine.execBisnpSlow addr s
  | .producerLineWrite r data => Sys2Proof.Machine.execProducerLineWrite r data s
  | .ringPoll r line => Sys2Proof.Machine.execRingPoll r line s
  | .descriptorFetch r desc => Sys2Proof.Machine.execDescriptorFetch r desc s
  | .jobNop r => Sys2Proof.Machine.execJobNop r s
  | .jobStart r => Sys2Proof.Machine.execJobStart r s
  | .jobSend r => Sys2Proof.Machine.execJobSend r s
  | .jobSendRetry jobTag => Sys2Proof.Machine.execJobSendRetry jobTag s
  | .jobFence r => Sys2Proof.Machine.execJobFence r s
  | .jobTimeout jobTag => Sys2Proof.Machine.execJobTimeout jobTag s
  | .completionRecordWrite jobTag => Sys2Proof.Machine.execCompletionRecordWrite jobTag s
  | .sealUpdate jobTag => Sys2Proof.Machine.execSealUpdate jobTag s
  | .ringEnable who r v => Sys2Proof.Machine.execRingEnable who r v s
  | .ringDisable who r v => Sys2Proof.Machine.execRingDisable who r v s
  | .ideIntegrityFailure stream => Sys2Proof.Machine.execIdeIntegrityFailure stream s
  | .windowVerdict c epoch dupFail => Sys2Proof.Machine.execWindowVerdict c epoch dupFail s
  | .noticeArrive pkt u => Sys2Proof.Machine.execNoticeArrive pkt u s
  | .sealArrive pkt u => Sys2Proof.Machine.execSealArrive pkt u s
  | .retractArrive pkt u => Sys2Proof.Machine.execRetractArrive pkt u s
  | .noticeAcknowledged e k => Sys2Proof.Machine.execNoticeAcknowledged e k s
  | .sealMessageResend e k => Sys2Proof.Machine.execSealMessageResend e k s
  | .lapse e k => Sys2Proof.Machine.execLapse e k s
  | .sealLaneUpdate c d sc => Sys2Proof.Machine.execSealLaneUpdate c d sc s
  | .laneRetract c d => Sys2Proof.Machine.execLaneRetract c d s
  | .digestCompute jobTag => Sys2Proof.Machine.execDigestCompute jobTag s
  | .shadowlocWrite who v => Sys2Proof.Machine.execShadowlocWrite who v s
  | .testDue p => Sys2Proof.Machine.execTestDue p s
  | .sliceResult p slice pinch sig cells => Sys2Proof.Machine.execSliceResult p slice pinch sig cells s
  | .marchResult p pass => Sys2Proof.Machine.execMarchResult p pass s
  | .conditionEvaluate p => Sys2Proof.Machine.execConditionEvaluate p s
  | .watchExpire p => Sys2Proof.Machine.execWatchExpire p s
  | .cinderTimeout p => Sys2Proof.Machine.execCinderTimeout p s
  | .migrationFreeze c => Sys2Proof.Machine.execMigrationFreeze c s
  | .migrationForced c => Sys2Proof.Machine.execMigrationForced c s
  | .migrationCommit c => Sys2Proof.Machine.execMigrationCommit c s
  | .emberWriteComplete c t ok => Sys2Proof.Machine.execEmberWriteComplete c t ok s
  | .jobRecovery jobTag => Sys2Proof.Machine.execJobRecovery jobTag s
  | .recoveryResume jobTag => Sys2Proof.Machine.execRecoveryResume jobTag s
  | .layoutRevision r => Sys2Proof.Machine.execLayoutRevision r s
  | .layoutRestore r => Sys2Proof.Machine.execLayoutRestore r s
  | .routerFailure p => Sys2Proof.Machine.execRouterFailure p s
  | .smdTest who p => Sys2Proof.Machine.execSmdTest who p s
  | .smdFence who p => Sys2Proof.Machine.execSmdFence who p s
  | .smdUnfence who p => Sys2Proof.Machine.execSmdUnfence who p s
  | .smdCinder who p => Sys2Proof.Machine.execSmdCinder who p s
  | .smdCond who p => Sys2Proof.Machine.execSmdCond who p s
  | .moveResting who p => Sys2Proof.Machine.execMoveResting who p s
  | .smdAbandon who p => Sys2Proof.Machine.execSmdAbandon who p s
  | .smdPxdataAccess who d acc => Sys2Proof.Machine.execSmdPxdataAccess who d acc s
  | .powerGoodAssert => Sys2Proof.Machine.execPowerGoodAssert s
  | .powerGoodDeassert => Sys2Proof.Machine.execPowerGoodDeassert s
  | .railFault rail => Sys2Proof.Machine.execRailFault rail s
  | .cxlTrainingStart => Sys2Proof.Machine.execCxlTrainingStart s
  | .stage0 ok => Sys2Proof.Machine.execStage0 ok s
  | .stage1 otpOk a b u => Sys2Proof.Machine.execStage1 otpOk a b u s
  | .stage2 rep => Sys2Proof.Machine.execStage2 rep s
  | .stage3 bad routers esc mps => Sys2Proof.Machine.execStage3 bad routers esc mps s
  | .bootResetCompute who v => Sys2Proof.Machine.execBootResetCompute who v s
  | .bootResetComputeBist who v => Sys2Proof.Machine.execBootResetComputeBist who v s
  | .bootResetCore who v => Sys2Proof.Machine.execBootResetCore who v s
  | .bootResetModule who v => Sys2Proof.Machine.execBootResetModule who v s
  | .computeResetComplete bad routers => Sys2Proof.Machine.execComputeResetComplete bad routers s
  | .coreResetComplete c => Sys2Proof.Machine.execCoreResetComplete c s
  | .mpTest k pass => Sys2Proof.Machine.execMpTest k pass s
  | .foresterWatchdog => Sys2Proof.Machine.execForesterWatchdog s
  | .heartbeat => Sys2Proof.Machine.execHeartbeat s
  | .slotOp die slot op => Sys2Proof.Machine.execSlotOp die slot op s
  | .softRepair die slot array row idx => Sys2Proof.Machine.execSoftRepair die slot array row idx s
  | .setSlack core link adjust => Sys2Proof.Machine.execSetSlack core link adjust s
  | .escInstall table => Sys2Proof.Machine.execEscInstall table s
  | .portMark core port down => Sys2Proof.Machine.execPortMark core port down s
  | .seamRepair die seam wire data => Sys2Proof.Machine.execSeamRepair die seam wire data s
  | .pprGo die chan => Sys2Proof.Machine.execPprGo die chan s
  | .windowSet w base limit ctrl => Sys2Proof.Machine.execWindowSet w base limit ctrl s
  | .routeSet d entry => Sys2Proof.Machine.execRouteSet d entry s
  | .keyAgree d slot => Sys2Proof.Machine.execKeyAgree d slot s
  | .keySwitch slot => Sys2Proof.Machine.execKeySwitch slot s
  | .reset kind core keep => Sys2Proof.Machine.execReset kind core keep s
  | .floorRaise which => Sys2Proof.Machine.execFloorRaise which s
  | .shadowPair rec primary win addr got => Sys2Proof.Machine.execShadowPair rec primary win addr got s
  | .shadowExit => Sys2Proof.Machine.execShadowExit s
  | .logNote sev code d0 d1 => Sys2Proof.Machine.execLogNote sev code d0 d1 s
  | .timeStep ns => Sys2Proof.Machine.execTimeStep ns s
  | .fatalDeviceCondition cause d => Sys2Proof.Machine.execFatalDeviceCondition cause d s
  | .ownershipRecord session owned serial custKey sigOk => Sys2Proof.Machine.execOwnershipRecord session owned serial custKey sigOk s
  | .ideKm session stream on => Sys2Proof.Machine.execIdeKm session stream on s
  | .getVersion => Sys2Proof.Machine.execGetVersion s
  | .getCapabilities version => Sys2Proof.Machine.execGetCapabilities version s
  | .negotiateAlgorithms common => Sys2Proof.Machine.execNegotiateAlgorithms common s
  | .getDigests => Sys2Proof.Machine.execGetDigests s
  | .getCertificate slot off len => Sys2Proof.Machine.execGetCertificate slot off len s
  | .challenge slot nonce => Sys2Proof.Machine.execChallenge slot nonce s
  | .getMeasurements index => Sys2Proof.Machine.execGetMeasurements index s
  | .keyExchange slot session exchange => Sys2Proof.Machine.execKeyExchange slot session exchange s
  | .finish session ok => Sys2Proof.Machine.execFinish session ok s
  | .spdmHeartbeat session => Sys2Proof.Machine.execSpdmHeartbeat session s
  | .keyUpdate session => Sys2Proof.Machine.execKeyUpdate session s
  | .endSession session => Sys2Proof.Machine.execEndSession session s
  | .kxCert slot u => Sys2Proof.Machine.execKxCert slot u s
  | .kxHello slot => Sys2Proof.Machine.execKxHello slot s
  | .kxReply slot u => Sys2Proof.Machine.execKxReply slot u s
  | .kxConfirm slot u => Sys2Proof.Machine.execKxConfirm slot u s
  | .kxTimeout dev => Sys2Proof.Machine.execKxTimeout dev s
  | .netDatagram => Sys2Proof.Machine.execNetDatagram s
  | .pldmSensorRead sensor => Sys2Proof.Machine.execPldmSensorRead sensor s
  | .pldmModuleReset => Sys2Proof.Machine.execPldmModuleReset s
  | .pldmComputeReset bist => Sys2Proof.Machine.execPldmComputeReset bist s
  | .timeBaseTick => Sys2Proof.Machine.execTimeBaseTick s
  | .timeLowRead who => Sys2Proof.Machine.execTimeLowRead who s
  | .logdataRead who => Sys2Proof.Machine.execLogdataRead who s
  | .netkeyWrite who v => Sys2Proof.Machine.execNetkeyWrite who v s
  | .powerSample watts vin => Sys2Proof.Machine.execPowerSample watts vin s
  | .powerControlStep dies => Sys2Proof.Machine.execPowerControlStep dies s
  | .thermalSample d temps rowMw => Sys2Proof.Machine.execThermalSample d temps rowMw s
  | .vcoreDroop d mv long => Sys2Proof.Machine.execVcoreDroop d mv long s
  | .paceMeasure d ps => Sys2Proof.Machine.execPaceMeasure d ps s
  | .sealAcknowledged e k => Sys2Proof.Machine.execSealAcknowledged e k s
  | .portTrainingComplete p lanes => Sys2Proof.Machine.execPortTrainingComplete p lanes s
  | .cxlLinkUp speed width flit => Sys2Proof.Machine.execCxlLinkUp speed width flit s
  | .linkWaitExpire r => Sys2Proof.Machine.execLinkWaitExpire r s
  | .peatChannelFailure ch => Sys2Proof.Machine.execPeatChannelFailure ch s
  | .runEmptyTimeout c => Sys2Proof.Machine.execRunEmptyTimeout c s

end Sys2Proof.Machine
end

