-- ==== Sys2Proof/Safety.lean ====
section
/-! DEFINITION. What counts as a safe step: it neither faults nor is refused, and it keeps every byte store in its
canonical form. -/

namespace Sys2Proof.Machine

/-- The byte stores are in canonical form: keys strictly rising, no entry that holds what an unlisted byte reads as. -/
def State.memWf (s : State) : Bool := twf zeroByte s.ram && twf zeroByte s.hostMem

/-- A step that answers a next state whose byte stores are in canonical form. -/
def safeStep (s : State) : Prop := ∃ t, step s = .next t ∧ (s.memWf = true → t.memWf = true)

end Sys2Proof.Machine
end

