-- ==== Sys2Proof/Certificates/Slice0/Obligations.lean ====
section
/-! DEFINITION. What is claimed of the machine: one proposition for each statement that OBLIGATIONS.json lists, and the words they are written in. -/

namespace Sys2Proof.Claims

open Sys2Proof.Machine

/-! ## Words for task instructions (spec/04) -/

/-- The opcode, core, task slot and fields of a command that is the issue of a task instruction. -/
def insn : Instr → Option (Nat × CoreId × TaskSlot × InsnBits)
  | .nop c t f => some (0x00, c, t, f)
  | .endTask c t f => some (0x01, c, t, f)
  | .br c t f => some (0x02, c, t, f)
  | .jr c t f => some (0x03, c, t, f)
  | .loopI c t f => some (0x04, c, t, f)
  | .kset c t f => some (0x05, c, t, f)
  | .faultI c t f => some (0x06, c, t, f)
  | .time c t f => some (0x07, c, t, f)
  | .addI c t f => some (0x10, c, t, f)
  | .subI c t f => some (0x11, c, t, f)
  | .mulI c t f => some (0x12, c, t, f)
  | .andI c t f => some (0x13, c, t, f)
  | .orI c t f => some (0x14, c, t, f)
  | .xorI c t f => some (0x15, c, t, f)
  | .shl c t f => some (0x16, c, t, f)
  | .shr c t f => some (0x17, c, t, f)
  | .sar c t f => some (0x18, c, t, f)
  | .minI c t f => some (0x19, c, t, f)
  | .maxI c t f => some (0x1a, c, t, f)
  | .movi c t f => some (0x1b, c, t, f)
  | .movhi c t f => some (0x1c, c, t, f)
  | .cmp c t f => some (0x1d, c, t, f)
  | .plog c t f => some (0x1e, c, t, f)
  | .aadd c t f => some (0x1f, c, t, f)
  | .movr c t f => some (0x20, c, t, f)
  | .ld c t f => some (0x28, c, t, f)
  | .st c t f => some (0x29, c, t, f)
  | .wload c t f => some (0x40, c, t, f)
  | .stream c t f => some (0x41, c, t, f)
  | .dset c t f => some (0x42, c, t, f)
  | .uwait c t f => some (0x43, c, t, f)
  | .vturn c t f => some (0x52, c, t, f)
  | .dma c t f => some (0x58, c, t, f)
  | .dmawait c t f => some (0x59, c, t, f)
  | .tpref c t f => some (0x5A, c, t, f)
  | .send c t f => some (0x60, c, t, f)
  | .sendd c t f => some (0x61, c, t, f)
  | .msend c t f => some (0x62, c, t, f)
  | .recv c t f => some (0x63, c, t, f)
  | .recvt c t f => some (0x64, c, t, f)
  | .recvc c t f => some (0x65, c, t, f)
  | .qdone c t f => some (0x66, c, t, f)
  | .shfadd c t f => some (0x68, c, t, f)
  | .shfend c t f => some (0x69, c, t, f)
  | .shfrecv c t f => some (0x6A, c, t, f)
  | .bar c t f => some (0x70, c, t, f)
  | .waitseal c t f => some (0x78, c, t, f)
  | .sealq c t f => some (0x79, c, t, f)
  | .ember c t f => some (0x7C, c, t, f)
  | .cfgsw c t f => some (0x80, c, t, f)
  | .cfgld c t f => some (0x81, c, t, f)
  | .epoch c t f => some (0x82, c, t, f)
  | .evsel c t f => some (0x88, c, t, f)
  | .evctlStart c t f => some (0x89, c, t, withX f (fX f / 4 * 4))
  | .evctlStop c t f => some (0x89, c, t, withX f (fX f / 4 * 4 + 1))
  | .evctlClear c t f => some (0x89, c, t, withX f (fX f / 4 * 4 + 2))
  | .evrd c t f => some (0x8A, c, t, f)
  | .softmax c t f => some (0x50, c, t, withX f 0)
  | .smxPart c t f => some (0x50, c, t, withX f 1)
  | .smxMerge c t f => some (0x50, c, t, withX f 2)
  | .smxNorm c t f => some (0x50, c, t, withX f 3)
  | .lse c t f => some (0x50, c, t, withX f 4)
  | .lnorm c t f => some (0x50, c, t, withX f 5)
  | .rmsnorm c t f => some (0x50, c, t, withX f 6)
  | .topk c t f => some (0x50, c, t, withX f 7)
  | .rowdot c t f => some (0x50, c, t, withX f 8)
  | .softmaxBwd c t f => some (0x50, c, t, withX f 9)
  | .lnormBwd c t f => some (0x50, c, t, withX f 10)
  | .rmsnormBwd c t f => some (0x50, c, t, withX f 11)
  | .vopAdd c t f => some (0x51, c, t, withX f 0x00)
  | .vopSub c t f => some (0x51, c, t, withX f 0x01)
  | .vopMul c t f => some (0x51, c, t, withX f 0x02)
  | .vopFma c t f => some (0x51, c, t, withX f 0x03)
  | .vopMin c t f => some (0x51, c, t, withX f 0x04)
  | .vopMax c t f => some (0x51, c, t, withX f 0x05)
  | .vopAbs c t f => some (0x51, c, t, withX f 0x06)
  | .vopNeg c t f => some (0x51, c, t, withX f 0x07)
  | .vopCmp c t f => some (0x51, c, t, withX f 0x08)
  | .vopSel c t f => some (0x51, c, t, withX f 0x09)
  | .vopCvt c t f => some (0x51, c, t, withX f 0x0A)
  | .vopDiv c t f => some (0x51, c, t, withX f 0x0B)
  | .vopRcp c t f => some (0x51, c, t, withX f 0x0C)
  | .vopSqrt c t f => some (0x51, c, t, withX f 0x0D)
  | .vopRsqrt c t f => some (0x51, c, t, withX f 0x0E)
  | .vopExp2 c t f => some (0x51, c, t, withX f 0x0F)
  | .vopLog2 c t f => some (0x51, c, t, withX f 0x10)
  | .vopExp c t f => some (0x51, c, t, withX f 0x11)
  | .vopLog c t f => some (0x51, c, t, withX f 0x12)
  | .vopFunc c t f => some (0x51, c, t, withX f 0x13)
  | .vopRsum c t f => some (0x51, c, t, withX f 0x14)
  | .vopRdot c t f => some (0x51, c, t, withX f 0x15)
  | .vopRssq c t f => some (0x51, c, t, withX f 0x16)
  | .vopRmax c t f => some (0x51, c, t, withX f 0x17)
  | .vopRmin c t f => some (0x51, c, t, withX f 0x18)
  | _ => none

/-- An instruction with these fields issues and runs its effect: the slot can issue, the form is legal, the guard holds, and no register that
it reads is awaited (R130 to R134). -/
def Issues (s : State) (c : CoreId) (t : TaskSlot) (opc : Nat) (f : InsnBits) : Prop :=
  s.canIssue c t = true ∧ legal opc f = true ∧ (s.task c t).guard f = true ∧ ∀ r ∈ readsOf opc f, r ∉ (s.task c t).pending

/-- An index lies in the task's code (R132). -/
def InCode (s : State) (c : CoreId) (t : TaskSlot) (pc : Int) : Prop := 0 ≤ pc ∧ pc < (s.task c t).img.codeLen

/-- The task in slot t of core c is k, RUNNING, with PC at an index. -/
def runsAt (s : State) (c : CoreId) (t : TaskSlot) (k : Task) (pc : Nat) : State :=
  s.setTask c t { k with pc := pc, phase := .running, wait := none }

/-- An instruction retires: its effect on the task, and PC one further; nothing else changes but what its issue counts. -/
def retires (s : State) (c : CoreId) (t : TaskSlot) (opc : Nat) (f : InsnBits) (eff : Task → Task) : State :=
  let u := s.atIssue c t opc f
  runsAt u c t (eff (u.task c t)) ((s.task c t).pc + 1)

/-- PC moves on by one after an effect that left the state u: past the last instruction the task ends (R132). -/
def advance (u : State) (c : CoreId) (t : TaskSlot) : State := u.setPc c t ((u.task c t).pc + 1)

/-- The task waits on an instruction, at a stage of it, since now. -/
def waitsOn (u : State) (c : CoreId) (t : TaskSlot) (opc : Nat) (f : InsnBits) (stage keep operand : Nat) (sealed : Bool) : State :=
  u.modTask c t (fun k => { k with phase := .waiting, wait := some ⟨opc, f, stage, keep, operand, sealed, u.ns⟩ })

/-- A write by an initiator to the register at a key takes its effect: the host reaches it, its page's core is present, and its write class
admits the initiator (R13, R476, R477). -/
def Takes (s : State) (who : Initiator) (key : Nat) (cls : RegClass) : Prop :=
  (who = .host → s.hostReach key = true) ∧ s.absentPage key = false ∧ s.mayWrite who cls = true

/-- A task in slot t that is neither EMPTY nor frozen, waits in no barrier, and has no end code yet. -/
def FreshEnd (s : State) (c : CoreId) (t : TaskSlot) : Prop :=
  (s.task c t).phase ≠ .empty ∧ (s.task c t).phase ≠ .suspended ∧ (s.task c t).endSet = false ∧ (s.core c).tap = none

/-- The task in slot t drains with its first end code and detail. -/
def drainsWith (u : State) (c : CoreId) (t : TaskSlot) (code : Nat) (detail : Word) : State :=
  u.modTask c t (fun k =>
    { k with endSet := true, endCode := code, async := false, detail := detail, phase := .draining, wait := none, freeze := none })

end Sys2Proof.Claims

open Sys2Proof Sys2Proof.Machine Sys2Proof.Claims

/-! ## The queue of commands and the whole machine -/

/-- A step takes the command at the front of the queue and runs it on the state with the queue's rest; an empty queue idles. -/
def Obligations.StepRunsTheFrontCommand : Prop :=
  (∀ (i : Instr) (rest : List Instr) (s : State), step { s with pending := i :: rest } = exec i { s with pending := rest }) ∧
  (∀ s : State, s.pending = [] → step s = .next s)

/-- No command touches the queue: after a command that answers a next state, the commands that wait are those that waited before it. -/
def Obligations.CommandsLeaveTheQueue : Prop :=
  ∀ (i : Instr) (s t : State), exec i s = .next t → t.pending = s.pending

/-- No command stops the machine but an access to the CXL component registers, which are named and not laid out: a register write or a
read-to-clear at 0x2600000 to 0x260FFFF. -/
def Obligations.OnlyComponentRegistersAreRefused : Prop :=
  ∀ (i : Instr) (s : State), (∃ t, exec i s = .next t) ∨
    (exec i s = .refused .cxlComponentRegister ∧
      ((∃ who off size v, i = .registerWrite who off size v ∧ 0x2600000 ≤ off.toNat ∧ off.toNat < 0x2610000) ∨
       (∃ who off size, i = .readToClear who off size ∧ 0x2600000 ≤ off.toNat ∧ off.toNat < 0x2610000)))

/-- The byte stores of the module and of the host are in canonical form after a cold start. -/
def Obligations.ResetMemoryIsCanonical : Prop := State.reset.memWf = true

/-- Every step keeps the byte stores in canonical form: addresses strictly rising, and no entry equal to what an unlisted byte reads as. -/
def Obligations.StepsKeepMemoryCanonical : Prop :=
  ∀ s t : State, s.memWf = true → step s = .next t → t.memWf = true

/-! ## Task instructions -/

/-- R131: an instruction whose guard is false issues and has no effect: it writes no register, waits for nothing and starts no operation;
only its issue is counted and PC moves on. A guard of PRED 0 with PNEG 1 is illegal. -/
def Obligations.FalseGuardHasNoEffect : Prop :=
  (∀ (i : Instr) (opc : Nat) (c : CoreId) (t : TaskSlot) (f : InsnBits) (s : State), insn i = some (opc, c, t, f) →
    s.canIssue c t = true → legal opc f = true → (s.task c t).guard f = false → InCode s c t ((s.task c t).pc + 1) →
    exec i s = .next (retires s c t opc f id)) ∧
  (∀ (opc : Nat) (f : InsnBits), fPred f = 0 → fPneg f = true → legal opc f = false)

/-- An instruction whose form is not legal ends its task with ILLEGAL at issue, its word in the detail, and has no other effect; and a legal
one that would run past the last instruction of the code ends it so too, with the word of the last instruction issued. -/
def Sys2Proof.Claims.IllegalFormEndsTheTask : Prop :=
  ∀ (c : CoreId) (t : TaskSlot) (f : InsnBits) (s : State), s.canIssue c t = true → FreshEnd s c t →
    (∀ (i : Instr) (opc : Nat), insn i = some (opc, c, t, f) → legal opc f = false →
      exec i s = .next (drainsWith s c t 0x02 (insnWord opc f))) ∧
    (Issues s c t 0x00 f → (s.task c t).img.codeLen ≤ (s.task c t).pc + 1 →
      exec (.nop c t f) s = .next (drainsWith (s.atIssue c t 0x00 f) c t 0x02 (insnWord 0x00 f)))

/-- R134: an instruction that reads a register whose result is still awaited waits: the task is WAITING, and the wait records the
instruction; nothing else changes but what its issue counts. -/
def Sys2Proof.Claims.AwaitedRegisterHoldsIssue : Prop :=
  ∀ (i : Instr) (opc : Nat) (c : CoreId) (t : TaskSlot) (f : InsnBits) (s : State), insn i = some (opc, c, t, f) →
    s.canIssue c t = true → legal opc f = true → (s.task c t).guard f = true → (∃ r ∈ readsOf opc f, r ∈ (s.task c t).pending) →
    (s.task c t).wait = none →
    exec i s = .next (waitsOn (s.atIssue c t opc f) c t opc f 0 0 0 false)

/-- The scalar instructions that write g[D]: its new value; nothing else of the task changes but PC, and nothing else of the machine but
the counts of its issue. -/
def Sys2Proof.Claims.ScalarResults : Prop :=
  ∀ (c : CoreId) (t : TaskSlot) (f : InsnBits) (s : State), InCode s c t ((s.task c t).pc + 1) →
    let k := s.task c t
    let a := k.greg (fA f)
    let b := if fI f then BitVec.ofInt 64 (BitVec.ofNat 32 (fImm f)).toInt else k.greg (fB f)
    let gives (i : Instr) (opc : Nat) (v : Word) : Prop :=
      Issues s c t opc f → exec i s = .next (retires s c t opc f (fun k => k.setG (fD f) v))
    gives (.time c t f) 0x07 (BitVec.ofNat 64 (s.time / 2 ^ 32)) ∧
    gives (.addI c t f) 0x10 (a + b) ∧ gives (.subI c t f) 0x11 (a - b) ∧ gives (.mulI c t f) 0x12 (a * b) ∧
    gives (.andI c t f) 0x13 (a &&& b) ∧ gives (.orI c t f) 0x14 (a ||| b) ∧ gives (.xorI c t f) 0x15 (a ^^^ b) ∧
    gives (.shl c t f) 0x16 (a <<< (b.toNat % 64)) ∧ gives (.shr c t f) 0x17 (a >>> (b.toNat % 64)) ∧
    gives (.sar c t f) 0x18 (a.sshiftRight (b.toNat % 64)) ∧
    gives (.minI c t f) 0x19 (if a.toInt ≤ b.toInt then a else b) ∧ gives (.maxI c t f) 0x1A (if a.toInt ≤ b.toInt then b else a) ∧
    gives (.movi c t f) 0x1B (BitVec.ofInt 64 (BitVec.ofNat 32 (fImm f)).toInt) ∧
    gives (.movhi c t f) 0x1C (BitVec.ofNat 64 ((k.greg (fD f)).toNat % 2 ^ 32 + 2 ^ 32 * fImm f))

/-- KSET, CMP, PLOG, AADD and MOVR: what each writes, in the loop counters, the predicates, the address registers and the general ones;
a write of p0 is ignored. -/
def Sys2Proof.Claims.RegisterFileMoves : Prop :=
  ∀ (c : CoreId) (t : TaskSlot) (f : InsnBits) (s : State), InCode s c t ((s.task c t).pc + 1) →
    let k := s.task c t
    let a := k.greg (fA f)
    let b := if fI f then BitVec.ofInt 64 (BitVec.ofNat 32 (fImm f)).toInt else k.greg (fB f)
    let does (i : Instr) (opc : Nat) (eff : Task → Task) : Prop := Issues s c t opc f → exec i s = .next (retires s c t opc f eff)
    does (.kset c t f) 0x05 (fun k => k.setK (fD f) (b.setWidth 32)) ∧
    (∀ (x : Nat) (v : Bool), fX f % 8 = x →
      (x = 0 ∧ v = decide (a = b)) ∨ (x = 1 ∧ v = decide (a ≠ b)) ∨ (x = 2 ∧ v = decide (a.toInt < b.toInt)) ∨
      (x = 3 ∧ v = decide (b.toInt ≤ a.toInt)) ∨ (x = 4 ∧ v = decide (a.toNat < b.toNat)) ∨ (x = 5 ∧ v = decide (b.toNat ≤ a.toNat)) →
      does (.cmp c t f) 0x1D (fun k => if fD f = 0 then k else k.setP (fD f) v)) ∧
    (let p := k.preg (fA f)
     let q := k.preg (fB f)
     does (.plog c t f) 0x1E (fun k => if fD f = 0 then k else k.setP (fD f)
       (if fX f = 0 then p && q else if fX f = 1 then p || q else if fX f = 2 then xor p q else p && !q))) ∧
    does (.aadd c t f) 0x1F (fun k => k.setA (fD f) (k.areg (fA f) + b)) ∧
    does (.movr c t f) 0x20 (fun k =>
      if fX f = 0 then k.setG (fD f) (k.areg (fA f)) else if fX f = 1 then k.setA (fD f) a
      else if fX f = 2 then k.setG (fD f) ((k.kreg (fA f)).setWidth 64) else k.setG (fD f) (if k.preg (fA f) then 1 else 0))

/-- NOP, BR, JR and LOOP: the next PC of each; a branch to an index not below CODE_LEN ends the task with ILLEGAL at issue, and the detail
is the branch's own word; a branch so refused leaves its counter. LOOP with a counter of 0 leaves it 0; one that counts down to 0 goes on; any
other branches. -/
def Sys2Proof.Claims.ControlFlow : Prop :=
  ∀ (c : CoreId) (t : TaskSlot) (f : InsnBits) (s : State), FreshEnd s c t →
    let k := s.task c t
    let off := (BitVec.ofNat 32 (fImm f)).toInt
    let goes (i : Instr) (opc : Nat) (eff late : Task → Task) (pc : Int) : Prop := Issues s c t opc f →
      let u := s.atIssue c t opc f
      (InCode s c t pc → exec i s = .next (runsAt u c t (eff (u.task c t)) pc.toNat)) ∧
      (¬InCode s c t pc → exec i s = .next (drainsWith (u.modTask c t late) c t 0x02 (insnWord opc f)))
    goes (.nop c t f) 0x00 id id (k.pc + 1) ∧
    goes (.br c t f) 0x02 id id (k.pc + off) ∧
    goes (.jr c t f) 0x03 id id ((k.greg (fA f)).toNat % 2 ^ 15 : Nat) ∧
    (k.kreg (fD f) = 0 → goes (.loopI c t f) 0x04 id id (k.pc + 1)) ∧
    (k.kreg (fD f) = 1 → goes (.loopI c t f) 0x04 (fun k => k.setK (fD f) 0) (fun k => k.setK (fD f) 0) (k.pc + 1)) ∧
    (k.kreg (fD f) ≠ 0 → k.kreg (fD f) ≠ 1 → goes (.loopI c t f) 0x04 (fun k => k.setK (fD f) (k.kreg (fD f) - 1)) id (k.pc + off))

/-- END, FAULT and WAIT_TIMEOUT end the task: it passes to DRAINING with END_OK, USER with the immediate as detail, or TIMEOUT with the
opcode it waits on as detail; no other task and no memory changes. -/
def Sys2Proof.Claims.TaskEnds : Prop :=
  ∀ (c : CoreId) (t : TaskSlot) (f : InsnBits) (s : State), FreshEnd s c t →
    (Issues s c t 0x01 f → exec (.endTask c t f) s = .next (drainsWith (s.atIssue c t 0x01 f) c t 0x00 0)) ∧
    (Issues s c t 0x06 f → exec (.faultI c t f) s =
      .next (drainsWith (s.atIssue c t 0x06 f) c t 0x0A (BitVec.ofInt 64 (BitVec.ofNat 32 (fImm f)).toInt))) ∧
    (∀ w, (s.task c t).phase = .waiting → (s.task c t).wait = some w → w.sealed = false → (s.task c t).img.waitUs ≠ 0 →
      w.since + (s.task c t).img.waitUs * 1000 < s.ns → s.held c t = false →
      exec (.waitTimeout c t) s = .next (drainsWith s c t 0x10 (BitVec.ofNat 64 w.opc)))

/-- LD: g[D] becomes the 2^X bytes that lie at the address in the task's regions, sign-extended when X asks for it; the words found with one
wrong bit are reported. A word found uncorrectable freezes the task, and no data are delivered. -/
def Sys2Proof.Claims.LoadsReadTheRegions : Prop :=
  ∀ (c : CoreId) (t : TaskSlot) (f : InsnBits) (s : State) (ps : List (Nat × Nat)), Issues s c t 0x28 f →
    let k := s.task c t
    let addr := k.areg (fA f) + BitVec.ofInt 64 (BitVec.ofNat 32 (fImm f)).toInt
    let size := 2 ^ (fX f % 4)
    let u := s.atIssue c t 0x28 f
    addr.toNat % size = 0 → isControl addr = false → (s.core c).xlate t addr size false = .ok ps →
    (s.pieceBad c false ps = none →
      exec (.ld c t f) s = .next (advance ((u.pieceCe c ps).modTask c t (fun k => k.setG (fD f) (ldValue (fX f) (s.pieceBytes c ps)))) c t)) ∧
    (∀ o, s.pieceBad c false ps = some o →
      exec (.ld c t f) s = .next ((u.noteUe c o (s.pieceUes c false ps) .narrow (s.jobTag c t)).freezeTask c t .recovery))

/-- ST: the low 2^X bytes of g[B] are stored where the address lies in the task's regions, and nothing else of the task changes but PC; a word
with one wrong bit that they cover in part is counted as corrected. -/
def Sys2Proof.Claims.StoresWriteTheRegions : Prop :=
  ∀ (c : CoreId) (t : TaskSlot) (f : InsnBits) (s : State) (ps : List (Nat × Nat)), Issues s c t 0x29 f →
    let k := s.task c t
    let addr := k.areg (fA f) + BitVec.ofInt 64 (BitVec.ofNat 32 (fImm f)).toInt
    let size := 2 ^ (fX f % 4)
    let u := s.atIssue c t 0x29 f
    addr.toNat % size = 0 → isControl addr = false → (s.core c).xlate t addr size true = .ok ps → s.pieceBad c true ps = none →
    exec (.st c t f) s = .next (advance ((u.mergeCe c ps).pieceStore c ps (leBytes size (k.greg (fB f)).toNat)) c t)

/-- An ST through a base/bound pair changes the bytes it names and no other byte of memory: each stored byte reads as the register's, and
every address whose place is none of theirs reads as before. -/
def Sys2Proof.Claims.StoreChangesOnlyItsBytes : Prop :=
  ∀ (c : CoreId) (t : TaskSlot) (f : InsnBits) (s v : State) (i : Nat), Issues s c t 0x29 f →
    let k := s.task c t
    let addr := (k.areg (fA f) + BitVec.ofInt 64 (BitVec.ofNat 32 (fImm f)).toInt).toNat
    let size := 2 ^ (fX f % 4)
    let q := k.pair i
    let a0 := spadAddr c (q.base + addr % 2 ^ 27)
    i < 4 → addr / 2 ^ 27 = i → addr % size = 0 → q.valid = true → addr % 2 ^ 27 + size ≤ q.size →
    s.pieceBad c true [(q.base + addr % 2 ^ 27, size)] = none →
    (∀ j < size, s.mapByte (a0 + j) = none ∧ s.phys (a0 + j) = a0 + j) →
    exec (.st c t f) s = .next v →
    (∀ j < size, v.byte (a0 + j) = BitVec.ofNat 8 ((k.greg (fB f)).toNat / 2 ^ (8 * j))) ∧
    (∀ a, (∀ j < size, s.phys a ≠ a0 + j) → v.byte a = s.byte a)

/-- R133: a narrow access that is not aligned to its size, or that falls outside the task's regions, ends the task with ACCESS. -/
def Sys2Proof.Claims.NarrowAccessesOutsideEndTheTask : Prop :=
  ∀ (c : CoreId) (t : TaskSlot) (f : InsnBits) (s : State), FreshEnd s c t →
    let addr := (s.task c t).areg (fA f) + BitVec.ofInt 64 (BitVec.ofNat 32 (fImm f)).toInt
    let size := 2 ^ (fX f % 4)
    let ends (i : Instr) (opc : Nat) (write : Bool) : Prop := Issues s c t opc f →
      addr.toNat % size ≠ 0 ∨ (isControl addr = false ∧ (s.core c).xlate t addr size write = .bad) ∨
        (isControl addr = true ∧ (s.core c).control t addr size = none) →
      exec i s = .next (drainsWith (s.atIssue c t opc f) c t 0x03 addr)
    ends (.ld c t f) 0x28 false ∧ ends (.st c t f) 0x29 true

/-- The pointers of a circular region as control words: LD reads TAIL or HEAD; ST advances the pointer by the value stored, TAIL while the
occupancy stays within SIZE and HEAD while it does not pass the occupancy, modulo 2^27; an advance beyond that ends the task with ACCESS;
one whose bytes an earlier operation or descriptor of the task still uses waits, and CIRC_ADVANCE carries it out later. -/
def Sys2Proof.Claims.CircularPointersAdvance : Prop :=
  ∀ (c : CoreId) (t : TaskSlot) (f : InsnBits) (s : State) (r : Nat) (head : Bool), FreshEnd s c t →
    let k := s.task c t
    let addr := k.areg (fA f) + BitVec.ofInt 64 (BitVec.ofNat 32 (fImm f)).toInt
    let q := (s.core c).circ r
    let v := (k.greg (fB f)).toNat
    let room := if head then q.occ else q.size - q.occ
    let moved := if head then { q with head := (q.head + v) % 2 ^ 27 } else { q with tail := (q.tail + v) % 2 ^ 27 }
    let used := if head then (s.core c).readsFrom c t r || s.descReads c t r else (s.core c).writesTo c t r || s.descWrites c t r
    addr.toNat / 2 ^ 27 = 4 → addr.toNat % 2 ^ 27 = 16 * r + (if head then 8 else 0) → r < 16 → fX f % 4 = 3 →
    q.valid = true → q.owner = t →
    (Issues s c t 0x28 f → exec (.ld c t f) s =
      .next (advance ((s.atIssue c t 0x28 f).modTask c t (fun k => k.setG (fD f) (BitVec.ofNat 64 (if head then q.head else q.tail)))) c t)) ∧
    (Issues s c t 0x29 f → used = false → q.occ ≤ q.size →
      let u := s.atIssue c t 0x29 f
      (v ≤ room → exec (.st c t f) s = .next (advance (u.modCore c (fun x => x.setCirc r moved)) c t)) ∧
      (room < v → exec (.st c t f) s = .next (drainsWith u c t 0x03 addr))) ∧
    (Issues s c t 0x29 f → used = true → k.wait = none →
      exec (.st c t f) s = .next (waitsOn (s.atIssue c t 0x29 f) c t 0x29 f 1 0 0 false)) ∧
    (∀ w, k.phase = .waiting → k.wait = some w → w.opc = 0x29 → w.f = f → w.stage = 1 → used = false → v ≤ room → q.occ ≤ q.size →
      exec (.circAdvance c t) s = .next (advance (s.modCore c (fun x => x.setCirc r moved)) c t))

/-- GATHER_IDLE_FLUSH: every byte written to the gather buffer reads back from its line, except in a word that was written in part and whose
stored word is uncorrectable, which is left as it is; every other byte of memory reads as before, and the buffer is empty. A flush of an empty
buffer changes nothing. -/
def Sys2Proof.Claims.GatherBufferFlushes : Prop :=
  ∀ (c : CoreId) (s : State),
    ((s.core c).gather = none → exec (.gatherIdleFlush c) s = .next s) ∧
    (∀ g, (s.core c).gather = some g →
      let a0 := spadAddr c (g.line * 256)
      (∀ j < 256, s.mapByte (a0 + j) = none ∧ s.phys (a0 + j) = a0 + j) →
      ∃ v, exec (.gatherIdleFlush c) s = .next v ∧ (v.core c).gather = none ∧
        (∀ o < 256, v.byte (a0 + o) = match g.at_ o with
          | some b => if s.badWords.contains (a0 + o / 8 * 8) && !g.whole o then s.byte (a0 + o) else b
          | none => s.byte (a0 + o)) ∧
        (∀ a, (∀ o < 256, s.phys a ≠ a0 + o) → v.byte a = s.byte a))

/-- UWAIT goes on once every unit of its mask is idle for the task and waits until then; a wait whose condition has come is met by
WAIT_CONDITION_MET, which runs the waiting instruction again. -/
def Sys2Proof.Claims.WaitsForUnits : Prop :=
  ∀ (c : CoreId) (t : TaskSlot) (f : InsnBits) (s : State), (s.task c t).wait = none → Issues s c t 0x43 f →
    let u := s.atIssue c t 0x43 f
    ((s.core c).idleFor t (fImm f) = true → exec (.uwait c t f) s = .next (advance u c t)) ∧
    ((s.core c).idleFor t (fImm f) = false → exec (.uwait c t f) s = .next (waitsOn u c t 0x43 f 0 0 0 false)) ∧
    (∀ (v : State) (w : WaitRec), (v.task c t).phase = .waiting → (v.task c t).wait = some w → w.opc = 0x43 → w.f = f → w.stage = 0 →
      v.live c = true → (v.core c).idleFor t (fImm f) = true → exec (.waitConditionMet c t) v = .next (advance v c t))

/-! ## Arrays and drains -/

namespace Sys2Proof.Claims

/-- The 64 B operand block of an instruction at the state u of its issue: read from the task's regions, with the state that the read
leaves. -/
def reads (u : State) (c : CoreId) (t : TaskSlot) (f : InsnBits) (v : State) (b : Bytes) : Prop :=
  u.block c t ((u.task c t).addrA f) 64 = .ok v b

/-- The arrays of mask X of an instruction all have a property. -/
def allOf (x : Nat) (p : Nat → Prop) : Prop := ∀ a ∈ arraysOf (x % 16), p a

/-- The state that the vector unit leaves when it takes an operation of slot t that is first in its line: the slot has no place in the line. -/
def leavesLine (s : State) (c : CoreId) (t : TaskSlot) (u : State) : State :=
  if (s.core c).vecWait.contains t.val then
    u.modCore c (fun k => { k with vecWait := (s.core c).vecWait.filter (fun x => decide (x ≠ t.val)) })
  else u

/-- An operation of the vector unit waits behind those issued before it. -/
def waitsInLine (u : State) (c : CoreId) (t : TaskSlot) (opc : Nat) (f : InsnBits) : State :=
  waitsOn (u.modCore c (fun k => { k with vecWait := k.vecWait.filter (fun x => decide (x ≠ t.val)) ++ [t.val] })) c t opc f 0 0 0 false

end Sys2Proof.Claims

/-- R137: a block address outside the task's regions, or not aligned to 64 B, ends the task with ACCESS: WLOAD, STREAM, DSET, DMA, TPREF,
and every ROWOP operation, and VTURN and every VOP operation once no earlier one waits for the vector unit. -/
def Sys2Proof.Claims.BlocksOutsideEndTheTask : Prop :=
  ∀ (i : Instr) (opc : Nat) (c : CoreId) (t : TaskSlot) (f : InsnBits) (s : State), insn i = some (opc, c, t, f) → FreshEnd s c t →
    opc = 0x40 ∨ opc = 0x41 ∨ opc = 0x42 ∨ opc = 0x50 ∨ opc = 0x51 ∨ opc = 0x52 ∨ opc = 0x58 ∨ opc = 0x5A → Issues s c t opc f →
    let addr := (s.task c t).areg (fA f) + BitVec.ofInt 64 (BitVec.ofNat 32 (fImm f)).toInt
    addr.toNat % 64 ≠ 0 ∨ (s.core c).xlate t addr 64 false = .bad →
    let ended := drainsWith (s.atIssue c t opc f) c t 0x03 addr
    (opc ≠ 0x51 → opc ≠ 0x52 → exec i s = .next ended) ∧
    (opc = 0x51 ∨ opc = 0x52 → (s.core c).vecBefore t = [] → exec i s = .next (leavesLine s c t ended))

/-- WLOAD with a valid block begins the load of every array of its mask, each with an EMPTY shadow bank, at the block's addresses offset by
the halves of g[B]; waiting while a bank is not EMPTY; a mask outside the task's arrays or a bad field ends the task with ARRAY_CFG. -/
def Sys2Proof.Claims.WeightLoadsBegin : Prop :=
  ∀ (c : CoreId) (t : TaskSlot) (f : InsnBits) (s v : State) (b : Bytes), Issues s c t 0x40 f → reads (s.atIssue c t 0x40 f) c t f v b →
    let k := s.task c t
    let g := k.greg (fB f)
    let mask := fX f % 16
    let good : Prop := fmtOk (leAt b 12 1) = true ∧ fmtCode (leAt b 12 1) ≤ 6 ∧ leAt b 13 1 ≤ 1 ∧ leAt b 14 1 ≤ 1 ∧
      zeroFrom b 15 49 = true ∧ mask &&& k.img.arrays = mask
    let r : LoadReq := ⟨t, k.pc, (leAt b 0 4 + g.toNat % 2 ^ 32) % 2 ^ 32, (leAt b 4 4 + g.toNat / 2 ^ 32) % 2 ^ 32, leAt b 8 4, leAt b 12 1,
      decide (leAt b 13 1 = 1), decide (leAt b 14 1 = 1)⟩
    (good → allOf mask (fun a => ((v.core c).array a).shadow = .empty ∧ ((v.core c).array a).diag = none) →
      exec (.wload c t f) s = .next (advance (v.modCore c (fun x =>
        (arraysOf mask).foldl (fun x a => x.setArray a { x.array a with shadow := .loading r }) x)) c t)) ∧
    (good → ¬allOf mask (fun a => ((v.core c).array a).shadow = .empty ∧ ((v.core c).array a).diag = none) → (v.task c t).wait = none → v.ns = s.ns →
      exec (.wload c t f) s = .next (waitsOn v c t 0x40 f 0 0 0 false)) ∧
    (¬good → exec (.wload c t f) s = .next (v.endTask c t 0x05 0))

/-- STREAM with a valid block joins the streams of its arrays, unstarted, with the block's fields; it waits while an array has a stream
queued behind the one that runs; a bad field or mask ends the task with ARRAY_CFG. -/
def Sys2Proof.Claims.StreamsQueue : Prop :=
  ∀ (c : CoreId) (t : TaskSlot) (f : InsnBits) (s v : State) (b : Bytes), Issues s c t 0x41 f → reads (s.atIssue c t 0x41 f) c t f v b →
    let k := s.task c t
    let g := k.greg (fB f)
    let mask := fX f % 16
    let src := leAt b 17 1
    let fl := leAt b 19 1
    let good : Prop := fmtOk (leAt b 16 1) = true ∧ fmtCode (leAt b 16 1) ≤ 6 ∧ 1 ≤ leAt b 12 4 ∧ src ≤ 5 ∧ fl < 8 ∧ zeroFrom b 28 36 = true ∧
      mask &&& k.img.arrays = mask ∧
      (src = 5 → leAt b 18 1 < 64 ∧ ∃ q, (v.core c).queue (leAt b 18 1) = some q ∧ q.owner = t ∧ q.land = 1) ∧
      (1 ≤ src ∧ src ≤ 4 → k.img.lattice = true)
    let x : Stream :=
      { id := (v.core c).streamId, task := t, pc := k.pc, mask := mask, src := (leAt b 0 4 + g.toNat % 2 ^ 32) % 2 ^ 32
        scales := (leAt b 4 4 + g.toNat / 2 ^ 32) % 2 ^ 32, stride := leAt b 8 4, rows := leAt b 12 4, fmt := leAt b 16 1, source := src
        queue := leAt b 18 1, swap := fl.testBit 0, final := fl.testBit 1, first := fl.testBit 2, m0 := leAt b 20 4, n0 := leAt b 24 4
        epoch := (v.core c).epoch, started := false, next := 0, poison := false, tokens := [], sealEp := none }
    (good → mask ≠ 0 → allOf mask (fun a => ((v.core c).arrayStreams a).length < 2) →
      exec (.stream c t f) s = .next (advance (v.modCore c (fun y => { y with streams := y.streams ++ [x], streamId := y.streamId + 1 })) c t)) ∧
    (good → mask = 0 → exec (.stream c t f) s = .next (advance v c t)) ∧
    (good → ¬allOf mask (fun a => ((v.core c).arrayStreams a).length < 2) → (v.task c t).wait = none → v.ns = s.ns →
      exec (.stream c t f) s = .next (waitsOn v c t 0x41 f 0 0 0 false)) ∧
    (¬good → exec (.stream c t f) s = .next (v.endTask c t 0x05 0))

/-- DSET with a valid block sets the drains of its mask up, once each holds no window in use and its array has no stream: DRN_CFG,
DRN_SEED and DRN_AUX take the block's words under their writable bits, and the drain takes the block's addresses; a bad field sets the
drains' CFG_FAULT bits and ends the task with DRAIN_CFG. -/
def Sys2Proof.Claims.DrainsAreSetUp : Prop :=
  ∀ (c : CoreId) (t : TaskSlot) (f : InsnBits) (s v : State) (b : Bytes), Issues s c t 0x42 f → reads (s.atIssue c t 0x42 f) c t f v b →
    let k := s.task c t
    let mask := fX f % 16
    let good : Prop := fmtOk (leAt b 0 1) = true ∧ fmtOk (leAt b 20 1) = true ∧ leAt b 28 1 ≤ 2 ∧
      (leAt b 28 1 = 1 → 1 ≤ leAt b 29 1 ∧ leAt b 29 1 ≤ 4 ∧ k.img.lattice = true) ∧ zeroFrom b 30 2 = true ∧ mask &&& k.img.arrays = mask
    let word (off rw at_ : Nat) (s : State) : State :=
      (arraysOf mask).foldl (fun s d => s.setReg (coreKey c (off + 0x20 * d)) (BitVec.ofNat 64 (leAt b at_ 8 &&& rw))) s
    let st : DrainSet := ⟨t, leAt b 24 4, leAt b 28 1, leAt b 29 1, leAt b 32 4, leAt b 36 4, leAt b 40 4, leAt b 44 4, leAt b 48 4,
      leAt b 52 4, BitVec.ofNat 64 (leAt b 56 8)⟩
    (good → allOf mask (fun d => (v.core c).drainFree d = true ∧ (v.core c).arrayStreams d = []) →
      exec (.dset c t f) s = .next (advance ((word 0x2020 0x1FFFFFFFFFF 16 (word 0x2018 0xFFFFFFFFFFFFFFFF 8 (word 0x2010 0xFFFF0001FF3FFFFF 0 v))).modCore c
        (fun y => (arraysOf mask).foldl (fun y d => y.setDrain d { y.drain d with set := st }) y)) c t)) ∧
    (good → ¬allOf mask (fun d => (v.core c).drainFree d = true ∧ (v.core c).arrayStreams d = []) →
      (v.task c t).wait = none → v.ns = s.ns → exec (.dset c t f) s = .next (waitsOn v c t 0x42 f 0 0 0 false)) ∧
    (¬good → exec (.dset c t f) s = .next ((v.orReg (coreKey c 0x2000) (mask * 2 ^ 24)).endTask c t 0x04 0))

/-- WEIGHT_LOAD_READY: once the lines of a load are read, the shadow bank is READY with the elements and scales that they hold; a load held
by a circular region stays LOADING; an array that loads nothing is left as it is. -/
def Sys2Proof.Claims.WeightLoadsComplete : Prop :=
  ∀ (c : CoreId) (a : ArrayId) (s : State),
    (∀ r v w els scs, ((s.core c).array a).shadow = .loading r → s.live c = true → s.taskReads c r.task (r.ranges a) = .ok v els →
      v.taskReads c r.task (r.scaleRanges a) = .ok w scs →
      exec (.weightLoadReady c a) s = .next (w.modCore c (fun k => k.setArray a { k.array a with shadow := .ready (r.bank els scs) }))) ∧
    (∀ r, ((s.core c).array a).shadow = .loading r → s.live c = true → s.taskReads c r.task (r.ranges a) = .held →
      exec (.weightLoadReady c a) s = .next s) ∧
    ((∀ r, ((s.core c).array a).shadow ≠ .loading r) → exec (.weightLoadReady c a) s = .next s)

/-- A loaded weight bank holds, at K position k and column j of its array, the element that lies there in the rows read: element j of row k of
a plain load, and element k of row j of a transposed one. -/
def Sys2Proof.Claims.WeightBanksHoldTheirRows : Prop :=
  ∀ (r : LoadReq) (els scs : List Bytes) (k j : Nat), k < kDepth r.meadow → j < arrayCols r.meadow →
    els.length = (if r.trans then arrayCols r.meadow else kDepth r.meadow) →
    tget (fun _ => 0) (r.bank els scs).elems (k * 128 + j) =
      (let w := elemBits (fmtCode r.fmt)
       if r.trans then packedAt (ofLe (els.getD j [])) w k else packedAt (ofLe (els.getD k [])) w j)

/-- STREAM_START: the stream at the head of its arrays starts when each has a bank of one form that pairs with the stream's format, every
drain's set-up is valid and the reduction rules hold: the banks of a SWAP stream exchange roles, FIRST opens the reduction and FINAL ends it
and opens an output window at the next epoch. -/
def Sys2Proof.Claims.StreamsStart : Prop :=
  ∀ (c : CoreId) (a : ArrayId) (s : State) (x : Stream) (meadow : Bool),
    let k := s.core c
    let as := arraysOf x.mask
    let bank (b : Nat) : Option Bank := if x.swap then (match (k.array b).shadow with | .ready w => some w | _ => none) else (k.array b).active
    (k.arrayStreams a).head? = some x → x.started = false → s.live c = true → a.val ∈ as →
    (∀ b ∈ as, (k.arrayStreams b).head? = some x ∧ (k.array b).diag = none ∧ s.unrepairable c b = false ∧
      ∃ w, bank b = some w ∧ w.meadow = meadow ∧ pairOk x.fmt w.fmt = true ∧ (s.drainCfg c b).valid (k.drain b).set x.fmt w.fmt = true ∧
        reductionOk x meadow (k.drain b).red = true) →
    (∀ y ∈ k.streams, y.started = true → ∀ b ∈ arraysOf y.mask, ∀ w, (k.array b).active = some w → w.meadow = meadow) →
    let swapped (k : Core) : Core := if x.swap then as.foldl (fun k b => match (k.array b).shadow with
      | .ready w => k.setArray b { k.array b with active := some w, shadow := .empty }
      | _ => k) k else k
    let begun (e : Option (BitVec 32)) (k : Core) : Core :=
      let k := as.foldl (fun k d => k.setDrain d ((k.drain d).begin_ x e)) (swapped k)
      { k with streams := k.streams.map (fun y => if y.id = x.id then { y with started := true, sealEp := e } else y) }
    (x.final = false → exec (.streamStart c a) s = .next (s.modCore c (begun none))) ∧
    (∀ e v, x.final = true → s.openWindow c x.task a = some (e, v) →
      exec (.streamStart c a) s = .next ((v.modWin c e (fun w =>
        { w with failed := as.any (fun d => (k.drain d).tileFail)
                 bounded := decide (fmtCode x.fmt = 6) || as.any (fun d => (k.drain d).tileBounded) })).modCore c (begun (some e))))

/-- ACTIVATION_ROW: the running stream takes its next row, or two in dual-row mode, from its source (scratchpad, lattice link or landing
port); in every array of it the row's half-sums wait for their windows and the row joins its check tile, which ends after CK_ROWS rows
or with the stream; the count of activation rows rises; a stream whose last row it was leaves its arrays. A source that cannot supply
holds it. -/
def Sys2Proof.Claims.ActivationRows : Prop :=
  ∀ (c : CoreId) (a : ArrayId) (ups : List Upset) (s : State) (x : Stream),
    let k := s.core c
    let banks := (arraysOf x.mask).filterMap (fun b => ((k.array b).active).map (fun w => (b, w)))
    let meadow := banks.any (fun w => w.2.meadow)
    let d := kDepth meadow
    let dual := dualRow x.fmt (banks.map Prod.snd)
    let want := if dual ∧ x.source ≠ 5 ∧ x.next + 1 < x.rows then 2 else 1
    let need := if 1 ≤ x.source ∧ x.source ≤ 4 then (if 512 < d * elemBits (fmtCode x.fmt) * (if dual then 2 else 1) then 2 else 1) else 0
    let got := if x.source = 0 then s.intakeSpad c x d want else if x.source = 5 then s.intakeQueue c x d else intakeLink s x d want dual
    (k.arrayStreams a).head? = some x → x.started = true → s.live c = true →
    (∀ v rs poison, got = .rows v rs poison →
      let u := v.event c 0x04 1
      exec (.activationRow c ⟨a, ups⟩) s = .next (u.setCore c (banks.foldl (fun k y =>
        k.setDrain y.1 ((k.drain y.1).takeRows x y.2 (u.drainCfg c y.1).texp (2 ^ u.regField (coreKey c 0x2090) 3 0) y.1 ups poison rs))
        ((u.core c).afterIntake x rs.length need u.ns poison)))) ∧
    (got = .held → exec (.activationRow c ⟨a, ups⟩) s = .next s)

/-- What ACTIVATION_ROW gives a drain for one row: with sound circuits its half-sums wait behind those before it, under the row's number and its
place in the output; its check tile counts one row more, and has ended when it has the rows of CK_ROWS or the stream has no more. -/
def Sys2Proof.Claims.RowsReachDrains : Prop :=
  ∀ (dr : Drain) (x : Stream) (b : Bank) (g : Int) (ck a lane : Nat) (poison : Bool) (r : ActRow), 1 ≤ ck →
    let e := dr.takeRow x b g ck a [] poison lane r
    let row := x.next + lane
    let before := match dr.tile with | some t => if t.stream = x.id then t.rows else 0 | none => 0
    e.halfs = dr.halfs ++ [⟨⟨x.id, row, x.task, x.pc, x.m0 + row, x.n0, b.meadow, x.sealEp⟩, x.final, halfSumsOf x.fmt g b r⟩] ∧
    (ck ≤ before + 1 ∨ x.rows ≤ row + 1 → e.tile = none ∧ e.tiles.length = dr.tiles.length + 1 ∧
      ∀ t, e.tiles.getLast? = some t → t.rows = before + 1 ∧ (poison = true → t.fails = true)) ∧
    (¬(ck ≤ before + 1 ∨ x.rows ≤ row + 1) → e.tiles = dr.tiles ∧ ∃ t, e.tile = some t ∧ t.rows = before + 1 ∧ (poison = true → t.fails = true))

/-- The checksum weight of a K position in a weight bank that was loaded: the exact sum of the data weights of its row, in units of 2^-16, for
every format but BF16; in meadow form one for each half of the columns. -/
def Sys2Proof.Claims.ChecksumWeightsSumTheirRows : Prop :=
  ∀ (r : LoadReq) (els scs : List Bytes) (k h : Nat), fmtCode r.fmt ≠ 6 → k < kDepth r.meadow → h < (if r.meadow then 2 else 1) →
    let b := r.bank els scs
    tget (fun _ => zeroNum) b.checks (k * 2 + h) =
      numOfInt (((List.range 64).map (fun j =>
        units16 (decodeElem (fmtCode r.fmt) (fmtMx r.fmt) (tget (fun _ => 0) b.elems (k * 128 + 64 * h + j)))))).sum (-16)

/-- HALF_SUM_ADD: the oldest half-sums of a drain enter the windows of their row; a final row's windows leave as rounding groups of 64
columns. Where the drain's second circuit has other windows, the row's check tile fails; bits lost set the drain's LOSS flag, and a window at
its term limit ends the task with ARITH. -/
def Sys2Proof.Claims.HalfSumsEnterWindows : Prop :=
  ∀ (c : CoreId) (d : ArrayId) (skew : BitVec 256) (s : State) (h : HalfRow) (hs : List HalfRow),
    let x := (s.core c).drain d
    let r := x.addSums h.id.row h.sums
    let y := { r.1 with halfs := hs }
    let y := if h.final then y.complete h.id else y
    let u := s.modCore c (fun k => k.setDrain d y)
    let u := if x.agrees h skew = true then u else u.dupFails c d h.id
    let flagged := if r.2.1 then u.drainFlags c d { Flags.zero with loss := true } else u
    x.halfs = h :: hs → s.live c = true →
    ((∃ w ∈ x.windows, w.1 / 128 = h.id.row) ∨ x.inUse + arrayCols h.id.meadow ≤ 4096) →
    (r.2.2 = false → exec (.halfSumAdd c ⟨d, skew⟩) s = .next flagged) ∧
    (r.2.2 = true → exec (.halfSumAdd c ⟨d, skew⟩) s =
      .next ((flagged.orReg (coreKey c 0x2000) (2 ^ (28 + d.val))).endAsync c h.id.task h.id.pc 0x08 0))

/-- WINDOW_ROUND: the oldest completed group of a drain is rounded with its set-up, leaves the drain and is counted; where the second circuit
differs its row's check tile fails. A held access leaves it waiting, and a window at its term limit ends the task with ARITH. -/
def Sys2Proof.Claims.WindowsRound : Prop :=
  ∀ (c : CoreId) (d : ArrayId) (skew : BitVec 32) (s : State) (r : RoundReq) (rs : List RoundReq),
    ((s.core c).drain d).rounds = r :: rs → s.live c = true →
    let popped (v : State) : State := v.modCore c (fun k => k.setDrain d { k.drain d with rounds := rs })
    let x : RoundCtx := ⟨r, s.drainCfg c d, ((s.core c).drain d).set, coreCol r.id.meadow d r.col⟩
    (∀ v, s.roundGroup c d x = .ok v false → skew = 0 → exec (.windowRound c ⟨d, skew⟩) s = .next ((popped v).event c 0x08 1)) ∧
    (∀ v, s.roundGroup c d x = .ok v false → skew ≠ 0 →
      exec (.windowRound c ⟨d, skew⟩) s = .next (((popped v).dupFails c d r.id).event c 0x08 1)) ∧
    (∀ v, s.roundGroup c d x = .ok v true → exec (.windowRound c ⟨d, skew⟩) s =
      .next (((popped v).orReg (coreKey c 0x2000) (2 ^ (28 + d.val))).endAsync c r.id.task r.id.pc 0x08 0)) ∧
    (s.roundGroup c d x = .held → exec (.windowRound c ⟨d, skew⟩) s = .next s)

/-- TILE_CHECK_RESULT: the result of the oldest check tile that ended is out once none of its half-sums waits: it is counted; a failing one is
counted too, sets the drain's failure bits, is logged once with its kind and place, and fails its output window or, before the window opens,
the open reduction. The epoch logged with no window is a free value. Until then nothing changes. -/
def Sys2Proof.Claims.TileChecks : Prop :=
  ∀ (c : CoreId) (d : ArrayId) (s : State) (t : CheckTile) (ts : List CheckTile),
    let x := (s.core c).drain d
    x.tiles = t :: ts → s.live c = true →
    let fails := t.rowsFail ≠ 0 ∨ t.colsFail ≠ [] ∨ t.dupFail = true ∨ t.poison = true
    let u := ((s.modCore c (fun k => k.setDrain d { x with tiles := ts })).count (coreKey c 0x20A0) 63 32 1).event c 0x06 1
    let w := (u.count (coreKey c 0x20A0) 31 0 1).event c 0x07 1
    let w := if t.rowsFail ≠ 0 ∨ t.colsFail ≠ [] ∨ t.poison = true then w.orReg (coreKey c 0x2000) (2 ^ (16 + d.val)) else w
    let w := if t.dupFail then w.orReg (coreKey c 0x2000) (2 ^ (20 + d.val)) else w
    ((∃ h ∈ x.halfs, t.holds h.id = true) → exec (.tileCheckResult c d () ()) s = .next s) ∧
    ((∀ h ∈ x.halfs, t.holds h.id = false) →
      (¬fails → exec (.tileCheckResult c d () ()) s = .next u) ∧
      (∀ e, fails → t.epoch = some e → exec (.tileCheckResult c d () ()) s =
        .next ((w.logOnce (coreKey c 0x2098) 0 (t.log d e.toNat)).modWin c e (fun w => { w with failed := true }))) ∧
      (fails → t.epoch = none → exec (.tileCheckResult c d () ()) s =
        .next (({ w with freeIdx := w.freeIdx + 1 }.logOnce (coreKey c 0x2098) 0 (t.log d ((Config.freeWord w.freeIdx).toNat % 2 ^ 32))).modCore c
          (fun k => k.setDrain d { k.drain d with tileFail := true }))))

/-- A write of ARR_DIAG that takes effect starts a pass over a column of an array that neither streams nor holds a shadow bank, and is ignored
otherwise or for a column above 66; DIAG_DONE ends it: GO clears unless another array's pass still runs, DONE sets, and a failing row is shown
and kept as located. -/
def Sys2Proof.Claims.DiagnosticPasses : Prop :=
  ∀ (who : Initiator) (c : CoreId) (s : State),
    let key := coreKey c 0x1050
    let old := s.reg key
    (∀ v : Word, Takes s who key .w →
      let a := v.toNat / 2 % 4
      let col := v.toNat / 8 % 128
      let fields := setField (setField old 9 3 col) 2 1 a
      let k := s.core c
      (bitOf v 0 = false → exec (.diagPass who c v) s = .next (s.setReg key fields)) ∧
      (bitOf v 0 = true → k.streaming a = false → (k.array a).shadow = .empty → col ≤ 66 →
        exec (.diagPass who c v) s = .next ((s.setReg key (setBit (setBit fields 16 false) 0 true)).modCore c
          (fun k => k.setArray a { k.array a with diag := some col }))) ∧
      (bitOf v 0 = true → k.streaming a = true ∨ (k.array a).shadow ≠ .empty ∨ 66 < col →
        exec (.diagPass who c v) s = .next s)) ∧
    (∀ (fail : Option (BitVec 9)) (a : ArrayId) (col : Nat), ((s.core c).array a).diag = some col → ∀ more : Bool,
      (more = true ↔ ∃ b < 4, b ≠ a.val ∧ ((s.core c).array b).diag ≠ none) →
      let done := setBit (setBit old 0 more) 16 true
      exec (.diagDone c ⟨a, fail⟩) s = .next ((s.setReg key (match fail with
          | some r => setField (setBit done 17 true) 24 18 r.toNat
          | none => setField (setBit done 17 false) 24 18 0)).modCore c
        (fun k => k.setArray a { k.array a with diag := none, located := fail.map (fun r => (col, r.toNat, s.ns)) })))

/-- ARR_REPAIR_WRITE takes effect only while the array neither streams nor loads and every entry lies in the array, and a change of the repair
map, the union with the fuses' map, invalidates both banks; otherwise REPAIR_REJECT is set. DRN_CFG_WRITE takes effect only while the drain
holds no window and no stream runs on its array. -/
def Sys2Proof.Claims.RepairAndDrainWrites : Prop :=
  ∀ (who : Initiator) (c : CoreId) (a : ArrayId) (v : Word) (s : State),
    let k := s.core c
    let key := coreKey c (0x1010 + 8 * a.val)
    let map := v &&& 0xFFFFFFFF
    let taken := k.streaming a = false ∧ k.loading a = false ∧ repairBad map = false
    let fuse := Config.arrFuse ((s.slotOf c).getD 0) a
    (Takes s who key .w → taken → sameMap fuse (s.reg key) map = false →
      exec (.arrRepairWrite who c a v) s = .next ((s.setReg key map).modCore c
        (fun k => k.setArray a { k.array a with active := none, shadow := .empty }))) ∧
    (Takes s who key .w → taken → sameMap fuse (s.reg key) map = true → exec (.arrRepairWrite who c a v) s = .next (s.setReg key map)) ∧
    (Takes s who key .w → ¬taken → exec (.arrRepairWrite who c a v) s = .next (s.orReg (coreKey c 0x1000) (2 ^ (8 * a.val + 6)))) ∧
    (∀ which : Fin 3,
      let reg := coreKey c (0x2010 + 0x20 * a.val + 8 * which.val)
      let idle := (k.drain a).noWindow = true ∧ ∀ x ∈ k.arrayStreams a, x.started = false
      Takes s who reg .f →
      (idle → exec (.drnCfgWrite who c a which v) s = .next (s.regWrite reg v)) ∧
      (¬idle → exec (.drnCfgWrite who c a which v) s = .next (s.orReg (coreKey c 0x2000) (2 ^ (32 + a.val)))))

/-! ## The row engine and the vector unit -/

/-- ROWOP, every operation: a valid operation whose statistics slots lie in the task's window opens an output window and waits its turn in the
row engine; one outside the engine's limits sets CFG_FAULT and ends the task with ROW_CFG, one outside the statistics window sets STAT_FAULT
and ends it with STAT; with 256 windows open it waits. SOFTMAX_BWD takes the place of the free value that it draws (log entry 26). -/
def Sys2Proof.Claims.RowOperationsQueue : Prop :=
  ∀ (i : Instr) (c : CoreId) (t : TaskSlot) (f : InsnBits) (s v : State) (b : Bytes), insn i = some (0x50, c, t, f) → Issues s c t 0x50 f →
    reads (s.atIssue c t 0x50 f) c t f v b → fX f < 12 →
    let o : RowOp := ⟨t, (s.task c t).pc, fX f, b, 0, 0, [], [], 0, if fX f = 9 then v.freeIdx else 0⟩
    let u := if fX f = 9 then { v with freeIdx := v.freeIdx + 1 } else v
    (∀ e w, o.ok = true → u.statOk c t o = true → u.openWindow c t 4 = some (e, w) →
      exec i s = .next (advance (w.modCore c (fun k => { k with rowOps := k.rowOps ++ [{ o with sealEp := e }] })) c t)) ∧
    (o.ok = false → exec i s = .next ((u.orReg (coreKey c 0x3000) (2 ^ 9)).endTask c t 0x06 0)) ∧
    (o.ok = true → u.statOk c t o = false → exec i s = .next ((u.orReg (coreKey c 0x3000) (2 ^ 10)).endTask c t 0x07 0)) ∧
    (o.ok = true → u.statOk c t o = true → u.openWindow c t 4 = none → (v.task c t).wait = none → v.ns = s.ns →
      exec i s = .next (waitsOn u c t 0x50 f 0 0 0 false))

/-- ROW_COMPLETE: the row engine completes the next row of the operation at its head: its writes under the operation's window, its flags, its
statistics record and counts; the last row also leaves what the operation accumulated and removes it. -/
def Sys2Proof.Claims.RowsComplete : Prop :=
  ∀ (c : CoreId) (s v w : State) (o : RowOp) (ops : List RowOp) (r : RowRes), (s.core c).rowOps = o :: ops → s.live c = true →
    s.rowNext c o = .ok v (.ok r) → v.unitWrites c o.task o.sealEp r.writes = .ok w () →
    let n := r.op
    let done (x : State) : State :=
      let x := (x.rowFlags c r.flags).winFlags c (some n.sealEp) r.flags
      let x := x.count (coreKey c 0x3048) 63 32 1
      let x := if n.op = 2 then x.count (coreKey c 0x3048) 31 0 1 else x
      x.modCore c (fun k => { k with
        stats := match r.stat with
          | some y => tset (fun _ => 0) k.stats (n.stat + n.next) y
          | none => k.stats
        rowOps := if n.rows ≤ n.next + 1 then k.rowOps.drop 1 else { n with next := n.next + 1 } :: k.rowOps.drop 1 })
    (o.next + 1 < o.rows → exec (.rowComplete c) s = .next (done w)) ∧
    (∀ x, o.rows ≤ o.next + 1 → w.rowExport c n = .ok x () → exec (.rowComplete c) s = .next (done x))

/-- TOPK writes k values and k indices of its row: the values in falling order, equal ones by index, NaN last, and minus infinity with index
2^32 − 1 where the row has fewer elements. -/
def Obligations.TopkRanks : Prop :=
  ∀ (o : RowOp) (xs : List Machine.Num), xs.length = o.len → o.len < 2 ^ 32 →
    ∃ top : List (Machine.Num × Nat), top.length = min o.kn o.len ∧ (∀ p ∈ top, xs[p.2]? = some p.1) ∧
      top.Pairwise (fun p q => ranksAbove q.1 p.1 = false ∧ (ranksAbove p.1 q.1 = false → p.2 < q.2)) ∧
      (∀ j x, xs[j]? = some x → (x, j) ∉ top → ∀ p ∈ top, ranksAbove x p.1 = false) ∧
      (rowTopk o xs).writes =
        [(o.outAddr + o.next * 4 * o.kn, (top.map (fun p => f32Bytes p.1)).flatten ++
            (List.replicate (o.kn - top.length) (f32Bytes (.inf true))).flatten),
         (o.out2 + o.next * 4 * o.kn, (top.map (fun p => leBytes 4 p.2)).flatten ++
            (List.replicate (o.kn - top.length) (leBytes 4 0xFFFFFFFF)).flatten)]

/-- VOP, every operation, once no earlier one waits for the vector unit: a valid block whose operands can be read has its result written under
an output window of its own, and its flags set and recorded with the window; a bad block sets CFG_FAULT and ends the task with ROW_CFG. -/
def Sys2Proof.Claims.VectorOperationsComplete : Prop :=
  ∀ (i : Instr) (c : CoreId) (t : TaskSlot) (f : InsnBits) (s v : State) (b : Bytes), insn i = some (0x51, c, t, f) → Issues s c t 0x51 f →
    (s.core c).vecBefore t = [] → reads (s.atIssue c t 0x51 f) c t f v b →
    let x : Vec := ⟨b, fX f⟩
    let k := s.task c t
    (∀ w ins e y z, x.ok false = true → v.vecIns c t x (k.greg (fB f)) x.arity 0 = .ok w ins → w.openWindow c t 5 = some (e, y) →
      let res := x.result (k.preg x.sub) ins.1
      let fl := res.2.or ins.2
      y.unitWrites c t e res.1 = .ok z () →
      exec i s = .next (advance (leavesLine s c t ((z.vecFlags c fl).winFlags c (some e) fl)) c t)) ∧
    (x.ok false = false → exec i s = .next (leavesLine s c t ((v.orReg (coreKey c 0x3000) (2 ^ 9)).endTask c t 0x06 0)))

/-- The vector unit takes operations in the order of their issue: a VOP or a VTURN that is issued while one of another task waits for the unit
waits behind it. -/
def Sys2Proof.Claims.VectorOperationsKeepTheirOrder : Prop :=
  ∀ (i : Instr) (opc : Nat) (c : CoreId) (t : TaskSlot) (f : InsnBits) (s : State), insn i = some (opc, c, t, f) →
    opc = 0x51 ∨ opc = 0x52 → Issues s c t opc f → (s.task c t).wait = none →
    (∃ u ∈ (s.core c).vecWait, u ≠ t.val ∧ (s.core c).waitsVec u = true) →
    exec i s = .next (waitsInLine (s.atIssue c t opc f) c t opc f)

/-- What an element-wise vector operation gives for one element before it is rounded once: the exact sum, difference, product or fused product
and sum; the smaller or larger operand; the magnitude, the negation, the selected operand or the operand itself. -/
def Sys2Proof.Claims.VectorElementValues : Prop :=
  ∀ (b : Bytes) (sel : Bool) (x y z : Machine.Num),
    let val (op : Nat) := (Vec.elem ⟨b, op⟩ sel x y z)
    val 0x00 = ((Machine.Num.add x y, false), Flags.zero) ∧ val 0x01 = ((Machine.Num.add x y.neg, false), Flags.zero) ∧
    val 0x02 = ((Machine.Num.mul x y, false), Flags.zero) ∧ val 0x03 = ((Machine.Num.add (Machine.Num.mul x y) z, false), Flags.zero) ∧
    (x.isNan = false → y.isNan = false →
      val 0x04 = ((if y.lt x then y else x, false), Flags.zero) ∧ val 0x05 = ((if x.lt y then y else x, false), Flags.zero)) ∧
    (x.isNan = true ∨ y.isNan = true → val 0x04 = ((.nan, false), Flags.zero) ∧ val 0x05 = ((.nan, false), Flags.zero)) ∧
    val 0x06 = ((x.abs, false), Flags.zero) ∧ val 0x07 = ((x.neg, false), Flags.zero) ∧
    val 0x09 = ((if sel then x else y, false), Flags.zero) ∧ val 0x0A = ((x, false), Flags.zero)

/-- VTURN: the rows read are written turned: row j of the result holds element j of every row; flags and the window as for the other vector
operations. -/
def Sys2Proof.Claims.TurningCopyCompletes : Prop :=
  ∀ (c : CoreId) (t : TaskSlot) (f : InsnBits) (s v w : State) (b : Bytes) (rows : List (List Machine.Num)) (fl : Flags) (e : BitVec 32) (y z : State),
    Issues s c t 0x52 f → (s.core c).vecBefore t = [] → reads (s.atIssue c t 0x52 f) c t f v b →
    let x : Vec := ⟨b, 0⟩
    x.ok true = true → v.turnRows c t x (List.range x.count) = .ok w (rows, fl) → w.openWindow c t 5 = some (e, y) →
    let outs := (List.range x.aux).map (fun j => (j, x.out.row (x.m0 + j) x.n0 (rows.map (fun r => (r.getD j zeroNum, false)))))
    let flags := (flagsOf (outs.map (fun o => o.2.2.2))).or fl
    y.unitWrites c t e (outs.flatMap (fun o => rowWrites x.outAddr x.aux o.1 x.outFmt x.count o.2.1 o.2.2.1)) = .ok z () →
    exec (.vturn c t f) s = .next (advance (leavesLine s c t ((z.vecFlags c flags).winFlags c (some e) flags)) c t)

/-- ROW_STATWIN_WRITE takes effect only while its slot holds no resident task; otherwise STATWIN_REJECT is set and nothing else changes. -/
def Sys2Proof.Claims.StatisticsWindowWrites : Prop :=
  ∀ (who : Initiator) (c : CoreId) (t : TaskSlot) (v : Word) (s : State), Takes s who (coreKey c (0x3010 + 8 * t.val)) .f →
    ((s.task c t).phase = .empty → exec (.rowStatwinWrite who c t v) s = .next (s.regWrite (coreKey c (0x3010 + 8 * t.val)) v)) ∧
    ((s.task c t).phase ≠ .empty → exec (.rowStatwinWrite who c t v) s = .next (s.orReg (coreKey c 0x3000) (2 ^ 11)))

/-! ## DMA -/

/-- DMA takes the lowest free of the 16 slots, returns the slot and its generation as the tag, and raises that generation; it waits while all
are busy, and a descriptor that breaks its rules ends the task with ILLEGAL. -/
def Sys2Proof.Claims.DmaIssues : Prop :=
  ∀ (c : CoreId) (t : TaskSlot) (f : InsnBits) (s v : State) (b : Bytes), Issues s c t 0x58 f → reads (s.atIssue c t 0x58 f) c t f v b →
    let busy (i : Nat) : Prop := ∃ d ∈ (v.core c).dmas, d.slot = i
    (∀ i, dmaDescOk b = true → i < 16 → ¬busy i → (∀ j < i, busy j) →
      let gen := tget (fun _ => 0) (v.core c).dmaGen i
      let d : Dma :=
        { slot := i, gen := gen, task := t, pc := (v.task c t).pc, src := BitVec.ofNat 64 (leAt b 0 8), dst := BitVec.ofNat 64 (leAt b 8 8)
          len := leAt b 16 4, flags := leAt b 20 1, timeout := leAt b 24 4, issued := 0, read := 0, wrote := 0, since := v.ns, pkts := [] }
      exec (.dma c t f) s = .next (advance ((v.modCore c (fun k =>
        { k with dmas := k.dmas ++ [d], dmaGen := tset (fun _ => 0) k.dmaGen i ((gen + 1) % 256) })).modTask c t
          (fun k => k.setG (fD f) (BitVec.ofNat 64 (i + gen * 256)))) c t)) ∧
    (dmaDescOk b = true → (∀ j < 16, busy j) → (v.task c t).wait = none → v.ns = s.ns →
      exec (.dma c t f) s = .next (waitsOn v c t 0x58 f 0 0 0 false)) ∧
    (dmaDescOk b = false → exec (.dma c t f) s = .next (v.endTask c t 0x02 (v.task c t).lastWord))

/-- DMAWAIT goes on when no DMA of the task has the tag in g[A], or, with X.I set, when the task has no DMA; until then it waits. -/
def Sys2Proof.Claims.DmaWaits : Prop :=
  ∀ (c : CoreId) (t : TaskSlot) (f : InsnBits) (s : State), Issues s c t 0x59 f → (s.task c t).wait = none →
    let awaited (d : Dma) : Prop := d.task = t ∧ (fI f = true ∨ d.slot + d.gen * 256 = ((s.task c t).greg (fA f)).toNat)
    let u := s.atIssue c t 0x59 f
    ((∀ d ∈ (s.core c).dmas, ¬awaited d) → exec (.dmawait c t f) s = .next (advance u c t)) ∧
    ((∃ d ∈ (s.core c).dmas, awaited d) → exec (.dmawait c t f) s = .next (waitsOn u c t 0x59 f 0 0 0 false))

/-- DMA_PACKET_ISSUE: the oldest DMA with bytes left, with fewer than 64 packets of its core in flight, sends the read of its next packet: at
most 4,096 bytes and within one 4 KiB block of each address; the packet is counted. -/
def Sys2Proof.Claims.DmaPacketsIssue : Prop :=
  ∀ (c : CoreId) (s : State) (d : Dma), s.live c = true → (s.core c).dmas.find? (fun x => decide (x.issued < x.len)) = some d →
    (s.core c).pktsOut < 64 →
    let o := d.issued
    let src := addrPlus (d.flags.testBit 0) d.src o
    let dst := addrPlus (d.flags.testBit 1) d.dst o
    let w := min (min (d.len - o) 4096) (min (4096 - src.toNat % 4096) (4096 - dst.toNat % 4096))
    let i := ((List.range 64).find? (fun i => !d.pkts.any (fun p => decide (p.tag = pktTag d i)))).getD 0
    let last := decide (o + w = d.len)
    let u := s.modCore c (fun k => k.modDma d.slot (fun d => { d with issued := o + w, pkts := d.pkts ++ [⟨pktTag d i, o, w, none, false⟩] }))
    let far := decide (u.route (d.flags.testBit 0) src w ≠ some (placeOf c))
    exec (.dmaPacketIssue c) s = .next ((u.dmaRequest c (u.dmaDue c d) .dmaRead (d.flags.testBit 4 && last && far) (d.flags.testBit 2 && last)
      (d.flags.testBit 0) (pktTag d i) src w []).event c 0x16 1)

/-- DMA_RESPONSE at a live core, of a response that has landed: data read go on as the packet's write once the writes of every packet before it
have left; a write acknowledged completes its packet, and its DMA when nothing of it is left; a status other than OK ends the DMA and its task; a
response that nothing awaits is counted. One that has not landed changes nothing, and an isolated core discards it. -/
def Sys2Proof.Claims.DmaResponses : Prop :=
  ∀ (p : Packet) (n : CoreId) (s : State), p.dst = .core n →
    (s.here p = false → exec (.dmaResponse p) s = .next s) ∧
    (s.here p = true → s.live n = false → exec (.dmaResponse p) s = .next ((s.take p).countDiscard n)) ∧
    (s.here p = true → s.live n = true →
      let u := (s.take p).modCore n (fun c => c.settle p.tag)
      ((u.core n).dmaOf p.tag = none → exec (.dmaResponse p) s = .next (u.count (coreKey n rMESH_CNT) 63 32 1)) ∧
      (∀ d x, (u.core n).dmaOf p.tag = some (d, x) →
        (p.status = .ok → p.type = .readData →
          let d' := { d with pkts := d.pkts.map (fun y => if y.tag = x.tag then { y with data := some p.data } else y) }
          exec (.dmaResponse p) s = .next ((nextWrites d'.pkts).foldl (fun v y =>
            let last := decide (y.off + y.len = d.len)
            let w := v.modCore n (fun c => c.modDma d.slot (fun e => { e with pkts := e.pkts.map (fun z => if z.tag = y.tag then { z with out := true } else z) }))
            w.dmaRequest n (w.dmaDue n d') .dmaWrite (d.flags.testBit 4 && last) (d.flags.testBit 3 && last) (d.flags.testBit 1) y.tag
              (addrPlus (d.flags.testBit 1) d.dst y.off) y.len (y.data.getD [])) (u.modCore n (fun c => c.modDma d.slot (fun _ => d'))))) ∧
        (p.status = .ok → p.type = .writeAck →
          let left := d.pkts.filter (fun y => decide (y.tag ≠ x.tag))
          (left = [] ∧ d.issued = d.len → exec (.dmaResponse p) s =
            .next (u.modCore n (fun c => { c with dmas := c.dmas.filter (fun y => decide (y.slot ≠ d.slot)) }))) ∧
          (¬(left = [] ∧ d.issued = d.len) → exec (.dmaResponse p) s =
            .next (u.modCore n (fun c => c.modDma d.slot (fun d => { d with pkts := left }))))) ∧
        (let gone := u.modCore n (fun c => { c with dmas := c.dmas.filter (fun y => decide (y.slot ≠ d.slot)) })
         (p.status = .refused → exec (.dmaResponse p) s = .next (gone.endAsync n d.task d.pc 0x03 0)) ∧
         (p.status = .denied → exec (.dmaResponse p) s = .next (gone.endAsync n d.task d.pc 0x11 0)) ∧
         (p.status = .poisoned → exec (.dmaResponse p) s =
           .next ((gone.orReg (coreKey n rMESH_STATUS) (2 ^ 5)).freezeTask n d.task .recovery)))))

/-- The writes of a DMA leave in address order: those that go when data have arrived are, of its packets in order up to the first one whose data
are still awaited, the ones that have not gone before. -/
def Sys2Proof.Claims.WritesLeaveInAddressOrder : Prop :=
  ∀ (ps : List DmaPkt), nextWrites ps = (ps.takeWhile (fun p => p.out || p.data.isSome)).filter (fun p => !p.out)

/-- DMA_REQUEST_ARRIVE at a live core, of a request that has landed: a range that is not accepted, or whose power is off, is refused with no byte
moved; a write stores its bytes; a read that no NOTICE must precede answers with its bytes; a region advance asked for is made or refused with
it; a request that meets an uncorrectable word is reported and answered POISONED. A MIGRATE packet is acknowledged at its slot, and an isolated
core discards a request. -/
def Sys2Proof.Claims.DmaRequestsAreServed : Prop :=
  (∀ (p : Packet) (q : Fin 576) (s : State), p.dst = .slot q → p.type = .migrate → s.here p = true →
    exec (.dmaRequestArrive p) s = .next ((s.take p).respond p .ok [])) ∧
  (∀ (p : Packet) (n : CoreId) (s : State), p.dst = .core n → s.here p = true → p.type = .dmaRead ∨ p.type = .dmaWrite →
    let u := s.take p
    (s.live n = false → exec (.dmaRequestArrive p) s = .next (u.countDiscard n)) ∧
    (s.live n = true → s.requestPieces n p = none → exec (.dmaRequestArrive p) s = .next (u.respond p .refused [])) ∧
    (∀ ps, s.live n = true → s.requestPieces n p = some ps →
      ((∃ q ∈ ps, s.spadPowered n q.1 q.2 = false) →
        exec (.dmaRequestArrive p) s = .next ((u.orReg (coreKey n rSPAD_STATUS) (2 ^ 2)).respond p .refused [])) ∧
      ((∀ q ∈ ps, s.spadPowered n q.1 q.2 = true) →
        (p.type = .dmaWrite →
          let w := (u.mergeCe n ps).pieceStore n ps p.data
          (u.pieceBad n true ps = none →
            let r := w.applyAdv n p false .ok
            exec (.dmaRequestArrive p) s = .next (r.1.respond p r.2 [])) ∧
          (∀ o, u.pieceBad n true ps = some o →
            exec (.dmaRequestArrive p) s = .next ((w.noteUe n o (u.pieceUes n true ps) .dma 0).respond p .poisoned []))) ∧
        (p.type = .dmaRead → u.servePlan n ps (s.destOf p) p [] = .now →
          (u.pieceBad n false ps = none →
            let r := (u.pieceCe n ps).applyAdv n p true .ok
            exec (.dmaRequestArrive p) s = .next (r.1.respond p r.2 (if r.2 = .ok then u.pieceBytes n ps else []))) ∧
          (∀ o, u.pieceBad n false ps = some o → exec (.dmaRequestArrive p) s =
            .next ((u.noteUe n o (u.pieceUes n false ps) .dma 0).respond p .poisoned []))))))

/-- FENCE_RELEASE: of the FENCE packets held at a core, the oldest one that waits for no request and no seal message to its destination any more
enters the mesh. POSY_DONE writes the 72 posy records at their address, or sets POSY_ERR where it does not take them, and GO reads zero with DONE
set; a host that caches their lines gives them up first. -/
def Sys2Proof.Claims.FencesAndPosies : Prop :=
  ∀ (c : CoreId) (s : State),
    (let waits (h : FenceHold) : Prop := (∃ i ∈ h.waits, i ∈ s.awaits c h.pkt.dst) ∨ (∃ i ∈ h.seals, i ∈ s.sealAwaits c h.pkt.dst)
     (∀ hs h hs', (s.core c).fenced = hs ++ h :: hs' → (∀ x ∈ hs, waits x) → ¬waits h →
       exec (.fenceRelease c) s = .next ((s.modCore c (fun k => { k with fenced := hs ++ hs' })).inject h.pkt)) ∧
     ((∀ x ∈ (s.core c).fenced, waits x) → exec (.fenceRelease c) s = .next s)) ∧
    (∀ a recs, (s.core c).posy = some (a, recs) →
      (∀ v, s.snooped a 4608 true = (false, v) → exec (.posyDone c) s = .next v) ∧
      (∀ v, s.snooped a 4608 true = (true, v) →
        let key := coreKey c rQUE_POSY
        let w := v.modCore c (fun k => { k with posy := none })
        let u := w.setReg key (setBit (setBit (w.reg key) 63 false) 62 true)
        (u.localWriteOk a 4608 = true → exec (.posyDone c) s = .next (u.store a recs.flatten)) ∧
        (u.localWriteOk a 4608 = false → exec (.posyDone c) s = .next (u.orReg (coreKey c rQUE_STATUS) (2 ^ 4)))))

/-- MESH_TIMEOUT ends a DMA, or a send, that has had no response in its time: TIMEOUT_US or MESH_TMO.DMA_US, and MSG_US. What it awaited is
settled, TIMEOUT is shown, and its task ends with TIMEOUT, the opcode of the instruction as detail. Before that time nothing changes. -/
def Sys2Proof.Claims.MeshTimeouts : Prop :=
  ∀ (c : CoreId) (s : State),
    let tmo := s.reg (coreKey c rMESH_TMO)
    (∀ (tag : BitVec 32) (d : Dma), (s.core c).dmas.find? (fun d => decide (d.slot + d.gen * 256 = tag.toNat)) = some d →
      let due := d.since + (if d.timeout = 0 then tmo.toNat % 2 ^ 32 else d.timeout) * 1000
      let u := d.pkts.foldl (fun s p => s.modCore c (fun k => k.settle p.tag)) s
      (due < s.ns → exec (.meshTimeout c (.dma tag)) s =
        .next (((u.modCore c (fun k => { k with dmas := k.dmas.filter (fun y => decide (y.slot ≠ d.slot)) })).orReg
          (coreKey c rMESH_STATUS) (2 ^ 4)).endAsync c d.task d.pc 0x10 0x58)) ∧
      (s.ns ≤ due → exec (.meshTimeout c (.dma tag)) s = .next s)) ∧
    (∀ (t : TaskSlot) (chan : BitVec 4) (r : SendRec), (s.task c t).sends.find? (fun r => decide (r.chan = chan.toNat)) = some r →
      let due := r.since + tmo.toNat / 2 ^ 32 * 1000
      let u := r.targets.foldl (fun s x => s.modCore c (fun k => k.settle (msgTag t r.chan x.idx r.seq))) s
      (due < s.ns → exec (.meshTimeout c (.send t chan)) s =
        .next (((u.modTask c t (fun k => { k with sends := k.sends.filter (fun x => decide (x.chan ≠ r.chan)) })).orReg
          (coreKey c rMESH_STATUS) (2 ^ 4)).endAsync c t r.pc 0x10 (BitVec.ofNat 64 r.opc))) ∧
      (s.ns ≤ due → exec (.meshTimeout c (.send t chan)) s = .next s))

/-! ## Beacons -/

/-- BAR: with the tap free the join is placed there and the task waits; with the tap taken by another task it waits for the tap; a join of its
own that has been released goes on with the combined value in g[D], and one that has not is awaited again. -/
def Sys2Proof.Claims.BarriersJoin : Prop :=
  ∀ (c : CoreId) (t : TaskSlot) (f : InsnBits) (s : State), Issues s c t 0x70 f → (s.task c t).wait = none →
    let u := s.atIssue c t 0x70 f
    let g := fImm f % 256
    ((s.core c).tap = none → exec (.bar c t f) s = .next (waitsOn (u.modCore c (fun k =>
      { k with tap := some ⟨t, g, fX f % 4, (s.task c t).greg (fB f), false, false, none⟩ })) c t 0x70 f 1 0 g false)) ∧
    (∀ x, (s.core c).tap = some x → x.slot ≠ t → exec (.bar c t f) s = .next (waitsOn u c t 0x70 f 0 0 g false)) ∧
    (∀ x v, (s.core c).tap = some x → x.slot = t → x.released = some v → exec (.bar c t f) s =
      .next (advance (((u.modCore c (fun k => { k with tap := none })).count (coreKey c rBCN_TAPCNT) 63 32 1).modTask c t
        (fun k => k.setG (fD f) v)) c t)) ∧
    (∀ x, (s.core c).tap = some x → x.slot = t → x.released = none → exec (.bar c t f) s = .next (waitsOn u c t 0x70 f 1 0 g false))

/-- BEACON_JOIN counts a member's join in the group's round, or holds it for the next while a round is releasing; a join that breaks the rules
is discarded, counted and recorded, and its BAR waits on as a stray. BEACON_RELEASE delivers the combined value of the joins to each tap and starts the next round with those
held. BEACON_FAULT puts the group in FAULT and records it; BEACON_CLEAR takes it out of FAULT and asks the waiting taps to join again. -/
def Sys2Proof.Claims.BeaconRounds : Prop :=
  ∀ (g : GroupId) (s : State),
    let b := s.beacon g
    let op := s.groupOp g
    (∀ (c : CoreId) (x : Tap), (s.core c).tap = some x → x.group = g → x.joined = false → b.phase ≠ .fault →
      let u := s.modCore c (fun k => { k with tap := some { x with joined := true } })
      let v := if x.op = 0 then identityOf op else x.value
      let fine : Prop := s.isMember g c = true ∧ bitOf (s.gcfg g) 0 = true ∧ (x.op = op ∨ x.op = 0) ∧
        (b.phase = .releasing ∨ ∀ j ∈ b.joined, j.1 ≠ c.val)
      (fine → b.phase = .releasing → exec (.beaconJoin g c) s = .next (u.setBeacon g { b with held := b.held ++ [(c.val, v)] })) ∧
      (fine → b.phase ≠ .releasing → exec (.beaconJoin g c) s = .next (u.setBeacon g { b with
        joined := b.joined ++ [(c.val, v)], phase := if s.members g ≤ b.joined.length + 1 then .releasing else .gathering })) ∧
      (¬fine → exec (.beaconJoin g c) s = .next ((((s.modCore c (fun k => { k with tap := some { x with joined := true, stray := true } })).count (coreKey c rBCN_TAPCNT) 31 0 1).orReg rBCN_STATUS 1).coreRec 0 10 0 c))) ∧
    (b.phase = .releasing →
      let v := b.joined.foldl (fun a j => combine op a j.2) (identityOf op)
      let u := b.joined.foldl (fun s j => if b.held.any (fun h => decide (h.1 = j.1)) then s else s.releaseTap g v j.1) s
      let u := u.setReg (groupKey rBCN_GVALUEg g) v
      exec (.beaconRelease g) s = .next (u.setBeacon g { joined := b.held, held := [], round := (b.round + 1) % 2 ^ 32
                                                         phase := if b.held = [] then .idle else if u.members g ≤ b.held.length then .releasing else .gathering })) ∧
    (b.phase ≠ .fault → exec (.beaconFault g) s =
      .next (((s.setBeacon g { b with phase := .fault }).orReg rBCN_STATUS 2).record ⟨2, 10, 1, 0, 0, 0, 0, 0, 0⟩)) ∧
    (∀ (who : Initiator) (v : Word), Takes s who (groupKey rBCN_GCTLg g) (classOf (groupKey rBCN_GCTLg g)) → bitOf v 0 = true → b.phase = .fault →
      exec (.beaconClear who g v) s = .next ((s.setBeacon g ⟨.idle, b.round, [], []⟩).rejoin g))

/-- BCN_GCFG_WRITE: a group's configuration and its member masks are written only while the group is idle or in FAULT, and only so that a die
scope holds every member; otherwise CFG_REJECT is set. -/
def Sys2Proof.Claims.BeaconGroupWrites : Prop :=
  ∀ (who : Initiator) (g : GroupId) (which : Fin 9) (v : Word) (s : State),
    let key := if which.val = 0 then groupKey rBCN_GCFGg g else groupKey rBCN_GMASKg_j g + 8 * (which.val - 1)
    let u := s.regWrite key v
    let fine := ((s.beacon g).phase = .idle ∨ (s.beacon g).phase = .fault) ∧ u.scopeOk g = true
    Takes s who key (classOf key) → (fine → exec (.bcnGcfgWrite who g which v) s = .next u) ∧
    (¬fine → exec (.bcnGcfgWrite who g which v) s = .next (s.orReg rBCN_STATUS 4))

/-! ## Messages -/

/-- SEND to a target that its word can name, in a core that is present: one message of g[B] to g[B + X] leaves with SEQ = NEXT of the channel, and
g[D] is awaited. A malformed target, or an absent local core, is answered at once without a packet. A channel with a send in flight, or a task
that depends on an OPEN epoch, waits. -/
def Sys2Proof.Claims.SendsLeave : Prop :=
  ∀ (c : CoreId) (t : TaskSlot) (f : InsnBits) (s : State), Issues s c t 0x60 f → (s.task c t).wait = none →
    let k := s.task c t
    let u := s.atIssue c t 0x60 f
    let w := k.greg (fA f)
    let chan := w.toNat / 2 ^ 18 % 16
    let seq := tget (fun _ => 0) k.next chan
    let data := (List.range (fX f % 4 + 1)).flatMap (fun j => leBytes 8 (k.greg (fB f + j)).toNat)
    let m : OutMsg := ⟨0, w, .word, fX f % 4, tgLane w, none, data, false⟩
    let rec_ (r : Option Word) : SendRec := ⟨none, chan, seq, some (fD f), false, 0x60, s.ns, [⟨0, tgCore w, tgQueue w, r⟩], k.pc⟩
    let sent (r : Option Word) (v : State) : State :=
      v.modTask c t (fun k => { k with sends := k.sends ++ [rec_ r], pending := k.pending ++ [fD f] })
    (k.deps = [] → (∀ r ∈ k.sends, r.chan ≠ chan) → targetOk w = true → tgRemote w = true ∨ s.present (tgCore w) = true →
      exec (.send c t f) s = .next (advance (sent none (u.request c (u.msgPacket c t chan m) (u.msgDue c))) c t)) ∧
    (k.deps = [] → (∀ r ∈ k.sends, r.chan ≠ chan) → targetOk w = false →
      exec (.send c t f) s = .next (advance ((sent (some (localNack 7 seq)) u).sendDone c t (rec_ (some (localNack 7 seq)))) c t)) ∧
    (k.deps = [] → (∀ r ∈ k.sends, r.chan ≠ chan) → targetOk w = true → tgRemote w = false → s.present (tgCore w) = false →
      exec (.send c t f) s = .next (advance ((sent (some (localNack 5 seq)) u).sendDone c t (rec_ (some (localNack 5 seq)))) c t)) ∧
    (k.deps = [] → (∃ r ∈ k.sends, r.chan = chan) → exec (.send c t f) s = .next (waitsOn u c t 0x60 f 1 0 0 false)) ∧
    (k.deps ≠ [] → exec (.send c t f) s = .next (waitsOn u c t 0x60 f 1 0 0 true))

/-- SENDD, MSEND, SHFADD and SHFEND post their messages once the task depends on no OPEN epoch and their channel is free: the descriptor read;
one WORD message for each enabled target of the list read, all with the same SEQ; a contribution of 8 bytes, or of the 64 B window read; and an
end token, whose count is a free value. -/
def Sys2Proof.Claims.OtherSendsPost : Prop :=
  ∀ (c : CoreId) (t : TaskSlot) (f : InsnBits) (s : State), (s.task c t).deps = [] →
    let k := s.task c t
    let w := k.greg (fA f)
    let chan := tgChan w
    let v := k.greg (fB f)
    let h := some (fImm f % 8)
    let free (n : Nat) : Prop := ∀ r ∈ k.sends, r.chan ≠ n
    (∀ x b, Issues s c t 0x61 f → free chan → (k.areg (fB f) + BitVec.ofInt 64 (BitVec.ofNat 32 (fImm f)).toInt).toNat % 64 = 0 →
      (s.atIssue c t 0x61 f).taskRead c t (k.areg (fB f) + BitVec.ofInt 64 (BitVec.ofNat 32 (fImm f)).toInt) 64 .narrow = .ok x b →
      (x.task c t).deps = [] → (∀ r ∈ (x.task c t).sends, r.chan ≠ chan) →
      exec (.sendd c t f) s = .next (advance (x.post c t chan 0x61 (some (fD f)) false none [⟨0, w, .desc, 0, tgLane w, none, b, false⟩]) c t)) ∧
    (∀ x y head list, Issues s c t 0x62 f →
      let addr := k.areg (fA f) + BitVec.ofInt 64 (BitVec.ofNat 32 (fImm f)).toInt
      addr.toNat % 8 = 0 → (s.atIssue c t 0x62 f).taskRead c t addr 16 .narrow = .ok x head →
      1 ≤ leAt head 0 1 → leAt head 0 1 ≤ 64 → x.taskRead c t (addr + 16) (8 * leAt head 0 1) .narrow = .ok y list →
      (y.task c t).deps = [] → (∀ r ∈ (y.task c t).sends, r.chan ≠ leAt head 1 1 % 16) →
      exec (.msend c t f) s = .next (advance (y.post c t (leAt head 1 1 % 16) 0x62 (some (fD f)) true none
        (((List.range (leAt head 0 1)).filter (fun i => (leAt head 8 8).testBit i)).map (fun i =>
          ⟨i, BitVec.ofNat 64 (leAt list (8 * i) 8), .word, fX f % 4, tgLane (BitVec.ofNat 64 (leAt list (8 * i) 8)), none,
            (List.range (fX f % 4 + 1)).flatMap (fun j => leBytes 8 (k.greg (fB f + j)).toNat), true⟩))) c t)) ∧
    (Issues s c t 0x68 f → free chan → fX f % 4 = 0 → exec (.shfadd c t f) s = .next (advance ((s.atIssue c t 0x68 f).post c t chan 0x68 none false none
      [⟨0, w, .shfInt64, 0, tgLane w, h, leBytes 8 v.toNat, false⟩]) c t)) ∧
    (Issues s c t 0x68 f → free chan → fX f % 4 = 1 → exec (.shfadd c t f) s = .next (advance ((s.atIssue c t 0x68 f).post c t chan 0x68 none false none
      [⟨0, w, .shfFp32, 0, tgLane w, h, leBytes 8 (v.toNat % 2 ^ 32), false⟩]) c t)) ∧
    (∀ x b, Issues s c t 0x68 f → fX f % 4 = 2 → (s.atIssue c t 0x68 f).taskRead c t v 64 .narrow = .ok x b →
      (x.task c t).deps = [] → (∀ r ∈ (x.task c t).sends, r.chan ≠ chan) →
      exec (.shfadd c t f) s = .next (advance (x.post c t chan 0x68 none false none [⟨0, w, .shfWindow, 0, tgLane w, h, b, false⟩]) c t)) ∧
    (Issues s c t 0x69 f → free chan →
      let u := { s.atIssue c t 0x69 f with freeIdx := s.freeIdx + 1 }
      exec (.shfend c t f) s = .next (advance (u.post c t chan 0x69 none false none
        [⟨0, w, .shfEnd, 0, tgLane w, h, leBytes 8 ((Config.freeWord s.freeIdx).toNat % 2 ^ 32), false⟩]) c t))

/-- R227: when every reply of a send has returned, PENDING is set and NEXT stays if any target answered FULL, FENCED or STALE_GEN; otherwise
PENDING clears and NEXT rises by one modulo 2^16; no other channel changes. -/
def Obligations.ChannelsAdvance : Prop :=
  ∀ (k : Task) (chan : Nat) (codes : List Nat), chan < 16 →
    let after := k.channelDone chan codes
    let again := ∃ x ∈ codes, x = 1 ∨ x = 4 ∨ x = 3
    (again → after.next = k.next ∧ bitOf after.pendBits chan = true) ∧
    (¬again → after.nextSeq chan = k.nextSeq chan + 1 ∧ bitOf after.pendBits chan = false) ∧
    (∀ d < 16, d ≠ chan → after.nextSeq d = k.nextSeq d ∧ bitOf after.pendBits d = bitOf k.pendBits d)

/-- SEND_RESULT, of a reply that has landed at a live core: the reply to a message that its sender awaits is recorded; the one that completes the
send ends it: its result word goes to g[D], which is awaited no longer. A reply that nothing awaits is counted late; one refused or denied by the
span engine ends the task for the instruction that sent. One that has not landed changes nothing, and an isolated core discards it. -/
def Sys2Proof.Claims.SendResults : Prop :=
  ∀ (p : Packet) (m : MsgHeader) (n : CoreId) (s : State), p.msg = some m → p.dst = .core n →
    (s.here p = false → exec (.sendResult p) s = .next s) ∧
    (s.here p = true → s.live n = false → exec (.sendResult p) s = .next ((s.take p).countDiscard n)) ∧
    (s.here p = true → s.live n = true →
      let t := m.key.slot.toNat
      let chan := m.key.chan.toNat
      let u := (s.take p).modCore n (fun c => c.settle p.tag)
      let rest (k : Task) : Task := { k with sends := k.sends.filter (fun x => decide (x.chan ≠ chan)) }
      let sent := (s.task n t).sends.find? (fun r => decide (r.chan = chan) && decide (r.seq = m.seq))
      (sent = none → exec (.sendResult p) s = .next (u.count (coreKey n rMESH_CNT) 63 32 1)) ∧
      (∀ r, sent = some r →
        let mine (x : SendTarget) : Prop := msgTag t chan x.idx m.seq = p.tag
        (p.status = .refused → exec (.sendResult p) s = .next ((u.modTask n t rest).endAsync n t r.pc 0x03 0)) ∧
        (p.status = .denied → exec (.sendResult p) s = .next ((u.modTask n t rest).endAsync n t r.pc 0x11 0)) ∧
        (p.status = .ok → (∀ x ∈ r.targets, mine x → x.result ≠ none) → exec (.sendResult p) s = .next (u.count (coreKey n rMESH_CNT) 63 32 1)) ∧
        (p.status = .ok → (∃ x ∈ r.targets, mine x ∧ x.result = none) →
          let done := { r with targets := r.targets.map (fun x =>
            if msgTag t chan x.idx m.seq = p.tag then { x with result := some (BitVec.ofNat 64 (ofLe p.data)) } else x) }
          let v := u.modTask n t (fun k => { k with sends := k.sends.map (fun y => if y.chan = chan then done else y) })
          ((∀ x ∈ done.targets, x.result ≠ none) → exec (.sendResult p) s = .next (v.sendDone n t done)) ∧
          ((∃ x ∈ done.targets, x.result = none) → exec (.sendResult p) s = .next v))))

/-- MESSAGE_ACCEPTANCE of a message that has landed, at a configured receive queue of a live core whose reader runs: a message that passes every check and finds an entry free
to its sender joins the queue's tail, its SEQ is noted, its place in the reservation list goes, and it is answered ACCEPTED. -/
def Sys2Proof.Claims.MessagesAreAccepted : Prop :=
  ∀ (p : Packet) (m : MsgHeader) (n : CoreId) (x : RQueue) (s : State), p.dst = .core n → p.msg = some m → s.here p = true → s.live n = true → m.sheaf = false →
    let q := m.dstQ.toNat
    let k := s.task n x.owner
    (s.core n).queue q = some x → k.phase ≠ .suspended → k.phase ≠ .loading → k.phase ≠ .draining →
    wellMade m p.data.length 0 = true → (p.span = none ∨ (p.span = some true ∧ x.remoteOk = true)) →
    m.type = (if x.desc then .desc else .word) → (if m.anygen then x.anygenOk = true else m.gen = (s.core n).genOf q) →
    isDup x.table m = false → tableFull x.table m x.senders = false →
    (x.admits m.key = true →
      let y := { x with entries := x.entries ++ [⟨m.key, p.data⟩], table := noteSeq x.table m, resv := x.resv.filter (fun r => decide (r.key ≠ m.key)) }
      exec (.messageAcceptance p) s = .next (((s.modCore n (fun c => c.setQueue q (some y))).take p).answerMsg n p m ⟨0, 0, 0, none, y.entries.length⟩)) ∧
    (x.admits m.key = false →
      exec (.messageAcceptance p) s = .next (((s.refuseFull n q x m.key).2.take p).answerMsg n p m (s.refuseFull n q x m.key).1))

/-- The refusals of MESSAGE_ACCEPTANCE at a receive queue, in the order of the checks: the first that applies decides, and the message leaves no
trace in the queue. -/
def Obligations.MessagesAreRefusedInOrder : Prop :=
  ∀ (p : Packet) (m : MsgHeader) (n : CoreId) (s : State), p.dst = .core n → p.msg = some m → s.here p = true → m.sheaf = false →
    let q := m.dstQ.toNat
    let occ := (((s.core n).queue q).map (fun x => x.entries.length)).getD 0
    let answers (o code e occ : Nat) : Prop := exec (.messageAcceptance p) s = .next ((s.take p).answerMsg n p m ⟨o, code, e, none, occ⟩)
    (wellMade m p.data.length 0 = false → answers 2 7 0 occ) ∧
    (wellMade m p.data.length 0 = true →
      ((s.core n).queue q = none → s.live n = false → answers 2 4 15 0) ∧
      ((s.core n).queue q = none → s.live n = true → answers 2 5 0 0) ∧
      (∀ x, (s.core n).queue q = some x →
        let k := s.task n x.owner
        let fits : Prop := m.type = if x.desc then .desc else .word
        let remote : Prop := p.span.isSome = true ∧ (x.remoteOk = false ∨ p.span = some false)
        (s.live n = false ∨ k.phase = .suspended → answers 2 4 15 occ) ∧
        (s.live n = true → k.phase ≠ .suspended →
          (k.phase = .loading ∨ k.phase = .draining → answers 2 2 0 occ) ∧
          (k.phase ≠ .loading → k.phase ≠ .draining →
            (remote → answers 2 6 0 occ) ∧
            (¬remote → ¬fits → answers 2 7 0 occ) ∧
            (¬remote → fits → m.anygen = true → x.anygenOk = false → answers 2 6 0 occ) ∧
            (¬remote → fits → m.anygen = false → m.gen ≠ (s.core n).genOf q → answers 2 3 0 occ) ∧
            (¬remote → fits → (if m.anygen then x.anygenOk = true else m.gen = (s.core n).genOf q) → isDup x.table m = true → answers 1 0 0 occ) ∧
            (¬remote → fits → (if m.anygen then x.anygenOk = true else m.gen = (s.core n).genOf q) → isDup x.table m = false →
              tableFull x.table m x.senders = true → answers 2 6 0 occ)))))

/-- RECV, RECVT and RECVC take the head entry of a queue that the task owns with LAND 0: its words fill g[D] to g[D + X], with zero beyond them,
words cut off set TRUNC, and the entry leaves. With no entry RECV and RECVC wait and RECVT clears p[A]. Any other queue ends the task with
ILLEGAL, and so does a control token of a reserved TYPE. -/
def Sys2Proof.Claims.QueueReads : Prop :=
  ∀ (c : CoreId) (t : TaskSlot) (f : InsnBits) (s : State), (s.task c t).wait = none →
    let q := fImm f % 64
    let mine (x : RQueue) : Prop := (s.core c).queue q = some x ∧ x.owner = t ∧ x.land = 0
    let u (opc : Nat) := s.atIssue c t opc f
    let pop (opc : Nat) (x : RQueue) : State := (u opc).modCore c (fun k => k.setQueue q (some { x with entries := x.entries.drop 1, row := 0, departs := (s.ns :: x.departs).take 65 }))
    let got (opc : Nat) (x : RQueue) (e : QEntry) : State :=
      let v := (pop opc x).modTask c t (fun k => (List.range (fX f % 4 + 1)).foldl (fun k j => k.setG (fD f + j) (BitVec.ofNat 64 (leAt e.words (8 * j) 8))) k)
      if x.desc = false ∧ 8 * (fX f % 4 + 1) < e.words.length then v.orReg (coreKey c rQUE_STATUS) (2 ^ 2) else v
    (∀ x e es, mine x → x.entries = e :: es → Issues s c t 0x63 f → exec (.recv c t f) s = .next (advance (got 0x63 x e) c t)) ∧
    (∀ x, mine x → x.entries = [] → Issues s c t 0x63 f → exec (.recv c t f) s = .next (waitsOn (u 0x63) c t 0x63 f 0 0 q false)) ∧
    (∀ x e es, mine x → x.entries = e :: es → Issues s c t 0x64 f →
      exec (.recvt c t f) s = .next (advance ((got 0x64 x e).modTask c t (fun k => k.setP (fA f) true)) c t)) ∧
    (∀ x, mine x → x.entries = [] → Issues s c t 0x64 f →
      exec (.recvt c t f) s = .next (advance ((u 0x64).modTask c t (fun k => k.setP (fA f) false)) c t)) ∧
    (∀ x e es, mine x → x.desc = false → x.entries = e :: es → Issues s c t 0x65 f →
      let w := leAt e.words 0 8
      let v := if 8 < e.words.length then (pop 0x65 x).orReg (coreKey c rQUE_STATUS) (2 ^ 2) else pop 0x65 x
      (w / 2 ^ 60 % 16 < 4 → exec (.recvc c t f) s =
        .next (advance (v.modTask c t (fun k => (k.setG (fD f) (BitVec.ofNat 64 w)).setP (fA f) (decide (w / 2 ^ 60 % 16 ≠ 1)))) c t)) ∧
      (4 ≤ w / 2 ^ 60 % 16 → exec (.recvc c t f) s = .next (v.endTask c t 0x02 (insnWord 0x65 f)))) ∧
    (∀ x, mine x → x.desc = false → x.entries = [] → Issues s c t 0x65 f →
      exec (.recvc c t f) s = .next (waitsOn (u 0x65) c t 0x65 f 0 0 q false)) ∧
    (∀ x, mine x → x.desc = true → Issues s c t 0x65 f → exec (.recvc c t f) s = .next ((u 0x65).endTask c t 0x02 (insnWord 0x65 f))) ∧
    ((∀ x, ¬mine x) →
      (Issues s c t 0x63 f → exec (.recv c t f) s = .next ((u 0x63).endTask c t 0x02 (insnWord 0x63 f))) ∧
      (Issues s c t 0x64 f → exec (.recvt c t f) s = .next ((u 0x64).endTask c t 0x02 (insnWord 0x64 f))) ∧
      (Issues s c t 0x65 f → exec (.recvc c t f) s = .next ((u 0x65).endTask c t 0x02 (insnWord 0x65 f))))

/-- QDONE raises the generation of a queue that the task owns by one modulo 256: every entry is discarded and counted, and the sender table and
the reservation list are cleared; any other queue ends the task with ILLEGAL. RESERVATION_LAPSE drops a place, and those behind it move up. -/
def Sys2Proof.Claims.QueueGenerationsRise : Prop :=
  ∀ (c : CoreId) (t : TaskSlot) (f : InsnBits) (s : State),
    let q := fImm f % 64
    let u := s.atIssue c t 0x66 f
    let raised (k : Core) : Core := { k with qgen := tset (fun _ => 0) k.qgen q (k.genOf q + 1) }
    (∀ x, Issues s c t 0x66 f → (s.task c t).img.queues.testBit q = true → (s.core c).queue q = some x →
      let v := u.modCore c (fun k => (raised k).setQueue q (some { x with entries := [], table := [], resv := [], row := 0 }))
      exec (.qdone c t f) s = .next (advance (if x.entries = [] then v
        else (v.count (coreKey c rQUE_CNT2) 31 0 x.entries.length).orReg (coreKey c rQUE_STATUS) (2 ^ 3)) c t)) ∧
    (Issues s c t 0x66 f → (s.task c t).img.queues.testBit q = true → (s.core c).queue q = none →
      exec (.qdone c t f) s = .next (advance (u.modCore c raised) c t)) ∧
    (Issues s c t 0x66 f → (s.task c t).img.queues.testBit q = false → exec (.qdone c t f) s = .next (u.endTask c t 0x02 (insnWord 0x66 f))) ∧
    (∀ (p : Fin 64) (i : Fin 4) (x : RQueue), (s.core c).queue p = some x →
      exec (.reservationLapse c p i) s = .next (s.modCore c (fun k => k.setQueue p (some { x with resv := x.resv.eraseIdx i }))))

/-- RING_LANDING_WRITE writes the words of a ring queue's head entry at TAIL of its circular region, advances TAIL by their length and frees the
entry; with no room for them the entry stays. -/
def Sys2Proof.Claims.RingLandingWrites : Prop :=
  ∀ (c : CoreId) (q : Fin 64) (x : RQueue) (e : QEntry) (es : List QEntry) (s : State), (s.core c).queue q = some x → x.entries = e :: es →
    x.land = 2 → s.live c = true →
    let r := (s.core c).circ x.ring
    let w := e.words.length
    r.valid = true →
    (r.occ + w ≤ r.size → exec (.ringLandingWrite c q) s = .next ((s.modCore c (fun k =>
      (k.setQueue q (some { x with entries := es, row := 0, departs := (s.ns :: x.departs).take 65 })).setCirc x.ring { r with tail := (r.tail + w) % 2 ^ 27 })).pieceStore c
        (r.pieces (r.tail % 2 ^ 27) w) e.words)) ∧
    (r.size < r.occ + w → exec (.ringLandingWrite c q) s = .next s)

/-- A contribution to an OPEN sheaf is added to its lane and counted, its sender is noted in the sheaf's region, and the round that has received what it expects is released; SHFRECV of a
released round of one lane gives its rounded value and begins clearing; SHEAF_BUFFER_CLEARED opens the next round with its buffer empty. -/
def Sys2Proof.Claims.SheafRounds : Prop :=
  ∀ (c : CoreId) (h : Fin 8) (x : Sheaf) (s : State), (s.core c).sheaf h = some x → s.live c = true →
    (∀ (p : Packet) (m : MsgHeader) (b : Bytes) (u : Window) (v : State), p.dst = .core c → p.msg = some m → m.sheaf = true → m.dstQ.toNat = h.val → s.here p = true →
      (s.task c x.owner).phase = .running → wellMade m p.data.length x.lanes = true → p.span = none → isContribution m.type = true →
      s.taskRead c x.owner (BitVec.ofNat 64 (x.laneAddr x.round m.lane.toNat)) 64 .dma = .ok v b →
      contribute (Window.ofBytes b) m.type p.data = some u → (v.task c x.owner).phase = .running → m.anygen = false →
      m.gen = (v.core c).sgenOf h → isDup x.table m = false → tableFull x.table m x.senders = false → x.phase = .opened →
      let y := { x with received := x.received + 1, table := noteSeq x.table m, loss := x.loss || u.loss }
      let w := ((v.laneStore c x.owner (BitVec.ofNat 64 (x.laneAddr x.round m.lane.toNat)) u).noteSender c x m).event c 0x1B 1
      let z := if x.expect = some (x.received + 1) then w.release c h y else w.modCore c (fun k => k.setSheaf h (some y))
      exec (.messageAcceptance p) s = .next ((z.take p).answerMsg c p m ⟨0, 0, 0, none, 0⟩)) ∧
    (∀ (t : TaskSlot) (f : InsnBits) (b : Bytes) (v : State), Issues s c t 0x6A f → fImm f % 8 = h.val → x.owner = t → x.phase = .released →
      let u := (s.atIssue c t 0x6A f).modCore c (fun k => k.setSheaf h (some { x with phase := .clearing }))
      (x.kind = 2 → exec (.shfrecv c t f) s = .next (advance (u.modTask c t (fun k => k.setG (fD f) (BitVec.ofNat 64 (x.laneAddr x.round 0)))) c t)) ∧
      (x.kind ≠ 2 → x.lanes = 1 → u.taskRead c t (BitVec.ofNat 64 (x.laneAddr x.round 0)) 64 .dma = .ok v b →
        let r := laneValue x.kind (Window.ofBytes (b.take 64))
        let v := if r.2.1 then v.orReg (coreKey c rSHF_STATUS) (2 ^ (24 + h.val)) else v
        let v := if r.2.2 then v.orReg (coreKey c rSHF_STATUS) (2 ^ (16 + h.val)) else v
        exec (.shfrecv c t f) s = .next (advance (v.modTask c t (fun k => k.setG (fD f) (BitVec.ofNat 64 r.1))) c t))) ∧
    (∀ (t : TaskSlot) (f : InsnBits) (b : Bytes) (v w : State), Issues s c t 0x6A f → fImm f % 8 = h.val → x.owner = t → x.phase = .released →
      let u := (s.atIssue c t 0x6A f).modCore c (fun k => k.setSheaf h (some { x with phase := .clearing }))
      x.kind ≠ 2 → x.lanes ≠ 1 → u.taskRead c t (BitVec.ofNat 64 (x.laneAddr x.round 0)) (64 * x.lanes) .dma = .ok v b →
      let rs := (List.range x.lanes).map (fun l => laneValue x.kind (Window.ofBytes ((b.drop (64 * l)).take 64)))
      let v := if rs.any (fun r => r.2.1) then v.orReg (coreKey c rSHF_STATUS) (2 ^ (24 + h.val)) else v
      let v := if rs.any (fun r => r.2.2) then v.orReg (coreKey c rSHF_STATUS) (2 ^ (16 + h.val)) else v
      v.taskWrite c t (BitVec.ofNat 64 x.outAddr) (rs.flatMap (fun r => leBytes 8 r.1)) .dma = .ok w () →
      exec (.shfrecv c t f) s = .next (advance (w.modTask c t (fun k => k.setG (fD f) (BitVec.ofNat 64 x.outAddr))) c t)) ∧
    (∀ v, x.phase = .clearing → s.taskWrite c x.owner (BitVec.ofNat 64 (x.laneAddr (x.round + 1) 0)) (clearedBuffer x.lanes) .dma = .ok v () →
      exec (.sheafBufferCleared c h) s = .next (v.modCore c (fun k => k.setSheaf h (some { x with
        phase := .opened, round := x.round + 1, received := 0, expect := if x.openCount then none else some x.expect0
        endSeen := false, loss := false }))))

/-- POSY_READ with GO set takes the 72 records of the core's queues and sheaves; while a posy read is in progress the write is ignored; with the
compute domain powered down it ends at once with POSY_ERR and DONE. UNIT_SEND sends the first message of a unit whose window is SEALED and
whose channel is free, once no other drain owes the target an earlier one; UNIT_RESEND sends again one that was answered FULL or FENCED, once its
back-off has passed. -/
def Sys2Proof.Claims.PosyReadsAndUnitSends : Prop :=
  ∀ (c : CoreId) (s : State),
    (∀ (who : Initiator) (v : Word), bitOf v 63 = true →
      let key := coreKey c rQUE_POSY
      Takes s who key .f →
      let u := s.regWrite key v
      ((s.core c).posy = none → (s.slotFor c).on = true → exec (.posyRead who c v) s =
        .next ((u.setReg key (setBit (u.reg key) 62 false)).modCore c (fun k => { k with posy := some (v.toNat / 64 % 2 ^ 42 * 64, k.posyRecords) }))) ∧
      ((s.core c).posy = none → (s.slotFor c).on = false → exec (.posyRead who c v) s =
        .next ((u.setReg key (setBit (setBit (u.reg key) 63 false) 62 true)).orReg (coreKey c rQUE_STATUS) (2 ^ 4))) ∧
      (∀ y, (s.core c).posy = some y → exec (.posyRead who c v) s = .next s)) ∧
    (∀ (n : SendUnit) (m : UnitMsg) (ms : List UnitMsg), (s.core c).outbox n = m :: ms → m.flying = false → s.live c = true →
      s.windowSealed c m.epoch = true → (s.core c).msgOwed n m = false → (s.task c m.task).sending (tgChan m.target) = false →
      let word := decide (m.type = .word)
      let out : OutMsg := ⟨0, m.target, m.type, if word then m.payload.length / 8 - 1 else 0, if word then tgLane m.target else m.lane,
        if word then none else some (tgQueue m.target % 8), m.payload, false⟩
      let posted := (s.modCore c (fun k => k.markFlying n)).post c m.task (tgChan m.target) (match n with | .drain _ => 0x41 | .rowEngine => 0x50)
        none false (some n) [out]
      (m.backoff = none → exec (.unitSend c n) s = .next posted) ∧
      (∀ e, m.backoff = some e → e ≤ s.ns → exec (.unitResend c n) s = .next posted) ∧
      (∀ e, m.backoff = some e → s.ns < e → exec (.unitResend c n) s = .next s))

/-! ## Seals -/

/-- R396 to R398: SEALQ sets its predicate to whether every block of the range is SEALED, taking no dependency, and to 0 where TAIL does not yet
cover the range; a range of zero bytes counts as SEALED; a range outside the regions ends the task with ACCESS. -/
def Sys2Proof.Claims.SealQueries : Prop :=
  ∀ (c : CoreId) (t : TaskSlot) (f : InsnBits) (s : State), Issues s c t 0x79 f →
    let addr := (s.task c t).areg (fA f)
    let len := ((s.task c t).greg (fB f)).toNat
    let u := s.atIssue c t 0x79 f
    let puts (b : Bool) : Prop := exec (.sealq c t f) s = .next (advance (u.modTask c t (fun k => k.setP (fD f) b)) c t)
    (len = 0 → puts true) ∧
    (len ≠ 0 → (s.core c).xlate t addr len false = .held → puts false) ∧
    (∀ ps, len ≠ 0 → (s.core c).xlate t addr len false = .ok ps →
      puts (decide (∀ b ∈ pieceBlocks ps, (s.sealUnit c).blockState b = 1))) ∧
    (len ≠ 0 → (s.core c).xlate t addr len false = .bad → exec (.sealq c t f) s = .next (u.endTask c t 0x03 addr))

/-- WAITSEAL goes on when every block of its range is SEALED, or under RUN_AHEAD when what is OPEN can be inherited, which then joins the task's
set; under HOLD, or when it cannot be inherited, it waits for seals; a RETRACTED or LAPSED block freezes the task; a range that TAIL does not
cover is waited for. -/
def Sys2Proof.Claims.SealWaits : Prop :=
  ∀ (c : CoreId) (t : TaskSlot) (f : InsnBits) (s : State), Issues s c t 0x78 f → (s.task c t).wait = none →
    let addr := (s.task c t).areg (fA f)
    let len := ((s.task c t).greg (fB f)).toNat
    let u := s.atIssue c t 0x78 f
    let policy := u.regField (coreKey c rSEAL_CTRL) 0 0
    let state (b : Nat) := (s.sealUnit c).blockState b
    (len = 0 → exec (.waitseal c t f) s = .next (advance u c t)) ∧
    (len ≠ 0 → (s.core c).xlate t addr len false = .bad → exec (.waitseal c t f) s = .next (u.endTask c t 0x03 addr)) ∧
    (len ≠ 0 → (s.core c).xlate t addr len false = .held → exec (.waitseal c t f) s = .next (waitsOn u c t 0x78 f 2 policy 0 false)) ∧
    (∀ ps, len ≠ 0 → (s.core c).xlate t addr len false = .ok ps →
      let bs := pieceBlocks ps
      ((∀ b ∈ bs, state b = 1) → exec (.waitseal c t f) s = .next (advance u c t)) ∧
      ((∃ b ∈ bs, 2 ≤ state b) → exec (.waitseal c t f) s = .next (u.freezeTask c t .recovery)) ∧
      ((∀ b ∈ bs, state b < 2) → (∃ b ∈ bs, state b ≠ 1) →
        (policy = 0 → exec (.waitseal c t f) s = .next (waitsOn u c t 0x78 f 1 0 0 true)) ∧
        (policy = 1 → u.cannotInherit c t (u.openRefs c ps) = false →
          exec (.waitseal c t f) s = .next (advance (u.inherit c t (u.openRefs c ps)) c t)) ∧
        (policy = 1 → u.cannotInherit c t (u.openRefs c ps) = true →
          exec (.waitseal c t f) s = .next (waitsOn (u.orReg (coreKey c rSEAL_STATUS) (2 ^ 7)) c t 0x78 f 1 1 0 true))))

/-- The state of a block: LAPSED if any reference on it is, otherwise RETRACTED if any is, otherwise OPEN if any is, otherwise SEALED. -/
def Obligations.BlockStates : Prop :=
  ∀ (u : SealUnit) (b : Nat),
    let on (st : RefState) : Prop := ∃ r ∈ u.refs, r.block = b ∧ r.st = st
    (on .lapsed → u.blockState b = 3) ∧ (¬on .lapsed → on .retracted → u.blockState b = 2) ∧
    (¬on .lapsed → ¬on .retracted → on .opened → u.blockState b = 0) ∧
    (¬on .lapsed → ¬on .retracted → ¬on .opened → u.blockState b = 1)

/-- WINDOW_VERDICT, once no unit of the core works on the window any more: an OPEN window whose own check passes keeps its verdict, and seals once
nothing is left that it depends on; one that fails retracts, what depends on it follows, and the failure is attributed to its slot. A window that
is no longer OPEN, or that a unit still works on, is left alone. -/
def Sys2Proof.Claims.WindowVerdicts : Prop :=
  ∀ (c : CoreId) (e : BitVec 32) (dup : Bool) (w : SealWin) (s : State), (s.sealUnit c).win e = some w →
    let idle := (s.core c).workOn e = false
    (idle → w.st = .opened → w.passed = false → w.failed = false → dup = false →
      exec (.windowVerdict c e dup) s = .next ((s.modWin c e (fun w => { w with passed := true })).sealReady c 257)) ∧
    (idle → w.st = .opened → w.passed = false → w.failed = true ∨ dup = true →
      exec (.windowVerdict c e dup) s = .next (((s.retractOne c w .check).retractAt c (s.prodKey c) e .cascade).attributed c)) ∧
    (¬idle ∨ w.st ≠ .opened ∨ w.passed = true → exec (.windowVerdict c e dup) s = .next s)

/-- R387: a SEAL that reaches a unit removes every reference to its epoch that has not lapsed; a RETRACT makes the OPEN ones RETRACTED; the
references of other epochs stand. -/
def Sys2Proof.Claims.VerdictsSettleReferences : Prop :=
  ∀ (u : SealUnit) (key : ProdKey) (e : BitVec 32) (r : SealRef),
    (r ∈ (u.settleRefs key e true false).refs ↔ r ∈ u.refs ∧ (r.key = key ∧ r.epoch = e → r.st = .lapsed)) ∧
    (r.key ≠ key ∨ r.epoch ≠ e → (r ∈ (u.settleRefs key e false false).refs ↔ r ∈ u.refs)) ∧
    (r.key = key → r.epoch = e → r ∈ (u.settleRefs key e false false).refs → r.st ≠ .opened) ∧
    (r ∈ u.refs → r.key = key → r.epoch = e → r.st = .opened →
      { r with st := .retracted, lines := 0 } ∈ (u.settleRefs key e false false).refs)

/-- NOTICE_ARRIVE, SEAL_ARRIVE and RETRACT_ARRIVE, of a packet that has landed at a seal unit of the module: a NOTICE that finds room adds its
references and is acknowledged, one whose range does not exist is answered REFUSED, and one without room waits with REF_FULL set; a verdict is
acknowledged, and takes effect where the unit heeds its epoch. A message of a reserved KIND is answered REFUSED, and a packet that has not landed
changes nothing. -/
def Sys2Proof.Claims.SealMessagesArrive : Prop :=
  ∀ (p : Packet) (s : State),
    (s.here p = false → exec (.noticeArrive p ()) s = .next s ∧ exec (.sealArrive p ()) s = .next s ∧ exec (.retractArrive p ()) s = .next s) ∧
    (s.here p = true → p.type = .seal → s.isRemote p.region p.addr = false →
      let refused := (s.take p).respond p .refused []
      (sealOf p.data = none → exec (.noticeArrive p ()) s = .next refused ∧ exec (.sealArrive p ()) s = .next refused ∧
        exec (.retractArrive p ()) s = .next refused) ∧
      (∀ m, sealOf p.data = some m →
        let i := unitAt p.dst
        let acked := (s.take p).respond p .ok []
        (m.kind = .notice →
          (∀ b k u, s.noticeBlocks i m = some (b, k) → (s.sealUnit i).notice m b k (s.ns + s.lapseTime i) (maxEntries i) = some u →
            exec (.noticeArrive p ()) s = .next (((s.setSeal i u).take p).respond p .ok [])) ∧
          (s.noticeBlocks i m = none → exec (.noticeArrive p ()) s = .next refused) ∧
          (∀ b k, s.noticeBlocks i m = some (b, k) → (s.sealUnit i).notice m b k (s.ns + s.lapseTime i) (maxEntries i) = none →
            exec (.noticeArrive p ()) s = .next (if i < 512 then s.orReg (coreKey i rSEAL_STATUS) (2 ^ 8) else s))) ∧
        (m.kind = .seal →
          (acked.heeds i m.key m.epoch = true → exec (.sealArrive p ()) s = .next (acked.takeSeal i m)) ∧
          (acked.heeds i m.key m.epoch = false → exec (.sealArrive p ()) s = .next acked)) ∧
        (m.kind = .retract →
          (acked.heeds i m.key m.epoch = true → exec (.retractArrive p ()) s = .next (acked.takeRetract i m false)) ∧
          (acked.heeds i m.key m.epoch = false → exec (.retractArrive p ()) s = .next acked))))

/-- A seal message reads back from the 32 bytes of its payload. -/
def Sys2Proof.Claims.SealPayloadsReadBack : Prop :=
  ∀ (m : SealMsg), m.len < 2 ^ 32 → sealOf (sealBytes m) = some m ∧ (sealBytes m).length = 32

/-- SEAL_ACKNOWLEDGED takes the answer to a message that has landed and ends the wait for it; a NOTICE that was not accepted ends the reads that
wait on it with its status. SEAL_MESSAGE_RESEND sends a message that has waited 32 µs again at most three times, counting each, and then gives it
up with the reads that wait on it. LAPSE makes the OPEN references of a producer's longest-held epoch LAPSED once its lapse time has passed, and
acts as on a RETRACT. -/
def Sys2Proof.Claims.SealMessagesEnd : Prop :=
  ∀ (d : SealEnd) (i k : Nat) (s : State), unitOf d = some i →
    (let answer := s.landed.find? (fun p => decide (p.type = .writeAck) && decide (p.tag = sealTag i k) && decide (p.dst = sealPlace i))
     (answer = none → exec (.sealAcknowledged d k) s = .next s) ∧
     (∀ p o, answer = some p → (s.sealUnit i).outs.find? (fun o => decide (o.id = k)) = some o →
       (p.status = .ok ∨ o.msg.kind ≠ .notice → exec (.sealAcknowledged d k) s = .next ((s.take p).outDone i o)) ∧
       (p.status ≠ .ok → o.msg.kind = .notice →
         exec (.sealAcknowledged d k) s = .next (((s.take p).refuseReads i k p.status).outDone i o)))) ∧
    (∀ o, (s.sealUnit i).outs.find? (fun o => decide (o.id = k)) = some o →
      (s.ns ≤ o.since + 32000 → exec (.sealMessageResend d k) s = .next s) ∧
      (o.since + 32000 < s.ns →
        (let v := (s.modSeal i (fun u => { u with outs := u.outs.map (fun x =>
           if x.id = k then { x with tries := x.tries + 1, since := s.ns } else x) })).emitSeal i k o.dst o.msg
         o.tries < 3 → exec (.sealMessageResend d k) s = .next (if i < 512 then v.count (coreKey i rSEAL_CNT2) 15 0 1 else v)) ∧
        (3 ≤ o.tries → exec (.sealMessageResend d k) s =
          .next ((s.modSeal i (fun u => { u with reads := u.reads.filter (fun r => !r.waiting.contains k) })).outDone i o)))) ∧
    (∀ key x, (s.sealUnit i).oldestOf key = some x →
      (s.ns < x.due → exec (.lapse d key) s = .next s) ∧
      (x.due ≤ s.ns →
        let n := (s.sealUnit i).refs.countP (fun r => decide (r.key = key) && decide (r.epoch = x.epoch) && decide (r.st = .opened))
        let v := if i < 512 then (s.orReg (coreKey i rSEAL_STATUS) (2 ^ 2)).count (coreKey i rSEAL_CNT2) 31 16 n else s
        let u := v.modSeal i (fun u => { u with
          entries := u.entries.map (fun y => if y.key = key ∧ y.epoch = x.epoch then { y with lapsed := true } else y) })
        exec (.lapse d key) s = .next (u.takeRetract i ⟨key, .retract, false, false, false, 0, true, x.epoch, 0, 0⟩ true)))

/-! ## Event counters -/

/-- EVSEL selects a source, EVCTL starts, stops or clears the counters of its mask, and EVRD reads one, where no other resident task names the
counter; a counter that another task names is left as it is. -/
def Obligations.EventCountersObey : Prop :=
  ∀ (c : CoreId) (t : TaskSlot) (f : InsnBits) (s : State),
    let i := fImm f % 8
    let k := s.task c t
    let b := if fI f then BitVec.ofInt 64 (BitVec.ofNat 32 (fImm f)).toInt else k.greg (fB f)
    let mine (i : Nat) : Prop := ∀ u < 4, u ≠ t → ((s.core c).task u).holds = false ∨ ((s.core c).task u).img.evc.testBit i = false
    let u (opc : Nat) (f : InsnBits) := s.atIssue c t opc f
    let ctl := coreKey c rEVC_CTL
    let each (act : State → Nat → State) (u : State) : State := ((List.range 8).filter (fun i => (fImm f).testBit i && (s.core c).evMine t i)).foldl act u
    (Issues s c t 0x88 f → mine i →
      exec (.evsel c t f) s = .next (advance ((u 0x88 f).setReg (coreKey c (rEVC_SELc + 8 * i)) (BitVec.ofNat 64 (b.toNat % 256))) c t)) ∧
    (Issues s c t 0x88 f → ¬mine i → exec (.evsel c t f) s = .next (advance (u 0x88 f) c t)) ∧
    (Issues s c t 0x8A f → mine i → exec (.evrd c t f) s = .next (advance ((u 0x8A f).modTask c t (fun k =>
      k.setG (fD f) (BitVec.ofNat 64 ((u 0x8A f).regField (coreKey c (rEVC_CNTc + 8 * i)) 47 0)))) c t)) ∧
    (Issues s c t 0x8A f → ¬mine i → exec (.evrd c t f) s = .next (advance (u 0x8A f) c t)) ∧
    (let g := withX f (fX f / 4 * 4)
     Issues s c t 0x89 g → exec (.evctlStart c t f) s = .next (advance (each (fun s i => s.setReg ctl (setBit (s.reg ctl) i true)) (u 0x89 g)) c t)) ∧
    (let g := withX f (fX f / 4 * 4 + 1)
     Issues s c t 0x89 g → exec (.evctlStop c t f) s = .next (advance (each (fun s i => s.setReg ctl (setBit (s.reg ctl) i false)) (u 0x89 g)) c t)) ∧
    (let g := withX f (fX f / 4 * 4 + 2)
     Issues s c t 0x89 g → exec (.evctlClear c t f) s = .next (advance (each (fun s i => s.setReg (coreKey c (rEVC_CNTc + 8 * i)) 0) (u 0x89 g)) c t))

/-! ## The operand lattice -/

/-- CFGSW of a loaded slot that the task owns switches the core to it and goes to its entry, once no lattice stream or output of the task is left
and every input link has completed the last switch; it waits until then, and while the lattice is stopped (log entry 93). A slot that the task does not own, or that holds nothing, ends the task with
CFG_SLOT. EPOCH gives the core's epoch and its active slot. -/
def Sys2Proof.Claims.ConfigurationSwitches : Prop :=
  ∀ (c : CoreId) (t : TaskSlot) (f : InsnBits) (s : State),
    let i := fImm f % 8
    let k := s.core c
    let u (opc : Nat) := s.atIssue c t opc f
    let held : Prop := ((u 0x80).core c).stopped = true ∨ ((u 0x80).core c).latticeOutputs t = true ∨ ((u 0x80).core c).inputsSwitched = false
    let mine : Prop := k.owner = some t.val ∧ (s.task c t).img.cfgSlots.testBit i = true
    (∀ x, Issues s c t 0x80 f → mine → k.cfgSlot i = some x → ¬held →
      exec (.cfgsw c t f) s = .next (((u 0x80).switchCore c i).setPc c t x.entry)) ∧
    (∀ x, Issues s c t 0x80 f → mine → k.cfgSlot i = some x → held → (s.task c t).wait = none →
      exec (.cfgsw c t f) s = .next (waitsOn (u 0x80) c t 0x80 f 0 0 0 false)) ∧
    (Issues s c t 0x80 f → ¬mine ∨ k.cfgSlot i = none → exec (.cfgsw c t f) s = .next ((u 0x80).endTask c t 0x09 0)) ∧
    (Issues s c t 0x82 f → exec (.epoch c t f) s =
      .next (advance ((u 0x82).modTask c t (fun x => x.setG (fD f) (BitVec.ofNat 64 (k.epoch + 16 * k.active)))) c t))

/-- CFGLD loads a slot that the task owns with the entry and the schedule that it reads; the active one, and one that links have still to leave, is
waited for; an entry or a schedule that fails its check ends the task with CFG_SLOT, a schedule with SCHED_BAD set too. -/
def Sys2Proof.Claims.ConfigurationLoads : Prop :=
  ∀ (c : CoreId) (t : TaskSlot) (f : InsnBits) (s v w : State) (h b : Bytes), Issues s c t 0x81 f →
    let i := fImm f % 8
    let k := s.core c
    let addr := (s.task c t).areg (fA f)
    let u := s.atIssue c t 0x81 f
    let mine : Prop := k.owner = some t.val ∧ (s.task c t).img.cfgSlots.testBit i = true
    (¬mine → exec (.cfgld c t f) s = .next (u.endTask c t 0x09 0)) ∧
    (mine → k.active = i ∨ (k.leaving = i ∧ k.switchOpen = true) → (s.task c t).wait = none → exec (.cfgld c t f) s = .next (waitsOn u c t 0x81 f 0 0 0 false)) ∧
    (mine → ¬(k.active = i ∨ (k.leaving = i ∧ k.switchOpen = true)) → u.taskRead c t addr 64 .wide = .ok v h →
      (cfgEntryOk h (s.task c t).img.codeLen = false → exec (.cfgld c t f) s = .next (v.endTask c t 0x09 0)) ∧
      (cfgEntryOk h (s.task c t).img.codeLen = true → v.taskRead c t (addr + 64) (leAt h 2 2) .wide = .ok w b →
        (w.schedOk c b = true → exec (.cfgld c t f) s =
          .next (advance (w.modCore c (fun k => { k with cfg := tset (fun _ => none) k.cfg i (some ⟨leAt h 0 2, b⟩) })) c t)) ∧
        (w.schedOk c b = false → exec (.cfgld c t f) s = .next ((w.orReg (coreKey c rLAT_STATUS) (2 ^ 7)).endTask c t 0x09 0))))

/-- A switch raises the core's epoch by one modulo 8 and makes the slot active; each input link that its schedule does not mark passes to the new
epoch at once, and one that it marks keeps its old epoch until its marker comes. An output link that its schedule marks is to send a marker once
it has those of the inputs that its program names; one that it does not mark passes at once, or behind the switches that it has still to make. -/
def Obligations.SwitchesRaiseTheEpoch : Prop :=
  ∀ (n slot : Nat) (s : State),
    let c := s.core n
    let d := (s.switchCore n slot).core n
    let e := (c.epoch + 1) % 8
    let sched := (c.cfgSlot slot).map (fun x => x.schedule)
    d.epoch = e ∧ d.active = slot ∧ d.leaving = c.active ∧
    (∀ i < 4, marks (c.link i).inSched i = false → (d.link i).inEpoch = some e ∧ (d.link i).inSched = sched) ∧
    (∀ i < 4, marks (c.link i).inSched i = true → (d.link i).inEpoch = (c.link i).inEpoch ∧ (d.link i).queue = (c.link i).queue) ∧
    (∀ j < 4,
      let l := c.link j
      let old := l.lastSched
      (marks old (4 + j) = true →
        (d.link j).pend = l.pend ++ [⟨selectIns ((old.map (fun b => schedProg b (4 + j))).getD []), true, e, sched⟩] ∧
        (d.link j).outSched = l.outSched) ∧
      (marks old (4 + j) = false → l.pend = [] → (d.link j).pend = [] ∧ (d.link j).outSched = sched) ∧
      (marks old (4 + j) = false → l.pend ≠ [] → (d.link j).pend = l.pend ++ [⟨[], false, e, sched⟩]))

/-- TOKEN_ARRIVE of the item that reaches an input link next: with good check codes a DATA token of the link's epoch joins the input queue and is
counted; a marker of the next epoch joins it too; an item of another epoch is a protocol error. With wrong bits, what the check of the codes
leaves is queued. One that meets a full queue stays on the wire, a stopped lattice discards it, and an absent core loses it. -/
def Sys2Proof.Claims.TokensArrive : Prop :=
  ∀ (c : CoreId) (d : Dir) (err : BitVec 572) (s : State),
    let i := dirNo d
    (s.arriving c i = none → exec (.tokenArrive c d err ()) s = .next s) ∧
    (∀ w, s.arriving c i = some w →
      let tok := tokenOf w.item
      let off := s.offWire w
      let k := s.core c
      let l := (off.core c).link i
      let fits : Prop := ∀ e, l.tailEpoch = some e → tok.epoch.toNat = if tok.marker then (e + 1) % 8 else e
      let joined (n : Nat) : State := off.modCore c (fun k => k.setLink i
        { l with queue := l.queue ++ [itemOf tok], hwm := max l.hwm (l.queue.length + 1), received := l.received + n })
      (s.present c = false → exec (.tokenArrive c d err ()) s = .next off) ∧
      (s.present c = true → k.stopped = true → exec (.tokenArrive c d err ()) s = .next (off.discardToken c (if tok.marker then 0 else 1))) ∧
      (s.present c = true → k.stopped = false → (k.link i).depth ≤ (k.link i).queue.length → exec (.tokenArrive c d err ()) s = .next s) ∧
      (s.present c = true → k.stopped = false → (k.link i).queue.length < (k.link i).depth →
        (let r := off.checkToken c tok err
         exec (.tokenArrive c d err ()) s = .next (r.2.enqueue c i r.1)) ∧
        (err = 0 →
          (¬fits → exec (.tokenArrive c d err ()) s = .next (off.epochError c)) ∧
          (fits → tok.marker = true → exec (.tokenArrive c d err ()) s = .next (joined 0)) ∧
          (fits → tok.marker = false → exec (.tokenArrive c d err ()) s =
            .next (((joined 1).count (coreKey c (rLAT_CNTi + 8 * i)) 31 0 1).event c (0x0E + i) 1)))))

/-- R190: one wrong bit in the range of a code is corrected, and the token counted as corrected; two are found, and the token passes on with POISON,
counted as uncorrectable and recorded. -/
def Sys2Proof.Claims.TokenCodesAreChecked : Prop :=
  ∀ (n : Nat) (tok : Token) (err : BitVec 572) (s : State),
    let a := codeErrors err false
    let b := codeErrors err true
    let r := s.checkToken n tok err
    let first := decide (s.regField (coreKey n rLAT_ECC) 23 0 = 0)
    (a ≤ 1 → b ≤ 1 → r.1 = tok) ∧
    (a = 0 → b = 0 → r.2 = s) ∧
    (a ≤ 1 → b ≤ 1 → a + b ≠ 0 →
      let u := (s.count (coreKey n rLAT_ECC) 23 0 1).orReg (coreKey n rLAT_STATUS) (2 ^ 2)
      r.2 = if first then u.coreRec 1 6 2 n else u) ∧
    (a ≤ 2 → b ≤ 2 → a = 2 ∨ b = 2 → r.1.poison = true ∧
      r.2 = ((s.count (coreKey n rLAT_ECC) 47 24 1).orReg (coreKey n rLAT_STATUS) (2 ^ 3)).coreRec 2 6 3 n)

/-- TOKEN_DISPATCH and BYPASS_FORWARD: the head token of an input queue that every one of its destinations takes leaves the queue, and its program
moves on; where some do not, the token stays, owed to those; a stopped lattice moves nothing. The first token on a route that has reached a bypass
slot goes on to the wire beyond once that has room. -/
def Sys2Proof.Claims.TokensMoveOn : Prop :=
  ∀ (c : CoreId) (s : State),
    let k := s.core c
    (∀ (d : Dir) (tok : Token) (rest : List LatItem) (dests : List Nat), k.stopped = false →
      let i := dirNo d
      let l := k.link i
      let y := l.received + 1 - dataCount l.queue
      let v := (s.deliver c i y tok dests).1
      let left := (s.deliver c i y tok dests).2
      l.queue = .data tok :: rest → l.owed = some dests ∨ (l.owed = none ∧ (Prog.sel (l.dispatch i) l.inProg).map destList = some dests) →
      (left = [] → exec (.tokenDispatch c (some d)) s = .next (v.modCore c (fun k =>
        k.setLink i { k.link i with queue := rest, owed := none, inProg := Prog.step ((k.link i).dispatch i) (k.link i).inProg }))) ∧
      (left ≠ [] → exec (.tokenDispatch c (some d)) s = .next (v.modCore c (fun k => k.setLink i { k.link i with owed := some left })))) ∧
    (∀ x : DrainTok, k.stopped = false → s.nextDrainTok c = some x →
      let u := (s.setCore c { k with drainToks := k.drainToks.erase x }).sendOut c x.link { x.token with epoch := BitVec.ofNat 3 k.epoch } (x.sealEp, none)
      exec (.tokenDispatch c none) s = .next (match x.sealEp with
        | some e => u.modWin c e (fun w => if w.links.contains x.link then w else { w with links := w.links ++ [x.link] })
        | none => u)) ∧
    (∀ d, k.stopped = true → exec (.tokenDispatch c d) s = .next s) ∧
    (∀ (p : PhysId) (fromWest : Bool),
      (s.bypassing p fromWest = none → exec (.bypassForward p fromWest ()) s = .next s) ∧
      (∀ w, s.bypassing p fromWest = some w →
        (s.segFree w.link (w.pos + 1) = false → exec (.bypassForward p fromWest ()) s = .next s) ∧
        (s.segFree w.link (w.pos + 1) = true → exec (.bypassForward p fromWest ()) s = .next
          ((({ s with wires := s.wires.replace w { w with pos := w.pos + 1 } } : State).linkMoved w.link).pumpLink w.link))))

/-- An item that enters an output register goes on to the wire of its route when that has room and no steering of the link waits; it stays in the
register otherwise, and no source sends on that output. -/
def Sys2Proof.Claims.OutputRegistersHold : Prop :=
  ∀ (n i : Nat) (x : LatItem) (s : State), i < 4 → ((s.core n).link i).out = [] →
    let v := s.emit n i x
    (s.steered (n * 4 + i) = none → s.segFree (n * 4 + i) 0 = true → v.wires = s.wires ++ [⟨n * 4 + i, 0, x⟩] ∧ ((v.core n).link i).out = []) ∧
    (s.steered (n * 4 + i) ≠ none ∨ s.segFree (n * 4 + i) 0 = false →
      v.wires = s.wires ∧ ((v.core n).link i).out = [x] ∧ ∀ src, v.outReady n i src = false)

/-- INPUT_LINK_SWITCH passes an input link whose head is the marker of the core's epoch to that epoch, and its outputs await that marker no longer;
OUTPUT_LINK_SWITCH, once no marker is awaited and the output register is free, sends the marker on and starts the link's new program;
ROUTE_STEER_CHANGE lets a new steering take effect once the route holds no token. -/
def Sys2Proof.Claims.LinksSwitch : Prop :=
  ∀ (c : CoreId) (d : Dir) (s : State),
    let k := s.core c
    let i := dirNo d
    let l := k.link i
    (∀ q rest, k.stopped = false → l.queue = .marker k.epoch q :: rest → l.inEpoch ≠ some k.epoch →
      let after := (dispatchOuts (l.dispatch i)).foldl (fun k j => k.setLink j { k.link j with pend := gotMarker i (k.link j).pend }) k
      exec (.inputLinkSwitch c d) s = .next ((s.setCore c (after.setLink i { after.link i with queue := rest })).switchIn c i)) ∧
    (∀ x xs, k.stopped = false → l.pend = x :: xs → x.awaited = [] →
      let u := s.setCore c (k.setLink i { l with pend := xs })
      (x.send = true → l.out = [] → exec (.outputLinkSwitch c d) s = .next ((u.emit c i (.marker x.epoch false)).switchOutTo c i x.sched)) ∧
      (x.send = false → exec (.outputLinkSwitch c d) s = .next (u.switchOutTo c i x.sched))) ∧
    (l.pend = [] → exec (.outputLinkSwitch c d) s = .next s) ∧
    (∀ x xs, l.pend = x :: xs → x.awaited ≠ [] ∨ (x.send = true ∧ l.out ≠ []) → exec (.outputLinkSwitch c d) s = .next s) ∧
    (let j := c.val * 4 + i
     (s.steered j ≠ none → s.routeBusy c i = false → exec (.routeSteerChange c d) s =
       .next (({ s with steer := tset (fun _ => none) s.steer j none } : State).pumpLink j)) ∧
     (s.steered j = none ∨ s.routeBusy c i = true → exec (.routeSteerChange c d) s = .next s))

/-- The marker of an input link reaches an output link: of the switches that it has still to make, the first that awaits that marker awaits it no
more. -/
def Sys2Proof.Claims.MarkersReachOutputs : Prop :=
  ∀ (i : Nat) (ps qs : List OutSwitch) (x : OutSwitch), (∀ p ∈ ps, i ∉ p.awaited) →
    (i ∈ x.awaited → gotMarker i (ps ++ x :: qs) = ps ++ { x with awaited := x.awaited.filter (fun j => decide (j ≠ i)) } :: qs) ∧
    gotMarker i ps = ps

/-- LAT_SLACK_WRITE: an ADJUST above 24, or one that would leave a queue shallower than what it holds, is discarded with SLACK_REJECT; any other is
kept, and the router grants slack anew. -/
def Sys2Proof.Claims.SlackIsGranted : Prop :=
  ∀ (who : Initiator) (c : CoreId) (d : Dir) (v : Word) (s : State),
    let key := coreKey c (rLAT_SLACKi + 8 * dirNo d)
    let l := (s.core c).link (dirNo d)
    let adj := v.toNat % 256
    let granted := (s.core c).grant (dirNo d) (min 24 (l.base + adj))
    Takes s who key (classOf key) →
    (24 < adj ∨ 8 + granted < l.queue.length → exec (.latSlackWrite who c d v) s = .next (s.orReg (coreKey c rLAT_STATUS) (2 ^ 5))) ∧
    (adj ≤ 24 → l.queue.length ≤ 8 + granted → exec (.latSlackWrite who c d v) s = .next ((s.regWrite key v).regrant c (dirNo d)))

/-- LATTICE_STALL, when a lattice that holds tokens has moved none for LIMIT_US, logs once which inputs are full and when, and records it; LAT_STOP_SET begins a forced drain, LATTICE_DRAINED ends it, and
LAT_STOP_CLEAR leaves every link idle with no epoch. After a forced drain begins no input queue and no output
register holds an item and no drain token waits. -/
def Sys2Proof.Claims.LatticeStops : Prop :=
  ∀ (who : Initiator) (c : CoreId) (s : State),
    let k := s.core c
    let key := coreKey c rLAT_CTRL
    let log := coreKey c rLAT_STALLLOG
    let full := ((List.range 4).map (fun i => if (k.link i).depth ≤ (k.link i).queue.length then 2 ^ i else 0)).sum
    let u := (s.logOnce log 63 (BitVec.ofNat 64 (full * 2 ^ 32 + s.ns / 1024 % 2 ^ 32))).orReg (coreKey c rLAT_STATUS) 2
    (s.regField (coreKey c rLAT_STALLCFG) 31 0 ≠ 0 → s.latticeHolds c = true → k.moved + s.regField (coreKey c rLAT_STALLCFG) 31 0 * 1000 ≤ s.ns →
      exec (.latticeStall c) s = .next (u.record ⟨0, 6, 1, 1, c, 0, 0, u.reg log, 0⟩)) ∧
    (s.regField (coreKey c rLAT_STALLCFG) 31 0 = 0 ∨ s.latticeHolds c = false ∨ s.ns < k.moved + s.regField (coreKey c rLAT_STALLCFG) 31 0 * 1000 →
      exec (.latticeStall c) s = .next s) ∧
    (Takes s who key (classOf key) → k.stopped = false → exec (.latStopSet who c) s = .next ((s.setReg key 1).stopLattice c)) ∧
    (Takes s who key (classOf key) → k.stopped = true → exec (.latStopSet who c) s = .next s) ∧
    (let e := (s.stopLattice c).core c
     e.stopped = true ∧ e.drained = false ∧ e.drainToks = [] ∧ ∀ i < 4, (e.link i).queue = [] ∧ (e.link i).out = [] ∧ (e.link i).pend = []) ∧
    (k.stopped = true → s.latticeHolds c = false → exec (.latticeDrained c) s = .next (s.modCore c (fun k => { k with drained := true }))) ∧
    (Takes s who key (classOf key) → k.stopped = true → exec (.latStopClear who c) s =
      .next ((s.setReg key 0).modCore c (fun k => { k with stopped := false, drained := false, links := [] })))

/-- SEAL_LANE_UPDATE raises SC of an input link to a count that its near end has sealed, and frees the windows that waited for it; a count already
passed, or not yet sealed there, changes only what the near end has counted. LANE_RETRACT, where the near end raised RETRACT, retracts the windows
that took tokens beyond SC, passes RETRACT on, sets LANE_LOST and freezes the lattice task. -/
def Sys2Proof.Claims.SealLanes : Prop :=
  ∀ (c : CoreId) (d : Dir) (m : Nat) (s : State), neighbour c (dirNo d) = some m →
    let i := dirNo d
    let u := s.advanceLane m (opposite i)
    let far := ((u.core m).link (opposite i)).outSc
    (∀ sc : Word, sc.toNat ≤ ((u.core c).link i).sc ∨ far < sc.toNat → exec (.sealLaneUpdate c d sc) s = .next u) ∧
    (∀ sc : Word, ((u.core c).link i).sc < sc.toNat → sc.toNat ≤ far → exec (.sealLaneUpdate c d sc) s =
      .next (((u.modCore c (fun k => k.setLink i { k.link i with sc := sc.toNat })).modSeal c (fun x => { x with wins := x.wins.map (fun w =>
        { w with latDeps := w.latDeps.filter (fun q => !(decide (q.1 = i) && decide (q.2 ≤ sc.toNat))) }) })).sealReady c 257)) ∧
    (((s.core m).link (opposite i)).retract = false → exec (.laneRetract c d) s = .next s) ∧
    (((s.core m).link (opposite i)).retract = true →
      let v := ((s.retractLane c i 257).modCore c (fun k => (List.range 4).foldl (fun k j =>
        if (selectIns ((k.link j).select j)).contains i then k.setLink j { k.link j with retract := true } else k) k)).orReg (coreKey c rSEAL_STATUS) (2 ^ 11)
      (∀ t, (v.core c).owner = some t → exec (.laneRetract c d) s = .next (v.freezeTask c t .recovery)) ∧
      ((v.core c).owner = none → exec (.laneRetract c d) s = .next v))

/-! ## The life of a task -/

/-- START_RESERVATION: the header is read; one that fails its checks, or the lowest refusal that applies, is the answer; a start that nothing
refuses holds the lowest free slot for the task. Lines of the header that the host caches are asked back first. A reservation that must wait, or
on a core that is not live, changes nothing. -/
def Sys2Proof.Claims.StartsAreReserved : Prop :=
  ∀ (c : CoreId) (req : StartReq) (s : State),
    (s.live c = false ∨ s.startsWait c = true → exec (.startReservation c req) s = .next s) ∧
    (s.live c = true → s.startsWait c = false →
      (∀ w, s.snooped req.image.toNat 64 false = (false, w) → exec (.startReservation c req) s = .next w) ∧
      (∀ w, s.snooped req.image.toNat 64 false = (true, w) →
        let r := w.ringRead req.image.toNat 64
        (r.1 = none → exec (.startReservation c req) s = .next (r.2.answerStart c req 255 none)) ∧
        (∀ h, r.1 = some h →
          let v := r.2
          let i := v.readInfo req.image.toNat req.spadBase.toNat h
          (headerOk h = false → exec (.startReservation c req) s = .next (v.answerStart c req 255 none)) ∧
          (headerOk h = true → ∀ x xs, v.refusals c i = x :: xs →
            exec (.startReservation c req) s = .next ((v.modCore c (fun k => { k with refusal := x })).answerStart c req x none)) ∧
          (headerOk h = true → v.refusals c i = [] → ∀ t < 4, ((v.core c).task t).holds = false → (∀ u < t, ((v.core c).task u).holds = true) →
            exec (.startReservation c req) s = .next ((v.modTask c t (fun k => { k.last with
              reserved := true, img := i, arg := req.arg, tag := req.jobTag, number := req.taskNo, spadBase := req.spadBase.toNat })).answerStart
                c req 0 (some t))))))

/-- START_GO puts every reserved task of a job whose reservations all held into LOADING; RESERVATION_CANCEL frees a reserved slot, and leaves any
other alone. -/
def Sys2Proof.Claims.ReservationsEnd : Prop :=
  ∀ s : State,
    (∀ (tag : BitVec 32) (j : Job), s.job tag.toNat = some j → j.phase = .reserving → j.cause = none → (∀ x ∈ j.tasks, x.answer = some 0) →
      exec (.startGo tag) s = .next (j.tasks.foldl (fun s x => s.modCore x.core (fun c => c.go tag)) (s.setJob tag.toNat (some { j with phase := .running })))) ∧
    (∀ (c : CoreId) (t : TaskSlot), (s.task c t).reserved = true → exec (.reservationCancel c t) s =
      .next ((s.setTask c t (s.task c t).last).modJob (s.task c t).tag.toNat (fun j => { j with tasks := j.tasks.map (fun x =>
        if x.core = c.val ∧ x.slot = some t.val then { x with slot := none } else x) }))) ∧
    (∀ (c : CoreId) (t : TaskSlot), (s.task c t).reserved = false → exec (.reservationCancel c t) s = .next s) ∧
    (∀ (c : Core) (t : Nat) (tag : BitVec 32), t < 4 → (c.task t).reserved = true → (c.task t).tag = tag →
      ((c.go tag).task t).phase = .loading ∧ ((c.go tag).task t).reserved = false)

/-- TASK_LOAD_COMPLETE: an image that cannot be read, or that fails a check, ends the task with BAD_IMAGE; one that passes is loaded: its regions, its
queues and sheaves, its statistics window, its configurations and its registers. Lines of it that the host caches are asked back first. -/
def Sys2Proof.Claims.TasksLoad : Prop :=
  ∀ (c : CoreId) (t : TaskSlot) (s : State), (s.task c t).phase = .loading → s.live c = true →
    let k := s.task c t
    (∀ w, s.snooped k.img.addr k.img.length false = (false, w) → exec (.taskLoadComplete c t) s = .next w) ∧
    (∀ w, s.snooped k.img.addr k.img.length false = (true, w) →
      let r := w.ringRead k.img.addr k.img.length
      (r.1 = none → exec (.taskLoadComplete c t) s = .next (r.2.endTask c t 0x01 0)) ∧
      (∀ b, r.1 = some b → imageOk b = false → exec (.taskLoadComplete c t) s = .next (r.2.endTask c t 0x01 0)) ∧
      (∀ b, r.1 = some b → imageOk b = true →
        let points := (List.range (leAt b 40 2)).map (fun i =>
          let o := leAt b 36 4 + 8 * i
          EmberPoint.mk (leAt b o 2) (leAt b (o + 2) 2) (leAt b (o + 4) 2) (leAt b (o + 6) 1))
        ∃ i : ImageInfo, i.embers = points ∧ i.codeLen = leAt b 16 4 ∧ i.entry = leAt b 42 2 ∧ i.addr = k.img.addr ∧
          exec (.taskLoadComplete c t) s = .next (r.2.loadImage c t b i)))

/-- R129: a task starts with g1 the start argument, g2 its core's number, every other general, address and counter register zero, no predicate set,
and PC at the entry. -/
def Obligations.TasksStartClean : Prop :=
  ∀ (k : Task) (n : Nat) (i : ImageInfo),
    let x := k.started n i
    x.pc = i.entry ∧ x.phase = .running ∧ x.greg 1 = k.arg ∧ x.greg 2 = BitVec.ofNat 64 n ∧ (∀ r < 32, r ≠ 1 → r ≠ 2 → x.greg r = 0) ∧
    (∀ r < 16, x.areg r = 0) ∧ (∀ r < 8, x.kreg r = 0) ∧ (∀ r, 1 ≤ r → r < 8 → x.preg r = false) ∧ x.pending = [] ∧ x.deps = [] ∧ x.next = []

/-- TASK_DRAIN_COMPLETE, for a draining task that ended with END_OK once nothing of it is outstanding, and for one that ended otherwise with what
is outstanding discarded: with no region to be scrubbed its end is reported and its slot empties; otherwise its scrubs begin, and it stays in
DRAINING. SCRUB_COMPLETE zeroes the regions that wait for their scrub and then reports the end of their task. -/
def Sys2Proof.Claims.TasksEndAndScrub : Prop :=
  ∀ (c : CoreId) (t : TaskSlot) (s : State),
    let k := s.task c t
    let finish (u : State) : State :=
      let i := (u.task c t).img
      let rs := i.regions.filter (fun r => r.scrub || i.scrubAll || bitOf (u.reg (coreKey c rSPAD_CTRL)) 0)
      if rs = [] then u.endReport c t
      else (u.modCore c (fun k => { k with scrubs := k.scrubs ++ rs.map (fun r => (t.val, r.base, r.size)) })).modTask c t (fun k => { k with scrubbing := true })
    (k.phase = .draining → k.scrubbing = false → k.endCode = 0 → (s.core c).outstanding t = false → s.scanning c t = false →
      exec (.taskDrainComplete c t) s = .next (finish s)) ∧
    (k.phase = .draining → k.scrubbing = false → k.endCode = 0 → (s.core c).outstanding t = true ∨ s.scanning c t = true →
      exec (.taskDrainComplete c t) s = .next s) ∧
    (k.phase = .draining → k.scrubbing = false → k.endCode ≠ 0 → exec (.taskDrainComplete c t) s = .next (finish (s.discardOps c t))) ∧
    (k.phase ≠ .draining ∨ k.scrubbing = true → exec (.taskDrainComplete c t) s = .next s) ∧
    (let scrubs := (s.core c).scrubs
     let v := (scrubs.filter (fun x => decide (x.1 = t.val))).foldl (fun s x => s.zeroRange (spadAddr c x.2.1) x.2.2)
       (s.modCore c (fun k => { k with scrubs := scrubs.filter (fun x => decide (x.1 ≠ t.val)) }))
     ((v.task c t).scrubbing = true → exec (.scrubComplete c t) s = .next (v.endReport c t)) ∧
     ((v.task c t).scrubbing = false → exec (.scrubComplete c t) s = .next v)) ∧
    (∀ a len x, a ≤ x → x < a + len → tget zeroByte (s.zeroRange a len).ram x = 0) ∧
    (∀ a len x, x < a ∨ a + len ≤ x → tget zeroByte (s.zeroRange a len).ram x = tget zeroByte s.ram x)

/-- SEQ_KILL ends each task of its mask with TASK_RESET, and SEQ_HOLD sets the HOLD bits to its mask: issue stops in the slots held, and the wait
timer of a slot stands still from the time it is held to the time it is released. -/
def Sys2Proof.Claims.SlotsAreKilledAndHeld : Prop :=
  ∀ (who : Initiator) (c : CoreId) (mask : BitVec 4) (s : State),
    let key := coreKey c rSEQ_CTRL
    Takes s who key (classOf key) →
    exec (.seqKill who c mask) s = .next (((List.range 4).filter (fun t => mask.toNat.testBit t)).foldl (fun s t => s.killTask c t) s) ∧
    exec (.seqHold who c mask) s = .next (((List.range 4).foldl (fun s t => s.holdSlot c t (mask.toNat.testBit t)) s).setRegField key 11 8 mask.toNat) ∧
    (∀ (t : TaskSlot) (w : WaitRec), s.held c t = true → (s.task c t).wait = some w → w.since ≤ (s.task c t).holdAt →
      ((s.holdSlot c t false).task c t).wait = some { w with since := w.since + (s.ns - (s.task c t).holdAt) }) ∧
    (∀ (i : Instr) (opc : Nat) (t : TaskSlot) (f : InsnBits), insn i = some (opc, c, t, f) → s.held c t = true → exec i s = .next s)

/-! ## Power of bank groups -/

/-- SPAD_PWR_WRITE that clears the ON bit of a group that a resident region lies in, that a scrub writes or that a DMA names is discarded with
PWR_REJECT set; any other takes effect. GROUP_POWER_DOWN takes a group whose ON is clear out of READY, GROUP_POWER_UP_READY makes one whose ON is set
READY; in both its contents are gone and no word of it is uncorrectable. Any other group is left alone. -/
def Sys2Proof.Claims.BankGroupsPower : Prop :=
  ∀ (c : CoreId) (s : State),
    let key := coreKey c rSPAD_PWR
    let r := s.reg key
    (∀ (who : Initiator) (v : Word), Takes s who key (classOf key) →
      let busy : Prop := ∃ g < 12, bitOf r g = true ∧ bitOf v g = false ∧ s.groupBusy c g = true
      (busy → exec (.spadPwrWrite who c v) s = .next (s.orReg (coreKey c rSPAD_STATUS) 2)) ∧
      (¬busy → exec (.spadPwrWrite who c v) s = .next (s.regWrite key v))) ∧
    (∀ g : Fin 16,
      let off := bitOf r g = false ∧ bitOf r (16 + g) = true
      let on := bitOf r g = true ∧ bitOf r (16 + g) = false
      (g.val < 12 → off → exec (.groupPowerDown c g) s = .next ((s.setReg key (setBit r (16 + g) false)).dropGroup c g)) ∧
      (g.val < 12 → on → exec (.groupPowerUpReady c g) s = .next ((s.setReg key (setBit r (16 + g) true)).dropGroup c g)) ∧
      (12 ≤ g.val ∨ ¬off → exec (.groupPowerDown c g) s = .next s) ∧ (12 ≤ g.val ∨ ¬on → exec (.groupPowerUpReady c g) s = .next s)) ∧
    (∀ g x, spadAddr c (g * 2 ^ 20) ≤ x → x < spadAddr c (g * 2 ^ 20) + 2 ^ 20 →
      tget zeroByte (s.dropGroup c g).ram x = 0 ∧ x ∉ (s.dropGroup c g).badWords)

/-! ## Memory, checkpoints and recovery -/

/-- A store that meets no uncorrectable granule and no map entry reads back whole, and every byte that lies elsewhere reads as before. -/
def Sys2Proof.Claims.MemoryReadsBack : Prop :=
  ∀ (a : Nat) (bs : Bytes) (s : State), (∀ j < bs.length, s.mapByte (a + j) = none) → s.writeBad a bs.length = false →
    (∀ j < bs.length, ∀ k < bs.length, s.phys (a + j) = s.phys (a + k) → j = k) →
    (s.store a bs).bytes a bs.length = bs ∧ ∀ x, (∀ j < bs.length, s.phys x ≠ s.phys (a + j)) → (s.store a bs).byte x = s.byte x

/-- EMBER goes on at once where no checkpoint is due; a due one waits while the task depends on an OPEN epoch or a block or window of it is not
sealed, and then for its write; a block RETRACTED or LAPSED freezes the task. EMBER_WRITE_COMPLETE writes the checkpoint into the other half, once
the host holds no line of it, and lets the task go on; a write that fails, or finds an uncorrectable word to carry, is recorded, and the task goes on
without it. -/
def Sys2Proof.Claims.CheckpointsAreWritten : Prop :=
  ∀ (c : CoreId) (t : TaskSlot) (f : InsnBits) (s : State),
    let k := s.task c t
    let u := s.atIssue c t 0x7C f
    let p := k.img.ember (fImm f % 2 ^ 16)
    let rs := k.img.carried p.live p.pairs
    (Issues s c t 0x7C f → k.wait = none →
      (u.emberDue c t f = false → exec (.ember c t f) s = .next (advance u c t)) ∧
      (u.emberDue c t f = true → k.deps ≠ [] → exec (.ember c t f) s = .next (waitsOn u c t 0x7C f 1 0 0 true)) ∧
      (u.emberDue c t f = true → k.deps = [] →
        (u.emberSeals c t rs = 0 → exec (.ember c t f) s = .next (waitsOn u c t 0x7C f 2 0 0 false)) ∧
        (u.emberSeals c t rs = 1 → exec (.ember c t f) s = .next (waitsOn u c t 0x7C f 1 0 0 true)) ∧
        (u.emberSeals c t rs = 2 → exec (.ember c t f) s = .next (u.freezeTask c t .recovery)))) ∧
    (∀ w, k.phase = .waiting → k.wait = some w → w.opc = 0x7C → w.stage = 2 → w.f = f →
      let half := match k.emberHalf with
        | some h => 1 - h
        | none => 0
      let g := s.snooped (s.emberBase c half) (2 ^ 24) true
      let v := (g.2.writeEmber c t half p).modTask c t (fun x => { x with emberAt := g.2.ns, emberSeq := x.emberSeq + 1, emberHalf := some half })
      let bad := rs.find? (fun r => s.readBad (spadAddr c r.base) r.size)
      (bad = none → g.1 = true → exec (.emberWriteComplete c t true) s = .next (advance v c t) ∧
        exec (.emberWriteComplete c t false) s = .next (advance (g.2.emberFails c t) c t)) ∧
      (bad = none → g.1 = false → ∀ ok, exec (.emberWriteComplete c t ok) s = .next g.2) ∧
      (∀ r, bad = some r → ∀ ok, exec (.emberWriteComplete c t ok) s = .next (advance
        ((s.copyUe c (s.firstBad c r.base r.size) (s.ueIn c r.base r.size) (s.jobTag c t)).emberFails c t) c t))) ∧
    (k.phase ≠ .waiting → ∀ ok, exec (.emberWriteComplete c t ok) s = .next s)

/-- JOB_RECOVERY waits for the host's lines of the job's checkpoints; it freezes the tasks of a job that has one frozen, forces their lattices to drain, discards what they have outstanding and retracts
their OPEN windows; the job is then restored at its recovery line, or its frozen tasks end where it cannot be. RECOVERY_RESUME lets a restored job
run again once each of its cores is live and placed. A job in another phase is left alone. -/
def Sys2Proof.Claims.JobsRecover : Prop :=
  ∀ (tag : BitVec 32) (j : Job) (s : State), s.job tag.toNat = some j →
    let stop (s : State) (q : Nat × Nat) : State :=
      if (s.core q.1).owner = some q.2 ∧ (s.core q.1).stopped = false then (s.setReg (coreKey q.1 rLAT_CTRL) 1).stopLattice q.1 else s
    let g := s.snoopedAll (j.places.flatMap (fun q => [(s.emberBase q.1 0, 2 ^ 25, false)]))
    let frozen := j.places.foldl (fun s q => s.freezeTask q.1 q.2 .recovery) g.2
    let calm := j.places.foldl (fun s q => s.retractTask q.1 q.2) (j.places.foldl (fun s q => s.discardOps q.1 q.2) (j.places.foldl stop frozen))
    (j.phase = .running → s.hasFrozen j = true → (∀ q ∈ j.places, s.awaitsMap q.1 = false) →
      (g.1 = false → exec (.jobRecovery tag) s = .next g.2) ∧
      (g.1 = true → g.2.unrecoverable j = true → exec (.jobRecovery tag) s = .next (calm.endFrozen j)) ∧
      (g.1 = true → g.2.unrecoverable j = false → calm.recoveryLine j = none → exec (.jobRecovery tag) s = .next (calm.endFrozen j)) ∧
      (∀ k, g.1 = true → g.2.unrecoverable j = false → calm.recoveryLine j = some k → exec (.jobRecovery tag) s =
        .next (((j.places.foldl (fun s q => s.restoreTask q.1 q.2 k) calm).count rSMD_CNT2 15 0 1).modJob tag.toNat
          (fun j => if j.cause.isSome then j else { j with phase := .restored, tries := j.tries + 1 })))) ∧
    (j.phase ≠ .running ∨ s.hasFrozen j = false → exec (.jobRecovery tag) s = .next s) ∧
    (j.phase = .restored → (∀ q ∈ j.places, s.awaitsMap q.1 = false ∧ s.live q.1 = true) → exec (.recoveryResume tag) s =
      .next ((((j.places.foldl (fun s q => s.resumeTask q.1 q.2) s).smdStat 6)).setJob tag.toNat (some { j with phase := .running }))) ∧
    (j.phase ≠ .restored → exec (.recoveryResume tag) s = .next s)

/-- HEARTH_ACCESS and PEAT_ACCESS: a request that has landed at a ring of its memory is refused where its range is no memory, waits while a row of it
is under repair or the host holds its lines, heats the name that it reaches, and is answered POISONED where a map entry or a channel has failed; a
write is performed, or held while its name moves; a read is served, or waits for the NOTICEs owed for it. -/
def Sys2Proof.Claims.RingsServeMemory : Prop :=
  ∀ (req : RingReq) (peat : Bool) (s : State), s.here req.pkt = true → s.ringTakes req.pkt peat = true →
    let i : Instr := if peat then .peatAccess req else .hearthAccess req
    let p := req.pkt
    let a := field p.addr 47 0
    let write := decide (p.type = .dmaWrite)
    let g := (s.take p).snooped a p.len write
    let v := g.2
    let w : State := match v.pool.nameOf a with
      | some n => v.access n ((s.take p).tierOf p)
      | none => v
    let dead := w.unusable a p.len = true ∨ w.chanFailed (w.phys a) = true
    let plan := w.servePlan (512 + w.ringDie a) [(a, p.len)] (w.destOf p) p req.errs
    (p.region = true ∨ s.memOk a p.len = false → exec i s = .next ((s.take p).respond p .refused [])) ∧
    (p.region = false → s.memOk a p.len = true →
      (s.repairHeld a p.len = true → exec i s = .next s) ∧
      (s.repairHeld a p.len = false → g.1 = false → exec i s = .next { v with landed := s.landed }) ∧
      (s.repairHeld a p.len = false → g.1 = true →
        (dead → exec i s = .next (w.respond p .poisoned [])) ∧
        (¬dead → write = true →
          ((∀ n, v.pool.nameOf a = some n → w.moving n = false) → exec i s = .next (w.serveWrite p)) ∧
          (∀ n, v.pool.nameOf a = some n → w.moving n = true → exec i s = .next (w.holdWrite n (.pkt p)))) ∧
        (¬dead → write = false →
          (plan = .now → exec i s = .next (w.serveRead p req.errs)) ∧
          (∀ x, plan = .held x → exec i s = .next x) ∧
          (plan = .full → exec i s = .next { v with landed := v.landed ++ [p] }))))

/-- A read served at a ring that meets no uncorrectable line is answered with the bytes of memory; a write that meets none is answered OK and reads back. -/
def Sys2Proof.Claims.RingsMoveBytes : Prop :=
  ∀ (p : Packet) (s : State),
    let a := field p.addr 47 0
    let w := s.countLines a p.len false
    ((∀ g ∈ w.linesOf a p.len, g ∉ w.badLines ∧ w.chanFailed g = false) → s.serveRead p [] = w.respond p .ok (w.bytes a p.len)) ∧
    (s.writeBad a p.len = false →
      s.serveWrite p = ((s.countLines a p.len true).store a p.data).respond p .ok [])

/-- NOTICE_ACKNOWLEDGED serves a read of a seal directory whose every NOTICE has been acknowledged; without such a read it changes nothing. -/
def Sys2Proof.Claims.NoticedReadsAreServed : Prop :=
  ∀ (d : SealEnd) (i k : Nat) (s : State), unitOf d = some i →
    (s.popRead i k = none → exec (.noticeAcknowledged d k) s = .next s) ∧
    (∀ r v, s.popRead i k = some (r, v) → 512 ≤ i → exec (.noticeAcknowledged d k) s = .next (v.serveRead r.pkt r.errs)) ∧
    (∀ r v ps, s.popRead i k = some (r, v) → i < 512 → v.requestPieces i r.pkt = some ps →
      exec (.noticeAcknowledged d k) s = .next (v.serveSpadRead i r.pkt ps)) ∧
    (∀ r v, s.popRead i k = some (r, v) → i < 512 → v.requestPieces i r.pkt = none →
      exec (.noticeAcknowledged d k) s = .next (v.respond r.pkt .refused []))

/-! ## The tier engine -/

/-- HEAT_DECAY_PERIOD halves the heat of every name of its die, and leaves every other name, and where any name is held, as they were. -/
def Sys2Proof.Claims.HeatDecays : Prop :=
  ∀ (d : DieId) (s : State), twf mapIdentity s.tierMap = true → bitOf (s.reg rTIER_STATUS) 9 = true →
    ∃ t, exec (.heatDecayPeriod d) s = .next t ∧
      (∀ i < 2 ^ 27, s.nameDie i = d.val → t.heat i = s.heat i / 2) ∧ (∀ i, s.nameDie i ≠ d.val → t.heat i = s.heat i) ∧
      (∀ i, field (t.mapEntry i) 26 0 = field (s.mapEntry i) 26 0) ∧ t.ram = s.ram

/-- SWAP_START pairs the head of the promote queue with the head of a victim list, at most SWAPS_PER_MS times in a millisecond, once neither is held
still and the host holds no line of either: both names are MOVING. SWAP_COMPLETE ends the swap: the names exchange their frames, or stay where they
are and are pinned where a frame has an uncorrectable line; writes held meanwhile are applied. -/
def Sys2Proof.Claims.SwapsRun : Prop :=
  ∀ (d : DieId) (s : State),
    let a := s.agent d
    let recent := s.tier.starts.filter (fun x => decide (s.ns < x + 1000000))
    let may := bitOf (s.reg rTIER_POLICY) 63 = true ∧ bitOf (s.reg rTIER_STATUS) 9 = true ∧ a.swap = none ∧
      recent.length < s.regField rTIER_POLICY 47 32 ∧ s.computeReset = false
    (∀ (v : DieId) (b x : Nat) (ps vs : List Nat), may → a.promote = b :: ps →
      (s.inHearth b = true ∨ s.pinned b = true → exec (.swapStart d v) s = .next (s.setAgent d { a with promote := ps })) ∧
      (s.inHearth b = false → s.pinned b = false → (s.agent v).victims = x :: vs →
        (s.inHearth x = false ∨ s.pinned x = true → exec (.swapStart d v) s = .next (s.setAgent v { s.agent v with victims := vs })) ∧
        (s.inHearth x = true → s.pinned x = false → s.mayMove b = true → s.mayMove x = true →
          let s1 := (s.snooped (s.nameAddr b) 65536 true).2
          let s2 := (s1.snooped (s.nameAddr x) 65536 true).2
          let u := s2.setAgent v { s2.agent v with victims := vs }
          let q := u.setAgent d { u.agent d with promote := ps, swap := some ⟨x, b, false, false, []⟩ }
          (s.snooped (s.nameAddr b) 65536 true).1 = true → (s1.snooped (s.nameAddr x) 65536 true).1 = true →
          exec (.swapStart d v) s = .next { (q.setMoving x true).setMoving b true with tier := { q.tier with starts := recent ++ [s.ns] } }))) ∧
    (∀ v, ¬may → exec (.swapStart d v) s = .next s) ∧
    (∀ errs, a.swap = none → exec (.swapComplete ⟨d, errs⟩) s = .next s) ∧
    (∀ w errs, a.swap = some w → s.repairHeld (s.nameAddr w.a) 65536 = true ∨ s.repairHeld (s.nameAddr w.b) 65536 = true →
      exec (.swapComplete ⟨d, errs⟩) s = .next s) ∧
    (∀ w errs, a.swap = some w → s.repairHeld (s.nameAddr w.a) 65536 = false → s.repairHeld (s.nameAddr w.b) 65536 = false →
      let u := (s.noteErrs (s.nameAddr w.a) 65536 errs).noteErrs (s.nameAddr w.b) 65536 errs
      let fa := field (u.mapEntry w.a) 26 0
      let fb := field (u.mapEntry w.b) 26 0
      let ends (v : State) : State :=
        let v := (v.setMoving w.a false).setMoving w.b false
        let v := if w.pinA then v.setPin w.a true else v
        let v := if w.pinB then v.setPin w.b true else v
        w.held.foldl (fun s h => s.applyHeld h) (v.setAgent d { v.agent d with swap := none })
      let keeps (v : State) (i : Nat) : State :=
        let v := v.setPin i true
        { v with tier := { v.tier with enginePins := if v.tier.enginePins.contains i then v.tier.enginePins else v.tier.enginePins ++ [i] } }
      let found := (u.frameUes fa ++ u.frameUes fb).foldl (fun s g => s.lineUe g) u
      (u.frameBad fa = false → u.frameBad fb = false → exec (.swapComplete ⟨d, errs⟩) s =
        .next (ends ((((u.exchange w.a w.b).count rTIER_CNT 63 32 1).dieEvent d 0x06 0 1).promoted w.b))) ∧
      (u.frameBad fa = true ∨ u.frameBad fb = true →
        let v := if u.frameBad fa then keeps found w.a else found
        let v := if u.frameBad fb then keeps v w.b else v
        exec (.swapComplete ⟨d, errs⟩) s = .next (ends ((v.orReg rTIER_STATUS (2 ^ 7)).record ⟨sevDegraded, 13, 7, 3, d.val, 0, 0, 0, 0⟩))))

/-- A swap moves no byte of any name: with the two names in frames of their own, every pool address reads after it what it read before. -/
def Obligations.SwapsKeepTheBytesOfNames : Prop :=
  ∀ (a b x : Nat) (s : State), s.memWf = true →
    let p := s.pool
    let frame (i : Nat) := field (s.mapEntry i) 26 0
    p.hbase + p.hsize ≤ p.pbase → p.hsize % 65536 = 0 → p.psize % 65536 = 0 → p.names ≤ 2 ^ 27 → a < p.names → b < p.names → a ≠ b →
    (∀ i < p.names, frame i < p.names) → (∀ i < p.names, ∀ j < p.names, frame i = frame j → i = j) →
    p.nameOf x ≠ none → s.mapByte x = none → (s.exchange a b).byte x = s.byte x

/-- TIER_POLICY_WRITE takes a policy whose fields are all in range and whose DEMOTE_T lies below PROMOTE_T, whole; any other is discarded and
POLICY_REJECT set. -/
def Sys2Proof.Claims.TierPolicies : Prop :=
  ∀ (who : Initiator) (v : Word) (s : State), Takes s who rTIER_POLICY (classOf rTIER_POLICY) →
    let period := v.toNat / 2 ^ 32 % 2 ^ 16
    let promote := v.toNat / 2 ^ 8 % 2 ^ 8
    let demote := v.toNat % 2 ^ 8
    let fine := 1 ≤ period ∧ period ≤ 4096 ∧ 100 ≤ v.toNat / 2 ^ 16 % 2 ^ 16 ∧ 1 ≤ promote ∧ promote ≤ 63 ∧ demote ≤ 62 ∧ demote < promote
    (fine → exec (.tierPolicyWrite who v) s = .next (s.regWrite rTIER_POLICY v)) ∧
    (¬fine → exec (.tierPolicyWrite who v) s = .next (s.orReg rTIER_STATUS (2 ^ 8)))

/-- TPREF gives its descriptor to the agent of its die, waits while that holds 64, and ends the task with ILLEGAL for a reserved OP. COOL, PIN, UNPIN
and PREFETCH act on every name of the list of the oldest descriptor of their kind, which ends at once unless it awaits some of the names: a PIN those
that are moving, a PREFETCH those held in peat. It ends once it awaits none. A list that cannot be read or fails its checks ends a descriptor with
nothing done. -/
def Sys2Proof.Claims.PrefetchDescriptors : Prop :=
  (∀ (c : CoreId) (t : TaskSlot) (f : InsnBits) (s v w : State) (b0 b : Bytes), Issues s c t 0x5A f → (s.task c t).wait = none →
    let addr := (s.task c t).areg (fA f) + BitVec.ofInt 64 (BitVec.ofNat 32 (fImm f)).toInt
    let die := c.val / 128
    let op := leAt b0 0 1
    (s.atIssue c t 0x5A f).block c t addr 64 = .ok v b0 →
    (5 ≤ op → exec (.tpref c t f) s = .next (v.endTask c t 0x02 (insnWord 0x5A f))) ∧
    (op < 5 → v.block c t addr (if op = 4 then 128 else 64) = .ok w b →
      ((w.agent die).descs.length < 64 → exec (.tpref c t f) s = .next (advance (w.setAgent die { w.agent die with
        descs := (w.agent die).descs ++ [⟨c, t, (s.task c t).pc, b, [], false, 0, [], [], [], [], 0, 0, 0, [], false, []⟩] }) c t)) ∧
      (64 ≤ (w.agent die).descs.length → (w.task c t).wait = none → exec (.tpref c t f) s = .next (waitsOn w c t 0x5A f 0 0 0 false)))) ∧
  (∀ (d : DieId) (k : Nat) (x : TierDesc) (errs : LineErrs) (s : State), bitOf (s.reg rTIER_STATUS) 9 = true →
    let g := s.descReady x []
    let r := g.2.readList x errs
    let names := r.2.1.filterMap (fun e => r.2.2.entryName e)
    let bad := r.2.2.badEntries r.2.1
    let u := if bad = 0 then r.2.2 else r.2.2.orReg rTIER_STATUS (2 ^ 3)
    let runs (i : Instr) (op : Nat) (awaits : State → Nat → Bool) (act : State → Nat → State) : Prop := s.oldestDesc d op = some (k, x) →
      let wait := (names.filter (awaits u)).eraseDups
      let v := names.foldl (fun s n => s.actOn act n) u
      let y : TierDesc := { x with opened := true, marked := wait, badEntries := bad }
      (g.1 = false → exec i s = .next g.2) ∧
      (g.1 = true → r.1 ≠ 0 → exec i s = .next (r.2.2.endDesc d k { x with result := r.1 })) ∧
      (g.1 = true → r.1 = 0 → wait = [] → exec i s = .next (v.endDesc d k y)) ∧
      (g.1 = true → r.1 = 0 → wait ≠ [] → exec i s = .next (v.setDesc d k (some y)))
    runs (.cool ⟨d, errs⟩) 1 (fun _ _ => false) State.coolName ∧
    runs (.unpin ⟨d, errs⟩) 3 (fun _ _ => false) State.unpinName ∧
    (s.readyDesc d 2 State.moving = none → runs (.pin ⟨d, errs⟩) 2 State.moving State.pinName) ∧
    (s.readyDesc d 0 State.promoting = none → runs (.prefetch ⟨d, errs⟩) 0 (fun s n => !s.inHearth n && !s.mapUnusable n) State.prefetchName) ∧
    (∀ y ys, (s.agent d).descs = y :: ys → y.opened = true →
      (y.op = 2 → (∀ n ∈ y.marked, s.moving n = false) → exec (.pin ⟨d, errs⟩) s = .next (s.endDesc d 0 y)) ∧
      (y.op = 0 → (∀ n ∈ y.marked, s.promoting n = false) →
        exec (.prefetch ⟨d, errs⟩) s = .next (s.endDesc d 0 { y with dropped := y.marked.length }))))

/-- What COOL, PIN and UNPIN do to a name that is not moving: its heat becomes 0, its PIN 1, its PIN 0 where the engine did not set it; nothing else
of its entry changes. -/
def Sys2Proof.Claims.NamesAreCooledAndPinned : Prop :=
  ∀ (i : Nat) (s : State), s.moving i = false →
    (s.coolName i).heat i = 0 ∧ (s.coolName i).pinned i = s.pinned i ∧ (s.pinName i).pinned i = true ∧ (s.pinName i).heat i = s.heat i ∧
    (i ∉ s.tier.enginePins → (s.unpinName i).pinned i = false) ∧ (i ∈ s.tier.enginePins → s.unpinName i = s) ∧
    (∀ j, j ≠ i → (s.coolName i).mapEntry j = s.mapEntry j ∧ (s.pinName i).mapEntry j = s.mapEntry j ∧ (s.unpinName i).mapEntry j = s.mapEntry j)

/-- SCAN opens the oldest scan of an agent: it marks the entries that peat scan units are to read, and writes the RESOLVED record; SCAN_BLOCK computes
the records of one such entry, and passes over one whose block is RETRACTED or LAPSED; SCAN_DONE writes the DONE record once every one has been
scanned or passed over and no write to another module is owed. -/
def Sys2Proof.Claims.ScansRun : Prop :=
  ∀ (d : DieId) (k : Nat) (x : TierDesc) (errs : LineErrs) (s : State), bitOf (s.reg rTIER_STATUS) 9 = true →
    let h := s.descReady x []
    let r := h.2.readList x errs
    let stop (s : State) (code : Nat) : State := (s.endDesc d k { x with result := code }).count rTIER_CNT2 63 32 1
    (s.oldestDesc d 4 = some (k, x) →
      (h.1 = false → exec (.scan ⟨d, errs⟩) s = .next h.2) ∧
      (h.1 = true → r.1 ≠ 0 → exec (.scan ⟨d, errs⟩) s = .next (stop r.2.2 r.1)) ∧
      (h.1 = true → r.1 = 0 → x.scanOk r.2.1 = false → exec (.scan ⟨d, errs⟩) s = .next (stop (r.2.2.orReg rTIER_STATUS (2 ^ 2)) 2)) ∧
      (h.1 = true → r.1 = 0 → x.scanOk r.2.1 = true → (∀ e ∈ r.2.1, ∀ n, r.2.2.entryName e = some n → r.2.2.moving n = false) →
        let q := (r.2.2.noteErrs (leAt x.desc 32 8) x.queryBytes errs).agentRead (leAt x.desc 32 8) x.queryBytes
        (q.1 = none → exec (.scan ⟨d, errs⟩) s = .next (stop q.2 3)) ∧
        (∀ b, q.1 = some b → q.2.badEntries r.2.1 = 0 →
          let v := (r.2.1.filterMap (fun e => q.2.entryName e)).foldl (fun s n => s.lookup n) q.2
          let marked := (List.range x.count).filter (fun i => v.assigned (r.2.1.getD i (0, 0, 0)))
          let y := { x with entries := r.2.1, opened := true, marked := marked, queries := b, badEntries := 0 }
          exec (.scan ⟨d, errs⟩) s = .next ((v.putStatus d y 1 marked).setDesc d k (some y))))) ∧
    (∀ (i : Fin 64) (b : Fin 4096), (s.agent d).descs[i.val]? = some x → x.op = 4 → x.opened = true → b.val ∈ x.marked → b.val ∉ x.done →
      b.val ∉ x.skipped →
      let e := x.entries.getD b.val (0, 0, 0)
      let ch := (s.peatPlace (s.phys e.1)).1
      let word := fun j => (s.sealUnit (512 + s.ringDie e.1)).blockState j
      ((∃ j ∈ blocksOf e.1 65536, 2 ≤ word j) → ∀ n, exec (.scanBlock d i b n errs) s =
        .next (s.setDesc d i (some { x with skipped := x.skipped ++ [b.val] }.partly))) ∧
      ((∀ j ∈ blocksOf e.1 65536, word j = 1) → s.repairHeld e.1 65536 = false → ch ∉ s.tier.scanOut →
        let g := s.descReady x [(e.1, 65536, false)]
        let u := ((g.2.noteErrs e.1 65536 errs).count (chanKey ch rPEAT_Cc_SCANCNT) 63 32 1).dieEvent (ch / 3) 0x08 (ch % 3) 1
        (g.1 = false → ∀ n, exec (.scanBlock d i b n errs) s = .next g.2) ∧
        (g.1 = true →
          (∀ blk, (u.ringRead e.1 65536).1 = some blk →
            let rows := (u.ringRead e.1 65536).2.scanRows x blk e.2.1 e.2.2 x.rows
            let put := rows.2.putRecords d x ch b.val rows.1
            exec (.scanBlock d i b 0 errs) s = .next (put.2.setDesc d i (some put.1))) ∧
          ((u.ringRead e.1 65536).1 = none →
            let put := (u.ringRead e.1 65536).2.putRecords d { x with ueBlocks := x.ueBlocks + 1 }.partly ch b.val x.nanRecords
            exec (.scanBlock d i b 0 errs) s = .next (put.2.setDesc d i (some put.1)))))) ∧
    (∀ ys, (s.agent d).descs = x :: ys → x.op = 4 → x.opened = true → (x.closing = true → x.owed = []) →
      (∀ b ∈ x.marked, b ∈ x.done ∨ b ∈ x.skipped) →
      let q := if x.closing then (x, h.2) else h.2.closeScan d x
      (h.1 = false → exec (.scanDone d) s = .next h.2) ∧
      (h.1 = true → q.1.owed = [] → exec (.scanDone d) s = .next ((q.2.endDesc d 0 q.1).count rTIER_CNT2 63 32 1)) ∧
      (h.1 = true → q.1.owed ≠ [] → exec (.scanDone d) s = .next (q.2.setDesc d 0 (some q.1))))

/-- HBM_TEMP_REPORT counts what a stack's error check and scrub found, shows its temperature and doubles refresh above 85 degrees; HOT is set at its
limit and clears 3 degrees below it. PATROL_SCRUB_PASS counts corrections and shows the pass complete; PPR_COMPLETE ends a repair that GO started;
PEAT_CHANNEL_FAILURE marks a channel of the interleave failed, once. -/
def Sys2Proof.Claims.StacksAndChannelsReport : Prop :=
  ∀ s : State,
    (∀ (k : StackId) (t : BitVec 8) (rows errors : BitVec 32),
      let key := stackKey k rHTH_Ss_STATE
      let e := (s.count (stackKey k rHTH_Ss_ECS) 63 32 rows.toNat).count (stackKey k rHTH_Ss_ECS) 31 0 errors.toNat
      let u := e.setReg key (setBit (setField (e.reg key) 31 24 t.toNat) 3 (decide (85 < t.toNat)))
      let lim := tget (fun _ => 0) s.tier.hot k
      (lim = 0 ∨ lim < t.toNat + 4 → exec (.hbmTempReport k t ⟨false, rows, errors⟩) s = .next u) ∧
      (lim ≠ 0 → t.toNat + 4 ≤ lim → exec (.hbmTempReport k t ⟨false, rows, errors⟩) s =
        .next ({ u with tier := { u.tier with hot := tset (fun _ => 0) u.tier.hot k 0 } }.setReg key (setBit (u.reg key) 2 false))) ∧
      exec (.hbmTempReport k t ⟨true, rows, errors⟩) s = .next ((({ u with tier := { u.tier with hot := tset (fun _ => 0) u.tier.hot k (t.toNat + 1) } }.setReg key
        (setBit (u.reg key) 2 true)).orReg (dieKey (k.val / 3) rHTH_STATUS) (2 ^ (4 * (k.val % 3) + 2))).orReg (dieKey (k.val / 3) rPWR_STATUS) (2 ^ 5))) ∧
    (∀ (ch : ChanId) (n : BitVec 32), n ≠ 0 → s.regField (chanKey ch rPEAT_Cc_SCRUB) 15 0 ≠ 0 → ch.val ∈ s.pool.chans →
      (∀ g ∈ s.badLines, s.onChannel ch g = false) →
      exec (.patrolScrubPass ch n [] none) s = .next ((((s.count (chanKey ch rPEAT_Cc_ECC) 31 0 n.toNat).orReg (dieKey (ch.val / 3) rPEAT_STATUS)
        (2 ^ (8 * (ch.val % 3)))).setRegField (chanKey ch rPEAT_Cc_SCRUB) 41 32 0).orReg (dieKey (ch.val / 3) rPEAT_STATUS) (2 ^ (8 * (ch.val % 3) + 5)))) ∧
    (∀ (ch : ChanId) (ok : Bool),
      let key := chanKey ch rPEAT_Cc_PPR
      (bitOf (s.reg key) 62 = true → exec (.pprComplete ch ok) s = .next (s.setReg key (setBit (setBit (setBit (s.reg key) 62 false) 61 true) 60 (!ok)))) ∧
      (bitOf (s.reg key) 62 = false → exec (.pprComplete ch ok) s = .next s)) ∧
    (∀ ch : ChanId,
      (ch.val ∈ s.pool.chans → ch.val ∉ s.tier.failed → exec (.peatChannelFailure ch) s =
        .next { s with tier := { s.tier with failed := s.tier.failed ++ [ch.val] } }) ∧
      (ch.val ∉ s.pool.chans ∨ ch.val ∈ s.tier.failed → exec (.peatChannelFailure ch) s = .next s))

/-! ## The mesh -/

/-- FLIT_ARRIVE takes the next flit on its way to an input port whose channel has room, with the bits that the link inverted. At a powered router a good
flit is buffered at its channel and moved on as far as credits allow; a bad head is counted and discarded with what follows it up to its tail; a bad
flit of another kind goes on with KILL set and no data. A flit that is discarded gives its credit back, and its packet does not arrive; a router
without power loses the flit. ESCAPE_FALLBACK lets the heads of a port take the escape channel of their class. -/
def Sys2Proof.Claims.FlitsArrive : Prop :=
  ∀ (p : PhysId) (port : RPort) (err : BitVec 2085) (s : State),
    (s.nextFlit p (portNo port) = none → exec (.flitArrive p port err) s = .next s) ∧
    (∀ w, s.nextFlit p (portNo port) = some w →
      let f := damagedFlit w.flit err
      let key := portNo port * 4 + w.flit.vc.toNat
      let off : State := { s with flits := s.flits.erase w }
      let r := s.router p
      let counted := (off.count (off.slotPage p (rMESH_CNTp + 8 * portNo port)) 31 0 1).orReg (off.slotPage p rMESH_STATUS) 1
      let drops (u : State) (on : Bool) : State := u.modRouter p (fun r => { r with drop := tset (fun _ => false) r.drop key on })
      let kills (u : State) (on : Bool) : State := u.modRouter p (fun r => { r with kill := tset (fun _ => false) r.kill key on })
      ((s.slot p).routerOn = false → exec (.flitArrive p port err) s = .next (((off.lose w.flit).returnCredit p key).escSettle)) ∧
      ((s.slot p).routerOn = true → tget (fun _ => false) r.drop key = false →
        (flitOk f = true → isHead f = true ∨ (f.kill = false ∧ tget (fun _ => false) r.kill key = false) →
          exec (.flitArrive p port err) s = .next ((kills off false).acceptFlit p key { f with vc := w.flit.vc })) ∧
        (flitOk f = true → isHead f = false → f.kill = true ∨ tget (fun _ => false) r.kill key = true →
          exec (.flitArrive p port err) s = .next ((kills off (!isTail f)).acceptFlit p key { resealFlit { f with kill := true } with vc := w.flit.vc })) ∧
        (flitOk f = false → isHead f = true → exec (.flitArrive p port err) s = .next ((drops counted true).discardFlit p key w.flit)) ∧
        (flitOk f = false → isHead f = false → exec (.flitArrive p port err) s =
          .next ((kills counted (!isTail f)).acceptFlit p key { resealFlit { f with kill := true, data := 0 } with vc := w.flit.vc }))) ∧
      ((s.slot p).routerOn = true → tget (fun _ => false) r.drop key = true → flitOk f = true →
        exec (.flitArrive p port err) s = .next ((if f.kind = 2 then drops off false else off).discardFlit p key w.flit))) ∧
    ((s.slot p).routerOn = true →
      exec (.escapeFallback p port) s = .next (((s.moveAll p (portNo port * 4) true 6).moveAll p (portNo port * 4 + 2) true 6).pump p)) ∧
    ((s.slot p).routerOn = false → exec (.escapeFallback p port) s = .next s)

/-- A flit passes its check exactly where its CRC is that of its data and of its sideband; one bit inverted in a link, of data, KIND, VC, KILL or the
CRC itself, makes a good flit fail it. -/
def Sys2Proof.Claims.FlitChecksFindSingleErrors : Prop :=
  ∀ (f : Flit) (i : Nat), flitOk f = true → i < 2085 → flitOk (damagedFlit f (BitVec.ofNat 2085 (2 ^ i))) = false

/-- ESCDATA_WRITE puts the escape code of the router and destination that MESH_ESCIDX names into the tables last written, which take effect as R259
says, for a router below 144, a destination below 576 and a code below 6; MARK_DOWN_WRITE marks a port DOWN or up, a port newly DOWN setting PORT_DOWN; SEAM_RPR_WRITE with WRITE set stores a target below
3,072, or 0xFFF, in a repair wire. -/
def Sys2Proof.Claims.MeshRegisterWrites : Prop :=
  ∀ (who : Initiator) (v : Word) (s : State),
    (∀ d : DieId, Takes s who (dieKey d rMESH_ESCDATA) (classOf (dieKey d rMESH_ESCDATA)) →
      let r := (s.reg (dieKey d rMESH_ESCIDX)).toNat % 2 ^ 8
      let q := (s.reg (dieKey d rMESH_ESCIDX)).toNat / 2 ^ 16 % 2 ^ 10
      let code := v.toNat % 8
      (r < 144 → q < 576 → code < 6 → exec (.escdataWrite who d v) s =
        .next (s.putEsc (tset escDefault s.escWritten ((d.val * 144 + r) * 1024 + q) code))) ∧
      (144 ≤ r ∨ 576 ≤ q ∨ 6 ≤ code → exec (.escdataWrite who d v) s = .next s)) ∧
    (∀ (c : CoreId) (port : RPort) (p : Nat), s.slotOf c = some p →
      let at_ := coreKey c (rMESH_PORTp + 8 * portNo port)
      let key := s.slotPage p (rMESH_PORTp + 8 * portNo port)
      let u := s.setReg key (setBit (s.reg key) 62 (bitOf v 62))
      Takes s who at_ (classOf at_) →
      (bitOf v 62 = true → bitOf (s.reg key) 62 = false → exec (.markDownWrite who c port v) s = .next (u.orReg (u.slotPage p rMESH_STATUS) 8)) ∧
      (bitOf v 62 = false ∨ bitOf (s.reg key) 62 = true → exec (.markDownWrite who c port v) s = .next u)) ∧
    (∀ (d : DieId) (j : Fin 2),
      let key := dieKey d (rMESH_SEAMj_RPR + 64 * j.val)
      let wire := v.toNat % 2 ^ 7
      let target := v.toNat / 2 ^ 8 % 2 ^ 12
      let u := s.setReg key (BitVec.ofNat 64 (target * 256 + wire))
      Takes s who key (classOf key) →
      (bitOf v 31 = true → target < 3072 ∨ target = 0xFFF → exec (.seamRprWrite who d j v) s = .next (u.setSeamWire d j wire target)) ∧
      (bitOf v 31 = false ∨ (3072 ≤ target ∧ target ≠ 0xFFF) → exec (.seamRprWrite who d j v) s = .next u))

/-! ## Span ports -/

/-- RTL_CFG_WRITE: setting ENABLE starts training, clearing it disables the port, and a change of mode, medium or width while it stays set is
discarded with CFG_REJECT. PORT_TRAINING_COMPLETE brings a training port UP at the widest width its lanes allow, or DOWN with none;
PORT_UCW_CHECK takes a port DOWN whose uncorrectable codewords pass its limit. -/
def Sys2Proof.Claims.PortsChangeState : Prop :=
  ∀ (p : PortId) (s : State),
    let cfg := portKey p rRTL_Pp_CFG
    let old := s.reg cfg
    (∀ (who : Initiator) (v : Word), Takes s who cfg (classOf cfg) →
      let same := field old 7 4 = field v 7 4 ∧ field old 1 1 = field v 1 1
      let u := s.regWrite cfg v
      (bitOf old 0 = true → bitOf v 0 = true → ¬same → exec (.rtlCfgWrite who p v) s = .next (s.rtlStat p 5)) ∧
      (bitOf old 0 = true → bitOf v 0 = true → same → exec (.rtlCfgWrite who p v) s = .next u) ∧
      (bitOf old 0 = true → bitOf v 0 = false → exec (.rtlCfgWrite who p v) s = .next (u.portOff p 0)) ∧
      (bitOf old 0 = false → bitOf v 0 = true → exec (.rtlCfgWrite who p v) s = .next (u.portOff p 1)) ∧
      (bitOf old 0 = false → bitOf v 0 = false → exec (.rtlCfgWrite who p v) s = .next u)) ∧
    (∀ lanes : BitVec 4, s.portState p = 1 → exec (.portTrainingComplete p lanes) s = .next (s.clearTx.trained p lanes.toNat)) ∧
    (∀ lanes : BitVec 4, s.portState p ≠ 1 → exec (.portTrainingComplete p lanes) s = .next s) ∧
    widthOf 0 15 = some (0, 15) ∧ (∀ lanes < 16, lanes % 4 = 3 → lanes ≠ 15 → widthOf 0 lanes = some (1, 3)) ∧
    (∀ lanes < 16, (widthOf 0 lanes = none ↔ lanes = 0)) ∧
    (∀ corrected ucw : BitVec 32,
      let u := (s.count (portKey p rRTL_Pp_FEC) 31 0 corrected.toNat).count (portKey p rRTL_Pp_FEC) 63 32 ucw.toNat
      let limit := (s.reg cfg).toNat / 2 ^ 48
      (s.portUp p = true → limit ≠ 0 → limit < ucw.toNat → exec (.portUcwCheck p corrected ucw) s = .next (u.portDown_ p)) ∧
      (s.portUp p = true → limit = 0 ∨ ucw.toNat ≤ limit → exec (.portUcwCheck p corrected ucw) s = .next u) ∧
      (s.portUp p = false → exec (.portUcwCheck p corrected ucw) s = .next s))

/-- The link and time frames of an UP direct port: what arrives is counted and heeded, what is sent carries this end's own counts and times; a port in
another state or mode leaves them. FRAME_VANISHED restores the credits of the oldest frame that the far end has not counted 4 µs after it left;
TRANSIT_TIMEOUT discards the first frame of a channel that has waited beyond TRANSIT_US. -/
def Sys2Proof.Claims.LinksExchangeFrames : Prop :=
  ∀ (p : PortId) (s : State),
    let x := s.sport p
    (s.directUp p = true →
      (∀ dev a b c d, exec (.linkFrame p dev a b c d) s = .next ((s.clearTx.countFrame p false).linkFrame p dev a b c d)) ∧
      (∀ a b c, exec (.timeFrame p a b c) s = .next ((s.countFrame p false).timeFrame p a b c)) ∧
      (let u := s.clearTx.freeLost
       let y := u.sport p
       exec (.linkFrameSend p) s = .next ((u.setPort p { y with req := { y.req with told := y.req.freed }, rsp := { y.rsp with told := y.rsp.freed } }).emitFrame p
         (.octets (directOctets 1 false 0 (linkBody u.devNum y.req.rcvd y.req.freed y.rsp.rcvd y.rsp.freed))))) ∧
      (bitOf (s.reg (portKey p rRTL_Pp_CFG)) 8 = true → exec (.timeFrameSend p) s =
        .next ((s.clearTx.setReg (portKey p rRTL_Pp_TSTX) s.clearTx.stamp).emitFrame p
          (.octets (directOctets 2 false 0 (timeBody s.clearTx.stamp (s.clearTx.sport p).peerTx (s.clearTx.sport p).peerRx)))))) ∧
    (s.directUp p = false → (∀ dev a b c d, exec (.linkFrame p dev a b c d) s = .next s) ∧ (∀ a b c, exec (.timeFrame p a b c) s = .next s) ∧
      exec (.linkFrameSend p) s = .next s ∧ exec (.timeFrameSend p) s = .next s) ∧
    (∀ rsp, (x.vc rsp).flying = [] → exec (.frameVanished p rsp) s = .next s) ∧
    (∀ rsp f fs, (x.vc rsp).flying = f :: fs →
      let v := { x.vc rsp with flying := fs, sent := (x.vc rsp).sent - BitVec.ofNat 32 f.units }
      (s.ns ≤ f.at_ + 4000 → exec (.frameVanished p rsp) s = .next s) ∧
      (f.at_ + 4000 < s.ns →
        exec (.frameVanished p rsp) s = .next (((s.clearTx.setPort p { x.setVc rsp v with tx := [] }).count (portKey p rRTL_Pp_DROP) 63 48 1).pumpPort p))) ∧
    (∀ rsp,
      let late (f : OutFrame) : Prop := f.since + 1000 * s.regField rSPAN_CTRL2 63 32 < s.ns
      (∀ f fs qs, (x.vc rsp).queue = fs ++ f :: qs → (∀ g ∈ fs, ¬late g) → late f →
        exec (.transitTimeout p rsp) s =
          .next ((s.clearTx.setPort p { x.setVc rsp { x.vc rsp with queue := fs ++ qs } with tx := [] }).transitDrop.pumpPort p)) ∧
      ((∀ g ∈ (x.vc rsp).queue, ¬late g) → exec (.transitTimeout p rsp) s = .next s))

/-- A frame of DIRECT mode that a port sends passes the check of a port that receives it, with its kind, channel, TTL and body as they were sent. -/
def Sys2Proof.Claims.DirectFramesReadBack : Prop :=
  ∀ (kind : Nat) (vc : Bool) (ttl : Nat) (body : Bytes), kind < 16 → ttl < 256 →
    let o := directOctets kind vc ttl body
    crcHolds o = true ∧ leAt o 0 1 % 16 = kind ∧ (leAt o 0 1).testBit 4 = vc ∧ leAt o 1 1 = ttl ∧ (o.take (o.length - 4)).drop 7 = body

/-- DIRECT_FRAME_RECEIVE and ETHERNET_FRAME_RECEIVE at a port that is UP in their mode: a span packet for this module is buffered, one for another
module is forwarded in DIRECT mode and discarded in ETHERNET mode; a LINK or TIME frame is heeded; a frame that fails its check is discarded and
counted, its credits free at once. -/
def Sys2Proof.Claims.FramesAreReceived : Prop :=
  ∀ (p : PortId) (o : Bytes) (s : State),
    let u := s.clearTx.countFrame p false
    (s.directUp p = true →
      let kind := leAt o 0 1 % 16
      let vc := (leAt o 0 1).testBit 4
      let n := frameUnits o.length
      let b := (o.take (o.length - 4)).drop 7
      let whole := 11 ≤ o.length ∧ crcHolds o = true
      let v := u.seen p b
      (¬whole → exec (.directFrameReceive p o ()) s = .next (u.badFrame p kind vc n)) ∧
      (whole → kind = 0 → dataBodyOk b = true →
        ((spanOf b).dstDev = v.devNum → exec (.directFrameReceive p o ()) s = .next (v.takeIn p vc n b)) ∧
        ((spanOf b).dstDev ≠ v.devNum → exec (.directFrameReceive p o ()) s = .next ((v.discardFrame p vc n).forward b (leAt o 1 1)))) ∧
      (whole → kind = 1 → b.length = 32 → exec (.directFrameReceive p o ()) s = .next (u.linkFrame p (BitVec.ofNat 16 (leAt b 0 2))
        (BitVec.ofNat 32 (leAt b 4 4)) (BitVec.ofNat 32 (leAt b 8 4)) (BitVec.ofNat 32 (leAt b 12 4)) (BitVec.ofNat 32 (leAt b 16 4)))) ∧
      (whole → kind = 2 → b.length = 32 → exec (.directFrameReceive p o ()) s =
        .next (u.timeFrame p (BitVec.ofNat 64 (leAt b 0 8)) (BitVec.ofNat 64 (leAt b 8 8)) (BitVec.ofNat 64 (leAt b 16 8)))) ∧
      (whole → 3 ≤ kind → exec (.directFrameReceive p o ()) s = .next (u.badFrame p kind vc n))) ∧
    (s.directUp p = false → exec (.directFrameReceive p o ()) s = .next s) ∧
    (s.portUp p = true → s.ethMode p = true →
      let t := (etherParts o).1
      let b := spanInData o (etherParts o).2
      let rsp := isSpanResponse (spanOf b).type
      let n := frameUnits o.length
      (crcHolds o = false → exec (.ethernetFrameReceive p (.frame o) ()) s = .next (u.crcDrop p)) ∧
      (crcHolds o = true → t = 0x88F7 → exec (.ethernetFrameReceive p (.frame o) ()) s = .next (u.setReg (portKey p rRTL_Pp_TSRX) u.stamp)) ∧
      (crcHolds o = true → t ≠ 0x88F7 → t ≠ u.regField rSPAN_ETH 47 32 →
        exec (.ethernetFrameReceive p (.frame o) ()) s = .next (u.count (portKey p rRTL_Pp_DROP) 31 16 1)) ∧
      (crcHolds o = true → t ≠ 0x88F7 → t = u.regField rSPAN_ETH 47 32 →
        ((spanOf b).dstDev ≠ u.devNum → exec (.ethernetFrameReceive p (.frame o) ()) s = .next ((u.count (portKey p rRTL_Pp_DROP) 47 32 1).rtlStat p 4)) ∧
        ((spanOf b).dstDev = u.devNum → 131072 < (u.sport p).rxBytes rsp + 64 * n →
          exec (.ethernetFrameReceive p (.frame o) ()) s = .next (u.crcDrop p)) ∧
        ((spanOf b).dstDev = u.devNum → (u.sport p).rxBytes rsp + 64 * n ≤ 131072 →
          exec (.ethernetFrameReceive p (.frame o) ()) s = .next (((u.seen p b).takeIn p rsp n b).holdOff p rsp))) ∧
      (let stopped : State := u.modPort p (fun x => { x with paused := BitVec.allOnes 8 })
       let running : State := u.modPort p (fun x => { x with paused := 0 })
       exec (.ethernetFrameReceive p (.pause true) ()) s = .next (stopped.rtlStat p 3) ∧
       exec (.ethernetFrameReceive p (.pause false) ()) s = .next (running.pumpPort p))) ∧
    (s.portUp p = false ∨ s.ethMode p = false → ∀ body, exec (.ethernetFrameReceive p body ()) s = .next s)

/-! ## The span engines -/

/-- SPAN_REQUEST splits a request that has landed at a span engine, for a device that can be reached, into packets with consecutive SEQ, opens its operation and launches them; a
request to a device that is ABSENT or LEAVING, or with no port UP, is answered REFUSED. An endpoint's response to a released request goes back to its
sender. -/
def Sys2Proof.Claims.SpanRequestsLeave : Prop :=
  ∀ (p : Packet) (d : DieId) (win : BitVec 12) (wgen : BitVec 16) (s : State), p.dst = .ring d → s.here p = true →
    let u := s.clearTx
    let dev : BitVec 16 := BitVec.ofNat 16 (field p.addr 63 48)
    let prompt := decide (p.type = .message)
    let pieces := splitRequest u.devNum dev p u.span.nextTag win wgen
    let room := u.span.ops.countP (fun o => decide (o.die = dev.toNat % 4)) < 4096
    (isRequest p.type = true → u.isRemote p.region p.addr = true → p.type ≠ .migrate → p.type ≠ .span → room → dev ≠ u.devNum →
      (u.routeState dev = 0 ∨ u.routeState dev = 3 → exec (.spanRequest p win wgen) s = .next (((u.take p).spanStat 0).respond p .refused [])) ∧
      (u.routeState dev ≠ 0 → u.routeState dev ≠ 3 →
        (u.portsFor dev prompt = [] → exec (.spanRequest p win wgen) s = .next ((u.take p).spanNoPort.respond p .refused [])) ∧
        (∀ ps v, u.portsFor dev prompt ≠ [] → u.mayProtect dev (splitRequest u.devNum dev p 0 win wgen).length = true →
          u.numbered dev prompt pieces = some (ps, v) →
          let w := v.take p
          let op : SpanOp := ⟨dev.toNat % 4, u.span.nextTag, p, dev, awaited p, 0, [], .ok, [], v.ns⟩
          let opened : State := { w with span := { w.span with nextTag := u.span.nextTag + 1, ops := w.span.ops ++ [op] } }
          exec (.spanRequest p win wgen) s = .next (opened.launch ps)))) ∧
    (∀ i, isRequest p.type = false → u.span.ins.find? (fun i => decide (i.tag = p.tag)) = some i →
      let w := u.take p
      let freed : State := { w with span := { w.span with ins := w.span.ins.filter (fun x => decide (x.tag ≠ p.tag)) } }
      exec (.spanRequest p win wgen) s = .next (freed.answerRequest
        i.req p.status (match p.msg with
          | some h => msgBytes h ++ p.data
          | none => p.data)))

/-- Numbered packets keep their order and take consecutive SEQ of one SESSION, and the context's NEXT passes them. -/
def Sys2Proof.Claims.PacketsAreNumbered : Prop :=
  ∀ (dev : BitVec 16) (prompt : Bool) (ps qs : List SpanPkt) (c : SendCtx) (s v : State), s.sendCtx dev prompt = some c →
    s.numbered dev prompt ps = some (qs, v) →
    qs.length = ps.length ∧ (∀ i (h : i < qs.length), qs[i].session = c.session ∧ qs[i].seq = c.next + BitVec.ofNat 32 i) ∧
    (v.sendCtx dev prompt).map (fun x => x.next) = some (c.next + BitVec.ofNat 32 ps.length)

/-- SPAN_PACKET_ARRIVE: bytes that no port holds for their home die, and that the mesh has not brought there, change nothing, nor does a packet for another
module; of one that is taken, a packet that is badly made is counted, one that fails its authentication is counted and recorded, and any other goes
to its reorder context. -/
def Sys2Proof.Claims.SpanPacketsArrive : Prop :=
  ∀ (b : Bytes) (s : State),
    let pkt := spanOf b
    (pkt.dstDev ≠ s.devNum → exec (.spanPacketArrive b) s = .next s) ∧
    (pkt.dstDev = s.devNum → s.clearTx.freeLost.takeFrame b = none → exec (.spanPacketArrive b) s = .next s) ∧
    (∀ u, pkt.dstDev = s.devNum → s.clearTx.freeLost.takeFrame b = some u →
      (spanWellMade pkt = false → exec (.spanPacketArrive b) s = .next ((u.count rSPAN_CNT4 63 48 1).spanStat 12)) ∧
      (spanWellMade pkt = true → u.authenticate pkt = none →
        exec (.spanPacketArrive b) s = .next (((u.count rSPAN_CNT3 63 32 1).spanStat 7).record ⟨0, 14, 7, 8, pkt.srcDev.toNat, 0, 0, 0, 0⟩)) ∧
      (∀ q newer v, spanWellMade pkt = true → u.authenticate pkt = some (q, newer, v) →
        exec (.spanPacketArrive b) s = .next (v.reorder q newer false)))

/-- The bytes of a span packet spell it: header, body and, where it is protected, phase, counter and tag. -/
def Sys2Proof.Claims.SpanPacketsReadBack : Prop :=
  ∀ p : SpanPkt, p.resv = false → p.len < 2 ^ 16 → spanOf (spanWire p) = p

/-- A packet in its turn is released and EXPECT passes it; one that comes early is held; one that EXPECT has passed is LATE. -/
def Sys2Proof.Claims.PacketsKeepTheirOrder : Prop :=
  ∀ (p : SpanPkt) (c : RecvCtx) (s : State),
    let d := (p.seq - c.expect).toNat
    let at_ (s : State) (f : RecvCtx → RecvCtx) : State := s.modRecv p.srcDev p.prompt f
    let u := at_ s (fun c => { c with since := s.ns })
    let twin := ∃ q ∈ c.held, q.seq = p.seq
    let room := c.held.length < u.regField rSPAN_CTRL 15 0 ∧
      ((u.span.recvs.filter (fun x => decide (x.dev.toNat % 4 = p.srcDev.toNat % 4))).map (fun x => x.held.length)).sum < 4096
    (d = 0 → s.placeInOrder p c =
      ((at_ u (fun c => { c with expect := c.expect + 1, moved := u.ns })).spanRelease p).releaseHeld p.srcDev p.prompt c.held.length) ∧
    (1 ≤ d → d < 4096 → ¬twin → room → s.placeInOrder p c =
      at_ u (fun x => { x with held := x.held ++ [p], moved := if x.held.isEmpty then u.ns else x.moved })) ∧
    (1 ≤ d → d < 4096 → ¬twin → ¬room → s.placeInOrder p c = u.spanNoSlot) ∧
    (1 ≤ d → d < 4096 → twin → s.placeInOrder p c = u.spanLate) ∧
    (4096 ≤ d → d < 2 ^ 31 → s.placeInOrder p c = u.spanNoSlot) ∧ (2 ^ 31 ≤ d → s.placeInOrder p c = u.spanLate)

/-- REORDER_GAP_EXPIRE moves EXPECT to the oldest packet held once it has stood still for GAP_US, and counts those passed as lost; a send context
that has sent nothing for 2 ms goes, and a reorder context that holds nothing and has received nothing for 1 ms; SPAN_FENCE_RELEASE delivers the
oldest FENCE packet once the requests before it are answered. -/
def Sys2Proof.Claims.ContextsGoAndReleaseFences : Prop :=
  ∀ (dev : BitVec 16) (prompt : Bool) (s : State),
    (∀ c, s.recvCtx dev prompt = some c →
      (c.held = [] → exec (.reorderGapExpire dev prompt) s = .next s) ∧
      (∀ p, c.held = [p] →
        let k := (p.seq - c.expect).toNat
        (s.ns < c.moved + 1000 * s.regField rSPAN_CTRL 31 16 → exec (.reorderGapExpire dev prompt) s = .next s) ∧
        (c.moved + 1000 * s.regField rSPAN_CTRL 31 16 ≤ s.ns → exec (.reorderGapExpire dev prompt) s =
          .next (((s.clearTx.spanLost (dev.toNat % 4) k).modRecv dev prompt (fun x =>
            { x with expect := x.expect + BitVec.ofNat 32 k, moved := (s.clearTx.spanLost (dev.toNat % 4) k).ns })).releaseHeld dev prompt 1))) ∧
      (c.held = [] → c.fences = [] → c.since + 1000000 ≤ s.ns →
        exec (.reorderContextEvict dev prompt) s = .next { s with span := { s.span with recvs := s.span.recvs.erase c } }) ∧
      (c.held ≠ [] ∨ c.fences ≠ [] ∨ s.ns < c.since + 1000000 → exec (.reorderContextEvict dev prompt) s = .next s) ∧
      (∀ f fs, c.fences = f :: fs →
        let waits := ∃ t ∈ f.waits, ∃ i ∈ s.span.ins, i.tag = t
        (¬waits → exec (.spanFenceRelease dev prompt) s = .next ((s.modRecv dev prompt (fun c => { c with fences := fs })).inject f.pkt)) ∧
        (waits → exec (.spanFenceRelease dev prompt) s = .next s))) ∧
    (∀ c, s.sendCtx dev prompt = some c →
      (s.ns < c.since + 2000000 → exec (.sendContextEvict dev prompt) s = .next s) ∧
      (c.since + 2000000 ≤ s.ns → exec (.sendContextEvict dev prompt) s =
        .next { s.clearTx with span := { s.clearTx.span with sends := s.clearTx.span.sends.erase c } }.sendOwed))

/-- SPAN_OP_COMPLETE answers the mesh request of an operation whose every response has come, with its data in order or the first status that is not
OK; SPAN_OP_TIMEOUT frees one that lacks responses after OP_US and counts it. -/
def Sys2Proof.Claims.SpanOperationsEnd : Prop :=
  ∀ (tag : BitVec 32) (o : SpanOp) (s : State), s.span.ops.find? (fun o => decide (o.tag = tag)) = some o →
    let u : State := { s with span := { s.span with ops := s.span.ops.filter (fun x => decide (x.tag ≠ tag)) } }
    let data := (List.range o.pieces).flatMap (fun k => ((o.parts.find? (fun x => decide (x.1 = 512 * k))).map (fun x => x.2)).getD [])
    let late := o.since + 1000 * s.regField rSPAN_CTRL 63 32
    (o.got < o.pieces → exec (.spanOpComplete tag) s = .next s) ∧
    (o.pieces ≤ o.got →
      (o.req.type = .message → exec (.spanOpComplete tag) s = .next (u.inject (answer o.req .msgReply o.status (o.reply.drop 16) (some (msgOf o.reply))))) ∧
      (o.req.type ≠ .message → o.status = .ok → exec (.spanOpComplete tag) s = .next (u.respond o.req .ok data)) ∧
      (o.req.type ≠ .message → o.status ≠ .ok → exec (.spanOpComplete tag) s = .next (u.respond o.req o.status []))) ∧
    (o.got < o.pieces → late ≤ s.ns → exec (.spanOpTimeout tag) s = .next (((u.count rSPAN_CNT4 15 0 1).spanStat 9).dieEvent o.die 0x0E 0 1)) ∧
    (o.pieces ≤ o.got ∨ s.ns < late → exec (.spanOpTimeout tag) s = .next s)

/-- The span registers: a window's BASE and LIMIT are written only while it is invalid; a write of its CTRL raises WGEN by one modulo 2^16, and one
that would make an empty memory window valid is rejected; a route entry made ABSENT takes every context of its device with it; SPAN_CTRL, SPAN_CTRL2
and SPAN_ETH are taken whole or rejected. -/
def Sys2Proof.Claims.SpanRegisterWrites : Prop :=
  ∀ (who : Initiator) (v : Word) (s : State),
    (∀ (w : BitVec 12),
      let ctrl := rSPAN_WINw_CTRL + 32 * w.toNat
      let base := rSPAN_WINw_BASE + 32 * w.toNat
      let limit := rSPAN_WINw_LIMIT + 32 * w.toNat
      let empty := bitOf v 63 = true ∧ field v 62 61 = 0 ∧ s.regField limit 47 0 ≤ s.regField base 47 0
      (∀ which : Fin 3, Takes s who (base + 8 * which.val) (classOf (base + 8 * which.val)) →
        (which.val < 2 → bitOf (s.reg ctrl) 63 = true → exec (.spanWindowWrite who w which v) s = .next (s.spanStat 10)) ∧
        (which.val < 2 → bitOf (s.reg ctrl) 63 = false →
          exec (.spanWindowWrite who w which v) s = .next (s.regWrite (if which.val = 0 then base else limit) v)) ∧
        (which.val = 2 → empty → exec (.spanWindowWrite who w which v) s = .next (s.spanStat 10)) ∧
        (which.val = 2 → ¬empty → exec (.spanWindowWrite who w which v) s =
          .next ((s.regWrite ctrl v).setRegField ctrl 45 30 ((s.regField ctrl 45 30 + 1) % 2 ^ 16))))) ∧
    (∀ dev : BitVec 16,
      let key := rSPAN_ROUTEd + 8 * dev.toNat
      let u := s.regWrite key v
      Takes s who key (classOf key) →
      (field v 63 62 ≠ 0 → exec (.routeEntryWrite who dev v) s = .next u) ∧
      (field v 63 62 = 0 → ∃ t, exec (.routeEntryWrite who dev v) s = .next t ∧ (∀ c ∈ t.span.sends, c.dev ≠ dev) ∧ (∀ c ∈ t.span.recvs, c.dev ≠ dev) ∧
        (∀ c ∈ s.span.sends, c.dev ≠ dev → c ∈ t.span.sends) ∧ (∀ c ∈ s.span.recvs, c.dev ≠ dev → c ∈ t.span.recvs))) ∧
    (∀ which : Fin 3,
      let key := rSPAN_CTRL + 8 * which.val
      Takes s who key (classOf key) →
      (spanCtrlOk which v = true → exec (.spanCtrlWrite who which v) s = .next (s.regWrite key v)) ∧
      (spanCtrlOk which v = false → exec (.spanCtrlWrite who which v) s = .next (s.spanStat 10)))

/-- The link keys: a write of SPAN_KEYIDX selects a key and sets its slot's transmit phase; COMMIT makes the selected key valid with its counter at
zero, CLEAR makes it invalid; SPAN_KEYDATA fills the selected word of it. Slot 0 holds no key. -/
def Sys2Proof.Claims.LinkKeysAreWritten : Prop :=
  ∀ (who : Initiator) (v : Word) (s : State),
    let slot := field v 7 0
    let i := keyIndex slot (field v 8 8) (field v 9 9)
    let u := s.setReg rSPAN_KEYIDX (v &&& 0x10FFF)
    let phased : State := { u with span := { u.span with txPhase := tset (fun _ => 0) u.span.txPhase slot (field v 16 16) } }
    (Takes s who rSPAN_KEYIDX (classOf rSPAN_KEYIDX) →
      (slot = 0 → exec (.txphaseWrite who v) s = .next u) ∧
      (slot ≠ 0 → bitOf v 18 = false → bitOf v 19 = false → exec (.txphaseWrite who v) s = .next phased) ∧
      (slot ≠ 0 → bitOf v 18 = true → bitOf v 19 = false → exec (.keyCommit who v) s =
        .next (phased.setSpanKey i { phased.spanKey i with valid := true, ctr := 0, high := none })) ∧
      (slot ≠ 0 → bitOf v 18 = false → bitOf v 19 = true → exec (.keyClear who v) s =
        .next (phased.setSpanKey i { phased.spanKey i with valid := false }))) ∧
    (let x := s.reg rSPAN_KEYIDX
     let j := keyIndex (field x 7 0) (field x 8 8) (field x 9 9)
     let k := s.spanKey j
     Takes s who rSPAN_KEYDATA (classOf rSPAN_KEYDATA) →
      (field x 7 0 = 0 → exec (.keydataWrite who v) s = .next s) ∧
      (field x 7 0 ≠ 0 → field x 11 10 = 0 → exec (.keydataWrite who v) s =
        .next (s.setSpanKey j { k with key := BitVec.ofNat 128 (k.key.toNat / 2 ^ 64 * 2 ^ 64 + v.toNat) })) ∧
      (field x 7 0 ≠ 0 → field x 11 10 = 1 → exec (.keydataWrite who v) s =
        .next (s.setSpanKey j { k with key := BitVec.ofNat 128 (v.toNat * 2 ^ 64 + k.key.toNat % 2 ^ 64) })) ∧
      (field x 7 0 ≠ 0 → field x 11 10 = 2 → exec (.keydataWrite who v) s = .next (s.setSpanKey j { k with salt := BitVec.ofNat 32 v.toNat })))

/-! ## The host port -/

/-- PERST_ASSERT takes the link down and drops every ring and job; PERST_DEASSERT carries out the module reset that it owes; CXL_LINK_UP ends a
training with its speed and width, and LINK_DOWN ends a link that is up; CXL_RESET asks for a compute reset that keeps hearth, and disables every
ring. A port in another state is left alone. -/
def Sys2Proof.Claims.HostLinkChanges : Prop :=
  ∀ s : State,
    let cleared := (s.setReg rCXL_HSTAT (setField (setField (s.reg rCXL_HSTAT) 22 20 0) 18 8 0)).dropRings
    (s.powered = true → s.port.perst = false → exec .perstAssert s = .next { cleared with
      port := { cleared.port with up := false, perst := true, downAt := cleared.ns }, boot := { cleared.boot with training := false, perst := cleared.stage0 } }) ∧
    (s.powered = false ∨ s.port.perst = true → exec .perstAssert s = .next s) ∧
    (s.powered = true → s.port.perst = true →
      let u : State := { s with port := { s.port with perst := false } }
      let v := (u.setReg rCXL_MBCMD 0).setReg rCXL_MBRES 0
      let w : State := { v with wdn := { v.wdn with mbox := [] }, boot := { v.boot with perst := false } }
      (s.boot.perst = false → exec .perstDeassert s = .next u) ∧ (s.boot.perst = true → exec .perstDeassert s = .next (w.moduleReset 1))) ∧
    (s.port.up = true → exec .linkDown s = .next
      (let u := s.setReg rCXL_HSTAT (setField (s.reg rCXL_HSTAT) 16 8 0)
       { u with port := { u.port with up := false, downAt := u.ns } })) ∧
    (s.port.up = false → exec .linkDown s = .next s) ∧
    (∀ (speed : BitVec 3) (width : BitVec 6) (flit : BitVec 2),
      let u := s.setReg rCXL_HSTAT (setField (s.reg rCXL_HSTAT) 18 8 (flit.toNat * 2 ^ 9 + speed.toNat * 2 ^ 6 + width.toNat))
      s.boot.training = true → s.port.perst = false → s.port.up = false → speed ≠ 0 →
        exec (.cxlLinkUp speed width flit) s = .next { u with port := { u.port with up := true } }) ∧
    (s.powered = false ∨ s.port.perst = false → exec .perstDeassert s = .next s) ∧
    (∀ speed width flit, s.boot.training = false ∨ s.port.perst = true ∨ s.port.up = true ∨ speed = 0 → exec (.cxlLinkUp speed width flit) s = .next s) ∧
    (s.stage0 = true → exec .cxlReset s = .next ((List.range 64).foldl
      (fun s r => s.ringCfgWrite r (setBit (s.reg (ringKey r rCXL_RINGr_CFG)) 0 false)) (s.askReset (.compute true false) 5).2)) ∧
    (s.stage0 = false → exec .cxlReset s = .next s)

/-- The mailbox: a command posted in it completes with its result and code 0, with 2 before its stage, with 5 while Forester restarts, and with 3 for
a payload that is not the one laid out; a mailbox that holds no such command is left alone. A reset that the host asks for completes with 2 before
Stage 3, with 4 where the policy forbids it, and is otherwise accepted. -/
def Sys2Proof.Claims.MailboxCommandsComplete : Prop :=
  ∀ s : State,
    let posted (opc : Nat) : Prop := s.stage0 = true ∧ bitOf (s.reg rCXL_MBCMD) 63 = true ∧ field (s.reg rCXL_MBCMD) 15 0 = opc
    let len := s.regField rCXL_MBCMD 28 16
    let down := bitOf (s.reg rWDN_STATUS) 11
    let gives (i : Instr) (opc stage : Nat) (forester : Bool) (res : Bytes) : Prop := posted opc →
      (s.stage < stage ∨ (forester = true ∧ down = true) → exec i s = .next (s.mboxDone 2 [])) ∧
      (stage ≤ s.stage → (forester = true → down = false) →
        (forester = true → s.wdn.restarting = true → exec i s = .next (s.mboxDone 5 [])) ∧
        ((forester = true → s.wdn.restarting = false) → len ≠ 0 → exec i s = .next (s.mboxDone 3 [])) ∧
        ((forester = true → s.wdn.restarting = false) → len = 0 → exec i s = .next (s.mboxDone 0 res)))
    let resets (i : Instr) (opc flag : Nat) (fine : Prop) (r : ResetReq) : Prop := posted opc → 1 ≤ s.stage →
      (¬fine → exec i s = .next (s.mboxDone 3 [])) ∧
      (fine → s.stage < 4 → exec i s = .next (s.mboxDone 2 [])) ∧
      (fine → 4 ≤ s.stage → bitOf (s.reg rMGT_CTRL) flag = false → exec i s = .next (s.mboxDone 4 [])) ∧
      (fine → 4 ≤ s.stage → bitOf (s.reg rMGT_CTRL) flag = true → exec i s = .next ((s.mboxDone 0 []).askReset r 2).2)
    gives .identify 0x01 0 false s.identity ∧ gives .getState 0x02 0 false s.bringUpState ∧ gives .getLayout 0x10 1 true s.layoutResult ∧
    gives .getLogPtr 0x11 1 true s.logPtr ∧ gives .getTelemetry 0x12 1 true s.telemetry ∧
    resets .reqComputeReset 0x20 0 (len = 8 ∧ ofLe (s.mboxBytes 8) < 2) (.compute true (decide (ofLe (s.mboxBytes 8) = 1))) ∧
    resets .reqModuleReset 0x21 1 (len = 0) .module ∧
    (bitOf (s.reg rCXL_MBCMD) 63 = false → ∀ i ∈ [Instr.identify, .getState, .getLayout, .getLogPtr, .getTelemetry, .reqComputeReset, .reqModuleReset],
      exec i s = .next s)

/-! ## CXL.mem -/

/-- CXLMEM_REQUEST with the link up: before Mem_Active, and beyond the exposed ranges, a read answers poison and a write is discarded; the snoop
filter's directory answers so too. Any other line of an exposed range waits for a row under repair and for the line's own snoop; a write to a name that
is MOVING, or a request for ownership of it, is held; else the line's name is heated, and the request answered with poison where a map entry or
channel has failed, a write performed, a read answered with the line, granted to the host unless it reads without caching. -/
def Sys2Proof.Claims.HostMemoryRequests : Prop :=
  ∀ (addr : Word) (op : MemOp) (errs : LineErrs) (s : State), s.port.up = true →
    let line := addr.toNat - addr.toNat % 64
    let o := addr.toNat % 64
    let i : Instr := .cxlmemRequest addr ⟨op, errs⟩
    let write : Prop := ∃ b, op = .write b
    let fits : Prop := ∀ b, op = .write b → 1 ≤ b.length ∧ o + b.length ≤ 64
    let bad : MemAns := match op with
      | .write _ => .done
      | _ => .poison
    (¬fits → exec i s = .next s) ∧
    (fits → bitOf (s.reg rCXL_HSTAT) 19 = false → exec i s = .next { s with port := { s.port with ans := bad } }) ∧
    (fits → bitOf (s.reg rCXL_HSTAT) 19 = true →
      (dpaIn s.exposed line = none → exec i s = .next (s.memAnswer bad)) ∧
      (∀ a, dpaIn s.exposed line = some a → snoopDir ≤ a → a < snoopDir + 0x200000 → exec i s = .next (s.memAnswer bad)) ∧
      (∀ a, dpaIn s.exposed line = some a → a < snoopDir ∨ snoopDir + 0x200000 ≤ a →
        let moves : Prop := ∃ n, s.pool.nameOf a = some n ∧ s.moving n = true
        (s.repairHeld a 64 = true → exec i s = .next s) ∧
        (∀ n, s.repairHeld a 64 = false → s.pool.nameOf a = some n → s.moving n = true →
          (∀ b, op = .write b → exec i s = .next (s.holdWrite n (.host a o b))) ∧
          (op = .readOwn → exec i s = .next (s.holdWrite n (.own a)))) ∧
        (s.repairHeld a 64 = false → ¬(moves ∧ (write ∨ op = .readOwn)) →
          ((∃ l ∈ s.port.lines, l.line = a ∧ l.waits = true) → exec i s = .next s) ∧
          ((∀ l ∈ s.port.lines, l.line = a → l.waits = false) →
            (∀ v, ¬write → op ≠ .readNoCache → s.filterRoom a = (false, v) → exec i s = .next v) ∧
            (∀ v, ((write ∨ op = .readNoCache) ∧ v = s) ∨ (¬write ∧ op ≠ .readNoCache ∧ s.filterRoom a = (true, v)) →
              let w : State := match v.pool.nameOf a with
                | some n => v.access n 0
                | none => v
              let dead := w.unusable a 64 = true ∨ w.chanFailed (w.phys a) = true
              let g := if op = .readNoCache then w else w.grantLine a
              let r := ((g.noteErrs a 64 errs).countLines a 64 false).lineRead a 64
              (dead → exec i s = .next (w.memAnswer .poison)) ∧
              (∀ b, ¬dead → op = .write b → exec i s = .next (w.hostWrite a o b)) ∧
              (∀ b, ¬dead → ¬write → r.1 = some b → exec i s = .next (r.2.memAnswer (.data b))) ∧
              (¬dead → ¬write → r.1 = none → exec i s = .next (r.2.memAnswer .poison)))))))

/-- No set of the snoop filter comes to hold more than 16 lines: a line is granted only with room for it. -/
def Sys2Proof.Claims.FilterSetsHoldSixteen : Prop :=
  ∀ (a : Nat) (s v : State),
    let held (s : State) (k : Nat) : Nat := s.port.lines.countP (fun l => decide (filterSet l.line = k))
    (∀ k, held s k ≤ 16) → s.filterRoom a = (true, v) → (∀ k, held (v.grantLine a) k ≤ 16) ∧ ∃ l ∈ (v.grantLine a).port.lines, l.line = a

/-- BISNP_RESPONSE ends a snoop that was sent for a line: the host's data, if any, are stored, and BISnpInv takes the line out of the filter;
BISNP_SLOW records a snoop that has been outstanding for more than 100 µs; IDE_INTEGRITY_FAILURE records a failure of a protected stream. -/
def Sys2Proof.Claims.SnoopsEnd : Prop :=
  ∀ (addr : Word) (a : Nat) (s : State), dpaIn s.exposed (addr.toNat - addr.toNat % 64) = some a →
    let held := s.port.lines.find? (fun l => decide (l.line = a))
    (∀ l, held = some l → l.snoop = some (true, false) →
      exec (.bisnpResponse addr none) s = .next { s with port := { s.port with lines := s.port.lines.filter (fun l => decide (l.line ≠ a)) } } ∧
      (∀ b : Bytes, b.length = 64 → exec (.bisnpResponse addr (some b)) s = .next { s.store a b with
        port := { (s.store a b).port with lines := (s.store a b).port.lines.filter (fun l => decide (l.line ≠ a)) } })) ∧
    (∀ l, held = some l → l.snoop = some (false, false) → exec (.bisnpResponse addr none) s =
      .next { s with port := { s.port with lines := s.port.lines.map (fun l => if l.line = a then { l with snoop := some (false, true) } else l) } }) ∧
    (∀ l ∈ s.port.lines, l.line = a → l.waits = true → l.since + 100000 < s.ns → exec (.bisnpSlow addr) s =
      .next ((s.orReg rCXL_STATUS 2).record ⟨0, 16, 1, 0, 0, 0, a, 0, 0⟩)) ∧
    ((∀ l ∈ s.port.lines, l.line = a → l.waits = true → s.ns ≤ l.since + 100000) → exec (.bisnpSlow addr) s = .next s) ∧
    (∀ k : Fin 3, (bitOf (s.reg rCXL_HSTAT) (20 + k.val) = true → exec (.ideIntegrityFailure k) s = .next (s.record ⟨2, 16, 0, 0, 0, 0, 0, 0, 0⟩)) ∧
      (bitOf (s.reg rCXL_HSTAT) (20 + k.val) = false → exec (.ideIntegrityFailure k) s = .next s))

/-! ## Rings and jobs -/

/-- RING_ENABLE turns an OFF ring on, afresh; RING_DISABLE lets a ring drain, and one without jobs is OFF at once; a ring that drains is not
enabled, and LOC stays while ENABLE is set, each with RING_REJECT. -/
def Sys2Proof.Claims.RingsAreEnabled : Prop :=
  ∀ (who : Initiator) (r : RingId) (v : Word) (s : State),
    let key := ringKey r rCXL_RINGr_CFG
    let old := s.reg key
    Takes s who key (classOf key) →
    (bitOf v 0 = true → exec (.ringEnable who r v) s = .next (s.ringCfgWrite r v)) ∧
    (bitOf v 0 = false → exec (.ringDisable who r v) s = .next (s.ringCfgWrite r v)) ∧
    (bitOf old 0 = false → bitOf v 0 = true → (s.ring r).phase = .off → (s.ringCfgWrite r v).ring r = { Ring.zero with phase := .on }) ∧
    (bitOf old 0 = false → bitOf v 0 = true → (s.ring r).phase ≠ .off →
      (s.ringCfgWrite r v).ring r = s.ring r ∧ bitOf ((s.ringCfgWrite r v).reg key) 0 = false) ∧
    (bitOf old 0 = true → bitOf v 0 = false → s.ringJobs r = [] → ((s.ringCfgWrite r v).ring r).phase = .off) ∧
    (bitOf old 0 = true → bitOf v 0 = false → s.ringJobs r ≠ [] → ((s.ringCfgWrite r v).ring r).phase = .draining)

/-- PRODUCER_LINE_WRITE, RING_POLL, LINK_WAIT_EXPIRE and DESCRIPTOR_FETCH: a write invalidates the device's copy of a line in host memory, and of one in
device memory it is a write of the host; a poll takes
the line it read, and faults the ring where the read failed; a ring that runs and is placed fetches the descriptor at FETCHED; a wait of more
than a second for the link faults the ring. -/
def Sys2Proof.Claims.RingsFetch : Prop :=
  ∀ (r : RingId) (s : State),
    let x := s.ring r
    let far := s.ringLocal r = false
    let near := s.ringLocal r = true
    let read (a n : Nat) : Option Bytes × State := (s.snooped a n false).2.ringRead a n
    let at_ := s.sqBase r + x.fetched.toNat % 2 ^ s.sqLog r * 128
    (far → ∀ b, exec (.producerLineWrite r b) s = .next (s.setRing r { x with cached := false })) ∧
    (near → s.port.up = true → bitOf (s.reg rCXL_HSTAT) 19 = true → s.isExposed (s.plAddr r) 64 = true → ∀ b : Bytes, 1 ≤ b.length → b.length ≤ 64 →
      exec (.producerLineWrite r b) s = .next (s.serveHost (s.plAddr r) 0 (.write b) [])) ∧
    (s.ringRuns r = true → s.ringPlaced r = false → ∀ l, exec (.ringPoll r l) s = .next (s.ringFault r 4)) ∧
    (near → s.ringRuns r = true → s.ringPlaced r = true → ∀ l,
      (x.marked = false → exec (.ringPoll r l) s = .next s) ∧
      (x.marked = true → (s.snooped (s.plAddr r) 64 false).1 = false → exec (.ringPoll r l) s = .next (s.snooped (s.plAddr r) 64 false).2) ∧
      (∀ b v, x.marked = true → (s.snooped (s.plAddr r) 64 false).1 = true → read (s.plAddr r) 64 = (some b, v) →
        exec (.ringPoll r l) s = .next (v.takeLine r b)) ∧
      (∀ v, x.marked = true → (s.snooped (s.plAddr r) 64 false).1 = true → read (s.plAddr r) 64 = (none, v) →
        exec (.ringPoll r l) s = .next (v.ringFault r 3))) ∧
    (near → s.mayFetch r = true → ∀ l,
      ((s.snooped at_ 128 false).1 = false → exec (.descriptorFetch r l) s = .next (s.snooped at_ 128 false).2) ∧
      (∀ b v, (s.snooped at_ 128 false).1 = true → read at_ 128 = (some b, v) → exec (.descriptorFetch r l) s = .next (v.newJob r b)) ∧
      (∀ v, (s.snooped at_ 128 false).1 = true → read at_ 128 = (none, v) → exec (.descriptorFetch r l) s = .next (v.ringFault r 3))) ∧
    (far → s.ringRuns r = true → x.cached = false → s.port.up = true →
      (∀ b, exec (.ringPoll r (some b)) s = .next ((s.setRing r { x with cached := true }).takeLine r b)) ∧
      exec (.ringPoll r none) s = .next (s.ringFault r 3)) ∧
    (far → s.ringRuns r = true → x.cached = true → ∀ l, exec (.ringPoll r l) s = .next s) ∧
    (far → s.mayFetch r = true → s.port.up = true →
      (∀ b : Bytes, b.length = 128 → exec (.descriptorFetch r (some b)) s = .next (s.newJob r b)) ∧
      exec (.descriptorFetch r none) s = .next (s.ringFault r 3)) ∧
    (s.mayFetch r = false → ∀ d, exec (.descriptorFetch r d) s = .next s) ∧
    (far → s.ringRuns r = true → s.port.up = false → s.port.downAt + 1000000000 < s.ns → exec (.linkWaitExpire r) s = .next (s.ringFault r 3)) ∧
    (s.port.up = true ∨ s.ns ≤ s.port.downAt + 1000000000 → exec (.linkWaitExpire r) s = .next s)

/-- The indices that a producer line gives are judged: a producer index more than the ring ahead of FETCHED faults the ring with code 1, a consumer
index ahead of WRITTEN with code 2; a ring that faults fetches nothing more, and a ring that is not on does not fault. -/
def Sys2Proof.Claims.ProducerLinesAreJudged : Prop :=
  ∀ (r : Nat) (b : Bytes) (s : State),
    let pi : BitVec 32 := BitVec.ofNat 32 (leAt b 0 4)
    let cr : BitVec 32 := BitVec.ofNat 32 (leAt b 4 4)
    let x := s.ring r
    let y := (s.takeLine r b).ring r
    let far : Prop := 2 ^ s.sqLog r < (pi - x.fetched).toNat
    let ahead : Prop := (cr - x.written).toNat ≠ 0 ∧ (cr - x.written).toNat < 2 ^ 31
    y.pi = pi ∧ y.cr = cr ∧ y.fetched = x.fetched ∧ y.written = x.written ∧
    (x.phase = .on → far → y.phase = .fault ∧ y.code = 1) ∧ (x.phase = .on → ¬far → ahead → y.phase = .fault ∧ y.code = 2) ∧
    (¬far → ¬ahead → y.phase = x.phase) ∧ (x.phase ≠ .on → y.phase = x.phase) ∧
    (s.stage < 3 ∨ x.phase ≠ .on → s.mayFetch r = false)

/-- The oldest fetched job of a ring: a NOP ends at once, a FENCE once it is the ring's only job, a START that passes its checks reserves its tasks, a
SEND that passes them sends its message; each ends with the status of the first check that fails. JOB_SEND_RETRY sends again once the back-off is
over. -/
def Sys2Proof.Claims.JobsBegin : Prop :=
  ∀ (r : RingId) (j : Job) (s : State), s.oldestFetched r = some j →
    (j.op = 0 → exec (.jobNop r) s = .next (s.endJob j ((s.plainCheck j).getD 0))) ∧
    (j.op = 3 →
      (∀ e, s.plainCheck j = some e → exec (.jobFence r) s = .next (s.endJob j e)) ∧
      (s.plainCheck j = none → (s.ringJobs r).length = 1 → exec (.jobFence r) s = .next (s.endJob j 0)) ∧
      (s.plainCheck j = none → (s.ringJobs r).length ≠ 1 → exec (.jobFence r) s = .next s)) ∧
    (j.op = 1 →
      let g := s.snooped (leAt j.desc 16 8) (32 * leAt j.desc 2 2) false
      (∀ v ts, g.1 = true → g.2.startCheck j = (.inl ts, v) →
        exec (.jobStart r) s = .next (v.setJob j.tag (some { j with tasks := ts, phase := .reserving }))) ∧
      (∀ v e, g.1 = true → g.2.startCheck j = (.inr e, v) → exec (.jobStart r) s = .next (v.endJob j e)) ∧
      (g.1 = false → exec (.jobStart r) s = .next g.2)) ∧
    (j.op = 2 →
      let cfg := s.reg (ringKey r rCXL_RINGr_CFG)
      let key := field cfg 24 16 * 64 + field cfg 11 10 * 16 + field cfg 15 12
      let busy : Prop := ∃ e ∈ s.jobs, ∃ k, e.2 = some k ∧ k.key = key ∧ (k.phase = .sending ∨ k.phase = .backoff)
      (∀ e, s.plainCheck j = some e → exec (.jobSend r) s = .next (s.endJob j e)) ∧
      (s.plainCheck j = none → busy → exec (.jobSend r) s = .next s) ∧
      (s.plainCheck j = none → ¬busy → exec (.jobSend r) s = .next (s.proxySend { j with key := key }))) ∧
    (∀ (tag : BitVec 32) (k : Job), s.job tag.toNat = some k →
      (k.phase = .backoff → k.again ≤ s.ns → exec (.jobSendRetry tag) s = .next (s.proxySend k)) ∧
      (k.phase ≠ .backoff ∨ s.ns < k.again → exec (.jobSendRetry tag) s = .next s))

/-- The checks of a NOP, SEND or FENCE, in order: the descriptor's fields give BAD_DESCRIPTOR, a SEND that the ring may not send PERMISSION, a
compute reset STATE_CONFLICT. -/
def Sys2Proof.Claims.DescriptorChecksAreOrdered : Prop :=
  ∀ (j : Job) (s : State),
    let target : Word := BitVec.ofNat 64 (leAt j.desc 16 8)
    let barred : Prop := j.op = 2 ∧ (bitOf j.limit 33 = false ∨ tgRemote target = true ∨ j.allows (tgCore target) = false)
    (descFieldsOk j.desc = false → s.plainCheck j = some 0x11) ∧
    (descFieldsOk j.desc = true → barred → s.plainCheck j = some 0x12) ∧
    (descFieldsOk j.desc = true → ¬barred → s.computeReset = true → s.plainCheck j = some 0x10) ∧
    (descFieldsOk j.desc = true → ¬barred → s.computeReset = false → s.plainCheck j = none)

/-- A job's first cause stands: JOB_TIMEOUT makes TIMEOUT the cause of a job that has none once TIMEOUT_MS have passed since its fetch; a job with a
cause keeps it. -/
def Sys2Proof.Claims.FirstCauseStands : Prop :=
  ∀ (tag : BitVec 32) (j : Job) (s : State), s.job tag.toNat = some j →
    let ms := leAt j.desc 4 4
    (ms ≠ 0 → j.fetchedAt + ms * 1000000 ≤ s.ns → exec (.jobTimeout tag) s = .next (s.jobCause tag.toNat ⟨0x20, 0, 0, none, 0⟩)) ∧
    (ms = 0 ∨ s.ns < j.fetchedAt + ms * 1000000 → exec (.jobTimeout tag) s = .next s) ∧
    (∀ c, j.cause.isSome = true → s.jobCause tag.toNat c = s) ∧
    (∀ c, j.cause = none → j.tasks = [] →
      s.jobCause tag.toNat c = s.setJob tag.toNat (some { j with cause := some c, phase := .ending }))

/-- COMPLETION_RECORD_WRITE writes the record of a job whose result stands, at WRITTEN of its ring, once it can be written; a provisional result
leaves the job in flight, any other ends it. SEAL_UPDATE writes the second record of a provisional job and ends it. -/
def Sys2Proof.Claims.RecordsAreWritten : Prop :=
  ∀ (tag : BitVec 32) (j : Job) (s : State), s.job tag.toNat = some j →
    (s.jobResult j = none → exec (.completionRecordWrite tag) s = .next s ∧ exec (.sealUpdate tag) s = .next s) ∧
    (∀ c v, s.jobResult j = some c → s.recordReady j.ring = (true, v) →
      let cnt := ringKey j.ring rCXL_RINGr_CNT
      let w := v.writeRecord j 0 c
      (j.recorded = false → 2 ≤ c.status → exec (.completionRecordWrite tag) s = .next ((w.count cnt 31 0 1).closeJob j c.status)) ∧
      (j.recorded = false → c.status = 0 → exec (.completionRecordWrite tag) s = .next ((w.count cnt 63 32 1).closeJob j 0)) ∧
      (j.recorded = false → c.status = 1 → exec (.completionRecordWrite tag) s = .next ((w.count cnt 63 32 1).setJob j.tag (some { j with recorded := true }))) ∧
      (j.recorded = true → exec (.sealUpdate tag) s = .next ((v.writeRecord j 1 c).closeJob j c.status) ∧ exec (.completionRecordWrite tag) s = .next s)) ∧
    (∀ c v, s.jobResult j = some c → s.recordReady j.ring = (false, v) → j.recorded = false → exec (.completionRecordWrite tag) s = .next v)

/-- A record's 64 bytes: the phase bit is the complement of bit CQ_LOG2 of its index, with its kind and seal above it; then the status, the end code,
the refusal code, the job's index and its COOKIE. -/
def Sys2Proof.Claims.RecordBytes : Prop :=
  ∀ (j : Job) (k kind : Nat) (c : JobCause) (s : State), kind < 2 → c.sealSt < 4 → c.status < 256 → c.endCode < 256 → c.refusal < 256 → j.flags = 0 →
    let b := s.recordLine j k kind c
    b.length = 64 ∧ leAt b 0 1 = (1 - k / 2 ^ s.cqLog j.ring % 2) + 2 * kind + 8 * c.sealSt ∧ leAt b 1 1 = c.status ∧ leAt b 2 1 = c.endCode ∧
    leAt b 3 1 = c.refusal ∧ leAt b 4 4 = j.idx.toNat ∧ leAt b 8 8 = leAt j.desc 8 8

/-- DIGEST_COMPUTE writes the digest record of a job of a marked ring at the count of the ring of digests once the host holds no line in the
way, and raises the count; a full ring skips it and counts the skip. SHADOWLOC_WRITE starts that count and RD again. -/
def Sys2Proof.Claims.DigestsAreWritten : Prop :=
  ∀ s : State,
    (∀ (tag : BitVec 32) (d : DigestJob), s.digests.find? (fun d => decide (d.tag = tag.toNat)) = some d →
      let u : State := { s with digests := s.digests.erase d }
      let loc := s.reg rMGT_SHADOWLOC
      let size := 2 ^ (field loc 51 48 + 6)
      let n := u.regField rMGT_SHADOWCNT 63 32
      let full : Prop := size ≤ (n + 2 ^ 32 - u.regField rMGT_SHADOWRD 31 0) % 2 ^ 32
      (full → exec (.digestCompute tag) s = .next (u.count rMGT_SHADOWRD 63 32 1)) ∧
      let g := s.snoopedAll ((field loc 47 0 + n % size * 64, 64, true) :: (descRegions d.desc).map (fun q => (q.1, q.2, false)))
      let w : State := { g.2 with digests := g.2.digests.erase d }
      (¬full → g.1 = false → exec (.digestCompute tag) s = .next g.2) ∧
      (∀ h v, ¬full → g.1 = true → (∃ b, w.digestInput d = (some b, v) ∧ h = Config.sm3 b) ∨
          (∃ x, w.digestInput d = (none, x) ∧ x.freshDigest = (h, v)) →
        let line := leBytes 8 (leAt d.desc 8 8) ++ leBytes 4 d.idx.toNat ++ leBytes 1 d.ring ++ leBytes 1 d.flags ++ leBytes 1 0 ++ leBytes 17 0 ++
          h.take 32
        exec (.digestCompute tag) s = .next ((v.store (field loc 47 0 + n % size * 64) line).setRegField rMGT_SHADOWCNT 63 32 (n + 1)))) ∧
    (∀ (who : Initiator) (v : Word), Takes s who rMGT_SHADOWLOC (classOf rMGT_SHADOWLOC) → exec (.shadowlocWrite who v) s =
      .next (((s.setReg rMGT_SHADOWLOC (setField (setField v 63 52 0) 11 0 0)).setRegField rMGT_SHADOWCNT 63 32 0).setReg rMGT_SHADOWRD 0))

/-! ## The smoulder rotation -/

/-- R413 and R414: where the columns of a row stand. With a single slot g in U, columns below g lie at their own slot number and the others
lie one slot higher; with U the q lost slots, the row has 9 − q cores; and no two columns share a slot, nor does any stand on a slot of U. -/
def Obligations.RowsArePlaced : Prop :=
  ∀ (s : State) (r : Fin 64), (s.row r).withheld = 0 →
    (∀ (g c : Nat), g < 9 → c < 8 → (s.row r).u = BitVec.ofNat 9 (2 ^ g) →
      s.slotOf (r * 8 + c) = some (r * 9 + if c < g then c else c + 1)) ∧
    ((s.row r).u ≠ 0 → ((rowCores r).filter (fun n => s.present n)).length = 9 - popCount 9 (s.row r).u.toNat) ∧
    (∀ (n m p : Nat), n ∈ rowCores r → m ∈ rowCores r → s.slotOf n = some p → s.slotOf m = some p → n = m) ∧
    (∀ (n p : Nat), n ∈ rowCores r → s.slotOf n = some p → p / 9 = r.val ∧ (s.row r).u.getLsbD (p % 9) = false)

/-- TEST_DUE: while the rotation runs and ENABLE is set, a slot that is due is tested as its row allows: the resting slot itself, a slot that the resting
slot moves to when the row has a stand-in, a slot in place when it has none; a stand-in and a FENCED slot are tested where they are; a CINDER, a slot
ON_TEST and a conditional fence that is active are not. A row with a move or another test, or under revision, begins no test, nor does a rotation
that stands. A test in place goes on by one slice of its row at a time, while its core is idle, and is SKIPPED with a record when it has found no idle
time for a period. The step of the row's sweep, when it was due, is taken. -/
def Sys2Proof.Claims.TestsFallDue : Prop :=
  ∀ (p : PhysId) (s : State),
    let r := p.val / 9
    let x := s.slot p
    let served := x.service = svcIn ∨ x.service = svcWatch
    let due := s.rotating = true ∧ bitOf (s.reg rSMD_CTRL) 0 = true ∧ s.isDue p = true
    let free := s.rowTaken r = false ∧ (s.row r).revising = false
    let step := s.stepDue p = true ∧ s.standIn r = true ∧ x.first = false ∧ s.rowBusy r = false
    let here := x.test = none ∧ x.service ≠ svcFenced ∧ free
    let gives (u : State) : Prop :=
      (∀ i, s.resting r = some i → step → exec (.testDue p) s = .next (u.takeStep r i)) ∧
      (s.resting r = none ∨ ¬step → exec (.testDue p) s = .next u)
    (¬due → exec (.testDue p) s = .next s) ∧
    (due →
      (∀ t, x.test = some t → gives (if t.inPlace then s.pokeTest p t else s)) ∧
      (x.test = none → x.service = svcFenced → gives (s.startTest p false false)) ∧
      (x.test = none → x.service ≠ svcFenced → ¬free → gives s) ∧
      (here → (served ∧ s.resting r = some (p % 9)) ∨ x.service = svcStanding →
        gives ((s.modSlot p (fun y => { y with prior := y.service, service := svcTest })).startTest p false false)) ∧
      (here → served → s.resting r ≠ some (p % 9) → s.standIn r = true →
        (s.rowBusy r = true → gives s) ∧ (s.rowBusy r = false → gives (s.planMove r (p % 9) true false false))) ∧
      (∀ t, here → (served ∧ s.resting r ≠ some (p % 9) ∧ s.standIn r = false) ∨ (x.service = svcCond ∧ x.condActive = false) →
        ((s.startTest p true false).slot p).test = some t → gives ((s.startTest p true false).pokeTest p t)) ∧
      (here → x.service = svcTest ∨ x.service = svcCinder ∨ (x.service = svcCond ∧ x.condActive = true) → gives s)) ∧
    (∀ t : TestRun,
      let runs := (s.row r).slice = none ∧ s.mayRun p t = true
      let fresh := t.next = 0 ∧ t.pinched = 0 ∧ t.again = false ∧ (s.row r).slice ≠ some (p % 9)
      (runs → s.pokeTest p t = (s.setRow r { s.row r with slice := some (p % 9) }).modSlot p (fun y => { y with iso := true })) ∧
      (¬runs → fresh → x.dueAt + s.testPeriod p ≤ s.ns → s.pokeTest p t =
        ((s.smdStat 9).modSlot p (fun y => { y with dueAt := s.ns })).record ⟨sevInfo, 18, 9, 2, p, 0, 0, 0, 0⟩) ∧
      (¬runs → ¬fresh ∨ s.ns < x.dueAt + s.testPeriod p → s.pokeTest p t = s))

/-- The sweep of a row visits its slots down from 8 to 0 and back up: from slot i on, 16 steps come back to it, and each slot is visited. -/
def Sys2Proof.Claims.SweepsVisitEverySlot : Prop :=
  ∀ (i : Fin 9) (up : Bool),
    let at_ (k : Nat) := (List.range k).foldl (fun (x : Nat × Bool) _ => sweepStep x.1 x.2) (i.val, up)
    (at_ 16).1 = i.val ∧ (∀ j < 9, ∃ k < 16, (at_ k).1 = j) ∧ (∀ k, (at_ k).1 < 9)

/-- SLICE_RESULT, and MARCH_RESULT with it: a slice whose signature is the golden value passes, is counted and recorded, and the next one follows; any other
fails, and is repaired once when its array's cells can be covered, else the slot fails its test. A shortened slice that fails is a pinch failure. A slice in
place gives its row's turn back.
A march that passes re-initialises the slot and ends the test; one that fails fails the test with slice code 48. A result that is not
the one awaited changes nothing. -/
def Sys2Proof.Claims.TestResults : Prop :=
  ∀ (p : PhysId) (s : State) (x : TestRun),
    (s.mayRun p x = false → (s.slot p).test = some x → (∀ slice pinch sig cells, exec (.sliceResult p slice pinch sig cells) s = .next s) ∧
      ∀ pass, exec (.marchResult p pass) s = .next s) ∧
    (∀ slice pinch sig cells, (s.slot p).test = none → exec (.sliceResult p slice pinch sig cells) s = .next s) ∧
    (∀ pass, (s.slot p).test = none → exec (.marchResult p pass) s = .next s) ∧
    (s.mayRun p x = true → (s.slot p).test = some x →
      (∀ (slice : Fin 40) (sig : Word) (cells : List (Nat × Nat)),
        let golden := Config.golden slice ((s.slot p).passNo % 4)
        let ran := (s.count rSMD_CNT 63 32 1).modSlot p (fun y => { y with sig := sig })
        let failed := (((ran.count rSMD_CNT 31 0 1).smdStat 0).modSlot p (fun y => { y with fails := satAdd 16 y.fails 1 })).testRecord p slice 1 false
        (x.next ≠ slice.val → exec (.sliceResult p slice false sig cells) s = .next s) ∧
        (x.next = slice.val → sig = golden → exec (.sliceResult p slice false sig cells) s =
          .next (((ran.modSlot p (fun y => { y with test := some { x with next := x.next + 1, again := false } })).testRecord p slice 0 false).endSlice p x)) ∧
        (x.next = slice.val → sig ≠ golden →
          (16 ≤ slice.val ∨ x.again = true ∨ failed.repairSlice p (slice.val / 4) cells = none →
            exec (.sliceResult p slice false sig cells) s = .next (failed.testFails p)) ∧
          (∀ u, slice.val < 16 → x.again = false → failed.repairSlice p (slice.val / 4) cells = some u →
            exec (.sliceResult p slice false sig cells) s = .next ((u.modSlot p (fun y => { y with test := some { x with again := true, slipped := true } })).endSlice p x))) ∧
        (x.pinch = false ∨ x.pinched ≠ slice.val ∨ x.next ≤ slice.val → exec (.sliceResult p slice true sig cells) s = .next s) ∧
        (x.pinch = true → x.pinched = slice.val → slice.val < x.next →
          let u := ran.modSlot p (fun y => { y with test := some { x with pinched := x.pinched + 1 } })
          exec (.sliceResult p slice true sig cells) s =
            .next (if sig = golden then (u.testRecord p slice 0 true).endSlice p x else ((u.testRecord p slice 1 true).endSlice p x).pinchFails p))) ∧
      (∀ pass, x.next ≠ 40 ∨ (x.pinch = true ∧ x.pinched ≠ 40) → exec (.marchResult p pass) s = .next s) ∧
      (x.next = 40 → (x.pinch = true → x.pinched = 40) →
        exec (.marchResult p false) s =
          .next (((((s.count rSMD_CNT 31 0 1).smdStat 0).modSlot p (fun y => { y with fails := satAdd 16 y.fails 1 })).testRecord p 48 1 false).testFails p) ∧
        (let cell := s.cellOf p
         let u := ((s.testRecord p 48 0 false).reinit p).modSlot p (fun y => { y with
           passes := satAdd 16 y.passes 1, passedAt := some s.ns, pinchAt := if x.pinch = true ∧ x.failed = false then some s.ns else y.pinchAt
           streak := if y.service = svcFenced ∧ cell ∉ y.failCells then y.streak + 1 else y.streak })
         exec (.marchResult p true) s =
           .next (u.endTest p (if (u.slot p).service ≠ svcTest then (u.slot p).service else if (u.slot p).prior = svcWatch then svcWatch else svcStanding)
           (if x.slipped then 2 else 0)))))

/-- A slot whose test fails: a FENCED slot stays so and remembers the cell, a conditionally fenced one with fewer than four cells adds the cell, and any other becomes
FENCED. The repair map of an array never marks more than two rows and two columns, whatever is added. -/
def Obligations.FailedTestsFence : Prop :=
  (∀ (s : State) (p : Nat),
    let x := s.slot p
    let cell := s.cellOf p
    (x.service = svcFenced → s.testFails p =
      (s.modSlot p (fun y => if cell ∈ y.failCells then y else { y with failCells := y.failCells ++ [cell], streak := 0 })).endTest p svcFenced 2) ∧
    (x.service = svcCond → x.cells.length < 4 → s.testFails p =
      ((s.modSlot p (fun y => { y with cells := y.cells ++ [cell] })).journal 5 p (cell * 2 ^ 30)).endTest p svcCond 2) ∧
    (x.service ≠ svcFenced → (x.service = svcCond → 4 ≤ x.cells.length) → p < 576 → ((s.testFails p).slot p).service = svcFenced)) ∧
  (∀ (cells : List (Nat × Nat)) (rows cols : Nat) (c : List Nat × List Nat), c ∈ covers cells rows cols →
    c.1.length ≤ rows ∧ c.2.length ≤ cols ∧ ∀ q ∈ cells, q.1 ∈ c.1 ∨ q.2 ∈ c.2)

/-- CONDITION_EVALUATE, WATCH_EXPIRE and CINDER_TIMEOUT. A conditionally fenced slot whose present cell comes near a recorded one gives its work to the resting
slot, the tests of both abandoned, and takes it back when it is no longer near. A watch of WATCH_H hours without a failure ends. A FENCED slot that passes
nothing for 168 hours becomes CINDER. Earlier than that, and in any other state, nothing changes. -/
def Sys2Proof.Claims.SlotTimersRun : Prop :=
  ∀ (p : PhysId) (s : State),
    let r := p.val / 9
    let x := s.slot p
    let near := x.cells.any (fun c => cellNear (s.cellOf p) c)
    (x.service ≠ svcCond ∨ (s.row r).move.isSome = true ∨ near = x.condActive → exec (.conditionEvaluate p) s = .next s) ∧
    (x.service = svcCond → (s.row r).move = none → near = false → x.condActive = true → exec (.conditionEvaluate p) s =
      .next ((s.modSlot p (fun y => { y with condActive := false })).beginMove r (p % 9) (s.row r).rest [] false false false)) ∧
    (∀ g, x.service = svcCond → (s.row r).move = none → near = true → x.condActive = false → (s.abandonTest p).resting r = some g →
      let u := (s.abandonTest p).abandonTest (r * 9 + g)
      u.resting r = some g →
      let w := u.modSlot p (fun y => { y with condActive := true })
      exec (.conditionEvaluate p) s = .next ((w.setRow r { w.row r with rest := g }).beginMove r g (p % 9) [] false false true)) ∧
    (let ends := s.ns < x.watchAt + hoursNs (s.regField rSMD_PERIOD 63 56)
     (x.service ≠ svcWatch ∨ x.test.isSome = true ∨ ends → exec (.watchExpire p) s = .next s) ∧
     (x.service = svcWatch → x.test = none → ¬ends → exec (.watchExpire p) s =
       .next (s.setSlot p { x with service := if (s.holder p).isSome then svcIn else svcStanding }))) ∧
    (let early := s.ns < max x.watchAt (x.passedAt.getD 0) + 168 * 3600000000000
     (x.service ≠ svcFenced ∨ early → exec (.cinderTimeout p) s = .next s) ∧
     (x.service = svcFenced → ¬early →
       let u := s.abandonTest p
       exec (.cinderTimeout p) s = .next (((u.modSlot p (fun x => { x with service := svcCinder, on := false })).smdStat 3).journal 2 p 0)))

/-! ## Migrations and layout revisions -/

/-- MIGRATION_FREEZE, MIGRATION_FORCED and RUN_EMPTY_TIMEOUT on a core that its row's move waits for: tasks at quiet points freeze, and with the last of them the core
counts as frozen; a move that has lasted DEFER_MS freezes every task of a core without a lattice task, and takes one with a lattice task out of the
copy; so does a core that has not run empty within 1 ms. A core that no move waits for is left alone. -/
def Sys2Proof.Claims.MigrationsFreeze : Prop :=
  ∀ (c : CoreId) (s : State),
    let r := c.val / 8
    (s.migrating c = none → exec (.migrationFreeze c) s = .next s ∧ exec (.migrationForced c) s = .next s) ∧
    (∀ m, s.migrating c = some m →
      let u := (s.executing c).foldl (fun s t => if s.quiet c t then s.freezeTask c t .migration else s) s
      exec (.migrationFreeze c) s = .next (if u.executing c = [] then u.markFrozen c m false else u) ∧
      let late := m.since + s.regField rSMD_PERIOD 47 32 * 1000000 ≤ s.ns
      (¬late → exec (.migrationForced c) s = .next s) ∧
      (late → (s.core c).owner = none → exec (.migrationForced c) s =
        .next (((s.freezeAll c .migration).markFrozen c m false).count rSMD_CNT2 31 16 1)) ∧
      (late → (s.core c).owner.isSome = true → exec (.migrationForced c) s = .next (s.forceOut c m))) ∧
    (∀ m, (s.row r).move = some m → m.cols.contains c.val = true → m.frozen.contains c.val = true → m.skip.contains c.val = false →
      s.coreOutstanding c = true →
      ((∃ q ∈ m.times, q.1 = c.val ∧ q.2 + 1000000 < s.ns) → exec (.runEmptyTimeout c) s = .next (s.forceOut c m)) ∧
      ((∀ q ∈ m.times, q.1 = c.val → s.ns ≤ q.2 + 1000000) → exec (.runEmptyTimeout c) s = .next s)) ∧
    ((s.row r).move = none ∨ s.coreOutstanding c = false → exec (.runEmptyTimeout c) s = .next s)

/-- MIGRATION_COMMIT: the next column of a move whose cores are frozen and empty is copied by MIGRATE packets; once they are all acknowledged the map
switches, and its tasks resume; with the last column the move is finished. Before its turn, during a layout revision and without a move nothing happens. A move keeps the number of cores of its row: U has one slot before
and one after. -/
def Sys2Proof.Claims.MigrationsCommit : Prop :=
  ∀ (c : CoreId) (s : State),
    let r := c.val / 8
    ((s.row r).move = none → exec (.migrationCommit c) s = .next s) ∧
    (∀ m, (s.row r).move = some m →
      (m.cols.head? ≠ some c.val ∨ (s.row r).revising = true ∨ s.moveReady m = false → exec (.migrationCommit c) s = .next s) ∧
      (∀ p, m.cols.head? = some c.val → (s.row r).revising = false → s.moveReady m = true → s.slotOf c = some p →
        let v := s.copying r m [c.val] (2 ^ (p % 9))
        let u := (((v.settleCols m [c.val]).commitU r (2 ^ (p % 9))).count rSMD_CNT2 63 32 1).thaw c
        let n : Move := { m with cols := m.cols.tail, copies := none }
        let w := u.setRow r { u.row r with move := some n }
        (v.copied r = false → exec (.migrationCommit c) s = .next v) ∧
        (v.copied r = true → exec (.migrationCommit c) s = .next (if n.cols = [] then w.finishMove r n else w))))

/-- LAYOUT_REVISION and LAYOUT_RESTORE: when every migration of a revision is ready and its copies are acknowledged the map is committed, the revision number rises in SMD_LAYOUT and CXL_HSTAT,
a record is written, and REVISING clears: a revision that makes a core absent sets EXHAUSTED and is DEGRADED, one that restores a core is INFO. ROUTER_FAILURE
marks the six ports of a slot DOWN, and the slot becomes CINDER. Otherwise nothing changes. -/
def Sys2Proof.Claims.LayoutsAreRevised : Prop :=
  (∀ (r : Fin 64) (s : State),
    let ready (m : Move) : Prop := (s.row r).revising = true ∧ s.moveReady m = true
    let done (m : Move) (u : State) : State :=
      let w := u.setRow r { u.row r with revising := false }
      if m.cmd then w.smdDone (r / 16) 0 else w
    ((s.row r).move = none ∨ (s.row r).revising = false → exec (.layoutRevision r) s = .next s ∧ exec (.layoutRestore r) s = .next s) ∧
    (∀ m, (s.row r).move = some m →
      (s.moveReady m = false → exec (.layoutRevision r) s = .next s ∧ exec (.layoutRestore r) s = .next s) ∧
      let v := s.copying r m m.cols (s.lostMask r)
      (ready m → v.copied r = false → exec (if s.restores r then .layoutRestore r else .layoutRevision r) s = .next v) ∧
      (ready m → s.restores r = false → exec (.layoutRestore r) s = .next s) ∧ (ready m → s.restores r = true → exec (.layoutRevision r) s = .next s) ∧
      (ready m → s.restores r = false → v.copied r = true → exec (.layoutRevision r) s =
        .next (done m ((((v.commitRevision r m).raiseLayout).smdStat 10).record ⟨sevDegraded, 18, 10, 0, 0, 0, 0, 0, 0⟩))) ∧
      (ready m → s.restores r = true → v.copied r = true → exec (.layoutRestore r) s =
        .next (done m (((v.commitRevision r m).raiseLayout).record ⟨sevInfo, 18, 10, 0, 0, 0, 0, 0, 0⟩))))) ∧
  (∀ (s : State), (s.raiseLayout).regField rSMD_LAYOUT 15 0 = (s.regField rSMD_LAYOUT 15 0 + 1) % 2 ^ 16 ∧
    (s.raiseLayout).regField rCXL_HSTAT 47 32 = (s.raiseLayout).regField rSMD_LAYOUT 15 0) ∧
  (∀ (p : PhysId) (s : State), ((s.slot p).routerOn = false → exec (.routerFailure p) s = .next s) ∧
    ((s.slot p).routerOn = true →
      let u := (List.range 6).foldl (fun s i => s.markPort p i true) (s.smdStat 12)
      exec (.routerFailure p) s = .next (if (s.slot p).service = svcCinder then
        (((u.modSlot p (fun x => { x with routerOn := false })).routerLost p).dropMove (p / 9) false).beginRevision (p / 9) false
        else u.leaveService p svcCinder true false)))

/-- The operations of SMD_CMD, written by the Warden, or by Forester as a SLOT_OP call, which is counted. Before Stage 4, and where the table of operations does not
allow it, an operation ends with REFUSED and does nothing else. Otherwise: TEST makes the slot due, FENCE takes it out of service, UNFENCE gives it back under
watch, CINDER retires it, COND fences it conditionally, MOVE_RESTING moves the resting slot, at once when it is there already, and ABANDON stops the test. A write of
the host is denied. -/
def Obligations.SlotOperations : Prop :=
  ∀ (p : PhysId) (s : State) (who : Initiator), who = .warden ∨ who = .forester →
    let d := p.val / 144
    let r := p.val / 9
    let v := (s.slot p).service
    let free := s.rowBusy r = false ∧ (s.row r).revising = false
    let recent (t : Option Nat) : Prop := ∃ k, t = some k ∧ s.ns ≤ k + s.regField rSMD_PERIOD 31 16 * 1000000000
    let named (op : Nat) (u : State) : State := u.setReg (dieKey d rSMD_CMD) (BitVec.ofNat 64 (2 ^ 63 + op * 2 ^ 12 + p.val % 144))
    let starts (op : Nat) (refused : Bool) : State := named op (if who = .forester then s.countCall refused else s)
    let runs (i : Instr) (op : Nat) (allowed : Prop) (eff : State → State) : Prop :=
      (s.stage < 4 ∨ ¬allowed → exec i s = .next ((starts op true).smdDone d 1)) ∧
      (4 ≤ s.stage → allowed → exec i s = .next (eff (starts op false)))
    runs (.smdTest who p) 0 (v ≠ svcTest ∧ v ≠ svcCinder ∧ ¬(v = svcCond ∧ (s.slot p).condActive = true) ∧ free) (fun u => u.testDue p true) ∧
    runs (.smdFence who p) 1 (v = svcIn ∨ v = svcStanding ∨ v = svcWatch ∨ v = svcCond) (fun u => u.leaveService p svcFenced false true) ∧
    runs (.smdUnfence who p) 2 (v = svcFenced ∧ (s.row r).move = none ∧ (s.row r).revising = false ∧ recent (s.slot p).passedAt ∧
      recent (s.slot p).pinchAt ∧ (s.slot p).repaired = true) (fun u => u.unfence p) ∧
    runs (.smdCinder who p) 3 (v ≠ svcCinder) (fun u => if v = svcFenced then (u.retire p).smdDone d 0 else u.leaveService p svcCinder false true) ∧
    runs (.smdCond who p) 4 (v = svcFenced ∧ s.lostCount r = 1 ∧ free ∧ 32 ≤ (s.slot p).streak ∧ (s.slot p).failCells.length ≤ 4) (fun u => u.condFence p) ∧
    runs (.moveResting who p) 5 (v ≠ svcFenced ∧ v ≠ svcCond ∧ v ≠ svcCinder ∧ (s.resting r = some (p % 9) ∨ ((s.resting r).isSome = true ∧ free)))
      (fun u => if s.resting r = some (p % 9) then u.smdDone d 0 else u.planMove r (p % 9) false true false) ∧
    ((s.slot p).test.isSome = true → runs (.smdAbandon who p) 6 True (fun u => (u.abandonTest p).smdDone d 0)) ∧
    (∀ m, (s.slot p).test = none → (s.row r).move = some m → m.test = true → m.target = p % 9 → runs (.smdAbandon who p) 6 True (fun u =>
      let w := u.testRecord p 0 2 false
      w.setRow r { w.row r with move := some { m with test := false, cmd := true } })) ∧
    ((s.slot p).test = none → (s.row r).move = none → runs (.smdAbandon who p) 6 False id) ∧
    (∀ i ∈ [Instr.smdTest .host p, .smdFence .host p, .smdUnfence .host p, .smdCinder .host p, .smdCond .host p, .moveResting .host p, .smdAbandon .host p],
      s.hostReach (dieKey d rSMD_CMD) = true → s.absentPage (dieKey d rSMD_CMD) = false → s.mayWrite .host .w = false →
        exec i s = .next (s.gate .host (dieKey d rSMD_CMD) .w id))
/-! ## Bring-up and resets -/

/-- Power: PWRGD asserted again is a cold start, and lost stops every domain; what outlives it is OTP, the flash journal and what lies outside the module, and all else is as
State.reset gives it. A rail that leaves its range stops the module, its fault contact held low but for rail 7. Training of the host link starts at the deassertion
of PERST# or 20 ms after power-good. STAGE_0 brings the Stage 0 interface up, with VCORE of every die at 750 mV, or asserts the fault contact. -/
def Sys2Proof.Claims.PowerComesAndGoes : Prop :=
  ∀ s : State,
    (s.boot.pwrgd = false → exec .powerGoodAssert s = .next s.cold) ∧ (s.boot.pwrgd = true → exec .powerGoodAssert s = .next s) ∧
    exec .powerGoodDeassert s = .next { s.cold with boot := { Boot.zero with pwrgd := false } } ∧
    (s.cold.otp = s.otp ∧ s.cold.wdn.journal = s.wdn.journal ∧ s.cold.hostMem = s.hostMem ∧ s.cold.pending = s.pending ∧
      s.cold.regs = State.reset.regs ∧ s.cold.ram = State.reset.ram ∧ s.cold.cores = State.reset.cores ∧ s.cold.jobs = State.reset.jobs) ∧
    (∀ rail : Fin 8, (s.boot.pwrgd = false → exec (.railFault rail) s = .next s) ∧
      (s.boot.pwrgd = true → exec (.railFault rail) s =
        .next { s.cold with boot := { Boot.zero with dead := true, faultLow := decide (rail.val ≠ 7), tripLow := s.boot.tripLow } })) ∧
    (let starts := s.powered = true ∧ s.port.perst = false ∧ (s.boot.warm = true ∨ s.boot.zero_ + 20000000 ≤ s.ns)
     (starts → exec .cxlTrainingStart s = .next { s with boot := { s.boot with training := true } }) ∧
     (¬starts → exec .cxlTrainingStart s = .next s)) ∧
    (∀ ok, s.powered = false ∨ s.stage0 = true → exec (.stage0 ok) s = .next s) ∧
    (s.powered = true → s.stage0 = false →
      exec (.stage0 false) s = .next { s with boot := { s.boot with faultLow := true } } ∧
      exec (.stage0 true) s = .next (((List.range 4).foldl (fun (u : State) d => u.setRegField (dieKey d rPWR_VCORE) 29 16 750)
        { s with boot := { s.boot with stage0 := true } }).reach 0))

/-- STAGE_1 to STAGE_3, each from the stage before it alone. What stops bring-up stops it with its code: unreadable OTP 3, no image slot that passes 1,
a Forester that fails its check or lies below its floors 2, a stack that does not train 16, a lane 17, a seam whose repair wires do not suffice 18, an
area that does not lie in hearth 19, a die without escape tables 32 and a die without a processor 33. Otherwise the stage is reached: Stage 1 with the
newer of the slots that pass, Stage 2 with seams repaired, pool and ranges laid out and Mem_Active, Stage 3 ready. -/
def Sys2Proof.Claims.BringUpStages : Prop :=
  ∀ s : State,
    (∀ ok a b, s.atStage 0 = false → exec (.stage1 ok a b ()) s = .next s) ∧ (∀ rep, s.atStage 1 = false → exec (.stage2 rep) s = .next s) ∧
    (∀ bad routers esc mps, s.atStage 2 = false → exec (.stage3 bad routers esc mps) s = .next s) ∧
    (s.atStage 0 = true → ∀ a b : Bytes,
      let ra := s.slotReason a
      let rb := s.slotReason b
      let seen := s.setReg rBOOT_IMAGE (BitVec.ofNat 64 (ra * 2 ^ 48 + rb * 2 ^ 52))
      let useB := decide (ra ≠ 0 ∨ (rb = 0 ∧ leAt a 12 8 < leAt b 12 8))
      let img := if useB then b else a
      let seq := wordAt img 12
      let took := seen.setReg rBOOT_IMAGE (setBit (setBit (setField (seen.reg rBOOT_IMAGE) 47 0 (field seq 47 0)) 63 useB) 62 (useB && decide (ra ≠ 0)))
      exec (.stage1 false a b ()) s = .next (s.bootFail 3 0) ∧
      (ra ≠ 0 → rb ≠ 0 → exec (.stage1 true a b ()) s = .next (seen.bootFail 1 (ra + rb * 16))) ∧
      (ra = 0 ∨ rb = 0 →
        (took.foresterOk (sectionOf img 5) = false → exec (.stage1 true a b ()) s = .next (took.bootFail 2 0)) ∧
        (took.foresterOk (sectionOf img 5) = true → exec (.stage1 true a b ()) s = .next (({ took with
          boot := { took.boot with image := some (parseImage img), imgSeq := seq }
          wdn := { took.wdn with beatAt := took.ns, restarts := [], restarting := false } }.applyDefects.applyParams).reach 1)))) ∧
    (s.atStage 1 = true → ∀ rep : Stage2Report,
      (∀ k, rep.hbmTrainFail = some k → exec (.stage2 rep) s = .next (s.bootFail 16 k)) ∧
      (rep.hbmTrainFail = none →
        (∀ k, rep.hbmLaneFail = some k → exec (.stage2 rep) s = .next (s.bootFail 17 k)) ∧
        (rep.hbmLaneFail = none → (∀ k, s.seamsUnfit rep.seamBad = some k → exec (.stage2 rep) s = .next (s.bootFail 18 k)) ∧
          (s.seamsUnfit rep.seamBad = none →
            let a := (((s.repairSeams rep.seamBad).bringHearth rep).bringPeat rep.peatBad).bringPorts rep
            let spares := min ((rep.hbmSpares.map (fun x => x.toNat)).sum) 255
            let excluded := ((List.range 12).filter (fun k => bitOf (a.reg (chanKey k rPEAT_Cc_CFG)) 2)).foldl (fun m k => m + 2 ^ k) 0
            let b := (((a.setRegField rBOOT_LINKS 51 51 (b2n rep.cxlReduced)).setRegField rBOOT_LINKS 50 39 excluded).setRegField rBOOT_LINKS 38 31 spares).setRegField
              rBOOT_LINKS 30 21 (min a.seamRepairs 1023)
            let u := if rep.cxlReduced then b.record ⟨sevDegraded, 19, 0, 0, 0, 0, 0, 0, 0⟩ else b
            (∀ k, u.layoutFault = some k → exec (.stage2 rep) s = .next (u.bootFail 19 k)) ∧
            (u.layoutFault = none → exec (.stage2 rep) s = .next
              (({ (((u.bringPool.bringRanges).orReg rTIER_STATUS 512).reach 2).flushEarly with early := [] }).setRegField rCXL_HSTAT 19 19 1)))))) ∧
    (s.atStage 2 = true → ∀ (bad : List SlotFail) (routers : List PhysId) (esc : EscPlan) (mps : BitVec 16),
      let u := ((s.bootTest bad routers).bootMps mps).buildMap
      let up (x : State) : State :=
        let w := ((x.drawIncarns.seedSpan).reach 4).startRotation
        let v : State := { w with boot := { w.boot with readyAt := w.ns } }
        if v.reduced then v.orReg rBOOT_STATUS 1 else v
      (∀ x, (esc = .keep ∧ u.escKept = true ∧ x = u) ∨
          (∃ b, esc = .tables b ∧ escSetOk b = true ∧ u.escRouted (setEntry b) = true ∧ x = u.installEsc b) →
        (∀ d, deadDie mps = some d → exec (.stage3 bad routers esc mps) s = .next (x.bootFail 33 d)) ∧
        (deadDie mps = none → exec (.stage3 bad routers esc mps) s = .next (up x))) ∧
      (∀ d, esc = .none_ d → u.escKept = false → exec (.stage3 bad routers esc mps) s = .next (u.bootFail 32 d)) ∧
      ((esc = .keep ∧ u.escKept = false) ∨ (∃ b, esc = .tables b ∧ ¬(escSetOk b = true ∧ u.escRouted (setEntry b) = true)) ∨
          (∃ d, esc = .none_ d ∧ u.escKept = true) → exec (.stage3 bad routers esc mps) s = .next s))

/-- What a reset request comes to (R466): a module reset always starts; any other before Stage 4, and a core reset of an absent core, is refused; a compute reset is absorbed
into one in progress unless it adds the test, and a core reset into any reset in progress. The commands of BOOT_RESET: without GO, with another KIND, or while GO reads 1,
nothing starts; a request that starts sets GO, clears DONE and takes effect, one absorbed or refused says so in BOOT_STATUS, and one refused is done at once with RESULT 2. -/
def Sys2Proof.Claims.ResetRequests : Prop :=
  ∀ (who : Initiator) (v : Word) (s : State), Takes s who rBOOT_RESET (classOf rBOOT_RESET) →
    let key := rBOOT_RESET
    let kinds : List (Nat × ResetReq × Instr) := [(0, .compute (bitOf v 19) false, .bootResetCompute who v), (1, .compute (bitOf v 19) true, .bootResetComputeBist who v),
      (2, .core (field v 8 0), .bootResetCore who v), (3, .module, .bootResetModule who v)]
    let old := s.reg key
    let u := s.setReg key (setField (setField (setBit old 19 (bitOf v 19)) 18 16 (field v 18 16)) 8 0 (field v 8 0))
    let w := setField (setBit (setBit (u.reg key) 63 true) 61 false) 60 59 0
    ∀ k ∈ kinds,
      (bitOf v 63 = false ∨ field v 18 16 ≠ k.1 → exec k.2.2 s = .next s) ∧
      (bitOf v 63 = true → field v 18 16 = k.1 →
        (bitOf old 63 = true → exec k.2.2 s = .next u) ∧
        (bitOf old 63 = false →
          (u.judgeReset k.2.1 = 0 → exec k.2.2 s = .next ((u.setReg key w).doReset k.2.1 4)) ∧
          (u.judgeReset k.2.1 = 1 → exec k.2.2 s = .next ((u.setReg key (setField w 60 59 1)).orReg rBOOT_STATUS 4)) ∧
          (u.judgeReset k.2.1 = 2 → exec k.2.2 s = .next ((u.setReg key (setField (setBit (setBit w 63 false) 61 true) 60 59 2)).orReg rBOOT_STATUS 2))))

/-- What requests are refused and absorbed (R466). -/
def Sys2Proof.Claims.ResetsAreJudged : Prop :=
  ∀ (s : State) (keep bist : Bool) (n : Nat),
    s.judgeReset .module = 0 ∧
    (s.stage < 4 → s.judgeReset (.compute keep bist) = 2 ∧ s.judgeReset (.core n) = 2) ∧
    (4 ≤ s.stage → s.present n = false → s.judgeReset (.core n) = 2) ∧
    (4 ≤ s.stage → s.boot.run = none → s.judgeReset (.compute keep bist) = 0 ∧ (s.present n = true → s.judgeReset (.core n) = 0)) ∧
    (∀ k b, 4 ≤ s.stage → s.boot.run = some ⟨none, k, b⟩ →
      s.judgeReset (.compute keep bist) = (if bist = true ∧ b = false then 0 else 1) ∧ (s.present n = true → s.judgeReset (.core n) = 1)) ∧
    (∀ m k b, 4 ≤ s.stage → s.boot.run = some ⟨some m, k, b⟩ →
      s.judgeReset (.compute keep bist) = 0 ∧ (s.present n = true → s.judgeReset (.core n) = 1))

/-- A core reset of core n (R465): its tasks are gone, its queues and sheaves are as new one generation on, its seal numbering restarts and its scratchpad reads zero.
CORE_RESET_COMPLETE and COMPUTE_RESET_COMPLETE release what the reset held, after the test, when the reset has one, and the map, a core made
absent or present again being a layout revision; GO clears with DONE; a reset of another kind, or none, is
left alone. -/
def Sys2Proof.Claims.CoreResetsCompleteAndClear : Prop :=
  (∀ (s : State) (n src : Nat), n < 512 →
    let t := s.startCore n src
    (∀ q, q < 64 → tget (fun _ => 0) (t.core n).qgen q = tget (fun _ => 0) (s.core n).qgen q + 1) ∧
    (∀ slot, (t.core n).task slot = Task.zero) ∧
    (t.sealUnit n).next = 0 ∧
    (∀ a, a < spadSize → tget zeroByte t.ram (spadAddr n 0 + a) = 0)) ∧
  (∀ (c : CoreId) (s : State),
    (∀ k b, s.boot.run = some ⟨some c.val, k, b⟩ →
      (∀ p, s.slotOf c = some p → exec (.coreResetComplete c) s =
        .next (let u := (s.gatherFlush c).modSlot p (fun x => { x with rst := false })
               { u with boot := { u.boot with run := none } }.resetDone)) ∧
      (s.slotOf c = none → exec (.coreResetComplete c) s = .next ({ s with boot := { s.boot with run := none } }.resetDone))) ∧
    ((∀ k b, s.boot.run ≠ some ⟨some c.val, k, b⟩) → exec (.coreResetComplete c) s = .next s) ∧
    (∀ bad routers k bist, s.boot.run = some ⟨none, k, bist⟩ →
      let before := (List.range 512).filter (fun n => s.present n)
      let u := ((if bist then s.bootTest bad routers else s).buildMap).rebuildPages
      let gone := before.filter (fun n => !u.present n)
      let w := gone.foldl (fun u n => u.beaconAbsent n) u
      let x := if gone = [] then w else ((w.raiseLayout).smdStat 10).record ⟨sevDegraded, 18, 10, 0, 0, 0, 0, 0, 0⟩
      let back := (List.range 512).filter (fun n => x.present n && !before.contains n)
      let y := if back = [] then x else x.raiseLayout.record ⟨sevInfo, 18, 10, 0, 0, 0, 0, 0, 0⟩
      exec (.computeResetComplete bad routers) s = .next ({ y with boot := { y.boot with run := none } }.lapseDirectories.resetDone)) ∧
    (∀ bad routers, (∀ k bist, s.boot.run ≠ some ⟨none, k, bist⟩) → exec (.computeResetComplete bad routers) s = .next s))

/-! ## The Warden and Forester -/

/-- MP_TEST, FORESTER_WATCHDOG and HEARTBEAT: a processor in service is tested once per PERIOD_S, the Warden moving off it; one that fails leaves service with a record, and with none left the fault contact is
asserted. Three seconds without a heartbeat restart Forester, with FORESTER_RESTARTED and a record; after four restarts within an hour it stays stopped. A heartbeat sets the timer back. -/
def Sys2Proof.Claims.ProcessorsAreWatched : Prop :=
  ∀ s : State,
    (∀ (k : Fin 16),
      let last := if tget (fun _ => 0) s.wdn.mpAt k = 0 then s.boot.readyAt else tget (fun _ => 0) s.wdn.mpAt k
      let due := s.rotating = true ∧ s.mp k ≠ 3 ∧ last + s.regField rSMD_PERIOD 15 0 * 1000000000 ≤ s.ns
      let t : State := { s with wdn := { s.wdn with mpAt := tset (fun _ => 0) s.wdn.mpAt k s.ns } }
      let u := if t.mp k = 1 then (match t.wardenTarget with
        | some j => t.moveWarden k j
        | none => t) else t
      let w := (u.setMp k 3).record ⟨sevDegraded, 20, 0, 9, k, 0, 0, 0, 0⟩
      let none_ : Bool := (List.range 16).all (fun j => decide (w.mp j = 3))
      (¬due → ∀ pass, exec (.mpTest k pass) s = .next s) ∧
      (due →
        exec (.mpTest k true) s = .next u ∧
        (none_ = false → exec (.mpTest k false) s = .next w) ∧
        (none_ = true → exec (.mpTest k false) s =
          .next { w.record ⟨sevDevice, 20, 0, 0, 0, 0, 0, 0, 0⟩ with boot := { w.boot with faultLow := true } }))) ∧
    (let recent := s.wdn.restarts.filter (fun t => decide (s.ns ≤ t + 3600000000000))
     let silent := s.powered = true ∧ s.boot.image.isSome = true ∧ bitOf (s.reg rWDN_STATUS) 11 = false ∧ s.wdn.beatAt + 3000000000 ≤ s.ns
     (¬silent → exec .foresterWatchdog s = .next s) ∧
     (silent → recent.length < 4 → exec .foresterWatchdog s =
       .next (({ s with wdn := { s.wdn with restarting := true, beatAt := s.ns, restarts := recent ++ [s.ns] } }.orReg rWDN_STATUS 4).record
         ⟨sevDegraded, 20, 2, 0, 0, 0, 0, 0, 0⟩)) ∧
     (silent → 4 ≤ recent.length → exec .foresterWatchdog s =
       .next ({ s with wdn := { s.wdn with restarting := false } }.orReg rWDN_STATUS 2048))) ∧
    (let u : State := { s with wdn := { s.wdn with restarting := false } }
     (u.foresterRuns = true →
       let w := u.countCall false
       exec .heartbeat s = .next ({ w with wdn := { w.wdn with beatAt := w.ns } }.callResult 0 0)) ∧
     (u.foresterRuns = false → exec .heartbeat s = .next u))

/-- The calls of the Warden (R479, R480). Without a running Forester no call comes. A call whose arguments are out of range answers BAD_CALL and one that would change what is changing
BUSY, both uncounted; a call that a check refuses answers REFUSED with the number of the first check that fails, is counted as refused, and changes nothing else; any other
is counted, takes its effect, and answers OK. For each call: its ranges, when it is busy, its checks, and its effect. -/
def Sys2Proof.Claims.WardenCallsAreJudged : Prop :=
  ∀ s : State,
    let counted (refused : Bool) : State := s.countCall refused
    let ok (u : State) : State := u.callResult 0 0
    let answers (i : Instr) (range busy : Prop) (checks : List Prop) (eff : State → State) : Prop :=
      (s.foresterRuns = false → exec i s = .next s) ∧
      (s.foresterRuns = true → ¬range → exec i s = .next (s.callResult 2 0)) ∧
      (s.foresterRuns = true → range → busy → exec i s = .next (s.callResult 3 0)) ∧
      (∀ k, s.foresterRuns = true → range → ¬busy → (∀ q ∈ checks.take k, q) → (∃ q, checks[k]? = some q ∧ ¬q) →
        exec i s = .next ((counted true).callResult 1 (k + 1))) ∧
      (s.foresterRuns = true → range → ¬busy → (∀ q ∈ checks, q) → exec i s = .next (ok (eff (counted false))))
    (∀ die slot op : Word, 
      let p := die.toNat * 144 + slot.toNat
      let range := die.toNat < 4 ∧ slot.toNat < 144 ∧ op.toNat ≤ 6
      (s.foresterRuns = false → exec (.slotOp die slot op) s = .next s) ∧
      (s.foresterRuns = true → ¬range → exec (.slotOp die slot op) s = .next (s.callResult 2 0)) ∧
      (s.foresterRuns = true → range → s.stage < 4 → exec (.slotOp die slot op) s = .next ((counted true).callResult 1 1)) ∧
      (∀ k, s.foresterRuns = true → range → 4 ≤ s.stage → s.slotOpCheck op.toNat p = some k →
        exec (.slotOp die slot op) s = .next ((counted true).callResult 1 k)) ∧
      (s.foresterRuns = true → range → 4 ≤ s.stage → s.slotOpCheck op.toNat p = none →
        exec (.slotOp die slot op) s = .next (ok ((counted false).smdGo op.toNat p)))) ∧
    (∀ core link adjust : Word, answers (.setSlack core link adjust) (core.toNat < 512 ∧ link.toNat < 4) False
      [s.present core.toNat = true, adjust.toNat ≤ 24] (fun u => u.writeSlack core.toNat link.toNat adjust)) ∧
    (∀ table : Bytes, answers (.escInstall table) (escSetOk table = true) False [s.escRouted (setEntry table) = true] (fun u => u.installEsc table)) ∧
    (∀ (core port : Word) (down : Bool) (p : Nat), s.slotOf core.toNat = some p →
      answers (.portMark core port down) (core.toNat < 512 ∧ port.toNat < 6) False
        [(s.markPort p port.toNat down).escRouted s.escape = true] (fun u => u.markPort p port.toNat down)) ∧
    (∀ (core port : Word) (down : Bool), s.slotOf core.toNat = none →
      answers (.portMark core port down) (core.toNat < 512 ∧ port.toNat < 6) False [s.escRouted s.escape = true] id) ∧
    (∀ die seam wire data : Word, answers (.seamRepair die seam wire data)
      (die.toNat < 4 ∧ seam.toNat < 2 ∧ wire.toNat < 128 ∧ (data.toNat < 3072 ∨ data.toNat = wireFree)) False
      [s.seamWire die.toNat seam.toNat wire.toNat = wireFree ∨ data.toNat = wireFree,
       ∀ r, seamLinkOf seam.toNat data.toNat = some r → ∀ k < r, s.seamLinkUp die.toNat seam.toNat k = true]
      (fun u => u.setSeamWire die.toNat seam.toNat wire.toNat data.toNat)) ∧
    (∀ die chan : Word, let key := chanKey (die.toNat * 3 + chan.toNat) rPEAT_Cc_PPR
      answers (.pprGo die chan) (die.toNat < 4 ∧ chan.toNat < 3) False [bitOf (s.reg key) 63 = true] (fun u =>
        let hard := bitOf u.fresh.1 0
        let w := u.fresh.2
        let w := if hard then w.journalEntry (BitVec.ofNat 64 (6 * 2 ^ 60 + (die.toNat * 3 + chan.toNat) * 2 ^ 56 + w.regField key 55 28 * 2 ^ 28)) else w
        w.setReg key (setBit (w.reg key) 62 true))) ∧
    (∀ w base limit ctrl : Word, answers (.windowSet w base limit ctrl) (w.toNat < 4096 ∧ base.toNat < 2 ^ 48 ∧ limit.toNat < 2 ^ 48) False
      [w.toNat ≠ 4095, bitOf ctrl 63 = false ∨ s.windowGranted base limit ctrl = true, s.windowWritable w.toNat base limit ctrl = true]
      (fun u => (if bitOf (u.reg (rSPAN_WINw_CTRL + 32 * w.toNat)) 63 then u
        else (u.spanWindowWrite w.toNat 0 base).spanWindowWrite w.toNat 1 limit).spanWindowWrite w.toNat 2 ctrl)) ∧
    (∀ d entry : Word, answers (.routeSet d entry) (d.toNat < 65536) False [s.routeAllowed d.toNat entry = true]
      (fun u => u.routeWrite (BitVec.ofNat 16 d.toNat) entry)) ∧
    (∀ d slot : Word, let dev : BitVec 16 := BitVec.ofNat 16 d.toNat
      answers (.keyAgree d slot) (d.toNat < 65536) ((s.kxWith dev).isSome = true)
        [(1 ≤ slot.toNat ∧ slot.toNat ≤ 255) ∧ (tget (fun _ => 0) s.wdn.bound slot.toNat = 0 ∨ s.boundTo slot.toNat dev.toNat = true)]
        (fun u => u.fresh.2.startKx dev slot.toNat u.fresh.1 true)) ∧
    (∀ slot : Word, let idle := 1 - s.txPhase slot.toNat
      answers (.keySwitch slot) (1 ≤ slot.toNat ∧ slot.toNat < 256) False
        [(s.spanKey (keyIndex slot.toNat idle 0)).valid = true ∧ (s.spanKey (keyIndex slot.toNat idle 1)).valid = true]
        (fun u => u.keyIdxWrite (BitVec.ofNat 64 (slot.toNat + idle * 2 ^ 16)))) ∧
    (∀ (kind core : Word) (keep : Bool),
      let r : ResetReq := if kind = 0 then .compute keep false else if kind = 1 then .compute keep true else if kind = 2 then .core core.toNat else .module
      answers (.reset kind core keep) (kind.toNat < 4 ∧ core.toNat < 512) (bitOf (s.reg rBOOT_RESET) 63 = true) [s.judgeReset r ≠ 2]
        (fun u => u.bootResetWrite (BitVec.ofNat 64 (2 ^ 63 + b2n keep * 2 ^ 19 + kind.toNat * 2 ^ 16 + core.toNat)))) ∧
    (∀ (which : Word) (img : TurcaImage), s.boot.image = some img →
      answers (.floorRaise which) (which.toNat < 2) False [s.stage = 4 ∧ s.boot.readyAt + 3600000000000 ≤ s.ns] (fun u =>
        if which = 0 then (u.raiseFloor 0x100 0 (min 64 (field s.boot.imgSeq 63 48))).raiseFloor 0x108 0 (min 64 (field s.boot.imgSeq 63 48 - 64))
        else (u.raiseFloor 0x110 0 (min 32 img.wsvn.toNat)).raiseFloor 0x110 32 (min 32 img.fsvn.toNat))) ∧
    answers .shadowExit True False [s.paramN 0x23 0 100000 ≤ s.regField rMGT_SHADOWCNT 31 0]
      (fun u => { u with wdn := { u.wdn with shadowDone := true } }) ∧
    (∀ sev code d0 d1 : Word, answers (.logNote sev code d0 d1) (code.toNat < 65536) False [sev.toNat ≤ sevDegraded]
      (fun u => u.record ⟨sev.toNat, 24, code.toNat, 0, 0, 0, 0, d0, d1⟩)) ∧
    (∀ ns : Word, answers (.timeStep ns) True False [1 ≤ ns.toNat ∧ ns.toNat ≤ 2 ^ 62]
      (fun u => { u with time := u.time + ns.toNat * 2 ^ 32 }.setReg rMGT_TIMESTEP (u.reg rMGT_TIMESTEP + ns))) ∧
    (∀ (rec primary win addr : Word) (got : Option Bytes) (v : State), let q := s.digestRing
      let i : Instr := .shadowPair rec primary win addr got
      let keyed := s.keySlot (BitVec.ofNat 16 primary.toNat) ≠ 0
      let range := q.1 ≤ rec.toNat ∧ rec.toNat + 64 ≤ q.1 + q.2 ∧ rec.toNat % 64 = 0 ∧ primary.toNat < 65536 ∧ win.toNat < 4096 ∧ addr.toNat < 2 ^ 48
      (s.foresterRuns = false → ¬range → exec i s = .next s) ∧
      (s.foresterRuns = true → ¬range → exec i s = .next (s.callResult 2 0)) ∧
      (∀ go, range → s.snooped rec.toNat 64 false = (go, v) → s.foresterRuns = true →
        (keyed → got = none ∨ go = false → exec i s = .next (v.callResult 3 0)) ∧
        (¬keyed → exec i s = .next ((v.countCall true).callResult 1 1)) ∧
        (∀ g, keyed → go = true → got = some g →
          let u := v.countCall false
          (∀ b w, u.readMem rec.toNat 64 = (some b, w) → exec i s = .next (ok (w.comparePair b (g.take 64)))) ∧
          (∀ w, u.readMem rec.toNat 64 = (none, w) → exec i s = .next (ok w)))))

/-- SOFT_REPAIR: a row or column that a diagnostic pass located on the array within the last second, whose union with the fuses fits the spares, is journaled and written to ARR_REPAIR;
another is refused with the number of the check, and while the array streams or loads the call is BUSY. -/
def Sys2Proof.Claims.SoftRepairsAreChecked : Prop :=
  ∀ (die slot array idx : Word) (row : Bool) (s : State) (n : Nat),
    let p := die.toNat * 144 + slot.toNat
    let a := array.toNat
    let i := idx.toNat
    let key := s.pageKey p (rARR_REPAIRa + 8 * a)
    let located := ∃ c r t, ((s.core n).array a).located = some (c, r, t) ∧ (if row then r else c) = i ∧ s.ns ≤ t + 1000000000
    let call := exec (.softRepair die slot array row idx) s
    s.foresterRuns = true → die.toNat < 4 → slot.toNat < 144 → a < 4 → i ≤ (if row then 65 else 66) → s.holder p = some n →
      ((s.core n).streaming a = true ∨ (s.core n).loading a = true → call = .next (s.callResult 3 0)) ∧
      ((s.core n).streaming a = false → (s.core n).loading a = false →
        (¬located → call = .next ((s.countCall true).callResult 1 1)) ∧
        (located → (if row then markRow (s.reg key) i else markCol (s.reg key) i) = none → call = .next ((s.countCall true).callResult 1 2)) ∧
        (∀ w, located → (if row then markRow (s.reg key) i else markCol (s.reg key) i) = some w →
          (overSpares w (Config.arrFuse p a) = true → call = .next ((s.countCall true).callResult 1 2)) ∧
          (overSpares w (Config.arrFuse p a) = false →
            let u := ((s.countCall false).journal (if row then 3 else 4) p (a * 2 ^ 48 + i * 2 ^ 41)).modSlot p (fun y => { y with repaired := true })
            call = .next (((u.writeRepair n a w).smdStat 2).callResult 0 0))))

/-- FATAL_DEVICE_CONDITION (R484): a record of severity FATAL_DEVICE, and a module reset unless three such resets fell within the last hour, when bring-up stands failed. Before
Stage 0 there is no condition to see. -/
def Sys2Proof.Claims.FatalConditionsReset : Prop :=
  ∀ (cause : Fin 3) (d : DieId) (s : State),
    let u := s.record ⟨sevDevice, if cause = 2 then 22 else 20, if cause = 2 then 4 else 0, if cause = 1 then 0 else 3, if cause = 1 then 0 else d.val, 0, 0, 0, 0⟩
    let recent := u.boot.fatals.filter (fun t => decide (u.ns ≤ t + 3600000000000))
    (s.powered = false ∨ s.stage0 = false → exec (.fatalDeviceCondition cause d) s = .next s) ∧
    (s.powered = true → s.stage0 = true →
      (3 ≤ recent.length → exec (.fatalDeviceCondition cause d) s = .next (u.setReg rBOOT_STAGE (setBit (u.reg rBOOT_STAGE) 3 true))) ∧
      (recent.length < 3 → exec (.fatalDeviceCondition cause d) s = .next ({ u with boot := { u.boot with fatals := recent ++ [u.ns] } }.moduleReset 4)))
/-! ## Identity, keys, management ports and the time base -/

/-- The SPDM connection: GET_VERSION starts it again; GET_CAPABILITIES and NEGOTIATE_ALGORITHMS follow in turn, with the version offered and the one suite of algorithms. A request out of
turn is UnexpectedRequest. Before Stage 1 none is answered. -/
def Sys2Proof.Claims.ConnectionsAreNegotiated : Prop :=
  ∀ s : State,
    let put (x : Spdm) : State := { s with wdn := { s.wdn with spdm := x } }
    let d := s.wdn.spdm
    let up := s.powered = true ∧ 1 ≤ s.stage
    let early := [Instr.getVersion, .getCapabilities 0x12, .getCapabilities 0x13, .negotiateAlgorithms true, .negotiateAlgorithms false]
    (¬up → ∀ i ∈ early, exec i s = .next s) ∧
    (up →
      exec .getVersion s = .next (put ⟨1, 0, [], .version [0x12, 0x13]⟩) ∧
      (∀ v, d.phase ≠ 1 → exec (.getCapabilities v) s = .next (put { d with ans := .error 0x04 })) ∧
      (∀ v, d.phase = 1 → v = 0x12 ∨ v = 0x13 → exec (.getCapabilities v) s = .next (put { d with phase := 2, version := v, ans := .capabilities v })) ∧
      (∀ v, d.phase = 1 → v ≠ 0x12 → v ≠ 0x13 → exec (.getCapabilities v) s = .next (put { d with ans := .error 0x41 })) ∧
      (∀ c, d.phase ≠ 2 → exec (.negotiateAlgorithms c) s = .next (put { d with ans := .error 0x04 })) ∧
      (d.phase = 2 → exec (.negotiateAlgorithms true) s = .next (put { d with phase := 3, ans := .algorithms }) ∧
        exec (.negotiateAlgorithms false) s = .next (put { d with ans := .error 0x01 })))

/-- What the responder answers once algorithms are agreed and while the module is PROVISIONED or OWNED, and only then: the digest and parts of the chain of slot 0, a signed challenge, the
measurements, and sessions, which KEY_EXCHANGE begins, FINISH completes, KEY_UPDATE rekeys and END_SESSION ends. A request of a session that is not complete is InvalidSession. -/
def Sys2Proof.Claims.AttestationAnswers : Prop :=
  ∀ s : State,
    let put (a : SpdmAns) (u : State) : State := { u with wdn := { u.wdn with spdm := { u.wdn.spdm with ans := a } } }
    let l := s.wdn.spdm.sessions
    let ses (k : List (BitVec 32 × Bool × Nat)) : State := { s with wdn := { s.wdn with spdm := { s.wdn.spdm with sessions := k } } }
    let up := s.powered = true ∧ 1 ≤ s.stage
    let open_ := s.wdn.spdm.phase = 3 ∧ (s.lifecycle = 2 ∨ s.lifecycle = 3)
    let chain := Config.certChain
    let answers (i : Instr) (t : State) : Prop :=
      (¬up → exec i s = .next s) ∧ (up → ¬open_ → exec i s = .next (put (.error 0x04) s)) ∧ (up → open_ → exec i s = .next t)
    answers .getDigests (put (.digests (Config.sm3 chain)) s) ∧
    (∀ slot off len, answers (.getCertificate slot off len) (put (if slot = 0 then .certificate ((chain.drop off).take len) else .error 0x01) s)) ∧
    (∀ slot nonce, answers (.challenge slot nonce)
      (put (if slot = 0 then .challengeAuth (Config.sm2Sign (Config.sm3 (Config.sm3 chain ++ nonce))) else .error 0x01) s)) ∧
    (∀ index : BitVec 8, answers (.getMeasurements index) (put
      (if 1 ≤ index.toNat ∧ index.toNat ≤ 7 then .measurements [(index.toNat, s.measurement index.toNat)]
        else if index = 0xFF then .measurements ((List.range 7).map (fun k => (k + 1, s.measurement (k + 1)))) else .error 0x01) s)) ∧
    (∀ (slot : BitVec 4) (session : BitVec 32) (exchange : Bytes), answers (.keyExchange slot session exchange)
      (if slot ≠ 0 ∨ session ∈ l.map (fun x => x.1) then put (.error 0x01) s
        else put (.keyExchangeRsp session (Config.sm2Sign (Config.sm3 exchange))) (ses (l ++ [(session, false, 0)])))) ∧
    (∀ session : BitVec 32,
      let begun := ∃ n, (session, false, n) ∈ l
      let secured := ∃ n, (session, true, n) ∈ l
      let inside (i : Instr) (t : State) : Prop :=
        (secured → answers i t) ∧ (¬secured → answers i (put (.error 0x02) s))
      (∀ ok, ¬begun → answers (.finish session ok) (put (.error 0x02) s)) ∧
      (begun → answers (.finish session true) (put .finishRsp (ses (l.map (fun x => if x.1 = session then (session, true, x.2.2) else x)))) ∧
        answers (.finish session false) (put (.error 0x06) (ses (l.filter (fun x => decide (x.1 ≠ session)))))) ∧
      inside (.spdmHeartbeat session) (put .heartbeatAck s) ∧
      inside (.keyUpdate session) (put .keyUpdateAck (ses (l.map (fun x => if x.1 = session then (session, true, x.2.2 + 1) else x)))) ∧
      inside (.endSession session) (put .endSessionAck (ses (l.filter (fun x => decide (x.1 ≠ session))))) ∧
      (∀ (stream : Fin 3) (on : Bool), inside (.ideKm session stream on)
        (put (.vendorDefined []) (s.setReg rCXL_HSTAT (setBit (s.reg rCXL_HSTAT) (20 + stream.val) on)))) ∧
      (∀ (owned : Bool) (serial custKey : Bytes) (sigOk : Bool),
        let ok := sigOk = true ∧ serial = tread zeroByte s.otp 0x10 12 ∧ s.lifecycle = (if owned then 2 else 3) ∧ (owned = true → custKey.length = 64)
        (ok → inside (.ownershipRecord session owned serial custKey sigOk)
          (let u := if owned then (s.writeOtp 0x60 custKey).writeOtp 0xA0 ((Config.sm3 custKey).take 32) else s.writeOtp 0xC0 (List.replicate 32 0xFF)
           put (.vendorDefined []) (u.setOtp 0 (2 ^ s.lifecycle)))) ∧
        (¬ok → inside (.ownershipRecord session owned serial custKey sigOk) (put (.error 0x01) s))))

/-- OTP bits are written from 0 to 1 and never back (R472): after any command that answers a next state no bit of OTP that was set reads clear. -/
def Obligations.OtpBitsStaySet : Prop :=
  ∀ (i : Instr) (s t : State) (a k : Nat), (tget zeroByte s.otp a).getLsbD k = true → twf zeroByte s.otp = true → exec i s = .next t →
    (tget zeroByte t.otp a).getLsbD k = true

/-- Key exchange messages are taken from WDN_KXBOX, whose slot then reads zero: a slot that does not hold the kind of message changes nothing; KX_HELLO is answered by a responder whose peer's
chain passed and whose CUSTHASH is equal; KX_REPLY and KX_CONFIRM install the keys when the confirmation is the one that the exchange gives; an exchange that fails is abandoned and
marked; KX_CERT passes a piece to the exchange it belongs to, and begins one for a peer that has none. An exchange of 100 ms is abandoned. -/
def Sys2Proof.Claims.KeyExchangesRun : Prop :=
  ∀ (slot : Fin 8) (s : State),
    let box := tread zeroByte s.wdn.kxBox (512 * slot.val) 512
    let kind := leAt box 0 1
    let dev : BitVec 16 := BitVec.ofNat 16 (leAt box 4 2)
    let id : Word := BitVec.ofNat 64 (leAt box 8 8)
    let body := box.drop 16
    let u : State := { s with wdn := { s.wdn with kxBox := twrite zeroByte s.wdn.kxBox (512 * slot.val) (List.replicate 512 0) } }
    let same := (body.drop 96).take 32 = u.custHash
    ((kind ≠ 1 → exec (.kxCert slot ()) s = .next s) ∧ (kind ≠ 2 → exec (.kxHello slot) s = .next s) ∧ (kind ≠ 3 → exec (.kxReply slot ()) s = .next s) ∧
      (kind ≠ 4 → exec (.kxConfirm slot ()) s = .next s)) ∧
    (u.kxWith dev = none → (kind = 2 → exec (.kxHello slot) s = .next u) ∧ (kind = 3 → exec (.kxReply slot ()) s = .next u) ∧
      (kind = 4 → exec (.kxConfirm slot ()) s = .next u)) ∧
    (∀ x, u.kxWith dev = some x → x.id = id →
      (kind = 1 → exec (.kxCert slot ()) s = .next (u.takePiece x body)) ∧
      (kind = 2 → x.init_ = false → x.certOk = true → x.hello = false →
        (¬same → exec (.kxHello slot) s = .next (u.abandonKx dev)) ∧
        (same →
          let r := (u.freshBytes 12).1
          let w := (u.freshBytes 12).2
          let log := body.take 128 ++ r ++ w.custHash
          exec (.kxHello slot) s = .next ((w.setKx dev (some { x with hello := true, log := log })).kxSend dev 3 id
            (r ++ w.custHash ++ (Config.sm2Keys log 1).take 32)))) ∧
      (kind = 3 → x.init_ = true → x.certOk = true → x.hello = true →
        let y := { x with log := x.log ++ body.take 128 }
        let fits := (body.drop 128).take 32 = (Config.sm2Keys y.log 1).take 32 ∧ same
        (¬fits → exec (.kxReply slot ()) s = .next (u.abandonKx dev)) ∧
        (fits → exec (.kxReply slot ()) s = .next ((u.kxSend dev 4 id ((Config.sm2Keys y.log 2).take 32)).finishKx y))) ∧
      (kind = 4 → x.init_ = false → x.hello = true →
        let fits := body.take 32 = (Config.sm2Keys x.log 2).take 32
        (fits → exec (.kxConfirm slot ()) s = .next (u.finishKx x)) ∧ (¬fits → exec (.kxConfirm slot ()) s = .next (u.abandonKx dev)))) ∧
    (kind = 1 → u.kxWith dev = none → ∀ (k : Nat) (x : Kx), u.responderSlot dev = some k → (u.startKx dev k id false).kxWith dev = some x →
      exec (.kxCert slot ()) s = .next ((u.startKx dev k id false).takePiece x body)) ∧
    (∀ peer, (s.kxWith peer = none → exec (.kxTimeout peer) s = .next s) ∧
      (∀ x, s.kxWith peer = some x → (s.ns < x.since + 100000000 → exec (.kxTimeout peer) s = .next s) ∧
        (x.since + 100000000 ≤ s.ns → exec (.kxTimeout peer) s = .next (s.abandonKx peer))))

/-- The management ports: NET_DATAGRAM sends the first 16 records that wait, and nothing when none does; NETKEY_WRITE writes the key in four parts, and zero removes it; a sensor is
read from Stage 0 on, and no other number is a sensor; PLDM resets are asked for with cause 3, from Stage 0 on. -/
def Sys2Proof.Claims.ManagementPorts : Prop :=
  ∀ s : State,
    (s.netQ = [] ∨ s.powered = false → exec .netDatagram s = .next s) ∧
    (s.netQ ≠ [] → s.powered = true → exec .netDatagram s =
      .next { s with netQ := s.netQ.drop 16, wdn := { s.wdn with netSent := s.datagram (s.netQ.take 16) } }) ∧
    (∀ (who : Initiator) (v : Word), Takes s who rMGT_NETKEY (classOf rMGT_NETKEY) →
      let w := s.wdn
      exec (.netkeyWrite who v) s = .next (if v = 0 then { s with wdn := { w with netKey := [], netKeyAt := 0, netKeyOn := false } }
        else { s with wdn := { w with
          netKey := twrite zeroByte w.netKey (8 * w.netKeyAt) (leBytes 8 v.toNat), netKeyAt := (w.netKeyAt + 1) % 4
          netKeyOn := w.netKeyOn || decide (w.netKeyAt = 3) } })) ∧
    (let up := s.powered = true ∧ s.stage0 = true
     let gives (i : Nat) (v : Option Nat) : Prop := exec (.pldmSensorRead (BitVec.ofNat 8 i)) s = .next { s with wdn := { s.wdn with pldmAns := v } }
     (¬up → (∀ i, exec (.pldmSensorRead i) s = .next s) ∧ exec .pldmModuleReset s = .next s ∧ ∀ b, exec (.pldmComputeReset b) s = .next s) ∧
     (up → gives 0 (some (s.regField (dieKey 0 rPWR_MOD) 15 0)) ∧
       (∀ d, d < 4 → gives (d + 1) (some (s.regField (dieKey d rPWR_VCORE) 43 30)) ∧ gives (d + 5) (some (s.regField (dieKey d rPWR_TEMP) 23 16))) ∧
       (∀ k, k < 12 → gives (k + 9) (some (s.regField (stackKey k rHTH_Ss_STATE) 31 24))) ∧ gives 21 (some s.stage) ∧
       (∀ i, 23 ≤ i → i < 256 → gives i none) ∧
       exec (.pldmSensorRead 22) s = .next { s.fresh.2 with wdn := { s.fresh.2.wdn with pldmAns := some s.fresh.1.toNat } } ∧
       exec .pldmModuleReset s = .next (s.askReset .module 3).2 ∧ (∀ b, exec (.pldmComputeReset b) s = .next (s.askReset (.compute true b) 3).2)))

/-- The time base and the log: a tick adds 10 ns, corrected by RATE in parts per thousand million, and nothing without power; a read of the low half holds the high half for that initiator's next
read of it; LOGDATA_READ takes the record of slot LOGIDX whole, all ones before Stage 2. A read that does not reach the register changes nothing. -/
def Sys2Proof.Claims.TimeAndLogAreRead : Prop :=
  ∀ s : State,
    (s.powered = false → exec .timeBaseTick s = .next s) ∧
    (s.powered = true → exec .timeBaseTick s = .next { s with time := s.time + s.tickStep }) ∧
    (s.regField rMGT_TIMERATE 31 0 = 0 → s.tickStep = 10 * 2 ^ 32) ∧
    (∀ who, (s.readReach who rMGT_TIME = false → exec (.timeLowRead who) s = .next s) ∧
      (s.readReach who rMGT_TIME = true → exec (.timeLowRead who) s =
        .next { s with wdn := { s.wdn with latch := tset (fun _ => 0) s.wdn.latch (initCode who) (s.ns / 2 ^ 32 + 1) } })) ∧
    (∀ who,
      let shows (u : State) (b : Bytes) : State := (List.range 8).foldl (fun s j => s.setReg (rMGT_LOGDATAj + 8 * j) (BitVec.ofNat 64 (leAt b (8 * j) 8))) u
      (s.readReach who rMGT_LOGDATAj = false → exec (.logdataRead who) s = .next s) ∧
      (s.readReach who rMGT_LOGDATAj = true →
        (s.stage < 2 → exec (.logdataRead who) s = .next (shows s (List.replicate 64 0xFF))) ∧
        (2 ≤ s.stage → ∀ b u, s.ringRead (logRing + s.regField rMGT_LOGIDX 15 0 * 64) 64 = (some b, u) → exec (.logdataRead who) s = .next (shows u b)) ∧
        (2 ≤ s.stage → ∀ u, s.ringRead (logRing + s.regField rMGT_LOGIDX 15 0 * 64) 64 = (none, u) →
          exec (.logdataRead who) s = .next (shows (u.freshBytes 8).2 (u.freshBytes 8).1))))

/-! ## Power -/

/-- POWER_SAMPLE, every 10 µs: VIN within 1 % of a limit of its range sets RAIL_WARN; PWR_MOD shows VIN, the average of the samples kept and the sample, energy is counted in units of 100 samples × watts, and a sample above PEAK_W, or one that brings the
samples above SUSTAIN_W of the last 100 ms to PEAK_MS worth, lowers each die by 25 mV at once, no lower than its floor, and sets PEAK. -/
def Sys2Proof.Claims.PowerSamplesAreJudged : Prop :=
  ∀ (watts vin : BitVec 16) (s : State),
    let w := watts.toNat
    let a : State := if vin.toNat ≤ 4040 ∨ 5940 ≤ vin.toNat then s.orReg (dieKey 0 rPWR_STATUS) 64 else s
    let p : Power := { a.power with
      samples := (w :: a.power.samples).take 100000, above := a.power.above || decide (a.sustainW < w), energy := (a.power.energy + w) % 100, sampleAt := some a.ns }
    let u := ({ a with power := p }.dieEvent 0 0x14 0 ((a.power.energy + w) / 100))
    let due := s.powered = true ∧ ∀ t, s.power.sampleAt = some t → t + 10000 ≤ s.ns
    let v := u.setReg (dieKey 0 rPWR_MOD) (BitVec.ofNat 64 (vin.toNat * 2 ^ 48 + p.average * 2 ^ 16 + w))
    let high := v.peakW < w ∨ (v.sustainW < w ∧ v.peakSamples ≤ p.aboveIn v.sustainW)
    (¬due → exec (.powerSample watts vin) s = .next s) ∧
    (due → (¬high → exec (.powerSample watts vin) s = .next v) ∧
      (high → exec (.powerSample watts vin) s = .next ((List.range 4).foldl (fun s d => (s.lowerMv d 25).orReg (dieKey d rPWR_STATUS) 8) v))) ∧
    (∀ d mv, d < 4 → mv ≤ s.setMv d → s.floorMv d ≤ s.setMv d → (s.lowerMv d mv).setMv d = max (s.floorMv d) (s.setMv d - mv))

/-- POWER_CONTROL_STEP, every 100 µs: the measured voltage and current of each die, the power of each, and one step of each die; THERMAL_SAMPLE: the hottest junction, the mean and the rows of a die, a stop at
TRIP_C, the throttle set at its limit and cleared 2 °C below; VCORE_DROOP: an event, and a fatal condition below 0.60 V for long or below 0.50 V at all; PACE_MEASURE: the pace, and the slowest. -/
def Sys2Proof.Claims.PowerStepsRun : Prop :=
  ∀ s : State,
    let due := s.powered = true ∧ s.stage0 = true ∧ ∀ t, s.power.stepAt = some t → t + 100000 ≤ s.ns
    (∀ dies, ¬due ∨ dies.length ≠ 4 → exec (.powerControlStep dies) s = .next s) ∧
    (∀ dies : List (BitVec 16 × BitVec 14 × BitVec 10), due → dies.length = 4 →
      let u := dies.zipIdx.foldl (fun (s : State) x =>
        (s.setRegField (dieKey x.2 rPWR_VCORE) 43 30 x.1.2.1.toNat).setRegField (dieKey x.2 rPWR_VCORE) 53 44 x.1.2.2.toNat) s
      let w := dies.map (fun x => x.1.toNat)
      let v : State := { u with power := { u.power with dieW := twrite (fun _ => 0) [] 0 w } }
      let env := v.power.above || decide (v.sustainW < v.power.average)
      let x := (List.range 4).foldl (fun s d => s.stepDie env w.sum d) v
      exec (.powerControlStep dies) s = .next { x with power := { x.power with above := false, droop := [], stepAt := some x.ns } }) ∧
    (∀ (d : DieId) (temps : List (BitVec 8)) (rowMw : List (BitVec 16)),
      (s.powered = false ∨ temps.length ≠ 20 ∨ rowMw.length ≠ 16 → exec (.thermalSample d temps rowMw) s = .next s) ∧
      (s.powered = true → temps.length = 20 → rowMw.length = 16 →
        let t := temps.map (fun x => x.toNat)
        ∀ (i c : Nat), i = hottest t → c = t.getD i 0 →
          let u := rowMw.zipIdx.foldl (fun (s : State) x => s.setReg (dieKey d (rPWR_ROWr + 8 * x.2))
            (BitVec.ofNat 64 (actClass x.1.toNat * 2 ^ 24 + t.getD x.2 0 * 2 ^ 16 + x.1.toNat)))
            (s.setReg (dieKey d rPWR_TEMP) (BitVec.ofNat 64 (i * 2 ^ 24 + c * 2 ^ 16 + t.sum / 20)))
          let trip := field (u.reg (dieKey d rPWR_LIMIT)) 55 48
          let lim := field (u.reg (dieKey d rPWR_LIMIT)) 47 40
          (trip ≤ c → exec (.thermalSample d temps rowMw) s = .next ((u.record ⟨sevDevice, 22, 0, 3, d, 0, 0, 0, 0⟩).stopAll true true)) ∧
          (c < trip → lim ≤ c → exec (.thermalSample d temps rowMw) s =
            .next { u with power := { u.power with hot := (u.power.hot ++ [d.val]).eraseDups } }) ∧
          (c < trip → c < lim → lim < c + 2 → exec (.thermalSample d temps rowMw) s = .next u) ∧
          (c < trip → c + 2 ≤ lim → exec (.thermalSample d temps rowMw) s =
            .next { u with power := { u.power with hot := u.power.hot.filter (fun x => decide (x ≠ d.val)) } }))) ∧
    (∀ (d : DieId) (mv : BitVec 14) (long : Bool),
      let a := ((s.setRegField (dieKey d rPWR_VCORE) 43 30 mv.toNat).setRegField (dieKey d rPWR_VCORE) 53 44 950).orReg (dieKey d rPWR_STATUS) 16
      let u : State := { a with power := { a.power with droop := (a.power.droop ++ [d.val]).eraseDups } }
      let fatal := (mv.toNat < 600 ∧ long = true) ∨ mv.toNat < 500
      (s.powered = false ∨ s.stage0 = false → exec (.vcoreDroop d mv long) s = .next s) ∧
      (s.powered = true → s.stage0 = true → (¬fatal → exec (.vcoreDroop d mv long) s = .next u) ∧
        (fatal → exec (.vcoreDroop d mv long) s = .next (u.fatalDevice ⟨sevDevice, 22, 4, 3, d, 0, 0, 0, 0⟩)))) ∧
    (∀ (d : DieId) (ps : BitVec 16),
      let key := dieKey d rPWR_PACE
      (s.powered = false → exec (.paceMeasure d ps) s = .next s) ∧
      (s.powered = true →
        let u := s.setRegField key 15 0 ps.toNat
        exec (.paceMeasure d ps) s = .next (u.setRegField key 31 16 (max (u.regField key 31 16) ps.toNat))))

/-! ## Registers -/

/-- REGISTER_WRITE: an access that is not an aligned one of 4 or 8 bytes, one without power and one beyond BAR0 are discarded; a write to the mailbox is; and a write to a register takes the effect
of its register's own rule, with a 4-byte write keeping the half it does not reach. SMD_PXDATA reaches the register of the slot that SMD_PXSEL names. -/
def Sys2Proof.Claims.RegisterWritesReach : Prop :=
  ∀ (who : Initiator) (off : BitVec 32) (v : Word) (s : State),
    let o := off.toNat
    let key := o / 8 * 8
    let px := 0x2000000 ≤ key ∧ key < 0x2400000 ∧ key % 0x100000 = rSMD_PXDATA
    let plain := ¬(mboxBase ≤ o ∧ o < mboxBase + 0x1000) ∧ ¬(0x2600000 ≤ o ∧ o < 0x2610000)
    (∀ size, s.powered = false ∨ (size ≠ 4 ∧ size ≠ 8) ∨ o % size ≠ 0 ∨ 0x4000000 ≤ o → exec (.registerWrite who off size v) s = .next s) ∧
    (s.powered = true → o < 0x4000000 →
      (o % 8 = 0 → plain → ¬px → exec (.registerWrite who off 8 v) s = .next (s.writeKey who o v)) ∧
      (o % 8 = 0 → plain → ¬px → exec (.registerWrite who off 4 v) s =
        .next (s.writeKey who o ((v &&& 0xFFFFFFFF) ||| (s.kept o &&& 0xFFFFFFFF00000000)))) ∧
      (o % 8 = 4 → plain → ¬px → exec (.registerWrite who off 4 v) s =
        .next (s.writeKey who key ((v <<< 32) ||| (s.kept key &&& 0xFFFFFFFF)))) ∧
      (∀ size, size = 4 ∨ size = 8 → o % size = 0 → mboxBase ≤ o → o < mboxBase + 0x1000 →
        exec (.registerWrite who off size v) s = .next (s.gate who o .h (fun s => s.mboxWrite o size (v.toNat % 2 ^ (8 * size))))) ∧
      (o % 8 = 0 → px → (who = .host → s.hostReach o = true) →
        let d := (o - 0x2000000) / 0x100000
        exec (.registerWrite who off 8 v) s = .next (s.pxWrite who d v) ∧
        exec (.registerWrite who off 4 v) s = .next (s.pxWrite who d ((v &&& 0xFFFFFFFF) ||| (s.kept (s.pxTarget d).2 &&& 0xFFFFFFFF00000000)))))

/-- R478: a write that its class does not admit changes no core, slot, job or register of a core page: it is discarded, counted in WDN_DENYCNT, which saturates, and
marked in WDN_STATUS; the first since WDN_DENYLOG.VALID was cleared is logged there, with an error record of severity INFO; and it takes none of its effect. -/
def Obligations.DeniedWritesAreDiscarded : Prop :=
  ∀ (s : State) (who : Initiator) (key : Nat) (cls : RegClass) (eff : State → State),
    (who = .host → s.hostReach key = true) → s.absentPage key = false → s.mayWrite who cls = false →
      s.gate who key cls eff = s.deny who key ∧ (s.deny who key).cores = s.cores ∧ (s.deny who key).slots = s.slots ∧ (s.deny who key).jobs = s.jobs ∧
      (∀ k, k < 0x2000000 ∨ 0x100000000 ≤ k → (s.deny who key).reg k = s.reg k) ∧
      bitOf ((s.deny who key).reg rWDN_STATUS) 0 = true ∧
      (s.deny who key).regField rWDN_DENYCNT 31 0 = min (s.regField rWDN_DENYCNT 31 0 + 1) (2 ^ 32 - 1) ∧
      (bitOf (s.reg rWDN_DENYLOG) 63 = true → (s.deny who key).reg rWDN_DENYLOG = s.reg rWDN_DENYLOG) ∧
      (bitOf (s.reg rWDN_DENYLOG) 63 = false →
        bitOf ((s.deny who key).reg rWDN_DENYLOG) 63 = true ∧ ((s.deny who key).reg rMGT_LOG) = s.reg rMGT_LOG + 1 ∧
        ∃ u : State, s.deny who key = u.record ⟨sevInfo, 20, 0, 0, 0, 0, 0, u.reg rWDN_DENYLOG, 0⟩)

/-- What a plain write leaves in a register (R10): RW bits take the value, bits written 1 to clear are cleared where it is 1, bits written 1 to set are set, and every other bit stays; no other
register changes. -/
def Sys2Proof.Claims.RegisterBitsFollowTheirKind : Prop :=
  ∀ (s : State) (key : Nat) (v : Word) (r : RegSpec), regSpec key = some r →
    let t := s.regWrite key v
    let rw := BitVec.ofNat 64 r.rw
    let w1c := BitVec.ofNat 64 r.w1c
    let w1s := BitVec.ofNat 64 r.w1s
    (∀ k, k ≠ key → t.reg k = s.reg k) ∧
    (rw &&& w1c = 0 → rw &&& w1s = 0 → w1c &&& w1s = 0 →
      t.reg key = (v &&& rw) ||| (s.reg key &&& w1c &&& ~~~v) ||| ((s.reg key ||| v) &&& w1s) ||| (s.reg key &&& ~~~(rw ||| w1c ||| w1s)))

/-- READ_TO_CLEAR and SMD_PXDATA_ACCESS: a read returns its register as the initiator sees it, a 4-byte one the half it names, and what reads clear clears; a read that does not reach returns all
ones, and one beyond BAR0 zero; a read of SMD_PXDATA returns the register that SMD_PXSEL names, all ones from the compute domain of a slot without power, and a write reaches it. -/
def Sys2Proof.Claims.RegisterReadsReturn : Prop :=
  ∀ (who : Initiator) (s : State),
    (∀ (off : BitVec 32),
      let o := off.toNat
      let key := o / 8 * 8
      let own := key ≠ rMGT_TIME ∧ key ≠ rMGT_LOGDATAj ∧ ¬(0x2000000 ≤ key ∧ key < 0x2400000 ∧ key % 0x100000 = rSMD_PXDATA) ∧ ¬(0x2600000 ≤ o ∧ o < 0x2610000)
      (∀ size, (size ≠ 4 ∧ size ≠ 8) ∨ o % size ≠ 0 ∨ s.readReach who o = false → exec (.readToClear who off size) s = .next { s with rd := ones64 }) ∧
      (∀ size, size = 4 ∨ size = 8 → o % size = 0 → s.readReach who o = true → 0x4000000 ≤ o → exec (.readToClear who off size) s = .next { s with rd := 0 }) ∧
      (s.readReach who o = true → o < 0x4000000 → own →
        (o % 8 = 0 → exec (.readToClear who off 8) s = .next { s.readClear o ones64 with rd := s.view who o }) ∧
        (o % 8 = 0 → exec (.readToClear who off 4) s = .next { s.readClear o 0xFFFFFFFF with rd := s.view who o &&& 0xFFFFFFFF }) ∧
        (o % 8 = 4 → exec (.readToClear who off 4) s = .next { s.readClear key 0xFFFFFFFF00000000 with rd := s.view who key >>> 32 }))) ∧
    (∀ d : DieId,
      let key := dieKey d rSMD_PXDATA
      let p := (s.pxTarget d).1
      let k := (s.pxTarget d).2
      (s.readReach who key = false → exec (.smdPxdataAccess who d (.page none)) s = .next { s with rd := ones64 }) ∧
      (s.readReach who key = true → (s.slot p).on = false → routerDomain (k % 0x10000) = false → exec (.smdPxdataAccess who d (.page none)) s = .next { s with rd := ones64 }) ∧
      (s.readReach who key = true → (s.slot p).on = true → k % 0x10000 ≠ rCORE_ID →
        exec (.smdPxdataAccess who d (.page none)) s = .next { s.readClear k ones64 with rd := s.view who k }) ∧
      (∀ v, s.powered = true → (who = .host → s.hostReach key = true) → exec (.smdPxdataAccess who d (.page (some v))) s =
        .next (if (s.slot p).on = false ∧ routerDomain (k % 0x10000) = false then s else s.writeKey who k v)) ∧
      (∀ v, s.powered = false ∨ (who = .host ∧ s.hostReach key = false) → exec (.smdPxdataAccess who d (.page (some v))) s = .next s))

/-- An access of the control tree to a scratchpad, of 1, 2, 4 or 8 bytes: a misaligned one and one of an address that is no scratchpad's read all ones and write
nothing; so does one of a group without power, which sets SPAD_STATUS.CTL_PWR. Else, outside gather mode, a read that meets no uncorrectable word returns
the bytes and a write stores them; in gather mode it goes through the gather buffer. -/
def Sys2Proof.Claims.TreeAccessesReachScratchpads : Prop :=
  ∀ (who : Initiator) (d : DieId) (a : BitVec 48) (x : Fin 4) (s : State),
    let size := 2 ^ x.val
    let read : Instr := .smdPxdataAccess who d (.spad a x none)
    let write (v : Word) : Instr := .smdPxdataAccess who d (.spad a x (some v))
    let ones (u : State) : State := { u with rd := BitVec.allOnes 64 }
    (s.powered = false → exec read s = .next s ∧ ∀ v, exec (write v) s = .next s) ∧
    (s.powered = true →
      (a.toNat % size ≠ 0 ∨ (∀ n o, s.kindOf a.toNat ≠ .spad n o) → exec read s = .next (ones s) ∧ ∀ v, exec (write v) s = .next s) ∧
      (∀ n o, s.kindOf a.toNat = .spad n o → a.toNat % size = 0 →
        (s.spadPowered n o size = false → exec read s = .next (ones (s.coreStat n rSPAD_STATUS 3)) ∧
          ∀ v, exec (write v) s = .next (s.coreStat n rSPAD_STATUS 3)) ∧
        (s.spadPowered n o size = true → s.gathering n = false →
          (s.pieceBad n false [(o, size)] = none →
            exec read s = .next { s.noteCe n (spadAddr n o) size with rd := BitVec.ofNat 64 (s.loadN (spadAddr n o) size) }) ∧
          (∀ i, s.pieceBad n false [(o, size)] = some i → exec read s = .next (ones (s.noteUe n i 1 .control 0))) ∧
          (∀ v, s.pieceBad n true [(o, size)] = none →
            exec (write v) s = .next ((s.mergeCe n [(o, size)]).pieceStore n [(o, size)] (leBytes size v.toNat))) ∧
          (∀ v i, s.pieceBad n true [(o, size)] = some i → exec (write v) s = .next (s.noteUe n i 1 .control 0))) ∧
        (s.spadPowered n o size = true → s.gathering n = true → exec read s = .next (s.gatherRead n o size) ∧
          ∀ v, exec (write v) s = .next (s.gatherWrite n o (leBytes size v.toNat)))))

/-- What a narrow write puts into the gather buffer a narrow read of the same bytes returns, before anything is flushed. -/
def Sys2Proof.Claims.GatherReadsBack : Prop :=
  ∀ (n o k : Nat) (bs : Bytes) (s : State), bs.length = 2 ^ k → k < 4 → o % bs.length = 0 →
    spadAddr n (o - o % 8) ∉ (s.gatherAway n o).badWords → ((s.gatherWrite n o bs).gatherRead n o bs.length).rd = BitVec.ofNat 64 (ofLe bs)

/-! ## Statements that join several -/

/-- Illegal forms and code that runs out end the task at issue; an instruction that reads an awaited register waits. -/
def Obligations.InstructionsAreCheckedAtIssue : Prop :=
  Claims.IllegalFormEndsTheTask ∧ Claims.AwaitedRegisterHoldsIssue

/-- The control and scalar instructions: results, register file moves, branches and ends of a task. -/
def Obligations.ScalarInstructionsComplete : Prop :=
  Claims.ScalarResults ∧ Claims.RegisterFileMoves ∧ Claims.ControlFlow ∧ Claims.TaskEnds

/-- LD, ST, circular pointers, the gather buffer, UWAIT and waits whose condition is met. -/
def Obligations.NarrowAccessesComplete : Prop :=
  Claims.LoadsReadTheRegions ∧ Claims.StoresWriteTheRegions ∧ Claims.NarrowAccessesOutsideEndTheTask ∧ Claims.CircularPointersAdvance ∧ Claims.GatherBufferFlushes ∧ Claims.WaitsForUnits

/-- A store changes the bytes it names and no other byte of memory; stored bytes read back, through the gather buffer too. -/
def Obligations.StoresReachTheirBytes : Prop :=
  Claims.StoreChangesOnlyItsBytes ∧ Claims.MemoryReadsBack ∧ Claims.GatherReadsBack

/-- Operand blocks, WLOAD, STREAM and DSET, and the commands of weight loads, streams and activation rows. -/
def Obligations.ArraysLoadAndStream : Prop :=
  Claims.BlocksOutsideEndTheTask ∧ Claims.WeightLoadsBegin ∧ Claims.StreamsQueue ∧ Claims.DrainsAreSetUp ∧ Claims.WeightLoadsComplete ∧ Claims.StreamsStart ∧ Claims.ActivationRows

/-- A weight bank holds the elements of the rows its block names, and a checksum weight for each row. -/
def Obligations.WeightBanksAreFilled : Prop :=
  Claims.WeightBanksHoldTheirRows ∧ Claims.ChecksumWeightsSumTheirRows

/-- Half-sums, rounding windows, tile checks, diagnostic passes and the register writes of arrays and drains. -/
def Obligations.DrainsRoundAndCheck : Prop :=
  Claims.RowsReachDrains ∧ Claims.HalfSumsEnterWindows ∧ Claims.WindowsRound ∧ Claims.TileChecks ∧ Claims.DiagnosticPasses ∧ Claims.RepairAndDrainWrites

/-- ROWOP and its twelve operations queue and complete; writes of statistics windows. -/
def Obligations.RowEngineCompletes : Prop :=
  Claims.RowOperationsQueue ∧ Claims.RowsComplete ∧ Claims.StatisticsWindowWrites

/-- VOP and its 25 operations and VTURN: windows, writes, flags and element values. -/
def Obligations.VectorUnitCompletes : Prop :=
  Claims.VectorOperationsComplete ∧ Claims.VectorOperationsKeepTheirOrder ∧ Claims.VectorElementValues ∧ Claims.TurningCopyCompletes

/-- DMA and DMAWAIT, their packets, responses and requests, in the order of addresses. -/
def Obligations.DmaTransfersRun : Prop :=
  Claims.DmaIssues ∧ Claims.DmaWaits ∧ Claims.DmaPacketsIssue ∧ Claims.DmaResponses ∧ Claims.WritesLeaveInAddressOrder ∧ Claims.DmaRequestsAreServed

/-- Fences and posy reads end, and so do operations that time out on the mesh. -/
def Obligations.FencesAndTimeoutsEnd : Prop :=
  Claims.FencesAndPosies ∧ Claims.MeshTimeouts

/-- BAR, the rounds of barrier groups and the writes that configure them. -/
def Obligations.BarriersRun : Prop :=
  Claims.BarriersJoin ∧ Claims.BeaconRounds ∧ Claims.BeaconGroupWrites

/-- SEND, SENDD, MSEND and the other sends, their acceptance and results. -/
def Obligations.MessagesAreSent : Prop :=
  Claims.SendsLeave ∧ Claims.OtherSendsPost ∧ Claims.SendResults ∧ Claims.MessagesAreAccepted ∧ Claims.PosyReadsAndUnitSends ∧ Claims.RingLandingWrites

/-- RECV, RECVT, RECVC, QDONE, SHFRECV, generations of numbers and rounds of sheaves. -/
def Obligations.QueuesAreRead : Prop :=
  Claims.QueueReads ∧ Claims.QueueGenerationsRise ∧ Claims.SheafRounds

/-- SEALQ answers the state of blocks, and WAITSEAL waits for it. -/
def Obligations.SealsAreAwaited : Prop :=
  Claims.SealQueries ∧ Claims.SealWaits

/-- Verdicts of windows, and the seal messages between units. -/
def Obligations.SealsSettle : Prop :=
  Claims.WindowVerdicts ∧ Claims.VerdictsSettleReferences ∧ Claims.SealMessagesArrive ∧ Claims.SealMessagesEnd

/-- CFGSW, CFGLD and EPOCH, the links that switch with them, and seal lanes. -/
def Obligations.LatticeConfigures : Prop :=
  Claims.ConfigurationSwitches ∧ Claims.ConfigurationLoads ∧ Claims.LinksSwitch ∧ Claims.MarkersReachOutputs ∧ Claims.SealLanes

/-- Tokens and markers on lattice links, slack and stops. -/
def Obligations.LatticeTokensMove : Prop :=
  Claims.TokensArrive ∧ Claims.TokenCodesAreChecked ∧ Claims.TokensMoveOn ∧ Claims.OutputRegistersHold ∧ Claims.SlackIsGranted ∧ Claims.LatticeStops

/-- A task's life: reservation, load, end, scrub, kill and hold; power of bank groups. -/
def Obligations.TasksLive : Prop :=
  Claims.StartsAreReserved ∧ Claims.ReservationsEnd ∧ Claims.TasksLoad ∧ Claims.TasksEndAndScrub ∧ Claims.SlotsAreKilledAndHeld ∧ Claims.BankGroupsPower

/-- EMBER writes checkpoints; a job recovers from them and resumes. -/
def Obligations.CheckpointsAndRecovery : Prop :=
  Claims.CheckpointsAreWritten ∧ Claims.JobsRecover

/-- Reads and writes of hearth and peat, noticed reads, and what stacks and channels report. -/
def Obligations.MemoriesServe : Prop :=
  Claims.RingsServeMemory ∧ Claims.RingsMoveBytes ∧ Claims.NoticedReadsAreServed ∧ Claims.StacksAndChannelsReport

/-- Heat halves at each decay; what COOL, PIN and UNPIN do to a name, and to no other. -/
def Obligations.NamesAreHeatedAndPinned : Prop :=
  Claims.HeatDecays ∧ Claims.NamesAreCooledAndPinned

/-- Swaps of the tier engine, and writes of its policy. -/
def Obligations.SwapsAndPolicies : Prop :=
  Claims.SwapsRun ∧ Claims.TierPolicies

/-- TPREF, and the descriptors of the tier engine: prefetch, cool, pin, unpin and scan. -/
def Obligations.TierDescriptorsRun : Prop :=
  Claims.PrefetchDescriptors ∧ Claims.ScansRun

/-- Flits at a router, and the register writes of the mesh. -/
def Obligations.MeshRoutersRun : Prop :=
  Claims.FlitsArrive ∧ Claims.MeshRegisterWrites

/-- Span ports, their frames, and the keys of links. -/
def Obligations.SpanLinksRun : Prop :=
  Claims.PortsChangeState ∧ Claims.LinksExchangeFrames ∧ Claims.FramesAreReceived ∧ Claims.LinkKeysAreWritten

/-- Span requests, packets and operations, contexts, fences and the register writes of the engine. -/
def Obligations.SpanRequestsRun : Prop :=
  Claims.SpanRequestsLeave ∧ Claims.SpanPacketsArrive ∧ Claims.ContextsGoAndReleaseFences ∧ Claims.SpanOperationsEnd ∧ Claims.SpanRegisterWrites

/-- Span packets of a context are numbered in turn, and taken in the order of their numbers. -/
def Obligations.SpanPacketsKeepTheirOrder : Prop :=
  Claims.PacketsAreNumbered ∧ Claims.PacketsKeepTheirOrder

/-- Frames, span packets and seal payloads read back as they were written; a flit with one bit inverted fails its check. -/
def Obligations.WireFormsReadBack : Prop :=
  Claims.DirectFramesReadBack ∧ Claims.SpanPacketsReadBack ∧ Claims.SealPayloadsReadBack ∧ Claims.FlitChecksFindSingleErrors

/-- The host link, the mailbox, CXL.mem requests and snoops. -/
def Obligations.HostPortServes : Prop :=
  Claims.HostLinkChanges ∧ Claims.MailboxCommandsComplete ∧ Claims.HostMemoryRequests ∧ Claims.FilterSetsHoldSixteen ∧ Claims.SnoopsEnd

/-- Rings, their descriptors, and the jobs they begin. -/
def Obligations.RingsDriveJobs : Prop :=
  Claims.RingsAreEnabled ∧ Claims.RingsFetch ∧ Claims.JobsBegin ∧ Claims.DescriptorChecksAreOrdered

/-- What a ring makes of the producer line that it reads, and the 64 bytes of a completion record. -/
def Obligations.RingLinesAreJudgedAndWritten : Prop :=
  Claims.ProducerLinesAreJudged ∧ Claims.RecordBytes

/-- The first cause of a job stands; completion records and digests are written. -/
def Obligations.JobsEnd : Prop :=
  Claims.FirstCauseStands ∧ Claims.RecordsAreWritten ∧ Claims.DigestsAreWritten

/-- Tests of slots fall due, run and end; conditions, watches and cinder times. -/
def Obligations.SlotsAreTested : Prop :=
  Claims.TestsFallDue ∧ Claims.SweepsVisitEverySlot ∧ Claims.TestResults ∧ Claims.SlotTimersRun

/-- Migrations of cores, layout revisions and router failures. -/
def Obligations.CoresMigrate : Prop :=
  Claims.MigrationsFreeze ∧ Claims.MigrationsCommit ∧ Claims.LayoutsAreRevised

/-- Power, and the stages of bring-up with what stops each. -/
def Obligations.BringUpRuns : Prop :=
  Claims.PowerComesAndGoes ∧ Claims.BringUpStages

/-- Reset requests, what they come to, what they clear and how they complete. -/
def Obligations.ResetsRun : Prop :=
  Claims.ResetRequests ∧ Claims.ResetsAreJudged ∧ Claims.CoreResetsCompleteAndClear ∧ Claims.FatalConditionsReset

/-- Management processors, the watchdog, and the calls of the Warden with their checks. -/
def Obligations.WardenCalls : Prop :=
  Claims.ProcessorsAreWatched ∧ Claims.WardenCallsAreJudged ∧ Claims.SoftRepairsAreChecked

/-- SPDM, key exchanges, management ports, the time base and the log. -/
def Obligations.ManagementAnswers : Prop :=
  Claims.ConnectionsAreNegotiated ∧ Claims.AttestationAnswers ∧ Claims.KeyExchangesRun ∧ Claims.ManagementPorts ∧ Claims.TimeAndLogAreRead

/-- Power samples, control steps, temperature, droop and pace. -/
def Obligations.PowerIsManaged : Prop :=
  Claims.PowerSamplesAreJudged ∧ Claims.PowerStepsRun

/-- Register writes and reads: size, reach, class, halves and the kinds of bits. -/
def Obligations.RegisterAccesses : Prop :=
  Claims.RegisterWritesReach ∧ Claims.RegisterBitsFollowTheirKind ∧ Claims.RegisterReadsReturn ∧ Claims.TreeAccessesReachScratchpads
end

