-- ==== Sys2Proof/Laws/Dispatch.lean ====
section
/-! SUPPORT. Each command runs its own meaning: one equation for each arm of exec. -/

namespace Sys2Proof.Machine

@[simp] theorem exec_registerWrite (who : Initiator) (off : BitVec 32) (size : Nat) (v : Word) (s : State) : exec (.registerWrite who off size v) s = execRegisterWrite who off size v s := rfl
@[simp] theorem exec_readToClear (who : Initiator) (off : BitVec 32) (size : Nat) (s : State) : exec (.readToClear who off size) s = execReadToClear who off size s := rfl
@[simp] theorem exec_nop (c : CoreId) (t : TaskSlot) (f : InsnBits) (s : State) : exec (.nop c t f) s = execNop c t f s := rfl
@[simp] theorem exec_endTask (c : CoreId) (t : TaskSlot) (f : InsnBits) (s : State) : exec (.endTask c t f) s = execEnd c t f s := rfl
@[simp] theorem exec_br (c : CoreId) (t : TaskSlot) (f : InsnBits) (s : State) : exec (.br c t f) s = execBr c t f s := rfl
@[simp] theorem exec_jr (c : CoreId) (t : TaskSlot) (f : InsnBits) (s : State) : exec (.jr c t f) s = execJr c t f s := rfl
@[simp] theorem exec_loopI (c : CoreId) (t : TaskSlot) (f : InsnBits) (s : State) : exec (.loopI c t f) s = execLoop c t f s := rfl
@[simp] theorem exec_kset (c : CoreId) (t : TaskSlot) (f : InsnBits) (s : State) : exec (.kset c t f) s = execKset c t f s := rfl
@[simp] theorem exec_faultI (c : CoreId) (t : TaskSlot) (f : InsnBits) (s : State) : exec (.faultI c t f) s = execFault c t f s := rfl
@[simp] theorem exec_time (c : CoreId) (t : TaskSlot) (f : InsnBits) (s : State) : exec (.time c t f) s = execTime c t f s := rfl
@[simp] theorem exec_addI (c : CoreId) (t : TaskSlot) (f : InsnBits) (s : State) : exec (.addI c t f) s = execAdd c t f s := rfl
@[simp] theorem exec_subI (c : CoreId) (t : TaskSlot) (f : InsnBits) (s : State) : exec (.subI c t f) s = execSub c t f s := rfl
@[simp] theorem exec_mulI (c : CoreId) (t : TaskSlot) (f : InsnBits) (s : State) : exec (.mulI c t f) s = execMul c t f s := rfl
@[simp] theorem exec_andI (c : CoreId) (t : TaskSlot) (f : InsnBits) (s : State) : exec (.andI c t f) s = execAnd c t f s := rfl
@[simp] theorem exec_orI (c : CoreId) (t : TaskSlot) (f : InsnBits) (s : State) : exec (.orI c t f) s = execOr c t f s := rfl
@[simp] theorem exec_xorI (c : CoreId) (t : TaskSlot) (f : InsnBits) (s : State) : exec (.xorI c t f) s = execXor c t f s := rfl
@[simp] theorem exec_shl (c : CoreId) (t : TaskSlot) (f : InsnBits) (s : State) : exec (.shl c t f) s = execShl c t f s := rfl
@[simp] theorem exec_shr (c : CoreId) (t : TaskSlot) (f : InsnBits) (s : State) : exec (.shr c t f) s = execShr c t f s := rfl
@[simp] theorem exec_sar (c : CoreId) (t : TaskSlot) (f : InsnBits) (s : State) : exec (.sar c t f) s = execSar c t f s := rfl
@[simp] theorem exec_minI (c : CoreId) (t : TaskSlot) (f : InsnBits) (s : State) : exec (.minI c t f) s = execMin c t f s := rfl
@[simp] theorem exec_maxI (c : CoreId) (t : TaskSlot) (f : InsnBits) (s : State) : exec (.maxI c t f) s = execMax c t f s := rfl
@[simp] theorem exec_movi (c : CoreId) (t : TaskSlot) (f : InsnBits) (s : State) : exec (.movi c t f) s = execMovi c t f s := rfl
@[simp] theorem exec_movhi (c : CoreId) (t : TaskSlot) (f : InsnBits) (s : State) : exec (.movhi c t f) s = execMovhi c t f s := rfl
@[simp] theorem exec_cmp (c : CoreId) (t : TaskSlot) (f : InsnBits) (s : State) : exec (.cmp c t f) s = execCmp c t f s := rfl
@[simp] theorem exec_plog (c : CoreId) (t : TaskSlot) (f : InsnBits) (s : State) : exec (.plog c t f) s = execPlog c t f s := rfl
@[simp] theorem exec_aadd (c : CoreId) (t : TaskSlot) (f : InsnBits) (s : State) : exec (.aadd c t f) s = execAadd c t f s := rfl
@[simp] theorem exec_movr (c : CoreId) (t : TaskSlot) (f : InsnBits) (s : State) : exec (.movr c t f) s = execMovr c t f s := rfl
@[simp] theorem exec_ld (c : CoreId) (t : TaskSlot) (f : InsnBits) (s : State) : exec (.ld c t f) s = execLd c t f s := rfl
@[simp] theorem exec_st (c : CoreId) (t : TaskSlot) (f : InsnBits) (s : State) : exec (.st c t f) s = execSt c t f s := rfl
@[simp] theorem exec_wload (c : CoreId) (t : TaskSlot) (f : InsnBits) (s : State) : exec (.wload c t f) s = execWload c t f s := rfl
@[simp] theorem exec_stream (c : CoreId) (t : TaskSlot) (f : InsnBits) (s : State) : exec (.stream c t f) s = execStream c t f s := rfl
@[simp] theorem exec_dset (c : CoreId) (t : TaskSlot) (f : InsnBits) (s : State) : exec (.dset c t f) s = execDset c t f s := rfl
@[simp] theorem exec_uwait (c : CoreId) (t : TaskSlot) (f : InsnBits) (s : State) : exec (.uwait c t f) s = execUwait c t f s := rfl
@[simp] theorem exec_vturn (c : CoreId) (t : TaskSlot) (f : InsnBits) (s : State) : exec (.vturn c t f) s = execVturn c t f s := rfl
@[simp] theorem exec_dma (c : CoreId) (t : TaskSlot) (f : InsnBits) (s : State) : exec (.dma c t f) s = execDma c t f s := rfl
@[simp] theorem exec_dmawait (c : CoreId) (t : TaskSlot) (f : InsnBits) (s : State) : exec (.dmawait c t f) s = execDmawait c t f s := rfl
@[simp] theorem exec_tpref (c : CoreId) (t : TaskSlot) (f : InsnBits) (s : State) : exec (.tpref c t f) s = execTpref c t f s := rfl
@[simp] theorem exec_send (c : CoreId) (t : TaskSlot) (f : InsnBits) (s : State) : exec (.send c t f) s = execSend c t f s := rfl
@[simp] theorem exec_sendd (c : CoreId) (t : TaskSlot) (f : InsnBits) (s : State) : exec (.sendd c t f) s = execSendd c t f s := rfl
@[simp] theorem exec_msend (c : CoreId) (t : TaskSlot) (f : InsnBits) (s : State) : exec (.msend c t f) s = execMsend c t f s := rfl
@[simp] theorem exec_recv (c : CoreId) (t : TaskSlot) (f : InsnBits) (s : State) : exec (.recv c t f) s = execRecv c t f s := rfl
@[simp] theorem exec_recvt (c : CoreId) (t : TaskSlot) (f : InsnBits) (s : State) : exec (.recvt c t f) s = execRecvt c t f s := rfl
@[simp] theorem exec_recvc (c : CoreId) (t : TaskSlot) (f : InsnBits) (s : State) : exec (.recvc c t f) s = execRecvc c t f s := rfl
@[simp] theorem exec_qdone (c : CoreId) (t : TaskSlot) (f : InsnBits) (s : State) : exec (.qdone c t f) s = execQdone c t f s := rfl
@[simp] theorem exec_shfadd (c : CoreId) (t : TaskSlot) (f : InsnBits) (s : State) : exec (.shfadd c t f) s = execShfadd c t f s := rfl
@[simp] theorem exec_shfend (c : CoreId) (t : TaskSlot) (f : InsnBits) (s : State) : exec (.shfend c t f) s = execShfend c t f s := rfl
@[simp] theorem exec_shfrecv (c : CoreId) (t : TaskSlot) (f : InsnBits) (s : State) : exec (.shfrecv c t f) s = execShfrecv c t f s := rfl
@[simp] theorem exec_bar (c : CoreId) (t : TaskSlot) (f : InsnBits) (s : State) : exec (.bar c t f) s = execBar c t f s := rfl
@[simp] theorem exec_waitseal (c : CoreId) (t : TaskSlot) (f : InsnBits) (s : State) : exec (.waitseal c t f) s = execWaitseal c t f s := rfl
@[simp] theorem exec_sealq (c : CoreId) (t : TaskSlot) (f : InsnBits) (s : State) : exec (.sealq c t f) s = execSealq c t f s := rfl
@[simp] theorem exec_ember (c : CoreId) (t : TaskSlot) (f : InsnBits) (s : State) : exec (.ember c t f) s = execEmber c t f s := rfl
@[simp] theorem exec_cfgsw (c : CoreId) (t : TaskSlot) (f : InsnBits) (s : State) : exec (.cfgsw c t f) s = execCfgsw c t f s := rfl
@[simp] theorem exec_cfgld (c : CoreId) (t : TaskSlot) (f : InsnBits) (s : State) : exec (.cfgld c t f) s = execCfgld c t f s := rfl
@[simp] theorem exec_epoch (c : CoreId) (t : TaskSlot) (f : InsnBits) (s : State) : exec (.epoch c t f) s = execEpoch c t f s := rfl
@[simp] theorem exec_evsel (c : CoreId) (t : TaskSlot) (f : InsnBits) (s : State) : exec (.evsel c t f) s = execEvsel c t f s := rfl
@[simp] theorem exec_evctlStart (c : CoreId) (t : TaskSlot) (f : InsnBits) (s : State) : exec (.evctlStart c t f) s = execEvctlStart c t f s := rfl
@[simp] theorem exec_evctlStop (c : CoreId) (t : TaskSlot) (f : InsnBits) (s : State) : exec (.evctlStop c t f) s = execEvctlStop c t f s := rfl
@[simp] theorem exec_evctlClear (c : CoreId) (t : TaskSlot) (f : InsnBits) (s : State) : exec (.evctlClear c t f) s = execEvctlClear c t f s := rfl
@[simp] theorem exec_evrd (c : CoreId) (t : TaskSlot) (f : InsnBits) (s : State) : exec (.evrd c t f) s = execEvrd c t f s := rfl
@[simp] theorem exec_waitConditionMet (c : CoreId) (t : TaskSlot) (s : State) : exec (.waitConditionMet c t) s = execWaitConditionMet c t s := rfl
@[simp] theorem exec_waitTimeout (c : CoreId) (t : TaskSlot) (s : State) : exec (.waitTimeout c t) s = execWaitTimeout c t s := rfl
@[simp] theorem exec_softmax (c : CoreId) (t : TaskSlot) (f : InsnBits) (s : State) : exec (.softmax c t f) s = execSoftmax c t f s := rfl
@[simp] theorem exec_smxPart (c : CoreId) (t : TaskSlot) (f : InsnBits) (s : State) : exec (.smxPart c t f) s = execSmxPart c t f s := rfl
@[simp] theorem exec_smxMerge (c : CoreId) (t : TaskSlot) (f : InsnBits) (s : State) : exec (.smxMerge c t f) s = execSmxMerge c t f s := rfl
@[simp] theorem exec_smxNorm (c : CoreId) (t : TaskSlot) (f : InsnBits) (s : State) : exec (.smxNorm c t f) s = execSmxNorm c t f s := rfl
@[simp] theorem exec_lse (c : CoreId) (t : TaskSlot) (f : InsnBits) (s : State) : exec (.lse c t f) s = execLse c t f s := rfl
@[simp] theorem exec_lnorm (c : CoreId) (t : TaskSlot) (f : InsnBits) (s : State) : exec (.lnorm c t f) s = execLnorm c t f s := rfl
@[simp] theorem exec_rmsnorm (c : CoreId) (t : TaskSlot) (f : InsnBits) (s : State) : exec (.rmsnorm c t f) s = execRmsnorm c t f s := rfl
@[simp] theorem exec_topk (c : CoreId) (t : TaskSlot) (f : InsnBits) (s : State) : exec (.topk c t f) s = execTopk c t f s := rfl
@[simp] theorem exec_rowdot (c : CoreId) (t : TaskSlot) (f : InsnBits) (s : State) : exec (.rowdot c t f) s = execRowdot c t f s := rfl
@[simp] theorem exec_softmaxBwd (c : CoreId) (t : TaskSlot) (f : InsnBits) (s : State) : exec (.softmaxBwd c t f) s = execSoftmaxBwd c t f s := rfl
@[simp] theorem exec_lnormBwd (c : CoreId) (t : TaskSlot) (f : InsnBits) (s : State) : exec (.lnormBwd c t f) s = execLnormBwd c t f s := rfl
@[simp] theorem exec_rmsnormBwd (c : CoreId) (t : TaskSlot) (f : InsnBits) (s : State) : exec (.rmsnormBwd c t f) s = execRmsnormBwd c t f s := rfl
@[simp] theorem exec_rowComplete (c : CoreId) (s : State) : exec (.rowComplete c) s = execRowComplete c s := rfl
@[simp] theorem exec_vopAdd (c : CoreId) (t : TaskSlot) (f : InsnBits) (s : State) : exec (.vopAdd c t f) s = execVopAdd c t f s := rfl
@[simp] theorem exec_vopSub (c : CoreId) (t : TaskSlot) (f : InsnBits) (s : State) : exec (.vopSub c t f) s = execVopSub c t f s := rfl
@[simp] theorem exec_vopMul (c : CoreId) (t : TaskSlot) (f : InsnBits) (s : State) : exec (.vopMul c t f) s = execVopMul c t f s := rfl
@[simp] theorem exec_vopFma (c : CoreId) (t : TaskSlot) (f : InsnBits) (s : State) : exec (.vopFma c t f) s = execVopFma c t f s := rfl
@[simp] theorem exec_vopMin (c : CoreId) (t : TaskSlot) (f : InsnBits) (s : State) : exec (.vopMin c t f) s = execVopMin c t f s := rfl
@[simp] theorem exec_vopMax (c : CoreId) (t : TaskSlot) (f : InsnBits) (s : State) : exec (.vopMax c t f) s = execVopMax c t f s := rfl
@[simp] theorem exec_vopAbs (c : CoreId) (t : TaskSlot) (f : InsnBits) (s : State) : exec (.vopAbs c t f) s = execVopAbs c t f s := rfl
@[simp] theorem exec_vopNeg (c : CoreId) (t : TaskSlot) (f : InsnBits) (s : State) : exec (.vopNeg c t f) s = execVopNeg c t f s := rfl
@[simp] theorem exec_vopCmp (c : CoreId) (t : TaskSlot) (f : InsnBits) (s : State) : exec (.vopCmp c t f) s = execVopCmp c t f s := rfl
@[simp] theorem exec_vopSel (c : CoreId) (t : TaskSlot) (f : InsnBits) (s : State) : exec (.vopSel c t f) s = execVopSel c t f s := rfl
@[simp] theorem exec_vopCvt (c : CoreId) (t : TaskSlot) (f : InsnBits) (s : State) : exec (.vopCvt c t f) s = execVopCvt c t f s := rfl
@[simp] theorem exec_vopDiv (c : CoreId) (t : TaskSlot) (f : InsnBits) (s : State) : exec (.vopDiv c t f) s = execVopDiv c t f s := rfl
@[simp] theorem exec_vopRcp (c : CoreId) (t : TaskSlot) (f : InsnBits) (s : State) : exec (.vopRcp c t f) s = execVopRcp c t f s := rfl
@[simp] theorem exec_vopSqrt (c : CoreId) (t : TaskSlot) (f : InsnBits) (s : State) : exec (.vopSqrt c t f) s = execVopSqrt c t f s := rfl
@[simp] theorem exec_vopRsqrt (c : CoreId) (t : TaskSlot) (f : InsnBits) (s : State) : exec (.vopRsqrt c t f) s = execVopRsqrt c t f s := rfl
@[simp] theorem exec_vopExp2 (c : CoreId) (t : TaskSlot) (f : InsnBits) (s : State) : exec (.vopExp2 c t f) s = execVopExp2 c t f s := rfl
@[simp] theorem exec_vopLog2 (c : CoreId) (t : TaskSlot) (f : InsnBits) (s : State) : exec (.vopLog2 c t f) s = execVopLog2 c t f s := rfl
@[simp] theorem exec_vopExp (c : CoreId) (t : TaskSlot) (f : InsnBits) (s : State) : exec (.vopExp c t f) s = execVopExp c t f s := rfl
@[simp] theorem exec_vopLog (c : CoreId) (t : TaskSlot) (f : InsnBits) (s : State) : exec (.vopLog c t f) s = execVopLog c t f s := rfl
@[simp] theorem exec_vopFunc (c : CoreId) (t : TaskSlot) (f : InsnBits) (s : State) : exec (.vopFunc c t f) s = execVopFunc c t f s := rfl
@[simp] theorem exec_vopRsum (c : CoreId) (t : TaskSlot) (f : InsnBits) (s : State) : exec (.vopRsum c t f) s = execVopRsum c t f s := rfl
@[simp] theorem exec_vopRdot (c : CoreId) (t : TaskSlot) (f : InsnBits) (s : State) : exec (.vopRdot c t f) s = execVopRdot c t f s := rfl
@[simp] theorem exec_vopRssq (c : CoreId) (t : TaskSlot) (f : InsnBits) (s : State) : exec (.vopRssq c t f) s = execVopRssq c t f s := rfl
@[simp] theorem exec_vopRmax (c : CoreId) (t : TaskSlot) (f : InsnBits) (s : State) : exec (.vopRmax c t f) s = execVopRmax c t f s := rfl
@[simp] theorem exec_vopRmin (c : CoreId) (t : TaskSlot) (f : InsnBits) (s : State) : exec (.vopRmin c t f) s = execVopRmin c t f s := rfl
@[simp] theorem exec_startReservation (c : CoreId) (req : StartReq) (s : State) : exec (.startReservation c req) s = execStartReservation c req s := rfl
@[simp] theorem exec_startGo (jobTag : BitVec 32) (s : State) : exec (.startGo jobTag) s = execStartGo jobTag s := rfl
@[simp] theorem exec_reservationCancel (c : CoreId) (t : TaskSlot) (s : State) : exec (.reservationCancel c t) s = execReservationCancel c t s := rfl
@[simp] theorem exec_taskLoadComplete (c : CoreId) (t : TaskSlot) (s : State) : exec (.taskLoadComplete c t) s = execTaskLoadComplete c t s := rfl
@[simp] theorem exec_taskDrainComplete (c : CoreId) (t : TaskSlot) (s : State) : exec (.taskDrainComplete c t) s = execTaskDrainComplete c t s := rfl
@[simp] theorem exec_scrubComplete (c : CoreId) (t : TaskSlot) (s : State) : exec (.scrubComplete c t) s = execScrubComplete c t s := rfl
@[simp] theorem exec_seqKill (who : Initiator) (c : CoreId) (mask : BitVec 4) (s : State) : exec (.seqKill who c mask) s = execSeqKill who c mask s := rfl
@[simp] theorem exec_seqHold (who : Initiator) (c : CoreId) (mask : BitVec 4) (s : State) : exec (.seqHold who c mask) s = execSeqHold who c mask s := rfl
@[simp] theorem exec_weightLoadReady (c : CoreId) (a : ArrayId) (s : State) : exec (.weightLoadReady c a) s = execWeightLoadReady c a s := rfl
@[simp] theorem exec_streamStart (c : CoreId) (a : ArrayId) (s : State) : exec (.streamStart c a) s = execStreamStart c a s := rfl
@[simp] theorem exec_activationRow (c : CoreId) (x : RowIn) (s : State) : exec (.activationRow c x) s = execActivationRow c x s := rfl
@[simp] theorem exec_halfSumAdd (c : CoreId) (x : AddIn) (s : State) : exec (.halfSumAdd c x) s = execHalfSumAdd c x s := rfl
@[simp] theorem exec_windowRound (c : CoreId) (x : RoundIn) (s : State) : exec (.windowRound c x) s = execWindowRound c x s := rfl
@[simp] theorem exec_tileCheckResult (c : CoreId) (d : ArrayId) (u v : Unit) (s : State) : exec (.tileCheckResult c d u v) s = execTileCheckResult c d u v s := rfl
@[simp] theorem exec_diagPass (who : Initiator) (c : CoreId) (v : Word) (s : State) : exec (.diagPass who c v) s = execDiagPass who c v s := rfl
@[simp] theorem exec_diagDone (c : CoreId) (x : DiagEnd) (s : State) : exec (.diagDone c x) s = execDiagDone c x s := rfl
@[simp] theorem exec_arrRepairWrite (who : Initiator) (c : CoreId) (a : ArrayId) (v : Word) (s : State) : exec (.arrRepairWrite who c a v) s = execArrRepairWrite who c a v s := rfl
@[simp] theorem exec_drnCfgWrite (who : Initiator) (c : CoreId) (d : ArrayId) (which : Fin 3) (v : Word) (s : State) : exec (.drnCfgWrite who c d which v) s = execDrnCfgWrite who c d which v s := rfl
@[simp] theorem exec_rowStatwinWrite (who : Initiator) (c : CoreId) (t : TaskSlot) (v : Word) (s : State) : exec (.rowStatwinWrite who c t v) s = execRowStatwinWrite who c t v s := rfl
@[simp] theorem exec_gatherIdleFlush (c : CoreId) (s : State) : exec (.gatherIdleFlush c) s = execGatherIdleFlush c s := rfl
@[simp] theorem exec_spadPwrWrite (who : Initiator) (c : CoreId) (v : Word) (s : State) : exec (.spadPwrWrite who c v) s = execSpadPwrWrite who c v s := rfl
@[simp] theorem exec_groupPowerDown (c : CoreId) (g : Fin 16) (s : State) : exec (.groupPowerDown c g) s = execGroupPowerDown c g s := rfl
@[simp] theorem exec_groupPowerUpReady (c : CoreId) (g : Fin 16) (s : State) : exec (.groupPowerUpReady c g) s = execGroupPowerUpReady c g s := rfl
@[simp] theorem exec_circAdvance (c : CoreId) (t : TaskSlot) (s : State) : exec (.circAdvance c t) s = execCircAdvance c t s := rfl
@[simp] theorem exec_dmaRequestArrive (pkt : Packet) (s : State) : exec (.dmaRequestArrive pkt) s = execDmaRequestArrive pkt s := rfl
@[simp] theorem exec_tokenArrive (c : CoreId) (d : Dir) (err : BitVec 572) (u : Unit) (s : State) : exec (.tokenArrive c d err u) s = execTokenArrive c d err u s := rfl
@[simp] theorem exec_bypassForward (p : PhysId) (fromWest : Bool) (u : Unit) (s : State) : exec (.bypassForward p fromWest u) s = execBypassForward p fromWest u s := rfl
@[simp] theorem exec_tokenDispatch (c : CoreId) (src : Option Dir) (s : State) : exec (.tokenDispatch c src) s = execTokenDispatch c src s := rfl
@[simp] theorem exec_routeSteerChange (c : CoreId) (d : Dir) (s : State) : exec (.routeSteerChange c d) s = execRouteSteerChange c d s := rfl
@[simp] theorem exec_latSlackWrite (who : Initiator) (c : CoreId) (d : Dir) (v : Word) (s : State) : exec (.latSlackWrite who c d v) s = execLatSlackWrite who c d v s := rfl
@[simp] theorem exec_inputLinkSwitch (c : CoreId) (d : Dir) (s : State) : exec (.inputLinkSwitch c d) s = execInputLinkSwitch c d s := rfl
@[simp] theorem exec_outputLinkSwitch (c : CoreId) (d : Dir) (s : State) : exec (.outputLinkSwitch c d) s = execOutputLinkSwitch c d s := rfl
@[simp] theorem exec_latticeStall (c : CoreId) (s : State) : exec (.latticeStall c) s = execLatticeStall c s := rfl
@[simp] theorem exec_latStopSet (who : Initiator) (c : CoreId) (s : State) : exec (.latStopSet who c) s = execLatStopSet who c s := rfl
@[simp] theorem exec_latticeDrained (c : CoreId) (s : State) : exec (.latticeDrained c) s = execLatticeDrained c s := rfl
@[simp] theorem exec_latStopClear (who : Initiator) (c : CoreId) (s : State) : exec (.latStopClear who c) s = execLatStopClear who c s := rfl
@[simp] theorem exec_messageAcceptance (pkt : Packet) (s : State) : exec (.messageAcceptance pkt) s = execMessageAcceptance pkt s := rfl
@[simp] theorem exec_sendResult (pkt : Packet) (s : State) : exec (.sendResult pkt) s = execSendResult pkt s := rfl
@[simp] theorem exec_reservationLapse (c : CoreId) (q : Fin 64) (place : Fin 4) (s : State) : exec (.reservationLapse c q place) s = execReservationLapse c q place s := rfl
@[simp] theorem exec_ringLandingWrite (c : CoreId) (q : Fin 64) (s : State) : exec (.ringLandingWrite c q) s = execRingLandingWrite c q s := rfl
@[simp] theorem exec_unitSend (c : CoreId) (u : SendUnit) (s : State) : exec (.unitSend c u) s = execUnitSend c u s := rfl
@[simp] theorem exec_unitResend (c : CoreId) (u : SendUnit) (s : State) : exec (.unitResend c u) s = execUnitResend c u s := rfl
@[simp] theorem exec_sheafBufferCleared (c : CoreId) (h : Fin 8) (s : State) : exec (.sheafBufferCleared c h) s = execSheafBufferCleared c h s := rfl
@[simp] theorem exec_posyRead (who : Initiator) (c : CoreId) (v : Word) (s : State) : exec (.posyRead who c v) s = execPosyRead who c v s := rfl
@[simp] theorem exec_posyDone (c : CoreId) (s : State) : exec (.posyDone c) s = execPosyDone c s := rfl
@[simp] theorem exec_flitArrive (p : PhysId) (port : RPort) (err : BitVec 2085) (s : State) : exec (.flitArrive p port err) s = execFlitArrive p port err s := rfl
@[simp] theorem exec_escapeFallback (p : PhysId) (port : RPort) (s : State) : exec (.escapeFallback p port) s = execEscapeFallback p port s := rfl
@[simp] theorem exec_escdataWrite (who : Initiator) (d : DieId) (v : Word) (s : State) : exec (.escdataWrite who d v) s = execEscdataWrite who d v s := rfl
@[simp] theorem exec_markDownWrite (who : Initiator) (c : CoreId) (port : RPort) (v : Word) (s : State) : exec (.markDownWrite who c port v) s = execMarkDownWrite who c port v s := rfl
@[simp] theorem exec_fenceRelease (c : CoreId) (s : State) : exec (.fenceRelease c) s = execFenceRelease c s := rfl
@[simp] theorem exec_meshTimeout (c : CoreId) (op : MeshOp) (s : State) : exec (.meshTimeout c op) s = execMeshTimeout c op s := rfl
@[simp] theorem exec_dmaPacketIssue (c : CoreId) (s : State) : exec (.dmaPacketIssue c) s = execDmaPacketIssue c s := rfl
@[simp] theorem exec_dmaResponse (pkt : Packet) (s : State) : exec (.dmaResponse pkt) s = execDmaResponse pkt s := rfl
@[simp] theorem exec_seamRprWrite (who : Initiator) (d : DieId) (j : Fin 2) (v : Word) (s : State) : exec (.seamRprWrite who d j v) s = execSeamRprWrite who d j v s := rfl
@[simp] theorem exec_beaconJoin (g : GroupId) (c : CoreId) (s : State) : exec (.beaconJoin g c) s = execBeaconJoin g c s := rfl
@[simp] theorem exec_beaconRelease (g : GroupId) (s : State) : exec (.beaconRelease g) s = execBeaconRelease g s := rfl
@[simp] theorem exec_beaconFault (g : GroupId) (s : State) : exec (.beaconFault g) s = execBeaconFault g s := rfl
@[simp] theorem exec_beaconClear (who : Initiator) (g : GroupId) (v : Word) (s : State) : exec (.beaconClear who g v) s = execBeaconClear who g v s := rfl
@[simp] theorem exec_bcnGcfgWrite (who : Initiator) (g : GroupId) (which : Fin 9) (v : Word) (s : State) : exec (.bcnGcfgWrite who g which v) s = execBcnGcfgWrite who g which v s := rfl
@[simp] theorem exec_hearthAccess (req : RingReq) (s : State) : exec (.hearthAccess req) s = execHearthAccess req s := rfl
@[simp] theorem exec_peatAccess (req : RingReq) (s : State) : exec (.peatAccess req) s = execPeatAccess req s := rfl
@[simp] theorem exec_hbmTempReport (k : StackId) (celsius : BitVec 8) (x : TempReport) (s : State) : exec (.hbmTempReport k celsius x) s = execHbmTempReport k celsius x s := rfl
@[simp] theorem exec_patrolScrubPass (ch : ChanId) (corrected : BitVec 32) (bad : List Nat) (rowFull : Option Nat) (s : State) : exec (.patrolScrubPass ch corrected bad rowFull) s = execPatrolScrubPass ch corrected bad rowFull s := rfl
@[simp] theorem exec_pprComplete (ch : ChanId) (ok : Bool) (s : State) : exec (.pprComplete ch ok) s = execPprComplete ch ok s := rfl
@[simp] theorem exec_heatDecayPeriod (d : DieId) (s : State) : exec (.heatDecayPeriod d) s = execHeatDecayPeriod d s := rfl
@[simp] theorem exec_swapStart (d : DieId) (v : DieId) (s : State) : exec (.swapStart d v) s = execSwapStart d v s := rfl
@[simp] theorem exec_swapComplete (x : AgentRun) (s : State) : exec (.swapComplete x) s = execSwapComplete x s := rfl
@[simp] theorem exec_prefetch (x : AgentRun) (s : State) : exec (.prefetch x) s = execPrefetch x s := rfl
@[simp] theorem exec_cool (x : AgentRun) (s : State) : exec (.cool x) s = execCool x s := rfl
@[simp] theorem exec_pin (x : AgentRun) (s : State) : exec (.pin x) s = execPin x s := rfl
@[simp] theorem exec_unpin (x : AgentRun) (s : State) : exec (.unpin x) s = execUnpin x s := rfl
@[simp] theorem exec_scan (x : AgentRun) (s : State) : exec (.scan x) s = execScan x s := rfl
@[simp] theorem exec_scanBlock (d : DieId) (k : Fin 64) (b : Fin 4096) (mismatches : Fin 3) (errs : LineErrs) (s : State) : exec (.scanBlock d k b mismatches errs) s = execScanBlock d k b mismatches errs s := rfl
@[simp] theorem exec_scanDone (d : DieId) (s : State) : exec (.scanDone d) s = execScanDone d s := rfl
@[simp] theorem exec_tierPolicyWrite (who : Initiator) (v : Word) (s : State) : exec (.tierPolicyWrite who v) s = execTierPolicyWrite who v s := rfl
@[simp] theorem exec_rtlCfgWrite (who : Initiator) (p : PortId) (v : Word) (s : State) : exec (.rtlCfgWrite who p v) s = execRtlCfgWrite who p v s := rfl
@[simp] theorem exec_portUcwCheck (p : PortId) (corrected : BitVec 32) (ucw : BitVec 32) (s : State) : exec (.portUcwCheck p corrected ucw) s = execPortUcwCheck p corrected ucw s := rfl
@[simp] theorem exec_spanRequest (pkt : Packet) (win : BitVec 12) (wgen : BitVec 16) (s : State) : exec (.spanRequest pkt win wgen) s = execSpanRequest pkt win wgen s := rfl
@[simp] theorem exec_directFrameReceive (p : PortId) (octets : Bytes) (u : Unit) (s : State) : exec (.directFrameReceive p octets u) s = execDirectFrameReceive p octets u s := rfl
@[simp] theorem exec_linkFrame (p : PortId) (dev : BitVec 16) (rcvdReq freedReq rcvdRsp freedRsp : BitVec 32) (s : State) : exec (.linkFrame p dev rcvdReq freedReq rcvdRsp freedRsp) s = execLinkFrame p dev rcvdReq freedReq rcvdRsp freedRsp s := rfl
@[simp] theorem exec_linkFrameSend (p : PortId) (s : State) : exec (.linkFrameSend p) s = execLinkFrameSend p s := rfl
@[simp] theorem exec_frameVanished (p : PortId) (rsp : Bool) (s : State) : exec (.frameVanished p rsp) s = execFrameVanished p rsp s := rfl
@[simp] theorem exec_transitTimeout (p : PortId) (rsp : Bool) (s : State) : exec (.transitTimeout p rsp) s = execTransitTimeout p rsp s := rfl
@[simp] theorem exec_ethernetFrameReceive (p : PortId) (body : EthBody) (u : Unit) (s : State) : exec (.ethernetFrameReceive p body u) s = execEthernetFrameReceive p body u s := rfl
@[simp] theorem exec_timeFrame (p : PortId) (ttx ptx prx : Word) (s : State) : exec (.timeFrame p ttx ptx prx) s = execTimeFrame p ttx ptx prx s := rfl
@[simp] theorem exec_timeFrameSend (p : PortId) (s : State) : exec (.timeFrameSend p) s = execTimeFrameSend p s := rfl
@[simp] theorem exec_spanPacketArrive (body : Bytes) (s : State) : exec (.spanPacketArrive body) s = execSpanPacketArrive body s := rfl
@[simp] theorem exec_reorderGapExpire (dev : BitVec 16) (prompt : Bool) (s : State) : exec (.reorderGapExpire dev prompt) s = execReorderGapExpire dev prompt s := rfl
@[simp] theorem exec_sendContextEvict (dev : BitVec 16) (prompt : Bool) (s : State) : exec (.sendContextEvict dev prompt) s = execSendContextEvict dev prompt s := rfl
@[simp] theorem exec_reorderContextEvict (dev : BitVec 16) (prompt : Bool) (s : State) : exec (.reorderContextEvict dev prompt) s = execReorderContextEvict dev prompt s := rfl
@[simp] theorem exec_spanFenceRelease (dev : BitVec 16) (prompt : Bool) (s : State) : exec (.spanFenceRelease dev prompt) s = execSpanFenceRelease dev prompt s := rfl
@[simp] theorem exec_spanOpComplete (tag : BitVec 32) (s : State) : exec (.spanOpComplete tag) s = execSpanOpComplete tag s := rfl
@[simp] theorem exec_spanOpTimeout (tag : BitVec 32) (s : State) : exec (.spanOpTimeout tag) s = execSpanOpTimeout tag s := rfl
@[simp] theorem exec_spanWindowWrite (who : Initiator) (w : BitVec 12) (which : Fin 3) (v : Word) (s : State) : exec (.spanWindowWrite who w which v) s = execSpanWindowWrite who w which v s := rfl
@[simp] theorem exec_routeEntryWrite (who : Initiator) (dev : BitVec 16) (v : Word) (s : State) : exec (.routeEntryWrite who dev v) s = execRouteEntryWrite who dev v s := rfl
@[simp] theorem exec_spanCtrlWrite (who : Initiator) (which : Fin 3) (v : Word) (s : State) : exec (.spanCtrlWrite who which v) s = execSpanCtrlWrite who which v s := rfl
@[simp] theorem exec_keyCommit (who : Initiator) (v : Word) (s : State) : exec (.keyCommit who v) s = execKeyCommit who v s := rfl
@[simp] theorem exec_keyClear (who : Initiator) (v : Word) (s : State) : exec (.keyClear who v) s = execKeyClear who v s := rfl
@[simp] theorem exec_txphaseWrite (who : Initiator) (v : Word) (s : State) : exec (.txphaseWrite who v) s = execTxphaseWrite who v s := rfl
@[simp] theorem exec_keydataWrite (who : Initiator) (v : Word) (s : State) : exec (.keydataWrite who v) s = execKeydataWrite who v s := rfl
@[simp] theorem exec_perstAssert (s : State) : exec (.perstAssert) s = execPerstAssert s := rfl
@[simp] theorem exec_perstDeassert (s : State) : exec (.perstDeassert) s = execPerstDeassert s := rfl
@[simp] theorem exec_linkDown (s : State) : exec (.linkDown) s = execLinkDown s := rfl
@[simp] theorem exec_cxlReset (s : State) : exec (.cxlReset) s = execCxlReset s := rfl
@[simp] theorem exec_identify (s : State) : exec (.identify) s = execIdentify s := rfl
@[simp] theorem exec_getState (s : State) : exec (.getState) s = execGetState s := rfl
@[simp] theorem exec_getLayout (s : State) : exec (.getLayout) s = execGetLayout s := rfl
@[simp] theorem exec_getLogPtr (s : State) : exec (.getLogPtr) s = execGetLogPtr s := rfl
@[simp] theorem exec_getTelemetry (s : State) : exec (.getTelemetry) s = execGetTelemetry s := rfl
@[simp] theorem exec_reqComputeReset (s : State) : exec (.reqComputeReset) s = execReqComputeReset s := rfl
@[simp] theorem exec_reqModuleReset (s : State) : exec (.reqModuleReset) s = execReqModuleReset s := rfl
@[simp] theorem exec_cxlmemRequest (addr : Word) (x : MemReq) (s : State) : exec (.cxlmemRequest addr x) s = execCxlmemRequest addr x s := rfl
@[simp] theorem exec_bisnpResponse (addr : Word) (dirty : Option Bytes) (s : State) : exec (.bisnpResponse addr dirty) s = execBisnpResponse addr dirty s := rfl
@[simp] theorem exec_bisnpSlow (addr : Word) (s : State) : exec (.bisnpSlow addr) s = execBisnpSlow addr s := rfl
@[simp] theorem exec_producerLineWrite (r : RingId) (data : Bytes) (s : State) : exec (.producerLineWrite r data) s = execProducerLineWrite r data s := rfl
@[simp] theorem exec_ringPoll (r : RingId) (line : Option Bytes) (s : State) : exec (.ringPoll r line) s = execRingPoll r line s := rfl
@[simp] theorem exec_descriptorFetch (r : RingId) (desc : Option Bytes) (s : State) : exec (.descriptorFetch r desc) s = execDescriptorFetch r desc s := rfl
@[simp] theorem exec_jobNop (r : RingId) (s : State) : exec (.jobNop r) s = execJobNop r s := rfl
@[simp] theorem exec_jobStart (r : RingId) (s : State) : exec (.jobStart r) s = execJobStart r s := rfl
@[simp] theorem exec_jobSend (r : RingId) (s : State) : exec (.jobSend r) s = execJobSend r s := rfl
@[simp] theorem exec_jobSendRetry (jobTag : BitVec 32) (s : State) : exec (.jobSendRetry jobTag) s = execJobSendRetry jobTag s := rfl
@[simp] theorem exec_jobFence (r : RingId) (s : State) : exec (.jobFence r) s = execJobFence r s := rfl
@[simp] theorem exec_jobTimeout (jobTag : BitVec 32) (s : State) : exec (.jobTimeout jobTag) s = execJobTimeout jobTag s := rfl
@[simp] theorem exec_completionRecordWrite (jobTag : BitVec 32) (s : State) : exec (.completionRecordWrite jobTag) s = execCompletionRecordWrite jobTag s := rfl
@[simp] theorem exec_sealUpdate (jobTag : BitVec 32) (s : State) : exec (.sealUpdate jobTag) s = execSealUpdate jobTag s := rfl
@[simp] theorem exec_ringEnable (who : Initiator) (r : RingId) (v : Word) (s : State) : exec (.ringEnable who r v) s = execRingEnable who r v s := rfl
@[simp] theorem exec_ringDisable (who : Initiator) (r : RingId) (v : Word) (s : State) : exec (.ringDisable who r v) s = execRingDisable who r v s := rfl
@[simp] theorem exec_ideIntegrityFailure (stream : Fin 3) (s : State) : exec (.ideIntegrityFailure stream) s = execIdeIntegrityFailure stream s := rfl
@[simp] theorem exec_windowVerdict (c : CoreId) (epoch : BitVec 32) (dupFail : Bool) (s : State) : exec (.windowVerdict c epoch dupFail) s = execWindowVerdict c epoch dupFail s := rfl
@[simp] theorem exec_noticeArrive (pkt : Packet) (u : Unit) (s : State) : exec (.noticeArrive pkt u) s = execNoticeArrive pkt u s := rfl
@[simp] theorem exec_sealArrive (pkt : Packet) (u : Unit) (s : State) : exec (.sealArrive pkt u) s = execSealArrive pkt u s := rfl
@[simp] theorem exec_retractArrive (pkt : Packet) (u : Unit) (s : State) : exec (.retractArrive pkt u) s = execRetractArrive pkt u s := rfl
@[simp] theorem exec_noticeAcknowledged (e : SealEnd) (k : Nat) (s : State) : exec (.noticeAcknowledged e k) s = execNoticeAcknowledged e k s := rfl
@[simp] theorem exec_sealMessageResend (e : SealEnd) (k : Nat) (s : State) : exec (.sealMessageResend e k) s = execSealMessageResend e k s := rfl
@[simp] theorem exec_lapse (e : SealEnd) (k : ProdKey) (s : State) : exec (.lapse e k) s = execLapse e k s := rfl
@[simp] theorem exec_sealLaneUpdate (c : CoreId) (d : Dir) (sc : Word) (s : State) : exec (.sealLaneUpdate c d sc) s = execSealLaneUpdate c d sc s := rfl
@[simp] theorem exec_laneRetract (c : CoreId) (d : Dir) (s : State) : exec (.laneRetract c d) s = execLaneRetract c d s := rfl
@[simp] theorem exec_digestCompute (jobTag : BitVec 32) (s : State) : exec (.digestCompute jobTag) s = execDigestCompute jobTag s := rfl
@[simp] theorem exec_shadowlocWrite (who : Initiator) (v : Word) (s : State) : exec (.shadowlocWrite who v) s = execShadowlocWrite who v s := rfl
@[simp] theorem exec_testDue (p : PhysId) (s : State) : exec (.testDue p) s = execTestDue p s := rfl
@[simp] theorem exec_sliceResult (p : PhysId) (slice : Fin 40) (pinch : Bool) (sig : Word) (cells : List (Nat × Nat)) (s : State) : exec (.sliceResult p slice pinch sig cells) s = execSliceResult p slice pinch sig cells s := rfl
@[simp] theorem exec_marchResult (p : PhysId) (pass : Bool) (s : State) : exec (.marchResult p pass) s = execMarchResult p pass s := rfl
@[simp] theorem exec_conditionEvaluate (p : PhysId) (s : State) : exec (.conditionEvaluate p) s = execConditionEvaluate p s := rfl
@[simp] theorem exec_watchExpire (p : PhysId) (s : State) : exec (.watchExpire p) s = execWatchExpire p s := rfl
@[simp] theorem exec_cinderTimeout (p : PhysId) (s : State) : exec (.cinderTimeout p) s = execCinderTimeout p s := rfl
@[simp] theorem exec_migrationFreeze (c : CoreId) (s : State) : exec (.migrationFreeze c) s = execMigrationFreeze c s := rfl
@[simp] theorem exec_migrationForced (c : CoreId) (s : State) : exec (.migrationForced c) s = execMigrationForced c s := rfl
@[simp] theorem exec_migrationCommit (c : CoreId) (s : State) : exec (.migrationCommit c) s = execMigrationCommit c s := rfl
@[simp] theorem exec_emberWriteComplete (c : CoreId) (t : TaskSlot) (ok : Bool) (s : State) : exec (.emberWriteComplete c t ok) s = execEmberWriteComplete c t ok s := rfl
@[simp] theorem exec_jobRecovery (jobTag : BitVec 32) (s : State) : exec (.jobRecovery jobTag) s = execJobRecovery jobTag s := rfl
@[simp] theorem exec_recoveryResume (jobTag : BitVec 32) (s : State) : exec (.recoveryResume jobTag) s = execRecoveryResume jobTag s := rfl
@[simp] theorem exec_layoutRevision (r : Fin 64) (s : State) : exec (.layoutRevision r) s = execLayoutRevision r s := rfl
@[simp] theorem exec_layoutRestore (r : Fin 64) (s : State) : exec (.layoutRestore r) s = execLayoutRestore r s := rfl
@[simp] theorem exec_routerFailure (p : PhysId) (s : State) : exec (.routerFailure p) s = execRouterFailure p s := rfl
@[simp] theorem exec_smdTest (who : Initiator) (p : PhysId) (s : State) : exec (.smdTest who p) s = execSmdTest who p s := rfl
@[simp] theorem exec_smdFence (who : Initiator) (p : PhysId) (s : State) : exec (.smdFence who p) s = execSmdFence who p s := rfl
@[simp] theorem exec_smdUnfence (who : Initiator) (p : PhysId) (s : State) : exec (.smdUnfence who p) s = execSmdUnfence who p s := rfl
@[simp] theorem exec_smdCinder (who : Initiator) (p : PhysId) (s : State) : exec (.smdCinder who p) s = execSmdCinder who p s := rfl
@[simp] theorem exec_smdCond (who : Initiator) (p : PhysId) (s : State) : exec (.smdCond who p) s = execSmdCond who p s := rfl
@[simp] theorem exec_moveResting (who : Initiator) (p : PhysId) (s : State) : exec (.moveResting who p) s = execMoveResting who p s := rfl
@[simp] theorem exec_smdAbandon (who : Initiator) (p : PhysId) (s : State) : exec (.smdAbandon who p) s = execSmdAbandon who p s := rfl
@[simp] theorem exec_smdPxdataAccess (who : Initiator) (d : DieId) (acc : PageAccess) (s : State) : exec (.smdPxdataAccess who d acc) s = execSmdPxdataAccess who d acc s := rfl
@[simp] theorem exec_powerGoodAssert (s : State) : exec (.powerGoodAssert) s = execPowerGoodAssert s := rfl
@[simp] theorem exec_powerGoodDeassert (s : State) : exec (.powerGoodDeassert) s = execPowerGoodDeassert s := rfl
@[simp] theorem exec_railFault (rail : Fin 8) (s : State) : exec (.railFault rail) s = execRailFault rail s := rfl
@[simp] theorem exec_cxlTrainingStart (s : State) : exec (.cxlTrainingStart) s = execCxlTrainingStart s := rfl
@[simp] theorem exec_stage0 (ok : Bool) (s : State) : exec (.stage0 ok) s = execStage0 ok s := rfl
@[simp] theorem exec_stage1 (otpOk : Bool) (a b : Bytes) (u : Unit) (s : State) : exec (.stage1 otpOk a b u) s = execStage1 otpOk a b u s := rfl
@[simp] theorem exec_stage2 (rep : Stage2Report) (s : State) : exec (.stage2 rep) s = execStage2 rep s := rfl
@[simp] theorem exec_stage3 (bad : List SlotFail) (routers : List PhysId) (esc : EscPlan) (mps : BitVec 16) (s : State) : exec (.stage3 bad routers esc mps) s = execStage3 bad routers esc mps s := rfl
@[simp] theorem exec_bootResetCompute (who : Initiator) (v : Word) (s : State) : exec (.bootResetCompute who v) s = execBootResetCompute who v s := rfl
@[simp] theorem exec_bootResetComputeBist (who : Initiator) (v : Word) (s : State) : exec (.bootResetComputeBist who v) s = execBootResetComputeBist who v s := rfl
@[simp] theorem exec_bootResetCore (who : Initiator) (v : Word) (s : State) : exec (.bootResetCore who v) s = execBootResetCore who v s := rfl
@[simp] theorem exec_bootResetModule (who : Initiator) (v : Word) (s : State) : exec (.bootResetModule who v) s = execBootResetModule who v s := rfl
@[simp] theorem exec_computeResetComplete (bad : List SlotFail) (routers : List PhysId) (s : State) : exec (.computeResetComplete bad routers) s = execComputeResetComplete bad routers s := rfl
@[simp] theorem exec_coreResetComplete (c : CoreId) (s : State) : exec (.coreResetComplete c) s = execCoreResetComplete c s := rfl
@[simp] theorem exec_mpTest (k : Fin 16) (pass : Bool) (s : State) : exec (.mpTest k pass) s = execMpTest k pass s := rfl
@[simp] theorem exec_foresterWatchdog (s : State) : exec (.foresterWatchdog) s = execForesterWatchdog s := rfl
@[simp] theorem exec_heartbeat (s : State) : exec (.heartbeat) s = execHeartbeat s := rfl
@[simp] theorem exec_slotOp (die slot op : Word) (s : State) : exec (.slotOp die slot op) s = execSlotOp die slot op s := rfl
@[simp] theorem exec_softRepair (die slot array : Word) (row : Bool) (idx : Word) (s : State) : exec (.softRepair die slot array row idx) s = execSoftRepair die slot array row idx s := rfl
@[simp] theorem exec_setSlack (core link adjust : Word) (s : State) : exec (.setSlack core link adjust) s = execSetSlack core link adjust s := rfl
@[simp] theorem exec_escInstall (table : Bytes) (s : State) : exec (.escInstall table) s = execEscInstall table s := rfl
@[simp] theorem exec_portMark (core port : Word) (down : Bool) (s : State) : exec (.portMark core port down) s = execPortMark core port down s := rfl
@[simp] theorem exec_seamRepair (die seam wire data : Word) (s : State) : exec (.seamRepair die seam wire data) s = execSeamRepair die seam wire data s := rfl
@[simp] theorem exec_pprGo (die chan : Word) (s : State) : exec (.pprGo die chan) s = execPprGo die chan s := rfl
@[simp] theorem exec_windowSet (w base limit ctrl : Word) (s : State) : exec (.windowSet w base limit ctrl) s = execWindowSet w base limit ctrl s := rfl
@[simp] theorem exec_routeSet (d entry : Word) (s : State) : exec (.routeSet d entry) s = execRouteSet d entry s := rfl
@[simp] theorem exec_keyAgree (d slot : Word) (s : State) : exec (.keyAgree d slot) s = execKeyAgree d slot s := rfl
@[simp] theorem exec_keySwitch (slot : Word) (s : State) : exec (.keySwitch slot) s = execKeySwitch slot s := rfl
@[simp] theorem exec_reset (kind core : Word) (keep : Bool) (s : State) : exec (.reset kind core keep) s = execReset kind core keep s := rfl
@[simp] theorem exec_floorRaise (which : Word) (s : State) : exec (.floorRaise which) s = execFloorRaise which s := rfl
@[simp] theorem exec_shadowPair (rec primary win addr : Word) (got : Option Bytes) (s : State) : exec (.shadowPair rec primary win addr got) s = execShadowPair rec primary win addr got s := rfl
@[simp] theorem exec_shadowExit (s : State) : exec (.shadowExit) s = execShadowExit s := rfl
@[simp] theorem exec_logNote (sev code d0 d1 : Word) (s : State) : exec (.logNote sev code d0 d1) s = execLogNote sev code d0 d1 s := rfl
@[simp] theorem exec_timeStep (ns : Word) (s : State) : exec (.timeStep ns) s = execTimeStep ns s := rfl
@[simp] theorem exec_fatalDeviceCondition (cause : Fin 3) (d : DieId) (s : State) : exec (.fatalDeviceCondition cause d) s = execFatalDeviceCondition cause d s := rfl
@[simp] theorem exec_ownershipRecord (session : BitVec 32) (owned : Bool) (serial custKey : Bytes) (sigOk : Bool) (s : State) : exec (.ownershipRecord session owned serial custKey sigOk) s = execOwnershipRecord session owned serial custKey sigOk s := rfl
@[simp] theorem exec_ideKm (session : BitVec 32) (stream : Fin 3) (on : Bool) (s : State) : exec (.ideKm session stream on) s = execIdeKm session stream on s := rfl
@[simp] theorem exec_getVersion (s : State) : exec (.getVersion) s = execGetVersion s := rfl
@[simp] theorem exec_getCapabilities (version : BitVec 8) (s : State) : exec (.getCapabilities version) s = execGetCapabilities version s := rfl
@[simp] theorem exec_negotiateAlgorithms (common : Bool) (s : State) : exec (.negotiateAlgorithms common) s = execNegotiateAlgorithms common s := rfl
@[simp] theorem exec_getDigests (s : State) : exec (.getDigests) s = execGetDigests s := rfl
@[simp] theorem exec_getCertificate (slot : BitVec 4) (off len : Nat) (s : State) : exec (.getCertificate slot off len) s = execGetCertificate slot off len s := rfl
@[simp] theorem exec_challenge (slot : BitVec 4) (nonce : Bytes) (s : State) : exec (.challenge slot nonce) s = execChallenge slot nonce s := rfl
@[simp] theorem exec_getMeasurements (index : BitVec 8) (s : State) : exec (.getMeasurements index) s = execGetMeasurements index s := rfl
@[simp] theorem exec_keyExchange (slot : BitVec 4) (session : BitVec 32) (exchange : Bytes) (s : State) : exec (.keyExchange slot session exchange) s = execKeyExchange slot session exchange s := rfl
@[simp] theorem exec_finish (session : BitVec 32) (ok : Bool) (s : State) : exec (.finish session ok) s = execFinish session ok s := rfl
@[simp] theorem exec_spdmHeartbeat (session : BitVec 32) (s : State) : exec (.spdmHeartbeat session) s = execSpdmHeartbeat session s := rfl
@[simp] theorem exec_keyUpdate (session : BitVec 32) (s : State) : exec (.keyUpdate session) s = execKeyUpdate session s := rfl
@[simp] theorem exec_endSession (session : BitVec 32) (s : State) : exec (.endSession session) s = execEndSession session s := rfl
@[simp] theorem exec_kxCert (slot : Fin 8) (u : Unit) (s : State) : exec (.kxCert slot u) s = execKxCert slot u s := rfl
@[simp] theorem exec_kxHello (slot : Fin 8) (s : State) : exec (.kxHello slot) s = execKxHello slot s := rfl
@[simp] theorem exec_kxReply (slot : Fin 8) (u : Unit) (s : State) : exec (.kxReply slot u) s = execKxReply slot u s := rfl
@[simp] theorem exec_kxConfirm (slot : Fin 8) (u : Unit) (s : State) : exec (.kxConfirm slot u) s = execKxConfirm slot u s := rfl
@[simp] theorem exec_kxTimeout (dev : BitVec 16) (s : State) : exec (.kxTimeout dev) s = execKxTimeout dev s := rfl
@[simp] theorem exec_netDatagram (s : State) : exec (.netDatagram) s = execNetDatagram s := rfl
@[simp] theorem exec_pldmSensorRead (sensor : BitVec 8) (s : State) : exec (.pldmSensorRead sensor) s = execPldmSensorRead sensor s := rfl
@[simp] theorem exec_pldmModuleReset (s : State) : exec (.pldmModuleReset) s = execPldmModuleReset s := rfl
@[simp] theorem exec_pldmComputeReset (bist : Bool) (s : State) : exec (.pldmComputeReset bist) s = execPldmComputeReset bist s := rfl
@[simp] theorem exec_timeBaseTick (s : State) : exec (.timeBaseTick) s = execTimeBaseTick s := rfl
@[simp] theorem exec_timeLowRead (who : Initiator) (s : State) : exec (.timeLowRead who) s = execTimeLowRead who s := rfl
@[simp] theorem exec_logdataRead (who : Initiator) (s : State) : exec (.logdataRead who) s = execLogdataRead who s := rfl
@[simp] theorem exec_netkeyWrite (who : Initiator) (v : Word) (s : State) : exec (.netkeyWrite who v) s = execNetkeyWrite who v s := rfl
@[simp] theorem exec_powerSample (watts vin : BitVec 16) (s : State) : exec (.powerSample watts vin) s = execPowerSample watts vin s := rfl
@[simp] theorem exec_powerControlStep (dies : List (BitVec 16 × BitVec 14 × BitVec 10)) (s : State) : exec (.powerControlStep dies) s = execPowerControlStep dies s := rfl
@[simp] theorem exec_thermalSample (d : DieId) (temps : List (BitVec 8)) (rowMw : List (BitVec 16)) (s : State) : exec (.thermalSample d temps rowMw) s = execThermalSample d temps rowMw s := rfl
@[simp] theorem exec_vcoreDroop (d : DieId) (mv : BitVec 14) (long : Bool) (s : State) : exec (.vcoreDroop d mv long) s = execVcoreDroop d mv long s := rfl
@[simp] theorem exec_paceMeasure (d : DieId) (ps : BitVec 16) (s : State) : exec (.paceMeasure d ps) s = execPaceMeasure d ps s := rfl
@[simp] theorem exec_sealAcknowledged (e : SealEnd) (k : Nat) (s : State) : exec (.sealAcknowledged e k) s = execSealAcknowledged e k s := rfl
@[simp] theorem exec_portTrainingComplete (p : PortId) (lanes : BitVec 4) (s : State) : exec (.portTrainingComplete p lanes) s = execPortTrainingComplete p lanes s := rfl
@[simp] theorem exec_cxlLinkUp (speed : BitVec 3) (width : BitVec 6) (flit : BitVec 2) (s : State) : exec (.cxlLinkUp speed width flit) s = execCxlLinkUp speed width flit s := rfl
@[simp] theorem exec_linkWaitExpire (r : RingId) (s : State) : exec (.linkWaitExpire r) s = execLinkWaitExpire r s := rfl
@[simp] theorem exec_peatChannelFailure (ch : ChanId) (s : State) : exec (.peatChannelFailure ch) s = execPeatChannelFailure ch s := rfl
@[simp] theorem exec_runEmptyTimeout (c : CoreId) (s : State) : exec (.runEmptyTimeout c) s = execRunEmptyTimeout c s := rfl

end Sys2Proof.Machine
end

