-- ==== Sys2Proof/Laws/Tab.lean ====
section
/-! SUPPORT. Laws of sparse tables: a read after a write, and the canonical form kept by every operation. -/

namespace Sys2Proof.Machine

variable {α : Type}

/-- A read of the key just put gives the value put. -/
theorem tget_tput_same (d : Nat → α) (k : Nat) (v : α) : ∀ m : Tab α, tget d (tput m k v) k = v
  | [] => by simp [tput, tget]
  | (a, x) :: m => by
    by_cases h1 : k < a
    · simp [tput, h1, tget]
    · by_cases h2 : k = a
      · simp [tput, h2, tget]
      · have ha : a ≠ k := fun e => h2 e.symm
        simp [tput, h1, h2, tget, ha, tget_tput_same d k v m]

/-- Putting a key leaves every other key as it was. -/
theorem tget_tput_ne (d : Nat → α) (k j : Nat) (v : α) (hj : j ≠ k) : ∀ m : Tab α, tget d (tput m k v) j = tget d m j
  | [] => by simp [tput, tget, Ne.symm hj]
  | (a, x) :: m => by
    have hk : k ≠ j := Ne.symm hj
    by_cases h1 : k < a
    · simp [tput, h1, tget, hk]
    · by_cases h2 : k = a
      · subst h2
        simp [tput, tget, hk]
      · simp only [tput, h1, h2, if_false, tget]
        rw [tget_tput_ne d k j v hj m]

/-- A removed key reads as the default. -/
theorem tget_tdel_same (d : Nat → α) (k : Nat) : ∀ m : Tab α, tget d (tdel m k) k = d k
  | [] => rfl
  | (a, x) :: m => by
    have ih := tget_tdel_same d k m
    unfold tdel at ih ⊢
    by_cases h : a = k
    · simpa [h] using ih
    · simpa [h, tget] using ih

/-- Removing a key leaves every other key as it was. -/
theorem tget_tdel_ne (d : Nat → α) (k j : Nat) (hj : j ≠ k) : ∀ m : Tab α, tget d (tdel m k) j = tget d m j
  | [] => rfl
  | (a, x) :: m => by
    have ih := tget_tdel_ne d k j hj m
    unfold tdel at ih ⊢
    by_cases h : a = k
    · have ha : k ≠ j := Ne.symm hj
      simpa [h, tget, ha] using ih
    · simp only [ne_eq, h, not_false_eq_true, decide_true, List.filter_cons_of_pos, tget]
      rw [← ih]

/-- Removing a key twice is removing it once. -/
@[simp] theorem tdel_tdel (m : Tab α) (k : Nat) : tdel (tdel m k) k = tdel m k := by simp [tdel]

/-- Removing a key just put is removing it. -/
@[simp] theorem tdel_tput (k : Nat) (v : α) : ∀ m : Tab α, tdel (tput m k v) k = tdel m k
  | [] => by simp [tput, tdel]
  | (a, x) :: m => by
    have ih := tdel_tput k v m
    unfold tdel at ih ⊢
    by_cases h1 : k < a
    · simp [tput, h1]
    · by_cases h2 : k = a
      · subst h2; simp [tput]
      · have ha : a ≠ k := fun e => h2 e.symm
        simpa [tput, h1, h2, ha] using ih

variable [DecidableEq α]

/-- A read after a write: the value written at its key, what was there before at any other. -/
theorem tget_tset (d : Nat → α) (m : Tab α) (k j : Nat) (v : α) :
    tget d (tset d m k v) j = if j = k then v else tget d m j := by
  by_cases hj : j = k
  · subst hj
    by_cases hv : v = d j
    · simp only [tset, hv, if_true]; exact tget_tdel_same d j m
    · simp only [tset, hv, if_false, if_true]; exact tget_tput_same d j v _
  · by_cases hv : v = d k
    · simp only [tset, hv, if_true, hj, if_false]; exact tget_tdel_ne d k j hj m
    · simp only [tset, hv, if_false, hj]; rw [tget_tput_ne d k j v hj, tget_tdel_ne d k j hj]

/-- A key written twice holds the second value, and the first has left nothing. -/
@[simp] theorem tset_tset (d : Nat → α) (m : Tab α) (k : Nat) (v w : α) : tset d (tset d m k v) k w = tset d m k w := by
  have h : tdel (tset d m k v) k = tdel m k := by
    unfold tset; split <;> simp
  simp only [tset] at h ⊢
  rw [h]

/-- A read of the key just written. -/
@[simp] theorem tget_tset_same (d : Nat → α) (m : Tab α) (k : Nat) (v : α) : tget d (tset d m k v) k = v := by
  rw [tget_tset]; simp

/-- A read of another key. -/
theorem tget_tset_ne (d : Nat → α) (m : Tab α) (k j : Nat) (v : α) (h : j ≠ k) : tget d (tset d m k v) j = tget d m j := by
  rw [tget_tset]; simp [h]

/-- A canonical table stays canonical with a lower bound. -/
theorem twfFrom_mono (d : Nat → α) (lo lo' : Nat) (m : Tab α) (h : twfFrom d lo m = true) (hl : lo' ≤ lo) :
    twfFrom d lo' m = true := by
  cases m with
  | nil => rfl
  | cons e m =>
    obtain ⟨a, x⟩ := e
    simp only [twfFrom, Bool.and_eq_true, decide_eq_true_eq] at h ⊢
    exact ⟨by omega, h.2⟩

/-- Dropping entries by their keys keeps the canonical form. -/
theorem twfFrom_filter (d : Nat → α) (p : Nat × α → Bool) :
    ∀ (lo : Nat) (m : Tab α), twfFrom d lo m = true → twfFrom d lo (m.filter p) = true
  | _, [], _ => rfl
  | lo, (a, x) :: m, h => by
    simp only [twfFrom, Bool.and_eq_true, decide_eq_true_eq] at h
    have ih := twfFrom_filter d p (a + 1) m h.2.2
    by_cases hp : p (a, x) = true
    · simp only [List.filter_cons_of_pos hp, twfFrom, Bool.and_eq_true, decide_eq_true_eq]
      exact ⟨h.1, h.2.1, ih⟩
    · rw [List.filter_cons_of_neg hp]
      exact twfFrom_mono d (a + 1) lo _ ih (by omega)

/-- Putting a value that is not the default keeps the canonical form. -/
theorem twfFrom_tput (d : Nat → α) (k : Nat) (v : α) (hv : v ≠ d k) :
    ∀ (lo : Nat) (m : Tab α), twfFrom d lo m = true → lo ≤ k → twfFrom d lo (tput m k v) = true
  | lo, [], _, hk => by simp [tput, twfFrom, hk, hv]
  | lo, (a, x) :: m, h, hk => by
    simp only [twfFrom, Bool.and_eq_true, decide_eq_true_eq] at h
    by_cases h1 : k < a
    · simp only [tput, h1, if_true, twfFrom, Bool.and_eq_true, decide_eq_true_eq]
      exact ⟨hk, hv, by omega, h.2.1, h.2.2⟩
    · by_cases h2 : k = a
      · subst h2
        simp only [tput, Nat.lt_irrefl, if_false, if_true, twfFrom, Bool.and_eq_true, decide_eq_true_eq]
        exact ⟨hk, hv, h.2.2⟩
      · simp only [tput, h1, h2, if_false, twfFrom, Bool.and_eq_true, decide_eq_true_eq]
        exact ⟨h.1, h.2.1, twfFrom_tput d k v hv (a + 1) m h.2.2 (by omega)⟩

/-- A write keeps the canonical form of a table. -/
theorem twf_tset (d : Nat → α) (m : Tab α) (k : Nat) (v : α) (h : twf d m = true) : twf d (tset d m k v) = true := by
  by_cases hv : v = d k
  · simp only [tset, hv, if_true]; exact twfFrom_filter d _ 0 m h
  · simp only [tset, hv, if_false]; exact twfFrom_tput d k v hv 0 _ (twfFrom_filter d _ 0 m h) (Nat.zero_le _)

/-- A change in place keeps the canonical form of a table. -/
theorem twf_tmod (d : Nat → α) (m : Tab α) (k : Nat) (f : α → α) (h : twf d m = true) : twf d (tmod d m k f) = true :=
  twf_tset d m k _ h

/-- Dropping keys keeps the canonical form of a table. -/
theorem twf_tdrop (d : Nat → α) (p : Nat → Bool) (m : Tab α) (h : twf d m = true) : twf d (tdrop p m) = true :=
  twfFrom_filter d _ 0 m h

/-- Writing values at consecutive keys keeps the canonical form of a table. -/
theorem twf_twrite (d : Nat → α) : ∀ (vs : List α) (m : Tab α) (k : Nat), twf d m = true → twf d (twrite d m k vs) = true
  | [], _, _, h => h
  | v :: vs, m, k, h => twf_twrite d vs (tset d m k v) (k + 1) (twf_tset d m k v h)

/-- Setting keys from a list of entries keeps the canonical form of a table. -/
theorem twf_foldl_tset {β : Type} (d : Nat → α) (k : β → Nat) (v : β → α) :
    ∀ (l : List β) (m : Tab α), twf d m = true → twf d (l.foldl (fun m e => tset d m (k e) (v e)) m) = true
  | [], _, h => h
  | e :: l, m, h => twf_foldl_tset d k v l _ (twf_tset d m (k e) (v e) h)

/-- The empty table is canonical. -/
@[simp] theorem twf_nil (d : Nat → α) : twf d ([] : Tab α) = true := rfl

end Sys2Proof.Machine
end

