-- ==== Sys2Proof/Laws/State.lean ====
section
/-! SUPPORT. The fields of the state under the named updates, true by unfolding, and what each accessor reads after each
update. -/

namespace Sys2Proof.Machine

/-! ## setReg -/

@[simp] theorem State.setReg_pending (s : State) (k : Nat) (v : Word) : (s.setReg k v).pending = s.pending := rfl
@[simp] theorem State.setReg_freeIdx (s : State) (k : Nat) (v : Word) : (s.setReg k v).freeIdx = s.freeIdx := rfl
@[simp] theorem State.setReg_rd (s : State) (k : Nat) (v : Word) : (s.setReg k v).rd = s.rd := rfl
@[simp] theorem State.setReg_time (s : State) (k : Nat) (v : Word) : (s.setReg k v).time = s.time := rfl
@[simp] theorem State.setReg_ram (s : State) (k : Nat) (v : Word) : (s.setReg k v).ram = s.ram := rfl
@[simp] theorem State.setReg_hostMem (s : State) (k : Nat) (v : Word) : (s.setReg k v).hostMem = s.hostMem := rfl
@[simp] theorem State.setReg_otp (s : State) (k : Nat) (v : Word) : (s.setReg k v).otp = s.otp := rfl
@[simp] theorem State.setReg_boot (s : State) (k : Nat) (v : Word) : (s.setReg k v).boot = s.boot := rfl
@[simp] theorem State.setReg_badLines (s : State) (k : Nat) (v : Word) : (s.setReg k v).badLines = s.badLines := rfl
@[simp] theorem State.setReg_badWords (s : State) (k : Nat) (v : Word) : (s.setReg k v).badWords = s.badWords := rfl
@[simp] theorem State.setReg_ceWords (s : State) (k : Nat) (v : Word) : (s.setReg k v).ceWords = s.ceWords := rfl
@[simp] theorem State.setReg_rows (s : State) (k : Nat) (v : Word) : (s.setReg k v).rows = s.rows := rfl
@[simp] theorem State.setReg_slots (s : State) (k : Nat) (v : Word) : (s.setReg k v).slots = s.slots := rfl
@[simp] theorem State.setReg_dmap (s : State) (k : Nat) (v : Word) : (s.setReg k v).dmap = s.dmap := rfl
@[simp] theorem State.setReg_pool (s : State) (k : Nat) (v : Word) : (s.setReg k v).pool = s.pool := rfl
@[simp] theorem State.setReg_tierMap (s : State) (k : Nat) (v : Word) : (s.setReg k v).tierMap = s.tierMap := rfl
@[simp] theorem State.setReg_tier (s : State) (k : Nat) (v : Word) : (s.setReg k v).tier = s.tier := rfl
@[simp] theorem State.setReg_jobs (s : State) (k : Nat) (v : Word) : (s.setReg k v).jobs = s.jobs := rfl
@[simp] theorem State.setReg_rings (s : State) (k : Nat) (v : Word) : (s.setReg k v).rings = s.rings := rfl
@[simp] theorem State.setReg_digests (s : State) (k : Nat) (v : Word) : (s.setReg k v).digests = s.digests := rfl
@[simp] theorem State.setReg_port (s : State) (k : Nat) (v : Word) : (s.setReg k v).port = s.port := rfl
@[simp] theorem State.setReg_span (s : State) (k : Nat) (v : Word) : (s.setReg k v).span = s.span := rfl
@[simp] theorem State.setReg_wdn (s : State) (k : Nat) (v : Word) : (s.setReg k v).wdn = s.wdn := rfl
@[simp] theorem State.setReg_power (s : State) (k : Nat) (v : Word) : (s.setReg k v).power = s.power := rfl
@[simp] theorem State.setReg_cores (s : State) (k : Nat) (v : Word) : (s.setReg k v).cores = s.cores := rfl
@[simp] theorem State.setReg_seals (s : State) (k : Nat) (v : Word) : (s.setReg k v).seals = s.seals := rfl
@[simp] theorem State.setReg_beacons (s : State) (k : Nat) (v : Word) : (s.setReg k v).beacons = s.beacons := rfl
@[simp] theorem State.setReg_net (s : State) (k : Nat) (v : Word) : (s.setReg k v).net = s.net := rfl
@[simp] theorem State.setReg_routers (s : State) (k : Nat) (v : Word) : (s.setReg k v).routers = s.routers := rfl
@[simp] theorem State.setReg_flits (s : State) (k : Nat) (v : Word) : (s.setReg k v).flits = s.flits := rfl
@[simp] theorem State.setReg_esc (s : State) (k : Nat) (v : Word) : (s.setReg k v).esc = s.esc := rfl
@[simp] theorem State.setReg_seamWires (s : State) (k : Nat) (v : Word) : (s.setReg k v).seamWires = s.seamWires := rfl
@[simp] theorem State.setReg_wires (s : State) (k : Nat) (v : Word) : (s.setReg k v).wires = s.wires := rfl
@[simp] theorem State.setReg_steer (s : State) (k : Nat) (v : Word) : (s.setReg k v).steer = s.steer := rfl
@[simp] theorem State.setReg_landed (s : State) (k : Nat) (v : Word) : (s.setReg k v).landed = s.landed := rfl
@[simp] theorem State.setReg_escNew (s : State) (k : Nat) (v : Word) : (s.setReg k v).escNew = s.escNew := rfl
@[simp] theorem State.setReg_early (s : State) (k : Nat) (v : Word) : (s.setReg k v).early = s.early := rfl
@[simp] theorem State.setReg_netQ (s : State) (k : Nat) (v : Word) : (s.setReg k v).netQ = s.netQ := rfl
@[simp] theorem State.core_setReg (s : State) (k : Nat) (v : Word) (j : Nat) : (s.setReg k v).core j = s.core j := rfl
@[simp] theorem State.task_setReg (s : State) (k : Nat) (v : Word) (j t : Nat) : (s.setReg k v).task j t = s.task j t := rfl
@[simp] theorem State.row_setReg (s : State) (k : Nat) (v : Word) (j : Nat) : (s.setReg k v).row j = s.row j := rfl
@[simp] theorem State.slot_setReg (s : State) (k : Nat) (v : Word) (j : Nat) : (s.setReg k v).slot j = s.slot j := rfl
@[simp] theorem State.sealUnit_setReg (s : State) (k : Nat) (v : Word) (j : Nat) : (s.setReg k v).sealUnit j = s.sealUnit j := rfl
@[simp] theorem State.beacon_setReg (s : State) (k : Nat) (v : Word) (j : Nat) : (s.setReg k v).beacon j = s.beacon j := rfl
@[simp] theorem State.agent_setReg (s : State) (k : Nat) (v : Word) (j : Nat) : (s.setReg k v).agent j = s.agent j := rfl
@[simp] theorem State.ns_setReg (s : State) (k : Nat) (v : Word) : (s.setReg k v).ns = s.ns := rfl
@[simp] theorem State.slotOf_setReg (s : State) (k : Nat) (v : Word) (j : Nat) : (s.setReg k v).slotOf j = s.slotOf j := rfl
@[simp] theorem State.present_setReg (s : State) (k : Nat) (v : Word) (j : Nat) : (s.setReg k v).present j = s.present j := rfl
@[simp] theorem State.slotFor_setReg (s : State) (k : Nat) (v : Word) (j : Nat) : (s.setReg k v).slotFor j = s.slotFor j := rfl
@[simp] theorem State.live_setReg (s : State) (k : Nat) (v : Word) (j : Nat) : (s.setReg k v).live j = s.live j := rfl

/-! ## setCore -/

@[simp] theorem State.setCore_pending (s : State) (n : Nat) (c : Core) : (s.setCore n c).pending = s.pending := rfl
@[simp] theorem State.setCore_freeIdx (s : State) (n : Nat) (c : Core) : (s.setCore n c).freeIdx = s.freeIdx := rfl
@[simp] theorem State.setCore_rd (s : State) (n : Nat) (c : Core) : (s.setCore n c).rd = s.rd := rfl
@[simp] theorem State.setCore_time (s : State) (n : Nat) (c : Core) : (s.setCore n c).time = s.time := rfl
@[simp] theorem State.setCore_regs (s : State) (n : Nat) (c : Core) : (s.setCore n c).regs = s.regs := rfl
@[simp] theorem State.setCore_ram (s : State) (n : Nat) (c : Core) : (s.setCore n c).ram = s.ram := rfl
@[simp] theorem State.setCore_hostMem (s : State) (n : Nat) (c : Core) : (s.setCore n c).hostMem = s.hostMem := rfl
@[simp] theorem State.setCore_otp (s : State) (n : Nat) (c : Core) : (s.setCore n c).otp = s.otp := rfl
@[simp] theorem State.setCore_boot (s : State) (n : Nat) (c : Core) : (s.setCore n c).boot = s.boot := rfl
@[simp] theorem State.setCore_badLines (s : State) (n : Nat) (c : Core) : (s.setCore n c).badLines = s.badLines := rfl
@[simp] theorem State.setCore_badWords (s : State) (n : Nat) (c : Core) : (s.setCore n c).badWords = s.badWords := rfl
@[simp] theorem State.setCore_ceWords (s : State) (n : Nat) (c : Core) : (s.setCore n c).ceWords = s.ceWords := rfl
@[simp] theorem State.setCore_rows (s : State) (n : Nat) (c : Core) : (s.setCore n c).rows = s.rows := rfl
@[simp] theorem State.setCore_slots (s : State) (n : Nat) (c : Core) : (s.setCore n c).slots = s.slots := rfl
@[simp] theorem State.setCore_dmap (s : State) (n : Nat) (c : Core) : (s.setCore n c).dmap = s.dmap := rfl
@[simp] theorem State.setCore_pool (s : State) (n : Nat) (c : Core) : (s.setCore n c).pool = s.pool := rfl
@[simp] theorem State.setCore_tierMap (s : State) (n : Nat) (c : Core) : (s.setCore n c).tierMap = s.tierMap := rfl
@[simp] theorem State.setCore_tier (s : State) (n : Nat) (c : Core) : (s.setCore n c).tier = s.tier := rfl
@[simp] theorem State.setCore_jobs (s : State) (n : Nat) (c : Core) : (s.setCore n c).jobs = s.jobs := rfl
@[simp] theorem State.setCore_rings (s : State) (n : Nat) (c : Core) : (s.setCore n c).rings = s.rings := rfl
@[simp] theorem State.setCore_digests (s : State) (n : Nat) (c : Core) : (s.setCore n c).digests = s.digests := rfl
@[simp] theorem State.setCore_port (s : State) (n : Nat) (c : Core) : (s.setCore n c).port = s.port := rfl
@[simp] theorem State.setCore_span (s : State) (n : Nat) (c : Core) : (s.setCore n c).span = s.span := rfl
@[simp] theorem State.setCore_wdn (s : State) (n : Nat) (c : Core) : (s.setCore n c).wdn = s.wdn := rfl
@[simp] theorem State.setCore_power (s : State) (n : Nat) (c : Core) : (s.setCore n c).power = s.power := rfl
@[simp] theorem State.setCore_seals (s : State) (n : Nat) (c : Core) : (s.setCore n c).seals = s.seals := rfl
@[simp] theorem State.setCore_beacons (s : State) (n : Nat) (c : Core) : (s.setCore n c).beacons = s.beacons := rfl
@[simp] theorem State.setCore_net (s : State) (n : Nat) (c : Core) : (s.setCore n c).net = s.net := rfl
@[simp] theorem State.setCore_routers (s : State) (n : Nat) (c : Core) : (s.setCore n c).routers = s.routers := rfl
@[simp] theorem State.setCore_flits (s : State) (n : Nat) (c : Core) : (s.setCore n c).flits = s.flits := rfl
@[simp] theorem State.setCore_esc (s : State) (n : Nat) (c : Core) : (s.setCore n c).esc = s.esc := rfl
@[simp] theorem State.setCore_seamWires (s : State) (n : Nat) (c : Core) : (s.setCore n c).seamWires = s.seamWires := rfl
@[simp] theorem State.setCore_wires (s : State) (n : Nat) (c : Core) : (s.setCore n c).wires = s.wires := rfl
@[simp] theorem State.setCore_steer (s : State) (n : Nat) (c : Core) : (s.setCore n c).steer = s.steer := rfl
@[simp] theorem State.setCore_landed (s : State) (n : Nat) (c : Core) : (s.setCore n c).landed = s.landed := rfl
@[simp] theorem State.setCore_escNew (s : State) (n : Nat) (c : Core) : (s.setCore n c).escNew = s.escNew := rfl
@[simp] theorem State.setCore_early (s : State) (n : Nat) (c : Core) : (s.setCore n c).early = s.early := rfl
@[simp] theorem State.setCore_netQ (s : State) (n : Nat) (c : Core) : (s.setCore n c).netQ = s.netQ := rfl
@[simp] theorem State.reg_setCore (s : State) (n : Nat) (c : Core) (j : Nat) : (s.setCore n c).reg j = s.reg j := rfl
@[simp] theorem State.row_setCore (s : State) (n : Nat) (c : Core) (j : Nat) : (s.setCore n c).row j = s.row j := rfl
@[simp] theorem State.slot_setCore (s : State) (n : Nat) (c : Core) (j : Nat) : (s.setCore n c).slot j = s.slot j := rfl
@[simp] theorem State.sealUnit_setCore (s : State) (n : Nat) (c : Core) (j : Nat) : (s.setCore n c).sealUnit j = s.sealUnit j := rfl
@[simp] theorem State.beacon_setCore (s : State) (n : Nat) (c : Core) (j : Nat) : (s.setCore n c).beacon j = s.beacon j := rfl
@[simp] theorem State.agent_setCore (s : State) (n : Nat) (c : Core) (j : Nat) : (s.setCore n c).agent j = s.agent j := rfl
@[simp] theorem State.ns_setCore (s : State) (n : Nat) (c : Core) : (s.setCore n c).ns = s.ns := rfl
@[simp] theorem State.slotOf_setCore (s : State) (n : Nat) (c : Core) (j : Nat) : (s.setCore n c).slotOf j = s.slotOf j := rfl
@[simp] theorem State.present_setCore (s : State) (n : Nat) (c : Core) (j : Nat) : (s.setCore n c).present j = s.present j := rfl
@[simp] theorem State.slotFor_setCore (s : State) (n : Nat) (c : Core) (j : Nat) : (s.setCore n c).slotFor j = s.slotFor j := rfl
@[simp] theorem State.live_setCore (s : State) (n : Nat) (c : Core) (j : Nat) : (s.setCore n c).live j = s.live j := rfl

/-! ## setRow -/

@[simp] theorem State.setRow_pending (s : State) (r : Nat) (m : RowMap) : (s.setRow r m).pending = s.pending := rfl
@[simp] theorem State.setRow_freeIdx (s : State) (r : Nat) (m : RowMap) : (s.setRow r m).freeIdx = s.freeIdx := rfl
@[simp] theorem State.setRow_rd (s : State) (r : Nat) (m : RowMap) : (s.setRow r m).rd = s.rd := rfl
@[simp] theorem State.setRow_time (s : State) (r : Nat) (m : RowMap) : (s.setRow r m).time = s.time := rfl
@[simp] theorem State.setRow_regs (s : State) (r : Nat) (m : RowMap) : (s.setRow r m).regs = s.regs := rfl
@[simp] theorem State.setRow_ram (s : State) (r : Nat) (m : RowMap) : (s.setRow r m).ram = s.ram := rfl
@[simp] theorem State.setRow_hostMem (s : State) (r : Nat) (m : RowMap) : (s.setRow r m).hostMem = s.hostMem := rfl
@[simp] theorem State.setRow_otp (s : State) (r : Nat) (m : RowMap) : (s.setRow r m).otp = s.otp := rfl
@[simp] theorem State.setRow_boot (s : State) (r : Nat) (m : RowMap) : (s.setRow r m).boot = s.boot := rfl
@[simp] theorem State.setRow_badLines (s : State) (r : Nat) (m : RowMap) : (s.setRow r m).badLines = s.badLines := rfl
@[simp] theorem State.setRow_badWords (s : State) (r : Nat) (m : RowMap) : (s.setRow r m).badWords = s.badWords := rfl
@[simp] theorem State.setRow_ceWords (s : State) (r : Nat) (m : RowMap) : (s.setRow r m).ceWords = s.ceWords := rfl
@[simp] theorem State.setRow_slots (s : State) (r : Nat) (m : RowMap) : (s.setRow r m).slots = s.slots := rfl
@[simp] theorem State.setRow_dmap (s : State) (r : Nat) (m : RowMap) : (s.setRow r m).dmap = s.dmap := rfl
@[simp] theorem State.setRow_pool (s : State) (r : Nat) (m : RowMap) : (s.setRow r m).pool = s.pool := rfl
@[simp] theorem State.setRow_tierMap (s : State) (r : Nat) (m : RowMap) : (s.setRow r m).tierMap = s.tierMap := rfl
@[simp] theorem State.setRow_tier (s : State) (r : Nat) (m : RowMap) : (s.setRow r m).tier = s.tier := rfl
@[simp] theorem State.setRow_jobs (s : State) (r : Nat) (m : RowMap) : (s.setRow r m).jobs = s.jobs := rfl
@[simp] theorem State.setRow_rings (s : State) (r : Nat) (m : RowMap) : (s.setRow r m).rings = s.rings := rfl
@[simp] theorem State.setRow_digests (s : State) (r : Nat) (m : RowMap) : (s.setRow r m).digests = s.digests := rfl
@[simp] theorem State.setRow_port (s : State) (r : Nat) (m : RowMap) : (s.setRow r m).port = s.port := rfl
@[simp] theorem State.setRow_span (s : State) (r : Nat) (m : RowMap) : (s.setRow r m).span = s.span := rfl
@[simp] theorem State.setRow_wdn (s : State) (r : Nat) (m : RowMap) : (s.setRow r m).wdn = s.wdn := rfl
@[simp] theorem State.setRow_power (s : State) (r : Nat) (m : RowMap) : (s.setRow r m).power = s.power := rfl
@[simp] theorem State.setRow_cores (s : State) (r : Nat) (m : RowMap) : (s.setRow r m).cores = s.cores := rfl
@[simp] theorem State.setRow_seals (s : State) (r : Nat) (m : RowMap) : (s.setRow r m).seals = s.seals := rfl
@[simp] theorem State.setRow_beacons (s : State) (r : Nat) (m : RowMap) : (s.setRow r m).beacons = s.beacons := rfl
@[simp] theorem State.setRow_net (s : State) (r : Nat) (m : RowMap) : (s.setRow r m).net = s.net := rfl
@[simp] theorem State.setRow_routers (s : State) (r : Nat) (m : RowMap) : (s.setRow r m).routers = s.routers := rfl
@[simp] theorem State.setRow_flits (s : State) (r : Nat) (m : RowMap) : (s.setRow r m).flits = s.flits := rfl
@[simp] theorem State.setRow_esc (s : State) (r : Nat) (m : RowMap) : (s.setRow r m).esc = s.esc := rfl
@[simp] theorem State.setRow_seamWires (s : State) (r : Nat) (m : RowMap) : (s.setRow r m).seamWires = s.seamWires := rfl
@[simp] theorem State.setRow_wires (s : State) (r : Nat) (m : RowMap) : (s.setRow r m).wires = s.wires := rfl
@[simp] theorem State.setRow_steer (s : State) (r : Nat) (m : RowMap) : (s.setRow r m).steer = s.steer := rfl
@[simp] theorem State.setRow_landed (s : State) (r : Nat) (m : RowMap) : (s.setRow r m).landed = s.landed := rfl
@[simp] theorem State.setRow_escNew (s : State) (r : Nat) (m : RowMap) : (s.setRow r m).escNew = s.escNew := rfl
@[simp] theorem State.setRow_early (s : State) (r : Nat) (m : RowMap) : (s.setRow r m).early = s.early := rfl
@[simp] theorem State.setRow_netQ (s : State) (r : Nat) (m : RowMap) : (s.setRow r m).netQ = s.netQ := rfl
@[simp] theorem State.reg_setRow (s : State) (r : Nat) (m : RowMap) (j : Nat) : (s.setRow r m).reg j = s.reg j := rfl
@[simp] theorem State.core_setRow (s : State) (r : Nat) (m : RowMap) (j : Nat) : (s.setRow r m).core j = s.core j := rfl
@[simp] theorem State.task_setRow (s : State) (r : Nat) (m : RowMap) (j t : Nat) : (s.setRow r m).task j t = s.task j t := rfl
@[simp] theorem State.slot_setRow (s : State) (r : Nat) (m : RowMap) (j : Nat) : (s.setRow r m).slot j = s.slot j := rfl
@[simp] theorem State.sealUnit_setRow (s : State) (r : Nat) (m : RowMap) (j : Nat) : (s.setRow r m).sealUnit j = s.sealUnit j := rfl
@[simp] theorem State.beacon_setRow (s : State) (r : Nat) (m : RowMap) (j : Nat) : (s.setRow r m).beacon j = s.beacon j := rfl
@[simp] theorem State.agent_setRow (s : State) (r : Nat) (m : RowMap) (j : Nat) : (s.setRow r m).agent j = s.agent j := rfl
@[simp] theorem State.ns_setRow (s : State) (r : Nat) (m : RowMap) : (s.setRow r m).ns = s.ns := rfl

/-! ## setSlot -/

@[simp] theorem State.setSlot_pending (s : State) (p : Nat) (x : Slot) : (s.setSlot p x).pending = s.pending := rfl
@[simp] theorem State.setSlot_freeIdx (s : State) (p : Nat) (x : Slot) : (s.setSlot p x).freeIdx = s.freeIdx := rfl
@[simp] theorem State.setSlot_rd (s : State) (p : Nat) (x : Slot) : (s.setSlot p x).rd = s.rd := rfl
@[simp] theorem State.setSlot_time (s : State) (p : Nat) (x : Slot) : (s.setSlot p x).time = s.time := rfl
@[simp] theorem State.setSlot_regs (s : State) (p : Nat) (x : Slot) : (s.setSlot p x).regs = s.regs := rfl
@[simp] theorem State.setSlot_ram (s : State) (p : Nat) (x : Slot) : (s.setSlot p x).ram = s.ram := rfl
@[simp] theorem State.setSlot_hostMem (s : State) (p : Nat) (x : Slot) : (s.setSlot p x).hostMem = s.hostMem := rfl
@[simp] theorem State.setSlot_otp (s : State) (p : Nat) (x : Slot) : (s.setSlot p x).otp = s.otp := rfl
@[simp] theorem State.setSlot_boot (s : State) (p : Nat) (x : Slot) : (s.setSlot p x).boot = s.boot := rfl
@[simp] theorem State.setSlot_badLines (s : State) (p : Nat) (x : Slot) : (s.setSlot p x).badLines = s.badLines := rfl
@[simp] theorem State.setSlot_badWords (s : State) (p : Nat) (x : Slot) : (s.setSlot p x).badWords = s.badWords := rfl
@[simp] theorem State.setSlot_ceWords (s : State) (p : Nat) (x : Slot) : (s.setSlot p x).ceWords = s.ceWords := rfl
@[simp] theorem State.setSlot_rows (s : State) (p : Nat) (x : Slot) : (s.setSlot p x).rows = s.rows := rfl
@[simp] theorem State.setSlot_dmap (s : State) (p : Nat) (x : Slot) : (s.setSlot p x).dmap = s.dmap := rfl
@[simp] theorem State.setSlot_pool (s : State) (p : Nat) (x : Slot) : (s.setSlot p x).pool = s.pool := rfl
@[simp] theorem State.setSlot_tierMap (s : State) (p : Nat) (x : Slot) : (s.setSlot p x).tierMap = s.tierMap := rfl
@[simp] theorem State.setSlot_tier (s : State) (p : Nat) (x : Slot) : (s.setSlot p x).tier = s.tier := rfl
@[simp] theorem State.setSlot_jobs (s : State) (p : Nat) (x : Slot) : (s.setSlot p x).jobs = s.jobs := rfl
@[simp] theorem State.setSlot_rings (s : State) (p : Nat) (x : Slot) : (s.setSlot p x).rings = s.rings := rfl
@[simp] theorem State.setSlot_digests (s : State) (p : Nat) (x : Slot) : (s.setSlot p x).digests = s.digests := rfl
@[simp] theorem State.setSlot_port (s : State) (p : Nat) (x : Slot) : (s.setSlot p x).port = s.port := rfl
@[simp] theorem State.setSlot_span (s : State) (p : Nat) (x : Slot) : (s.setSlot p x).span = s.span := rfl
@[simp] theorem State.setSlot_wdn (s : State) (p : Nat) (x : Slot) : (s.setSlot p x).wdn = s.wdn := rfl
@[simp] theorem State.setSlot_power (s : State) (p : Nat) (x : Slot) : (s.setSlot p x).power = s.power := rfl
@[simp] theorem State.setSlot_cores (s : State) (p : Nat) (x : Slot) : (s.setSlot p x).cores = s.cores := rfl
@[simp] theorem State.setSlot_seals (s : State) (p : Nat) (x : Slot) : (s.setSlot p x).seals = s.seals := rfl
@[simp] theorem State.setSlot_beacons (s : State) (p : Nat) (x : Slot) : (s.setSlot p x).beacons = s.beacons := rfl
@[simp] theorem State.setSlot_net (s : State) (p : Nat) (x : Slot) : (s.setSlot p x).net = s.net := rfl
@[simp] theorem State.setSlot_routers (s : State) (p : Nat) (x : Slot) : (s.setSlot p x).routers = s.routers := rfl
@[simp] theorem State.setSlot_flits (s : State) (p : Nat) (x : Slot) : (s.setSlot p x).flits = s.flits := rfl
@[simp] theorem State.setSlot_esc (s : State) (p : Nat) (x : Slot) : (s.setSlot p x).esc = s.esc := rfl
@[simp] theorem State.setSlot_seamWires (s : State) (p : Nat) (x : Slot) : (s.setSlot p x).seamWires = s.seamWires := rfl
@[simp] theorem State.setSlot_wires (s : State) (p : Nat) (x : Slot) : (s.setSlot p x).wires = s.wires := rfl
@[simp] theorem State.setSlot_steer (s : State) (p : Nat) (x : Slot) : (s.setSlot p x).steer = s.steer := rfl
@[simp] theorem State.setSlot_landed (s : State) (p : Nat) (x : Slot) : (s.setSlot p x).landed = s.landed := rfl
@[simp] theorem State.setSlot_escNew (s : State) (p : Nat) (x : Slot) : (s.setSlot p x).escNew = s.escNew := rfl
@[simp] theorem State.setSlot_early (s : State) (p : Nat) (x : Slot) : (s.setSlot p x).early = s.early := rfl
@[simp] theorem State.setSlot_netQ (s : State) (p : Nat) (x : Slot) : (s.setSlot p x).netQ = s.netQ := rfl
@[simp] theorem State.reg_setSlot (s : State) (p : Nat) (x : Slot) (j : Nat) : (s.setSlot p x).reg j = s.reg j := rfl
@[simp] theorem State.core_setSlot (s : State) (p : Nat) (x : Slot) (j : Nat) : (s.setSlot p x).core j = s.core j := rfl
@[simp] theorem State.task_setSlot (s : State) (p : Nat) (x : Slot) (j t : Nat) : (s.setSlot p x).task j t = s.task j t := rfl
@[simp] theorem State.row_setSlot (s : State) (p : Nat) (x : Slot) (j : Nat) : (s.setSlot p x).row j = s.row j := rfl
@[simp] theorem State.sealUnit_setSlot (s : State) (p : Nat) (x : Slot) (j : Nat) : (s.setSlot p x).sealUnit j = s.sealUnit j := rfl
@[simp] theorem State.beacon_setSlot (s : State) (p : Nat) (x : Slot) (j : Nat) : (s.setSlot p x).beacon j = s.beacon j := rfl
@[simp] theorem State.agent_setSlot (s : State) (p : Nat) (x : Slot) (j : Nat) : (s.setSlot p x).agent j = s.agent j := rfl
@[simp] theorem State.ns_setSlot (s : State) (p : Nat) (x : Slot) : (s.setSlot p x).ns = s.ns := rfl
@[simp] theorem State.slotOf_setSlot (s : State) (p : Nat) (x : Slot) (j : Nat) : (s.setSlot p x).slotOf j = s.slotOf j := rfl
@[simp] theorem State.present_setSlot (s : State) (p : Nat) (x : Slot) (j : Nat) : (s.setSlot p x).present j = s.present j := rfl

/-! ## setSeal -/

@[simp] theorem State.setSeal_pending (s : State) (n : Nat) (u : SealUnit) : (s.setSeal n u).pending = s.pending := rfl
@[simp] theorem State.setSeal_freeIdx (s : State) (n : Nat) (u : SealUnit) : (s.setSeal n u).freeIdx = s.freeIdx := rfl
@[simp] theorem State.setSeal_rd (s : State) (n : Nat) (u : SealUnit) : (s.setSeal n u).rd = s.rd := rfl
@[simp] theorem State.setSeal_time (s : State) (n : Nat) (u : SealUnit) : (s.setSeal n u).time = s.time := rfl
@[simp] theorem State.setSeal_regs (s : State) (n : Nat) (u : SealUnit) : (s.setSeal n u).regs = s.regs := rfl
@[simp] theorem State.setSeal_ram (s : State) (n : Nat) (u : SealUnit) : (s.setSeal n u).ram = s.ram := rfl
@[simp] theorem State.setSeal_hostMem (s : State) (n : Nat) (u : SealUnit) : (s.setSeal n u).hostMem = s.hostMem := rfl
@[simp] theorem State.setSeal_otp (s : State) (n : Nat) (u : SealUnit) : (s.setSeal n u).otp = s.otp := rfl
@[simp] theorem State.setSeal_boot (s : State) (n : Nat) (u : SealUnit) : (s.setSeal n u).boot = s.boot := rfl
@[simp] theorem State.setSeal_badLines (s : State) (n : Nat) (u : SealUnit) : (s.setSeal n u).badLines = s.badLines := rfl
@[simp] theorem State.setSeal_badWords (s : State) (n : Nat) (u : SealUnit) : (s.setSeal n u).badWords = s.badWords := rfl
@[simp] theorem State.setSeal_ceWords (s : State) (n : Nat) (u : SealUnit) : (s.setSeal n u).ceWords = s.ceWords := rfl
@[simp] theorem State.setSeal_rows (s : State) (n : Nat) (u : SealUnit) : (s.setSeal n u).rows = s.rows := rfl
@[simp] theorem State.setSeal_slots (s : State) (n : Nat) (u : SealUnit) : (s.setSeal n u).slots = s.slots := rfl
@[simp] theorem State.setSeal_dmap (s : State) (n : Nat) (u : SealUnit) : (s.setSeal n u).dmap = s.dmap := rfl
@[simp] theorem State.setSeal_pool (s : State) (n : Nat) (u : SealUnit) : (s.setSeal n u).pool = s.pool := rfl
@[simp] theorem State.setSeal_tierMap (s : State) (n : Nat) (u : SealUnit) : (s.setSeal n u).tierMap = s.tierMap := rfl
@[simp] theorem State.setSeal_tier (s : State) (n : Nat) (u : SealUnit) : (s.setSeal n u).tier = s.tier := rfl
@[simp] theorem State.setSeal_jobs (s : State) (n : Nat) (u : SealUnit) : (s.setSeal n u).jobs = s.jobs := rfl
@[simp] theorem State.setSeal_rings (s : State) (n : Nat) (u : SealUnit) : (s.setSeal n u).rings = s.rings := rfl
@[simp] theorem State.setSeal_digests (s : State) (n : Nat) (u : SealUnit) : (s.setSeal n u).digests = s.digests := rfl
@[simp] theorem State.setSeal_port (s : State) (n : Nat) (u : SealUnit) : (s.setSeal n u).port = s.port := rfl
@[simp] theorem State.setSeal_span (s : State) (n : Nat) (u : SealUnit) : (s.setSeal n u).span = s.span := rfl
@[simp] theorem State.setSeal_wdn (s : State) (n : Nat) (u : SealUnit) : (s.setSeal n u).wdn = s.wdn := rfl
@[simp] theorem State.setSeal_power (s : State) (n : Nat) (u : SealUnit) : (s.setSeal n u).power = s.power := rfl
@[simp] theorem State.setSeal_cores (s : State) (n : Nat) (u : SealUnit) : (s.setSeal n u).cores = s.cores := rfl
@[simp] theorem State.setSeal_beacons (s : State) (n : Nat) (u : SealUnit) : (s.setSeal n u).beacons = s.beacons := rfl
@[simp] theorem State.setSeal_net (s : State) (n : Nat) (u : SealUnit) : (s.setSeal n u).net = s.net := rfl
@[simp] theorem State.setSeal_routers (s : State) (n : Nat) (u : SealUnit) : (s.setSeal n u).routers = s.routers := rfl
@[simp] theorem State.setSeal_flits (s : State) (n : Nat) (u : SealUnit) : (s.setSeal n u).flits = s.flits := rfl
@[simp] theorem State.setSeal_esc (s : State) (n : Nat) (u : SealUnit) : (s.setSeal n u).esc = s.esc := rfl
@[simp] theorem State.setSeal_seamWires (s : State) (n : Nat) (u : SealUnit) : (s.setSeal n u).seamWires = s.seamWires := rfl
@[simp] theorem State.setSeal_wires (s : State) (n : Nat) (u : SealUnit) : (s.setSeal n u).wires = s.wires := rfl
@[simp] theorem State.setSeal_steer (s : State) (n : Nat) (u : SealUnit) : (s.setSeal n u).steer = s.steer := rfl
@[simp] theorem State.setSeal_landed (s : State) (n : Nat) (u : SealUnit) : (s.setSeal n u).landed = s.landed := rfl
@[simp] theorem State.setSeal_escNew (s : State) (n : Nat) (u : SealUnit) : (s.setSeal n u).escNew = s.escNew := rfl
@[simp] theorem State.setSeal_early (s : State) (n : Nat) (u : SealUnit) : (s.setSeal n u).early = s.early := rfl
@[simp] theorem State.setSeal_netQ (s : State) (n : Nat) (u : SealUnit) : (s.setSeal n u).netQ = s.netQ := rfl
@[simp] theorem State.reg_setSeal (s : State) (n : Nat) (u : SealUnit) (j : Nat) : (s.setSeal n u).reg j = s.reg j := rfl
@[simp] theorem State.core_setSeal (s : State) (n : Nat) (u : SealUnit) (j : Nat) : (s.setSeal n u).core j = s.core j := rfl
@[simp] theorem State.task_setSeal (s : State) (n : Nat) (u : SealUnit) (j t : Nat) : (s.setSeal n u).task j t = s.task j t := rfl
@[simp] theorem State.row_setSeal (s : State) (n : Nat) (u : SealUnit) (j : Nat) : (s.setSeal n u).row j = s.row j := rfl
@[simp] theorem State.slot_setSeal (s : State) (n : Nat) (u : SealUnit) (j : Nat) : (s.setSeal n u).slot j = s.slot j := rfl
@[simp] theorem State.beacon_setSeal (s : State) (n : Nat) (u : SealUnit) (j : Nat) : (s.setSeal n u).beacon j = s.beacon j := rfl
@[simp] theorem State.agent_setSeal (s : State) (n : Nat) (u : SealUnit) (j : Nat) : (s.setSeal n u).agent j = s.agent j := rfl
@[simp] theorem State.ns_setSeal (s : State) (n : Nat) (u : SealUnit) : (s.setSeal n u).ns = s.ns := rfl
@[simp] theorem State.slotOf_setSeal (s : State) (n : Nat) (u : SealUnit) (j : Nat) : (s.setSeal n u).slotOf j = s.slotOf j := rfl
@[simp] theorem State.present_setSeal (s : State) (n : Nat) (u : SealUnit) (j : Nat) : (s.setSeal n u).present j = s.present j := rfl
@[simp] theorem State.slotFor_setSeal (s : State) (n : Nat) (u : SealUnit) (j : Nat) : (s.setSeal n u).slotFor j = s.slotFor j := rfl
@[simp] theorem State.live_setSeal (s : State) (n : Nat) (u : SealUnit) (j : Nat) : (s.setSeal n u).live j = s.live j := rfl

/-! ## setMapEntry -/

@[simp] theorem State.setMapEntry_pending (s : State) (i : Nat) (e : Word) : (s.setMapEntry i e).pending = s.pending := rfl
@[simp] theorem State.setMapEntry_freeIdx (s : State) (i : Nat) (e : Word) : (s.setMapEntry i e).freeIdx = s.freeIdx := rfl
@[simp] theorem State.setMapEntry_rd (s : State) (i : Nat) (e : Word) : (s.setMapEntry i e).rd = s.rd := rfl
@[simp] theorem State.setMapEntry_time (s : State) (i : Nat) (e : Word) : (s.setMapEntry i e).time = s.time := rfl
@[simp] theorem State.setMapEntry_regs (s : State) (i : Nat) (e : Word) : (s.setMapEntry i e).regs = s.regs := rfl
@[simp] theorem State.setMapEntry_ram (s : State) (i : Nat) (e : Word) : (s.setMapEntry i e).ram = s.ram := rfl
@[simp] theorem State.setMapEntry_hostMem (s : State) (i : Nat) (e : Word) : (s.setMapEntry i e).hostMem = s.hostMem := rfl
@[simp] theorem State.setMapEntry_otp (s : State) (i : Nat) (e : Word) : (s.setMapEntry i e).otp = s.otp := rfl
@[simp] theorem State.setMapEntry_boot (s : State) (i : Nat) (e : Word) : (s.setMapEntry i e).boot = s.boot := rfl
@[simp] theorem State.setMapEntry_badLines (s : State) (i : Nat) (e : Word) : (s.setMapEntry i e).badLines = s.badLines := rfl
@[simp] theorem State.setMapEntry_badWords (s : State) (i : Nat) (e : Word) : (s.setMapEntry i e).badWords = s.badWords := rfl
@[simp] theorem State.setMapEntry_ceWords (s : State) (i : Nat) (e : Word) : (s.setMapEntry i e).ceWords = s.ceWords := rfl
@[simp] theorem State.setMapEntry_rows (s : State) (i : Nat) (e : Word) : (s.setMapEntry i e).rows = s.rows := rfl
@[simp] theorem State.setMapEntry_slots (s : State) (i : Nat) (e : Word) : (s.setMapEntry i e).slots = s.slots := rfl
@[simp] theorem State.setMapEntry_dmap (s : State) (i : Nat) (e : Word) : (s.setMapEntry i e).dmap = s.dmap := rfl
@[simp] theorem State.setMapEntry_pool (s : State) (i : Nat) (e : Word) : (s.setMapEntry i e).pool = s.pool := rfl
@[simp] theorem State.setMapEntry_tier (s : State) (i : Nat) (e : Word) : (s.setMapEntry i e).tier = s.tier := rfl
@[simp] theorem State.setMapEntry_jobs (s : State) (i : Nat) (e : Word) : (s.setMapEntry i e).jobs = s.jobs := rfl
@[simp] theorem State.setMapEntry_rings (s : State) (i : Nat) (e : Word) : (s.setMapEntry i e).rings = s.rings := rfl
@[simp] theorem State.setMapEntry_digests (s : State) (i : Nat) (e : Word) : (s.setMapEntry i e).digests = s.digests := rfl
@[simp] theorem State.setMapEntry_port (s : State) (i : Nat) (e : Word) : (s.setMapEntry i e).port = s.port := rfl
@[simp] theorem State.setMapEntry_span (s : State) (i : Nat) (e : Word) : (s.setMapEntry i e).span = s.span := rfl
@[simp] theorem State.setMapEntry_wdn (s : State) (i : Nat) (e : Word) : (s.setMapEntry i e).wdn = s.wdn := rfl
@[simp] theorem State.setMapEntry_power (s : State) (i : Nat) (e : Word) : (s.setMapEntry i e).power = s.power := rfl
@[simp] theorem State.setMapEntry_cores (s : State) (i : Nat) (e : Word) : (s.setMapEntry i e).cores = s.cores := rfl
@[simp] theorem State.setMapEntry_seals (s : State) (i : Nat) (e : Word) : (s.setMapEntry i e).seals = s.seals := rfl
@[simp] theorem State.setMapEntry_beacons (s : State) (i : Nat) (e : Word) : (s.setMapEntry i e).beacons = s.beacons := rfl
@[simp] theorem State.setMapEntry_net (s : State) (i : Nat) (e : Word) : (s.setMapEntry i e).net = s.net := rfl
@[simp] theorem State.setMapEntry_routers (s : State) (i : Nat) (e : Word) : (s.setMapEntry i e).routers = s.routers := rfl
@[simp] theorem State.setMapEntry_flits (s : State) (i : Nat) (e : Word) : (s.setMapEntry i e).flits = s.flits := rfl
@[simp] theorem State.setMapEntry_esc (s : State) (i : Nat) (e : Word) : (s.setMapEntry i e).esc = s.esc := rfl
@[simp] theorem State.setMapEntry_seamWires (s : State) (i : Nat) (e : Word) : (s.setMapEntry i e).seamWires = s.seamWires := rfl
@[simp] theorem State.setMapEntry_wires (s : State) (i : Nat) (e : Word) : (s.setMapEntry i e).wires = s.wires := rfl
@[simp] theorem State.setMapEntry_steer (s : State) (i : Nat) (e : Word) : (s.setMapEntry i e).steer = s.steer := rfl
@[simp] theorem State.setMapEntry_landed (s : State) (i : Nat) (e : Word) : (s.setMapEntry i e).landed = s.landed := rfl
@[simp] theorem State.setMapEntry_escNew (s : State) (i : Nat) (e : Word) : (s.setMapEntry i e).escNew = s.escNew := rfl
@[simp] theorem State.setMapEntry_early (s : State) (i : Nat) (e : Word) : (s.setMapEntry i e).early = s.early := rfl
@[simp] theorem State.setMapEntry_netQ (s : State) (i : Nat) (e : Word) : (s.setMapEntry i e).netQ = s.netQ := rfl
@[simp] theorem State.reg_setMapEntry (s : State) (i : Nat) (e : Word) (j : Nat) : (s.setMapEntry i e).reg j = s.reg j := rfl
@[simp] theorem State.core_setMapEntry (s : State) (i : Nat) (e : Word) (j : Nat) : (s.setMapEntry i e).core j = s.core j := rfl
@[simp] theorem State.task_setMapEntry (s : State) (i : Nat) (e : Word) (j t : Nat) : (s.setMapEntry i e).task j t = s.task j t := rfl
@[simp] theorem State.row_setMapEntry (s : State) (i : Nat) (e : Word) (j : Nat) : (s.setMapEntry i e).row j = s.row j := rfl
@[simp] theorem State.slot_setMapEntry (s : State) (i : Nat) (e : Word) (j : Nat) : (s.setMapEntry i e).slot j = s.slot j := rfl
@[simp] theorem State.sealUnit_setMapEntry (s : State) (i : Nat) (e : Word) (j : Nat) : (s.setMapEntry i e).sealUnit j = s.sealUnit j := rfl
@[simp] theorem State.beacon_setMapEntry (s : State) (i : Nat) (e : Word) (j : Nat) : (s.setMapEntry i e).beacon j = s.beacon j := rfl
@[simp] theorem State.agent_setMapEntry (s : State) (i : Nat) (e : Word) (j : Nat) : (s.setMapEntry i e).agent j = s.agent j := rfl
@[simp] theorem State.ns_setMapEntry (s : State) (i : Nat) (e : Word) : (s.setMapEntry i e).ns = s.ns := rfl
@[simp] theorem State.slotOf_setMapEntry (s : State) (i : Nat) (e : Word) (j : Nat) : (s.setMapEntry i e).slotOf j = s.slotOf j := rfl
@[simp] theorem State.present_setMapEntry (s : State) (i : Nat) (e : Word) (j : Nat) : (s.setMapEntry i e).present j = s.present j := rfl
@[simp] theorem State.slotFor_setMapEntry (s : State) (i : Nat) (e : Word) (j : Nat) : (s.setMapEntry i e).slotFor j = s.slotFor j := rfl
@[simp] theorem State.live_setMapEntry (s : State) (i : Nat) (e : Word) (j : Nat) : (s.setMapEntry i e).live j = s.live j := rfl

/-! ## setBeacon -/

@[simp] theorem State.setBeacon_pending (s : State) (g : Nat) (b : Beacon) : (s.setBeacon g b).pending = s.pending := rfl
@[simp] theorem State.setBeacon_freeIdx (s : State) (g : Nat) (b : Beacon) : (s.setBeacon g b).freeIdx = s.freeIdx := rfl
@[simp] theorem State.setBeacon_rd (s : State) (g : Nat) (b : Beacon) : (s.setBeacon g b).rd = s.rd := rfl
@[simp] theorem State.setBeacon_time (s : State) (g : Nat) (b : Beacon) : (s.setBeacon g b).time = s.time := rfl
@[simp] theorem State.setBeacon_regs (s : State) (g : Nat) (b : Beacon) : (s.setBeacon g b).regs = s.regs := rfl
@[simp] theorem State.setBeacon_ram (s : State) (g : Nat) (b : Beacon) : (s.setBeacon g b).ram = s.ram := rfl
@[simp] theorem State.setBeacon_hostMem (s : State) (g : Nat) (b : Beacon) : (s.setBeacon g b).hostMem = s.hostMem := rfl
@[simp] theorem State.setBeacon_otp (s : State) (g : Nat) (b : Beacon) : (s.setBeacon g b).otp = s.otp := rfl
@[simp] theorem State.setBeacon_boot (s : State) (g : Nat) (b : Beacon) : (s.setBeacon g b).boot = s.boot := rfl
@[simp] theorem State.setBeacon_badLines (s : State) (g : Nat) (b : Beacon) : (s.setBeacon g b).badLines = s.badLines := rfl
@[simp] theorem State.setBeacon_badWords (s : State) (g : Nat) (b : Beacon) : (s.setBeacon g b).badWords = s.badWords := rfl
@[simp] theorem State.setBeacon_ceWords (s : State) (g : Nat) (b : Beacon) : (s.setBeacon g b).ceWords = s.ceWords := rfl
@[simp] theorem State.setBeacon_rows (s : State) (g : Nat) (b : Beacon) : (s.setBeacon g b).rows = s.rows := rfl
@[simp] theorem State.setBeacon_slots (s : State) (g : Nat) (b : Beacon) : (s.setBeacon g b).slots = s.slots := rfl
@[simp] theorem State.setBeacon_dmap (s : State) (g : Nat) (b : Beacon) : (s.setBeacon g b).dmap = s.dmap := rfl
@[simp] theorem State.setBeacon_pool (s : State) (g : Nat) (b : Beacon) : (s.setBeacon g b).pool = s.pool := rfl
@[simp] theorem State.setBeacon_tierMap (s : State) (g : Nat) (b : Beacon) : (s.setBeacon g b).tierMap = s.tierMap := rfl
@[simp] theorem State.setBeacon_tier (s : State) (g : Nat) (b : Beacon) : (s.setBeacon g b).tier = s.tier := rfl
@[simp] theorem State.setBeacon_jobs (s : State) (g : Nat) (b : Beacon) : (s.setBeacon g b).jobs = s.jobs := rfl
@[simp] theorem State.setBeacon_rings (s : State) (g : Nat) (b : Beacon) : (s.setBeacon g b).rings = s.rings := rfl
@[simp] theorem State.setBeacon_digests (s : State) (g : Nat) (b : Beacon) : (s.setBeacon g b).digests = s.digests := rfl
@[simp] theorem State.setBeacon_port (s : State) (g : Nat) (b : Beacon) : (s.setBeacon g b).port = s.port := rfl
@[simp] theorem State.setBeacon_span (s : State) (g : Nat) (b : Beacon) : (s.setBeacon g b).span = s.span := rfl
@[simp] theorem State.setBeacon_wdn (s : State) (g : Nat) (b : Beacon) : (s.setBeacon g b).wdn = s.wdn := rfl
@[simp] theorem State.setBeacon_power (s : State) (g : Nat) (b : Beacon) : (s.setBeacon g b).power = s.power := rfl
@[simp] theorem State.setBeacon_cores (s : State) (g : Nat) (b : Beacon) : (s.setBeacon g b).cores = s.cores := rfl
@[simp] theorem State.setBeacon_seals (s : State) (g : Nat) (b : Beacon) : (s.setBeacon g b).seals = s.seals := rfl
@[simp] theorem State.setBeacon_net (s : State) (g : Nat) (b : Beacon) : (s.setBeacon g b).net = s.net := rfl
@[simp] theorem State.setBeacon_routers (s : State) (g : Nat) (b : Beacon) : (s.setBeacon g b).routers = s.routers := rfl
@[simp] theorem State.setBeacon_flits (s : State) (g : Nat) (b : Beacon) : (s.setBeacon g b).flits = s.flits := rfl
@[simp] theorem State.setBeacon_esc (s : State) (g : Nat) (b : Beacon) : (s.setBeacon g b).esc = s.esc := rfl
@[simp] theorem State.setBeacon_seamWires (s : State) (g : Nat) (b : Beacon) : (s.setBeacon g b).seamWires = s.seamWires := rfl
@[simp] theorem State.setBeacon_wires (s : State) (g : Nat) (b : Beacon) : (s.setBeacon g b).wires = s.wires := rfl
@[simp] theorem State.setBeacon_steer (s : State) (g : Nat) (b : Beacon) : (s.setBeacon g b).steer = s.steer := rfl
@[simp] theorem State.setBeacon_landed (s : State) (g : Nat) (b : Beacon) : (s.setBeacon g b).landed = s.landed := rfl
@[simp] theorem State.setBeacon_escNew (s : State) (g : Nat) (b : Beacon) : (s.setBeacon g b).escNew = s.escNew := rfl
@[simp] theorem State.setBeacon_early (s : State) (g : Nat) (b : Beacon) : (s.setBeacon g b).early = s.early := rfl
@[simp] theorem State.setBeacon_netQ (s : State) (g : Nat) (b : Beacon) : (s.setBeacon g b).netQ = s.netQ := rfl
@[simp] theorem State.reg_setBeacon (s : State) (g : Nat) (b : Beacon) (j : Nat) : (s.setBeacon g b).reg j = s.reg j := rfl
@[simp] theorem State.core_setBeacon (s : State) (g : Nat) (b : Beacon) (j : Nat) : (s.setBeacon g b).core j = s.core j := rfl
@[simp] theorem State.task_setBeacon (s : State) (g : Nat) (b : Beacon) (j t : Nat) : (s.setBeacon g b).task j t = s.task j t := rfl
@[simp] theorem State.row_setBeacon (s : State) (g : Nat) (b : Beacon) (j : Nat) : (s.setBeacon g b).row j = s.row j := rfl
@[simp] theorem State.slot_setBeacon (s : State) (g : Nat) (b : Beacon) (j : Nat) : (s.setBeacon g b).slot j = s.slot j := rfl
@[simp] theorem State.sealUnit_setBeacon (s : State) (g : Nat) (b : Beacon) (j : Nat) : (s.setBeacon g b).sealUnit j = s.sealUnit j := rfl
@[simp] theorem State.agent_setBeacon (s : State) (g : Nat) (b : Beacon) (j : Nat) : (s.setBeacon g b).agent j = s.agent j := rfl
@[simp] theorem State.ns_setBeacon (s : State) (g : Nat) (b : Beacon) : (s.setBeacon g b).ns = s.ns := rfl
@[simp] theorem State.slotOf_setBeacon (s : State) (g : Nat) (b : Beacon) (j : Nat) : (s.setBeacon g b).slotOf j = s.slotOf j := rfl
@[simp] theorem State.present_setBeacon (s : State) (g : Nat) (b : Beacon) (j : Nat) : (s.setBeacon g b).present j = s.present j := rfl
@[simp] theorem State.slotFor_setBeacon (s : State) (g : Nat) (b : Beacon) (j : Nat) : (s.setBeacon g b).slotFor j = s.slotFor j := rfl
@[simp] theorem State.live_setBeacon (s : State) (g : Nat) (b : Beacon) (j : Nat) : (s.setBeacon g b).live j = s.live j := rfl

/-! ## setAgent -/

@[simp] theorem State.setAgent_pending (s : State) (d : Nat) (a : Agent) : (s.setAgent d a).pending = s.pending := rfl
@[simp] theorem State.setAgent_freeIdx (s : State) (d : Nat) (a : Agent) : (s.setAgent d a).freeIdx = s.freeIdx := rfl
@[simp] theorem State.setAgent_rd (s : State) (d : Nat) (a : Agent) : (s.setAgent d a).rd = s.rd := rfl
@[simp] theorem State.setAgent_time (s : State) (d : Nat) (a : Agent) : (s.setAgent d a).time = s.time := rfl
@[simp] theorem State.setAgent_regs (s : State) (d : Nat) (a : Agent) : (s.setAgent d a).regs = s.regs := rfl
@[simp] theorem State.setAgent_ram (s : State) (d : Nat) (a : Agent) : (s.setAgent d a).ram = s.ram := rfl
@[simp] theorem State.setAgent_hostMem (s : State) (d : Nat) (a : Agent) : (s.setAgent d a).hostMem = s.hostMem := rfl
@[simp] theorem State.setAgent_otp (s : State) (d : Nat) (a : Agent) : (s.setAgent d a).otp = s.otp := rfl
@[simp] theorem State.setAgent_boot (s : State) (d : Nat) (a : Agent) : (s.setAgent d a).boot = s.boot := rfl
@[simp] theorem State.setAgent_badLines (s : State) (d : Nat) (a : Agent) : (s.setAgent d a).badLines = s.badLines := rfl
@[simp] theorem State.setAgent_badWords (s : State) (d : Nat) (a : Agent) : (s.setAgent d a).badWords = s.badWords := rfl
@[simp] theorem State.setAgent_ceWords (s : State) (d : Nat) (a : Agent) : (s.setAgent d a).ceWords = s.ceWords := rfl
@[simp] theorem State.setAgent_rows (s : State) (d : Nat) (a : Agent) : (s.setAgent d a).rows = s.rows := rfl
@[simp] theorem State.setAgent_slots (s : State) (d : Nat) (a : Agent) : (s.setAgent d a).slots = s.slots := rfl
@[simp] theorem State.setAgent_dmap (s : State) (d : Nat) (a : Agent) : (s.setAgent d a).dmap = s.dmap := rfl
@[simp] theorem State.setAgent_pool (s : State) (d : Nat) (a : Agent) : (s.setAgent d a).pool = s.pool := rfl
@[simp] theorem State.setAgent_tierMap (s : State) (d : Nat) (a : Agent) : (s.setAgent d a).tierMap = s.tierMap := rfl
@[simp] theorem State.setAgent_jobs (s : State) (d : Nat) (a : Agent) : (s.setAgent d a).jobs = s.jobs := rfl
@[simp] theorem State.setAgent_rings (s : State) (d : Nat) (a : Agent) : (s.setAgent d a).rings = s.rings := rfl
@[simp] theorem State.setAgent_digests (s : State) (d : Nat) (a : Agent) : (s.setAgent d a).digests = s.digests := rfl
@[simp] theorem State.setAgent_port (s : State) (d : Nat) (a : Agent) : (s.setAgent d a).port = s.port := rfl
@[simp] theorem State.setAgent_span (s : State) (d : Nat) (a : Agent) : (s.setAgent d a).span = s.span := rfl
@[simp] theorem State.setAgent_wdn (s : State) (d : Nat) (a : Agent) : (s.setAgent d a).wdn = s.wdn := rfl
@[simp] theorem State.setAgent_power (s : State) (d : Nat) (a : Agent) : (s.setAgent d a).power = s.power := rfl
@[simp] theorem State.setAgent_cores (s : State) (d : Nat) (a : Agent) : (s.setAgent d a).cores = s.cores := rfl
@[simp] theorem State.setAgent_seals (s : State) (d : Nat) (a : Agent) : (s.setAgent d a).seals = s.seals := rfl
@[simp] theorem State.setAgent_beacons (s : State) (d : Nat) (a : Agent) : (s.setAgent d a).beacons = s.beacons := rfl
@[simp] theorem State.setAgent_net (s : State) (d : Nat) (a : Agent) : (s.setAgent d a).net = s.net := rfl
@[simp] theorem State.setAgent_routers (s : State) (d : Nat) (a : Agent) : (s.setAgent d a).routers = s.routers := rfl
@[simp] theorem State.setAgent_flits (s : State) (d : Nat) (a : Agent) : (s.setAgent d a).flits = s.flits := rfl
@[simp] theorem State.setAgent_esc (s : State) (d : Nat) (a : Agent) : (s.setAgent d a).esc = s.esc := rfl
@[simp] theorem State.setAgent_seamWires (s : State) (d : Nat) (a : Agent) : (s.setAgent d a).seamWires = s.seamWires := rfl
@[simp] theorem State.setAgent_wires (s : State) (d : Nat) (a : Agent) : (s.setAgent d a).wires = s.wires := rfl
@[simp] theorem State.setAgent_steer (s : State) (d : Nat) (a : Agent) : (s.setAgent d a).steer = s.steer := rfl
@[simp] theorem State.setAgent_landed (s : State) (d : Nat) (a : Agent) : (s.setAgent d a).landed = s.landed := rfl
@[simp] theorem State.setAgent_escNew (s : State) (d : Nat) (a : Agent) : (s.setAgent d a).escNew = s.escNew := rfl
@[simp] theorem State.setAgent_early (s : State) (d : Nat) (a : Agent) : (s.setAgent d a).early = s.early := rfl
@[simp] theorem State.setAgent_netQ (s : State) (d : Nat) (a : Agent) : (s.setAgent d a).netQ = s.netQ := rfl
@[simp] theorem State.reg_setAgent (s : State) (d : Nat) (a : Agent) (j : Nat) : (s.setAgent d a).reg j = s.reg j := rfl
@[simp] theorem State.core_setAgent (s : State) (d : Nat) (a : Agent) (j : Nat) : (s.setAgent d a).core j = s.core j := rfl
@[simp] theorem State.task_setAgent (s : State) (d : Nat) (a : Agent) (j t : Nat) : (s.setAgent d a).task j t = s.task j t := rfl
@[simp] theorem State.row_setAgent (s : State) (d : Nat) (a : Agent) (j : Nat) : (s.setAgent d a).row j = s.row j := rfl
@[simp] theorem State.slot_setAgent (s : State) (d : Nat) (a : Agent) (j : Nat) : (s.setAgent d a).slot j = s.slot j := rfl
@[simp] theorem State.sealUnit_setAgent (s : State) (d : Nat) (a : Agent) (j : Nat) : (s.setAgent d a).sealUnit j = s.sealUnit j := rfl
@[simp] theorem State.beacon_setAgent (s : State) (d : Nat) (a : Agent) (j : Nat) : (s.setAgent d a).beacon j = s.beacon j := rfl
@[simp] theorem State.ns_setAgent (s : State) (d : Nat) (a : Agent) : (s.setAgent d a).ns = s.ns := rfl
@[simp] theorem State.slotOf_setAgent (s : State) (d : Nat) (a : Agent) (j : Nat) : (s.setAgent d a).slotOf j = s.slotOf j := rfl
@[simp] theorem State.present_setAgent (s : State) (d : Nat) (a : Agent) (j : Nat) : (s.setAgent d a).present j = s.present j := rfl
@[simp] theorem State.slotFor_setAgent (s : State) (d : Nat) (a : Agent) (j : Nat) : (s.setAgent d a).slotFor j = s.slotFor j := rfl
@[simp] theorem State.live_setAgent (s : State) (d : Nat) (a : Agent) (j : Nat) : (s.setAgent d a).live j = s.live j := rfl

/-! ## What an update changes -/

/-- A register after a register write. -/
theorem State.reg_setReg (s : State) (k j : Nat) (v : Word) : (s.setReg k v).reg j = if j = k then v else s.reg j :=
  tget_tset regReset s.regs k j v
/-- The register just written. -/
@[simp] theorem State.reg_setReg_same (s : State) (k : Nat) (v : Word) : (s.setReg k v).reg k = v := by simp [State.reg_setReg]
/-- A core after a core is replaced. -/
theorem State.core_setCore (s : State) (n j : Nat) (c : Core) : (s.setCore n c).core j = if j = n then c else s.core j :=
  tget_tset dCore s.cores n j c
/-- The core just replaced. -/
@[simp] theorem State.core_setCore_same (s : State) (n : Nat) (c : Core) : (s.setCore n c).core n = c := by simp [State.core_setCore]
/-- A row after a row is replaced. -/
theorem State.row_setRow (s : State) (r j : Nat) (m : RowMap) : (s.setRow r m).row j = if j = r then m else s.row j :=
  tget_tset (fun _ => RowMap.initial) s.rows r j m
/-- The row just replaced. -/
@[simp] theorem State.row_setRow_same (s : State) (r : Nat) (m : RowMap) : (s.setRow r m).row r = m := by simp [State.row_setRow]
/-- A slot after a slot is replaced. -/
theorem State.slot_setSlot (s : State) (p j : Nat) (x : Slot) : (s.setSlot p x).slot j = if j = p then x else s.slot j :=
  tget_tset Slot.initial s.slots p j x
/-- The slot just replaced. -/
@[simp] theorem State.slot_setSlot_same (s : State) (p : Nat) (x : Slot) : (s.setSlot p x).slot p = x := by simp [State.slot_setSlot]
/-- A seal unit after one is replaced. -/
theorem State.sealUnit_setSeal (s : State) (n j : Nat) (u : SealUnit) :
    (s.setSeal n u).sealUnit j = if j = n then u else s.sealUnit j := tget_tset (fun _ => SealUnit.zero) s.seals n j u
/-- The seal unit just replaced. -/
@[simp] theorem State.sealUnit_setSeal_same (s : State) (n : Nat) (u : SealUnit) : (s.setSeal n u).sealUnit n = u := by
  simp [State.sealUnit_setSeal]
/-- A barrier group after one is replaced. -/
theorem State.beacon_setBeacon (s : State) (g j : Nat) (b : Beacon) : (s.setBeacon g b).beacon j = if j = g then b else s.beacon j :=
  tget_tset (fun _ => Beacon.zero) s.beacons g j b
/-- The barrier group just replaced. -/
@[simp] theorem State.beacon_setBeacon_same (s : State) (g : Nat) (b : Beacon) : (s.setBeacon g b).beacon g = b := by
  simp [State.beacon_setBeacon]
/-- A tier agent after one is replaced. -/
theorem State.agent_setAgent (s : State) (d j : Nat) (a : Agent) : (s.setAgent d a).agent j = if j = d then a else s.agent j :=
  tget_tset (fun _ => Agent.zero) s.tier.agents d j a
/-- The tier agent just replaced. -/
@[simp] theorem State.agent_setAgent_same (s : State) (d : Nat) (a : Agent) : (s.setAgent d a).agent d = a := by
  simp [State.agent_setAgent]

/-! ## Tasks and their registers -/

/-- A task slot of a core after one is replaced. -/
theorem Core.task_setTask (c : Core) (t j : Nat) (k : Task) : (c.setTask t k).task j = if j = t then k else c.task j :=
  tget_tset dTask c.tasks t j k
/-- The task slot just replaced. -/
@[simp] theorem Core.task_setTask_same (c : Core) (t : Nat) (k : Task) : (c.setTask t k).task t = k := by simp [Core.task_setTask]
/-- The task just replaced. -/
@[simp] theorem State.task_setTask_same (s : State) (n t : Nat) (k : Task) : (s.setTask n t k).task n t = k := by
  simp [State.task, State.setTask, State.modCore]
/-- The task just changed. -/
@[simp] theorem State.task_modTask_same (s : State) (n t : Nat) (f : Task → Task) : (s.modTask n t f).task n t = f (s.task n t) := by
  simp [State.modTask]
/-- A task of another slot or core after one is replaced. -/
theorem State.task_setTask_ne (s : State) (n t m u : Nat) (k : Task) (h : ¬(m = n ∧ u = t)) :
    (s.setTask n t k).task m u = s.task m u := by
  unfold State.task State.setTask State.modCore
  rw [State.core_setCore]
  by_cases hm : m = n
  · subst hm
    have hu : u ≠ t := fun e => h ⟨rfl, e⟩
    simp [Core.task_setTask, hu]
  · simp [hm]
/-- Replacing a task touches no register. -/
@[simp] theorem State.reg_setTask (s : State) (n t : Nat) (k : Task) (j : Nat) : (s.setTask n t k).reg j = s.reg j := rfl
/-- Changing a task touches no register. -/
@[simp] theorem State.reg_modTask (s : State) (n t : Nat) (f : Task → Task) (j : Nat) : (s.modTask n t f).reg j = s.reg j := rfl
/-- Replacing a task touches no memory. -/
@[simp] theorem State.setTask_ram (s : State) (n t : Nat) (k : Task) : (s.setTask n t k).ram = s.ram := rfl
/-- Changing a task touches no memory. -/
@[simp] theorem State.modTask_ram (s : State) (n t : Nat) (f : Task → Task) : (s.modTask n t f).ram = s.ram := rfl

/-- g registers after one is written. -/
theorem Task.greg_setG (k : Task) (i j : Nat) (v : Word) : (k.setG i v).greg j = if j = i then v else k.greg j :=
  tget_tset dWord k.g i j v
/-- a registers after one is written. -/
theorem Task.areg_setA (k : Task) (i j : Nat) (v : Word) : (k.setA i v).areg j = if j = i then v else k.areg j :=
  tget_tset dWord k.a i j v
/-- k registers after one is written. -/
theorem Task.kreg_setK (k : Task) (i j : Nat) (v : BitVec 32) : (k.setK i v).kreg j = if j = i then v else k.kreg j :=
  tget_tset (fun _ => 0) k.k i j v

/-! ## The same place written twice -/

/-- A register written twice holds the second value. -/
@[simp] theorem State.setReg_setReg (s : State) (k : Nat) (v w : Word) : (s.setReg k v).setReg k w = s.setReg k w := by simp [State.setReg]
/-- A core replaced twice is the second core. -/
@[simp] theorem State.setCore_setCore (s : State) (n : Nat) (c d : Core) : (s.setCore n c).setCore n d = s.setCore n d := by
  simp [State.setCore]
/-- A slot of a core replaced twice holds the second task. -/
@[simp] theorem Core.setTask_setTask (c : Core) (t : Nat) (k l : Task) : (c.setTask t k).setTask t l = c.setTask t l := by
  simp [Core.setTask]
/-- A task replaced twice is the second task. -/
@[simp] theorem State.setTask_setTask (s : State) (n t : Nat) (k l : Task) : (s.setTask n t k).setTask n t l = s.setTask n t l := by
  simp [State.setTask, State.modCore]
/-- A seal unit replaced twice is the second. -/
@[simp] theorem State.setSeal_setSeal (s : State) (n : Nat) (u v : SealUnit) : (s.setSeal n u).setSeal n v = s.setSeal n v := by
  simp [State.setSeal]
/-- A core changed twice. -/
theorem State.modCore_modCore (s : State) (n : Nat) (f g : Core → Core) :
    (s.modCore n f).modCore n g = s.modCore n (fun c => g (f c)) := by simp [State.modCore]
/-- A task changed twice. -/
theorem State.modTask_modTask (s : State) (n t : Nat) (f g : Task → Task) :
    (s.modTask n t f).modTask n t g = s.modTask n t (fun k => g (f k)) := by simp [State.modTask]

end Sys2Proof.Machine
end

