-- ==== Sys2Proof/Laws/Ops.lean ====
section
/-! SUPPORT. What the operations on registers, counters and tasks can do, said once each. -/

namespace Sys2Proof.Machine

/-! ## Operations that change registers only -/

/-- A die's counters count events in registers only. -/
theorem State.evDie_regs (s : State) (d code idx k : Nat) : ∀ n : Nat, ∃ r, s.evDie d code idx k n = { s with regs := r }
  | 0 => ⟨s.regs, rfl⟩
  | n + 1 => by
    obtain ⟨r, hr⟩ := State.evDie_regs s d code idx k n
    simp only [State.evDie, hr]
    split
    · exact ⟨_, rfl⟩
    · exact ⟨r, rfl⟩

/-- A core's counter is raised in registers only. -/
theorem State.evBump_regs (s : State) (n c k : Nat) : ∃ r, s.evBump n c k = { s with regs := r } := by
  simp only [State.evBump]
  split
  · exact ⟨_, rfl⟩
  · exact ⟨_, rfl⟩

/-- A core's counters count events in registers only. -/
theorem State.evCore_regs (s : State) (n code k : Nat) : ∀ c : Nat, ∃ r, s.evCore n code k c = { s with regs := r }
  | 0 => ⟨s.regs, rfl⟩
  | c + 1 => by
    obtain ⟨r, hr⟩ := State.evCore_regs s n code k c
    simp only [State.evCore, hr]
    split
    · obtain ⟨r', h'⟩ := State.evBump_regs { s with regs := r } n c k
      exact ⟨r', by rw [h']⟩
    · exact ⟨r, rfl⟩

/-- Events are counted in registers only. -/
theorem State.event_regs (s : State) (n code k : Nat) : ∃ r, s.event n code k = { s with regs := r } := by
  obtain ⟨r, hr⟩ := State.evCore_regs s n code k 8
  obtain ⟨r', h'⟩ := State.evDie_regs { s with regs := r } (n / 128) 0x13 code k 32
  exact ⟨r', by simp only [State.event, hr, h']⟩

/-- A register write under access codes changes registers only. -/
theorem State.regWrite_regs (s : State) (key : Nat) (v : Word) : ∃ r, s.regWrite key v = { s with regs := r } := by
  simp only [State.regWrite]
  split
  · exact ⟨s.regs, rfl⟩
  · exact ⟨_, rfl⟩

/-- A log register is written once in registers only. -/
theorem State.logOnce_regs (s : State) (k valid : Nat) (v : Word) : ∃ r, s.logOnce k valid v = { s with regs := r } := by
  simp only [State.logOnce]
  split
  · exact ⟨s.regs, rfl⟩
  · exact ⟨_, rfl⟩

section event
variable (s : State) (n code k : Nat)
/-- Counting events touches no core. -/
@[simp] theorem State.event_cores : (s.event n code k).cores = s.cores := by
  obtain ⟨r, h⟩ := s.event_regs n code k; rw [h]
/-- Counting events touches no core. -/
@[simp] theorem State.core_event (j : Nat) : (s.event n code k).core j = s.core j := by simp [State.core]
/-- Counting events touches no task. -/
@[simp] theorem State.task_event (j t : Nat) : (s.event n code k).task j t = s.task j t := by simp [State.task]
/-- Counting events touches no memory. -/
@[simp] theorem State.event_ram : (s.event n code k).ram = s.ram := by
  obtain ⟨r, h⟩ := s.event_regs n code k; rw [h]
/-- Counting events leaves time alone. -/
@[simp] theorem State.event_time : (s.event n code k).time = s.time := by
  obtain ⟨r, h⟩ := s.event_regs n code k; rw [h]
/-- Counting events leaves the rows alone. -/
@[simp] theorem State.event_rows : (s.event n code k).rows = s.rows := by
  obtain ⟨r, h⟩ := s.event_regs n code k; rw [h]
/-- Counting events leaves the slots alone. -/
@[simp] theorem State.event_slots : (s.event n code k).slots = s.slots := by
  obtain ⟨r, h⟩ := s.event_regs n code k; rw [h]
end event

end Sys2Proof.Machine
end

