-- ==== Sys2Proof/Laws/Issue.lean ====
section
/-! SUPPORT. What the issue of a task instruction can come to, said once for every instruction. -/

namespace Sys2Proof.Machine

/-- The task at issue: its own, with the last word. -/
@[simp] theorem State.task_atIssue (s : State) (n t opc : Nat) (f : InsnBits) :
    (s.atIssue n t opc f).task n t = { s.task n t with lastWord := insnWord opc f } := by
  simp [State.atIssue, State.count, State.setRegField]

/-- Issue changes the core only in the last word of its task. -/
theorem State.core_atIssue (s : State) (n t opc : Nat) (f : InsnBits) :
    (s.atIssue n t opc f).core n = (s.core n).setTask t { s.task n t with lastWord := insnWord opc f } := by
  simp [State.atIssue, State.count, State.setRegField, State.modTask, State.setTask, State.modCore]

/-- Issue touches nothing but registers and the task's record. -/
theorem State.atIssue_eq (s : State) (n t opc : Nat) (f : InsnBits) : ∃ r,
    s.atIssue n t opc f = { s with regs := r, cores := tset dCore s.cores n ((s.core n).setTask t { s.task n t with lastWord := insnWord opc f }) } := by
  obtain ⟨r, h⟩ := State.event_regs (s.count (coreKey n rSEQ_ISSUE) 31 0 1) n 0x02 1
  refine ⟨r, ?_⟩
  unfold State.atIssue
  rw [h]
  unfold State.count State.setRegField State.setReg State.modTask State.setTask State.modCore State.setCore State.task State.core
  rfl

/-- A slot that cannot issue is left as it is. -/
theorem State.issue_idle (s : State) (n t opc : Nat) (f : InsnBits) (body : Nat → Nat → State → Try) (h : s.canIssue n t = false) :
    s.issue n t opc f body = s := by simp [State.issue, h]

/-- An instruction whose form is not legal ends its task. -/
theorem State.issue_illegal (s : State) (n t opc : Nat) (f : InsnBits) (body : Nat → Nat → State → Try) (h : s.canIssue n t = true)
    (hl : legal opc f = false) : s.issue n t opc f body = s.endTask n t endIllegal (insnWord opc f) := by simp [State.issue, h, hl]

/-- An instruction whose guard is false only moves PC. -/
theorem State.issue_skip (s : State) (n t opc : Nat) (f : InsnBits) (body : Nat → Nat → State → Try) (h : s.canIssue n t = true)
    (hl : legal opc f = true) (hg : (s.task n t).guard f = false) :
    s.issue n t opc f body = (s.atIssue n t opc f).finish n t opc f (.done (s.atIssue n t opc f)) := by
  simp [State.issue, h, hl, hg]

/-- An instruction that issues, and whose registers are all there, runs its body on the state at issue. -/
theorem State.issue_runs (s : State) (n t opc : Nat) (f : InsnBits) (body : Nat → Nat → State → Try) (h : s.canIssue n t = true)
    (hl : legal opc f = true) (hg : (s.task n t).guard f = true) (hr : ∀ r ∈ readsOf opc f, r ∉ (s.task n t).pending) :
    s.issue n t opc f body = (s.atIssue n t opc f).finish n t opc f (body 0 0 (s.atIssue n t opc f)) := by
  have hn : (readsOf opc f).any (fun r => (s.task n t).pending.contains r) = false := by simpa using hr
  simp only [State.issue, h, hl, hg, if_true, State.attempt, State.task_atIssue, hn, Bool.false_eq_true, and_false, if_false]

/-- An instruction that reads an awaited register waits. -/
theorem State.issue_awaits (s : State) (n t opc : Nat) (f : InsnBits) (body : Nat → Nat → State → Try) (h : s.canIssue n t = true)
    (hl : legal opc f = true) (hg : (s.task n t).guard f = true) (hr : ∃ r ∈ readsOf opc f, r ∈ (s.task n t).pending) :
    s.issue n t opc f body = (s.atIssue n t opc f).finish n t opc f (.wait (s.atIssue n t opc f) 0 0 0 false) := by
  have hn : (readsOf opc f).any (fun r => (s.task n t).pending.contains r) = true := by simpa using hr
  simp only [State.issue, h, hl, hg, if_true, State.attempt, State.task_atIssue, hn, and_self, if_true]

/-- PC moves on to an index within the code. -/
theorem State.setPc_in (s : State) (n t : Nat) (pc : Int) (h0 : 0 ≤ pc) (h1 : pc < (s.task n t).img.codeLen) :
    s.setPc n t pc = s.setTask n t { s.task n t with pc := pc.toNat, phase := .running, wait := none } := by
  simp [State.setPc, h0, h1]

/-- A task runs past its code. -/
theorem State.setPc_out (s : State) (n t : Nat) (pc : Int) (h : ¬(0 ≤ pc ∧ pc < (s.task n t).img.codeLen)) :
    s.setPc n t pc = s.endTask n t endIllegal (s.task n t).lastWord := by
  simp only [State.setPc, h, if_false]

end Sys2Proof.Machine
end

