-- ==== Sys2Proof/Laws/Memory.lean ====
section
/-! SUPPORT. Memory: every operation on the byte stores keeps their canonical form, and the stores are empty at reset. -/

namespace Sys2Proof.Machine

/-- Nothing is listed in the card's memory at reset. -/
@[simp] theorem reset_ram : State.reset.ram = [] := rfl

/-- Nothing is listed in the host's memory at reset. -/
@[simp] theorem reset_hostMem : State.reset.hostMem = [] := rfl

/-- The canonical form is a matter of the two byte stores alone. -/
theorem memWf_of_eq {s t : State} (hr : t.ram = s.ram) (hh : t.hostMem = s.hostMem) : t.memWf = s.memWf := by
  simp only [State.memWf, hr, hh]

/-- A change of the card's memory that keeps its table canonical keeps the stores canonical. -/
theorem memWf_ram {s t : State} (h : s.memWf = true) (hr : twf zeroByte s.ram = true → twf zeroByte t.ram = true)
    (hh : t.hostMem = s.hostMem) : t.memWf = true := by
  simp only [State.memWf, Bool.and_eq_true] at h ⊢
  exact ⟨hr h.1, hh ▸ h.2⟩

/-- Setting a byte keeps the stores canonical. -/
theorem memWf_setByte (s : State) (a : Nat) (b : Byte) (h : s.memWf = true) : (s.setByte a b).memWf = true := by
  unfold State.setByte
  split
  · exact h
  · exact memWf_ram h (twf_tset _ _ _ _) rfl

/-- The bytes of a write keep the stores canonical. -/
theorem memWf_writeFrom (s0 : State) (a len : Nat) :
    ∀ (bs : Bytes) (x : Nat) (s : State), s.memWf = true → (s0.writeFrom a len x bs s).memWf = true
  | [], _, _, h => h
  | b :: bs, x, s, h => by
    unfold State.writeFrom
    refine memWf_writeFrom s0 a len bs (x + 1) _ ?_
    split
    · exact h
    · exact memWf_setByte s x b h

/-- A store keeps the stores canonical. -/
theorem memWf_store (s : State) (a : Nat) (bs : Bytes) (h : s.memWf = true) : (s.store a bs).memWf = true := by
  have hw := memWf_writeFrom s a bs.length bs a s h
  unfold State.store State.sealWrote
  dsimp only
  split <;> exact hw

/-- A little-endian store keeps the stores canonical. -/
theorem memWf_storeN (s : State) (a n v : Nat) (h : s.memWf = true) : (s.storeN a n v).memWf = true :=
  memWf_store s a _ h

/-- Zeroing a range keeps the stores canonical. -/
theorem memWf_zeroRange (s : State) (a len : Nat) (h : s.memWf = true) : (s.zeroRange a len).memWf = true := by
  refine memWf_ram h (fun hr => ?_) rfl
  unfold State.zeroRange
  dsimp only
  exact twf_tdrop _ _ _ hr

/-- The loss of a range keeps the stores canonical. -/
theorem memWf_loseRange (s : State) (a len : Nat) (h : s.memWf = true) : (s.loseRange a len).memWf = true := by
  refine memWf_ram h (fun hr => ?_) rfl
  unfold State.loseRange
  dsimp only
  exact twf_tdrop _ _ _ hr

/-- The loss of a bank group keeps the stores canonical. -/
theorem memWf_dropGroup (s : State) (n g : Nat) (h : s.memWf = true) : (s.dropGroup n g).memWf = true := by
  refine memWf_ram h (fun hr => ?_) rfl
  unfold State.dropGroup
  dsimp only
  exact twf_tdrop _ _ _ hr

/-- The loss of the unclaimed scratchpad of a core keeps the stores canonical. -/
theorem memWf_dropLoose (s : State) (n : Nat) (h : s.memWf = true) : (s.dropLoose n).memWf = true := by
  refine memWf_ram h (fun hr => ?_) rfl
  unfold State.dropLoose
  dsimp only
  exact twf_tdrop _ _ _ hr

/-- An exchange of frames keeps the stores canonical. -/
theorem memWf_swapFrames (s : State) (a b : Nat) (h : s.memWf = true) : (s.swapFrames a b).memWf = true :=
  memWf_ram h (fun hr => twf_foldl_tset _ _ _ _ _ (twf_foldl_tset _ _ _ _ _ (twf_tdrop _ _ _ hr))) rfl

/-- A write of host memory keeps the stores canonical. -/
theorem memWf_hostWrite (s : State) (a : Nat) (bs : Bytes) (h : s.memWf = true) :
    ({ s with hostMem := twrite zeroByte s.hostMem a bs } : State).memWf = true := by
  simp only [State.memWf, Bool.and_eq_true] at h ⊢
  exact ⟨h.1, twf_twrite _ _ _ _ h.2⟩

end Sys2Proof.Machine
end

