-- ==== Sys2Proof/Laws/Shared.lean ====
section
/-! SUPPORT. What the operations that many commands share can change, said once each: stores, error records, denied writes, snoops, packets and
draws. -/

namespace Sys2Proof.Machine

/-! ## Stores (spec/05 R160, spec/09 R513, spec/12 R388) -/

/-- A byte set changes memory or an entry of the context block map. -/
theorem State.setByte_parts (s : State) (a : Nat) (b : Byte) : ∃ m t, s.setByte a b = { s with ram := m, tierMap := t } := by
  simp only [State.setByte]
  split
  · exact ⟨_, _, rfl⟩
  · exact ⟨_, _, rfl⟩

/-- Bytes of a write change memory or entries of the context block map. -/
theorem State.writeFrom_parts (s0 : State) (a len : Nat) :
    ∀ (bs : Bytes) (x : Nat) (s : State), ∃ m t, s0.writeFrom a len x bs s = { s with ram := m, tierMap := t }
  | [], _, s => ⟨s.ram, s.tierMap, rfl⟩
  | b :: bs, x, s => by
    simp only [State.writeFrom]
    split
    · exact State.writeFrom_parts s0 a len bs (x + 1) s
    · obtain ⟨m, t, h⟩ := s.setByte_parts x b
      obtain ⟨m', t', h'⟩ := State.writeFrom_parts s0 a len bs (x + 1) (s.setByte x b)
      exact ⟨m', t', by rw [h', h]⟩

/-- A write repairs granules and changes nothing else. -/
theorem State.clearBad_parts (s : State) (a len : Nat) :
    ∃ l w c, s.clearBad a len = { s with badLines := l, badWords := w, ceWords := c } := ⟨_, _, _, rfl⟩

/-- A write changes seal references at most. -/
theorem State.sealWrote_parts (s : State) (a len : Nat) : ∃ q, s.sealWrote a len = { s with seals := q } := by
  simp only [State.sealWrote]
  split
  · exact ⟨s.seals, rfl⟩
  · exact ⟨_, rfl⟩

/-- A store changes memory, the context block map, the marks of bad granules that it repairs and the seal references that it clears, and nothing
else. -/
theorem State.store_parts (s : State) (a : Nat) (bs : Bytes) :
    ∃ m t l w c q, s.store a bs = { s with ram := m, tierMap := t, badLines := l, badWords := w, ceWords := c, seals := q } := by
  obtain ⟨m, t, h⟩ := State.writeFrom_parts s a bs.length bs a s
  obtain ⟨l, w, c, hc⟩ := State.clearBad_parts (s.writeFrom a bs.length a bs s) a bs.length
  obtain ⟨q, hq⟩ := State.sealWrote_parts ((s.writeFrom a bs.length a bs s).clearBad a bs.length) a bs.length
  exact ⟨m, t, l, w, c, q, by rw [State.store, hq, hc, h]⟩

/-! ## Error records and denied writes (spec/15 R478, R490 to R494) -/

/-- A record that is sent reaches the datagram queue, the PLDM queue and the journal at most. -/
theorem State.publish_parts (s : State) (sev : Nat) (bs : Bytes) :
    ∃ q l j, s.publish sev bs = { s with netQ := q, wdn := { s.wdn with pldmQ := l, journal := j } } := by
  simp only [State.publish, State.flash]
  split <;> split <;> split <;> exact ⟨_, _, _, rfl⟩

/-- A record written to the ring changes registers and what a store changes. -/
theorem State.logStore_parts (s : State) (seq : Nat) (bs : Bytes) :
    ∃ r m t l w c q, s.logStore seq bs =
      { s with regs := r, ram := m, tierMap := t, badLines := l, badWords := w, ceWords := c, seals := q } := by
  simp only [State.logStore]
  split
  · obtain ⟨m, t, l, w, c, q, h⟩ := State.store_parts (s.count rMGT_LOGCNT 63 32 1) (logRing + seq % 65536 * 64) bs
    exact ⟨_, m, t, l, w, c, q, h⟩
  · obtain ⟨m, t, l, w, c, q, h⟩ := State.store_parts s (logRing + seq % 65536 * 64) bs
    exact ⟨s.regs, m, t, l, w, c, q, h⟩

/-- An error record changes registers, what a store changes, the records held before Stage 2, the queues of records and the journal. -/
theorem State.record_parts (s : State) (b : RecBody) :
    ∃ r m t l w c q e n p j, s.record b =
      { s with regs := r, ram := m, tierMap := t, badLines := l, badWords := w, ceWords := c, seals := q, early := e, netQ := n
               wdn := { s.wdn with pldmQ := p, journal := j } } := by
  obtain ⟨n, p, j, h⟩ := State.publish_parts (s.setReg rMGT_LOG (BitVec.ofNat 64 ((s.reg rMGT_LOG).toNat + 1))) b.sev
    (recBytes s.ns (s.reg rMGT_LOG).toNat (s.regField rSMD_LAYOUT 15 0) b)
  simp only [State.record, h]
  split
  · split
    · exact ⟨_, s.ram, s.tierMap, s.badLines, s.badWords, s.ceWords, s.seals, _, n, p, j, rfl⟩
    · exact ⟨_, s.ram, s.tierMap, s.badLines, s.badWords, s.ceWords, s.seals, s.early, n, p, j, rfl⟩
  · obtain ⟨r, m, t, l, w, c, q, hs⟩ := State.logStore_parts
      { s.setReg rMGT_LOG (BitVec.ofNat 64 ((s.reg rMGT_LOG).toNat + 1)) with netQ := n, wdn := { s.wdn with pldmQ := p, journal := j } }
      (s.reg rMGT_LOG).toNat (recBytes s.ns (s.reg rMGT_LOG).toNat (s.regField rSMD_LAYOUT 15 0) b)
    exact ⟨r, m, t, l, w, c, q, s.early, n, p, j, hs⟩

/-- A denied write changes no more than its error record does. -/
theorem State.deny_parts (s : State) (who : Initiator) (off : Nat) :
    ∃ r m t l w c q e n p j, s.deny who off =
      { s with regs := r, ram := m, tierMap := t, badLines := l, badWords := w, ceWords := c, seals := q, early := e, netQ := n
               wdn := { s.wdn with pldmQ := p, journal := j } } := by
  obtain ⟨r, h⟩ := State.logOnce_regs ((s.count rWDN_DENYCNT 31 0 1).orReg rWDN_STATUS 1) rWDN_DENYLOG 63
    (BitVec.ofNat 64 (initCode who * 2 ^ 60 + off % 2 ^ 26 - off % 8))
  simp only [State.deny, h]
  split
  · obtain ⟨r', m, t, l, w, c, q, e, n, p, j, hr⟩ := State.record_parts
      { (s.count rWDN_DENYCNT 31 0 1).orReg rWDN_STATUS 1 with regs := r } ⟨sevInfo, 20, 0, 0, 0, 0, 0, State.reg _ rWDN_DENYLOG, 0⟩
    exact ⟨r', m, t, l, w, c, q, e, n, p, j, hr⟩
  · exact ⟨r, s.ram, s.tierMap, s.badLines, s.badWords, s.ceWords, s.seals, s.early, s.netQ, s.wdn.pldmQ, s.wdn.journal, rfl⟩

/-- A write to a register is ignored, takes its effect or is denied (spec/15 R476 to R478). -/
theorem State.gate_cases (s : State) (who : Initiator) (key : Nat) (cls : RegClass) (eff : State → State) :
    s.gate who key cls eff = s ∨ s.gate who key cls eff = eff s ∨ s.gate who key cls eff = s.deny who key := by
  simp only [State.gate]
  split
  · exact .inl rfl
  · split
    · exact .inr (.inl rfl)
    · exact .inr (.inr rfl)

/-! ## Snoops (spec/11 R360) -/

/-- Snoops change the lines tracked for the host and registers that count them. -/
theorem State.snoopedAll_parts (s : State) (rs : List (Nat × Nat × Bool)) :
    ∃ r l, (s.snoopedAll rs).2 = { s with regs := r, port := { s.port with lines := l } } := by
  simp only [State.snoopedAll]
  split
  · exact ⟨_, _, rfl⟩
  · exact ⟨s.regs, _, rfl⟩

/-- A device-side access snoops lines and counts at most. -/
theorem State.snooped_parts (s : State) (a len : Nat) (write : Bool) :
    ∃ r l, (s.snooped a len write).2 = { s with regs := r, port := { s.port with lines := l } } := s.snoopedAll_parts _

/-! ## Packets (spec/08 R254 to R263) -/

/-- A packet is at its destination exactly when it has landed. -/
theorem State.here_iff (s : State) (p : Packet) : s.here p = true ↔ p ∈ s.landed := by simp [State.here]

/-- The flits of a whole packet take it off the mesh, and bring it to its destination unless one has KILL. -/
theorem State.land_parts (s : State) (fs : List Flit) : ∃ n l, s.land fs = { s with net := n, landed := l } := by
  simp only [State.land]
  split
  · split
    · exact ⟨_, s.landed, rfl⟩
    · exact ⟨_, _, rfl⟩
  · exact ⟨s.net, s.landed, rfl⟩

/-- A response draws at most a free value and enters the mesh. -/
theorem State.respond_parts (s : State) (p : Packet) (st : RespStatus) (data : Bytes) :
    ∃ i n f, s.respond p st data = { s with freeIdx := i, net := n, flits := f } := by
  simp only [State.respond, State.answered]
  split
  · exact ⟨_, _, _, rfl⟩
  · exact ⟨s.freeIdx, _, _, rfl⟩

/-! ## Free values -/

/-- Drawing free bytes advances the counter by one a word, and changes nothing else. -/
theorem State.freshBytes_parts : ∀ (n : Nat) (s : State), (s.freshBytes n).2 = { s with freeIdx := s.freeIdx + n }
  | 0, s => rfl
  | n + 1, s => by
    have h := State.freshBytes_parts n { s with freeIdx := s.freeIdx + 1 }
    simp only [State.freshBytes, State.fresh, h]
    rw [Nat.add_right_comm, Nat.add_assoc]

/-- n words of free bytes are 8 × n bytes. -/
theorem State.freshBytes_length : ∀ (n : Nat) (s : State), (s.freshBytes n).1.length = 8 * n
  | 0, _ => rfl
  | n + 1, s => by
    have h := State.freshBytes_length n { s with freeIdx := s.freeIdx + 1 }
    simp only [State.freshBytes, State.fresh, List.length_append, h]
    have : (leBytes 8 (Config.freeWord s.freeIdx).toNat).length = 8 := by simp [leBytes]
    omega

end Sys2Proof.Machine
end

