-- ==== Sys2Proof/WellFormed.lean ====
section
/-! DEFINITION. Well-formed commands. Operands carry their ranges in their types; what remains is below. -/

namespace Sys2Proof

/-- Bytes of a register access (spec/00 R10): 4 or 8, aligned. -/
def accessOk (off : BitVec 32) (size : Nat) : Bool :=
  (size == 4 || size == 8) && off.toNat % size == 0

/-- A command that the block's senders can form: a register access has a supported size and alignment. Any other
command is well formed by its operand types. -/
def Instr.wellFormed : Instr → Bool
  | .registerWrite _ off size _ => accessOk off size
  | .readToClear _ off size => accessOk off size
  | _ => true

end Sys2Proof
end

