-- ==== Sys2Proof/Tests/Slice0.lean ====
section
/-! SUPPORT. The model's own tests: small states, the checks of WellFormed, and for every statement a state and operands that meet its
hypotheses, with what the statement then says of them. -/

namespace Sys2Proof.Machine

/-- Bytes placed in core 0's scratchpad at an offset of the test task's pair 0. -/
def State.withBytes (s : State) (o : Nat) (b : Bytes) : State := { s with ram := twrite zeroByte s.ram (spadAddr 0 (0x1000 + o)) b }

/-- Core 0 with circular region r. -/
def State.withCirc (s : State) (r : Nat) (q : Circ) : State := s.modCore 0 (fun k => k.setCirc r q)

/-- The state with one packet landed at its destination. -/
def State.arrived (s : State) (p : Packet) : State := { s with landed := [p] }

end Sys2Proof.Machine

namespace Sys2Proof.Tests

/- One theorem after the other: each evaluation by the kernel waits for the declarations before it. -/
set_option Elab.async false

open Sys2Proof.Machine Sys2Proof.Claims

/-- The outcome is the next state t. -/
def gives (o : Host.Outcome State Fault Refusal) (t : State) : Bool :=
  match o with
  | .next u => decide (u = t)
  | _ => false

/-- The access succeeds, leaves the state s and answers v. -/
def isOk {α : Type} [DecidableEq α] (x : Acc α) (s : State) (v : α) : Bool :=
  match x with
  | .ok u w => decide (u = s) && decide (w = v)
  | _ => false

/-- What isOk says. -/
theorem isOk_eq {α : Type} [DecidableEq α] {x : Acc α} {s : State} {v : α} (h : isOk x s v = true) : x = .ok s v := by
  cases x <;> simp_all [isOk]

/-- Fields of an instruction: D, A, B, X and IMM, without a guard. -/
def ins (d a b x imm : Nat) : InsnBits := BitVec.ofNat 56 (d * 2 ^ 47 + a * 2 ^ 42 + b * 2 ^ 37 + x * 2 ^ 32 + imm)

/-- A task of 16 words at index 3, with the registers given, all arrays and the lattice, and 128 KiB of scratchpad in pair 0. -/
def task (g a : Tab Word) : Task :=
  { Task.zero with phase := .running, pc := 3, g := g, a := a, pairs := [(0, ⟨true, 0x1000, 0x20000⟩)]
                   img := { ImageInfo.zero with codeLen := 16, arrays := 15, lattice := true, statCount := 16 } }

/-- The machine after a cold start with core 0 released and a task in slot 0 of it. -/
def st (k : Task) : State := (State.reset.modSlot 0 (fun x => { x with rst := false })).setTask 0 0 k

/-- A block of 64 B from little-endian numbers: width and value in turn, zero to the end. -/
def blk (xs : List (Nat × Nat)) : Bytes :=
  let b := xs.flatMap (fun x => leBytes x.1 x.2)
  b ++ List.replicate (64 - b.length) 0

/-- The command is refused because it reaches the component registers. -/
def refuses (o : Host.Outcome State Fault Refusal) : Bool :=
  match o with
  | .refused r => decide (r = .cxlComponentRegister)
  | _ => false

/-- Whether an instruction issues can be evaluated. -/
@[reducible] def decIssues (s : State) (opc : Nat) (f : InsnBits) : Decidable (Issues s 0 0 opc f) := by
  unfold Issues; infer_instance

/-- Whether an index lies in the code can be evaluated. -/
@[reducible] def decInCode (s : State) (pc : Int) : Decidable (InCode s 0 0 pc) := by
  unfold InCode; infer_instance

/-- The instruction issues and answers t. -/
def issuesTo (i : Instr) (opc : Nat) (f : InsnBits) (s t : State) : Bool :=
  letI := decIssues s opc f
  decide (Issues s 0 0 opc f) && gives (exec i s) t

/-- The operand block of an instruction is read at its issue, and reads b. -/
def readsBlock (s : State) (opc : Nat) (f : InsnBits) (b : Bytes) : Bool :=
  let u := s.atIssue 0 0 opc f
  isOk (u.block 0 0 ((u.task 0 0).addrA f) 64) u b

/-- What readsBlock says, in the statements' words. -/
theorem readsBlock_reads {s : State} {opc : Nat} {f : InsnBits} {b : Bytes} (h : readsBlock s opc f b = true) :
    reads (s.atIssue 0 0 opc f) 0 0 f (s.atIssue 0 0 opc f) b := isOk_eq h

/-- Task address of word 0 of the control words of circular region r. -/
def control (r : Nat) : Word := BitVec.ofNat 64 (4 * 2 ^ 27 + 16 * r)

/-- A circular region of 16 KiB that the task of slot 0 owns, with these positions. -/
def circ (head tail : Nat) : Circ := ⟨true, 0, 14, 0x40000, head, tail⟩

/-- The operand block of a weight load: cordwood form, format 1, from task address 0x400, rows 64 B apart. -/
def loadBlk : Bytes := blk [(4, 0x400), (4, 0), (4, 64), (1, 1)]

/-- The load that it asks for with offset 0x40 in g[3]. -/
def loadReq : LoadReq := ⟨0, 3, 0x440, 0, 64, 1, false, false⟩

/-- The operand block of a stream: 2 rows from task address 0x800, 64 B apart, format 1, FIRST. -/
def streamBlk : Bytes := blk [(4, 0x800), (4, 0), (4, 64), (4, 2), (1, 1), (1, 0), (1, 0), (1, 4)]

/-- The stream that it asks for, on array 0. -/
def stream : Stream :=
  { id := 0, task := 0, pc := 3, mask := 1, src := 0x800, scales := 0, stride := 64, rows := 2, fmt := 1, source := 0, queue := 0, swap := false
    final := false, first := true, m0 := 0, n0 := 0, epoch := 0, started := false, next := 0, poison := false, tokens := []
    sealEp := none }

/-- The operand block of a DSET: output format 1 and a seed. -/
def dsetBlk : Bytes := blk [(8, 1), (8, 0x1234), (8, 0), (4, 0x2000), (1, 0), (1, 0), (2, 0), (4, 64)]

/-- A cordwood bank of format 1 with one weight. -/
def bank : Bank := ⟨false, false, 1, [(0, 0x38)], [], []⟩

/-- Array 0 with that bank active, its drain set up for FP8 output, and streams on it. -/
def arraySt (xs : List Stream) : State :=
  ((st (task [] [])).setReg (coreKey 0 0x2010) 1).modCore 0 (fun k => { k.setArray 0 { ArraySt.zero with active := some bank } with streams := xs })

/-- The access is held. -/
def isHeld {α : Type} (x : Acc α) : Bool :=
  match x with
  | .held => true
  | _ => false

/-- The access succeeds, and what it leaves and answers has the property. -/
def okWith {α : Type} (x : Acc α) (p : State → α → Bool) : Bool :=
  match x with
  | .ok u w => p u w
  | _ => false

/-- The access of the intake supplies rows, and what it leaves has the property. -/
def rowsWith (x : Intake) (p : State → List ActRow → Bool → Bool) : Bool :=
  match x with
  | .rows u rs b => p u rs b
  | _ => false

/-- A window opens, and its epoch and the state it leaves have the property. -/
def openWith (x : Option (BitVec 32 × State)) (p : BitVec 32 → State → Bool) : Bool :=
  match x with
  | some (e, v) => p e v
  | none => false

/-- A row that array 0 has in its drain. -/
def rowId : RowId := ⟨0, 0, 0, 3, 0, 0, false, none⟩

/-- A request of core 0 to its own scratchpad at the start of the test task's pair 0. -/
def request (t : PktType) (len : Nat) (data : Bytes) : Packet :=
  { dst := .core 0, src := .core 1, type := t, fence := false, poison := false, adv := false, status := .ok, tag := 0x55
    addr := BitVec.ofNat 64 (spadAddr 0 0x1000), region := false, len := len, data := data, msg := none, span := none }

/-- A DMA of 8,192 bytes from scratchpad of core 0 to that of core 1, nothing issued. -/
def dma : Dma := ⟨0, 0, 0, 3, BitVec.ofNat 64 (spadAddr 0 0x1000), BitVec.ofNat 64 (spadAddr 1 0x1000), 8192, 0, 0, 0, 0, 0, 0, []⟩

/-- Core 0 with these DMAs in progress. -/
def dmaSt (ds : List Dma) : State := (st (task [(2, 0x300)] [])).modCore 0 (fun k => { k with dmas := ds })

/-- A target word: core, queue and channel, the present generation 0. -/
def target (core queue chan : Nat) : Word := BitVec.ofNat 64 (core * 2 ^ 38 + queue * 2 ^ 32 + chan * 2 ^ 18)

/-- A receive queue of one entry that the task of slot 0 owns, with room for two senders. -/
def queue (es : List QEntry) : RQueue := ⟨0, false, 0, 0, 1, 2, false, false, 0, es, [], [], [], 0⟩

/-- A sender key. -/
def sender : SenderKey := ⟨0, 1, 0, 3⟩

/-- A WORD message of one word from core 1 to queue 5 of core 0. -/
def header : MsgHeader := ⟨sender, 7, 0, 5, false, .word, 0, false, 0, 0, false⟩

/-- Its packet. -/
def message (m : MsgHeader) (b : Bytes) : Packet := { request .message (16 + b.length) b with msg := some m, tag := 0x77 }

/-- Core 0 with receive queue 5. -/
def queueSt (x : RQueue) : State :=
  (st { task [] [] with img := { (task [] []).img with queues := 2 ^ 5 } }).modCore 0 (fun k => k.setQueue 5 (some x))

/-- An OPEN window of core 0's task at epoch 7, with no dependency. -/
def win7 : SealWin := ⟨7, 0, 0, 0, .opened, false, false, false, false, ⟨false, false, false, false⟩, false, 0, [], [], []⟩

/-- A reference on block 1 of core 0, the first 4 KiB of the test task's pair 0, to epoch 3 of a foreign producer. -/
def ref (st : RefState) : SealRef := ⟨1, ⟨0, 9, 0⟩, 3, false, st, 1, 0⟩

/-- Core 0's seal logic with these references. -/
def sealSt (rs : List SealRef) : State := (st (task [(3, 64)] [])).setSeal 0 { SealUnit.zero with refs := rs }

/-- A token of epoch 0. -/
def token : Token := ⟨5, 0, 0, false, false⟩

/-- The CRC of a string, with each partial result forced to a numeral, for the kernel. -/
def crcFrom : Bytes → Nat → Nat
  | [], c => c
  | b :: bs, 0 => crcFrom bs (crcByte 0 b.toNat)
  | b :: bs, c + 1 => crcFrom bs (crcByte (c + 1) b.toNat)

/-- It is the CRC of the model. -/
theorem crcFrom_eq : ∀ (bs : Bytes) (c : Nat), bs.foldl (fun c b => crcByte c b.toNat) c = crcFrom bs c
  | [], _ => rfl
  | _ :: bs, 0 => crcFrom_eq bs _
  | _ :: bs, _ + 1 => crcFrom_eq bs _

/-- A job with one task on core 0. -/
def job (ph : JobPhase) (x : JobTask) : Job := ⟨0, 1, blk [], 0, ph, [x], none, false, 0, false, 0, 0, 0, 0⟩

/-- Its task, reserved in slot 1. -/
def jobTask : JobTask := ⟨0, 0x40000, 0x10000, 5, 9, some 0, some 1, none⟩

/-- A pool of four names: two 64 KiB frames of hearth from 0 and two of peat, its map at 0x1000000, one channel; the tier engine on. -/
def pool (s : State) : State :=
  { s with pool := ⟨0, 0x20000, peatBase, 0x20000, 0x1000000, [0], 0x20000⟩ }.setReg rTIER_STATUS (2 ^ 9)

/-- A request of core 1 to a ring. -/
def ringReq (t : PktType) (a len : Nat) (data : Bytes) : RingReq :=
  ⟨{ request t len data with dst := .ring 0, addr := BitVec.ofNat 64 a }, []⟩

/-- Stage 4 with the host's link up and memory active, one exposed range of 256 MiB from 0. -/
def hostSt : State :=
  let s := st (task [] [])
  let s := { s with boot := { s.boot with pwrgd := true, stage0 := true, dead := false } }
  (({ s with port := { s.port with up := true } }.setReg rBOOT_STAGE 4).setReg rCXL_HSTAT (2 ^ 19)).setReg rCXL_MEMRANGEi (2 ^ 63 + 2 ^ 28)

/-! ## Well-formed commands -/

theorem test_access_of_two_bytes_refused : (Instr.readToClear .host 0x100 2).wellFormed = false := by decide

theorem test_unaligned_write_refused : (Instr.registerWrite .host 0x104 8 0).wellFormed = false := by decide

theorem test_aligned_write_wellFormed : (Instr.registerWrite .host 0x104 4 0).wellFormed = true := by decide

/-! ## The whole machine -/

theorem witness_StepRunsTheFrontCommand :
    let s := st (task [(2, 5), (3, 7)] [])
    gives (step { s with pending := [.addI 0 0 (ins 1 2 3 0 0), .nop 0 0 0] })
        (runsAt ({ s with pending := [.nop 0 0 0] }.atIssue 0 0 0x10 (ins 1 2 3 0 0)) 0 0
          (({ s with pending := [.nop 0 0 0] }.atIssue 0 0 0x10 (ins 1 2 3 0 0)).task 0 0 |>.setG 1 12) 4) ∧
      State.reset.pending = [] ∧ gives (step State.reset) State.reset := by
  decide +kernel

theorem witness_OnlyComponentRegistersAreRefused :
    refuses (exec (.registerWrite .warden 0x2600000 8 0) State.reset) = true ∧
      refuses (exec (.readToClear .warden 0x260FFF8 8) State.reset) = true := by
  decide +kernel

theorem witness_StepsKeepMemoryCanonical :
    let s := { State.reset with pending := [.nop 0 0 0] }
    s.memWf = true ∧ gives (step s) State.reset := by
  decide +kernel

/-! ## Task instructions -/

theorem witness_FalseGuardHasNoEffect :
    let f : InsnBits := ins 1 2 3 0 0 + 2 ^ 53
    let s := st (task [(2, 5), (3, 7)] [])
    insn (.addI 0 0 f) = some (0x10, 0, 0, f) ∧ s.canIssue 0 0 = true ∧ legal 0x10 f = true ∧ (s.task 0 0).guard f = false ∧
      InCode s 0 0 ((s.task 0 0).pc + 1) ∧ gives (exec (.addI 0 0 f) s) (retires s 0 0 0x10 f id) := by
  unfold InCode; decide +kernel

theorem witness_GuardIllegal : let f : InsnBits := BitVec.ofNat 56 (2 ^ 52); fPred f = 0 ∧ fPneg f = true := by decide

theorem witness_IllegalFormEndsTheTask :
    let f : InsnBits := ins 1 2 3 0 0 + 2 ^ 52
    let s := st (task [(2, 5), (3, 7)] [])
    let u := st { task [] [] with pc := 15 }
    s.canIssue 0 0 = true ∧ FreshEnd s 0 0 ∧ insn (.addI 0 0 f) = some (0x10, 0, 0, f) ∧ legal 0x10 f = false ∧
      gives (exec (.addI 0 0 f) s) (drainsWith s 0 0 0x02 (insnWord 0x10 f)) ∧
      u.canIssue 0 0 = true ∧ FreshEnd u 0 0 ∧ Issues u 0 0 0x00 0 ∧ (u.task 0 0).img.codeLen ≤ (u.task 0 0).pc + 1 ∧
      gives (exec (.nop 0 0 0) u) (drainsWith (u.atIssue 0 0 0x00 0) 0 0 0x02 (insnWord 0x00 0)) := by
  unfold FreshEnd Issues; decide +kernel

theorem witness_AwaitedRegisterHoldsIssue :
    let f : InsnBits := ins 1 2 3 0 0
    let s := st { task [(2, 5), (3, 7)] [] with pending := [3] }
    insn (.addI 0 0 f) = some (0x10, 0, 0, f) ∧ s.canIssue 0 0 = true ∧ legal 0x10 f = true ∧ (s.task 0 0).guard f = true ∧
      (∃ r ∈ readsOf 0x10 f, r ∈ (s.task 0 0).pending) ∧ (s.task 0 0).wait = none ∧
      gives (exec (.addI 0 0 f) s) (waitsOn (s.atIssue 0 0 0x10 f) 0 0 0x10 f 0 0 0 false) := by
  decide +kernel

/-- The instruction issues at the last index but one and writes v to g[1]. -/
def writes (i : Instr) (opc : Nat) (f : InsnBits) (s : State) (v : Word) : Bool :=
  issuesTo i opc f s (retires s 0 0 opc f (fun k => k.setG 1 v))

theorem witness_ScalarResults :
    let s := { st { task [(1, 0x1122334455667788), (2, 0x8000000000000000), (3, 65)] [] with pc := 14 } with time := 3 * 2 ^ 32 }
    let f : InsnBits := ins 1 2 3 0 0
    let m : InsnBits := ins 1 2 0 16 0xFFFFFFFF
    InCode s 0 0 ((s.task 0 0).pc + 1) ∧
      writes (.time 0 0 (ins 1 0 0 0 0)) 0x07 (ins 1 0 0 0 0) s 3 ∧
      writes (.addI 0 0 m) 0x10 m s 0x7FFFFFFFFFFFFFFF ∧ writes (.subI 0 0 m) 0x11 m s 0x8000000000000001 ∧
      writes (.mulI 0 0 f) 0x12 f s 0x8000000000000000 ∧ writes (.andI 0 0 m) 0x13 m s 0x8000000000000000 ∧
      writes (.orI 0 0 f) 0x14 f s 0x8000000000000041 ∧ writes (.xorI 0 0 m) 0x15 m s 0x7FFFFFFFFFFFFFFF ∧
      writes (.shl 0 0 f) 0x16 f s 0 ∧ writes (.shr 0 0 f) 0x17 f s 0x4000000000000000 ∧
      writes (.sar 0 0 f) 0x18 f s 0xC000000000000000 := by
  unfold InCode; decide +kernel

theorem witness_ScalarResultsMore :
    let s := st { task [(1, 0x1122334455667788), (2, 0x8000000000000000), (3, 65)] [] with pc := 14 }
    let f : InsnBits := ins 1 2 3 0 0
    let m : InsnBits := ins 1 0 0 0 0xFFFFFFFE
    writes (.minI 0 0 f) 0x19 f s 0x8000000000000000 ∧ writes (.maxI 0 0 f) 0x1A f s 65 ∧
      writes (.movi 0 0 m) 0x1B m s 0xFFFFFFFFFFFFFFFE ∧ writes (.movhi 0 0 m) 0x1C m s 0xFFFFFFFE55667788 := by
  decide +kernel

/-- The instruction issues and has this effect on the task. -/
def effects (i : Instr) (opc : Nat) (f : InsnBits) (s : State) (eff : Task → Task) : Bool :=
  issuesTo i opc f s (retires s 0 0 opc f eff)

theorem witness_RegisterFileMoves :
    let s := st { task [(2, 0xFFFFFFFFFFFFFFFF), (3, 5)] [(4, 0x40)] with p := 0x06, k := [(6, 9)] }
    let f (x : Nat) : InsnBits := ins 1 2 3 x 0
    InCode s 0 0 ((s.task 0 0).pc + 1) ∧
      effects (.kset 0 0 (ins 7 0 0 16 12)) 0x05 (ins 7 0 0 16 12) s (fun k => k.setK 7 12) ∧
      (∀ x ∈ List.range 6, effects (.cmp 0 0 (f x)) 0x1D (f x) s (fun k => k.setP 1 (decide (x = 1 ∨ x = 2 ∨ x = 5)))) ∧
      effects (.cmp 0 0 (ins 0 2 3 1 0)) 0x1D (ins 0 2 3 1 0) s id ∧
      (∀ x ∈ List.range 4, effects (.plog 0 0 (ins 3 1 4 x 0)) 0x1E (ins 3 1 4 x 0) s (fun k => k.setP 3 (decide (x ≠ 0)))) ∧
      effects (.aadd 0 0 (ins 15 4 0 16 8)) 0x1F (ins 15 4 0 16 8) s (fun k => k.setA 15 0x48) ∧
      effects (.movr 0 0 (ins 31 4 0 0 0)) 0x20 (ins 31 4 0 0 0) s (fun k => k.setG 31 0x40) ∧
      effects (.movr 0 0 (ins 15 3 0 1 0)) 0x20 (ins 15 3 0 1 0) s (fun k => k.setA 15 5) ∧
      effects (.movr 0 0 (ins 1 6 0 2 0)) 0x20 (ins 1 6 0 2 0) s (fun k => k.setG 1 9) ∧
      effects (.movr 0 0 (ins 1 2 0 3 0)) 0x20 (ins 1 2 0 3 0) s (fun k => k.setG 1 1) := by
  unfold InCode; decide +kernel

/-- The instruction issues, and either goes to an index in the code or ends the task with its own word. -/
def goesTo (i : Instr) (opc : Nat) (f : InsnBits) (s : State) (eff : Task → Task) (pc : Int) : Bool :=
  let u := s.atIssue 0 0 opc f
  letI := decInCode s pc
  issuesTo i opc f s (if InCode s 0 0 pc then runsAt u 0 0 (eff (u.task 0 0)) pc.toNat
    else drainsWith (u.modTask 0 0 eff) 0 0 0x02 (insnWord opc f))

theorem witness_ControlFlow :
    let s := st { task [(2, 15), (3, 16)] [] with k := [(1, 1), (2, 2)] }
    let at_ (i : InsnBits → Instr) (opc : Nat) (f : InsnBits) (eff : Task → Task) (pc : Int) : Bool := goesTo (i f) opc f s eff pc
    FreshEnd s 0 0 ∧
      at_ (.nop 0 0) 0x00 0 id 4 ∧ at_ (.br 0 0) 0x02 (ins 0 0 0 0 0xFFFFFFFD) id 0 ∧ at_ (.br 0 0) 0x02 (ins 0 0 0 0 0xFFFFFFFC) id (-1) ∧
      at_ (.br 0 0) 0x02 (ins 0 0 0 0 12) id 15 ∧ at_ (.br 0 0) 0x02 (ins 0 0 0 0 13) id 16 ∧
      at_ (.jr 0 0) 0x03 (ins 0 2 0 0 0) id 15 ∧ at_ (.jr 0 0) 0x03 (ins 0 3 0 0 0) id 16 ∧
      at_ (.loopI 0 0) 0x04 (ins 0 0 0 0 5) id 4 ∧ at_ (.loopI 0 0) 0x04 (ins 1 0 0 0 5) (fun k => k.setK 1 0) 4 ∧
      at_ (.loopI 0 0) 0x04 (ins 2 0 0 0 5) (fun k => k.setK 2 1) 8 := by
  unfold FreshEnd; decide +kernel

theorem witness_TaskEnds :
    let s := st (task [] [])
    let f := ins 0 0 0 0 0xFFFFFFFF
    let w : WaitRec := ⟨0x59, 0, 0, 0, 0, false, 0⟩
    let k := task [] []
    let u := { st { k with phase := .waiting, wait := some w, img := { k.img with waitUs := 2 } } with time := 2001 * 2 ^ 32 }
    FreshEnd s 0 0 ∧ Issues s 0 0 0x01 0 ∧ gives (exec (.endTask 0 0 0) s) (drainsWith (s.atIssue 0 0 0x01 0) 0 0 0x00 0) ∧
      Issues s 0 0 0x06 f ∧ gives (exec (.faultI 0 0 f) s) (drainsWith (s.atIssue 0 0 0x06 f) 0 0 0x0A 0xFFFFFFFFFFFFFFFF) ∧
      FreshEnd u 0 0 ∧ (u.task 0 0).phase = .waiting ∧ (u.task 0 0).wait = some w ∧ w.sealed = false ∧ (u.task 0 0).img.waitUs ≠ 0 ∧
      w.since + (u.task 0 0).img.waitUs * 1000 < u.ns ∧ u.held 0 0 = false ∧
      gives (exec (.waitTimeout 0 0) u) (drainsWith u 0 0 0x10 0x59) := by
  unfold FreshEnd Issues; decide +kernel
theorem witness_LoadsReadTheRegions :
    let s := (st (task [] [(1, 0x100)])).withBytes 0x108 [0x34, 0x92, 0, 0]
    let f := ins 5 1 0 5 8
    let addr : Word := 0x108
    let b := { s with badWords := [spadAddr 0 0x1108] }
    (s.task 0 0).areg (fA f) + 8 = addr ∧ addr.toNat % 2 = 0 ∧ isControl addr = false ∧ (s.core 0).xlate 0 addr 2 false = .ok [(0x1108, 2)] ∧
      s.pieceBad 0 false [(0x1108, 2)] = none ∧
      issuesTo (.ld 0 0 f) 0x28 f s (advance ((s.atIssue 0 0 0x28 f).modTask 0 0 (fun k => k.setG 5 0xFFFFFFFFFFFF9234)) 0 0) = true ∧
      b.pieceBad 0 false [(0x1108, 2)] = some 0x1108 ∧ Issues b 0 0 0x28 f := by
  unfold Issues; decide +kernel

theorem witness_StoresWriteTheRegions :
    let s := st (task [(3, 0x1122334455667788)] [(1, 0x100)])
    let f := ins 0 1 3 2 8
    let addr : Word := 0x108
    (s.task 0 0).areg (fA f) + 8 = addr ∧ addr.toNat % 4 = 0 ∧ isControl addr = false ∧ (s.core 0).xlate 0 addr 4 true = .ok [(0x1108, 4)] ∧
      s.pieceBad 0 true [(0x1108, 4)] = none ∧
      issuesTo (.st 0 0 f) 0x29 f s (advance ((s.atIssue 0 0 0x29 f).withBytes 0x108 [0x88, 0x77, 0x66, 0x55]) 0 0) = true := by
  decide +kernel

theorem witness_StoreChangesOnlyItsBytes :
    let s := st (task [(3, 0x1122334455667788)] [(1, 0x100)])
    let f := ins 0 1 3 2 8
    let q := (s.task 0 0).pair 0
    let a0 := spadAddr 0 0x1108
    0x108 / 2 ^ 27 = 0 ∧ 0x108 % 2 ^ 27 + 4 ≤ q.size ∧ q.valid = true ∧ q.base = 0x1000 ∧ s.pieceBad 0 true [(0x1108, 4)] = none ∧
      (∀ j < 4, s.mapByte (a0 + j) = none ∧ s.phys (a0 + j) = a0 + j) ∧
      issuesTo (.st 0 0 f) 0x29 f s (advance ((s.atIssue 0 0 0x29 f).withBytes 0x108 [0x88, 0x77, 0x66, 0x55]) 0 0) = true := by
  decide +kernel

theorem witness_NarrowAccessesOutsideEndTheTask :
    let s := st (task [] [(1, 0x1FFFC), (2, control 3)])
    let ends (i : InsnBits → Instr) (opc : Nat) (f : InsnBits) (addr : Word) : Bool :=
      issuesTo (i f) opc f s (drainsWith (s.atIssue 0 0 opc f) 0 0 0x03 addr)
    FreshEnd s 0 0 ∧ ends (.ld 0 0) 0x28 (ins 5 1 0 3 0) 0x1FFFC = true ∧ ends (.ld 0 0) 0x28 (ins 5 1 0 0 4) 0x20000 = true ∧
      ends (.st 0 0) 0x29 (ins 0 2 0 3 0) (control 3) = true ∧ (s.core 0).control 0 (control 3) 8 = none ∧
      (s.core 0).xlate 0 0x20000 1 false = .bad := by
  unfold FreshEnd; decide +kernel

theorem witness_CircularPointersAdvance :
    let s := (st (task [(3, 0x4000), (4, 0x4001), (5, 16)] [(1, control 15)])).withCirc 15 (circ 0x100 0x100)
    let u := (st (task [(3, 0x10), (4, 0x11)] [(1, control 15)])).withCirc 15 (circ 0x7FFFFF8 8)
    let f (b off : Nat) : InsnBits := ins 0 1 b 3 off
    let d : Dma := { dma with dst := BitVec.ofNat 64 (spadAddr 0 0x40000), len := 64 }
    let v := s.modCore 0 (fun k => { k with dmas := [d] })
    let w : WaitRec := ⟨0x29, f 5 0, 1, 0, 0, false, 0⟩
    let y := s.modTask 0 0 (fun k => { k with phase := .waiting, wait := some w })
    FreshEnd s 0 0 ∧ FreshEnd u 0 0 ∧
      issuesTo (.ld 0 0 (ins 5 1 0 3 0)) 0x28 (ins 5 1 0 3 0) s
        (advance ((s.atIssue 0 0 0x28 (ins 5 1 0 3 0)).modTask 0 0 (fun k => k.setG 5 0x100)) 0 0) = true ∧
      issuesTo (.st 0 0 (f 3 0)) 0x29 (f 3 0) s (advance ((s.atIssue 0 0 0x29 (f 3 0)).withCirc 15 (circ 0x100 0x4100)) 0 0) = true ∧
      issuesTo (.st 0 0 (f 4 0)) 0x29 (f 4 0) s (drainsWith (s.atIssue 0 0 0x29 (f 4 0)) 0 0 0x03 (control 15)) = true ∧
      (circ 0x7FFFFF8 8).occ = 0x10 ∧
      issuesTo (.st 0 0 (f 3 8)) 0x29 (f 3 8) u (advance ((u.atIssue 0 0 0x29 (f 3 8)).withCirc 15 (circ 8 8)) 0 0) = true ∧
      issuesTo (.st 0 0 (f 4 8)) 0x29 (f 4 8) u (drainsWith (u.atIssue 0 0 0x29 (f 4 8)) 0 0 0x03 (control 15 + 8)) = true ∧
      (v.core 0).writesTo 0 0 15 = true ∧
      issuesTo (.st 0 0 (f 5 0)) 0x29 (f 5 0) v (waitsOn (v.atIssue 0 0 0x29 (f 5 0)) 0 0 0x29 (f 5 0) 1 0 0 false) = true ∧
      FreshEnd y 0 0 ∧ (y.task 0 0).wait = some w ∧ gives (exec (.circAdvance 0 0) y) (advance (y.withCirc 15 (circ 0x100 0x110)) 0 0) = true := by
  unfold FreshEnd; decide +kernel

theorem witness_GatherBufferFlushes :
    let s := (st (task [] [])).modCore 0 (fun k => { k with gather := some ⟨0x10, false, [(8, some 1), (9, some 2)]⟩ })
    (State.reset.core 0).gather = none ∧ gives (exec (.gatherIdleFlush 0) State.reset) State.reset = true ∧
      gives (exec (.gatherIdleFlush 0) s) ((st (task [] [])).withBytes 8 [1, 2]) = true := by
  decide +kernel

theorem witness_WaitsForUnits :
    let s := st (task [] [])
    let f := ins 0 0 0 0 0x40
    let b := s.modCore 0 (fun k => { k with dmas := [dma] })
    let w : WaitRec := ⟨0x43, f, 0, 0, 0, false, 0⟩
    let v := s.modTask 0 0 (fun k => { k with phase := .waiting, wait := some w })
    (s.task 0 0).wait = none ∧ (s.core 0).idleFor 0 0x40 = true ∧ issuesTo (.uwait 0 0 f) 0x43 f s (advance (s.atIssue 0 0 0x43 f) 0 0) = true ∧
      (b.core 0).idleFor 0 0x40 = false ∧
      issuesTo (.uwait 0 0 f) 0x43 f b (waitsOn (b.atIssue 0 0 0x43 f) 0 0 0x43 f 0 0 0 false) = true ∧
      (v.task 0 0).wait = some w ∧ v.live 0 = true ∧ gives (exec (.waitConditionMet 0 0) v) (advance v 0 0) = true := by
  decide +kernel
/-! ## Arrays and drains -/

theorem witness_BlocksOutsideEndTheTask :
    let s := st (task [] [(1, 32), (2, 0x20000)])
    FreshEnd s 0 0 ∧
      issuesTo (.wload 0 0 (ins 0 1 0 1 0)) 0x40 (ins 0 1 0 1 0) s (drainsWith (s.atIssue 0 0 0x40 (ins 0 1 0 1 0)) 0 0 0x03 32) = true ∧
      (s.core 0).xlate 0 0x20000 64 false = .bad ∧ insn (.vopCvt 0 0 (ins 0 2 0 0x0A 0)) = some (0x51, 0, 0, ins 0 2 0 0x0A 0) ∧
      issuesTo (.vopCvt 0 0 (ins 0 2 0 0x0A 0)) 0x51 (ins 0 2 0 0x0A 0) s
        (drainsWith (s.atIssue 0 0 0x51 (ins 0 2 0 0x0A 0)) 0 0 0x03 0x20000) = true := by
  unfold FreshEnd; decide +kernel

theorem witness_WeightLoadsBegin :
    let s := (st (task [(3, 0x40)] [])).withBytes 0x100 loadBlk
    let f := ins 0 0 3 8 0x100
    let u := s.atIssue 0 0 0x40 f
    let v := s.modCore 0 (fun k => k.setArray 3 { ArraySt.zero with shadow := .loading loadReq })
    let w := s.modTask 0 0 (fun k => { k with img := { k.img with arrays := 7 } })
    readsBlock s 0x40 f loadBlk = true ∧
      issuesTo (.wload 0 0 f) 0x40 f s
        (advance (u.modCore 0 (fun k => k.setArray 3 { ArraySt.zero with shadow := .loading loadReq })) 0 0) = true ∧
      readsBlock v 0x40 f loadBlk = true ∧
      issuesTo (.wload 0 0 f) 0x40 f v (waitsOn (v.atIssue 0 0 0x40 f) 0 0 0x40 f 0 0 0 false) = true ∧
      readsBlock w 0x40 f loadBlk = true ∧
      issuesTo (.wload 0 0 f) 0x40 f w ((w.atIssue 0 0 0x40 f).endTask 0 0 0x05 0) = true := by
  decide +kernel

theorem witness_StreamsQueue :
    let s := (st (task [] [])).withBytes 0x100 streamBlk
    let f (x : Nat) : InsnBits := ins 0 0 0 x 0x100
    let u := s.atIssue 0 0 0x41 (f 1)
    let v := s.modCore 0 (fun k => { k with streams := [stream, stream] })
    let w := s.withBytes 0x110 [9]
    readsBlock s 0x41 (f 1) streamBlk = true ∧
      issuesTo (.stream 0 0 (f 1)) 0x41 (f 1) s (advance (u.modCore 0 (fun k => { k with streams := [stream], streamId := 1 })) 0 0) = true ∧
      issuesTo (.stream 0 0 (f 0)) 0x41 (f 0) s (advance (s.atIssue 0 0 0x41 (f 0)) 0 0) = true ∧
      readsBlock v 0x41 (f 1) streamBlk = true ∧
      issuesTo (.stream 0 0 (f 1)) 0x41 (f 1) v (waitsOn (v.atIssue 0 0 0x41 (f 1)) 0 0 0x41 (f 1) 0 0 0 false) = true ∧
      readsBlock w 0x41 (f 1) (streamBlk.set 16 9) = true ∧
      issuesTo (.stream 0 0 (f 1)) 0x41 (f 1) w ((w.atIssue 0 0 0x41 (f 1)).endTask 0 0 0x05 0) = true := by
  decide +kernel

theorem witness_DrainsAreSetUp :
    let s := (st (task [] [])).withBytes 0x100 dsetBlk
    let f := ins 0 0 0 1 0x100
    let u := s.atIssue 0 0 0x42 f
    let v := s.modCore 0 (fun k => k.setDrain 0 { Drain.zero with red := some 4 })
    let w := s.withBytes 0x11E [1]
    readsBlock s 0x42 f dsetBlk = true ∧
      issuesTo (.dset 0 0 f) 0x42 f s
        (advance (((u.setReg (coreKey 0 0x2010) 1).setReg (coreKey 0 0x2018) 0x1234).setReg (coreKey 0 0x2020) 0 |>.modCore 0
          (fun k => k.setDrain 0 { Drain.zero with set := { DrainSet.zero with out := 0x2000, outStride := 64 } })) 0 0) = true ∧
      readsBlock v 0x42 f dsetBlk = true ∧
      issuesTo (.dset 0 0 f) 0x42 f v (waitsOn (v.atIssue 0 0 0x42 f) 0 0 0x42 f 0 0 0 false) = true ∧
      readsBlock w 0x42 f (dsetBlk.set 30 1) = true ∧
      issuesTo (.dset 0 0 f) 0x42 f w (((w.atIssue 0 0 0x42 f).orReg (coreKey 0 0x2000) (2 ^ 24)).endTask 0 0 0x04 0) = true := by
  decide +kernel

theorem witness_WeightLoadsComplete :
    let s := ((st (task [] [])).withBytes 0x440 [7, 8]).modCore 0 (fun k => k.setArray 0 { ArraySt.zero with shadow := .loading loadReq })
    let els : List Bytes := [[7, 8] ++ List.replicate 62 0] ++ List.replicate 63 (List.replicate 64 0)
    let r : LoadReq := { loadReq with src := 31 * 2 ^ 27 }
    let h := ((st (task [] [])).withCirc 15 (circ 0 0)).modCore 0 (fun k => k.setArray 0 { ArraySt.zero with shadow := .loading r })
    s.live 0 = true ∧ isOk (s.taskReads 0 0 (loadReq.ranges 0)) s els = true ∧ isOk (s.taskReads 0 0 (loadReq.scaleRanges 0)) s [] = true ∧
      h.live 0 = true ∧ isHeld (h.taskReads 0 0 (r.ranges 0)) = true ∧
      gives (exec (.weightLoadReady 0 0) h) h = true ∧
      ((s.core 0).array 1).shadow = .empty ∧ gives (exec (.weightLoadReady 0 1) s) s = true := by
  decide +kernel

theorem witness_WeightBanksHoldTheirRows :
    let els : List Bytes := List.replicate 63 (List.replicate 64 0) ++ [List.replicate 63 0 ++ [5]]
    63 < kDepth false ∧ 63 < arrayCols false ∧ els.length = kDepth false ∧
      els.length = arrayCols false ∧ 31 < kDepth true ∧ 127 < arrayCols true := by
  decide +kernel

/-- An array whose map marks nothing needs no more than its spares, whatever the fuses mark. -/
theorem unrepairable_unmarked (s : State) (n a : Nat) (h : s.reg (coreKey n (0x1010 + 8 * a)) = 0) : s.unrepairable n a = false := by
  have h' : s.reg (coreKey n (rARR_REPAIRa + 8 * a)) = 0 := h
  have two (p q : Prop) [Decidable p] [Decidable q] (x y : Nat) :
      ¬2 < ([] ++ ((if p then [x] else []) ++ (if q then [y] else []))).eraseDups.length := by
    by_cases hp : p <;> by_cases hq : q <;> by_cases hxy : y = x <;> simp [hp, hq, hxy, List.eraseDups_cons]
  have zero (i : Nat) : bitOf (0 : Word) i = false := by simp [bitOf]
  simp only [State.unrepairable, overSpares, repairMarks, h', zero, Bool.false_eq_true, if_false, List.append_nil, two, decide_false,
    Bool.or_false]

theorem witness_StreamsStart :
    let s := arraySt [stream]
    let y := { stream with final := true }
    let z := { stream with swap := true }
    let u := arraySt [y]
    let v := (arraySt [z]).modCore 0 (fun k => k.setArray 0 { ArraySt.zero with shadow := .ready bank })
    s.live 0 = true ∧ pairOk 1 1 = true ∧ (s.drainCfg 0 0).valid ((s.core 0).drain 0).set 1 1 = true ∧
      reductionOk stream false ((s.core 0).drain 0).red = true ∧ ((s.core 0).arrayStreams 0).head? = some stream ∧
      ((s.core 0).array 0).active = some bank ∧ ((s.core 0).array 0).diag = none ∧ s.unrepairable 0 0 = false ∧
      ((u.core 0).arrayStreams 0).head? = some y ∧ (u.openWindow 0 0 0).isSome = true ∧
      ((v.core 0).array 0).shadow = .ready bank ∧ ((v.core 0).arrayStreams 0).head? = some z := by
  refine ⟨?_, ?_, ?_, ?_, ?_, ?_, ?_, unrepairable_unmarked _ 0 0 ?_, ?_, ?_, ?_, ?_⟩ <;> decide +kernel
theorem witness_ActivationRows :
    let x := { stream with started := true }
    let y := { x with rows := 1, final := true }
    let s := (arraySt [x]).withBytes 0x800 [0x38]
    let l := arraySt [{ x with source := 1 }]
    let after (s v : State) (x : Stream) (rs : List ActRow) : State :=
      let u := v.event 0 0x04 1
      u.setCore 0 (((u.core 0).setDrain 0 (((u.core 0).drain 0).takeRows x bank (u.drainCfg 0 0).texp (2 ^ u.regField (coreKey 0 0x2090) 3 0) 0 [] false rs)).afterIntake x 1 0 u.ns false)
    s.live 0 = true ∧ ((s.core 0).arrayStreams 0).head? = some x ∧ x.started = true ∧
      rowsWith (s.intakeSpad 0 x 64 1) (fun v rs p => gives (exec (.activationRow 0 ⟨0, []⟩) s) (after s v x rs) && rs.length == 1 && !p) = true ∧
      ((arraySt [y]).core 0).arrayStreams 0 = [y] ∧
      rowsWith ((arraySt [y]).intakeSpad 0 y 64 1) (fun v rs _ => gives (exec (.activationRow 0 ⟨0, []⟩) (arraySt [y])) (after (arraySt [y]) v y rs)) = true ∧
      ((l.core 0).arrayStreams 0).head? = some { x with source := 1 } ∧ gives (exec (.activationRow 0 ⟨0, []⟩) l) l = true := by
  decide +kernel

theorem witness_HalfSumsEnterWindows :
    let h : HalfRow := ⟨rowId, false, [(5, ⟨3, 0, false, false, false, false, 3, none⟩)]⟩
    let d : Drain := { Drain.zero with halfs := [h] }
    let e : Drain := { d with windows := [(5, { Window.empty with n := windowMaxTerms })] }
    let s := (st (task [] [])).modCore 0 (fun k => k.setDrain 0 d)
    let u := (st (task [] [])).modCore 0 (fun k => k.setDrain 0 e)
    ((s.core 0).drain 0).halfs = [h] ∧ s.live 0 = true ∧ d.inUse + arrayCols false ≤ 4096 ∧ (d.addSums 0 h.sums).2 = (false, false) ∧
      gives (exec (.halfSumAdd 0 ⟨0, 0⟩) s) (s.modCore 0 (fun k => k.setDrain 0 { (d.addSums 0 h.sums).1 with halfs := [] })) = true ∧
      ((u.core 0).drain 0).halfs = [h] ∧ (e.addSums 0 h.sums).2.2 = true ∧
      gives (exec (.halfSumAdd 0 ⟨0, 0⟩) u) (((u.modCore 0 (fun k => k.setDrain 0 { (e.addSums 0 h.sums).1 with halfs := [] })).orReg
        (coreKey 0 0x2000) (2 ^ 28)).endAsync 0 0 3 0x08 0) = true := by
  decide +kernel

theorem witness_WindowsRound :
    let r : RoundReq := ⟨rowId, 0, List.replicate 64 Window.empty⟩
    let d : Drain := { Drain.zero with rounds := [r] }
    let s := (arraySt []).modCore 0 (fun k => k.setDrain 0 d)
    let x : RoundCtx := ⟨r, s.drainCfg 0 0, DrainSet.zero, 0⟩
    let set : DrainSet := { DrainSet.zero with out := 31 * 2 ^ 27 }
    let h := ((arraySt []).withCirc 15 { circ 0 0 with sizeLog2 := 5 }).modCore 0 (fun k => k.setDrain 0 { d with set := set })
    ((s.core 0).drain 0).rounds = [r] ∧ s.live 0 = true ∧
      okWith (s.roundGroup 0 0 x) (fun v b => !b && gives (exec (.windowRound 0 ⟨0, 0⟩) s)
        ((v.modCore 0 (fun k => k.setDrain 0 { k.drain 0 with rounds := [] })).event 0 0x08 1)) = true ∧
      isHeld (h.roundGroup 0 0 ⟨r, h.drainCfg 0 0, set, 0⟩) = true ∧ gives (exec (.windowRound 0 ⟨0, 0⟩) h) h = true := by
  decide +kernel

theorem witness_WindowsRoundLimit :
    let r : RoundReq := ⟨rowId, 0, List.replicate 64 { Window.empty with n := windowMaxTerms }⟩
    let d : Drain := { Drain.zero with rounds := [r] }
    let s := ((arraySt []).setReg (coreKey 0 0x2010) 0x190001).modCore 0 (fun k => k.setDrain 0 d)
    let x : RoundCtx := ⟨r, s.drainCfg 0 0, DrainSet.zero, 0⟩
    okWith (s.roundGroup 0 0 x) (fun v b => b && gives (exec (.windowRound 0 ⟨0, 0⟩) s)
        (((v.modCore 0 (fun k => k.setDrain 0 { k.drain 0 with rounds := [] })).orReg (coreKey 0 0x2000) (2 ^ 28)).endAsync 0 0 3 0x08 0)) =
      true := by
  decide +kernel

/-- A check tile of two rows of the stream, checked without error, whose window is 7. -/
def tile : CheckTile := ⟨0, some 7, false, false, 0, 2, [], [], none, 0, none, [], false, false⟩

theorem witness_TileChecks :
    let s (ts : List CheckTile) : State :=
      ((st (task [] [])).setSeal 0 { SealUnit.zero with next := 8, wins := [win7] }).modCore 0 (fun k => k.setDrain 0 { Drain.zero with tiles := ts })
    let bad : CheckTile := { tile with rowsFail := 1 }
    let u := ((s []).count (coreKey 0 0x20A0) 63 32 1).event 0 0x06 1
    let w := ((u.count (coreKey 0 0x20A0) 31 0 1).event 0 0x07 1).orReg (coreKey 0 0x2000) (2 ^ 16)
    let h := (s [tile]).modCore 0 (fun k => k.setDrain 0 { k.drain 0 with halfs := [⟨rowId, false, []⟩] })
    (s [tile]).live 0 = true ∧ gives (exec (.tileCheckResult 0 0 () ()) (s [tile])) u = true ∧
      gives (exec (.tileCheckResult 0 0 () ()) (s [bad]))
        ((w.logOnce (coreKey 0 0x2098) 0 (bad.log 0 7)).modWin 0 7 (fun w => { w with failed := true })) = true ∧
      tile.holds rowId = true ∧ gives (exec (.tileCheckResult 0 0 () ()) h) h = true := by
  decide +kernel

theorem witness_RowsReachDrains :
    let r : ActRow := ⟨List.replicate 64 0x38, []⟩
    let e := Drain.zero.takeRow stream bank 0 4 0 [] true 0 r
    let f := Drain.zero.takeRow stream bank 0 1 0 [] false 0 r
    1 ≤ 4 ∧ (e.tile.map (·.rows)) = some 1 ∧ f.tile = none ∧ f.tiles.length = 1 ∧ e.halfs.length = 1 := by
  decide +kernel

theorem witness_ChecksumWeightsSumTheirRows :
    fmtCode loadReq.fmt ≠ 6 ∧ 63 < kDepth loadReq.meadow ∧ 0 < (if loadReq.meadow then 2 else 1) ∧
      tget (fun _ => zeroNum) (loadReq.bank [[0x38, 0x38] ++ List.replicate 62 0] []).checks 0 = numOfInt (2 * 2 ^ 16) (-16) := by
  decide +kernel

theorem witness_DiagnosticPasses :
    let s := st (task [] [])
    let key := coreKey 0 0x1050
    let v (col : Nat) : Word := BitVec.ofNat 64 (1 + 2 * 3 + 8 * col)
    let going := (s.setReg key (v 66)).modCore 0 (fun k => k.setArray 3 { ArraySt.zero with diag := some 66 })
    Takes s .warden key .w ∧ gives (exec (.diagPass .warden 0 (v 66)) s) going = true ∧
      gives (exec (.diagPass .warden 0 (v 67)) s) s = true ∧ gives (exec (.diagPass .warden 0 (v 66 - 1)) s) (s.setReg key (v 66 - 1)) = true ∧
      Takes going .warden key .w ∧ gives (exec (.diagPass .warden 0 (v 1)) going) going = true ∧
      ((going.core 0).array 3).diag = some 66 ∧ (∀ b < 3, ((going.core 0).array b).diag = none) ∧
      gives (exec (.diagDone 0 ⟨3, (some 511)⟩) going) ((going.setReg key (setField (setBit (setBit (v 66 - 1) 16 true) 17 true) 24 18 511)).modCore 0
        (fun k => k.setArray 3 { ArraySt.zero with located := some (66, 511, 0) })) = true := by
  unfold Takes; decide +kernel

theorem witness_RepairAndDrainWrites :
    let s := arraySt []
    let key := coreKey 0 0x1010
    let reg := coreKey 0 0x2010
    let b := s.modCore 0 (fun k => k.setDrain 0 { Drain.zero with red := some 1 })
    Takes s .warden key .w ∧ repairBad 0x101 = false ∧ (s.core 0).streaming 0 = false ∧ (s.core 0).loading 0 = false ∧ sameMap 0 0 0x101 = false ∧
      repairBad 0xFF = true ∧
      gives (exec (.arrRepairWrite .warden 0 0 0xFF) s) (s.orReg (coreKey 0 0x1000) (2 ^ 6)) = true ∧
      Takes s .forester reg .f ∧ gives (exec (.drnCfgWrite .forester 0 0 0 2) s) (s.regWrite reg 2) = true ∧
      ((b.core 0).drain 0).noWindow = false ∧ gives (exec (.drnCfgWrite .forester 0 0 0 2) b) (b.orReg (coreKey 0 0x2000) (2 ^ 32)) = true := by
  unfold Takes; decide +kernel

theorem witness_RepairAndDrainWrites_same (fuse v : Word) : sameMap fuse v v = true := by simp [sameMap]

/-! ## The row engine and the vector unit -/

/-- The operand block of a row operation: one row of two FP32 elements at 0x800, its output at 0xC00. -/
def rowBlk : Bytes := blk [(4, 0x800), (4, 0), (4, 0xC00), (4, 0), (4, 1), (4, 2), (4, 0), (4, 0), (2, 0), (2, 1), (1, 7), (1, 7)]

theorem witness_RowOperationsQueue :
    let s := (st (task [] [])).withBytes 0x100 rowBlk
    let f := ins 0 0 0 7 0x100
    let u := s.atIssue 0 0 0x50 f
    let o : RowOp := ⟨0, 3, 7, rowBlk, 0, 0, [], [], 0, 0⟩
    let w := s.withBytes 0x110 [0]
    let g := ins 0 0 0 6 0x100
    let full := s.setSeal 0 { SealUnit.zero with wins := List.replicate 256 win7 }
    insn (.topk 0 0 f) = some (0x50, 0, 0, f) ∧ readsBlock s 0x50 f rowBlk = true ∧ o.ok = true ∧ s.statOk 0 0 o = true ∧
      openWith (u.openWindow 0 0 4) (fun e w => issuesTo (.topk 0 0 f) 0x50 f s
        (advance (w.modCore 0 (fun k => { k with rowOps := [{ o with sealEp := e }] })) 0 0)) = true ∧
      readsBlock w 0x50 f (rowBlk.set 16 0) = true ∧
      issuesTo (.topk 0 0 f) 0x50 f w (((w.atIssue 0 0 0x50 f).orReg (coreKey 0 0x3000) (2 ^ 9)).endTask 0 0 0x06 0) = true ∧
      readsBlock s 0x50 g rowBlk = true ∧ s.statOk 0 0 { o with op := 6 } = false ∧
      issuesTo (.rmsnorm 0 0 g) 0x50 g s (((s.atIssue 0 0 0x50 g).orReg (coreKey 0 0x3000) (2 ^ 10)).endTask 0 0 0x07 0) = true ∧
      readsBlock full 0x50 f rowBlk = true ∧ ((full.atIssue 0 0 0x50 f).openWindow 0 0 4).isNone = true ∧
      issuesTo (.topk 0 0 f) 0x50 f full (waitsOn (full.atIssue 0 0 0x50 f) 0 0 0x50 f 0 0 0 false) = true := by
  decide +kernel

theorem witness_RowsComplete :
    let o : RowOp := ⟨0, 3, 7, rowBlk, 0, 0, [], [], 0, 0⟩
    let p : RowOp := { o with blk := rowBlk.set 16 2 }
    let s := (st (task [] [])).modCore 0 (fun k => { k with rowOps := [o] })
    let u := (st (task [] [])).modCore 0 (fun k => { k with rowOps := [p] })
    (s.core 0).rowOps = [o] ∧ s.live 0 = true ∧ o.rows ≤ o.next + 1 ∧
      okWith (s.rowNext 0 o) (fun v r => match r with
        | .ok r => okWith (v.unitWrites 0 0 0 r.writes) (fun w _ => okWith (w.rowExport 0 r.op) (fun x _ =>
            gives (exec (.rowComplete 0) s) (((x.rowFlags 0 r.flags).count (coreKey 0 0x3048) 63 32 1).modCore 0 (fun k => { k with rowOps := [] }))))
        | _ => false) = true ∧
      (u.core 0).rowOps = [p] ∧ p.next + 1 < p.rows ∧
      okWith (u.rowNext 0 p) (fun v r => match r with
        | .ok r => okWith (v.unitWrites 0 0 0 r.writes) (fun w _ =>
            gives (exec (.rowComplete 0) u) (((w.rowFlags 0 r.flags).count (coreKey 0 0x3048) 63 32 1).modCore 0 (fun k =>
              { k with rowOps := [{ r.op with next := 1 }] })))
        | _ => false) = true := by
  decide +kernel

theorem witness_TopkRanks :
    let o : RowOp := ⟨0, 3, 7, rowBlk, 0, 0, [], [], 0, 0⟩
    [Machine.Num.nan, .inf false].length = o.len ∧ o.len < 2 ^ 32 := by decide

/-- The operand block of a vector operation: two FP32 elements at 0x800 and at 0x880, the result at 0xC00. -/
def vecBlk : Bytes := blk [(4, 0x800), (4, 0x880), (4, 0), (4, 0xC00), (4, 2), (1, 7), (1, 7)]

theorem witness_VectorOperationsComplete :
    let s := (((st (task [] [])).withBytes 0x100 vecBlk).withBytes 0x800 [0, 0, 0x80, 0x3F]).withBytes 0x880 [0, 0, 0x80, 0x3F]
    let f := ins 0 0 0 0 0x100
    let u := s.atIssue 0 0 0x51 f
    let x : Vec := ⟨vecBlk, 0⟩
    let w := s.withBytes 0x114 [9]
    insn (.vopAdd 0 0 f) = some (0x51, 0, 0, f) ∧ readsBlock s 0x51 f vecBlk = true ∧ x.ok false = true ∧
      okWith (u.vecIns 0 0 x 0 x.arity 0) (fun w ins => openWith (w.openWindow 0 0 5) (fun e y =>
        okWith (y.unitWrites 0 0 e (x.result true ins.1).1) (fun z _ => issuesTo (.vopAdd 0 0 f) 0x51 f s
          (advance (z.vecFlags 0 ((x.result true ins.1).2.or ins.2)) 0 0)))) = true ∧
      readsBlock w 0x51 f (vecBlk.set 20 9) = true ∧
      issuesTo (.vopAdd 0 0 f) 0x51 f w (((w.atIssue 0 0 0x51 f).orReg (coreKey 0 0x3000) (2 ^ 9)).endTask 0 0 0x06 0) = true := by
  decide +kernel

theorem witness_TurningCopyCompletes :
    let b := vecBlk.set 24 2
    let s := ((st (task [] [])).withBytes 0x100 b).withBytes 0x800 [0, 0, 0x80, 0x3F]
    let f := ins 0 0 0 0 0x100
    let x : Vec := ⟨b, 0⟩
    readsBlock s 0x52 f b = true ∧ x.ok true = true ∧
      okWith ((s.atIssue 0 0 0x52 f).turnRows 0 0 x (List.range x.count)) (fun w r => openWith (w.openWindow 0 0 5) (fun e y =>
        okWith (y.unitWrites 0 0 e (x.turned r.1).1) (fun _ _ => true))) = true := by
  decide +kernel

theorem witness_StatisticsWindowWrites :
    let s := st (task [] [])
    let key := coreKey 0 0x3010
    Takes s .forester key .f ∧ (s.task 0 0).phase ≠ .empty ∧
      gives (exec (.rowStatwinWrite .forester 0 0 5) s) (s.orReg (coreKey 0 0x3000) (2 ^ 11)) = true ∧
      Takes s .forester (coreKey 0 0x3028) .f ∧ (s.task 0 3).phase = .empty ∧
      gives (exec (.rowStatwinWrite .forester 0 3 5) s) (s.regWrite (coreKey 0 0x3028) 5) = true := by
  unfold Takes; decide +kernel
/-! ## DMA and beacons -/

/-- The operand block of a DMA of 64 bytes from local address 0 to 0x1000. -/
def dmaBlk : Bytes := blk [(8, 0), (8, 0x1000), (4, 64), (1, 0), (3, 0), (4, 1000)]

theorem witness_DmaIssues :
    let d (i : Nat) : Dma := { dma with slot := i }
    let s := (dmaSt ((List.range 15).map d)).withBytes 0x100 dmaBlk
    let f := ins 5 0 0 0 0x100
    let u := s.atIssue 0 0 0x58 f
    let full := (dmaSt ((List.range 16).map d)).withBytes 0x100 dmaBlk
    let bad := s.withBytes 0x110 [0]
    readsBlock s 0x58 f dmaBlk = true ∧ dmaDescOk dmaBlk = true ∧ (∀ j < 15, ∃ d ∈ (s.core 0).dmas, d.slot = j) ∧
      (¬∃ d ∈ (s.core 0).dmas, d.slot = 15) ∧
      issuesTo (.dma 0 0 f) 0x58 f s (advance ((u.modCore 0 (fun k =>
        { k with dmas := k.dmas ++ [⟨15, 0, 0, 3, 0, 0x1000, 64, 0, 1000, 0, 0, 0, 0, []⟩], dmaGen := [(15, 1)] })).modTask 0 0 (fun k => k.setG 5 15)) 0 0) =
        true ∧
      readsBlock full 0x58 f dmaBlk = true ∧
      issuesTo (.dma 0 0 f) 0x58 f full (waitsOn (full.atIssue 0 0 0x58 f) 0 0 0x58 f 0 0 0 false) = true ∧
      readsBlock bad 0x58 f (dmaBlk.set 16 0) = true ∧ dmaDescOk (dmaBlk.set 16 0) = false ∧
      issuesTo (.dma 0 0 f) 0x58 f bad ((bad.atIssue 0 0 0x58 f).endTask 0 0 0x02 (insnWord 0x58 f)) = true := by
  decide +kernel

theorem witness_DmaWaits :
    let s := dmaSt [{ dma with slot := 1, gen := 3 }]
    let f := ins 0 2 0 0 0
    let g := ins 0 3 0 0 0
    let h := ins 0 3 0 16 0
    let b := dmaSt [{ dma with slot := 0, gen := 3 }]
    issuesTo (.dmawait 0 0 f) 0x59 f s (advance (s.atIssue 0 0 0x59 f) 0 0) = true ∧
      issuesTo (.dmawait 0 0 f) 0x59 f b (waitsOn (b.atIssue 0 0 0x59 f) 0 0 0x59 f 0 0 0 false) = true ∧
      issuesTo (.dmawait 0 0 g) 0x59 g s (advance (s.atIssue 0 0 0x59 g) 0 0) = true ∧
      issuesTo (.dmawait 0 0 h) 0x59 h s (waitsOn (s.atIssue 0 0 0x59 h) 0 0 0x59 h 0 0 0 false) = true := by
  decide +kernel

theorem witness_DmaPacketsIssue :
    let s := dmaSt [{ dma with src := BitVec.ofNat 64 (spadAddr 0 0x1F00) }]
    let x := { dma with src := BitVec.ofNat 64 (spadAddr 0 0x1F00) }
    let u := s.modCore 0 (fun k => { k with dmas := [{ x with issued := 256, pkts := [⟨0, 0, 256, none, false⟩] }] })
    s.live 0 = true ∧ (s.core 0).dmas.find? (fun x => decide (x.issued < x.len)) = some x ∧ (s.core 0).pktsOut < 64 ∧
      u.route false x.src 256 = some (.core 0) := by
  decide +kernel

theorem witness_DmaResponses :
    let x (o : Nat) : DmaPkt := ⟨BitVec.ofNat 32 (o / 4096 * 65536), o, 4096, none, true⟩
    let s := dmaSt [{ dma with issued := 8192, pkts := [x 4096] }]
    let two := dmaSt [{ dma with issued := 8192, pkts := [x 0, x 4096] }]
    let p (t : PktType) (r : RespStatus) (d : Bytes) : Packet := { request t d.length d with status := r, tag := 65536 }
    let n : CoreId := 0
    let none_ := st (task [(2, 0x300)] [])
    let on (s : State) (p : Packet) (t : State) : Bool := (s.arrived p).here p && (s.arrived p).take p == s && gives (exec (.dmaResponse p) (s.arrived p)) t
    on s { p .writeAck .ok [] with tag := 9 } (s.count (coreKey n rMESH_CNT) 63 32 1) = true ∧
      on s (p .writeAck .ok []) none_ = true ∧
      on two (p .writeAck .ok []) (dmaSt [{ dma with issued := 8192, pkts := [x 0] }]) = true ∧
      on s (p .writeAck .refused []) (none_.endAsync n 0 3 0x03 0) = true ∧
      on s (p .writeAck .denied []) (none_.endAsync n 0 3 0x11 0) = true ∧
      on s (p .writeAck .poisoned []) ((none_.orReg (coreKey n rMESH_STATUS) (2 ^ 5)).freezeTask n 0 .recovery) = true ∧
      s.here (p .writeAck .ok []) = false ∧ gives (exec (.dmaResponse (p .writeAck .ok [])) s) s = true ∧
      nextWrites [{ x 0 with out := false, data := some [1] }, { x 4096 with out := false, data := some [2] }, { x 8192 with out := false }] =
        [{ x 0 with out := false, data := some [1] }, { x 4096 with out := false, data := some [2] }] := by
  decide +kernel

theorem witness_DmaRequestsAreServed :
    let s := (st (task [] [])).withBytes 0 [1, 2]
    let p := request .dmaWrite 2 [8, 9]
    let r := request .dmaRead 2 []
    let far := { r with addr := BitVec.ofNat 64 (spadAddr 0 (spadSize - 1)) }
    s.live 0 = true ∧ (s.arrived p).requestPieces 0 p = some [(0x1000, 2)] ∧ (s.arrived p).spadPowered 0 0x1000 2 = true ∧
      s.pieceBad 0 true [(0x1000, 2)] = none ∧ (s.arrived p).take p = s ∧
      (s.arrived r).requestPieces 0 r = some [(0x1000, 2)] ∧ s.pieceBad 0 false [(0x1000, 2)] = none ∧
      (match s.servePlan 0 [(0x1000, 2)] ((s.arrived r).destOf r) r [] with | .now => true | _ => false) = true ∧
      (s.arrived far).requestPieces 0 far = none := by
  decide +kernel

theorem witness_DmaRequestsBad :
    let s := (st (task [] [])).withBytes 0 [1, 2]
    let p := request .dmaWrite 2 [8, 9]
    let m := { p with dst := .slot 7, type := .migrate }
    let b := { s with badWords := [spadAddr 0 0x1000] }
    let off := s.setReg (coreKey 0 rSPAD_STATUS) 0
    b.requestPieces 0 p = some [(0x1000, 2)] ∧ b.spadPowered 0 0x1000 2 = true ∧ (b.take p).pieceBad 0 true [(0x1000, 2)] = some 0x1000 ∧
      off.live 0 = true ∧ (s.arrived m).here m = true := by
  decide +kernel

theorem witness_FencesAndPosies :
    let p := request .dmaWrite 2 [8, 9]
    let s := (st (task [] [])).modCore 0 (fun k => { k with fenced := [⟨5, p, [7], []⟩], outs := [⟨8, 0, .core 1, 9⟩] })
    let w := s.modCore 0 (fun k => { k with outs := [⟨7, 0, .core 0, 9⟩] })
    let key := coreKey 0 rQUE_POSY
    let recs : List Bytes := [[1], [2]]
    let y (a : Nat) := (st (task [] [])).modCore 0 (fun k => { k with posy := some (a, recs) })
    let u := ((st (task [] [])).setReg key (setBit (setBit ((st (task [] [])).reg key) 63 false) 62 true))
    s.awaits 0 p.dst = [] ∧ w.awaits 0 p.dst = [7] ∧
      gives (exec (.fenceRelease 0) w) w = true ∧ (y peatBase).snooped (spadAddr 0 0x1000) 4608 true = (true, y peatBase) ∧
      u.localWriteOk (spadAddr 0 0x1000) 4608 = true ∧
      gives (exec (.posyDone 0) (y (spadAddr 0 0x1000))) (u.store (spadAddr 0 0x1000) [1, 2]) = true ∧
      (y peatBase).snooped peatBase 4608 true = (true, y peatBase) ∧ u.localWriteOk peatBase 4608 = false ∧
      gives (exec (.posyDone 0) (y peatBase)) (u.orReg (coreKey 0 rQUE_STATUS) (2 ^ 4)) = true := by
  decide +kernel

theorem witness_MeshTimeouts :
    let late (s : State) : State := { s with time := 2 ^ 72 }
    let s := late (dmaSt [{ dma with slot := 5, gen := 2, pkts := [⟨9, 0, 64, none, false⟩] }])
    let r : SendRec := ⟨none, 15, 3, some 4, false, 0x60, 0, [⟨0, 1, 2, none⟩], 3⟩
    let v := late (st { task [] [] with sends := [r] })
    gives (exec (.meshTimeout 0 (.dma 0x205)) s)
        (((late (st (task [(2, 0x300)] []))).orReg (coreKey 0 rMESH_STATUS) (2 ^ 4)).endAsync 0 0 3 0x10 0x58) = true ∧
      gives (exec (.meshTimeout 0 (.send 0 15)) v) (((late (st (task [] []))).orReg (coreKey 0 rMESH_STATUS) (2 ^ 4)).endAsync 0 0 3 0x10 0x60) = true ∧
      gives (exec (.meshTimeout 0 (.dma 0x205)) { s with time := 0 }) { s with time := 0 } = true := by
  decide +kernel

theorem witness_BarriersJoin :
    let s := st (task [(3, 9)] [])
    let f := ins 4 0 3 1 0xFF
    let tap (x : Tap) := s.modCore 0 (fun k => { k with tap := some x })
    let b := tap ⟨1, 0, 0, 0, false, false, none⟩
    let d := tap ⟨0, 0xFF, 1, 9, true, false, some 33⟩
    issuesTo (.bar 0 0 f) 0x70 f s
        (waitsOn ((s.atIssue 0 0 0x70 f).modCore 0 (fun k => { k with tap := some ⟨0, 0xFF, 1, 9, false, false, none⟩ })) 0 0 0x70 f 1 0 0xFF false) = true ∧
      issuesTo (.bar 0 0 f) 0x70 f b (waitsOn (b.atIssue 0 0 0x70 f) 0 0 0x70 f 0 0 0xFF false) = true ∧
      issuesTo (.bar 0 0 f) 0x70 f d (advance ((((d.atIssue 0 0 0x70 f).modCore 0 (fun k => { k with tap := none })).count
        (coreKey 0 rBCN_TAPCNT) 63 32 1).modTask 0 0 (fun k => k.setG 4 33)) 0 0) = true := by
  decide +kernel

/-- Group 3 enabled with core 0 as its one member, and core 0's tap waiting to join it. -/
def beaconSt : State :=
  (((st (task [] [])).setReg (groupKey rBCN_GCFGg 3) 1).setReg (groupKey rBCN_GMASKg_j 3) 1).modCore 0 (fun k =>
    { k with tap := some ⟨0, 3, 0, 5, false, false, none⟩ })

theorem witness_BeaconRounds :
    let s := beaconSt
    let x : Tap := ⟨0, 3, 0, 5, false, false, none⟩
    let j := s.modCore 0 (fun k => { k with tap := some { x with joined := true } })
    let v := identityOf (s.groupOp 3)
    let r := j.setBeacon 3 ⟨.releasing, 0, [(0, v)], []⟩
    let q := (s.setBeacon 3 ⟨.releasing, 0, [], []⟩)
    let flt := s.setBeacon 3 ⟨.fault, 7, [], []⟩
    (s.core 0).tap = some x ∧ s.isMember 3 0 = true ∧ bitOf (s.gcfg 3) 0 = true ∧ s.members 3 = 1 ∧
      gives (exec (.beaconJoin 3 0) s) r = true ∧
      gives (exec (.beaconJoin 3 0) q) ((q.modCore 0 (fun k => { k with tap := some { x with joined := true } })).setBeacon 3
        ⟨.releasing, 0, [], [(0, v)]⟩) = true ∧
      (r.beacon 3).phase = .releasing ∧ (s.setReg (groupKey rBCN_GMASKg_j 3) 0).isMember 3 0 = false ∧
      gives (exec (.beaconRelease 3) r) (((r.releaseTap 3 (combine (s.groupOp 3) v v) 0).setReg (groupKey rBCN_GVALUEg 3)
        (combine (s.groupOp 3) v v)).setBeacon 3 ⟨.idle, 1, [], []⟩) = true ∧
      (s.beacon 3).phase ≠ .fault ∧ Takes flt .warden (groupKey rBCN_GCTLg 3) (classOf (groupKey rBCN_GCTLg 3)) ∧
      gives (exec (.beaconClear .warden 3 1) flt) ((flt.setBeacon 3 ⟨.idle, 7, [], []⟩).rejoin 3) = true := by
  unfold Takes; decide +kernel

theorem witness_BeaconGroupWrites :
    let s := beaconSt
    let key := groupKey rBCN_GMASKg_j 3 + 8 * 7
    let b := s.setBeacon 3 ⟨.gathering, 0, [], []⟩
    Takes s .warden key (classOf key) ∧ (s.beacon 3).phase = .idle ∧ (s.regWrite key 5).scopeOk 3 = true ∧
      gives (exec (.bcnGcfgWrite .warden 3 8 5) s) (s.regWrite key 5) = true ∧
      Takes b .warden key (classOf key) ∧ gives (exec (.bcnGcfgWrite .warden 3 8 5) b) (b.orReg rBCN_STATUS 4) = true := by
  unfold Takes; decide +kernel
/-! ## Messages -/

/-- The record of a send of one message to core 1, queue 2, on channel 15. -/
def sendRec (opc : Nat) (dst r : Option Nat) : SendRec := ⟨none, 15, 0, dst, false, opc, 0, [⟨0, 1, 2, r.map (BitVec.ofNat 64)⟩], 3⟩

theorem witness_SendsLeave :
    let w := target 1 2 15
    let s := st (task [(2, w), (3, 9), (6, w + 1)] [])
    let f := ins 4 2 3 0 0
    let bad := ins 4 6 3 0 0
    let b := st { task [(2, w), (3, 9)] [] with sends := [sendRec 0x60 none none] }
    let d := st { task [(2, w), (3, 9)] [] with deps := [⟨⟨0, 0, 0⟩, 4, 0⟩] }
    let gone := (s.setRow 0 { RowMap.initial with withheld := 2 })
    targetOk w = true ∧ s.present 1 = true ∧
      Issues s 0 0 0x60 f ∧
      targetOk (w + 1) = false ∧ Issues s 0 0 0x60 bad ∧ gone.present 1 = false ∧ Issues gone 0 0 0x60 f ∧
      issuesTo (.send 0 0 f) 0x60 f b (waitsOn (b.atIssue 0 0 0x60 f) 0 0 0x60 f 1 0 0 false) = true ∧
      issuesTo (.send 0 0 f) 0x60 f d (waitsOn (d.atIssue 0 0 0x60 f) 0 0 0x60 f 1 0 0 true) = true := by
  unfold Issues; decide +kernel

theorem witness_OtherSendsPost :
    let w := target 1 2 15
    let list := leBytes 1 1 ++ leBytes 1 15 ++ leBytes 6 0 ++ leBytes 8 1 ++ leBytes 8 w.toNat
    let s := (st (task [(2, w), (3, 9), (4, 0x100)] [(1, 0x100)])).withBytes 0x100 list
    let f (d a b x : Nat) : InsnBits := ins d a b x 0
    let u (opc : Nat) (f : InsnBits) := s.atIssue 0 0 opc f
    Issues s 0 0 0x61 (f 4 2 1 0) ∧ isOk ((u 0x61 (f 4 2 1 0)).taskRead 0 0 0x100 64 .narrow) (u 0x61 (f 4 2 1 0)) (list ++ List.replicate 40 0) = true ∧
      Issues s 0 0 0x62 (f 4 1 3 0) ∧ isOk ((u 0x62 (f 4 1 3 0)).taskRead 0 0 0x100 16 .narrow) (u 0x62 (f 4 1 3 0)) (list.take 16) = true ∧
      isOk ((u 0x62 (f 4 1 3 0)).taskRead 0 0 0x110 8 .narrow) (u 0x62 (f 4 1 3 0)) (leBytes 8 w.toNat) = true ∧ leAt list 0 1 = 1 ∧ leAt list 1 1 = 15 ∧
      Issues s 0 0 0x68 (f 0 2 3 0) ∧ Issues s 0 0 0x68 (f 0 2 3 1) ∧ Issues s 0 0 0x68 (f 0 2 4 2) ∧
      isOk ((u 0x68 (f 0 2 4 2)).taskRead 0 0 0x100 64 .narrow) (u 0x68 (f 0 2 4 2)) (list ++ List.replicate 40 0) = true ∧
      Issues s 0 0 0x69 (f 0 2 0 0) ∧ (s.task 0 0).sends = [] := by
  unfold Issues; decide +kernel

theorem witness_ChannelsAdvance :
    let k := task [] []
    15 < 16 ∧ (∃ x ∈ [0, 4], x = 1 ∨ x = 4 ∨ x = 3) ∧ (k.channelDone 15 [0, 4]).pendBits = 0x8000 ∧
      (¬∃ x ∈ [0, 6], x = 1 ∨ x = 4 ∨ x = 3) ∧ (k.channelDone 15 [0, 6]).nextSeq 15 = 1 := by
  decide +kernel

theorem witness_SendResults :
    let w := target 1 2 15
    let r := sendRec 0x60 (some 4) none
    let m : MsgHeader := { header with key := ⟨0, 0, 0, 15⟩, seq := 0, dstCore := 0, type := .reply }
    let s := st { task [(2, w)] [] with sends := [r], pending := [4] }
    let p (st : RespStatus) : Packet := { message m (leBytes 8 33) with type := .msgReply, tag := msgTag 0 15 0 0, status := st }
    let none_ := st (task [(2, w)] [])
    let kept := st { task [(2, w)] [] with pending := [4] }
    let on (x : RespStatus) (t : State) : Bool := (s.arrived (p x)).here (p x) && gives (exec (.sendResult (p x)) (s.arrived (p x))) t
    (s.task 0 0).sends.find? (fun r => decide (r.chan = 15) && decide (r.seq = 0)) = some r ∧
      on .refused (kept.endAsync 0 0 3 0x03 0) = true ∧ on .denied (kept.endAsync 0 0 3 0x11 0) = true ∧
      on .ok (none_.modTask 0 0 (fun k => { k with g := [(2, w), (4, 33)], next := [(15, 1)] })) = true ∧
      s.here (p .ok) = false ∧ gives (exec (.sendResult (p .ok)) s) s = true := by
  decide +kernel

theorem witness_MessagesAreAccepted :
    let x := queue []
    let s := queueSt x
    let b := leBytes 8 1
    let p := message header b
    let full := queueSt (queue [⟨sender, b⟩])
    (s.arrived p).here p = true ∧ (s.arrived p).live 0 = true ∧ (s.core 0).queue 5 = some x ∧ (s.task 0 0).phase = .running ∧
      wellMade header 8 0 = true ∧ isDup x.table header = false ∧ tableFull x.table header 2 = false ∧ x.admits sender = true ∧
      (full.core 0).queue 5 = some (queue [⟨sender, b⟩]) ∧ (queue [⟨sender, b⟩]).admits sender = false := by
  decide +kernel

/-- What stands at the present checks of MESSAGE_ACCEPTANCE for each refusal. -/
theorem witness_MessagesAreRefusedInOrder :
    let s := queueSt (queue [])
    let x := queue []
    let dead := s.modSlot 0 (fun x => { x with rst := true })
    wellMade { header with words := 1 } 8 0 = false ∧ wellMade header 8 0 = true ∧ (dead.core 0).queue 63 = none ∧ dead.live 0 = false ∧
      s.live 0 = true ∧ (s.core 0).queue 5 = some x ∧ x.desc = false ∧ header.type = .word ∧ x.anygenOk = false ∧
      (s.core 0).genOf 5 = 0 ∧ isDup [(sender, 7)] header = true ∧ tableFull [] header 0 = true ∧ isDup [] header = false := by
  decide +kernel

theorem witness_QueueReads :
    let e : QEntry := ⟨sender, leBytes 8 0x1000000000000001 ++ leBytes 8 2⟩
    let s := queueSt (queue [e])
    let n := queueSt (queue [])
    let f (d a x : Nat) : InsnBits := ins d a 0 x 5
    let popped (opc : Nat) (f : InsnBits) : State := (s.atIssue 0 0 opc f).modCore 0 (fun k => k.setQueue 5 (some { queue [] with departs := [0] }))
    let cut (u : State) : State := u.orReg (coreKey 0 rQUE_STATUS) 4
    let d := queueSt { queue [] with desc := true }
    issuesTo (.recv 0 0 (f 4 0 1)) 0x63 (f 4 0 1) s
        (advance ((popped 0x63 (f 4 0 1)).modTask 0 0 (fun k => (k.setG 4 0x1000000000000001).setG 5 2)) 0 0) = true ∧
      issuesTo (.recv 0 0 (f 4 0 0)) 0x63 (f 4 0 0) s
        (advance (cut ((popped 0x63 (f 4 0 0)).modTask 0 0 (fun k => k.setG 4 0x1000000000000001))) 0 0) = true ∧
      issuesTo (.recv 0 0 (f 4 0 0)) 0x63 (f 4 0 0) n (waitsOn (n.atIssue 0 0 0x63 (f 4 0 0)) 0 0 0x63 (f 4 0 0) 0 0 5 false) = true ∧
      issuesTo (.recvt 0 0 (f 4 7 3)) 0x64 (f 4 7 3) s
        (advance ((popped 0x64 (f 4 7 3)).modTask 0 0 (fun k => { ((k.setG 4 0x1000000000000001).setG 5 2) with p := 0x80 })) 0 0) = true ∧
      issuesTo (.recvt 0 0 (f 4 7 0)) 0x64 (f 4 7 0) n (advance (n.atIssue 0 0 0x64 (f 4 7 0)) 0 0) = true ∧
      issuesTo (.recvc 0 0 (f 4 7 0)) 0x65 (f 4 7 0) s
        (advance ((cut (popped 0x65 (f 4 7 0))).modTask 0 0 (fun k => k.setG 4 0x1000000000000001)) 0 0) = true ∧
      issuesTo (.recvc 0 0 (f 4 7 0)) 0x65 (f 4 7 0) n (waitsOn (n.atIssue 0 0 0x65 (f 4 7 0)) 0 0 0x65 (f 4 7 0) 0 0 5 false) = true ∧
      issuesTo (.recvc 0 0 (f 4 7 0)) 0x65 (f 4 7 0) d ((d.atIssue 0 0 0x65 (f 4 7 0)).endTask 0 0 0x02 (insnWord 0x65 (f 4 7 0))) = true ∧
      issuesTo (.recv 0 0 (ins 4 0 0 0 63)) 0x63 (ins 4 0 0 0 63) s
        ((s.atIssue 0 0 0x63 (ins 4 0 0 0 63)).endTask 0 0 0x02 (insnWord 0x63 (ins 4 0 0 0 63))) = true := by
  decide +kernel

theorem witness_QueueReadsReserved :
    let s := queueSt (queue [⟨sender, leBytes 8 0x4000000000000000⟩])
    let f := ins 4 7 0 0 5
    issuesTo (.recvc 0 0 f) 0x65 f s (((s.atIssue 0 0 0x65 f).modCore 0 (fun k => k.setQueue 5 (some { queue [] with departs := [0] }))).endTask 0 0 0x02
      (insnWord 0x65 f)) = true := by
  decide +kernel

theorem witness_QueueGenerationsRise :
    let e : QEntry := ⟨sender, leBytes 8 1⟩
    let s := queueSt (queue [e])
    let f := ins 0 0 0 0 5
    let g := ins 0 0 0 0 63
    let u := s.atIssue 0 0 0x66 f
    let n := s.modCore 0 (fun k => { k.setQueue 5 none with qgen := [(5, 255)] })
    let r := queueSt { queue [] with resv := [⟨sender, 0⟩] }
    issuesTo (.qdone 0 0 f) 0x66 f s (advance (((u.modCore 0 (fun k => { k.setQueue 5 (some (queue [])) with qgen := [(5, 1)] })).count
        (coreKey 0 rQUE_CNT2) 31 0 1).orReg (coreKey 0 rQUE_STATUS) 8) 0 0) = true ∧
      issuesTo (.qdone 0 0 f) 0x66 f n (advance ((n.atIssue 0 0 0x66 f).modCore 0 (fun k => { k with qgen := [] })) 0 0) = true ∧
      issuesTo (.qdone 0 0 g) 0x66 g s ((s.atIssue 0 0 0x66 g).endTask 0 0 0x02 (insnWord 0x66 g)) = true ∧
      (r.core 0).queue 5 = some { queue [] with resv := [⟨sender, 0⟩] } ∧ gives (exec (.reservationLapse 0 5 0) r) (queueSt (queue [])) = true := by
  decide +kernel

theorem witness_RingLandingWrites :
    let e : QEntry := ⟨sender, [1, 2, 3, 4, 5, 6, 7, 8]⟩
    let x : RQueue := { queue [e] with land := 2, ring := 15 }
    let s := (queueSt x).withCirc 15 (circ 0 0x3FF8)
    let r := (queueSt x).withCirc 15 (circ 0 0x3FF9)
    let t := (queueSt { x with entries := [], departs := [0] }).withCirc 15 (circ 0 0x4000)
    (s.core 0).queue 5 = some x ∧ s.live 0 = true ∧
      gives (exec (.ringLandingWrite 0 5) s) (t.store (spadAddr 0 0x43FF8) e.words) = true ∧
      (circ 0 0x3FF9).size < (circ 0 0x3FF9).occ + 8 ∧ gives (exec (.ringLandingWrite 0 5) r) r = true := by
  decide +kernel

/-- A sheaf of two lanes with its region at 0x400, that expects two contributions. -/
def sheaf (p : SheafPhase) (n : Nat) : Sheaf := ⟨0, 0, false, false, 1, 4, 2, 0x400, 0, p, 0, n, some 2, false, false, []⟩

/-- Core 0 with that sheaf at index 7. -/
def sheafSt (x : Sheaf) : State := (st (task [] [])).modCore 0 (fun k => k.setSheaf 7 (some x))

theorem witness_SheafRounds :
    let x := sheaf .opened 0
    let s := sheafSt x
    let m : MsgHeader := { header with sheaf := true, dstQ := 7, type := .shfInt64 }
    let p := message m (leBytes 8 5)
    let z : Bytes := List.replicate 64 0
    let addr : Word := 0x400
    wellMade m 8 1 = true ∧ isContribution m.type = true ∧ isOk (s.taskRead 0 0 addr 64 .dma) s z = true ∧
      (contribute (Window.ofBytes z) m.type (leBytes 8 5)).isSome = true := by
  decide +kernel

theorem witness_SheafReads :
    let x := sheaf .released 2
    let f := ins 4 0 0 0 7
    let u := ((sheafSt x).atIssue 0 0 0x6A f).modCore 0 (fun k => k.setSheaf 7 (some { x with phase := .clearing }))
    let y := { x with kind := 2 }
    let r := laneValue 0 (Window.ofBytes (List.replicate 64 0))
    let c := sheafSt (sheaf .clearing 2)
    isOk (u.taskRead 0 0 0x400 64 .dma) u (List.replicate 64 0) = true ∧
      issuesTo (.shfrecv 0 0 f) 0x6A f (sheafSt x) (advance (u.modTask 0 0 (fun k => k.setG 4 (BitVec.ofNat 64 r.1))) 0 0) = true ∧
      issuesTo (.shfrecv 0 0 f) 0x6A f (sheafSt y) (advance ((((sheafSt y).atIssue 0 0 0x6A f).modCore 0 (fun k =>
        k.setSheaf 7 (some { y with phase := .clearing }))).modTask 0 0 (fun k => k.setG 4 0x400)) 0 0) = true ∧
      okWith (c.taskWrite 0 0 0x440 (clearedBuffer 1) .dma) (fun _ _ => true) = true := by
  decide +kernel

theorem witness_SheafReadsLanes :
    let x := { sheaf .released 2 with lanes := 2 }
    let f := ins 4 0 0 0 7
    let u := ((sheafSt x).atIssue 0 0 0x6A f).modCore 0 (fun k => k.setSheaf 7 (some { x with phase := .clearing }))
    let r := laneValue 0 (Window.ofBytes (List.replicate 64 0))
    isOk (u.taskRead 0 0 0x400 128 .dma) u (List.replicate 128 0) = true ∧
      okWith (u.taskWrite 0 0 0x500 (leBytes 8 r.1 ++ leBytes 8 r.1) .dma) (fun w _ =>
        issuesTo (.shfrecv 0 0 f) 0x6A f (sheafSt x) (advance (w.modTask 0 0 (fun k => k.setG 4 0x500)) 0 0)) = true := by
  decide +kernel

theorem witness_PosyReadsAndUnitSends :
    let s := st (task [] [])
    let key := coreKey 0 rQUE_POSY
    let v : Word := 0x8000000000000040
    let u := s.regWrite key v
    let off := s.modSlot 0 (fun x => { x with on := false })
    let busy := s.modCore 0 (fun k => { k with posy := some (0, []) })
    let m : UnitMsg := ⟨0, 3, target 1 2 15, leBytes 8 9, .word, 0, 4, 0, false, none⟩
    let q := s.modCore 0 (fun k => { k with rowOutbox := [m] })
    let w := s.modCore 0 (fun k => { k with rowOutbox := [{ m with backoff := some 2 }] })
    bitOf v 63 = true ∧ Takes s .forester key .f ∧ (s.slotFor 0).on = true ∧ Takes off .forester key .f ∧ (off.slotFor 0).on = false ∧
      gives (exec (.posyRead .forester 0 v) off)
        (((off.regWrite key v).setReg key (setBit (setBit ((off.regWrite key v).reg key) 63 false) 62 true)).orReg (coreKey 0 rQUE_STATUS) 16) = true ∧
      Takes busy .forester key .f ∧ gives (exec (.posyRead .forester 0 v) busy) busy = true ∧
      (q.core 0).outbox .rowEngine = [m] ∧ s.windowSealed 0 4 = true ∧
      (q.core 0).msgOwed .rowEngine m = false ∧ (s.task 0 0).sending 15 = false ∧ (w.core 0).outbox .rowEngine = [{ m with backoff := some 2 }] ∧
      gives (exec (.unitResend 0 .rowEngine) w) w = true := by
  unfold Takes; decide +kernel
/-! ## Seals -/

theorem witness_SealQueries :
    let s := sealSt []
    let f := ins 7 1 3 0 0
    let z := ins 7 1 0 0 0
    let puts (s : State) (f : InsnBits) (p : BitVec 8) : Bool :=
      issuesTo (.sealq 0 0 f) 0x79 f s (advance ((s.atIssue 0 0 0x79 f).modTask 0 0 (fun k => { k with p := p })) 0 0)
    let o := sealSt [ref .opened]
    let h := (st (task [(3, 64)] [(1, 31 * 2 ^ 27)])).withCirc 15 (circ 0 0)
    let b := st (task [(3, 64)] [(1, 0x20000)])
    puts s z 0x80 = true ∧ puts s f 0x80 = true ∧ puts o f 0 = true ∧ (o.core 0).xlate 0 0 64 false = .ok [(0x1000, 64)] ∧
      (h.core 0).xlate 0 (31 * 2 ^ 27) 64 false = .held ∧ puts h f 0 = true ∧ (b.core 0).xlate 0 0x20000 64 false = .bad ∧
      issuesTo (.sealq 0 0 f) 0x79 f b ((b.atIssue 0 0 0x79 f).endTask 0 0 0x03 0x20000) = true := by
  decide +kernel

theorem witness_SealWaits :
    let f := ins 0 1 3 0 0
    let z := ins 0 1 0 0 0
    let u (s : State) := s.atIssue 0 0 0x78 f
    let is (s t : State) : Bool := issuesTo (.waitseal 0 0 f) 0x78 f s t
    let o := (sealSt [ref .opened]).setReg (coreKey 0 rSEAL_CTRL) 0
    let r := (sealSt [ref .opened]).setReg (coreKey 0 rSEAL_CTRL) 1
    let d := (sealSt [{ ref .opened with depth := 4 }]).setReg (coreKey 0 rSEAL_CTRL) 1
    let h := (st (task [(3, 64)] [(1, 31 * 2 ^ 27)])).withCirc 15 (circ 0 0)
    let b := st (task [(3, 64)] [(1, 0x20000)])
    let ps := [(0x1000, 64)]
    issuesTo (.waitseal 0 0 z) 0x78 z (sealSt []) (advance ((sealSt []).atIssue 0 0 0x78 z) 0 0) = true ∧
      is b ((u b).endTask 0 0 0x03 0x20000) = true ∧
      is h (waitsOn (u h) 0 0 0x78 f 2 ((u h).regField (coreKey 0 rSEAL_CTRL) 0 0) 0 false) = true ∧
      is (sealSt []) (advance (u (sealSt [])) 0 0) = true ∧
      is (sealSt [ref .lapsed]) ((u (sealSt [ref .lapsed])).freezeTask 0 0 .recovery) = true ∧
      is o (waitsOn (u o) 0 0 0x78 f 1 0 0 true) = true ∧ (u r).cannotInherit 0 0 ((u r).openRefs 0 ps) = false ∧
      is r (advance ((u r).inherit 0 0 ((u r).openRefs 0 ps)) 0 0) = true ∧ (u d).cannotInherit 0 0 ((u d).openRefs 0 ps) = true ∧
      is d (waitsOn ((u d).orReg (coreKey 0 rSEAL_STATUS) (2 ^ 7)) 0 0 0x78 f 1 1 0 true) = true := by
  decide +kernel

theorem witness_BlockStates :
    let u (rs : List SealRef) : SealUnit := { SealUnit.zero with refs := rs }
    (u [ref .retracted, ref .lapsed, ref .opened]).blockState 1 = 3 ∧ (u [ref .opened, ref .retracted]).blockState 1 = 2 ∧
      (u [ref .opened]).blockState 1 = 0 ∧ (u [ref .lapsed]).blockState 0 = 1 := by
  decide

theorem witness_WindowVerdicts :
    let s (w : SealWin) : State := (st (task [] [])).setSeal 0 { SealUnit.zero with next := 8, wins := [w] }
    let bad := { win7 with failed := true }
    let ended := { win7 with st := .sealed }
    ((s win7).sealUnit 0).win 7 = some win7 ∧
      gives (exec (.windowVerdict 0 7 false) (s win7)) (((s win7).modWin 0 7 (fun w => { w with passed := true })).sealReady 0 257) = true ∧
      ((s bad).sealUnit 0).win 7 = some bad ∧ ((s ended).sealUnit 0).win 7 = some ended ∧
      gives (exec (.windowVerdict 0 7 true) (s ended)) (s ended) = true := by
  decide +kernel

theorem witness_VerdictsSettleReferences :
    let u : SealUnit := { SealUnit.zero with refs := [ref .opened, ref .lapsed, { ref .opened with epoch := 4 }] }
    ref .opened ∈ u.refs ∧ (u.settleRefs ⟨0, 9, 0⟩ 3 true false).refs = [ref .lapsed, { ref .opened with epoch := 4 }] ∧
      (u.settleRefs ⟨0, 9, 0⟩ 3 false false).refs = [ref .retracted, ref .lapsed, { ref .opened with epoch := 4 }] := by
  decide +kernel

/-- A seal message of a kind about epoch 3 of a foreign producer, naming the first page of the test task. -/
def sealMsg (k : SealKind) : SealMsg := ⟨⟨0, 9, 0⟩, k, false, false, false, 0, false, 3, 64, BitVec.ofNat 48 (spadAddr 0 0x1000)⟩

theorem witness_SealMessagesArrive :
    let s := sealSt []
    let n := sealMsg .notice
    let far := { n with addr := BitVec.ofNat 48 (spadAddr 0 (spadSize - 1)) }
    let p (m : SealMsg) : Packet := { request .seal 32 (sealBytes m) with dst := sealPlace 0 }
    let bad : Packet := { p n with data := List.replicate 32 0xFF }
    (s.arrived (p n)).here (p n) = true ∧ s.here (p n) = false ∧ gives (exec (.noticeArrive (p n) ()) s) s = true ∧
      (p n).type = .seal ∧ s.isRemote false (p n).addr = false ∧ sealOf bad.data = none ∧ sealOf (p n).data = some n ∧ unitAt (p n).dst = 0 ∧
      s.noticeBlocks 0 n = some (1, 1) ∧ ((s.sealUnit 0).notice n 1 1 (s.ns + s.lapseTime 0) (maxEntries 0)).isSome = true ∧
      ((s.sealUnit 0).notice n 1 1 0 0) = none ∧ s.noticeBlocks 0 far = none ∧ sealOf (p (sealMsg .seal)).data = some (sealMsg .seal) ∧
      sealOf (p (sealMsg .retract)).data = some (sealMsg .retract) ∧ (sealMsg .seal).len < 2 ^ 32 ∧ s.heeds 0 ⟨0, 9, 0⟩ 3 = false ∧
      (sealSt [ref .opened]).heeds 0 ⟨0, 9, 0⟩ 3 = true := by
  decide +kernel

theorem witness_SealPayloadsReadBack : sealOf (sealBytes (sealMsg .retract)) = some (sealMsg .retract) := by decide +kernel

theorem witness_SealMessagesEnd :
    let o : SealOut := ⟨4, .core 1, sealMsg .notice, 2, 0⟩
    let late (s : State) : State := { s with time := 32001 * 2 ^ 32 }
    let s := (st (task [] [])).setSeal 0 { SealUnit.zero with outs := [o] }
    let last := late ((st (task [] [])).setSeal 0 { SealUnit.zero with outs := [{ o with tries := 3 }] })
    let e : SealEntry := ⟨⟨0, 9, 0⟩, 3, [(1, 1)], 0, false⟩
    let l := (st (task [] [])).setSeal 0 { SealUnit.zero with entries := [e], refs := [ref .opened] }
    let a (x : RespStatus) : Packet := { request .writeAck 0 [] with dst := sealPlace 0, tag := sealTag 0 4, status := x }
    unitOf (.core 0) = some 0 ∧ gives (exec (.sealAcknowledged (.core 0) 4) s) s = true ∧
      gives (exec (.sealAcknowledged (.core 0) 4) (s.arrived (a .ok))) (s.outDone 0 o) = true ∧
      gives (exec (.sealAcknowledged (.core 0) 4) (s.arrived (a .refused))) ((s.refuseReads 0 4 .refused).outDone 0 o) = true ∧
      gives (exec (.sealMessageResend (.core 0) 4) s) s = true ∧ ((late s).sealUnit 0).outs.find? (fun o => decide (o.id = 4)) = some o ∧
      gives (exec (.sealMessageResend (.core 0) 4) last) (last.outDone 0 { o with tries := 3 }) = true ∧
      (l.sealUnit 0).oldestOf ⟨0, 9, 0⟩ = some e := by
  decide +kernel

/-! ## Event counters and the operand lattice -/

theorem witness_EventCountersObey :
    let k := task [(3, 0x104)] []
    let i : ImageInfo := { k.img with evc := 0x80 }
    let s := (st k).setReg (coreKey 0 (rEVC_CNTc + 8 * 7)) 5
    let o := s.setTask 0 1 { k with img := i }
    let f := ins 4 0 3 0 7
    let g := ins 0 0 0 0 0x80
    let ctl := coreKey 0 rEVC_CTL
    let u (s : State) (opc : Nat) (f : InsnBits) := s.atIssue 0 0 opc f
    let e (i : InsnBits → Instr) (x : Nat) (act : State → State) : Bool :=
      issuesTo (i g) 0x89 (withX g x) s (advance (act (u s 0x89 (withX g x))) 0 0)
    let f' := ins 0 0 3 0 7
    issuesTo (.evsel 0 0 f') 0x88 f' s (advance ((u s 0x88 f').setReg (coreKey 0 (rEVC_SELc + 56)) 4) 0 0) = true ∧
      issuesTo (.evsel 0 0 f') 0x88 f' o (advance (u o 0x88 f') 0 0) = true ∧
      issuesTo (.evrd 0 0 (ins 4 0 0 0 7)) 0x8A (ins 4 0 0 0 7) s
        (advance ((u s 0x8A (ins 4 0 0 0 7)).modTask 0 0 (fun k => k.setG 4 5)) 0 0) = true ∧
      issuesTo (.evrd 0 0 (ins 4 0 0 0 7)) 0x8A (ins 4 0 0 0 7) o (advance (u o 0x8A (ins 4 0 0 0 7)) 0 0) = true ∧
      e (.evctlStart 0 0) 0 (fun s => s.setReg ctl (setBit (s.reg ctl) 7 true)) = true ∧
      e (.evctlStop 0 0) 1 (fun s => s.setReg ctl (setBit (s.reg ctl) 7 false)) = true ∧
      e (.evctlClear 0 0) 2 (fun s => s.setReg (coreKey 0 (rEVC_CNTc + 56)) 0) = true ∧ f = ins 4 0 3 0 7 := by
  decide +kernel

/-- A task that owns configuration slot 7, and its core with a schedule there that uses no link. -/
def cfgSt (slot : Option CfgSlot) : State :=
  let k := task [] []
  (st { k with img := { k.img with cfgSlots := 0x80 } }).modCore 0 (fun c =>
    { c with owner := some 0, cfg := tset (fun _ => none) [] 7 slot, links := (List.range 4).map (fun i => (i, { Link.zero with inEpoch := some 0 })) })

/-- A schedule image with no program. -/
def sched : Bytes := leBytes 2 0x4C54 ++ leBytes 1 1 ++ List.replicate 61 0

theorem witness_ConfigurationSwitches :
    let s := cfgSt (some ⟨15, sched⟩)
    let f := ins 0 0 0 0 7
    let g := ins 4 0 0 0 0
    let b := s.modCore 0 (fun c => { c with stopped := true })
    issuesTo (.cfgsw 0 0 f) 0x80 f s (((s.atIssue 0 0 0x80 f).switchCore 0 7).setPc 0 0 15) = true ∧
      issuesTo (.cfgsw 0 0 f) 0x80 f b (waitsOn (b.atIssue 0 0 0x80 f) 0 0 0x80 f 0 0 0 false) = true ∧
      issuesTo (.cfgsw 0 0 f) 0x80 f (cfgSt none) (((cfgSt none).atIssue 0 0 0x80 f).endTask 0 0 0x09 0) = true ∧
      issuesTo (.cfgsw 0 0 0) 0x80 0 s ((s.atIssue 0 0 0x80 0).endTask 0 0 0x09 0) = true ∧
      issuesTo (.epoch 0 0 g) 0x82 g (s.modCore 0 (fun c => { c with epoch := 7, active := 3 }))
        (advance (((s.modCore 0 (fun c => { c with epoch := 7, active := 3 })).atIssue 0 0 0x82 g).modTask 0 0 (fun k => k.setG 4 0x37)) 0 0) = true := by
  decide +kernel

theorem witness_ConfigurationLoads :
    let h := blk [(2, 15), (2, 64)]
    let s := ((cfgSt none).withBytes 0 h).withBytes 64 sched
    let f := ins 0 1 0 0 7
    let u := s.atIssue 0 0 0x81 f
    let a := s.modCore 0 (fun c => { c with active := 7 })
    let e := s.withBytes 0 [16]
    let b := s.withBytes 64 [0]
    isOk (u.block 0 0 0 64) u h = true ∧ cfgEntryOk h 16 = true ∧ isOk (u.taskRead 0 0 64 64 .wide) u sched = true ∧
      u.schedOk 0 sched = true ∧
      issuesTo (.cfgld 0 0 f) 0x81 f s (advance (u.modCore 0 (fun c => { c with cfg := [(7, some ⟨15, sched⟩)] })) 0 0) = true ∧
      issuesTo (.cfgld 0 0 0) 0x81 0 s ((s.atIssue 0 0 0x81 0).endTask 0 0 0x09 0) = true ∧
      issuesTo (.cfgld 0 0 f) 0x81 f a (waitsOn (a.atIssue 0 0 0x81 f) 0 0 0x81 f 0 0 0 false) = true ∧
      issuesTo (.cfgld 0 0 f) 0x81 f e ((e.atIssue 0 0 0x81 f).endTask 0 0 0x09 0) = true ∧
      issuesTo (.cfgld 0 0 f) 0x81 f b (((b.atIssue 0 0 0x81 f).orReg (coreKey 0 rLAT_STATUS) (2 ^ 7)).endTask 0 0 0x09 0) = true := by
  decide +kernel

theorem witness_SwitchesRaiseTheEpoch :
    let s := (cfgSt none).modCore 0 (fun c => { c with epoch := 7 })
    let b := sched.set 3 0x88
    let m := s.modCore 0 (fun c => c.setLink 3 { Link.zero with inSched := some b, outSched := some b })
    marks ((s.core 0).link 3).inSched 3 = false ∧ (((s.switchCore 0 7).core 0).link 3).inEpoch = some 0 ∧
      marks ((m.core 0).link 3).inSched 3 = true ∧ (((m.switchCore 0 7).core 0).link 3).inEpoch = none ∧
      marks ((m.core 0).link 3).outSched 7 = true ∧ (((m.switchCore 0 7).core 0).link 3).pend ≠ [] := by
  decide +kernel

theorem witness_TokensArrive :
    let s := st (task [] [])
    let w : WireItem := ⟨7, 0, .data token⟩
    let x := { s with wires := [w] }
    let link (l : Link) (s : State) : State := s.modCore 0 (fun c => c.setLink 1 l)
    let full := link { Link.zero with queue := List.replicate 8 (.data token) } x
    let stop := x.modCore 0 (fun c => { c with stopped := true })
    let l0 := { Link.zero with inEpoch := some 0 }
    let m := link l0 { s with wires := [⟨7, 0, .marker 1 false⟩] }
    let odd := link l0 { s with wires := [⟨7, 0, .marker 2 false⟩] }
    s.arriving 0 1 = none ∧ x.arriving 0 1 = some w ∧ x.offWire w = s ∧ s.present 0 = true ∧
      gives (exec (.tokenArrive 0 .e 0 ()) x) (((link { Link.zero with queue := [.data token], hwm := 1, received := 1 } s).count
        (coreKey 0 (rLAT_CNTi + 8)) 31 0 1).event 0 0x0F 1) = true ∧
      gives (exec (.tokenArrive 0 .e 0 ()) full) full = true ∧
      gives (exec (.tokenArrive 0 .e 0 ()) stop) (({ stop with wires := [] }).discardToken 0 1) = true ∧
      gives (exec (.tokenArrive 0 .e 0 ()) m) (link { l0 with queue := [.marker 1 false], hwm := 1 } s) = true ∧
      odd.arriving 0 1 = some ⟨7, 0, .marker 2 false⟩ ∧ (x.setRow 0 { RowMap.initial with withheld := 1 }).present 0 = false := by
  decide +kernel

theorem witness_TokenCodesAreChecked :
    codeErrors 1 false = 1 ∧ codeErrors 1 true = 0 ∧ codeErrors 3 false = 2 ∧ codeErrors (1 <<< 571) true = 1 ∧ codeErrors 0 true = 0 := by
  decide +kernel

theorem witness_TokensMoveOn :
    let p : Stream := { stream with source := 2, started := true }
    let l : Link := { Link.zero with queue := [.data token], owed := some [0], inEpoch := some 0, received := 1 }
    let s := (st (task [] [])).modCore 0 (fun c => { c.setLink 1 l with streams := [p] })
    let q := s.modCore 0 (fun c => { c with streams := [] })
    let stop := s.modCore 0 (fun c => { c with stopped := true })
    let w : WireItem := ⟨29, 0, .data token⟩
    let b := { st (task [] []) with wires := [w] }
    (s.core 0).stopped = false ∧
      gives (exec (.tokenDispatch 0 (some .e)) s) ((s.deliver 0 1 1 token [0]).1.modCore 0 (fun c =>
        c.setLink 1 { c.link 1 with queue := [], owed := none })) = true ∧ (s.deliver 0 1 1 token [0]).2 = [] ∧
      (q.deliver 0 1 1 token [0]).2 = [0] ∧ gives (exec (.tokenDispatch 0 (some .e)) q) q = true ∧
      gives (exec (.tokenDispatch 0 none) stop) stop = true ∧
      s.bypassing 8 true = none ∧ b.bypassing 8 true = some w ∧ b.segFree 29 1 = true ∧
      ({ b with wires := List.replicate 40 ⟨29, 1, .data token⟩ } : State).segFree 29 1 = false ∧
      gives (exec (.bypassForward 8 true ()) b) { b with wires := [{ w with pos := 1 }] } = true := by
  decide +kernel

theorem witness_OutputRegistersHold :
    let s := st (task [] [])
    ((s.core 0).link 1).out = [] ∧ s.steered 1 = none ∧ s.segFree 1 0 = true ∧
      ({ s with wires := List.replicate 40 ⟨1, 0, .data token⟩ } : State).segFree 1 0 = false ∧ ({ s with steer := [(1, some [0, 1])] } : State).steered 1 ≠ none := by
  decide +kernel

theorem witness_MarkersReachOutputs :
    let x : OutSwitch := ⟨[1, 2], true, 3, none⟩
    let y : OutSwitch := ⟨[2], true, 2, none⟩
    (1 ∉ y.awaited) ∧ 1 ∈ x.awaited ∧ gotMarker 1 [y, x] = [y, { x with awaited := [2] }] := by
  decide

/-- A schedule whose select program of link N runs from the drain output once. -/
def drainSched : Bytes := sched.set 3 0x10 |>.set 22 1 |> fun b => b ++ leBytes 4 (4 * 2 ^ 25 + 1)

theorem witness_DrainTokensMoveOn :
    let l : Link := { Link.zero with outSched := some drainSched, outProg := Prog.start (Link.select { Link.zero with outSched := some drainSched } 1) }
    let x : DrainTok := ⟨5, 1, token, none⟩
    let sch := (drainSched.set 22 0).set 26 1
    let l := { l with outSched := some sch, outProg := Prog.start (Link.select { l with outSched := some sch } 1) }
    let s := (st (task [] [])).modCore 0 (fun c => { c.setLink 1 l with drainToks := [x] })
    s.nextDrainTok 0 = some x ∧
      gives (exec (.tokenDispatch 0 none) s) ((s.modCore 0 (fun c => { c with drainToks := [] })).sendOut 0 1 token (none, none)) = true := by
  decide +kernel

theorem witness_LinksSwitch :
    let s := (cfgSt none).modCore 0 (fun c => { c with epoch := 1 }.setLink 1 { Link.zero with queue := [.marker 1 false], inEpoch := some 0 })
    let x (send : Bool) (a : List Nat) : OutSwitch := ⟨a, send, 1, none⟩
    let o (y : OutSwitch) := (cfgSt none).modCore 0 (fun c => c.setLink 1 { Link.zero with pend := [y] })
    let e := (cfgSt none).modCore 0 (fun c => c.setLink 1 Link.zero)
    let w := { s with steer := [(1, some [0, 1]), (9, some [2, 3])] }
    let busy := { w with wires := [⟨1, 0, .data token⟩] }
    gives (exec (.inputLinkSwitch 0 .e) s) ((s.modCore 0 (fun c => c.setLink 1 { Link.zero with inEpoch := some 0 })).switchIn 0 1) = true ∧
      gives (exec (.outputLinkSwitch 0 .e) (o (x true []))) ((e.emit 0 1 (.marker 1 false)).switchOutTo 0 1 none) = true ∧
      gives (exec (.outputLinkSwitch 0 .e) (o (x false []))) (e.switchOutTo 0 1 none) = true ∧
      gives (exec (.outputLinkSwitch 0 .e) (o (x true [2]))) (o (x true [2])) = true ∧
      gives (exec (.outputLinkSwitch 0 .e) s) s = true ∧ w.routeBusy 0 1 = false ∧
      gives (exec (.routeSteerChange 0 .e) w) { s with steer := [(9, some [2, 3])] } = true ∧ busy.routeBusy 0 1 = true ∧
      gives (exec (.routeSteerChange 0 .e) busy) busy = true := by
  decide +kernel

theorem witness_SlackIsGranted :
    let s := st (task [] [])
    let key := coreKey 0 (rLAT_SLACKi + 8)
    Takes s .warden key (classOf key) ∧ gives (exec (.latSlackWrite .warden 0 .e 24) s) ((s.regWrite key 24).regrant 0 1) = true ∧
      gives (exec (.latSlackWrite .warden 0 .e 25) s) (s.orReg (coreKey 0 rLAT_STATUS) (2 ^ 5)) = true := by
  unfold Takes; decide +kernel

theorem witness_LatticeStops :
    let s := (st (task [] [])).modCore 0 (fun c => c.setLink 1 { Link.zero with queue := [.data token] })
    let key := coreKey 0 rLAT_CTRL
    let e := st (task [] [])
    let d := e.modCore 0 (fun c => { c with stopped := true })
    (s.setReg (coreKey 0 rLAT_STALLCFG) 1).regField (coreKey 0 rLAT_STALLCFG) 31 0 ≠ 0 ∧ s.latticeHolds 0 = true ∧
      e.latticeHolds 0 = false ∧ gives (exec (.latticeStall 0) e) e = true ∧
      Takes s .warden key (classOf key) ∧ gives (exec (.latStopSet .warden 0) s) ((s.setReg key 1).stopLattice 0) = true ∧
      Takes d .warden key (classOf key) ∧ gives (exec (.latStopSet .warden 0) d) d = true ∧
      gives (exec (.latticeDrained 0) d) (d.modCore 0 (fun c => { c with drained := true })) = true ∧
      gives (exec (.latStopClear .warden 0) d) ((d.setReg key 0).modCore 0 (fun c => { c with stopped := false })) = true := by
  unfold Takes; decide +kernel

theorem witness_SealLanes :
    let s := (st (task [] [])).modCore 1 (fun c => c.setLink 3 { Link.zero with outSeals := [(none, none)] })
    let u := s.advanceLane 1 3
    let r := (st (task [] [])).modCore 1 (fun c => c.setLink 3 { Link.zero with retract := true })
    let o := r.modCore 0 (fun c => { c with owner := some 0 })
    let v (r : State) : State := (r.retractLane 0 1 257).orReg (coreKey 0 rSEAL_STATUS) (2 ^ 11)
    neighbour 0 1 = some 1 ∧ ((u.core 1).link 3).outSc = 1 ∧
      gives (exec (.sealLaneUpdate 0 .e 0) s) u = true ∧ gives (exec (.sealLaneUpdate 0 .e 2) s) u = true ∧
      gives (exec (.sealLaneUpdate 0 .e 1) s) ((u.modCore 0 (fun c => c.setLink 1 { Link.zero with sc := 1 })).sealReady 0 257) = true ∧
      gives (exec (.laneRetract 0 .e) s) s = true ∧ gives (exec (.laneRetract 0 .e) r) (v r) = true ∧
      gives (exec (.laneRetract 0 .e) o) ((v o).freezeTask 0 0 .recovery) = true := by
  decide +kernel

/-! ## The life of a task -/

/-- An image of 256 B: one instruction, END, and its code region; the CRC of its header is the number given. -/
def imageOf (crc : Nat) : Bytes :=
  blk [(4, 0x4B53545A), (2, 1), (2, 0), (4, 256), (4, 192), (4, 1), (4, 64), (4, 128), (2, 1), (2, 0), (4, 0), (4, 0), (2, 0), (2, 0), (4, 0), (4, 0), (4, 0), (4, 0), (4, crc)] ++
    blk [] ++ blk [(4, 4096), (1, 2)] ++ blk []

/-- That image, with its CRC. -/
def image : Bytes := imageOf 0x350e5f37

/-- A machine whose hearth holds bytes at 0x10000. -/
def hearth (b : Bytes) (s : State) : State := { s with ram := twrite zeroByte s.ram 0x10000 b }

/-- A start of that image for job tag 0x2000001. -/
def start : StartReq := ⟨0x40000, 0x10000, 5, 0x2000001, 9⟩

theorem witness_StartsAreReserved :
    let image := imageOf 0
    let s := (hearth image (st (task [] []))).setJob 0x2000001 (some (job .reserving { jobTask with answer := none, slot := none }))
    let h := image.take 64
    let i := s.readInfo 0x10000 0x40000 h
    let bad := hearth (image.set 4 2) s
    let full := s.modCore 0 (fun k => { k with stopped := true } |>.setTask 1 { Task.zero with phase := .running, img := i })
    s.live 0 = true ∧ s.startsWait 0 = false ∧ s.ringRead 0x10000 64 = (some h, s) ∧ headerOk h = true ∧ s.refusals 0 i = [] ∧
      ((s.core 0).task 0).holds = true ∧ ((s.core 0).task 1).holds = false ∧
      gives (exec (.startReservation 0 start) s) ((s.modTask 0 1 (fun k => { k.last with
        reserved := true, img := i, arg := 5, tag := 0x2000001, number := 9, spadBase := 0x40000 })).answerStart 0 start 0 (some 1)) = true ∧
      headerOk (image.set 4 2 |>.take 64) = false ∧
      gives (exec (.startReservation 0 start) bad) (bad.answerStart 0 start 255 none) = true ∧
      full.refusals 0 i = [6] ∧ gives (exec (.startReservation 0 start) full)
        ((full.modCore 0 (fun k => { k with refusal := 6 })).answerStart 0 start 6 none) = true ∧
      gives (exec (.startReservation 8 start) s) s = true := by
  decide +kernel

theorem witness_ReservationsEnd :
    let j := job .reserving jobTask
    let s := (st (task [] [])).setTask 0 1 { Task.zero with reserved := true, tag := 0x2000001, number := 9 } |>.setJob 0x2000001 (some j)
    s.job 0x2000001 = some j ∧ j.cause = none ∧ (∀ x ∈ j.tasks, x.answer = some 0) ∧
      gives (exec (.startGo 0x2000001) s) ((s.setJob 0x2000001 (some { j with phase := .running })).modCore 0 (fun c => c.go 0x2000001)) = true ∧
      (((s.core 0).go 0x2000001).task 1).phase = .loading ∧ (s.task 0 0).reserved = false ∧
      gives (exec (.reservationCancel 0 1) s) ((s.setTask 0 1 (s.task 0 1).last).setJob 0x2000001
        (some { j with tasks := [{ jobTask with slot := none }] })) = true ∧
      gives (exec (.reservationCancel 0 0) s) s = true := by
  decide +kernel

theorem witness_TasksLoad :
    let k : Task := { Task.zero with phase := .loading, img := { ImageInfo.zero with addr := 0x10000, length := 256, codeLen := 1 } }
    let s := hearth image (st k)
    (s.task 0 0).phase = .loading ∧ s.live 0 = true ∧ (s.ringRead 0x10000 256).1 = some image ∧ imageOk image = true ∧
      imageOk (image.set 4 2) = false ∧ (({ s with badLines := [0x10040] }).ringRead 0x10000 256).1 = none := by
  unfold imageOk crc32; simp only [crcFrom_eq]; decide +kernel

theorem witness_TasksStartClean :
    let i : ImageInfo := { ImageInfo.zero with entry := 4 }
    let x := ({ task [(3, 9)] [(1, 2)] with arg := 77 } : Task).started 6 i
    x.pc = 4 ∧ x.greg 1 = 77 ∧ x.greg 2 = 6 ∧ x.greg 3 = 0 ∧ x.areg 1 = 0 ∧ x.phase = .running := by
  decide +kernel

theorem witness_TasksEndAndScrub :
    let s := st { task [] [] with phase := .draining, endCode := 0 }
    let z := (s.modCore 0 (fun k => { k with scrubs := [(0, 0x1000, 64), (1, 0x2000, 64)] })).withBytes 0 [1, 2]
    (s.core 0).outstanding 0 = false ∧ s.scanning 0 0 = false ∧
      ((s.modCore 0 (fun k => { k with dmas := [dma] })).core 0).outstanding 0 = true ∧
      gives (exec (.taskDrainComplete 0 0) (s.modCore 0 (fun k => { k with dmas := [dma] }))) (s.modCore 0 (fun k => { k with dmas := [dma] })) = true ∧
      (z.ram ≠ [] ∧ gives (exec (.scrubComplete 0 0) z) (s.modCore 0 (fun k => { k with scrubs := [(1, 0x2000, 64)] })) = true) ∧
      (st { task [] [] with phase := .draining, endCode := 2 } |>.task 0 0).endCode ≠ 0 := by
  decide +kernel

theorem witness_SlotsAreKilledAndHeld :
    let s := st { task [] [] with phase := .waiting, wait := some ⟨0x7C, 0, 0, 0, 0, true, 10⟩ }
    let key := coreKey 0 rSEQ_CTRL
    let h := s.setReg key (2 ^ 8)
    Takes s .warden key (classOf key) ∧ gives (exec (.seqHold .warden 0 1) s) ((s.holdSlot 0 0 true).setRegField key 11 8 1) = true ∧
      h.held 0 0 = true ∧ gives (exec (.addI 0 0 (ins 1 2 3 0 0)) h) h = true := by
  unfold Takes; decide +kernel

theorem witness_BankGroupsPower :
    let s := st { task [] [] with img := { (task [] []).img with regions := [⟨0, 0, 0, 64, false, none⟩] } }
    let key := coreKey 0 rSPAD_PWR
    let off := s.setReg key (setBit (s.reg key) 3 false)
    let on := s.setReg key (setBit (s.reg key) (16 + 3) false)
    Takes s .warden key (classOf key) ∧ bitOf (s.reg key) 0 = true ∧ s.groupBusy 0 0 = true ∧ s.groupBusy 0 3 = false ∧
      gives (exec (.spadPwrWrite .warden 0 0) s) (s.orReg (coreKey 0 rSPAD_STATUS) 2) = true ∧
      gives (exec (.spadPwrWrite .warden 0 (setBit (s.reg key) 3 false)) s) (s.regWrite key (setBit (s.reg key) 3 false)) = true ∧
      gives (exec (.groupPowerDown 0 3) off) ((off.setReg key (setBit (off.reg key) (16 + 3) false)).dropGroup 0 3) = true ∧
      gives (exec (.groupPowerUpReady 0 3) on) ((on.setReg key (setBit (on.reg key) (16 + 3) true)).dropGroup 0 3) = true ∧
      gives (exec (.groupPowerDown 0 12) off) off = true ∧ gives (exec (.groupPowerUpReady 0 4) on) on = true := by
  unfold Takes; decide +kernel

/-! ## Memory, checkpoints and recovery -/

theorem witness_MemoryReadsBack :
    let s := st (task [] [])
    let a := spadAddr 0 0x1000
    (∀ j < 2, s.mapByte (a + j) = none) ∧ s.writeBad a 2 = false ∧ (∀ j < 2, ∀ k < 2, s.phys (a + j) = s.phys (a + k) → j = k) ∧
      (s.store a [5, 0]).bytes a 2 = [5, 0] ∧ (s.store a [5, 0]).byte (a + 2) = s.byte (a + 2) := by
  decide +kernel

theorem witness_CheckpointsAreWritten :
    let f : InsnBits := ins 0 0 0 0 2
    let k : Task := { task [] [] with img := { (task [] []).img with embers := [⟨2, 3, 0, 0⟩] } }
    let s := st k
    let f1 : InsnBits := ins 0 0 0 1 2
    let w := st { k with phase := .waiting, wait := some ⟨0x7C, f, 2, 0, 0, false, 10⟩ }
    issuesTo (.ember 0 0 f) 0x7C f s (advance (s.atIssue 0 0 0x7C f) 0 0) = true ∧ (s.atIssue 0 0 0x7C f1).emberDue 0 0 f1 = true ∧
      (s.atIssue 0 0 0x7C f1).emberSeals 0 0 (k.img.carried 0 0) = 0 ∧
      issuesTo (.ember 0 0 f1) 0x7C f1 s (waitsOn (s.atIssue 0 0 0x7C f1) 0 0 0x7C f1 2 0 0 false) = true ∧
      (w.task 0 0).phase = .waiting ∧ (k.img.carried 0 0) = [] ∧
      gives (exec (.emberWriteComplete 0 0 true) s) s = true := by
  decide +kernel

/-! ## Recovery, the rings and the tier engine -/

theorem witness_JobsRecover :
    let j := job .running { jobTask with slot := some 0 }
    let k : Task := { task [] [] with phase := .suspended, freeze := some .recovery, tag := 0x2000001, number := 9 }
    let s := (st k).setJob 0x2000001 (some j) |>.setReg rSMD_EMBER (2 ^ 16 + 2 ^ 32)
    let r := (st k).setJob 0x2000001 (some { j with phase := .restored })
    s.job 0x2000001 = some j ∧ j.places = [(0, 0)] ∧ s.hasFrozen j = true ∧ s.awaitsMap 0 = false ∧ s.unrecoverable j = true ∧
      (st (task [] [])).hasFrozen j = false ∧
      gives (exec (.jobRecovery 0x2000001) r) r = true ∧ r.awaitsMap 0 = false ∧ r.live 0 = true ∧
      gives (exec (.recoveryResume 0x2000001) s) s = true := by
  decide +kernel

/-- A read is served at once. -/
def isNow : Serve → Bool
  | .now => true
  | _ => false

theorem witness_RingsServeMemory :
    let r := ringReq .dmaRead 0x40 64 []
    let w := ringReq .dmaWrite (peatBase + 0x40) 4 [1, 2, 3, 4]
    let s := pool (st (task [] []))
    let on (x : RingReq) (s : State) : State := s.arrived x.pkt
    let m := s.setMoving 2 true
    let v := s.access 0 ((on r s).tierOf r.pkt)
    let u := m.access 2 ((on w m).tierOf w.pkt)
    (on r s).here r.pkt = true ∧ (on r s).take r.pkt = s ∧ (on r s).ringTakes r.pkt false = true ∧ (on r s).memOk 0x40 64 = true ∧
      (on r s).repairHeld 0x40 64 = false ∧ (s.snooped 0x40 64 false) = (true, s) ∧ s.pool.nameOf 0x40 = some 0 ∧
      v.unusable 0x40 64 = false ∧ v.chanFailed (v.phys 0x40) = false ∧
      isNow (v.servePlan 512 [(0x40, 64)] ((on r s).destOf r.pkt) r.pkt []) = true ∧
      (on w m).ringTakes w.pkt true = true ∧ s.pool.nameOf (peatBase + 0x40) = some 2 ∧ u.unusable (peatBase + 0x40) 4 = false ∧
      u.chanFailed (u.phys (peatBase + 0x40)) = false ∧ u.moving 2 = true ∧ (v.moving 2) = false ∧
      gives (exec (.peatAccess w) (on w m)) (u.holdWrite 2 (.pkt w.pkt)) = true ∧ s.pool.nameOf 0x30000 = none := by
  decide +kernel

theorem witness_RingsMoveBytes :
    let s := pool (st (task [] []))
    (∀ g ∈ (s.countLines 0x40 64 false).linesOf 0x40 64, g ∉ (s.countLines 0x40 64 false).badLines ∧ (s.countLines 0x40 64 false).chanFailed g = false) ∧
      s.writeBad 0x40 64 = false := by
  decide +kernel

theorem witness_NoticedReadsAreServed :
    let p := (ringReq .dmaRead 0x30000 8 []).pkt
    let x : SealRead := ⟨4, p, [], []⟩
    let s := (st (task [] [])).setSeal 512 { SealUnit.zero with reads := [x] }
    let d : SealEnd := .dir 0 3
    let q : SealRead := ⟨4, request .dmaRead 2 [], [], []⟩
    let c := (st (task [] [])).setSeal 0 { SealUnit.zero with reads := [q] }
    unitOf d = some 512 ∧ s.popRead 512 4 = some (x, st (task [] [])) ∧ s.popRead 512 5 = none ∧
      gives (exec (.noticeAcknowledged d 5) s) s = true ∧ unitOf (.core 0) = some 0 ∧ c.popRead 0 4 = some (q, st (task [] [])) ∧
      (st (task [] [])).requestPieces 0 q.pkt = some [(0x1000, 2)] := by
  decide +kernel

theorem witness_HeatDecays :
    let s := (pool (st (task [] []))).setHeat 1 9
    twf mapIdentity s.tierMap = true ∧ bitOf (s.reg rTIER_STATUS) 9 = true ∧ s.nameDie 1 = 1 ∧ s.heat 1 = 9 := by
  decide +kernel

theorem witness_SwapsRun :
    let s := (pool (st (task [] []))).setReg rTIER_POLICY (2 ^ 63 + 2 ^ 32)
    let q := s.setAgent 0 { Agent.zero with promote := [2], victims := [1] }
    let w := s.setAgent 0 { Agent.zero with swap := some ⟨1, 2, false, true, []⟩ }
    bitOf (q.reg rTIER_POLICY) 63 = true ∧ q.inHearth 2 = false ∧ q.pinned 2 = false ∧ q.inHearth 1 = true ∧ q.mayMove 2 = true ∧ q.mayMove 1 = true ∧
      q.repairHeld (q.nameAddr 2) 64 = false ∧ q.computeReset = false ∧
      gives (exec (.swapStart 0 0) w) w = true ∧ gives (exec (.swapComplete ⟨0, []⟩) q) q = true ∧ w.frameBad 1 = false ∧ w.frameBad 2 = false := by
  decide +kernel

theorem witness_SwapsKeepTheBytesOfNames :
    let s := pool (st (task [] []))
    let p := s.pool
    s.memWf = true ∧ p.hbase + p.hsize ≤ p.pbase ∧ p.hsize % 65536 = 0 ∧ p.psize % 65536 = 0 ∧ p.names = 4 ∧
      (∀ i < 4, field (s.mapEntry i) 26 0 < p.names) ∧ (∀ i < 4, ∀ j < 4, field (s.mapEntry i) 26 0 = field (s.mapEntry j) 26 0 → i = j) ∧
      p.nameOf 0x10005 = some 1 ∧ s.mapByte 0x10005 = none := by
  decide +kernel

theorem witness_TierPolicies :
    let s := st (task [] [])
    let v : Word := 2 ^ 32 + 100 * 2 ^ 16 + 8 * 2 ^ 8 + 7
    Takes s .warden rTIER_POLICY (classOf rTIER_POLICY) ∧ gives (exec (.tierPolicyWrite .warden v) s) (s.regWrite rTIER_POLICY v) = true ∧
      gives (exec (.tierPolicyWrite .warden (v + 1)) s) (s.orReg rTIER_STATUS (2 ^ 8)) = true ∧
      gives (exec (.tierPolicyWrite .warden (v - 2 ^ 16)) s) (s.orReg rTIER_STATUS (2 ^ 8)) = true := by
  unfold Takes; decide +kernel

/-- A descriptor of one entry, its list at 0x50000, whose operation is op. -/
def desc (op : Nat) : TierDesc := ⟨0, 0, 3, blk [(1, op), (1, 0), (2, 1), (4, 0), (8, 0x50000)], [], false, 0, [], [], [], [], 0, 0, 0, [], false, []⟩

/-- The pool with that descriptor at agent 0, its list naming name 1. -/
def descSt (x : TierDesc) : State :=
  let s := (pool (st (task [] []))).setAgent 0 { Agent.zero with descs := [x] }
  { s with ram := twrite zeroByte s.ram 0x50000 (leBytes 8 0x10000) }

theorem witness_PrefetchDescriptors :
    let s := (pool (st (task [] [(2, 0x400)]))).withBytes 0x400 (blk [(1, 1), (1, 0), (2, 1)])
    let r := (pool (st (task [] [(2, 0x400)]))).withBytes 0x400 (blk [(1, 5)])
    let f : InsnBits := ins 0 2 0 0 0
    let u := s.atIssue 0 0 0x5A f
    let x : TierDesc := ⟨0, 0, 3, blk [(1, 1), (1, 0), (2, 1)], [], false, 0, [], [], [], [], 0, 0, 0, [], false, []⟩
    let d := { desc 0 with opened := true, marked := [1] }
    readsBlock s 0x5A f (blk [(1, 1), (1, 0), (2, 1)]) = true ∧ (s.task 0 0).wait = none ∧
      issuesTo (.tpref 0 0 f) 0x5A f s (advance (u.setAgent 0 { Agent.zero with descs := [x] }) 0 0) = true ∧
      readsBlock r 0x5A f (blk [(1, 5)]) = true ∧
      (descSt (desc 1)).descReady (desc 1) [] = (true, descSt (desc 1)) ∧ (descSt (desc 1)).readList (desc 1) [] = (0, [(0x10000, 0, 0)], descSt (desc 1)) ∧ (descSt (desc 1)).oldestDesc 0 1 = some (0, desc 1) ∧
      gives (exec (.cool ⟨0, []⟩) (descSt (desc 1))) (((descSt (desc 1)).actOn State.coolName 1).endDesc 0 0 (desc 1)) = true ∧
      gives (exec (.pin ⟨0, []⟩) (descSt (desc 2))) (((descSt (desc 2)).actOn State.pinName 1).endDesc 0 0 (desc 2)) = true ∧
      gives (exec (.unpin ⟨0, []⟩) (descSt (desc 3))) (((descSt (desc 3)).actOn State.unpinName 1).endDesc 0 0 (desc 3)) = true ∧
      gives (exec (.prefetch ⟨0, []⟩) (descSt (desc 0))) (((descSt (desc 0)).actOn State.prefetchName 1).endDesc 0 0 { desc 0 with opened := true }) = true ∧
      (descSt d).promoting 1 = false ∧ gives (exec (.prefetch ⟨0, []⟩) (descSt d)) ((descSt d).endDesc 0 0 { d with dropped := 0 }) = true := by
  decide +kernel

theorem witness_NamesAreCooledAndPinned :
    let s := (pool (st (task [] []))).setHeat 1 9
    s.moving 1 = false ∧ (s.coolName 1).heat 1 = 0 ∧ (s.pinName 1).pinned 1 = true ∧ (s.pinName 1).heat 1 = 9 ∧
      1 ∉ s.tier.enginePins ∧ ((s.pinName 1).unpinName 1).pinned 1 = false := by
  decide +kernel

theorem witness_StacksAndChannelsReport :
    let s := pool (st (task [] []))
    let key := stackKey 0 rHTH_Ss_STATE
    let u (t : Nat) := s.setReg key (setBit (setField (s.reg key) 31 24 t) 3 (decide (85 < t)))
    let c := s.setReg (chanKey 0 rPEAT_Cc_SCRUB) 1
    let p := s.setReg (chanKey 0 rPEAT_Cc_PPR) (2 ^ 62)
    gives (exec (.hbmTempReport 0 85 ⟨false, 0, 0⟩) s) (u 85) = true ∧ gives (exec (.hbmTempReport 0 86 ⟨false, 0, 0⟩) s) (u 86) = true ∧
      (c.regField (chanKey 0 rPEAT_Cc_SCRUB) 15 0 ≠ 0 ∧ 0 ∈ c.pool.chans ∧ c.badLines = []) ∧
      gives (exec (.pprComplete 0 false) p) (s.setReg (chanKey 0 rPEAT_Cc_PPR) (2 ^ 61 + 2 ^ 60)) = true ∧
      gives (exec (.pprComplete 0 true) s) s = true ∧
      gives (exec (.peatChannelFailure 0) s) { s with tier := { s.tier with failed := [0] } } = true ∧
      gives (exec (.peatChannelFailure 1) s) s = true := by
  decide +kernel

/-! ## The mesh and the span fabric -/

/-- A flit of one part, with no data and its CRC. -/
def flit : Flit := ⟨0, 3, 0, false, 0xc30294e2⟩

theorem witness_FlitChecksFindSingleErrors : flitOk flit = true ∧ 2084 < 2085 := by
  unfold flitOk flitCrc; simp only [crcFrom_eq]; decide +kernel

theorem witness_FlitsArrive :
    let s := st (task [] [])
    let w : FlitWire := ⟨0, portNo .e, flit⟩
    let x := { s with flits := [w] }
    let d := x.modRouter 0 (fun r => { r with drop := [(portNo .e * 4, true)], kill := [(portNo .e * 4, true)] })
    x.nextFlit 0 (portNo .e) = some w ∧ s.nextFlit 0 (portNo .e) = none ∧ gives (exec (.flitArrive 0 .e 0) s) s = true ∧
      (s.slot 0).routerOn = true ∧ isHead flit = true ∧ isTail flit = true ∧ tget (fun _ => false) (x.router 0).drop (portNo .e * 4) = false ∧
      tget (fun _ => false) (d.router 0).drop (portNo .e * 4) = true ∧ isHead { flit with kind := 1 } = false ∧
      ((s.modSlot 0 (fun q => { q with routerOn := false })).slot 0).routerOn = false ∧
      gives (exec (.escapeFallback 0 .e) (s.modSlot 0 (fun q => { q with routerOn := false }))) (s.modSlot 0 (fun q => { q with routerOn := false })) = true := by
  decide +kernel

theorem witness_MeshRegisterWrites :
    let s := st (task [] [])
    let d := s.setReg (dieKey 1 rMESH_ESCIDX) (143 + 575 * 2 ^ 16)
    let b := s.setReg (dieKey 1 rMESH_ESCIDX) 144
    let key := s.slotPage 0 (rMESH_PORTp + 8 * portNo .e)
    let u := s.setReg key (setBit (s.reg key) 62 true)
    let at_ := coreKey 0 (rMESH_PORTp + 8 * portNo .e)
    let seam := dieKey 1 rMESH_SEAMj_RPR
    Takes d .warden (dieKey 1 rMESH_ESCDATA) (classOf (dieKey 1 rMESH_ESCDATA)) ∧
      gives (exec (.escdataWrite .warden 1 6) d) d = true ∧ gives (exec (.escdataWrite .warden 1 5) b) b = true ∧
      s.slotOf 0 = some 0 ∧ Takes s .warden at_ (classOf at_) ∧ bitOf (s.reg key) 62 = false ∧
      gives (exec (.markDownWrite .warden 0 .e (2 ^ 62)) s) (u.orReg (u.slotPage 0 rMESH_STATUS) 8) = true ∧
      gives (exec (.markDownWrite .warden 0 .e 0) u) (u.setReg key (setBit (u.reg key) 62 false)) = true ∧
      Takes s .warden seam (classOf seam) ∧
      gives (exec (.seamRprWrite .warden 1 0 (2 ^ 31 + 3071 * 2 ^ 8 + 2)) s) ((s.setReg seam (3071 * 2 ^ 8 + 2)).setSeamWire 1 0 2 3071) = true ∧
      gives (exec (.seamRprWrite .warden 1 0 (2 ^ 31 + 3072 * 2 ^ 8 + 2)) s) (s.setReg seam (3072 * 2 ^ 8 + 2)) = true := by
  unfold Takes; decide +kernel

/-- A machine whose span port 0 is enabled and in a state, with a mode and medium. -/
def portSt (state cfg : Nat) : State :=
  ((st (task [] [])).setReg (portKey 0 rRTL_Pp_CFG) (BitVec.ofNat 64 cfg)).setReg (portKey 0 rRTL_Pp_STATE) (BitVec.ofNat 64 (0xF0000 + state))

theorem witness_PortsChangeState :
    let cfg := portKey 0 rRTL_Pp_CFG
    let s := portSt 1 1
    let u := portSt 2 (2 ^ 48 + 1)
    let o := portSt 0 0
    let f (k : Nat) := (u.count (portKey 0 rRTL_Pp_FEC) 31 0 9).count (portKey 0 rRTL_Pp_FEC) 63 32 k
    Takes s .warden cfg (classOf cfg) ∧ gives (exec (.rtlCfgWrite .warden 0 3) s) (s.rtlStat 0 5) = true ∧
      gives (exec (.rtlCfgWrite .warden 0 (2 ^ 48 + 1)) s) (s.regWrite cfg (2 ^ 48 + 1)) = true ∧
      gives (exec (.rtlCfgWrite .warden 0 0) s) ((s.regWrite cfg 0).portOff 0 0) = true ∧
      Takes o .warden cfg (classOf cfg) ∧ gives (exec (.rtlCfgWrite .warden 0 1) o) ((o.regWrite cfg 1).portOff 0 1) = true ∧
      s.portState 0 = 1 ∧ gives (exec (.portTrainingComplete 0 15) s) (s.clearTx.trained 0 15) = true ∧ u.portState 0 ≠ 1 ∧
      u.portUp 0 = true ∧ gives (exec (.portUcwCheck 0 9 1) u) (f 1) = true ∧ s.portUp 0 = false := by
  unfold Takes; decide +kernel

/-- A span packet to device 0 from device 5: a read of 64 B. -/
def spkt : SpanPkt := { spanPkt 5 0 .read false false .ok 9 64 0 [] with session := 1 }

theorem witness_LinksExchangeFrames :
    let s := portSt 2 257
    let d := portSt 0 257
    let late (s : State) : State := { s with time := 2 ^ 72 }
    let v := { Vc.zero with flying := [⟨3, 0⟩, ⟨5, 9⟩], sent := 8 }
    let x := s.setPort 0 { SpanPort.zero with req := v }
    let w := (late s).setPort 0 { SpanPort.zero with req := { Vc.zero with queue := [⟨1, spanWire spkt, 2 ^ 40⟩, ⟨1, spanWire spkt, 0⟩] } }
    s.directUp 0 = true ∧ bitOf (s.reg (portKey 0 rRTL_Pp_CFG)) 8 = true ∧
      gives (exec (.timeFrame 0 1 2 3) s) ((s.countFrame 0 false).timeFrame 0 1 2 3) = true ∧
      gives (exec (.linkFrame 0 5 0 0 0 0) s) ((s.clearTx.countFrame 0 false).linkFrame 0 5 0 0 0 0) = true ∧
      d.directUp 0 = false ∧ gives (exec (.linkFrameSend 0) d) d = true ∧ gives (exec (.timeFrameSend 0) d) d = true ∧
      gives (exec (.frameVanished 0 false) s) s = true ∧ gives (exec (.frameVanished 0 false) x) x = true ∧
      gives (exec (.frameVanished 0 false) (late x)) ((((late s).setPort 0 { SpanPort.zero with req := { Vc.zero with flying := [⟨5, 9⟩], sent := 5 } }).count
        (portKey 0 rRTL_Pp_DROP) 63 48 1).pumpPort 0) = true ∧
      0 + 1000 * w.regField rSPAN_CTRL2 63 32 < w.ns ∧ ¬(w.ns + 2 ^ 41 + 1000 * w.regField rSPAN_CTRL2 63 32 < w.ns) ∧
      gives (exec (.transitTimeout 0 false) s) s = true := by
  decide +kernel

theorem witness_DirectFramesReadBack : crcHolds (directOctets 1 true 3 [1, 2]) = true ∧ (1 < 16 ∧ 3 < 256) := by decide +kernel

/-- An Ethernet frame of a type with a body. -/
def frame (t : Nat) (b : Bytes) : Bytes :=
  let o := List.replicate 12 0 ++ [BitVec.ofNat 8 (t / 256), BitVec.ofNat 8 t] ++ b
  o ++ leBytes 4 (crc32 o).toNat

theorem witness_FramesAreReceived :
    let s := portSt 2 1
    let e := portSt 2 3
    let far := { spkt with dstDev := 7 }
    let o (k : Nat) (b : Bytes) := directOctets k false 3 b
    s.directUp 0 = true ∧ s.devNum = 0 ∧ 11 ≤ (o 0 (spanWire spkt)).length ∧ crcHolds (o 0 (spanWire spkt)) = true ∧
      crcHolds ((o 0 (spanWire spkt)).set 0 7) = false ∧ dataBodyOk (spanWire spkt) = true ∧ (spanOf (spanWire spkt)).dstDev = 0 ∧
      (spanOf (spanWire far)).dstDev = 7 ∧ crcHolds (o 1 (List.replicate 32 0)) = true ∧ crcHolds (o 3 []) = true ∧
      gives (exec (.directFrameReceive 0 (o 1 (List.replicate 32 0)) ()) s) ((s.clearTx.countFrame 0 false).linkFrame 0 0 0 0 0 0) = true ∧
      gives (exec (.directFrameReceive 0 (o 2 (List.replicate 32 0)) ()) s) ((s.clearTx.countFrame 0 false).timeFrame 0 0 0 0) = true ∧
      gives (exec (.directFrameReceive 0 (o 0 []) ()) e) e = true ∧ e.portUp 0 = true ∧ e.ethMode 0 = true ∧
      crcHolds (frame 0x88F7 []) = true ∧ (etherParts (frame 0x88F7 [])).1 = 0x88F7 ∧ (etherParts (frame 0x1234 [])).1 = 0x1234 ∧
      gives (exec (.ethernetFrameReceive 0 (.frame (frame 0x88F7 [])) ()) e) ((e.countFrame 0 false).setReg (portKey 0 rRTL_Pp_TSRX) e.stamp) = true ∧
      gives (exec (.ethernetFrameReceive 0 (.frame (frame 0x88F7 [])) ()) s) s = true := by
  decide +kernel

/-- Device 5 is ACTIVE through port 0, which is UP in DIRECT mode, with a send context. -/
def peerSt : State :=
  let s := (portSt 2 1).setReg (rSPAN_ROUTEd + 40) (2 ^ 63 + 2 ^ 50 + 2 ^ 38)
  { s with span := { s.span with sends := [⟨5, false, 1, 7, 0⟩] } }

/-- A read of 8 B at device 5, at the ring of die 1. -/
def farRead : Packet := { request .dmaRead 8 [] with dst := .ring 1, addr := 5 * 2 ^ 48 + 0x40 }

theorem witness_SpanRequestsLeave :
    let s := peerSt.arrived farRead
    let pieces := splitRequest 0 5 farRead 0 3 2
    let gone := s.setReg (rSPAN_ROUTEd + 40) 0
    let down := s.setReg (portKey 0 rRTL_Pp_STATE) 0
    let r : Packet := { farRead with type := .readData, tag := 4 }
    let w := { peerSt with span := { peerSt.span with ins := [⟨4, spkt, 0⟩] } }
    s.here farRead = true ∧ s.devNum = 0 ∧ isRequest farRead.type = true ∧ s.isRemote false farRead.addr = true ∧
      s.span.ops.countP (fun o => decide (o.die = 1)) < 4096 ∧ s.routeState 5 = 2 ∧ s.portsFor 5 false = [0] ∧ s.mayProtect 5 1 = true ∧
      (splitRequest 0 5 farRead 0 3 2).length = 1 ∧ (s.numbered 5 false pieces).isSome = true ∧ gone.routeState 5 = 0 ∧ down.portsFor 5 false = [] ∧
      isRequest r.type = false ∧ (w.arrived r).here r = true ∧ w.span.ins.find? (fun i => decide (i.tag = r.tag)) = some ⟨4, spkt, 0⟩ := by
  decide +kernel

theorem witness_PacketsAreNumbered :
    let ps := [spkt, spkt]
    peerSt.sendCtx 5 false = some ⟨5, false, 1, 7, 0⟩ ∧ (peerSt.numbered 5 false ps).isSome = true := by
  decide +kernel

/-- Device 5's reorder context holds packets and FENCE packets. -/
def recvSt (held : List SpanPkt) (fences : List FenceWait) (expect : BitVec 32) : State :=
  let s := peerSt
  { s with span := { s.span with recvs := [⟨5, false, 1, expect, held, 0, 0, fences⟩] } }

theorem witness_SpanPacketsReadBack : spanOf (spanWire spkt) = spkt ∧ spkt.resv = false ∧ spkt.len < 2 ^ 16 := by decide +kernel

theorem witness_SpanPacketsArrive :
    let b := spanWire spkt
    let s := recvSt [] [] 0
    let far := { spkt with dstDev := 7 }
    let prot := s.setReg (rSPAN_ROUTEd + 40) (2 ^ 63 + 2 ^ 50 + 2 ^ 21)
    let at_ (b : Bytes) : State := s.setPort 0 { SpanPort.zero with rx := [⟨false, 1, b⟩] }
    gives (exec (.spanPacketArrive (spanWire far)) s) s = true ∧ gives (exec (.spanPacketArrive b) s) s = true ∧ homeOf b / 3 = 0 ∧
      ((at_ b).clearTx.freeLost.takeFrame b).isSome = ((List.range 12).any (fun i => decide (i / 3 = homeOf b) && decide (i = 0))) ∧
      spanWellMade { spkt with resv := true } = false ∧ spanWellMade (spanOf b) = true ∧ s.authenticate spkt = some (spkt, true, s) ∧
      (prot.authenticate spkt).isNone = true := by
  decide +kernel

theorem witness_PacketsKeepTheirOrder :
    let c : RecvCtx := ⟨5, false, 1, 7, [], 0, 0, []⟩
    let p (k : BitVec 32) := { spkt with seq := k }
    let s := recvSt [] [] 7
    let room (s : State) := c.held.length < s.regField rSPAN_CTRL 15 0
    ((p 7).seq - c.expect).toNat = 0 ∧ ((p 8).seq - c.expect).toNat = 1 ∧ room s ∧ ((p 4103).seq - c.expect).toNat = 4096 ∧
      2 ^ 31 ≤ ((p 6).seq - c.expect).toNat ∧
      s.placeInOrder (p 8) c = s.modRecv 5 false (fun x => { x with held := [p 8], moved := s.ns, since := s.ns }) ∧
      s.placeInOrder (p 6) c = (s.modRecv 5 false (fun x => { x with since := s.ns })).spanLate := by
  decide +kernel

theorem witness_ContextsGoAndReleaseFences :
    let p := { spkt with seq := 9 }
    let s := recvSt [p] [] 7
    let t := { s with time := 2 ^ 72 }
    let e := recvSt [] [] 7
    let old := { e with time := 2 ^ 72 }
    let pk := (ringReq .dmaRead 0x30000 8 []).pkt
    let f := recvSt [] [⟨pk, [4]⟩] 7
    let w := { f with span := { f.span with ins := [⟨4, spkt, 0⟩] } }
    s.recvCtx 5 false = some ⟨5, false, 1, 7, [p], 0, 0, []⟩ ∧ gives (exec (.reorderGapExpire 5 false) e) e = true ∧
      s.ns < 1000 * s.regField rSPAN_CTRL 31 16 ∧ gives (exec (.reorderGapExpire 5 false) s) s = true ∧
      1000 * t.regField rSPAN_CTRL 31 16 ≤ t.ns ∧
      gives (exec (.reorderContextEvict 5 false) old) { old with span := { old.span with recvs := [] } } = true ∧
      gives (exec (.reorderContextEvict 5 false) t) t = true ∧ f.span.ins = [] ∧
      gives (exec (.spanFenceRelease 5 false) w) w = true ∧ gives (exec (.sendContextEvict 5 false) s) s = true ∧
      gives (exec (.sendContextEvict 5 false) old) { old with span := { old.span with sends := [] } }.sendOwed = true := by
  decide +kernel

theorem witness_SpanOperationsEnd :
    let o : SpanOp := ⟨1, 6, farRead, 5, 1, 0, [], .ok, [], 0⟩
    let s (o : SpanOp) : State := { peerSt with span := { peerSt.span with ops := [o] } }
    let done := { o with got := 1, parts := [(0, [1, 2])] }
    let t := { s o with time := 2 ^ 72 }
    (s done).span.ops.find? (fun o => decide (o.tag = 6)) = some done ∧ done.pieces ≤ done.got ∧ farRead.type ≠ .message ∧
      gives (exec (.spanOpComplete 6) (s o)) (s o) = true ∧ 1000 * t.regField rSPAN_CTRL 63 32 ≤ t.ns ∧
      gives (exec (.spanOpTimeout 6) t) (((({ peerSt with time := 2 ^ 72 }).count rSPAN_CNT4 15 0 1).spanStat 9).dieEvent 1 0x0E 0 1) = true ∧
      gives (exec (.spanOpTimeout 6) (s o)) (s o) = true := by
  decide +kernel

theorem witness_SpanRegisterWrites :
    let s := peerSt
    let ctrl := rSPAN_WINw_CTRL + 32 * 2
    let base := rSPAN_WINw_BASE + 32 * 2
    let on := s.setReg ctrl (2 ^ 63)
    let room := s.setReg (rSPAN_WINw_LIMIT + 64) 64
    let route := rSPAN_ROUTEd + 40
    let gone := { (s.regWrite route 0) with span := { s.span with sends := [] } }
    Takes s .warden base (classOf base) ∧ gives (exec (.spanWindowWrite .warden 2 0 64) s) (s.regWrite base 64) = true ∧
      Takes on .warden base (classOf base) ∧ gives (exec (.spanWindowWrite .warden 2 0 64) on) (on.spanStat 10) = true ∧
      Takes s .warden ctrl (classOf ctrl) ∧ gives (exec (.spanWindowWrite .warden 2 2 (2 ^ 63)) s) (s.spanStat 10) = true ∧
      Takes room .warden ctrl (classOf ctrl) ∧
      gives (exec (.spanWindowWrite .warden 2 2 (2 ^ 63)) room) ((room.regWrite ctrl (2 ^ 63)).setRegField ctrl 45 30 1) = true ∧
      Takes s .warden route (classOf route) ∧ gives (exec (.routeEntryWrite .warden 5 (2 ^ 63)) s) (s.regWrite route (2 ^ 63)) = true ∧
      gives (exec (.routeEntryWrite .warden 5 0) s) gone = true ∧ Takes s .warden rSPAN_CTRL (classOf rSPAN_CTRL) ∧
      spanCtrlOk 0 (s.reg rSPAN_CTRL) = true ∧ spanCtrlOk 0 0 = false ∧ gives (exec (.spanCtrlWrite .warden 0 0) s) (s.spanStat 10) = true := by
  unfold Takes; decide +kernel

theorem witness_LinkKeysAreWritten :
    let s := st (task [] [])
    let u := s.setReg rSPAN_KEYIDX 1
    let c := s.setReg rSPAN_KEYIDX (1 + 2 ^ 10)
    Takes s .warden rSPAN_KEYIDX (classOf rSPAN_KEYIDX) ∧ gives (exec (.txphaseWrite .warden 1) s) u = true ∧
      gives (exec (.keyCommit .warden (1 + 2 ^ 18)) s) (u.setSpanKey 4 { SpanKey.zero with valid := true }) = true ∧
      gives (exec (.keyClear .warden (1 + 2 ^ 19)) s) u = true ∧ gives (exec (.txphaseWrite .warden 0) s) s = true ∧
      Takes u .warden rSPAN_KEYDATA (classOf rSPAN_KEYDATA) ∧
      gives (exec (.keydataWrite .warden 9) u) (u.setSpanKey 4 { SpanKey.zero with key := 9 }) = true ∧
      gives (exec (.keydataWrite .warden 9) c) (c.setSpanKey 4 { SpanKey.zero with key := 9 * 2 ^ 64 }) = true ∧
      gives (exec (.keydataWrite .warden 9) s) s = true := by
  unfold Takes; decide +kernel

/-! ## The host port, rings and jobs -/

theorem witness_HostLinkChanges :
    let s := hostSt
    let p := { s with port := { s.port with perst := true, up := false } }
    let t := { s with port := { s.port with up := false }, boot := { s.boot with training := true } }
    let u := t.setReg rCXL_HSTAT (setField (t.reg rCXL_HSTAT) 18 8 (5 * 2 ^ 6 + 16))
    let c := (s.setReg rCXL_HSTAT (setField (setField (s.reg rCXL_HSTAT) 22 20 0) 18 8 0)).dropRings
    s.powered = true ∧ gives (exec .perstAssert s) { c with
        port := { c.port with up := false, perst := true }, boot := { c.boot with training := false, perst := c.stage0 } } = true ∧
      gives (exec .perstAssert p) p = true ∧ p.boot.perst = false ∧
      gives (exec .perstDeassert p) { p with port := { p.port with perst := false } } = true ∧
      gives (exec .linkDown s) { s with port := { s.port with up := false } } = true ∧ gives (exec .linkDown p) p = true ∧
      gives (exec (.cxlLinkUp 5 16 0) t) { u with port := { u.port with up := true } } = true ∧
      gives (exec (.cxlLinkUp 5 16 0) s) s = true ∧ gives (exec .perstDeassert s) s = true ∧ s.stage0 = true ∧
      gives (exec .cxlReset { s with boot := { s.boot with stage0 := false } }) { s with boot := { s.boot with stage0 := false } } = true := by
  decide +kernel

/-- A command in the mailbox, of len payload bytes. -/
def posted (s : State) (opc len : Nat) : State := s.setReg rCXL_MBCMD (BitVec.ofNat 64 (2 ^ 63 + len * 2 ^ 16 + opc))

theorem witness_MailboxCommandsComplete :
    let s := hostSt
    let i := posted s 0x01 0
    let early := (posted s 0x10 0).setReg rBOOT_STAGE 0
    let rst := (posted s 0x21 0).setReg rMGT_CTRL 0
    i.stage0 = true ∧ bitOf (i.reg rCXL_MBCMD) 63 = true ∧ field (i.reg rCXL_MBCMD) 15 0 = 0x01 ∧
      gives (exec .identify (posted s 0x01 8)) ((posted s 0x01 8).mboxDone 3 []) = true ∧
      gives (exec .getState (posted s 0x02 0)) ((posted s 0x02 0).mboxDone 0 (posted s 0x02 0).bringUpState) = true ∧
      gives (exec .getLayout early) (early.mboxDone 2 []) = true ∧
      (bitOf ((posted s 0x10 0).reg rWDN_STATUS) 11 = false ∧ s.wdn.restarting = false) ∧
      gives (exec .getLogPtr (posted s 0x11 0)) ((posted s 0x11 0).mboxDone 0 (posted s 0x11 0).logPtr) = true ∧
      gives (exec .reqModuleReset rst) (rst.mboxDone 4 []) = true ∧
      gives (exec .reqComputeReset (posted s 0x20 4)) ((posted s 0x20 4).mboxDone 3 []) = true ∧ gives (exec .identify s) s = true := by
  decide +kernel

theorem witness_HostMemoryRequests :
    let s := hostSt
    let off := s.setReg rCXL_HSTAT 0
    let b : Bytes := List.replicate 64 0
    let g := s.grantLine 0x1000
    s.port.up = true ∧ gives (exec (.cxlmemRequest 0x103F ⟨(.write [1, 2]), []⟩) s) s = true ∧ dpaIn s.exposed 0x1000 = some 0x1000 ∧ s.pool.nameOf 0x1000 = none ∧
      dpaIn s.exposed (2 ^ 28 - 64) = some (2 ^ 28 - 64) ∧ dpaIn s.exposed (2 ^ 28) = none ∧ s.repairHeld 0x1000 64 = false ∧
      s.unusable 0x1000 64 = false ∧ s.chanFailed (s.phys 0x1000) = false ∧
      gives (exec (.cxlmemRequest 0x1000 ⟨.readNoCache, []⟩) off) { off with port := { off.port with ans := .poison } } = true ∧
      gives (exec (.cxlmemRequest (2 ^ 28) ⟨.readNoCache, []⟩) s) (s.memAnswer .poison) = true ∧
      gives (exec (.cxlmemRequest 0x1004 ⟨(.write [1, 2]), []⟩) s) ((((s.countLines 0x1000 64 true).store 0x1004 [1, 2]).markLine 0x1000).memAnswer .done) = true ∧
      gives (exec (.cxlmemRequest 0x1000 ⟨.readNoCache, []⟩) s) ((s.countLines 0x1000 64 false).memAnswer (.data b)) = true ∧
      s.filterRoom 0x1000 = (true, s) ∧ (g.countLines 0x1000 64 false).lineRead 0x1000 64 = (some b, g.countLines 0x1000 64 false) ∧
      gives (exec (.cxlmemRequest 0x1000 ⟨.readOwn, []⟩) s) ((g.countLines 0x1000 64 false).memAnswer (.data b)) = true := by
  decide +kernel

theorem witness_FilterSetsHoldSixteen : hostSt.port.lines = [] ∧ hostSt.filterRoom 0x1000 = (true, hostSt) := by decide +kernel

theorem witness_SnoopsEnd :
    let s (x : Option (Bool × Bool)) : State := { hostSt with port := { hostSt.port with lines := [⟨0x1000, x, 0⟩] } }
    let b : Bytes := List.replicate 64 7
    let v := (s (some (true, false))).store 0x1000 b
    let ide := hostSt.setReg rCXL_HSTAT (2 ^ 21)
    let late := { s (some (true, false)) with time := 2 ^ 72 }
    dpaIn hostSt.exposed 0x1000 = some 0x1000 ∧ gives (exec (.bisnpResponse 0x1000 none) (s (some (true, false)))) hostSt = true ∧
      gives (exec (.bisnpResponse 0x1000 (some b)) (s (some (true, false)))) { v with port := { v.port with lines := [] } } = true ∧
      gives (exec (.bisnpResponse 0x1000 none) (s (some (false, false)))) (s (some (false, true))) = true ∧
      gives (exec (.bisnpSlow 0x1000) hostSt) hostSt = true ∧ (∀ l ∈ late.port.lines, l.line = 0x1000 ∧ l.waits = true ∧ l.since + 100000 < late.ns) ∧ bitOf (ide.reg rCXL_HSTAT) (20 + 1) = true ∧ bitOf (ide.reg rCXL_HSTAT) 20 = false ∧
      gives (exec (.ideIntegrityFailure 0) ide) ide = true := by
  decide +kernel

/-- Ring 0 in host memory, ON with 2 descriptors ahead and room for 4 records. -/
def ringSt (x : Ring) (js : List Job) : State :=
  let s := (hostSt.setReg (ringKey 0 rCXL_RINGr_CFG) (1 + 4 * 2 ^ 4 + 4 * 2 ^ 4)).setRing 0 x
  js.foldl (fun s j => s.setJob j.tag (some j)) s

/-- That ring. -/
def ring : Ring := ⟨.on, 0, 2, 0, 0, 0, false, false⟩

theorem witness_RingsAreEnabled :
    let key := ringKey 0 rCXL_RINGr_CFG
    let s := hostSt
    let d := hostSt.setRing 0 { ring with phase := .draining }
    let on := ringSt ring []
    let busy := ringSt ring [job .running jobTask]
    Takes s .warden key (classOf key) ∧ gives (exec (.ringEnable .warden 0 1) s) (s.ringCfgWrite 0 1) = true ∧
      gives (exec (.ringDisable .warden 0 0) on) (on.ringCfgWrite 0 0) = true ∧ (s.ring 0).phase = .off ∧ bitOf (s.reg key) 0 = false ∧
      (s.ringCfgWrite 0 1).ring 0 = { Ring.zero with phase := .on } ∧ (d.ring 0).phase ≠ .off ∧ bitOf ((d.ringCfgWrite 0 1).reg key) 0 = false ∧
      bitOf (on.reg key) 0 = true ∧ on.ringJobs 0 = [] ∧ ((on.ringCfgWrite 0 0).ring 0).phase = .off ∧
      busy.ringJobs 0 ≠ [] ∧ ((busy.ringCfgWrite 0 0).ring 0).phase = .draining := by
  unfold Takes; decide +kernel

theorem witness_RingsFetch :
    let s := ringSt ring []
    let c := ringSt { ring with cached := true } []
    let n := ringSt { ring with pi := 0 } []
    let down := { s with port := { s.port with up := false }, time := 2 ^ 72 }
    let near := s.setReg (ringKey 0 rCXL_RINGr_CFG) (s.reg (ringKey 0 rCXL_RINGr_CFG) + 2)
    let b := blk [(4, 3)]
    let d := blk [(1, 0)] ++ blk []
    s.ringLocal 0 = false ∧ s.ringRuns 0 = true ∧ s.port.up = true ∧ s.mayFetch 0 = true ∧
      gives (exec (.producerLineWrite 0 b) c) s = true ∧ gives (exec (.ringPoll 0 (some b)) s) (c.takeLine 0 b) = true ∧
      gives (exec (.ringPoll 0 none) s) (s.ringFault 0 3) = true ∧ gives (exec (.ringPoll 0 (some b)) c) c = true ∧
      gives (exec (.descriptorFetch 0 (some d)) s) (s.newJob 0 d) = true ∧ gives (exec (.descriptorFetch 0 none) s) (s.ringFault 0 3) = true ∧
      near.ringLocal 0 = true ∧ near.ringRuns 0 = true ∧ near.ringPlaced 0 = true ∧ near.mayFetch 0 = true ∧ (near.snooped (near.plAddr 0) 64 false).1 = true ∧
      near.isExposed (near.plAddr 0) 64 = true ∧ n.mayFetch 0 = false ∧ gives (exec (.descriptorFetch 0 (some d)) n) n = true ∧
      gives (exec (.linkWaitExpire 0) down) (down.ringFault 0 3) = true ∧ gives (exec (.linkWaitExpire 0) s) s = true := by
  decide +kernel

theorem witness_ProducerLinesAreJudged :
    let s := ringSt ring []
    let y (b : Bytes) := (s.takeLine 0 b).ring 0
    (2 ^ s.sqLog 0 < 2 ^ 31 ∧ y (blk [(4, 2 ^ s.sqLog 0)]) = { ring with pi := BitVec.ofNat 32 (2 ^ s.sqLog 0) }) ∧
      (y (blk [(4, 2 ^ s.sqLog 0 + 1)])).code = 1 ∧ (y (blk [(4, 2 ^ s.sqLog 0 + 1)])).phase = .fault ∧
      (y (blk [(4, 0), (4, 1)])).code = 2 ∧ (y (blk [(4, 0), (4, 2 ^ 32 - 1)])).phase = .on := by
  decide +kernel

/-- A descriptor of 128 B. -/
def desc128 (xs : List (Nat × Nat)) : Bytes := blk xs ++ blk []

/-- A fetched job of ring 0 with a descriptor; it may send, provisional starts too, on every core of its mask. -/
def fetched (xs : List (Nat × Nat)) : Job := ⟨0, 0, desc128 xs, 0, .fetched, [], none, false, 0, false, 0, 2 ^ 32 + 2 ^ 33 + 511 * 2 ^ 16, 0, 0⟩

theorem witness_JobsBegin :
    let r := { ring with fetched := 1 }
    let nop := fetched []
    let bad := fetched [(1, 3), (1, 1)]
    let fence := fetched [(1, 3)]
    let send := fetched [(1, 2), (1, 0), (2, 1)]
    let back := { send with phase := .backoff }
    let start := fetched [(1, 1)]
    let s (j : Job) := ringSt r [j]
    let cfg := (s send).reg (ringKey 0 rCXL_RINGr_CFG)
    let keyed := { send with key := field cfg 24 16 * 64 + field cfg 11 10 * 16 + field cfg 15 12 }
    (s nop).oldestFetched 0 = some nop ∧ gives (exec (.jobNop 0) (s nop)) ((s nop).endJob nop 0) = true ∧
      (s bad).plainCheck bad = some 0x11 ∧ gives (exec (.jobFence 0) (s bad)) ((s bad).endJob bad 0x11) = true ∧
      ((s fence).ringJobs 0).length = 1 ∧ gives (exec (.jobFence 0) (s fence)) ((s fence).endJob fence 0) = true ∧
      ((s start).snooped 0 0 false).1 = true ∧ ((s start).snooped 0 0 false).2 = s start ∧ (s start).startCheck start = (.inr 0x11, s start) ∧
      gives (exec (.jobStart 0) (s start)) ((s start).endJob start 0x11) = true ∧
      (s send).plainCheck send = none ∧
      keyed.desc = send.desc ∧
      (s back).job 0 = some back ∧ back.again ≤ (s back).ns ∧
      gives (exec (.jobSendRetry 0) (s nop)) (s nop) = true := by
  decide +kernel

theorem witness_DescriptorChecksAreOrdered :
    let s := hostSt
    let send := fetched [(1, 2), (1, 0), (2, 1)]
    descFieldsOk (fetched [(1, 3), (1, 1)]).desc = false ∧ s.plainCheck (fetched [(1, 3), (1, 1)]) = some 0x11 ∧
      s.plainCheck { send with limit := 0 } = some 0x12 ∧ s.computeReset = false ∧ s.plainCheck send = none := by
  decide +kernel

theorem witness_FirstCauseStands :
    let j := { fetched [(1, 1), (1, 0), (2, 1), (4, 5)] with phase := .running }
    let s := ringSt ring [j]
    let t := { s with time := 2 ^ 72 }
    s.job 0 = some j ∧ s.ns < 5 * 1000000 ∧ gives (exec (.jobTimeout 0) s) s = true ∧ 5 * 1000000 ≤ t.ns ∧
      gives (exec (.jobTimeout 0) t) (t.setJob 0 (some { j with cause := some ⟨0x20, 0, 0, none, 0⟩, phase := .ending })) = true := by
  decide +kernel

theorem witness_RecordsAreWritten :
    let c (st : Nat) : JobCause := ⟨st, 0, 0, none, 0⟩
    let j (st : Nat) : Job := { fetched [] with cause := some (c st), phase := .ending }
    let s (st : Nat) := ringSt { ring with fetched := 1 } [j st]
    let cnt := ringKey 0 rCXL_RINGr_CNT
    let n := ringSt ring [{ fetched [(1, 1)] with phase := .running }]
    let p := { j 1 with recorded := true }
    let v := ringSt ring [p]
    (s 0).job 0 = some (j 0) ∧ (s 0).jobResult (j 0) = some (c 0) ∧ (s 0).recordReady 0 = (true, s 0) ∧
      gives (exec (.completionRecordWrite 0) (s 0)) ((((s 0).writeRecord (j 0) 0 (c 0)).count cnt 63 32 1).closeJob (j 0) 0) = true ∧
      gives (exec (.completionRecordWrite 0) (s 0x20)) ((((s 0x20).writeRecord (j 0x20) 0 (c 0x20)).count cnt 31 0 1).closeJob (j 0x20) 0x20) = true ∧
      gives (exec (.completionRecordWrite 0) (s 1)) ((((s 1).writeRecord (j 1) 0 (c 1)).count cnt 63 32 1).setJob 0 (some p)) = true ∧
      gives (exec (.completionRecordWrite 0) n) n = true ∧ gives (exec (.sealUpdate 0) v) ((v.writeRecord p 1 (c 1)).closeJob p 1) = true := by
  decide +kernel

theorem witness_RecordBytes :
    let s := ringSt ring []
    let b := s.recordLine { fetched [(8, 0), (8, 0xABCD)] with idx := 6 } 3 1 ⟨0x20, 4, 2, none, 2⟩
    leAt b 0 1 = 1 + 2 + 16 ∧ leAt b 1 1 = 0x20 ∧ leAt b 2 1 = 4 ∧ leAt b 3 1 = 2 ∧ leAt b 4 4 = 6 ∧ leAt b 8 8 = 0xABCD := by
  decide +kernel

theorem witness_DigestsAreWritten :
    let d : DigestJob := ⟨7, 0, 3, desc128 [], 0⟩
    let s := { hostSt with digests := [d] }
    let full := s.setReg rMGT_SHADOWCNT (64 * 2 ^ 32)
    let v : Word := 3 * 2 ^ 48 + 0x10000
    gives (exec (.digestCompute 7) full) ((hostSt.setReg rMGT_SHADOWCNT (64 * 2 ^ 32)).count rMGT_SHADOWRD 63 32 1) = true ∧
      (hostSt.digestInput d).1.isSome = true ∧ Takes s .warden rMGT_SHADOWLOC (classOf rMGT_SHADOWLOC) ∧
      gives (exec (.shadowlocWrite .warden v) s) (((s.setReg rMGT_SHADOWLOC (setField (setField v 63 52 0) 11 0 0)).setRegField rMGT_SHADOWCNT 63 32 0).setReg
        rMGT_SHADOWRD 0) = true := by
  unfold Takes; decide +kernel

/-! ## The smoulder rotation and migrations -/

theorem witness_RowsArePlaced :
    let s : State := { hostSt with rows := tset (fun _ => RowMap.initial) [] 3 { RowMap.initial with u := 16 } }
    (s.row 3).withheld = 0 ∧ (s.row 3).u = BitVec.ofNat 9 (2 ^ 4) ∧ s.slotOf (3 * 8 + 3) = some (3 * 9 + 3) ∧ s.slotOf (3 * 8 + 4) = some (3 * 9 + 5) := by
  decide +kernel

/-- Stage 4, and the rotation enabled. -/
def rotSt : State := hostSt.setReg rSMD_CTRL 1

/-- A test under way outside a task's slot: the result of slice k comes next. -/
def run (k : Nat) : TestRun := ⟨false, k, false, false, false, 0, false, 0, false⟩

theorem witness_TestsFallDue :
    let s := rotSt
    let due (s : State) (p : Nat) : State := s.modSlot p (fun x => { x with first := true })
    let a := due s 8
    let w := due (s.modSlot 8 (fun x => { x with service := svcIn })) 8
    let b := due s 1
    let f := due (s.modSlot 1 (fun x => { x with service := svcFenced })) 1
    let c := due (s.modSlot 1 (fun x => { x with service := svcCinder })) 1
    let p := due (s.modSlot 8 (fun x => { x with service := svcWatch })) 1
    let t := due (s.modSlot 8 (fun x => { x with test := some (run 0) })) 1
    let late := { s with time := 2 ^ 90 }
    s.rotating = true ∧ bitOf (s.reg rSMD_CTRL) 0 = true ∧ s.isDue 8 = false ∧ gives (exec (.testDue 8) s) s = true ∧ a.isDue 8 = true ∧
      a.rowTaken 0 = false ∧ (a.row 0).revising = false ∧ a.resting 0 = some 8 ∧ a.stepDue 8 = false ∧ (a.slot 8).service = svcStanding ∧
      (w.slot 8).service = svcIn ∧ (b.slot 1).service = svcIn ∧ b.isDue 1 = true ∧ b.standIn 0 = true ∧ b.rowBusy 0 = false ∧
      gives (exec (.testDue 1) b) (b.planMove 0 1 true false false) = true ∧ f.isDue 1 = true ∧ c.isDue 1 = true ∧
      gives (exec (.testDue 1) c) c = true ∧ p.standIn 0 = false ∧ p.isDue 1 = true ∧ ((p.startTest 1 true false).slot 1).test.isSome = true ∧
      t.rowTaken 0 = true ∧ gives (exec (.testDue 1) t) t = true ∧ late.stepDue 7 = true ∧ (late.slot 7).first = false ∧
      s.mayRun 8 (run 0) = true ∧ (s.row 0).slice = none ∧ s.mayRun 0 { run 0 with inPlace := true } = false := by
  decide +kernel

theorem witness_SweepsVisitEverySlot : ((List.range 16).foldl (fun (x : Nat × Bool) _ => sweepStep x.1 x.2) (8, false)).1 = 8 := by decide

theorem witness_TestResults :
    let s := rotSt
    let t (k : Nat) := s.modSlot 8 (fun x => { x with service := svcTest, prior := svcStanding, test := some (run k) })
    let p := s.modSlot 8 (fun x => { x with service := svcTest, test := some { run 6 with pinch := true, pinched := 4 } })
    let held := { run 0 with inPlace := true }
    (s.slot 8).test = none ∧ gives (exec (.sliceResult 8 3 false 0 []) s) s = true ∧ gives (exec (.marchResult 8 true) s) s = true ∧
      ((t 4).slot 8).test = some (run 4) ∧ (t 4).mayRun 8 (run 4) = true ∧ gives (exec (.sliceResult 8 3 false 0 []) (t 4)) (t 4) = true ∧
      gives (exec (.marchResult 8 true) (t 4)) (t 4) = true ∧
      (p.slot 8).test = some { run 6 with pinch := true, pinched := 4 } ∧ ((t 40).slot 8).test = some (run 40) ∧
      (s.modSlot 0 (fun x => { x with test := some held })).mayRun 0 held = false := by
  decide +kernel

theorem witness_FailedTestsFence :
    let f := rotSt.modSlot 8 (fun x => { x with service := svcFenced })
    let c := rotSt.modSlot 8 (fun x => { x with service := svcCond, cells := [5, 6, 7] })
    (f.slot 8).service = svcFenced ∧ (c.slot 8).service = svcCond ∧ (c.slot 8).cells.length < 4 ∧ (rotSt.slot 8).service ≠ svcFenced ∧
      ([], [4, 7]) ∈ covers [(1, 4), (2, 4), (3, 7)] 2 2 := by
  decide +kernel

theorem witness_SlotTimersRun :
    let s := rotSt
    let cell := s.cellOf 1
    let near := s.modSlot 1 (fun x => { x with service := svcCond, cells := [cell] })
    let left := s.modSlot 1 (fun x => { x with service := svcCond, condActive := true })
    let w := s.modSlot 1 (fun x => { x with service := svcWatch })
    let late := { w with time := 2 ^ 90 }
    let f := s.modSlot 1 (fun x => { x with service := svcFenced })
    gives (exec (.conditionEvaluate 1) s) s = true ∧ (near.slot 1).cells.any (fun c => cellNear (near.cellOf 1) c) = true ∧
      (near.row 0).move = none ∧ (near.abandonTest 1).resting 0 = some 8 ∧ ((near.abandonTest 1).abandonTest 8).resting 0 = some 8 ∧
      (left.slot 1).cells.any (fun c => cellNear (left.cellOf 1) c) = false ∧
      gives (exec (.conditionEvaluate 1) left) ((left.modSlot 1 (fun y => { y with condActive := false })).beginMove 0 1 (left.row 0).rest [] false false false) = true ∧
      (s.regField rSMD_PERIOD 63 56 ≠ 0 ∧ gives (exec (.watchExpire 1) w) w = true) ∧ hoursNs (late.regField rSMD_PERIOD 63 56) ≤ late.ns ∧
      gives (exec (.watchExpire 1) late) (late.setSlot 1 { late.slot 1 with service := svcIn }) = true ∧
      gives (exec (.cinderTimeout 1) f) f = true ∧ 168 * 3600000000000 ≤ ({ f with time := 2 ^ 90 } : State).ns := by
  decide +kernel

/-- A move of core 0's column, to slot 0, with these columns frozen and left out of the copy. -/
def move (frozen skip : List Nat) : Move :=
  ⟨0, [0], frozen, skip, false, false, false, 0, [(0, 0)], none⟩

/-- A row 0 with that move. -/
def moving (s : State) (m : Move) : State := s.setRow 0 { s.row 0 with move := some m }

theorem witness_MigrationsFreeze :
    let late (s : State) : State := { s with time := 2 ^ 90 }
    let q := st { task [] [] with lastWord := insnWord 0x7C 0 }
    let m := move [] []
    let e := moving (st { task [] [] with phase := .empty }) m
    let s := moving q m
    let own := late (s.modCore 0 (fun c => { c with owner := some 0 }))
    let stuck := (moving q (move [0] [])).modCore 0 (fun c => { c with dmas := [dma] })
    q.migrating 0 = none ∧ gives (exec (.migrationFreeze 0) q) q = true ∧ gives (exec (.migrationForced 0) q) q = true ∧
      s.migrating 0 = some m ∧ s.executing 0 = [0] ∧ s.quiet 0 0 = true ∧ gives (exec (.migrationForced 0) s) s = true ∧
      gives (exec (.migrationFreeze 0) s) ((s.freezeTask 0 0 .migration).markFrozen 0 m false) = true ∧
      (s.core 0).owner = none ∧
      gives (exec (.migrationForced 0) (late s)) ((((late s).freezeAll 0 .migration).markFrozen 0 m false).count rSMD_CNT2 31 16 1) = true ∧
      (own.core 0).owner.isSome = true ∧ gives (exec (.migrationForced 0) own) (own.forceOut 0 m) = true ∧
      stuck.coreOutstanding 0 = true ∧ gives (exec (.runEmptyTimeout 0) stuck) stuck = true ∧
      gives (exec (.runEmptyTimeout 0) (late stuck)) ((late stuck).forceOut 0 (move [0] [])) = true ∧
      e.coreOutstanding 0 = false ∧ gives (exec (.runEmptyTimeout 0) e) e = true := by
  decide +kernel

theorem witness_MigrationsCommit :
    let m := { move [0] [] with copies := some [] }
    let s := moving (st (task [] [])) m
    let wait := moving (st (task [] [])) (move [] [])
    gives (exec (.migrationCommit 0) (st (task [] []))) (st (task [] [])) = true ∧ m.cols.head? = some 0 ∧
      (s.row 0).revising = false ∧ s.moveReady m = true ∧ s.slotOf 0 = some 0 ∧ s.copying 0 m [0] 1 = s ∧ s.copied 0 = true ∧
      (moving (st (task [] [])) { m with copies := some [7] }).copied 0 = false ∧
      wait.moveReady (move [] []) = false ∧ gives (exec (.migrationCommit 0) wait) wait = true := by
  decide +kernel

theorem witness_LayoutsAreRevised :
    let m := { move [0] [] with copies := some [] }
    let s := moving (st (task [] [])) m
    let r := s.setRow 0 { s.row 0 with revising := true }
    let lost := r.modSlot 0 (fun x => { x with routerOn := false })
    gives (exec (.layoutRevision 0) s) s = true ∧ gives (exec (.layoutRestore 1) s) s = true ∧ r.moveReady m = true ∧ r.restores 0 = false ∧
      r.copying 0 m m.cols (r.lostMask 0) = r ∧ r.copied 0 = true ∧
      gives (exec (.layoutRestore 0) r) r = true ∧ (s.raiseLayout).regField rSMD_LAYOUT 15 0 = 1 ∧
      gives (exec (.routerFailure 0) lost) lost = true := by
  decide +kernel

theorem witness_SlotOperations :
    let s := rotSt
    let low := s.setReg rBOOT_STAGE 3
    let named (u : State) (op p : Nat) : State := u.setReg (dieKey 0 rSMD_CMD) (BitVec.ofNat 64 (2 ^ 63 + op * 2 ^ 12 + p))
    let t := s.modSlot 8 (fun x => { x with service := svcTest, test := some (run 3) })
    (4 ≤ s.stage ∧ low.stage < 4) ∧ gives (exec (.smdTest .warden 8) s) ((named s 0 8).testDue 8 true) = true ∧
      gives (exec (.smdTest .warden 8) low) ((named low 0 8).smdDone 0 1) = true ∧
      gives (exec (.smdUnfence .warden 8) s) ((named s 2 8).smdDone 0 1) = true ∧
      gives (exec (.moveResting .warden 8) s) ((named s 5 8).smdDone 0 0) = true ∧
      gives (exec (.moveResting .warden 1) s) ((named s 5 1).planMove 0 1 false true false) = true ∧
      gives (exec (.smdAbandon .warden 8) s) ((named s 6 8).smdDone 0 1) = true ∧ (t.slot 8).test.isSome = true ∧
      s.hostReach (dieKey 0 rSMD_CMD) = true ∧ s.absentPage (dieKey 0 rSMD_CMD) = false ∧ s.mayWrite .host .w = false := by
  decide +kernel

/-! ## Bring-up, resets and management -/

/-- A state at a time in nanoseconds. -/
def clockAt (s : State) (n : Nat) : State := { s with time := n * 2 ^ 32 }

theorem witness_PowerComesAndGoes :
    let off : State := { State.reset with boot := { Boot.zero with pwrgd := false } }
    let cold : State := { State.reset with boot := Boot.zero }
    let late := clockAt cold 20000000
    off.boot.pwrgd = false ∧ gives (exec .powerGoodAssert off) off.cold = true ∧ gives (exec (.railFault 3) off) off = true ∧
      gives (exec .powerGoodAssert hostSt) hostSt = true ∧ hostSt.boot.pwrgd = true ∧
      (cold.powered = true ∧ cold.stage0 = false) ∧ gives (exec (.stage0 false) cold) { cold with boot := { cold.boot with faultLow := true } } = true ∧
      gives (exec (.stage0 true) hostSt) hostSt = true ∧ gives (exec .cxlTrainingStart cold) cold = true ∧
      (late.powered = true ∧ late.port.perst = false ∧ late.boot.zero_ + 20000000 ≤ late.ns) ∧
      gives (exec .cxlTrainingStart late) { late with boot := { late.boot with training := true } } = true := by
  decide +kernel

/-- Core 511 absent. -/
def lacks : State := hostSt.setRow 63 { hostSt.row 63 with withheld := 0x80 }

/-- Bring-up standing at stage k. -/
def stageSt (k : Nat) : State := hostSt.setReg rBOOT_STAGE (BitVec.ofNat 64 k)

/-- A report of Stage 2 in which nothing failed. -/
def report : Stage2Report := ⟨none, none, [], 0, [], 0, [], false⟩

theorem witness_BringUpStages :
    ((stageSt 0).atStage 0 = true ∧ (stageSt 1).atStage 0 = false ∧ gives (exec (.stage1 true [] [] ()) (stageSt 1)) (stageSt 1) = true) ∧
      ((stageSt 0).slotReason [] = 1 ∧ (stageSt 0).foresterOk [] = false) ∧
      ((stageSt 1).atStage 1 = true ∧ gives (exec (.stage2 report) (stageSt 0)) (stageSt 0) = true ∧
        report.hbmTrainFail = none ∧ report.hbmLaneFail = none ∧ (stageSt 1).seamsUnfit report.seamBad = none) ∧
      ((stageSt 2).atStage 2 = true ∧ gives (exec (.stage3 [] [] .keep 0) (stageSt 1)) (stageSt 1) = true ∧ deadDie 0 = none ∧ deadDie 0x00F0 = some 1) := by
  decide +kernel

theorem witness_ResetRequests :
    let s := hostSt
    let v : Word := 2 ^ 63 + 2 ^ 16 * 2
    Takes s .warden rBOOT_RESET (classOf rBOOT_RESET) ∧ bitOf v 63 = true ∧ field v 18 16 = 2 ∧ bitOf (s.reg rBOOT_RESET) 63 = false ∧
      gives (exec (.bootResetCore .warden 0) s) s = true ∧ gives (exec (.bootResetModule .warden v) s) s = true := by
  refine ⟨?_, ?_⟩
  · unfold Takes; decide +kernel
  · decide +kernel

theorem witness_ResetsAreJudged :
    let s := hostSt
    let run (r : ResetRun) : State := { s with boot := { s.boot with run := some r } }
    s.judgeReset .module = 0 ∧ 4 ≤ s.stage ∧ s.boot.run = none ∧ s.judgeReset (.compute true false) = 0 ∧
      ((stageSt 3).stage < 4 ∧ (stageSt 3).judgeReset (.core 0) = 2) ∧ (lacks.present 511 = false ∧ lacks.stage = 4 ∧ lacks.judgeReset (.core 511) = 2) ∧
      (s.present 0 = true ∧ s.judgeReset (.core 0) = 0) ∧
      ((run ⟨none, true, false⟩).judgeReset (.compute true true) = 0 ∧ (run ⟨none, true, true⟩).judgeReset (.compute true true) = 1) ∧
      ((run ⟨some 1, false, false⟩).judgeReset (.compute true false) = 0 ∧ (run ⟨some 1, false, false⟩).judgeReset (.core 0) = 1) := by
  decide +kernel

theorem witness_CoreResetsCompleteAndClear :
    let s := lacks
    let run (r : ResetRun) : State := { s with boot := { s.boot with run := some r } }
    ((run ⟨some 0, false, false⟩).boot.run = some ⟨some (0 : CoreId).val, false, false⟩ ∧ (run ⟨some 0, false, false⟩).slotOf (0 : CoreId) = some 0) ∧
      ((run ⟨some 511, false, false⟩).boot.run = some ⟨some (511 : CoreId).val, false, false⟩ ∧ (run ⟨some 511, false, false⟩).slotOf (511 : CoreId) = none) ∧
      ((run ⟨none, false, true⟩).boot.run = some ⟨none, false, true⟩) ∧
      gives (exec (.coreResetComplete 0) s) s = true ∧ gives (exec (.computeResetComplete [] []) s) s = true := by
  decide +kernel

/-- Forester running at a time, with an image that grants window 2 and a route. -/
def foresterSt : State :=
  { hostSt with boot := { hostSt.boot with image := some ⟨[], [(7, 0)], [(2, 0, 0x10000, 2 ^ 63)], [], 0, 0, [], [], []⟩ } }

theorem witness_ProcessorsAreWatched :
    let s := clockAt foresterSt 4000000000
    let w : State := { s with wdn := { s.wdn with restarts := [3000000000, 3000000000, 3000000000, 3000000000] } }
    ((stageSt 3).rotating = false ∧ gives (exec (.mpTest 3 true) (stageSt 3)) (stageSt 3) = true) ∧
      (s.powered = true ∧ s.boot.image.isSome = true ∧ bitOf (s.reg rWDN_STATUS) 11 = false ∧ s.wdn.beatAt + 3000000000 ≤ s.ns) ∧
      4 ≤ (w.wdn.restarts.filter (fun t => decide (w.ns ≤ t + 3600000000000))).length ∧
      gives (exec .foresterWatchdog w) ({ w with wdn := { w.wdn with restarting := false } }.orReg rWDN_STATUS 2048) = true ∧
      gives (exec .foresterWatchdog foresterSt) foresterSt = true ∧ (foresterSt.foresterRuns = true ∧ hostSt.foresterRuns = false) ∧
      gives (exec .heartbeat hostSt) hostSt = true := by
  decide +kernel

theorem witness_WardenCallsAreJudged :
    let s := foresterSt
    let id : Word := 3
    s.foresterRuns = true ∧ gives (exec (.slotOp 0 0 0) hostSt) hostSt = true ∧ gives (exec (.slotOp 4 0 0) s) (s.callResult 2 0) = true ∧ 4 ≤ s.stage ∧
      gives (exec (.slotOp 0 0 2) s) ((s.countCall true).callResult 1 1) = true ∧ s.slotOpCheck 0 0 = none ∧
      gives (exec (.setSlack 512 0 0) s) (s.callResult 2 0) = true ∧ s.present 511 = true ∧
      gives (exec (.setSlack 0 0 25) s) ((s.countCall true).callResult 1 2) = true ∧ (s.present 0 = true ∧ (24 : Word).toNat ≤ 24) ∧
      gives (exec (.seamRepair 0 0 5 4000) s) (s.callResult 2 0) = true ∧
      gives (exec (.windowSet 4095 0 0 0) s) ((s.countCall true).callResult 1 1) = true ∧ gives (exec (.windowSet 4096 0 0 0) s) (s.callResult 2 0) = true ∧
      gives (exec (.windowSet 2 0x10000 0x20000 (2 ^ 63)) s) ((s.countCall true).callResult 1 2) = true ∧
      (s.windowGranted 0 0x10000 (2 ^ 63) = true ∧ s.windowWritable 2 0 0x10000 (2 ^ 63) = true) ∧
      (s.routeAllowed 7 0 = true ∧ s.routeAllowed 7 (2 ^ 30) = false) ∧ gives (exec (.routeSet 7 (2 ^ 30)) s) ((s.countCall true).callResult 1 1) = true ∧
      s.kxWith 7 = none ∧ gives (exec (.keyAgree 7 0) s) ((s.countCall true).callResult 1 1) = true ∧ tget (fun _ => 0) s.wdn.bound 1 = 0 ∧
      gives (exec (.keySwitch 1) s) ((s.countCall true).callResult 1 1) = true ∧ gives (exec (.keySwitch 0) s) (s.callResult 2 0) = true ∧
      s.judgeReset (.core 0) = 0 ∧
      gives (exec (.floorRaise 0) s) ((s.countCall true).callResult 1 1) = true ∧ gives (exec (.floorRaise 2) s) (s.callResult 2 0) = true ∧
      gives (exec (.logNote 9 1 0 0) s) ((s.countCall true).callResult 1 1) = true ∧ gives (exec (.logNote 0 0x10000 0 0) s) (s.callResult 2 0) = true ∧
      gives (exec (.timeStep 0) s) ((s.countCall true).callResult 1 1) = true ∧ gives (exec (.timeStep 5) s)
        (({ s.countCall false with time := 5 * 2 ^ 32 }.setReg rMGT_TIMESTEP 5).callResult 0 0) = true ∧
      gives (exec (.shadowPair 0x21 id 0 0 none) s) (s.callResult 2 0) = true := by
  decide +kernel

theorem witness_SoftRepairsAreChecked :
    let s := foresterSt.modCore 0 (fun k => { k with arrays := tset dArray k.arrays 1 { ArraySt.zero with located := some (3, 9, 0) } })
    let key := s.pageKey 0 (rARR_REPAIRa + 8 * 1)
    (s.foresterRuns = true ∧ s.holder 0 = some 0) ∧ ((s.core 0).streaming 1 = false ∧ (s.core 0).loading 1 = false) ∧
      (((s.core 0).array 1).located = some (3, 9, 0) ∧ s.ns ≤ 0 + 1000000000) ∧ (markRow (s.reg key) 9).isSome = true ∧
      gives (exec (.softRepair 0 0 1 true 8) s) ((s.countCall true).callResult 1 1) = true := by
  decide +kernel

theorem witness_FatalConditionsReset :
    let off : State := { State.reset with boot := { Boot.zero with pwrgd := false } }
    (off.powered = false ∧ gives (exec (.fatalDeviceCondition 0 0) off) off = true) ∧ (hostSt.powered = true ∧ hostSt.stage0 = true) ∧
      hostSt.boot.fatals = [] := by
  decide +kernel

theorem witness_ConnectionsAreNegotiated :
    let s (x : Spdm) : State := { hostSt with wdn := { hostSt.wdn with spdm := x } }
    let off : State := { State.reset with boot := { Boot.zero with pwrgd := false } }
    gives (exec .getVersion off) off = true ∧ (hostSt.powered = true ∧ 1 ≤ hostSt.stage) ∧
      gives (exec .getVersion hostSt) (s ⟨1, 0, [], .version [0x12, 0x13]⟩) = true ∧
      gives (exec (.getCapabilities 0x12) (s ⟨1, 0, [], .none_⟩)) (s ⟨2, 0x12, [], .capabilities 0x12⟩) = true ∧
      gives (exec (.getCapabilities 0x10) (s ⟨1, 0, [], .none_⟩)) (s ⟨1, 0, [], .error 0x41⟩) = true ∧
      gives (exec (.negotiateAlgorithms true) (s ⟨2, 0x12, [], .none_⟩)) (s ⟨3, 0x12, [], .algorithms⟩) = true ∧
      gives (exec (.negotiateAlgorithms true) (s ⟨1, 0x12, [], .none_⟩)) (s ⟨1, 0x12, [], .error 0x04⟩) = true := by
  decide +kernel

theorem witness_AttestationAnswers :
    let s (l : List (BitVec 32 × Bool × Nat)) (a : SpdmAns) : State :=
      { hostSt.setOtp 0 3 with wdn := { hostSt.wdn with spdm := ⟨3, 0x12, l, a⟩ } }
    (s [] .none_).lifecycle = 2 ∧ (s [] .none_).wdn.spdm.phase = 3 ∧
      gives (exec (.getMeasurements 0) (s [] .none_)) (s [] (.error 0x01)) = true ∧ gives (exec (.spdmHeartbeat 5) (s [] .none_)) (s [] (.error 0x02)) = true ∧
      gives (exec (.finish 5 true) (s [(5, false, 0)] .none_)) (s [(5, true, 0)] .finishRsp) = true ∧
      gives (exec (.keyUpdate 5) (s [(5, true, 0)] .none_)) (s [(5, true, 1)] .keyUpdateAck) = true ∧
      gives (exec (.endSession 5) (s [(5, true, 0)] .none_)) (s [] .endSessionAck) = true ∧
      gives (exec .getDigests (hostSt)) { hostSt with wdn := { hostSt.wdn with spdm := { hostSt.wdn.spdm with ans := .error 0x04 } } } = true := by
  decide +kernel

theorem witness_OtpBitsStaySet :
    let s := hostSt.setOtp 0 1
    (tget zeroByte s.otp 0).getLsbD 0 = true ∧ twf zeroByte s.otp = true ∧ gives (exec .getVersion s)
      { s with wdn := { s.wdn with spdm := ⟨1, 0, [], .version [0x12, 0x13]⟩ } } = true := by
  decide +kernel

theorem witness_KeyExchangesRun :
    let s (kind : Byte) (l : List Kx) : State := { clockAt hostSt 100000000 with
      wdn := { hostSt.wdn with kxs := l, kxBox := twrite zeroByte [] 0 ([kind, 0, 0, 0, 7, 0, 0, 0, 9] ++ List.replicate 7 0) } }
    let x : Kx := ⟨7, 1, 9, false, [], true, false, 0, []⟩
    let y : Kx := { x with hello := true, init_ := true }
    let box := tread zeroByte (s 2 []).wdn.kxBox 0 512
    (leAt box 0 1 = 2 ∧ leAt box 4 2 = 7 ∧ leAt box 8 8 = 9) ∧ gives (exec (.kxCert 0 ()) (s 2 [x])) (s 2 [x]) = true ∧
      ((s 2 [x]).kxWith 7 = some x ∧ x.init_ = false ∧ x.certOk = true ∧ x.hello = false) ∧ ((s 3 [y]).kxWith 7 = some y ∧ y.init_ = true ∧ y.hello = true) ∧
      (s 2 []).kxWith 7 = none ∧ gives (exec (.kxHello 0) (s 2 [])) { s 2 [] with wdn := { (s 2 []).wdn with kxBox := [] } } = true ∧
      gives (exec (.kxTimeout 7) (s 2 [])) (s 2 []) = true ∧ x.since + 100000000 ≤ (s 2 [x]).ns := by
  decide +kernel

theorem witness_ManagementPorts :
    let q : State := { hostSt with netQ := [] }
    (q.netQ = [] ∧ gives (exec .netDatagram q) q = true) ∧ Takes hostSt .warden rMGT_NETKEY (classOf rMGT_NETKEY) ∧
      gives (exec (.netkeyWrite .warden 0) hostSt) { hostSt with wdn := { hostSt.wdn with netKey := [], netKeyAt := 0, netKeyOn := false } } = true ∧
      gives (exec (.netkeyWrite .warden 5) hostSt) { hostSt with wdn := { hostSt.wdn with netKey := [(0, 5)], netKeyAt := 1, netKeyOn := false } } = true ∧
      gives (exec (.pldmSensorRead 21) hostSt) { hostSt with wdn := { hostSt.wdn with pldmAns := some 4 } } = true ∧
      gives (exec (.pldmSensorRead 23) hostSt) { hostSt with wdn := { hostSt.wdn with pldmAns := none } } = true := by
  refine ⟨?_, ?_, ?_⟩
  · decide +kernel
  · unfold Takes; decide +kernel
  · decide +kernel

theorem witness_TimeAndLogAreRead :
    let off : State := { State.reset with boot := { Boot.zero with pwrgd := false } }
    let s := hostSt
    gives (exec .timeBaseTick off) off = true ∧ s.powered = true ∧ gives (exec .timeBaseTick s) { s with time := 10 * 2 ^ 32 } = true ∧
      (off.readReach .host rMGT_TIME = false ∧ s.readReach .host rMGT_TIME = true ∧ s.readReach .host rMGT_LOGDATAj = true ∧ 2 ≤ s.stage) ∧
      gives (exec (.timeLowRead .host) s) { s with wdn := { s.wdn with latch := tset (fun _ => 0) s.wdn.latch (initCode .host) 1 } } = true := by
  decide +kernel

theorem witness_PowerSamplesAreJudged :
    let s := clockAt hostSt 20000
    let soon : State := { s with power := { s.power with sampleAt := some 15000 } }
    let low := (s.setRegField (dieKey 0 rPWR_VCORE) 29 16 750).setRegField (dieKey 0 rPWR_LIMIT) 13 0 650
    (s.powered = true ∧ s.power.sampleAt = none) ∧ gives (exec (.powerSample 100 4800) soon) soon = true ∧
      (low.floorMv 0 = 650 ∧ low.setMv 0 = 750) ∧ (low.lowerMv 0 25).setMv 0 = 725 ∧ (low.lowerMv 0 200).setMv 0 = 650 := by
  decide +kernel

theorem witness_PowerIsManaged :
    let s := clockAt hostSt 200000
    let soon : State := { s with power := { s.power with stepAt := some 150000 } }
    let trip := s.setReg (dieKey 1 rPWR_LIMIT) (105 * 2 ^ 48 + 95 * 2 ^ 40)
    let key := dieKey 2 rPWR_PACE
    (s.powered = true ∧ s.stage0 = true ∧ s.power.stepAt = none) ∧ gives (exec (.powerControlStep (List.replicate 4 (100, 750, 90))) soon) soon = true ∧
      gives (exec (.powerControlStep []) s) s = true ∧ gives (exec (.thermalSample 1 [] []) s) s = true ∧
      (field (trip.reg (dieKey 1 rPWR_LIMIT)) 55 48 = 105 ∧ hottest (List.replicate 20 96) = 0 ∧ 96 < 105 ∧ 95 ≤ 96) ∧
      gives (exec (.paceMeasure 2 900) s) ((s.setRegField key 15 0 900).setRegField key 31 16 900) = true := by
  decide +kernel

theorem witness_RegisterWritesReach :
    let s := hostSt
    let off : State := { State.reset with boot := { Boot.zero with pwrgd := false } }
    let px := dieKey 1 rSMD_PXDATA
    gives (exec (.registerWrite .host 8 8 5) off) off = true ∧ gives (exec (.registerWrite .host 8 2 5) s) s = true ∧
      gives (exec (.registerWrite .host 4 8 5) s) s = true ∧ gives (exec (.registerWrite .host 0x4000000 8 5) s) s = true ∧
      (s.powered = true ∧ rMGT_CTRL % 8 = 0 ∧ ¬(mboxBase ≤ rMGT_CTRL ∧ rMGT_CTRL < mboxBase + 0x1000)) ∧ (0x2000000 ≤ px ∧ px < 0x2400000 ∧ px % 0x100000 = rSMD_PXDATA) ∧
      s.hostReach px = true := by
  decide +kernel

theorem witness_DeniedWritesAreDiscarded :
    let s := hostSt
    s.hostReach rWDN_STATUS = true ∧ s.absentPage rWDN_STATUS = false ∧ s.mayWrite .host .w = false ∧ s.mayWrite .forester .w = false ∧
      bitOf (s.reg rWDN_DENYLOG) 63 = false ∧ bitOf ((s.setReg rWDN_DENYLOG (2 ^ 63)).reg rWDN_DENYLOG) 63 = true := by
  decide +kernel

theorem witness_RegisterBitsFollowTheirKind :
    (regSpec rMGT_CTRL).isSome = true ∧ (regSpec rWDN_STATUS).isSome = true ∧ (regSpec (dieKey 1 rPWR_STATUS)).isSome = true ∧
      (regSpec (coreKey 3 rARR_DIAG)).isSome = true := by
  decide +kernel

theorem witness_RegisterReadsReturn :
    let s := hostSt
    let key := dieKey 1 rSMD_PXDATA
    let off : State := { State.reset with boot := { Boot.zero with pwrgd := false } }
    (off.readReach .host 0 = false ∧ gives (exec (.readToClear .host 8 8) off) { off with rd := ones64 } = true) ∧
      gives (exec (.readToClear .host 4 8) s) { s with rd := ones64 } = true ∧ gives (exec (.readToClear .host 0x4000000 8) s) { s with rd := 0 } = true ∧
      (s.readReach .host rMGT_CTRL = true ∧ rMGT_CTRL < 0x4000000 ∧ rMGT_CTRL % 8 = 0) ∧ s.readReach .host key = true ∧
      (s.slot (s.pxTarget 1).1).on = true ∧ (s.pxTarget 1).2 % 0x10000 = rCORE_ID := by
  decide +kernel

theorem witness_TreeAccessesReachScratchpads :
    let s := hostSt
    let a : BitVec 48 := BitVec.ofNat 48 (spadAddr 0 0x1000)
    s.powered = true ∧ s.kindOf a.toNat = .spad 0 0x1000 ∧ a.toNat % 8 = 0 ∧ s.spadPowered 0 0x1000 8 = true ∧ s.gathering 0 = false ∧
      s.pieceBad 0 false [(0x1000, 8)] = none ∧ s.pieceBad 0 true [(0x1000, 8)] = none ∧
      gives (exec (.smdPxdataAccess .host 0 (.spad (a + 1) 3 none)) s) { s with rd := BitVec.allOnes 64 } = true := by
  decide +kernel

theorem witness_GatherReadsBack :
    let s := hostSt
    ([5, 6] : Bytes).length = 2 ^ 1 ∧ 0x1002 % 2 = 0 ∧ spadAddr 0 0x1000 ∉ (s.gatherAway 0 0x1002).badWords ∧
      ((s.gatherWrite 0 0x1002 [5, 6]).gatherRead 0 0x1002 2).rd = 0x605 := by
  decide +kernel

theorem witness_VectorOperationsKeepTheirOrder :
    let w := ins 0 0 0 0 0
    let s := (st (task [] [])).setTask 0 1 { task [] [] with phase := .waiting, wait := some ⟨0x51, w, 0, 0, 0, false, 0⟩ }
    let s := s.modCore 0 (fun k => { k with vecWait := [1] })
    insn (.vopAdd 0 0 w) = some (0x51, 0, 0, withX w 0) ∧ (s.task 0 0).wait = none ∧ 1 ∈ (s.core 0).vecWait ∧ (s.core 0).waitsVec 1 = true := by
  decide +kernel

theorem witness_VectorElementValues : Machine.Num.nan.isNan = true ∧ zeroNum.isNan = false := by decide +kernel

theorem witness_ScansRun :
    let d : Bytes := blk [(1, 4)] ++ List.replicate 127 0
    let x : TierDesc := ⟨0, 0, 0, d, [], false, 0, [], [], [], [], 0, 0, 0, [], false, []⟩
    let y := { x with opened := true }
    let s (l : List TierDesc) : State := (pool hostSt).setAgent 0 { (pool hostSt).agent 0 with descs := l }
    bitOf ((s [x]).reg rTIER_STATUS) 9 = true ∧ (s [x]).oldestDesc 0 4 = some (0, x) ∧
      (((s [y]).agent 0).descs = [y] ∧ y.op = 4 ∧ y.opened = true ∧ y.marked = [] ∧ y.owed = []) := by
  decide +kernel

end Sys2Proof.Tests
end

section
/-! PROOFS. Issue of a task instruction as a whole: which command issues what, and what a false guard comes to (spec/04 R130 to R132). -/

namespace Sys2Proof.Machine

open Sys2Proof.Claims

/-! ## Every task instruction is an issue -/

/-- A command that `insn` names does nothing but issue its instruction: the body is the instruction's own, and the checks at issue are
shared by all of them. -/
theorem exec_eq_issue {i : Instr} {opc : Nat} {c : CoreId} {t : TaskSlot} {f : InsnBits} (h : insn i = some (opc, c, t, f)) (s : State) :
    ∃ body, exec i s = .next (s.issue c t opc f body) := by
  revert h
  fun_cases insn i <;> intro h
  -- The last case is every command that issues nothing.
  case case95 => cases h
  all_goals
    obtain ⟨rfl, rfl, rfl, rfl⟩ := h
    exact ⟨_, rfl⟩

/-! ## Illegal guards and false guards (R131) -/

/-- The guard that never holds, PRED 0 with PNEG 1, makes every opcode illegal, listed or not. -/
theorem legal_of_never_guard (opc : Nat) (f : InsnBits) (hp : fPred f = 0) (hn : fPneg f = true) : legal opc f = false := by
  unfold legal
  cases formOf opc f with
  | none => rfl
  | some m => simp [hp, hn]

/-- An attempt that is done leaves the task RUNNING one index further, when that index lies in its code. -/
theorem State.finish_done (s0 s : State) (n t opc : Nat) (f : InsnBits) (h : (s.task n t).pc + 1 < (s.task n t).img.codeLen) :
    s0.finish n t opc f (.done s) =
      s.setTask n t { s.task n t with pc := (s.task n t).pc + 1, phase := .running, wait := none } :=
  State.setPc_in s n t _ (by omega) (by omega)

/-- An instruction whose guard is false, before the last index of the code, retires with no effect of its own. -/
theorem State.issue_skip_retires (s : State) (c : CoreId) (t : TaskSlot) (opc : Nat) (f : InsnBits) (body : Nat → Nat → State → Try)
    (hi : s.canIssue c t = true) (hl : legal opc f = true) (hg : (s.task c t).guard f = false)
    (hc : InCode s c t ((s.task c t).pc + 1)) : s.issue c t opc f body = retires s c t opc f id := by
  have hin : ((s.atIssue c t opc f).task c t).pc + 1 < ((s.atIssue c t opc f).task c t).img.codeLen := by
    have hlt := hc.2
    simp only [State.task_atIssue]
    omega
  rw [State.issue_skip s c t opc f body hi hl hg, State.finish_done _ _ _ _ _ _ hin]
  simp [retires, runsAt]

/-- Settles O6: every task instruction is an issue, and an issue whose guard is false only moves PC on. -/
theorem falseGuardHasNoEffect : Obligations.FalseGuardHasNoEffect := by
  refine ⟨fun i opc c t f s hi hcan hlegal hguard hin => ?_, legal_of_never_guard⟩
  obtain ⟨body, hexec⟩ := exec_eq_issue hi s
  rw [hexec, State.issue_skip_retires s c t opc f body hcan hlegal hguard hin]

end Sys2Proof.Machine
end

section
/-! PROOFS. The registers of a task at its start (spec/04 R129). -/

namespace Sys2Proof.Machine

section started
variable (k : Task) (n : Nat) (i : ImageInfo)

/-- The general registers at the start: the start argument, the core's number, and zero. -/
theorem Task.greg_started (r : Nat) :
    (k.started n i).greg r = if r = 2 then BitVec.ofNat 64 n else if r = 1 then k.arg else 0 := by
  simp only [Task.started, Task.greg_setG]
  rfl

/-- Every address register is zero at the start. -/
@[simp] theorem Task.areg_started (r : Nat) : (k.started n i).areg r = 0 := rfl

/-- Every loop counter is zero at the start. -/
@[simp] theorem Task.kreg_started (r : Nat) : (k.started n i).kreg r = 0 := rfl

/-- At the start p0 alone reads 1. -/
@[simp] theorem Task.preg_started (r : Nat) : (k.started n i).preg r = decide (r = 0) := by
  simp [Task.preg, Task.started, Task.setG, Task.zero, bitOf]

end started

/-- Settles O32: the fields that `Task.started` sets, and the register files that it leaves empty. -/
theorem tasksStartClean : Obligations.TasksStartClean := by
  intro k n i
  have general : ∀ r < 32, r ≠ 1 → r ≠ 2 → (k.started n i).greg r = 0 := by
    intro r _ h1 h2
    simp [Task.greg_started, h1, h2]
  have predicates : ∀ r, 1 ≤ r → r < 8 → (k.started n i).preg r = false := by
    intro r hr _
    simp only [Task.preg_started, decide_eq_false_iff_not]
    omega
  exact ⟨rfl, rfl, by simp [Task.greg_started], by simp [Task.greg_started], general, fun r _ => Task.areg_started k n i r,
    fun r _ => Task.kreg_started k n i r, predicates, rfl, rfl, rfl⟩

end Sys2Proof.Machine
end

section
/-! PROOFS. NEXT and PENDING of a channel once every reply of a send has returned (spec/07 R225, R227). -/

namespace Sys2Proof.Machine

/-! ## One bit of a vector set or cleared -/

section bits
variable {n : Nat} (v : BitVec n) (c d : Nat)

/-- Setting one bit leaves every other bit as it was. -/
theorem bitOf_or_ofNat_two_pow (hd : d < n) : bitOf (v ||| BitVec.ofNat n (2 ^ c)) d = (bitOf v d || decide (c = d)) := by
  simp only [bitOf, BitVec.testBit_toNat, BitVec.getLsbD_or, BitVec.getLsbD_ofNat, Nat.testBit_two_pow, hd, decide_true, Bool.true_and]

/-- Clearing one bit leaves every other bit as it was. -/
theorem bitOf_and_not_ofNat_two_pow (hd : d < n) :
    bitOf (v &&& ~~~BitVec.ofNat n (2 ^ c)) d = (bitOf v d && !decide (c = d)) := by
  simp only [bitOf, BitVec.testBit_toNat, BitVec.getLsbD_and, BitVec.getLsbD_not, BitVec.getLsbD_ofNat, Nat.testBit_two_pow, hd,
    decide_true, Bool.true_and]

end bits

/-! ## What the channel becomes -/

/-- The codes that leave a channel PENDING: FULL, FENCED and STALE_GEN. -/
theorem pendingCode_iff (x : Nat) : pendingCode x = true ↔ x = 1 ∨ x = 4 ∨ x = 3 := by
  simp only [pendingCode, Bool.or_eq_true, decide_eq_true_eq, or_assoc]

section channel
variable (k : Task) (chan d : Nat) (codes : List Nat)

/-- After a code that leaves it PENDING, NEXT of no channel changes. -/
theorem Task.next_channelDone_of_pending (h : codes.any pendingCode = true) : (k.channelDone chan codes).next = k.next := by
  simp [Task.channelDone, h]

/-- After a code that leaves it PENDING, the channel's bit alone is set. -/
theorem Task.pendBit_channelDone_of_pending (h : codes.any pendingCode = true) (hd : d < 16) :
    bitOf (k.channelDone chan codes).pendBits d = (bitOf k.pendBits d || decide (chan = d)) := by
  rw [Task.channelDone, if_pos h]
  exact bitOf_or_ofNat_two_pow k.pendBits chan d hd

/-- With no such code, NEXT of the channel alone rises. -/
theorem Task.nextSeq_channelDone_of_settled (h : ¬codes.any pendingCode = true) :
    (k.channelDone chan codes).nextSeq d = if d = chan then k.nextSeq chan + 1 else k.nextSeq d := by
  rw [Task.channelDone, if_neg h]
  exact tget_tset _ k.next chan d _

/-- With no such code, the channel's bit alone is cleared. -/
theorem Task.pendBit_channelDone_of_settled (h : ¬codes.any pendingCode = true) (hd : d < 16) :
    bitOf (k.channelDone chan codes).pendBits d = (bitOf k.pendBits d && !decide (chan = d)) := by
  rw [Task.channelDone, if_neg h]
  exact bitOf_and_not_ofNat_two_pow k.pendBits chan d hd

end channel

/-- Settles O21: the two ends of a send, one that leaves the channel PENDING and one that settles it. -/
theorem channelsAdvance : Obligations.ChannelsAdvance := by
  intro k chan codes hchan
  have hagain : (∃ x ∈ codes, x = 1 ∨ x = 4 ∨ x = 3) ↔ codes.any pendingCode = true := by
    simp only [List.any_eq_true, pendingCode_iff]
  dsimp only
  rw [hagain]
  refine ⟨fun h => ⟨k.next_channelDone_of_pending chan codes h, ?_⟩, fun h => ⟨?_, ?_⟩, fun d hd hne => ?_⟩
  · simp [k.pendBit_channelDone_of_pending chan chan codes h hchan]
  · simp [k.nextSeq_channelDone_of_settled chan chan codes h]
  · simp [k.pendBit_channelDone_of_settled chan chan codes h hchan]
  · by_cases h : codes.any pendingCode = true
    · have hnext : (k.channelDone chan codes).nextSeq d = k.nextSeq d := by
        rw [Task.nextSeq, k.next_channelDone_of_pending chan codes h, Task.nextSeq]
      simp [hnext, k.pendBit_channelDone_of_pending chan d codes h hd, hne.symm]
    · simp [k.nextSeq_channelDone_of_settled chan d codes h, k.pendBit_channelDone_of_settled chan d codes h hd, hne, hne.symm]

end Sys2Proof.Machine
end

section
/-! PROOFS. Denied writes (spec/15 R478): fields and counters of registers, which registers an error record changes, and what a denied
write leaves. -/

namespace Sys2Proof.Machine

/-! ## Fields and counters of registers -/

/-- A field that is set reads back the value, cut to the field's width. -/
theorem field_setField_same (w : Word) {hi lo : Nat} (v : Nat) (hhi : hi < 64) :
    field (setField w hi lo v) hi lo = v % 2 ^ (hi + 1 - lo) := by
  apply Nat.eq_of_testBit_eq
  intro i
  simp only [field, fieldN, setField, Nat.testBit_mod_two_pow, Nat.testBit_shiftRight, BitVec.testBit_toNat, BitVec.getLsbD_or,
    BitVec.getLsbD_and, BitVec.getLsbD_not, BitVec.getLsbD_ofNat, Nat.testBit_shiftLeft, Nat.testBit_two_pow_sub_one]
  by_cases hwidth : i < hi + 1 - lo
  · have hin : lo + i < 64 := by omega
    simp [hwidth, hin]
  · simp [hwidth]

/-- A bit is the field of its own index. -/
theorem bitOf_eq_field (w : Word) (i : Nat) : bitOf w i = decide (field w i i = 1) := by
  simp [bitOf, field, fieldN, Nat.testBit_eq_decide_div_mod_eq, Nat.shiftRight_eq_div_pow]

/-- A bit that is set reads 1. -/
theorem bitOf_setBit_true (w : Word) {i : Nat} (hi : i < 64) : bitOf (setBit w i true) i = true := by
  simp [bitOf_eq_field, setBit, field_setField_same w 1 hi]

/-- Registers are read from the table of registers alone. -/
theorem State.reg_eq_of_regs {s t : State} (h : t.regs = s.regs) (k : Nat) : t.reg k = s.reg k := by
  rw [State.reg, State.reg, h]

/-- A counter changes its own register only. -/
theorem State.reg_count_ne (s : State) {k j : Nat} (hi lo n : Nat) (h : j ≠ k) : (s.count k hi lo n).reg j = s.reg j := by
  simp [State.count, State.setRegField, State.reg_setReg, h]

/-- A counter saturates at all ones. -/
theorem State.regField_count_same (s : State) (k : Nat) {hi : Nat} (lo n : Nat) (hhi : hi < 64) :
    (s.count k hi lo n).regField k hi lo = min (s.regField k hi lo + n) (2 ^ (hi + 1 - lo) - 1) := by
  have hpos : 0 < 2 ^ (hi + 1 - lo) := Nat.two_pow_pos _
  rw [State.regField, State.count, State.setRegField, State.reg_setReg_same, field_setField_same _ _ hhi, satAdd,
    Nat.mod_eq_of_lt (by omega)]

/-- Setting status bits changes their own register only. -/
theorem State.reg_orReg_ne (s : State) {k j : Nat} (m : Nat) (h : j ≠ k) : (s.orReg k m).reg j = s.reg j := by
  simp [State.orReg, State.reg_setReg, h]

/-- A status bit that is set reads 1. -/
theorem State.bitOf_orReg_same (s : State) (k : Nat) {i : Nat} (hi : i < 64) : bitOf ((s.orReg k (2 ^ i)).reg k) i = true := by
  rw [State.orReg, State.reg_setReg_same, bitOf_or_ofNat_two_pow _ i i hi, decide_eq_true rfl, Bool.or_true]

/-- A log register that is written changes no other register. -/
theorem State.reg_logOnce_ne (s : State) {k j : Nat} (valid : Nat) (v : Word) (h : j ≠ k) : (s.logOnce k valid v).reg j = s.reg j := by
  rw [State.logOnce]
  split
  · rfl
  · simp [State.reg_setReg, h]

/-- A log register whose VALID bit is set keeps the event it holds. -/
theorem State.logOnce_of_valid (s : State) {k valid : Nat} (v : Word) (h : bitOf (s.reg k) valid = true) :
    s.logOnce k valid v = s := by
  rw [State.logOnce, if_pos h]

/-- After an event the log register's VALID bit is set. -/
theorem State.valid_logOnce (s : State) (k : Nat) {valid : Nat} (v : Word) (hv : valid < 64) :
    bitOf ((s.logOnce k valid v).reg k) valid = true := by
  rw [State.logOnce]
  split
  next h => exact h
  next => rw [State.reg_setReg_same, bitOf_setBit_true v hv]

/-! ## The registers that an error record changes (R490 to R494) -/

/-- A record that is sent changes no register. -/
theorem State.reg_publish (s : State) (sev : Nat) (bs : Bytes) (k : Nat) : (s.publish sev bs).reg k = s.reg k := by
  obtain ⟨q, l, j, h⟩ := s.publish_parts sev bs
  exact State.reg_eq_of_regs (by rw [h]) k

/-- A store changes no register. -/
theorem State.reg_store (s : State) (a : Nat) (bs : Bytes) (k : Nat) : (s.store a bs).reg k = s.reg k := by
  obtain ⟨m, t, l, w, c, q, h⟩ := s.store_parts a bs
  exact State.reg_eq_of_regs (by rw [h]) k

/-- A record written to the ring changes MGT_LOGCNT at most. -/
theorem State.reg_logStore (s : State) (seq : Nat) (bs : Bytes) {k : Nat} (hk : k ≠ rMGT_LOGCNT) :
    (s.logStore seq bs).reg k = s.reg k := by
  simp only [State.logStore, State.reg_store]
  split
  · exact s.reg_count_ne 63 32 1 hk
  · rfl

/-- But for MGT_LOGCNT, an error record changes the registers as the step of MGT_LOG does. -/
theorem State.reg_record (s : State) (b : RecBody) {k : Nat} (hk : k ≠ rMGT_LOGCNT) :
    (s.record b).reg k = (s.setReg rMGT_LOG (s.reg rMGT_LOG + 1)).reg k := by
  have hnext : BitVec.ofNat 64 ((s.reg rMGT_LOG).toNat + 1) = s.reg rMGT_LOG + 1 := by
    rw [BitVec.ofNat_add, BitVec.ofNat_toNat, BitVec.setWidth_eq]
    rfl
  simp only [State.record, hnext]
  split
  · split
    · exact State.reg_publish _ _ _ k
    · rw [State.reg_count_ne _ _ _ _ hk, State.reg_publish]
  · rw [State.reg_logStore _ _ _ hk, State.reg_publish]

/-- An error record changes no register but MGT_LOG and MGT_LOGCNT. -/
theorem State.reg_record_ne (s : State) (b : RecBody) {k : Nat} (hlog : k ≠ rMGT_LOG) (hcnt : k ≠ rMGT_LOGCNT) :
    (s.record b).reg k = s.reg k := by
  rw [s.reg_record b hcnt, State.reg_setReg, if_neg hlog]

/-- An error record takes the next SEQ. -/
theorem State.reg_record_log (s : State) (b : RecBody) : (s.record b).reg rMGT_LOG = s.reg rMGT_LOG + 1 := by
  rw [s.reg_record b (by decide), State.reg_setReg_same]

/-! ## What a denied write leaves (R478) -/

/-- The state in which a denied write is counted, marked and logged, before its error record. -/
def State.denyLogged (s : State) (who : Initiator) (off : Nat) : State :=
  ((s.count rWDN_DENYCNT 31 0 1).orReg rWDN_STATUS 1).logOnce rWDN_DENYLOG 63
    (BitVec.ofNat 64 (initCode who * 2 ^ 60 + off % 2 ^ 26 - off % 8))

section denied
variable (s : State) (who : Initiator) (off : Nat)

/-- The first denied write since WDN_DENYLOG.VALID was cleared has an error record. -/
theorem State.deny_of_first (h : bitOf (s.reg rWDN_DENYLOG) 63 = false) :
    s.deny who off =
      (s.denyLogged who off).record ⟨sevInfo, 20, 0, 0, 0, 0, 0, (s.denyLogged who off).reg rWDN_DENYLOG, 0⟩ := by
  simp [State.deny, State.denyLogged, h]

/-- A later denied write has none. -/
theorem State.deny_of_later (h : bitOf (s.reg rWDN_DENYLOG) 63 = true) : s.deny who off = s.denyLogged who off := by
  simp [State.deny, State.denyLogged, h]

/-- Registers outside MGT_LOG and MGT_LOGCNT hold after a denied write what they held before its error record. -/
theorem State.reg_deny {k : Nat} (hlog : k ≠ rMGT_LOG) (hcnt : k ≠ rMGT_LOGCNT) :
    (s.deny who off).reg k = (s.denyLogged who off).reg k := by
  cases h : bitOf (s.reg rWDN_DENYLOG) 63 with
  | true => rw [s.deny_of_later who off h]
  | false => rw [s.deny_of_first who off h, State.reg_record_ne _ _ hlog hcnt]

/-- Counting, marking and logging a denied write changes three registers. -/
theorem State.reg_denyLogged_ne {k : Nat} (hcnt : k ≠ rWDN_DENYCNT) (hstatus : k ≠ rWDN_STATUS) (hlog : k ≠ rWDN_DENYLOG) :
    (s.denyLogged who off).reg k = s.reg k := by
  rw [State.denyLogged, State.reg_logOnce_ne _ _ _ hlog, State.reg_orReg_ne _ _ hstatus, State.reg_count_ne _ _ _ _ hcnt]

/-- A denied write changes no register but those of its count, its mark, its log and its error record. -/
theorem State.reg_deny_ne {k : Nat} (hcnt : k ≠ rWDN_DENYCNT) (hstatus : k ≠ rWDN_STATUS) (hlog : k ≠ rWDN_DENYLOG)
    (hrec : k ≠ rMGT_LOG) (hlost : k ≠ rMGT_LOGCNT) : (s.deny who off).reg k = s.reg k := by
  rw [s.reg_deny who off hrec hlost, s.reg_denyLogged_ne who off hcnt hstatus hlog]

/-- A denied write sets WDN_STATUS.DENY. -/
theorem State.denyStatus_deny : bitOf ((s.deny who off).reg rWDN_STATUS) 0 = true := by
  rw [s.reg_deny who off (by decide) (by decide), State.denyLogged, State.reg_logOnce_ne _ _ _ (by decide)]
  exact State.bitOf_orReg_same _ rWDN_STATUS (i := 0) (by decide)

/-- A denied write is counted, and the count saturates. -/
theorem State.denyCount_deny :
    (s.deny who off).regField rWDN_DENYCNT 31 0 = min (s.regField rWDN_DENYCNT 31 0 + 1) (2 ^ 32 - 1) := by
  rw [← s.regField_count_same rWDN_DENYCNT 0 1 (by decide), State.regField, s.reg_deny who off (by decide) (by decide),
    State.denyLogged, State.reg_logOnce_ne _ _ _ (by decide), State.reg_orReg_ne _ _ (by decide), State.regField]

/-- A later denied write leaves WDN_DENYLOG. -/
theorem State.denyLog_deny_of_later (h : bitOf (s.reg rWDN_DENYLOG) 63 = true) :
    (s.deny who off).reg rWDN_DENYLOG = s.reg rWDN_DENYLOG := by
  have hmarked : ((s.count rWDN_DENYCNT 31 0 1).orReg rWDN_STATUS 1).reg rWDN_DENYLOG = s.reg rWDN_DENYLOG := by
    rw [State.reg_orReg_ne _ _ (by decide), State.reg_count_ne _ _ _ _ (by decide)]
  rw [s.deny_of_later who off h, State.denyLogged, State.logOnce_of_valid _ _ (by rwa [hmarked]), hmarked]

/-- After a denied write WDN_DENYLOG.VALID is set. -/
theorem State.denyLog_valid_deny : bitOf ((s.deny who off).reg rWDN_DENYLOG) 63 = true := by
  rw [s.reg_deny who off (by decide) (by decide)]
  exact State.valid_logOnce _ rWDN_DENYLOG _ (by decide)

/-- The first denied write takes the next SEQ of the error log. -/
theorem State.log_deny_of_first (h : bitOf (s.reg rWDN_DENYLOG) 63 = false) :
    (s.deny who off).reg rMGT_LOG = s.reg rMGT_LOG + 1 := by
  rw [s.deny_of_first who off h, State.reg_record_log, s.reg_denyLogged_ne who off (by decide) (by decide) (by decide)]

end denied

/-- A write that reaches its register and that its class does not admit is denied. -/
theorem State.gate_denied (s : State) (who : Initiator) (key : Nat) (cls : RegClass) (eff : State → State)
    (hreach : who = .host → s.hostReach key = true) (hpage : s.absentPage key = false) (hclass : s.mayWrite who cls = false) :
    s.gate who key cls eff = s.deny who key := by
  have hpasses : ¬((who = .host ∧ !s.hostReach key) ∨ s.absentPage key) := by
    rintro (⟨hhost, hfar⟩ | habsent)
    · simp [hreach hhost] at hfar
    · simp [hpage] at habsent
  rw [State.gate, if_neg hpasses, if_neg (by simp [hclass])]

/-- Settles O60: a write that its class does not admit is denied, and a denied write leaves its count, its mark, its log and, the first
time, its error record. -/
theorem deniedWritesAreDiscarded : Obligations.DeniedWritesAreDiscarded := by
  intro s who key cls eff hreach hpage hclass
  obtain ⟨_, _, _, _, _, _, _, _, _, _, _, hparts⟩ := s.deny_parts who key
  have hregs : ∀ k, k < 0x2000000 ∨ 0x100000000 ≤ k → (s.deny who key).reg k = s.reg k := by
    intro k hk
    apply s.reg_deny_ne who key <;> rintro rfl <;> revert hk <;> decide
  exact ⟨s.gate_denied who key cls eff hreach hpage hclass, by rw [hparts], by rw [hparts], by rw [hparts], hregs,
    s.denyStatus_deny who key, s.denyCount_deny who key, s.denyLog_deny_of_later who key,
    fun hfirst => ⟨s.denyLog_valid_deny who key, s.log_deny_of_first who key hfirst, s.denyLogged who key,
      s.deny_of_first who key hfirst⟩⟩

end Sys2Proof.Machine
end

section
/-! PROOFS. The queue and the reset state (log entry 1), and swaps of names between frames (spec/09 R291, R294): bit fields, sparse tables
shifted as a block, and the map entries that a swap leaves. -/

namespace Sys2Proof.Machine

/-- Settles O1: `step` read at a queue with a front command, and at an empty one. -/
theorem stepRunsTheFrontCommand : Obligations.StepRunsTheFrontCommand := by
  refine ⟨fun i rest s => rfl, fun s h => ?_⟩
  unfold step
  rw [h]

/-- Settles O4: at reset both byte stores are empty tables. -/
theorem resetMemoryIsCanonical : Obligations.ResetMemoryIsCanonical := by
  simp [Obligations.ResetMemoryIsCanonical, State.memWf]

/-! ## Fields of a word -/

/-- A field that lies below or above the one set keeps its value. -/
theorem field_setField_disjoint (w : Word) {hi lo h l : Nat} (v : Nat) (hd : h < lo ∨ hi < l) :
    field (setField w hi lo v) h l = field w h l := by
  apply Nat.eq_of_testBit_eq
  intro i
  simp only [field, fieldN, setField, Nat.testBit_mod_two_pow, Nat.testBit_shiftRight, BitVec.testBit_toNat, BitVec.getLsbD_or,
    BitVec.getLsbD_and, BitVec.getLsbD_not, BitVec.getLsbD_ofNat, Nat.testBit_shiftLeft, Nat.testBit_two_pow_sub_one]
  by_cases hwidth : i < h + 1 - l
  · have hout : ¬(lo ≤ l + i ∧ l + i - lo < hi + 1 - lo) := by omega
    by_cases h64 : l + i < 64
    · by_cases hlo : lo ≤ l + i
      · have : ¬ l + i - lo < hi + 1 - lo := fun e => hout ⟨hlo, e⟩
        simp [hwidth, h64, hlo, this]
      · simp [hwidth, h64, hlo]
    · have hge : w.getLsbD (l + i) = false := BitVec.getLsbD_of_ge w _ (by omega)
      simp [h64, hge]
  · simp [hwidth]

/-! ## Tables: membership, and blocks of keys relocated -/

section tables
variable {α : Type} [DecidableEq α]

/-- A key below every entry reads as the default. -/
theorem tget_of_lt_twfFrom (d : Nat → α) : ∀ (m : Tab α) (lo k : Nat), twfFrom d lo m = true → k < lo → tget d m k = d k
  | [], _, _, _, _ => rfl
  | (a, x) :: m, lo, k, h, hk => by
    simp only [twfFrom, Bool.and_eq_true, decide_eq_true_eq] at h
    have hak : a ≠ k := by omega
    simp only [tget, hak, if_false]
    exact tget_of_lt_twfFrom d m (a + 1) k h.2.2 (by omega)

/-- In a canonical table every entry is what its key reads as. -/
theorem tget_of_mem_twfFrom (d : Nat → α) (k : Nat) (v : α) :
    ∀ (m : Tab α) (lo : Nat), twfFrom d lo m = true → (k, v) ∈ m → lo ≤ k ∧ tget d m k = v
  | [], _, _, hm => by cases hm
  | (a, x) :: m, lo, h, hm => by
    simp only [twfFrom, Bool.and_eq_true, decide_eq_true_eq] at h
    rcases List.mem_cons.mp hm with e | hm
    · cases e
      exact ⟨h.1, by simp [tget]⟩
    · obtain ⟨hlo, hv⟩ := tget_of_mem_twfFrom d k v m (a + 1) h.2.2 hm
      have hak : a ≠ k := by omega
      exact ⟨by omega, by simp [tget, hak, hv]⟩

omit [DecidableEq α] in
/-- A key that no entry has reads as the default. -/
theorem tget_of_not_mem (d : Nat → α) (k : Nat) : ∀ m : Tab α, (∀ e ∈ m, e.1 ≠ k) → tget d m k = d k
  | [], _ => rfl
  | (a, x) :: m, h => by
    have hak : a ≠ k := h (a, x) (by simp)
    simp only [tget, hak, if_false]
    exact tget_of_not_mem d k m (fun e he => h e (by simp [he]))

omit [DecidableEq α] in
/-- Dropped keys read as the default, the others as before. -/
theorem tget_tdrop (d : Nat → α) (p : Nat → Bool) (k : Nat) : ∀ m : Tab α, tget d (tdrop p m) k = if p k then d k else tget d m k
  | [] => by simp [tdrop, tget]
  | (a, x) :: m => by
    have ih := tget_tdrop d p k m
    unfold tdrop at ih ⊢
    by_cases hak : a = k
    · subst hak
      by_cases hp : p a = true
      · simpa [hp] using ih
      · simp [hp, tget]
    · by_cases hp : p a = true
      · simpa [hp, tget, hak] using ih
      · simpa [hp, tget, hak] using ih

/-- Keys set from a list leave a key that none of them is. -/
theorem tget_foldl_tset_ne {β : Type} (d : Nat → α) (key : β → Nat) (val : β → α) (k : Nat) :
    ∀ (l : List β) (m : Tab α), (∀ e ∈ l, key e ≠ k) → tget d (l.foldl (fun m e => tset d m (key e) (val e)) m) k = tget d m k
  | [], _, _ => rfl
  | e :: l, m, h => by
    rw [List.foldl_cons, tget_foldl_tset_ne d key val k l _ (fun x hx => h x (by simp [hx])),
      tget_tset_ne d m (key e) k (val e) (Ne.symm (h e (by simp)))]

/-- Keys set from a list: one that some entry has, and all that have it agree on, reads as its value. -/
theorem tget_foldl_tset_mem {β : Type} (d : Nat → α) (key : β → Nat) (val : β → α) (k : Nat) (v : α) :
    ∀ (l : List β) (m : Tab α), (∃ e ∈ l, key e = k) → (∀ e ∈ l, key e = k → val e = v) →
      tget d (l.foldl (fun m e => tset d m (key e) (val e)) m) k = v
  | [], _, h, _ => by obtain ⟨e, he, _⟩ := h; cases he
  | e :: l, m, h, hv => by
    rw [List.foldl_cons]
    by_cases hl : ∃ x ∈ l, key x = k
    · exact tget_foldl_tset_mem d key val k v l _ hl (fun x hx => hv x (by simp [hx]))
    · have hne : ∀ x ∈ l, key x ≠ k := fun x hx hk => hl ⟨x, hx, hk⟩
      have hek : key e = k := by
        obtain ⟨x, hx, hk⟩ := h
        rcases List.mem_cons.mp hx with rfl | hx
        · exact hk
        · exact absurd hk (hne x hx)
      rw [tget_foldl_tset_ne d key val k l _ hne, ← hek, tget_tset_same, hv e (by simp) hek]

/-- A block of the entries of a canonical table, those with keys in [src, src + n). -/
def keysIn (src n : Nat) (m : Tab α) : Tab α := m.filter (fun e => decide (src ≤ e.1) && decide (e.1 < src + n))

omit [DecidableEq α] in
/-- The entries of a block have its keys. -/
theorem mem_keysIn (src n : Nat) (m : Tab α) (e : Nat × α) : e ∈ keysIn src n m ↔ e ∈ m ∧ src ≤ e.1 ∧ e.1 < src + n := by
  simp [keysIn, List.mem_filter]

/-- A table with a block set at other keys, from dst on. -/
def relocated (d : Nat → α) (src dst : Nat) (r : Tab α) (xs : Tab α) : Tab α :=
  xs.foldl (fun r e => tset d r (e.1 - src + dst) e.2) r

/-- Keys outside the place that a block is relocated to read as before. -/
theorem tget_relocated_ne (d : Nat → α) (m r : Tab α) {src dst n k : Nat} (hk : ¬(dst ≤ k ∧ k < dst + n)) :
    tget d (relocated d src dst r (keysIn src n m)) k = tget d r k := by
  refine tget_foldl_tset_ne d (fun e : Nat × α => e.1 - src + dst) Prod.snd k _ r (fun e he hek => hk ?_)
  obtain ⟨-, h1, h2⟩ := (mem_keysIn src n m e).mp he
  omega

/-- Where nothing was, a block that is relocated reads as it read at its old place. -/
theorem tget_relocated (d : Nat → α) (m r : Tab α) {src dst n k : Nat} (hm : twf d m = true) (hk : dst ≤ k) (hk' : k < dst + n)
    (hd : d (k - dst + src) = d k) (hr : tget d r k = d k) :
    tget d (relocated d src dst r (keysIn src n m)) k = tget d m (k - dst + src) := by
  by_cases hin : ∃ e ∈ keysIn src n m, e.1 - src + dst = k
  · refine tget_foldl_tset_mem d (fun e : Nat × α => e.1 - src + dst) Prod.snd k _ _ r hin (fun e he hek => ?_)
    obtain ⟨hem, h1, h2⟩ := (mem_keysIn src n m e).mp he
    have hkey : e.1 = k - dst + src := by omega
    rw [← hkey]
    exact (tget_of_mem_twfFrom d e.1 e.2 m 0 hm hem).2.symm
  · have hne : ∀ e ∈ keysIn src n m, e.1 - src + dst ≠ k := fun e he hek => hin ⟨e, he, hek⟩
    have hold : ∀ e ∈ m, e.1 ≠ k - dst + src := by
      intro e he hek
      exact hne e ((mem_keysIn src n m e).mpr ⟨he, by omega, by omega⟩) (by omega)
    rw [relocated, tget_foldl_tset_ne d (fun e : Nat × α => e.1 - src + dst) Prod.snd k _ r hne, hr, tget_of_not_mem d _ m hold, hd]

end tables

/-! ## The bytes of two frames exchanged -/

/-- The exchange of two frames drops both blocks, and sets each at the place of the other. -/
theorem State.ram_swapFrames (s : State) (fa fb : Nat) :
    (s.swapFrames fa fb).ram = relocated zeroByte fb fa (relocated zeroByte fa fb
      (tdrop (fun k => (decide (fa ≤ k) && decide (k < fa + 65536)) || (decide (fb ≤ k) && decide (k < fb + 65536))) s.ram)
      (keysIn fa 65536 s.ram)) (keysIn fb 65536 s.ram) := rfl

section frames
variable (s : State) {fa fb k : Nat}

/-- After an exchange a byte of the first frame is that of the second. -/
theorem State.ram_swapFrames_fst (hwf : s.memWf = true) (hd : fa + 65536 ≤ fb ∨ fb + 65536 ≤ fa) (hk : fa ≤ k) (hk' : k < fa + 65536) :
    tget zeroByte (s.swapFrames fa fb).ram k = tget zeroByte s.ram (k - fa + fb) := by
  rw [State.memWf, Bool.and_eq_true] at hwf
  rw [State.ram_swapFrames]
  refine tget_relocated zeroByte s.ram _ hwf.1 hk hk' rfl ?_
  rw [tget_relocated_ne _ _ _ (by omega), tget_tdrop]
  simp [hk, hk']

/-- After an exchange a byte of the second frame is that of the first. -/
theorem State.ram_swapFrames_snd (hwf : s.memWf = true) (hd : fa + 65536 ≤ fb ∨ fb + 65536 ≤ fa) (hk : fb ≤ k) (hk' : k < fb + 65536) :
    tget zeroByte (s.swapFrames fa fb).ram k = tget zeroByte s.ram (k - fb + fa) := by
  rw [State.memWf, Bool.and_eq_true] at hwf
  rw [State.ram_swapFrames, tget_relocated_ne _ _ _ (by omega)]
  refine tget_relocated zeroByte s.ram _ hwf.1 hk hk' rfl ?_
  rw [tget_tdrop]
  simp [hk, hk']

/-- An exchange leaves every byte outside the two frames. -/
theorem State.ram_swapFrames_ne (ha : ¬(fa ≤ k ∧ k < fa + 65536)) (hb : ¬(fb ≤ k ∧ k < fb + 65536)) :
    tget zeroByte (s.swapFrames fa fb).ram k = tget zeroByte s.ram k := by
  rw [State.ram_swapFrames, tget_relocated_ne _ _ _ ha, tget_relocated_ne _ _ _ hb, tget_tdrop]
  simp only [Bool.or_eq_true, Bool.and_eq_true, decide_eq_true_eq, ha, hb, or_self, if_false]

end frames

/-! ## Frames of the pool -/

/-- Frames of the pool do not overlap. -/
theorem Pool.frameAddr_disjoint (p : Pool) {i j : Nat} (hp : p.hbase + p.hsize ≤ p.pbase) (hij : i ≠ j) :
    p.frameAddr i + 65536 ≤ p.frameAddr j ∨ p.frameAddr j + 65536 ≤ p.frameAddr i := by
  unfold Pool.frameAddr
  split <;> split <;> omega

/-- The name of an address is one of the pool's. -/
theorem Pool.nameOf_lt (p : Pool) {a i : Nat} (hh : p.hsize % 65536 = 0) (hp : p.psize % 65536 = 0) (h : p.nameOf a = some i) :
    i < p.names := by
  unfold Pool.nameOf at h
  unfold Pool.names
  split at h
  · cases h; omega
  · split at h
    · cases h; omega
    · cases h

/-! ## Map entries (R291) -/

section entries
variable (s : State) (i : Nat)

/-- The map entry of another name is left as it is. -/
theorem State.mapEntry_setMapEntry_ne {j : Nat} (e : Word) (h : j ≠ i) : (s.setMapEntry i e).mapEntry j = s.mapEntry j := by
  simp only [State.mapEntry, State.setMapEntry]
  rw [tget_tset_ne _ _ _ _ _ h]
  rfl

/-- A field of the map entry just set, outside the bits kept as a count of decays. -/
theorem State.field_mapEntry_setMapEntry (e : Word) {hi lo : Nat} (h : hi < 60) :
    field ((s.setMapEntry i e).mapEntry i) hi lo = field e hi lo := by
  simp only [State.mapEntry, State.setMapEntry, tget_tset_same]
  rw [field_setField_disjoint _ _ (.inl h), field_setField_disjoint _ _ (.inl h)]

/-- The frame of a name. -/
def State.frameOf : Nat := field (s.mapEntry i) 26 0

/-- A map entry set with a new frame gives its name that frame. -/
theorem State.frameOf_setFrame (j v : Nat) (hv : v < 2 ^ 27) :
    (s.setMapEntry i (setField (s.mapEntry i) 26 0 v)).frameOf j = if j = i then v else s.frameOf j := by
  unfold State.frameOf
  split
  next h => rw [h, s.field_mapEntry_setMapEntry i _ (by decide), field_setField_same _ _ (by decide), Nat.mod_eq_of_lt hv]
  next h => rw [s.mapEntry_setMapEntry_ne i _ h]

/-- A map entry set with a new occupant leaves the frame of every name. -/
theorem State.frameOf_setOcc (j v : Nat) : (s.setMapEntry i (setField (s.mapEntry i) 53 27 v)).frameOf j = s.frameOf j := by
  unfold State.frameOf
  by_cases h : j = i
  · rw [h, s.field_mapEntry_setMapEntry i _ (by decide), field_setField_disjoint _ _ (.inl (by decide))]
  · rw [s.mapEntry_setMapEntry_ne i _ h]

end entries

/-! ## What an exchange leaves (R294) -/

section exchange
variable (s : State) (a b : Nat)

/-- An exchange leaves the pool as it is. -/
@[simp] theorem State.exchange_pool : (s.exchange a b).pool = s.pool := rfl

/-- An exchange changes the card's memory as the exchange of the two frames does. -/
theorem State.exchange_ram :
    (s.exchange a b).ram = (s.swapFrames (s.pool.frameAddr (s.frameOf a)) (s.pool.frameAddr (s.frameOf b))).ram := rfl

/-- An exchange gives each of the two names the frame of the other. -/
theorem State.frameOf_exchange (hab : a ≠ b) (ha : s.frameOf a < 2 ^ 27) (hb : s.frameOf b < 2 ^ 27) (j : Nat) :
    (s.exchange a b).frameOf j = if j = a then s.frameOf b else if j = b then s.frameOf a else s.frameOf j := by
  have hframe : ∀ i, (s.swapFrames (s.pool.frameAddr (s.frameOf a)) (s.pool.frameAddr (s.frameOf b))).frameOf i = s.frameOf i :=
    fun _ => rfl
  have hfold : ∀ i, field (s.mapEntry i) 26 0 = s.frameOf i := fun _ => rfl
  simp only [State.exchange, hfold]
  rw [State.frameOf_setOcc, State.frameOf_setOcc, State.frameOf_setFrame _ b j _ ha, State.frameOf_setFrame _ a j _ hb]
  by_cases hja : j = a
  · simp [hja, hab]
  · simp [hja]
    rfl

/-- Outside the context block map, a byte lies at its physical address in the card's memory. -/
theorem State.byte_of_mapByte_none {x : Nat} (h : s.mapByte x = none) : s.byte x = tget zeroByte s.ram (s.phys x) := by
  rw [State.byte, h]

/-- An address lies in the context block map, or not, whatever its entries hold. -/
theorem State.mapByte_exchange_none {x : Nat} (h : s.mapByte x = none) : (s.exchange a b).mapByte x = none := by
  unfold State.mapByte at h ⊢
  rw [State.exchange_pool]
  split at h
  · cases h
  next hout => rw [if_neg hout]

/-- The physical address of a pool address is in the frame of its name. -/
theorem State.phys_of_name {x i : Nat} (h : s.pool.nameOf x = some i) : s.phys x = s.pool.frameAddr (s.frameOf i) + x % 65536 := by
  simp only [State.phys, h, State.frameOf]

end exchange

/-- Settles O38: the bytes of each of the two names go where its entry then points, and every other name's frame is neither of theirs. -/
theorem swapsKeepTheBytesOfNames : Obligations.SwapsKeepTheBytesOfNames := by
  intro a b x s hwf
  dsimp only
  intro hp hh hps hn ha hb hab hlt hinj hname hmap
  obtain ⟨i, hi⟩ := Option.ne_none_iff_exists'.mp hname
  have hin : i < s.pool.names := s.pool.nameOf_lt hh hps hi
  have hframes := s.frameOf_exchange a b hab ((hlt a ha).trans_le hn) ((hlt b hb).trans_le hn) i
  have hoff : x % 65536 < 65536 := Nat.mod_lt _ (by decide)
  have hdisj : ∀ j k, j < s.pool.names → k < s.pool.names → j ≠ k →
      s.pool.frameAddr (s.frameOf j) + 65536 ≤ s.pool.frameAddr (s.frameOf k) ∨
        s.pool.frameAddr (s.frameOf k) + 65536 ≤ s.pool.frameAddr (s.frameOf j) :=
    fun j k hj hk hne => s.pool.frameAddr_disjoint hp (fun e => hne (hinj j hj k hk e))
  rw [State.byte_of_mapByte_none _ hmap, State.byte_of_mapByte_none _ (s.mapByte_exchange_none a b hmap), s.phys_of_name hi,
    (s.exchange a b).phys_of_name (by simpa using hi), hframes, State.exchange_ram, State.exchange_pool]
  by_cases hia : i = a
  · rw [if_pos hia, State.ram_swapFrames_snd s hwf (hdisj a b ha hb hab) (by omega) (by omega), hia]
    congr 1
    omega
  · by_cases hib : i = b
    · rw [if_neg hia, if_pos hib, State.ram_swapFrames_fst s hwf (hdisj a b ha hb hab) (by omega) (by omega), hib]
      congr 1
      omega
    · have hda := hdisj i a hin ha hia
      have hdb := hdisj i b hin hb hib
      rw [if_neg hia, if_neg hib, State.ram_swapFrames_ne s (by omega) (by omega)]

end Sys2Proof.Machine
end

section
/-! PROOFS. Forms on the wire read back (spec/08 R253, spec/10 R316, R319, spec/12 R391): little-endian bytes, and a CRC-32 that finds every
single wrong bit. -/

namespace Sys2Proof.Machine

/-! ## Little-endian bytes -/

/-- n bytes of a number are n bytes. -/
@[simp] theorem length_leBytes : ∀ n v : Nat, (leBytes n v).length = n
  | 0, _ => rfl
  | n + 1, v => by simp [leBytes, length_leBytes n]

/-- n bytes of a number spell it modulo 2^(8n). -/
theorem ofLe_leBytes : ∀ n v : Nat, ofLe (leBytes n v) = v % 256 ^ n
  | 0, v => by simp [leBytes, ofLe, Nat.mod_one]
  | n + 1, v => by
    simp only [leBytes, ofLe, ofLe_leBytes n, BitVec.toNat_ofNat, Nat.pow_succ']
    exact (Nat.mod_mul).symm

/-- A field of a byte string lies in the part that holds it: at its start … -/
theorem leAt_append_self (n v : Nat) (b : Bytes) : leAt (leBytes n v ++ b) 0 n = v % 256 ^ n := by
  simp [leAt, List.take_append, ofLe_leBytes]

/-- … or beyond a first part. -/
theorem leAt_append_right (a b : Bytes) {o n : Nat} (h : a.length ≤ o) : leAt (a ++ b) o n = leAt b (o - a.length) n := by
  have hd : (a ++ b).drop o = b.drop (o - a.length) := by simp [List.drop_append, h]
  simp only [leAt, hd]

/-- A field that lies in the first part. -/
theorem leAt_append_left (a b : Bytes) {o n : Nat} (h : o + n ≤ a.length) : leAt (a ++ b) o n = leAt a o n := by
  have h1 : (a ++ b).drop o = a.drop o ++ b := by simp [List.drop_append, show o - a.length = 0 by omega]
  have h2 : n - (a.length - o) = 0 := by omega
  simp only [leAt, h1, List.take_append, List.length_drop, h2, List.take_zero, List.append_nil]

/-- The first bytes of a number are its bytes. -/
theorem leAt_leBytes_first {n m : Nat} (v : Nat) (h : n ≤ m) : leAt (leBytes m v) 0 n = v % 256 ^ n := by
  have htake : ∀ (n m v : Nat), n ≤ m → (leBytes m v).take n = leBytes n v := by
    intro n
    induction n with
    | zero => intro m v _; rfl
    | succ n ih =>
      intro m v hm
      obtain ⟨m, rfl⟩ : ∃ k, m = k + 1 := ⟨m - 1, by omega⟩
      simp [leBytes, ih m (v / 256) (by omega)]
  simp only [leAt, List.drop_zero, htake n m v h, ofLe_leBytes]

/-! ## Frames of DIRECT mode (R319) -/

/-- A byte string with its CRC-32 behind it passes the check of frames. -/
theorem crcHolds_append (b : Bytes) : crcHolds (b ++ leBytes 4 (crc32 b).toNat) = true := by
  have hlen : (b ++ leBytes 4 (crc32 b).toNat).length - 4 = b.length := by simp
  have hcrc : leAt (b ++ leBytes 4 (crc32 b).toNat) b.length 4 = (crc32 b).toNat := by
    rw [leAt_append_right _ _ (Nat.le_refl _), Nat.sub_self, leAt_leBytes_first _ (Nat.le_refl _)]
    exact Nat.mod_eq_of_lt (crc32 b).isLt
  simp [crcHolds, hlen, hcrc, List.take_append]

/-- A frame reads back as it was sent. -/
theorem directFrames_readBack : Claims.DirectFramesReadBack := by
  intro kind vc ttl body hkind httl
  have hfirst : leAt (directOctets kind vc ttl body) 0 1 = kind + 16 * b2n vc := by
    have hlt : kind + 16 * b2n vc < 256 := by cases vc <;> simp [b2n] <;> omega
    rw [directOctets, List.append_assoc, List.append_assoc, leAt_append_self]
    exact Nat.mod_eq_of_lt hlt
  have httl' : leAt (directOctets kind vc ttl body) 1 1 = ttl := by
    rw [directOctets, List.append_assoc, List.append_assoc, leAt_append_right _ _ (by simp),
      leAt_append_left _ _ (by simp), length_leBytes, leAt_leBytes_first _ (by decide)]
    omega
  have hbody : (directOctets kind vc ttl body).take ((directOctets kind vc ttl body).length - 4) =
      leBytes 1 (kind + 16 * b2n vc) ++ leBytes 6 ttl ++ body := by
    rw [directOctets, List.length_append, length_leBytes, Nat.add_sub_cancel, List.take_left]
  refine ⟨crcHolds_append _, ?_, ?_, httl', ?_⟩
  · rw [hfirst]; omega
  · rw [hfirst, Nat.testBit_eq_decide_div_mod_eq]
    cases vc
    · simp only [b2n]; simp; omega
    · simp only [b2n]; simp; omega
  · rw [hbody, List.drop_append]
    simp

/-! ## Seal messages (R391) -/

/-- The flags of a seal message fill a byte, and each reads back. -/
theorem sealFlags_readBack : ∀ (bounded loss nonrep lapse : Bool) (depth : BitVec 3),
    let f := b2n bounded + 2 * b2n loss + 4 * b2n nonrep + 8 * depth.toNat + 64 * b2n lapse
    f % 256 ^ 1 = f ∧ f.testBit 0 = bounded ∧ f.testBit 1 = loss ∧ f.testBit 2 = nonrep ∧ BitVec.ofNat 3 (f / 8) = depth ∧
      f.testBit 6 = lapse := by
  decide

/-- A number cut to the bytes of a field that holds it, and taken back to its width. -/
theorem ofNat_toNat_mod {w : Nat} (x : BitVec w) {n : Nat} (h : w ≤ 8 * n) : BitVec.ofNat w (x.toNat % 256 ^ n) = x := by
  have hle : 2 ^ w ≤ 256 ^ n := by
    rw [show (256 : Nat) = 2 ^ 8 by norm_num, ← Nat.pow_mul]
    exact Nat.pow_le_pow_right (by decide) h
  rw [Nat.mod_eq_of_lt (x.isLt.trans_le hle), BitVec.ofNat_toNat, BitVec.setWidth_eq]

/-- A seal message reads back from its payload. -/
theorem sealPayloads_readBack : Claims.SealPayloadsReadBack := by
  intro m hlen
  obtain ⟨⟨dev, core, incarn⟩, kind, bounded, loss, nonrep, depth, lapse, epoch, len, addr⟩ := m
  obtain ⟨hf, hb, hl, hn, hd, hp⟩ := sealFlags_readBack bounded loss nonrep lapse depth
  refine ⟨?_, by simp [sealBytes]⟩
  have hlen' : len % 256 ^ 4 = len := Nat.mod_eq_of_lt hlen
  simp only [sealBytes, sealOf, List.append_assoc, leAt_append_right, leAt_append_self, length_leBytes, Nat.reduceLeDiff, Nat.reduceSub,
    hf, hb, hl, hn, hd, hp, hlen', ofNat_toNat_mod, Nat.reduceMul]
  cases kind <;> rfl

/-! ## Span packets (R316, R343) -/

/-- The flags of a span header fill a byte, and each reads back. -/
theorem spanFlags_readBack : ∀ prompt fence adv prot region phase : Bool,
    let f := b2n prompt + 4 * b2n fence + 8 * b2n adv + 16 * b2n prot + 32 * b2n region + 64 * b2n phase
    f % 256 ^ 1 = f ∧ f.testBit 0 = prompt ∧ f.testBit 1 = false ∧ f.testBit 2 = fence ∧ f.testBit 3 = adv ∧ f.testBit 4 = prot ∧
      f.testBit 5 = region ∧ f.testBit 6 = phase ∧ f.testBit 7 = false := by
  decide

/-- TYPE reads back. -/
theorem spanTypeOf_code (t : SpanType) : spanTypeOf (spanTypeCode t % 256 ^ 1) = t := by cases t <;> rfl

/-- STATUS reads back, and is none of the reserved ones. -/
theorem statusOf_code (x : RespStatus) : statusOf (statusCode x % 256 ^ 1) = x ∧ ¬3 < statusCode x % 256 ^ 1 := by
  cases x <;> exact ⟨rfl, by decide⟩

/-- A span header is 32 B. -/
@[simp] theorem length_spanHeader (p : SpanPkt) : (spanHeader p).length = 32 := by simp [spanHeader]

/-- What spanOf makes of a header of a packet and the bytes behind it. -/
theorem spanOf_header_append (p : SpanPkt) (r : Bytes) (hlen : p.len < 2 ^ 16) :
    spanOf (spanHeader p ++ r) =
      { p with
        payload := if p.prot.isSome then (r.drop 8).take (r.length - 24) else r
        prot := if p.prot.isSome then some ((p.prot.map (fun x => x.1)).getD false, BitVec.ofNat 64 (leAt r 0 8),
          BitVec.ofNat 128 (leAt r (r.length - 16) 16)) else none
        resv := decide (r.length < (if p.prot.isSome then 24 else 0)) } := by
  obtain ⟨hf, h0, h1, h2, h3, h4, h5, h6, h7⟩ := spanFlags_readBack p.prompt p.fence p.adv p.prot.isSome p.region
    ((p.prot.map (fun x => x.1)).getD false)
  obtain ⟨hst, hst3⟩ := statusOf_code p.status
  have hlen' : p.len % 256 ^ 2 = p.len := Nat.mod_eq_of_lt hlen
  have hwin : ¬4096 ≤ p.window.toNat % 256 ^ 2 := by have := p.window.isLt; omega
  have hdrop : (spanHeader p ++ r).drop 32 = r := List.drop_left' (length_spanHeader p)
  have hshort : ∀ k, decide (32 + r.length < 32 + k) = decide (r.length < k) := fun k => by simp
  have hfield : ∀ o n, o + n ≤ 32 → leAt (spanHeader p ++ r) o n = leAt (spanHeader p) o n :=
    fun o n h => leAt_append_left _ _ (by simpa using h)
  unfold spanOf
  rw [hdrop]
  simp only [hfield, Nat.reduceLeDiff, Nat.reduceAdd, List.length_append, length_spanHeader, hshort]
  simp only [spanHeader, List.append_assoc, leAt_append_right, leAt_append_self, length_leBytes, Nat.reduceLeDiff, Nat.reduceSub,
    leAt_leBytes_first, Nat.le_refl, hf, h0, h1, h2, h3, h4, h5, h6, h7, hst, hst3, hlen', hwin, spanTypeOf_code, ofNat_toNat_mod,
    Nat.reduceMul, Nat.zero_mod, decide_false, Bool.or_false, Bool.false_or, ne_eq, not_true_eq_false]

/-- A span packet reads back from its bytes. -/
theorem spanPackets_readBack : Claims.SpanPacketsReadBack := by
  intro p hresv hlen
  cases hp : p.prot with
  | none =>
    rw [show spanWire p = spanHeader p ++ p.payload by simp [spanWire, hp], spanOf_header_append p _ hlen]
    cases p
    simp_all
  | some x =>
    obtain ⟨phase, ctr, tag⟩ := x
    rw [show spanWire p = spanHeader p ++ (leBytes 8 ctr.toNat ++ (p.payload ++ leBytes 16 tag.toNat)) by simp [spanWire, hp],
      spanOf_header_append p _ hlen]
    have hctr : leAt (leBytes 8 ctr.toNat ++ (p.payload ++ leBytes 16 tag.toNat)) 0 8 = ctr.toNat := by
      rw [leAt_append_self]
      exact Nat.mod_eq_of_lt ctr.isLt
    have htag : leAt (leBytes 8 ctr.toNat ++ (p.payload ++ leBytes 16 tag.toNat)) (8 + (p.payload.length + 16) - 16) 16 = tag.toNat := by
      rw [leAt_append_right _ _ (by simp; omega), leAt_append_right _ _ (by simp; omega), length_leBytes,
        show 8 + (p.payload.length + 16) - 16 - 8 - p.payload.length = 0 by omega, leAt_leBytes_first _ (Nat.le_refl _)]
      exact Nat.mod_eq_of_lt tag.isLt
    have hpay : ((leBytes 8 ctr.toNat ++ (p.payload ++ leBytes 16 tag.toNat)).drop 8).take (8 + (p.payload.length + 16) - 24) = p.payload := by
      rw [List.drop_left' (length_leBytes 8 _), List.take_left']
      omega
    simp only [hp, Option.isSome_some, if_true, List.length_append, length_leBytes, hctr, htag, hpay, BitVec.ofNat_toNat,
      BitVec.setWidth_eq, Option.map_some, Option.getD_some, show ¬8 + (p.payload.length + 16) < 24 by omega, decide_false]
    cases p
    simp_all

/-! ## The CRC of flits finds single wrong bits (R253) -/

/-- One step of the CRC's register. -/
def crcShift (x : Nat) : Nat := if x.testBit 0 then (x >>> 1) ^^^ 0xEDB88320 else x >>> 1

/-- The top bit of a register after a step is the lowest one before: the polynomial has its highest bit. -/
theorem testBit_crcShift {x : Nat} (hx : x < 2 ^ 32) : (crcShift x).testBit 31 = x.testBit 0 := by
  have hhigh : x.testBit 32 = false := Nat.testBit_lt_two_pow hx
  unfold crcShift
  split
  next h => simp [Nat.testBit_shiftRight, hhigh, h]; decide
  next h => simp [Nat.testBit_shiftRight, hhigh, h]

/-- A step keeps the register within 32 bits. -/
theorem crcShift_lt {x : Nat} (hx : x < 2 ^ 32) : crcShift x < 2 ^ 32 := by
  have hs : x >>> 1 < 2 ^ 32 := by rw [Nat.shiftRight_eq_div_pow]; omega
  unfold crcShift
  split
  · exact Nat.xor_lt_two_pow hs (by decide)
  · exact hs

/-- Registers that differ differ after a step. -/
theorem crcShift_inj {x y : Nat} (hx : x < 2 ^ 32) (hy : y < 2 ^ 32) (h : crcShift x = crcShift y) : x = y := by
  have hbit : x.testBit 0 = y.testBit 0 := by rw [← testBit_crcShift hx, ← testBit_crcShift hy, h]
  have hshift : x >>> 1 = y >>> 1 := by
    unfold crcShift at h
    rw [hbit] at h
    split at h
    · exact Nat.xor_right_injective (x := 0xEDB88320) (by simpa [Nat.xor_comm] using h)
    · exact h
  rw [Nat.shiftRight_eq_div_pow, Nat.shiftRight_eq_div_pow] at hshift
  simp only [Nat.testBit_zero, decide_eq_decide] at hbit
  omega

/-- The steps of one byte are the register's. -/
theorem crcByte_go (n : Nat) : ∀ x : Nat, crcByte.go n x = crcShift^[n] x := by
  induction n with
  | zero => intro x; rfl
  | succ n ih => intro x; rw [crcByte.go, ih]; rfl

/-- Steps keep the register within 32 bits. -/
theorem iterate_crcShift_lt (n : Nat) : ∀ {x : Nat}, x < 2 ^ 32 → crcShift^[n] x < 2 ^ 32 := by
  induction n with
  | zero => exact fun h => h
  | succ n ih => exact fun h => ih (crcShift_lt h)

/-- Registers that differ differ after any number of steps. -/
theorem iterate_crcShift_inj (n : Nat) : ∀ {x y : Nat}, x < 2 ^ 32 → y < 2 ^ 32 → crcShift^[n] x = crcShift^[n] y → x = y := by
  induction n with
  | zero => exact fun _ _ h => h
  | succ n ih => exact fun hx hy h => crcShift_inj hx hy (ih (crcShift_lt hx) (crcShift_lt hy) h)

/-- A byte taken in keeps the register within 32 bits. -/
theorem crcByte_lt {c b : Nat} (hc : c < 2 ^ 32) (hb : b < 256) : crcByte c b < 2 ^ 32 := by
  rw [crcByte, crcByte_go]
  exact iterate_crcShift_lt 8 (Nat.xor_lt_two_pow hc (by omega))

/-- Registers that differ, or bytes that differ, give registers that differ. -/
theorem crcByte_eq {c d a b : Nat} (hc : c < 2 ^ 32) (hd : d < 2 ^ 32) (ha : a < 256) (hb : b < 256) (h : crcByte c a = crcByte d b) :
    c ^^^ a = d ^^^ b := by
  rw [crcByte, crcByte, crcByte_go, crcByte_go] at h
  exact iterate_crcShift_inj 8 (Nat.xor_lt_two_pow hc (by omega)) (Nat.xor_lt_two_pow hd (by omega)) h

/-- The register after a byte string. -/
def crcFold (bs : Bytes) (c : Nat) : Nat := bs.foldl (fun c b => crcByte c b.toNat) c

/-- A byte string is taken in from its first byte on. -/
theorem crcFold_cons (b : Byte) (bs : Bytes) (c : Nat) : crcFold (b :: bs) c = crcFold bs (crcByte c b.toNat) := rfl

/-- A byte string keeps the register within 32 bits. -/
theorem crcFold_lt : ∀ (bs : Bytes) {c : Nat}, c < 2 ^ 32 → crcFold bs c < 2 ^ 32
  | [], _, h => h
  | b :: bs, _, h => crcFold_lt bs (crcByte_lt h b.isLt)

/-- Registers that differ differ after one byte string. -/
theorem crcFold_inj : ∀ (bs : Bytes) {c d : Nat}, c < 2 ^ 32 → d < 2 ^ 32 → crcFold bs c = crcFold bs d → c = d
  | [], _, _, _, _, h => h
  | b :: bs, _, _, hc, hd, h =>
    Nat.xor_left_injective (x := b.toNat) (crcByte_eq hc hd b.isLt b.isLt (crcFold_inj bs (crcByte_lt hc b.isLt) (crcByte_lt hd b.isLt) h))

/-- A number with one bit inverted leads to another register than the number itself. -/
theorem crcFold_leBytes_flip : ∀ (n v i : Nat) {c : Nat}, c < 2 ^ 32 → i < 8 * n →
    crcFold (leBytes n (v ^^^ 2 ^ i)) c ≠ crcFold (leBytes n v) c
  | 0, _, _, _, _, hi => absurd hi (by omega)
  | n + 1, v, i, c, hc, hi => by
    have hdiv : (v ^^^ 2 ^ i) / 256 = (v / 256) ^^^ (2 ^ i / 256) := Nat.xor_div_two_pow (n := 8)
    have hmod : (BitVec.ofNat 8 (v ^^^ 2 ^ i)).toNat = (v % 256) ^^^ (2 ^ i % 256) := Nat.xor_mod_two_pow (n := 8)
    simp only [leBytes, hdiv]
    intro h
    rw [crcFold_cons, crcFold_cons] at h
    by_cases h8 : i < 8
    · have hsmall : 2 ^ i < 256 := Nat.pow_lt_pow_right (a := 2) (n := 8) (by decide) h8
      rw [Nat.div_eq_of_lt hsmall, Nat.xor_zero] at h
      have hx := crcByte_eq hc hc (BitVec.isLt _) (BitVec.isLt _)
        (crcFold_inj _ (crcByte_lt hc (BitVec.isLt _)) (crcByte_lt hc (BitVec.isLt _)) h)
      have hbyte := Nat.xor_right_injective hx
      rw [hmod, Nat.mod_eq_of_lt hsmall] at hbyte
      have : 2 ^ i = 0 := Nat.xor_right_injective (x := v % 256) (by simpa using hbyte)
      exact absurd this (Nat.two_pow_pos i).ne'
    · obtain ⟨j, rfl⟩ : ∃ j, i = j + 8 := ⟨i - 8, by omega⟩
      have hj : 2 ^ (j + 8) / 256 = 2 ^ j := by rw [Nat.pow_add]; exact Nat.mul_div_cancel _ (by decide)
      have hm : (BitVec.ofNat 8 (v ^^^ 2 ^ (j + 8))).toNat = (BitVec.ofNat 8 v).toNat := by
        rw [hmod, Nat.pow_add, Nat.mul_mod_left, Nat.xor_zero]; rfl
      rw [hj, hm] at h
      exact crcFold_leBytes_flip n (v / 256) j (crcByte_lt hc (BitVec.isLt _)) (by omega) h

/-- One bit taken in is one step of the register. -/
theorem crcBits_succ (n v c : Nat) : crcBits (n + 1) v c = crcBits n (v / 2) (crcShift (c ^^^ (v % 2))) := rfl

/-- A bit taken in keeps the register within 32 bits. -/
theorem crcBit_lt {c : Nat} (v : Nat) (hc : c < 2 ^ 32) : crcShift (c ^^^ (v % 2)) < 2 ^ 32 :=
  crcShift_lt (Nat.xor_lt_two_pow hc (by omega))

/-- Bits taken in keep the register within 32 bits. -/
theorem crcBits_lt : ∀ (n v : Nat) {c : Nat}, c < 2 ^ 32 → crcBits n v c < 2 ^ 32
  | 0, _, _, h => h
  | n + 1, v, _, h => crcBits_lt n (v / 2) (crcBit_lt v h)

/-- Registers that differ differ after the same bits. -/
theorem crcBits_inj : ∀ (n v : Nat) {c d : Nat}, c < 2 ^ 32 → d < 2 ^ 32 → crcBits n v c = crcBits n v d → c = d
  | 0, _, _, _, _, _, h => h
  | n + 1, v, _, _, hc, hd, h =>
    Nat.xor_left_injective (x := v % 2) (crcShift_inj (Nat.xor_lt_two_pow hc (by omega)) (Nat.xor_lt_two_pow hd (by omega))
      (crcBits_inj n (v / 2) (crcBit_lt v hc) (crcBit_lt v hd) h))

/-- Bits of which one is inverted lead to another register. -/
theorem crcBits_flip : ∀ (n v i : Nat) {c : Nat}, c < 2 ^ 32 → i < n → crcBits n (v ^^^ 2 ^ i) c ≠ crcBits n v c
  | 0, _, _, _, _, hi => absurd hi (by omega)
  | n + 1, v, 0, c, hc, _ => by
    have hdiv : (v ^^^ 2 ^ 0) / 2 = v / 2 := by rw [Nat.xor_div_two]; simp
    rw [crcBits_succ, crcBits_succ, hdiv]
    intro h
    have hx := Nat.xor_right_injective (crcShift_inj (Nat.xor_lt_two_pow hc (by omega)) (Nat.xor_lt_two_pow hc (by omega))
      (crcBits_inj n _ (crcBit_lt _ hc) (crcBit_lt _ hc) h))
    have hbit : (v ^^^ 2 ^ 0) % 2 = (v % 2) ^^^ 1 := Nat.xor_mod_two_pow (n := 1)
    rw [hbit] at hx
    rcases Nat.mod_two_eq_zero_or_one v with h0 | h0 <;> simp [h0] at hx
  | n + 1, v, i + 1, c, hc, hi => by
    have hdiv : (v ^^^ 2 ^ (i + 1)) / 2 = (v / 2) ^^^ 2 ^ i := by
      rw [Nat.xor_div_two, Nat.pow_succ, Nat.mul_div_cancel _ (by decide)]
    have hbit : (v ^^^ 2 ^ (i + 1)) % 2 = v % 2 := by
      rw [show (v ^^^ 2 ^ (i + 1)) % 2 = (v % 2) ^^^ (2 ^ (i + 1) % 2) from Nat.xor_mod_two_pow (n := 1), Nat.pow_succ,
        Nat.mul_mod_left, Nat.xor_zero]
    rw [crcBits_succ, crcBits_succ, hdiv, hbit]
    exact crcBits_flip n (v / 2) i (crcBit_lt v hc) (by omega)

/-- The register after the data bits of a flit. -/
def flitReg (d : BitVec 2048) : Nat := crcFold (leBytes 256 d.toNat) 0xFFFFFFFF

/-- The CRC of a flit, as the register's complement. -/
theorem flitCrc_eq (f : Flit) : flitCrc f = BitVec.ofNat 32 (crcBits 5 (sideband f) (flitReg f.data) ^^^ 0xFFFFFFFF) := rfl

/-- Flits whose registers differ have CRCs that differ. -/
theorem flitCrc_ne {f g : Flit} (h : crcBits 5 (sideband f) (flitReg f.data) ≠ crcBits 5 (sideband g) (flitReg g.data)) :
    flitCrc f ≠ flitCrc g := by
  have hlt : ∀ x : Flit, crcBits 5 (sideband x) (flitReg x.data) ^^^ 0xFFFFFFFF < 2 ^ 32 := fun x =>
    Nat.xor_lt_two_pow (crcBits_lt 5 _ (crcFold_lt _ (by decide))) (by decide)
  rw [flitCrc_eq, flitCrc_eq]
  intro e
  have e' := congrArg BitVec.toNat e
  rw [BitVec.toNat_ofNat, BitVec.toNat_ofNat, Nat.mod_eq_of_lt (hlt f), Nat.mod_eq_of_lt (hlt g)] at e'
  exact h (Nat.xor_left_injective (x := 0xFFFFFFFF) e')

/-- A part of an error of one bit: that bit where it lies in the part, and none elsewhere. -/
theorem extract_oneBit (i lo n : Nat) (hn : lo + n ≤ 2085) :
    (BitVec.ofNat 2085 (2 ^ i)).extractLsb' lo n = if lo ≤ i ∧ i < lo + n then BitVec.ofNat n (2 ^ (i - lo)) else 0#n := by
  apply BitVec.eq_of_getLsbD_eq
  intro j hj
  have hin : lo + j < 2085 := by omega
  simp only [BitVec.getLsbD_extractLsb', hj, decide_true, Bool.true_and, BitVec.getLsbD_ofNat, hin, Nat.testBit_two_pow]
  split
  next h => simp only [BitVec.getLsbD_ofNat, hj, decide_true, Bool.true_and, Nat.testBit_two_pow, decide_eq_decide]; omega
  next h => rw [BitVec.getLsbD_zero, decide_eq_false_iff_not]; omega

/-- Each bit of the sideband, inverted, is that bit of its number inverted. -/
theorem sideband_flip : ∀ (kind vc : BitVec 2) (kill : Bool) (j : Fin 5),
    (kind ^^^ (if 0 ≤ j.val ∧ j.val < 2 then BitVec.ofNat 2 (2 ^ j.val) else 0#2)).toNat +
      4 * (vc ^^^ (if 2 ≤ j.val ∧ j.val < 4 then BitVec.ofNat 2 (2 ^ (j.val - 2)) else 0#2)).toNat +
      16 * b2n (kill ^^ decide (j.val = 4)) = (kind.toNat + 4 * vc.toNat + 16 * b2n kill) ^^^ 2 ^ j.val := by
  decide

section damage
variable (f : Flit) {i : Nat}

/-- An error in a data bit leaves the sideband and inverts that bit of the data. -/
theorem damagedFlit_data (hi : i < 2048) :
    damagedFlit f (BitVec.ofNat 2085 (2 ^ i)) = { f with data := f.data ^^^ BitVec.ofNat 2048 (2 ^ i) } := by
  have hkill : (BitVec.ofNat 2085 (2 ^ i)).getLsbD 2052 = false := by
    simp only [BitVec.getLsbD_ofNat, Nat.testBit_two_pow, Nat.reduceLT, decide_true, Bool.true_and, decide_eq_false_iff_not]
    omega
  simp only [damagedFlit, extract_oneBit, Nat.reduceAdd, Nat.reduceLeDiff, hkill, Nat.zero_le, true_and, Nat.zero_add, hi, if_true,
    Nat.sub_zero, show ¬(2048 ≤ i) by omega, show ¬(2050 ≤ i) by omega, show ¬(2053 ≤ i) by omega, false_and, if_false, BitVec.xor_zero,
    Bool.xor_false]

/-- An error in a bit of the sideband below the CRC inverts that bit of its number, and leaves data and CRC. -/
theorem damagedFlit_sideband (h1 : 2048 ≤ i) (h2 : i < 2053) :
    sideband (damagedFlit f (BitVec.ofNat 2085 (2 ^ i))) = sideband f ^^^ 2 ^ (i - 2048) ∧
      (damagedFlit f (BitVec.ofNat 2085 (2 ^ i))).data = f.data ∧ (damagedFlit f (BitVec.ofNat 2085 (2 ^ i))).crc = f.crc := by
  obtain ⟨j, rfl⟩ : ∃ j, i = 2048 + j := ⟨i - 2048, by omega⟩
  have hkill : (BitVec.ofNat 2085 (2 ^ (2048 + j))).getLsbD 2052 = decide (j = 4) := by
    simp only [BitVec.getLsbD_ofNat, Nat.testBit_two_pow, Nat.reduceLT, decide_true, Bool.true_and, decide_eq_decide]; omega
  have hflip := sideband_flip f.kind f.vc f.kill ⟨j, by omega⟩
  simp only [damagedFlit, sideband, extract_oneBit, Nat.reduceAdd, Nat.reduceLeDiff, hkill]
  refine ⟨?_, ?_, ?_⟩
  · rw [Nat.add_sub_cancel_left, ← hflip]
    have e1 : (2048 ≤ 2048 + j ∧ 2048 + j < 2048 + 2) ↔ (0 ≤ j ∧ j < 2) := by omega
    have e2 : (2050 ≤ 2048 + j ∧ 2048 + j < 2050 + 2) ↔ (2 ≤ j ∧ j < 4) := by omega
    have e3 : 2048 + j - 2050 = j - 2 := by omega
    simp only [e1, e2, e3, Nat.add_sub_cancel_left]
  · rw [if_neg (by omega), BitVec.xor_zero]
  · rw [if_neg (by omega), BitVec.xor_zero]

/-- An error in a bit of the CRC changes the CRC alone. -/
theorem damagedFlit_crc (h1 : 2053 ≤ i) (h2 : i < 2085) :
    damagedFlit f (BitVec.ofNat 2085 (2 ^ i)) = { f with crc := f.crc ^^^ BitVec.ofNat 32 (2 ^ (i - 2053)) } := by
  have hkill : (BitVec.ofNat 2085 (2 ^ i)).getLsbD 2052 = false := by
    simp only [BitVec.getLsbD_ofNat, Nat.testBit_two_pow, Nat.reduceLT, decide_true, Bool.true_and, decide_eq_false_iff_not]
    omega
  have e1 : ¬(0 ≤ i ∧ i < 0 + 2048) := by omega
  have e2 : ¬(2048 ≤ i ∧ i < 2048 + 2) := by omega
  have e3 : ¬(2050 ≤ i ∧ i < 2050 + 2) := by omega
  have e4 : 2053 ≤ i ∧ i < 2053 + 32 := by omega
  simp only [damagedFlit, extract_oneBit, Nat.reduceAdd, Nat.reduceLeDiff, hkill, e1, e2, e3, e4, if_false, if_true, and_self, BitVec.xor_zero,
    Bool.xor_false]

end damage

/-- A good flit with one bit inverted fails its check: an error in data or sideband changes the CRC that it should have, and one in the CRC
changes the one it has. -/
theorem flitChecks_findSingleErrors : Claims.FlitChecksFindSingleErrors := by
  intro f i hok hi
  have hcrc : flitCrc f = f.crc := by simpa [flitOk] using hok
  simp only [flitOk, decide_eq_false_iff_not]
  by_cases hdata : i < 2048
  · rw [damagedFlit_data f hdata]
    refine fun h => flitCrc_ne ?_ (h.trans hcrc.symm)
    intro heq
    have hreg := crcBits_inj 5 (sideband f) (crcFold_lt _ (by decide)) (crcFold_lt _ (by decide)) heq
    have hbits : (f.data ^^^ BitVec.ofNat 2048 (2 ^ i)).toNat = f.data.toNat ^^^ 2 ^ i := by
      rw [BitVec.toNat_xor, BitVec.toNat_ofNat, Nat.mod_eq_of_lt (Nat.pow_lt_pow_right (by decide) hdata)]
    simp only [flitReg, hbits] at hreg
    exact crcFold_leBytes_flip 256 f.data.toNat i (by decide) (by omega) hreg
  · by_cases hside : i < 2053
    · obtain ⟨hsb, hd, hc⟩ := damagedFlit_sideband f (by omega) hside
      rw [hc, ← hcrc]
      refine flitCrc_ne ?_
      rw [hsb, hd]
      exact crcBits_flip 5 _ _ (crcFold_lt _ (by decide)) (by omega)
    · rw [damagedFlit_crc f (by omega) hi]
      intro h
      have hkeep : flitCrc { f with crc := f.crc ^^^ BitVec.ofNat 32 (2 ^ (i - 2053)) } = flitCrc f := rfl
      rw [hkeep, hcrc] at h
      have hz : BitVec.ofNat 32 (2 ^ (i - 2053)) = 0 := by
        have := congrArg (f.crc ^^^ ·) h
        simpa [← BitVec.xor_assoc] using this.symm
      have hpow : 2 ^ (i - 2053) < 2 ^ 32 := Nat.pow_lt_pow_right (by decide) (by omega)
      have hnat : 2 ^ (i - 2053) % 2 ^ 32 = 0 := by simpa using congrArg BitVec.toNat hz
      rw [Nat.mod_eq_of_lt hpow] at hnat
      exact absurd hnat (Nat.two_pow_pos _).ne'

/-- Settles O43: frames, span packets and seal payloads read back field by field, and the CRC of a flit finds a single wrong bit. -/
theorem wireFormsReadBack : Obligations.WireFormsReadBack :=
  ⟨directFrames_readBack, spanPackets_readBack, sealPayloads_readBack, flitChecks_findSingleErrors⟩

end Sys2Proof.Machine
end

section
/-! PROOFS. Checks at issue, and the scalar and control instructions (spec/04 R130 to R134, R150, R154): what an attempt leaves of its
task, how a task ends, and what each instruction writes. -/

namespace Sys2Proof.Claims

open Sys2Proof.Machine

/-! ## How an instruction that issues goes on -/

section issues
variable {s : State} {c : CoreId} {t : TaskSlot} {opc : Nat} {f : InsnBits}

/-- An instruction that issues runs its body on the state at issue. -/
theorem Issues.issue (h : Issues s c t opc f) (body : Nat → Nat → State → Try) :
    s.issue c t opc f body = (s.atIssue c t opc f).finish c t opc f (body 0 0 (s.atIssue c t opc f)) :=
  State.issue_runs s c t opc f body h.1 h.2.1 h.2.2.1 h.2.2.2

end issues

end Sys2Proof.Claims

namespace Sys2Proof.Machine

open Sys2Proof.Claims

section finish
variable (s₀ u : State) (c : CoreId) (t : TaskSlot) (opc : Nat) (f : InsnBits)

/-- An attempt that is done moves PC on by one. -/
theorem State.finish_done_eq : s₀.finish c t opc f (.done u) = advance u c t := rfl

/-- A jump moves PC to its target. -/
@[simp] theorem State.finish_jump (pc : Int) : s₀.finish c t opc f (.jump u pc) = u.setPc c t pc := rfl

/-- An attempt that stops leaves the state that it came to. -/
@[simp] theorem State.finish_stop : s₀.finish c t opc f (.stop u) = u := rfl

/-- An attempt that waits, of a task that was not waiting, waits since now. -/
theorem State.finish_wait (stage keep operand : Nat) (sealed : Bool) (h : (u.task c t).wait = none) (hns : s₀.ns = u.ns) :
    s₀.finish c t opc f (.wait u stage keep operand sealed) = waitsOn u c t opc f stage keep operand sealed := by
  simp only [State.finish, h, hns]
  rfl

/-- PC moves to an index within the code: the task runs there. -/
theorem State.setPc_runsAt (pc : Int) (h : InCode u c t pc) : u.setPc c t pc = runsAt u c t (u.task c t) pc.toNat :=
  State.setPc_in u c t pc h.1 h.2

/-- A change of the task's registers, and the move of PC after it. -/
theorem State.setPc_modTask (eff : Task → Task) (pc : Int) (h : InCode u c t pc)
    (himg : (eff (u.task c t)).img = (u.task c t).img) :
    (u.modTask c t eff).setPc c t pc = runsAt u c t (eff (u.task c t)) pc.toNat := by
  have hin : InCode (u.modTask c t eff) c t pc := by simpa [InCode, himg] using h
  rw [State.setPc_runsAt _ c t pc hin, runsAt, runsAt, State.task_modTask_same, State.modTask, State.setTask_setTask]

end finish

end Sys2Proof.Machine

namespace Sys2Proof.Claims

open Sys2Proof.Machine

/-- An index within the code of a task is within it at its issue. -/
theorem InCode.atIssue {s : State} {c : CoreId} {t : TaskSlot} {pc : Int} (h : InCode s c t pc) (opc : Nat) (f : InsnBits) :
    InCode (s.atIssue c t opc f) c t pc := by
  simpa [InCode] using h

/-- An instruction that is done after a change of its task's registers retires. -/
theorem finish_retires (s : State) (c : CoreId) (t : TaskSlot) (opc : Nat) (f : InsnBits) (eff : Task → Task)
    (hin : InCode s c t ((s.task c t).pc + 1)) (heff : ∀ k, (eff k).img = k.img ∧ (eff k).pc = k.pc) :
    (s.atIssue c t opc f).finish c t opc f (.done ((s.atIssue c t opc f).modTask c t eff)) = retires s c t opc f eff := by
  have hpc : (((s.atIssue c t opc f).modTask c t eff).task c t).pc = (s.task c t).pc := by simp [(heff _).2]
  rw [State.finish_done_eq, advance, hpc, State.setPc_modTask _ c t eff _ (hin.atIssue opc f) (heff _).1]
  rfl

/-! ## The end of a task (R150, R154) -/

section ends
variable {u : State} {c : CoreId} {t : TaskSlot}

/-- A task that is neither EMPTY nor frozen, has no end code and waits in no barrier drains with the code it ends with. -/
theorem FreshEnd.endTask (h : FreshEnd u c t) (code : Nat) (detail : Word) :
    u.endTask c t code detail = drainsWith u c t code detail := by
  obtain ⟨hempty, hsusp, hset, htap⟩ := h
  have hend : (u.task c t).ended code none detail =
      { u.task c t with endSet := true, endCode := code, async := false, detail := detail, phase := .draining, wait := none, freeze := none } := by
    simp [Task.ended, hset]
  have hbar : ∀ k, (u.setTask c t k).leaveBar c t = u.setTask c t k := by
    intro k
    simp [State.leaveBar, State.setTask, State.modCore, Core.setTask, htap]
  unfold State.endTask State.endWith
  dsimp only
  split
  next he => exact absurd he hempty
  next he => exact absurd he hsusp
  next => rw [hend, hbar]; rfl

/-- A change of registers keeps a task one that ends with a first code. -/
theorem FreshEnd.modTask (h : FreshEnd u c t) (eff : Task → Task)
    (heff : (eff (u.task c t)).phase = (u.task c t).phase ∧ (eff (u.task c t)).endSet = (u.task c t).endSet) :
    FreshEnd (u.modTask c t eff) c t := by
  obtain ⟨hempty, hsusp, hset, htap⟩ := h
  refine ⟨by simpa [heff.1] using hempty, by simpa [heff.1] using hsusp, by simpa [heff.2] using hset, ?_⟩
  simpa [State.modTask, State.setTask, State.modCore, Core.setTask] using htap

/-- Issue keeps a task one that ends with a first code. -/
theorem FreshEnd.atIssue (h : FreshEnd u c t) (opc : Nat) (f : InsnBits) : FreshEnd (u.atIssue c t opc f) c t := by
  obtain ⟨hempty, hsusp, hset, htap⟩ := h
  refine ⟨by simpa using hempty, by simpa using hsusp, by simpa using hset, ?_⟩
  rw [State.core_atIssue]
  exact htap

/-- PC leaves the code: the task ends with ILLEGAL, the word of its last instruction in the detail. -/
theorem FreshEnd.setPc_out (h : FreshEnd u c t) (pc : Int) (hout : ¬InCode u c t pc) :
    u.setPc c t pc = drainsWith u c t 0x02 (u.task c t).lastWord := by
  rw [State.setPc_out u c t pc hout, h.endTask]

end ends

end Sys2Proof.Claims

namespace Sys2Proof.Machine

open Sys2Proof.Claims

/-! ## Checks at issue (O7) -/

/-- An illegal form ends the task, and so does code that runs out. -/
theorem illegalForm_endsTheTask : Claims.IllegalFormEndsTheTask := by
  intro c t f s hcan hfresh
  refine ⟨fun i opc hi hlegal => ?_, fun hissues hend => ?_⟩
  · obtain ⟨body, hexec⟩ := exec_eq_issue hi s
    rw [hexec, State.issue_illegal s c t opc f body hcan hlegal, hfresh.endTask]
  · have hout : ¬InCode (s.atIssue c t 0x00 f) c t (((s.atIssue c t 0x00 f).task c t).pc + 1) := by
      simp only [InCode, State.task_atIssue]
      omega
    rw [exec_nop, execNop, hissues.issue, tryNop, State.finish_done_eq, advance, (hfresh.atIssue 0x00 f).setPc_out _ hout,
      State.task_atIssue]

/-- An instruction that reads an awaited register waits since now. -/
theorem awaitedRegister_holdsIssue : Claims.AwaitedRegisterHoldsIssue := by
  intro i opc c t f s hi hcan hlegal hguard hawaits hwait
  obtain ⟨body, hexec⟩ := exec_eq_issue hi s
  rw [hexec, State.issue_awaits s c t opc f body hcan hlegal hguard hawaits, State.finish_wait _ _ _ _ _ _ _ _ _ _ (by simpa using hwait) rfl]

/-- Settles O7: the three checks of an issue, its form, its registers and the end of the code. -/
theorem instructionsAreCheckedAtIssue : Obligations.InstructionsAreCheckedAtIssue :=
  ⟨illegalForm_endsTheTask, awaitedRegister_holdsIssue⟩

/-! ## Immediates and fields of words -/

/-- The signed value of the low 32 bits. -/
theorem signedN_eq_toInt (v : Nat) : signedN 32 v = (BitVec.ofNat 32 v).toInt := by
  simp only [signedN, BitVec.toInt_eq_toNat_cond, BitVec.toNat_ofNat]
  split <;> split <;> omega

/-- The immediate, sign-extended. -/
theorem fImm64_eq (f : InsnBits) : fImm64 f = BitVec.ofInt 64 (BitVec.ofNat 32 (fImm f)).toInt := by
  rw [fImm64, wordOf, signedN_eq_toInt]

/-- As an integer the sign-extended immediate is the immediate. -/
theorem toInt_fImm64 (f : InsnBits) : (fImm64 f).toInt = (BitVec.ofNat 32 (fImm f)).toInt := by
  have hlo := BitVec.le_toInt (BitVec.ofNat 32 (fImm f))
  have hhi := BitVec.toInt_lt (x := BitVec.ofNat 32 (fImm f))
  rw [fImm64_eq, BitVec.toInt_ofInt]
  exact Int.bmod_eq_of_le (by omega) (by omega)

/-- The upper half of a word replaced. -/
theorem setField_upper (w : Word) (v : Nat) : setField w 63 32 v = BitVec.ofNat 64 (w.toNat % 2 ^ 32 + 2 ^ 32 * v) := by
  apply BitVec.eq_of_getLsbD_eq
  intro i hi
  have hsum : (w.toNat % 2 ^ 32 + 2 ^ 32 * v).testBit i = if i < 32 then (w.toNat % 2 ^ 32).testBit i else v.testBit (i - 32) := by
    rw [Nat.add_comm]
    exact Nat.testBit_two_pow_mul_add v (Nat.mod_lt _ (by decide)) i
  rw [BitVec.getLsbD_ofNat, hsum]
  simp only [setField, BitVec.getLsbD_or, BitVec.getLsbD_and, BitVec.getLsbD_not, BitVec.getLsbD_ofNat, Nat.testBit_shiftLeft,
    Nat.testBit_two_pow_sub_one, hi, decide_true, Bool.true_and, Nat.testBit_mod_two_pow, BitVec.testBit_toNat]
  by_cases h : i < 32
  · simp [h, show ¬32 ≤ i by omega]
  · simp [h, show 32 ≤ i by omega, show i - 32 < 32 by omega]

/-- The low half of a number, as an integer field. -/
theorem field_low (w : Word) (n : Nat) : field w n 0 = w.toNat % 2 ^ (n + 1) := by simp [field, fieldN]

/-! ## The registers of a task at issue -/

section lastWord
variable (k : Task) (w : Word) (i : Nat) (f : InsnBits)

/-- The last word issued is no general register. -/
@[simp] theorem Task.greg_lastWord : ({ k with lastWord := w } : Task).greg i = k.greg i := rfl
/-- The last word issued is no address register. -/
@[simp] theorem Task.areg_lastWord : ({ k with lastWord := w } : Task).areg i = k.areg i := rfl
/-- The last word issued is no loop counter. -/
@[simp] theorem Task.kreg_lastWord : ({ k with lastWord := w } : Task).kreg i = k.kreg i := rfl
/-- The last word issued is no predicate. -/
@[simp] theorem Task.preg_lastWord : ({ k with lastWord := w } : Task).preg i = k.preg i := rfl
/-- The last word issued is no operand. -/
@[simp] theorem Task.rb_lastWord : ({ k with lastWord := w } : Task).rb f = k.rb f := rfl
/-- The last word issued is no part of a task address. -/
@[simp] theorem Task.addrA_lastWord : ({ k with lastWord := w } : Task).addrA f = k.addrA f := rfl

end lastWord

section atIssue
variable (s : State) (n t opc : Nat) (f : InsnBits)

/-- Issue leaves the general registers. -/
@[simp] theorem State.greg_atIssue (i : Nat) : ((s.atIssue n t opc f).task n t).greg i = (s.task n t).greg i := by
  rw [State.task_atIssue, Task.greg_lastWord]
/-- Issue leaves the address registers. -/
@[simp] theorem State.areg_atIssue (i : Nat) : ((s.atIssue n t opc f).task n t).areg i = (s.task n t).areg i := by
  rw [State.task_atIssue, Task.areg_lastWord]
/-- Issue leaves the loop counters. -/
@[simp] theorem State.kreg_atIssue (i : Nat) : ((s.atIssue n t opc f).task n t).kreg i = (s.task n t).kreg i := by
  rw [State.task_atIssue, Task.kreg_lastWord]
/-- Issue leaves the predicates. -/
@[simp] theorem State.preg_atIssue (i : Nat) : ((s.atIssue n t opc f).task n t).preg i = (s.task n t).preg i := by
  rw [State.task_atIssue, Task.preg_lastWord]
/-- Issue leaves the second operand. -/
@[simp] theorem State.rb_atIssue (g : InsnBits) : ((s.atIssue n t opc f).task n t).rb g = (s.task n t).rb g := by
  rw [State.task_atIssue, Task.rb_lastWord]
/-- Issue leaves the task address. -/
@[simp] theorem State.addrA_atIssue (g : InsnBits) : ((s.atIssue n t opc f).task n t).addrA g = (s.task n t).addrA g := by
  rw [State.task_atIssue, Task.addrA_lastWord]

/-- Issue leaves the time. -/
@[simp] theorem State.ns_atIssue : (s.atIssue n t opc f).ns = s.ns := by
  obtain ⟨r, h⟩ := s.atIssue_eq n t opc f
  rw [h]
  rfl

end atIssue

/-! ## Scalar results (O8) -/

/-- An instruction that writes g[D] retires with that register written. -/
theorem issue_doneG (s : State) (c : CoreId) (t : TaskSlot) (opc : Nat) (f : InsnBits) (v : Word) (body : State → Try)
    (hin : InCode s c t ((s.task c t).pc + 1)) (hbody : body (s.atIssue c t opc f) = doneG c t f v (s.atIssue c t opc f))
    (h : Issues s c t opc f) :
    s.issue c t opc f (fun _ _ => body) = retires s c t opc f (fun k => k.setG (fD f) v) := by
  rw [h.issue, hbody]
  exact finish_retires s c t opc f _ hin (fun _ => ⟨rfl, rfl⟩)

/-- The second operand: IMM when X.I is set, or g[B]. -/
theorem Task.rb_eq (k : Task) (f : InsnBits) :
    k.rb f = if fI f then BitVec.ofInt 64 (BitVec.ofNat 32 (fImm f)).toInt else k.greg (fB f) := by
  rw [Task.rb, fImm64_eq]

section results
variable {s : State} {c : CoreId} {t : TaskSlot} {f : InsnBits} (hin : InCode s c t ((s.task c t).pc + 1))
include hin

/-- An operation on g[A] and the second operand retires with its result in g[D]. -/
theorem alu_retires {i : Instr} {opc op : Nat} {v : Word} (hi : exec i s = .next (s.issue c t opc f (fun _ _ => tryAlu op c t f)))
    (hv : aluOp op ((s.task c t).greg (fA f)) ((s.task c t).rb f) = v) (h : Issues s c t opc f) :
    exec i s = .next (retires s c t opc f (fun k => k.setG (fD f) v)) := by
  rw [hi, issue_doneG s c t opc f v _ hin ?_ h]
  simp only [tryAlu, State.greg_atIssue, State.rb_atIssue, hv]

/-- An instruction that changes registers of its task alone retires with that change. -/
theorem modTask_retires {i : Instr} {opc : Nat} {eff eff' : Task → Task}
    (hi : exec i s = .next (s.issue c t opc f (fun _ _ s => .done (s.modTask c t eff))))
    (heff : eff ((s.atIssue c t opc f).task c t) = eff' ((s.atIssue c t opc f).task c t)) (hkeep : ∀ k, (eff k).img = k.img ∧ (eff k).pc = k.pc)
    (h : Issues s c t opc f) : exec i s = .next (retires s c t opc f eff') := by
  rw [hi, h.issue, finish_retires s c t opc f eff hin hkeep, retires, retires, heff]

end results

/-- The scalar instructions write their results. -/
theorem scalar_results : Claims.ScalarResults := by
  intro c t f s hin
  dsimp only
  have hns : BitVec.ofNat 64 s.ns = BitVec.ofNat 64 (s.time / 2 ^ 32) := by
    rw [State.ns, Nat.shiftRight_eq_div_pow]
    exact BitVec.eq_of_toNat_eq (by simp)
  simp only [← fImm64_eq, ← setField_upper]
  refine ⟨fun h => ?_, alu_retires hin (op := 0) rfl rfl, alu_retires hin (op := 1) rfl rfl, alu_retires hin (op := 2) rfl rfl,
    alu_retires hin (op := 3) rfl rfl, alu_retires hin (op := 4) rfl rfl, alu_retires hin (op := 5) rfl rfl,
    alu_retires hin (op := 6) rfl rfl, alu_retires hin (op := 7) rfl rfl, alu_retires hin (op := 8) rfl rfl,
    alu_retires hin (op := 9) rfl rfl, alu_retires hin (op := 10) rfl rfl, fun h => ?_, fun h => ?_⟩
  · rw [exec_time, execTime, issue_doneG s c t 0x07 f _ (tryTime c t f) hin (by rw [tryTime, State.ns_atIssue, hns]) h]
  · rw [exec_movi, execMovi, issue_doneG s c t 0x1b f (fImm64 f) (tryMovi c t f) hin (by rw [tryMovi]) h]
  · rw [exec_movhi, execMovhi, issue_doneG s c t 0x1c f (setField ((s.task c t).greg (fD f)) 63 32 (fImm f))
      (tryMovhi c t f) hin ?_ h]
    rw [tryMovhi, State.greg_atIssue]

/-- A loop counter, a predicate or an address register written keeps image and PC of a task. -/
theorem Task.setP_keeps (k : Task) (i : Nat) (v : Bool) : (k.setP i v).img = k.img ∧ (k.setP i v).pc = k.pc := by
  unfold Task.setP
  split <;> exact ⟨rfl, rfl⟩

/-- The conditions of CMP (spec/04). -/
theorem cmpCond_eq {x : Nat} {a b : Word} {v : Bool}
    (h : (x = 0 ∧ v = decide (a = b)) ∨ (x = 1 ∧ v = decide (a ≠ b)) ∨ (x = 2 ∧ v = decide (a.toInt < b.toInt)) ∨
      (x = 3 ∧ v = decide (b.toInt ≤ a.toInt)) ∨ (x = 4 ∧ v = decide (a.toNat < b.toNat)) ∨ (x = 5 ∧ v = decide (b.toNat ≤ a.toNat))) :
    (cmpCond x a b).getD false = v := by
  rcases h with ⟨rfl, rfl⟩ | ⟨rfl, rfl⟩ | ⟨rfl, rfl⟩ | ⟨rfl, rfl⟩ | ⟨rfl, rfl⟩ | ⟨rfl, rfl⟩
  · rfl
  · simp only [cmpCond, Option.getD_some, bne, ne_eq, decide_not]
    rfl
  all_goals rfl

/-- X of a legal instruction has only the bits that its form defines. -/
theorem fX_le_of_legal {opc : Nat} {f : InsnBits} {m : Form} (hf : formOf opc f = some m) (h : legal opc f = true) : fX f ≤ m.x := by
  simp only [legal, hf, Bool.and_eq_true, decide_eq_true_eq] at h
  obtain ⟨⟨⟨⟨-, hx⟩, -⟩, -⟩, -⟩ := h
  rw [← hx]
  exact Nat.and_le_right

/-- KSET, CMP, PLOG, AADD and MOVR write the register that they name. -/
theorem registerFile_moves : Claims.RegisterFileMoves := by
  intro c t f s hin
  dsimp only
  simp only [← Task.rb_eq]
  have hno : ∀ (k : Task) (v : Bool), (if fD f = 0 then k else k.setP (fD f) v) = k.setP (fD f) v := by
    intro k v
    split
    next h => rw [h]; rfl
    next => rfl
  refine ⟨modTask_retires hin rfl (by simp only [State.rb_atIssue]) (fun _ => ⟨rfl, rfl⟩), fun x v hx hv => ?_, fun h => ?_,
    modTask_retires hin rfl (by simp only [State.rb_atIssue]) (fun _ => ⟨rfl, rfl⟩), fun h => ?_⟩
  · refine modTask_retires hin rfl ?_ (fun _ => Task.setP_keeps _ _ _)
    simp only [hno, State.greg_atIssue, State.rb_atIssue, hx, cmpCond_eq hv]
  · have hle := fX_le_of_legal (m := ⟨.p, .p, .p, 3, false, false, false⟩) rfl h.2.1
    have hop : ∀ p q, plogOp (fX f % 4) p q =
        if fX f = 0 then p && q else if fX f = 1 then p || q else if fX f = 2 then xor p q else p && !q := by
      generalize fX f = x at hle
      interval_cases x <;> exact fun _ _ => rfl
    refine modTask_retires hin rfl ?_ (fun _ => Task.setP_keeps _ _ _) h
    simp only [hno, State.preg_atIssue, hop]
  · have hle : fX f ≤ 3 := by
      have hlegal := h.2.1
      have hform : ∃ m, formOf 0x20 f = some m ∧ m.x = 3 := by
        simp only [formOf]
        split <;> exact ⟨_, rfl, rfl⟩
      obtain ⟨m, hm, hx⟩ := hform
      exact hx ▸ fX_le_of_legal hm hlegal
    refine modTask_retires (eff := fun k => match fX f % 4 with
      | 0 => k.setG (fD f) (k.areg (fA f))
      | 1 => k.setA (fD f) (k.greg (fA f))
      | 2 => k.setG (fD f) ((k.kreg (fA f)).setWidth 64)
      | _ => k.setG (fD f) (if k.preg (fA f) then 1 else 0)) hin rfl ?_ (fun _ => ?_) h
    · generalize fX f = x at hle
      interval_cases x <;> simp only [State.greg_atIssue, State.areg_atIssue, State.kreg_atIssue, State.preg_atIssue] <;> rfl
    · split <;> exact ⟨rfl, rfl⟩

/-! ## Control flow (O8) -/

/-- A task that drains after a change of its registers, where the change is none. -/
theorem drainsWith_modTask_id (u : State) (c : CoreId) (t : TaskSlot) (code : Nat) (detail : Word) :
    drainsWith (u.modTask c t id) c t code detail = drainsWith u c t code detail := by
  rw [drainsWith, drainsWith, State.modTask_modTask]
  rfl

section goes
variable {s : State} {c : CoreId} {t : TaskSlot} {opc : Nat} {f : InsnBits} {pc : Int}

/-- A move of PC that leaves the code ends the task with its own word. -/
theorem setPc_leaves (hfresh : FreshEnd s c t) (hout : ¬InCode s c t pc) :
    (s.atIssue c t opc f).setPc c t pc = drainsWith (s.atIssue c t opc f) c t 0x02 (insnWord opc f) := by
  rw [(hfresh.atIssue opc f).setPc_out pc ?_, State.task_atIssue]
  simpa [InCode] using hout

/-- A loop counter is no part of the last word. -/
@[simp] theorem Task.setK_lastWord (k : Task) (i : Nat) (v : BitVec 32) : (k.setK i v).lastWord = k.lastWord := rfl
/-- A loop counter is no part of the image. -/
@[simp] theorem Task.setK_img (k : Task) (i : Nat) (v : BitVec 32) : (k.setK i v).img = k.img := rfl
/-- A loop counter is no part of PC. -/
@[simp] theorem Task.setK_pc (k : Task) (i : Nat) (v : BitVec 32) : (k.setK i v).pc = k.pc := rfl
/-- A loop counter is no part of the phase. -/
@[simp] theorem Task.setK_phase (k : Task) (i : Nat) (v : BitVec 32) : (k.setK i v).phase = k.phase := rfl
/-- A loop counter is no part of the end code. -/
@[simp] theorem Task.setK_endSet (k : Task) (i : Nat) (v : BitVec 32) : (k.setK i v).endSet = k.endSet := rfl

/-- A move of PC that leaves the code after a loop counter was written. -/
theorem setPc_leaves_setK (hfresh : FreshEnd s c t) (hout : ¬InCode s c t pc) (i : Nat) (v : BitVec 32) :
    ((s.atIssue c t opc f).modTask c t (fun k => k.setK i v)).setPc c t pc =
      drainsWith ((s.atIssue c t opc f).modTask c t (fun k => k.setK i v)) c t 0x02 (insnWord opc f) := by
  have hword : (((s.atIssue c t opc f).modTask c t (fun k => k.setK i v)).task c t).lastWord = insnWord opc f := by
    rw [State.task_modTask_same, Task.setK_lastWord, State.task_atIssue]
  have hout' : ¬InCode ((s.atIssue c t opc f).modTask c t (fun k => k.setK i v)) c t pc := by
    rw [InCode, State.task_modTask_same, Task.setK_img]
    exact fun h => hout (by simpa [InCode] using h)
  have hfresh' := (hfresh.atIssue opc f).modTask (fun k => k.setK i v) ⟨Task.setK_phase _ i v, Task.setK_endSet _ i v⟩
  rw [hfresh'.setPc_out pc hout', hword]

/-- An instruction whose body sets PC, and changes nothing else, goes there or ends its task. -/
theorem goes_of_setPc {i : Instr} (hfresh : FreshEnd s c t)
    (hexec : Issues s c t opc f → exec i s = .next ((s.atIssue c t opc f).setPc c t pc)) (h : Issues s c t opc f) :
    (InCode s c t pc → exec i s = .next (runsAt (s.atIssue c t opc f) c t (id ((s.atIssue c t opc f).task c t)) pc.toNat)) ∧
    (¬InCode s c t pc →
      exec i s = .next (drainsWith ((s.atIssue c t opc f).modTask c t id) c t 0x02 (insnWord opc f))) := by
  refine ⟨fun hin => ?_, fun hout => ?_⟩
  · rw [hexec h, State.setPc_runsAt _ c t pc (hin.atIssue opc f), id]
  · rw [hexec h, setPc_leaves hfresh hout, drainsWith_modTask_id]

end goes

/-- LOOP with its counter at issue. -/
theorem tryLoop_atIssue (s : State) (c : CoreId) (t : TaskSlot) (f : InsnBits) :
    tryLoop c t f (s.atIssue c t 0x04 f) =
      let u := s.atIssue c t 0x04 f
      let v := (s.task c t).kreg (fD f)
      let pc := (s.task c t).pc + (BitVec.ofNat 32 (fImm f)).toInt
      if v = 0 then .done u
      else if v - 1 = 0 then .done (u.modTask c t (fun k => k.setK (fD f) (v - 1)))
      else .jump (if 0 ≤ pc ∧ pc < (s.task c t).img.codeLen then u.modTask c t (fun k => k.setK (fD f) (v - 1)) else u) pc := by
  have hpc : ((s.atIssue c t 0x04 f).task c t).pc = (s.task c t).pc := by rw [State.task_atIssue]
  have himg : ((s.atIssue c t 0x04 f).task c t).img = (s.task c t).img := by rw [State.task_atIssue]
  simp only [tryLoop, State.kreg_atIssue, hpc, himg, toInt_fImm64]
  rfl

/-- NOP, BR, JR and LOOP set PC. -/
theorem control_flow : Claims.ControlFlow := by
  intro c t f s hfresh
  dsimp only
  have hpc : ∀ opc, ((s.atIssue c t opc f).task c t).pc = (s.task c t).pc := fun opc => by rw [State.task_atIssue]
  refine ⟨goes_of_setPc hfresh fun h => ?_, goes_of_setPc hfresh fun h => ?_, goes_of_setPc hfresh fun h => ?_,
    fun hk => goes_of_setPc hfresh fun h => ?_, fun hk h => ?_, fun h0 h1 h => ?_⟩
  · rw [exec_nop, execNop, h.issue, tryNop, State.finish_done_eq, advance, hpc]
  · rw [exec_br, execBr, h.issue, tryBr, State.finish_jump, hpc, toInt_fImm64]
  · rw [exec_jr, execJr, h.issue, tryJr, State.finish_jump, State.greg_atIssue, field_low]
  · rw [exec_loopI, execLoop, h.issue, tryLoop_atIssue]
    dsimp only
    rw [if_pos hk, State.finish_done_eq, advance, hpc]
  · have hexec : exec (.loopI c t f) s =
        .next (((s.atIssue c t 0x04 f).modTask c t (fun k => k.setK (fD f) 0)).setPc c t ((s.task c t).pc + 1)) := by
      rw [exec_loopI, execLoop, h.issue, tryLoop_atIssue]
      dsimp only
      rw [hk, if_neg (by decide), if_pos (by decide), State.finish_done_eq, advance, State.task_modTask_same,
        Task.setK_pc, hpc]
      rfl
    refine ⟨fun hin => ?_, fun hout => ?_⟩
    · rw [hexec, State.setPc_modTask _ c t (fun k => k.setK (fD f) 0) _ (hin.atIssue 0x04 f) (Task.setK_img _ _ _)]
    · rw [hexec, setPc_leaves_setK hfresh hout]
  · have hne : (s.task c t).kreg (fD f) - 1 ≠ 0 := fun e => h1 (by simpa using sub_eq_zero.mp e)
    refine ⟨fun hin => ?_, fun hout => ?_⟩
    · rw [exec_loopI, execLoop, h.issue, tryLoop_atIssue]
      dsimp only
      rw [if_neg h0, if_neg hne, State.finish_jump, if_pos (And.intro hin.1 hin.2),
        State.setPc_modTask _ c t (fun k => k.setK (fD f) _) _ (hin.atIssue 0x04 f) (Task.setK_img _ _ _)]
      simp only [State.kreg_atIssue]
    · rw [exec_loopI, execLoop, h.issue, tryLoop_atIssue]
      dsimp only
      rw [if_neg h0, if_neg hne, State.finish_jump, if_neg (show ¬(_ ∧ _) from hout), setPc_leaves hfresh hout, drainsWith_modTask_id]

/-! ## Ends of a task (O8) -/

/-- END, FAULT and the end of a wait. -/
theorem task_ends : Claims.TaskEnds := by
  intro c t f s hfresh
  refine ⟨fun h => ?_, fun h => ?_, fun w hphase hwait hseal hus hlate hheld => ?_⟩
  · rw [exec_endTask, execEnd, h.issue, tryEnd, State.finish_stop, (hfresh.atIssue 0x01 f).endTask]
  · rw [exec_faultI, execFault, h.issue, tryFault, State.finish_stop, (hfresh.atIssue 0x06 f).endTask, fImm64_eq]
  · rw [exec_waitTimeout, execWaitTimeout]
    simp only [hphase, hwait, hseal, hheld, hus, hlate, Bool.not_false, true_and, if_true, Bool.false_eq_true, reduceCtorEq, or_self,
      if_false]
    rw [hfresh.endTask]

/-- Settles O8: results, register file moves, control flow and ends of a task. -/
theorem scalarInstructionsComplete : Obligations.ScalarInstructionsComplete :=
  ⟨scalar_results, registerFile_moves, control_flow, task_ends⟩

end Sys2Proof.Machine
end

section
/-! PROOFS. Narrow accesses and the bytes that a store reaches (spec/04 R133, spec/05 R160, R167): the error record of a corrected or
uncorrectable word is itself a write of memory, to the ring of the error log (spec/15 R491), so "no other byte changes" fails from Stage 2 on. -/

namespace Sys2Proof.Machine

open Sys2Proof.Claims

/-- The module at Stage 2, its error log in the ring, with one byte of the word at offset 0 of core 0's scratchpad in the gather buffer, and that
word uncorrectable. -/
def gatherOverBadWord : State :=
  { State.reset.setRegField rBOOT_STAGE 2 0 2 with
    badWords := [spadAddr 0 0], cores := [(0, { Core.zero with gather := some ⟨0, false, [(0, some 7)]⟩ })] }

/-- The flush of that buffer writes its error record: SEV of record 0 reads DEGRADED in the log ring, where there was a zero byte. -/
theorem gatherFlush_writes_log :
    ((gatherOverBadWord.gatherFlush 0).byte (logRing + 16) = 2 ∧ gatherOverBadWord.byte (logRing + 16) = 0) ∧
      (∀ o < 256, gatherOverBadWord.phys (logRing + 16) ≠ spadAddr 0 0 + o) := by
  decide +kernel

/-- Without a pool a local address is its own place, and no entry of a context block map lies there. -/
theorem place_of_no_pool (s : State) (h : s.pool = Pool.zero) (a : Nat) : s.mapByte a = none ∧ s.phys a = a := by
  simp only [State.mapByte, State.phys, Pool.nameOf, h]
  refine ⟨?_, ?_⟩
  · simp [Pool.zero, Pool.names]
  · rw [if_neg (by simp [Pool.zero]), if_neg (by simp [Pool.zero])]

/-- Refutes O9: GATHER_IDLE_FLUSH over an uncorrectable word reports it, and from Stage 2 on the report is a record in the log ring, a byte of
memory outside the line that does not read as before. -/
theorem not_narrowAccessesComplete : ¬ Obligations.NarrowAccessesComplete := by
  rintro ⟨-, -, -, -, hflush, -⟩
  obtain ⟨v, hv, -, -, hother⟩ := (hflush 0 gatherOverBadWord).2 ⟨0, false, [(0, some 7)]⟩ rfl
    (fun j _ => place_of_no_pool gatherOverBadWord rfl _)
  obtain ⟨⟨hafter, hbefore⟩, hout⟩ := gatherFlush_writes_log
  have hnext : gatherOverBadWord.gatherFlush 0 = v := by injection hv
  have hsame := hother (logRing + 16) hout
  rw [← hnext, hafter, hbefore] at hsame
  exact absurd hsame (by decide)

/-- The module at Stage 2 with core 0 out of reset, a task in its slot 0 with a pair of 4 KiB, and the word at offset 0 of its scratchpad with one
wrong bit. -/
def storeOverCorrectedWord : State :=
  { ((State.reset.setRegField rBOOT_STAGE 2 0 2).modSlot 0 (fun x => { x with rst := false })).setTask 0 0
      { Task.zero with phase := .running, pairs := [(0, ⟨true, 0, 0x1000⟩)], img := { ImageInfo.zero with codeLen := 16 } } with
    ceWords := [spadAddr 0 0] }

/-- An ST of one byte there issues, and its correction writes an error record: SEV of record 0 reads CORRECTED in the log ring. -/
theorem store_writes_log :
    (storeOverCorrectedWord.canIssue 0 0 = true ∧ legal 0x29 0 = true ∧ (storeOverCorrectedWord.task 0 0).guard 0 = true ∧
      ∀ r ∈ readsOf 0x29 0, r ∉ (storeOverCorrectedWord.task 0 0).pending) ∧
    storeOverCorrectedWord.pieceBad 0 true [(0, 1)] = none ∧
    ((storeOverCorrectedWord.issue 0 0 0x29 0 (fun _ _ => trySt 0 0 0)).byte (logRing + 16) = 1 ∧
      storeOverCorrectedWord.byte (logRing + 16) = 0) := by
  decide +kernel

/-- Refutes O10: an ST that covers a word with one wrong bit in part counts and reports it (R160), and from Stage 2 on the report is a record in the
log ring, which the store does not name. -/
theorem not_storesReachTheirBytes : ¬ Obligations.StoresReachTheirBytes := by
  rintro ⟨hstore, -, -⟩
  obtain ⟨hissues, hbad, hafter, hbefore⟩ := store_writes_log
  have hother := (hstore 0 0 0 storeOverCorrectedWord (storeOverCorrectedWord.issue 0 0 0x29 0 (fun _ _ => trySt 0 0 0)) 0 hissues (by decide)
    (by decide) (by decide) rfl (by decide) hbad (fun j _ => place_of_no_pool storeOverCorrectedWord rfl _) rfl).2
  have hsame := hother (logRing + 16) (by decide +kernel)
  exact absurd (hafter.symm.trans (hsame.trans hbefore)) (by decide)

end Sys2Proof.Machine
end

section
/-! PROOFS. Event counters and waits for seals (spec/12 R387, R396 to R398, spec/15 R495): what issue leaves of a core, and what EVSEL, EVCTL,
EVRD, SEALQ and WAITSEAL do. -/

namespace Sys2Proof.Machine

open Sys2Proof.Claims

/-! ## What issue leaves of the core and its seal unit -/

/-- The last word of a task has no part in what its addresses name. -/
theorem Core.xlate_lastWord (k : Core) (t : Nat) (w addr : Word) (len : Nat) (write : Bool) :
    (k.setTask t { k.task t with lastWord := w }).xlate t addr len write = k.xlate t addr len write := by
  simp only [Core.xlate, Core.task_setTask_same]
  rfl

section issued
variable (s : State) (n t opc : Nat) (f : InsnBits)

/-- Task addresses translate as they did before the issue. -/
@[simp] theorem State.xlate_atIssue : ((s.atIssue n t opc f).core n).xlate t = (s.core n).xlate t := by
  funext addr len write
  rw [State.core_atIssue]
  exact Core.xlate_lastWord (s.core n) t _ addr len write

/-- Issue leaves every seal unit. -/
@[simp] theorem State.sealUnit_atIssue (i : Nat) : (s.atIssue n t opc f).sealUnit i = s.sealUnit i := by
  obtain ⟨r, h⟩ := State.atIssue_eq s n t opc f
  rw [h]
  rfl

/-- Issue sets no wait. -/
@[simp] theorem State.wait_atIssue : ((s.atIssue n t opc f).task n t).wait = (s.task n t).wait := by
  rw [State.task_atIssue]

end issued

/-! ## Event counters -/

/-- Core 0 with a task in slot 0, whose g[0] is 5, and a task in slot 1 that names event counter 0. -/
def counterOfAnother : State :=
  ((State.reset.modSlot 0 (fun x => { x with rst := false })).setTask 0 0
    { Task.zero with phase := .running, g := [(0, 5)], img := { ImageInfo.zero with codeLen := 16 } }).setTask 0 1
      { Task.zero with phase := .running, img := { ImageInfo.zero with codeLen := 16, evc := 1 } }

/-- An EVSEL of counter 0 by the task of slot 0 issues, and leaves the counter of the other task as it is. -/
theorem evsel_leaves_counter_of_another :
    (counterOfAnother.canIssue 0 0 = true ∧ legal 0x88 0 = true ∧ (counterOfAnother.task 0 0).guard 0 = true ∧
      ∀ r ∈ readsOf 0x88 0, r ∉ (counterOfAnother.task 0 0).pending) ∧
    (counterOfAnother.issue 0 0 0x88 0 (fun _ _ => tryEvsel 0 0 0)).reg (coreKey 0 rEVC_SELc) = 0 ∧
    (advance ((counterOfAnother.atIssue 0 0 0x88 0).setReg (coreKey 0 rEVC_SELc) 5) 0 0).reg (coreKey 0 rEVC_SELc) = 5 := by
  decide +kernel

/-- Refutes O27: its slots u range over `Fin 4`, where `u < 4` is `u < 0`, so that every counter counts as the task's own; an EVSEL of a counter
that another resident task names changes nothing. -/
theorem not_eventCountersObey : ¬ Obligations.EventCountersObey := by
  intro hall
  obtain ⟨hissues, hkept, hset⟩ := evsel_leaves_counter_of_another
  have hsel := (hall 0 0 0 counterOfAnother).1 hissues (fun u hu => absurd hu (Nat.not_lt_zero _))
  have hsame : counterOfAnother.issue 0 0 0x88 0 (fun _ _ => tryEvsel 0 0 0) =
      advance ((counterOfAnother.atIssue 0 0 0x88 0).setReg (coreKey 0 rEVC_SELc) 5) 0 0 := by injection hsel
  exact absurd (hkept.symm.trans ((congrArg (fun u => State.reg u (coreKey 0 rEVC_SELc)) hsame).trans hset)) (by decide)

/-! ## The state of a block (R387) -/

/-- Some reference on block b has a state exactly where the search for one finds it. -/
theorem SealUnit.any_refsOn (u : SealUnit) (b : Nat) (st : RefState) :
    (u.refsOn b).any (fun r => decide (r.st = st)) = true ↔ ∃ r ∈ u.refs, r.block = b ∧ r.st = st := by
  simp [SealUnit.refsOn]

/-- Settles O26: the three searches of `SealUnit.blockState`, in their order. -/
theorem blockStates : Obligations.BlockStates := by
  unfold Obligations.BlockStates
  intro u b
  simp only [← SealUnit.any_refsOn, SealUnit.blockState]
  refine ⟨fun h => if_pos h, fun h h' => ?_, fun h h' ho => ?_, fun h h' ho => ?_⟩
  · rw [if_neg h, if_pos h']
  · rw [if_neg h, if_neg h', if_pos ho]
  · rw [if_neg h, if_neg h', if_neg ho]

/-! ## SEALQ and WAITSEAL (R396 to R398) -/

/-- SEALQ sets its predicate by what the range and its blocks are. -/
theorem sealQueries : Claims.SealQueries := by
  intro c t f s h
  have hex : exec (.sealq c t f) s = .next ((s.atIssue c t 0x79 f).finish c t 0x79 f (trySealq c t f (s.atIssue c t 0x79 f))) := by
    rw [exec_sealq, execSealq, h.issue]
  simp only [hex, trySealq, State.areg_atIssue, State.greg_atIssue, State.xlate_atIssue, State.sealUnit_atIssue]
  refine ⟨fun h0 => ?_, fun h0 hx => ?_, fun ps h0 hx => ?_, fun h0 hx => ?_⟩
  · rw [if_pos h0]
    rfl
  · rw [if_neg h0, hx]
    rfl
  · rw [if_neg h0, hx]
    have hall : ((pieceBlocks ps).all fun b => (s.sealUnit c).blockState b == 1) =
        decide (∀ b ∈ pieceBlocks ps, (s.sealUnit c).blockState b = 1) := by rw [Bool.eq_iff_iff]; simp
    simp only [hall]
    rfl
  · rw [if_neg h0, hx]
    rfl

/-- WAITSEAL by what the range and its blocks are, and by the policy of RUN_AHEAD. -/
theorem sealWaits : Claims.SealWaits := by
  intro c t f s h hw
  have hwait (u : State) (hu : u.task c t = (s.atIssue c t 0x78 f).task c t) (hns : u.ns = s.ns) (stage keep : Nat) (sealed : Bool) :
      (s.atIssue c t 0x78 f).finish c t 0x78 f (.wait u stage keep 0 sealed) = waitsOn u c t 0x78 f stage keep 0 sealed :=
    State.finish_wait _ u c t 0x78 f stage keep 0 sealed (by rw [hu, State.wait_atIssue, hw]) (by rw [hns, State.ns_atIssue])
  have hex : exec (.waitseal c t f) s =
      .next ((s.atIssue c t 0x78 f).finish c t 0x78 f (tryWaitseal c t f 0 0 (s.atIssue c t 0x78 f))) := by
    rw [exec_waitseal, execWaitseal, h.issue]
  simp only [hex, tryWaitseal, State.areg_atIssue, State.greg_atIssue, State.xlate_atIssue, State.sealUnit_atIssue, if_true]
  refine ⟨fun h0 => ?_, fun h0 hx => ?_, fun h0 hx => ?_, fun ps h0 hx => ⟨fun hall => ?_, fun hbad => ?_, fun hopen hsome => ?_⟩⟩
  · rw [if_pos h0]
    rfl
  · rw [if_neg h0, hx]
    rfl
  · rw [if_neg h0, hx]
    exact congrArg Host.Outcome.next (hwait _ rfl (State.ns_atIssue ..) 2 _ false)
  · have hnone : ((pieceBlocks ps).any fun b => decide (2 ≤ (s.sealUnit c).blockState b)) = false := by
      simp only [List.any_eq_false, decide_eq_true_eq]
      exact fun b hb => by rw [hall b hb]; decide
    have hall' : ((pieceBlocks ps).all fun b => (s.sealUnit c).blockState b == 1) = true := by simpa using hall
    simp only [h0, hx, hnone, hall']
    rfl
  · have hsome : ((pieceBlocks ps).any fun b => decide (2 ≤ (s.sealUnit c).blockState b)) = true := by simpa using hbad
    simp only [h0, hx, hsome]
    rfl
  · have hnone : ((pieceBlocks ps).any fun b => decide (2 ≤ (s.sealUnit c).blockState b)) = false := by simpa using hopen
    have hnall : ((pieceBlocks ps).all fun b => (s.sealUnit c).blockState b == 1) = false := by simpa using hsome
    simp only [h0, hx, hnone, hnall, Bool.false_eq_true, if_false]
    refine ⟨fun hp => ?_, fun hp hin => ?_, fun hp hin => ?_⟩
    · rw [if_neg (by rw [hp]; decide), hp]
      exact congrArg Host.Outcome.next (hwait _ rfl (State.ns_atIssue ..) 1 0 true)
    · rw [if_pos hp, hin]
      rfl
    · rw [if_pos hp, hin, hp]
      exact congrArg Host.Outcome.next (hwait (State.orReg _ _ _) (by simp [State.orReg]) (by simp [State.orReg]) 1 1 true)

/-- Settles O24. -/
theorem sealsAreAwaited : Obligations.SealsAreAwaited :=
  ⟨sealQueries, sealWaits⟩

end Sys2Proof.Machine
end

section
/-! PROOFS. The placement of a row's columns on its slots (spec/13 R413, R414). -/

namespace Sys2Proof.Machine

/-! ## The next free slot -/

/-- The search for a free slot moves up. -/
theorem le_skipU (u k i : Nat) : i ≤ skipU u k i := by
  induction k generalizing i with
  | zero => exact le_rfl
  | succ k ih =>
    rw [skipU]
    split
    · exact (Nat.le_succ i).trans (ih (i + 1))
    · exact le_rfl

/-- It ends at a slot that is free, or has passed all of its steps. -/
theorem testBit_skipU (u k i : Nat) (h : skipU u k i < i + k) : u.testBit (skipU u k i) = false := by
  induction k generalizing i with
  | zero => exact absurd h (by simp [skipU])
  | succ k ih =>
    rw [skipU] at h ⊢
    split at h
    · next hb => rw [if_pos hb]; exact ih (i + 1) (by omega)
    · next hb => rw [if_neg hb]; simpa using hb

/-! ## Where columns stand -/

/-- A column that stands stands at or beyond the next free slot, at most one slot above its own number, on a free slot. -/
theorem placeFrom_some (u k c i m j : Nat) (hk : c + k ≤ 8) (h : (placeFrom u k c i)[m]? = some (some j)) :
    i ≤ j ∧ j ≤ 8 ∧ u.testBit j = false := by
  induction k generalizing c i m with
  | zero => simp [placeFrom] at h
  | succ k ih =>
    have hi : i ≤ skipU u 9 i := le_skipU u 9 i
    rw [placeFrom] at h
    cases m with
    | zero =>
      split at h
      · obtain rfl : skipU u 9 i = j := by simpa using h
        exact ⟨hi, by omega, testBit_skipU u 9 i (by omega)⟩
      · simp at h
    | succ m =>
      split at h
      · obtain ⟨h1, h2⟩ := ih (c + 1) _ m (by omega) (by simpa using h)
        exact ⟨by omega, h2⟩
      · obtain ⟨h1, h2⟩ := ih (c + 1) _ m (by omega) (by simpa using h)
        exact ⟨by omega, h2⟩

/-- Of two columns that stand, the later one stands higher. -/
theorem placeFrom_lt (u k c i m n a b : Nat) (hk : c + k ≤ 8) (hmn : m < n) (ha : (placeFrom u k c i)[m]? = some (some a))
    (hb : (placeFrom u k c i)[n]? = some (some b)) : a < b := by
  induction k generalizing c i m n with
  | zero => simp [placeFrom] at ha
  | succ k ih =>
    obtain ⟨n, rfl⟩ : ∃ l, n = l + 1 := ⟨n - 1, by omega⟩
    rw [placeFrom] at ha hb
    cases m with
    | zero =>
      split at ha
      · next h =>
        rw [if_pos h] at hb
        obtain rfl : skipU u 9 i = a := by simpa using ha
        exact (placeFrom_some u k (c + 1) _ n b (by omega) (by simpa using hb)).1
      · simp at ha
    | succ m =>
      split at ha <;> rename_i h <;> simp only [h, if_true, if_false] at hb <;>
        exact ih (c + 1) _ m n (by omega) (by omega) (by simpa using ha) (by simpa using hb)

/-- With a single slot lost, columns below it stand at their own number and the others one slot higher (R413). -/
theorem placeRow_single : ∀ g < 9, ∀ c < 8, (placeRow (2 ^ g))[c]? = some (some (if c < g then c else c + 1)) := by
  decide +kernel

/-- With q slots lost, 9 − q columns stand (R414). -/
theorem countP_placeRow : ∀ u < 512, u ≠ 0 → (List.range 8).countP (fun c => ((placeRow u)[c]?.getD none).isSome) = 9 - popCount 9 u := by
  decide +kernel

section placed
variable {s : State} {r : Fin 64} (hw : (s.row r).withheld = 0)
include hw

/-- Without withheld cores, a column stands where the placement of its row puts it. -/
theorem slotOf_rowCore (c : Nat) (hc : c < 8) :
    s.slotOf (r * 8 + c) = ((placeRow (s.row r).u.toNat)[c]?.getD none).map (fun i => r.val * 9 + i) := by
  have hdiv : (r * 8 + c) / 8 = r := by omega
  have hmod : (r * 8 + c) % 8 = c := by omega
  simp only [State.slotOf, hdiv, hmod, hw]
  rcases (placeRow (s.row r).u.toNat)[c]? with _ | _ | i <;> simp

/-- A core that has a slot is a column of the placement. -/
theorem rowCore_placed {n p : Nat} (hn : n ∈ rowCores r) (hp : s.slotOf n = some p) :
    ∃ c i, n = r * 8 + c ∧ (placeRow (s.row r).u.toNat)[c]? = some (some i) ∧ p = r * 9 + i := by
  obtain ⟨c, hc, rfl⟩ : ∃ c < 8, r * 8 + c = n := by simpa [rowCores] using hn
  rw [slotOf_rowCore hw c hc] at hp
  cases hi : (placeRow (s.row r).u.toNat)[c]? with
  | none => simp [hi] at hp
  | some o => cases o with
    | none => simp [hi] at hp
    | some i => exact ⟨c, i, rfl, hi, by simpa [hi] using hp.symm⟩

/-- The cores present in a row are the columns that stand. -/
theorem present_rowCores : ((rowCores r).filter (fun n => s.present n)).length =
    (List.range 8).countP (fun c => ((placeRow (s.row r).u.toNat)[c]?.getD none).isSome) := by
  rw [rowCores, ← List.countP_eq_length_filter, List.countP_map]
  refine List.countP_congr fun c hc => ?_
  have hc8 : c < 8 := List.mem_range.mp hc
  have h512 : r.val * 8 + c < 512 := by omega
  simp [State.present, slotOf_rowCore hw c hc8, h512]

end placed

/-- Settles O48: the placement of a row rises strictly through its free slots, and its counts are those of the 512 sets of lost slots. -/
theorem rowsArePlaced : Obligations.RowsArePlaced := by
  unfold Obligations.RowsArePlaced
  intro s r hw
  refine ⟨fun g c hg hc hu => ?_, fun hu => ?_, fun n m p hn hm hpn hpm => ?_, fun n p hn hp => ?_⟩
  · have h512 : 2 ^ g % 2 ^ 9 = 2 ^ g := Nat.mod_eq_of_lt (Nat.pow_lt_pow_right (by decide) hg)
    rw [slotOf_rowCore hw c hc, hu, BitVec.toNat_ofNat, h512, placeRow_single g hg c hc]
    rfl
  · rw [present_rowCores hw, countP_placeRow _ (s.row r).u.isLt (fun h => hu (BitVec.eq_of_toNat_eq h))]
  · obtain ⟨c, i, rfl, hci, rfl⟩ := rowCore_placed hw hn hpn
    obtain ⟨d, j, rfl, hdj, hij⟩ := rowCore_placed hw hm hpm
    obtain rfl : i = j := by omega
    rcases Nat.lt_trichotomy c d with h | h | h
    · exact absurd (placeFrom_lt _ 8 0 0 c d i i (by decide) h hci hdj) (lt_irrefl i)
    · rw [h]
    · exact absurd (placeFrom_lt _ 8 0 0 d c i i (by decide) h hdj hci) (lt_irrefl i)
  · obtain ⟨c, i, rfl, hci, rfl⟩ := rowCore_placed hw hn hp
    obtain ⟨-, hi, hfree⟩ := placeFrom_some _ 8 0 0 c i (by decide) hci
    have hmod : (r.val * 9 + i) % 9 = i := by omega
    exact ⟨by omega, by rw [hmod]; exact hfree⟩

end Sys2Proof.Machine
end

section
/-! PROOFS. TOPK (spec/03 R109): the order of numbers behind `ranksAbove`, the ranked list, and its first k places. -/

namespace Sys2Proof.Machine

/-! ## The order that ranks follow -/

/-- The value of a finite number. -/
def finValue (n : Bool) (m : Nat) (e : Int) : ℚ := (if n then -(m : ℚ) else m) * 2 ^ e

/-- The place of a number in the ranks: NaN lowest, then minus infinity, the finite values by their value, and infinity. -/
def Num.rank : Num → Nat ×ₗ ℚ
  | .nan => toLex (0, 0)
  | .inf true => toLex (1, 0)
  | .fin n m e => toLex (2, finValue n m e)
  | .inf false => toLex (3, 0)

/-- The signed magnitude at a lower exponent is the value in its units. -/
theorem intAt_value (n : Bool) (m : Nat) (e l : Int) (h : l ≤ e) :
    (intAt n m e l : ℚ) * 2 ^ l = finValue n m e := by
  have hpow : (2 : ℚ) ^ e = 2 ^ (e - l).toNat * 2 ^ l := by
    rw [← zpow_natCast, Int.toNat_of_nonneg (by omega), ← zpow_add₀ two_ne_zero]
    congr 1
    omega
  rw [finValue, hpow, intAt, Nat.shiftLeft_eq]
  cases n <;> simp only [Bool.false_eq_true, if_true, if_false] <;> push_cast <;> ring

/-- Finite values compare as their signed magnitudes at a common exponent do. -/
theorem value_lt_iff (a b : Bool) (m k : Nat) (e g : Int) :
    finValue a m e < finValue b k g ↔ intAt a m e (min e g) < intAt b k g (min e g) := by
  rw [← intAt_value a m e _ (min_le_left e g), ← intAt_value b k g _ (min_le_right e g), mul_lt_mul_iff_left₀ (by positivity), Int.cast_lt]

/-- A number ranks above another where its place is higher. -/
theorem ranksAbove_iff (a b : Num) : ranksAbove a b = true ↔ b.rank < a.rank := by
  rcases a with _ | ⟨_ | _⟩ | ⟨n, m, e⟩ <;> rcases b with _ | ⟨_ | _⟩ | ⟨n', m', e'⟩ <;>
    simp [ranksAbove, Num.isNan, Num.lt, Num.rank, Prod.Lex.toLex_lt_toLex, value_lt_iff, min_comm]

/-- It does not rank above another where its place is not higher. -/
theorem ranksAbove_eq_false_iff (a b : Num) : ranksAbove a b = false ↔ a.rank ≤ b.rank := by
  rw [← Bool.not_eq_true, ranksAbove_iff, not_lt]

/-! ## The ranked list -/

/-- One element stands before another: no lower in rank, and of a lower index where the ranks are equal. -/
def Before (p q : Num × Nat) : Prop := ranksAbove q.1 p.1 = false ∧ (ranksAbove p.1 q.1 = false → p.2 < q.2)

/-- An insertion adds its element and no other. -/
theorem rankIn_perm (x : Num × Nat) (l : List (Num × Nat)) : (rankIn x l).Perm (x :: l) := by
  induction l with
  | nil => exact .refl _
  | cons y ys ih =>
    rw [rankIn]
    split
    · exact .refl _
    · exact (ih.cons y).trans (.swap x y ys)

/-- An element of a higher index than those of a ranked list is inserted in its place. -/
theorem rankIn_pairwise (x : Num × Nat) (l : List (Num × Nat)) (hl : l.Pairwise Before) (hx : ∀ y ∈ l, y.2 < x.2) :
    (rankIn x l).Pairwise Before := by
  induction l with
  | nil => exact List.pairwise_singleton _ _
  | cons y ys ih =>
    obtain ⟨hy, hys⟩ := List.pairwise_cons.mp hl
    rw [rankIn]
    split
    · next h =>
      refine List.pairwise_cons.mpr ⟨fun z hz => ?_, hl⟩
      have hzy : z.1.rank ≤ y.1.rank := by
        rcases List.mem_cons.mp hz with rfl | hz
        · exact le_rfl
        · exact (ranksAbove_eq_false_iff _ _).mp (hy z hz).1
      have hzx : z.1.rank < x.1.rank := hzy.trans_lt ((ranksAbove_iff _ _).mp h)
      exact ⟨(ranksAbove_eq_false_iff _ _).mpr hzx.le, fun hn => absurd ((ranksAbove_eq_false_iff _ _).mp hn) hzx.not_ge⟩
    · next h =>
      refine List.pairwise_cons.mpr ⟨fun z hz => ?_, ih hys fun z hz => hx z (.tail _ hz)⟩
      rcases List.mem_cons.mp ((rankIn_perm x ys).mem_iff.mp hz) with rfl | hz
      · exact ⟨by simpa using h, fun _ => hx y (.head _)⟩
      · exact hy z hz

/-- The first k places of an insertion follow from the first k places of the list. -/
theorem take_rankIn (x : Num × Nat) (k : Nat) (l : List (Num × Nat)) : (rankIn x (l.take k)).take k = (rankIn x l).take k := by
  induction l generalizing k with
  | nil => simp
  | cons y ys ih =>
    cases k with
    | zero => simp
    | succ k =>
      rw [List.take_succ_cons, rankIn, rankIn]
      split
      · cases k <;> simp [List.take_take]
      · rw [List.take_succ_cons, List.take_succ_cons, ih]

/-- A whole list ranked. -/
def ranked (ys : List (Num × Nat)) : List (Num × Nat) := ys.foldl (fun l x => rankIn x l) []

/-- The list cut at k after each insertion is the ranked list cut at k. -/
theorem foldl_rankIn_take (k : Nat) (ys l : List (Num × Nat)) :
    ys.foldl (fun l x => (rankIn x l).take k) (l.take k) = (ys.foldl (fun l x => rankIn x l) l).take k := by
  induction ys generalizing l with
  | nil => rfl
  | cons y ys ih => rw [List.foldl_cons, List.foldl_cons, take_rankIn, ih]

/-- Elements of rising indices are ranked, and ranking moves them only. -/
theorem foldl_rankIn (ys l : List (Num × Nat)) (hl : l.Pairwise Before) (hys : ys.Pairwise (fun p q => p.2 < q.2))
    (hlt : ∀ p ∈ l, ∀ q ∈ ys, p.2 < q.2) :
    (ys.foldl (fun l x => rankIn x l) l).Pairwise Before ∧ (ys.foldl (fun l x => rankIn x l) l).Perm (l ++ ys) := by
  induction ys generalizing l with
  | nil => exact ⟨hl, by simp⟩
  | cons y ys ih =>
    obtain ⟨hy, hys⟩ := List.pairwise_cons.mp hys
    have hin := rankIn_perm y l
    obtain ⟨hord, hperm⟩ := ih (rankIn y l) (rankIn_pairwise y l hl fun p hp => hlt p hp y (.head _)) hys fun p hp q hq => by
      rcases List.mem_cons.mp (hin.mem_iff.mp hp) with rfl | hp
      · exact hy q hq
      · exact hlt p hp q (.tail _ hq)
    exact ⟨hord, hperm.trans ((hin.append_right ys).trans (List.perm_middle.symm))⟩

/-- The indices of a list with its positions rise. -/
theorem pairwise_zipIdx {α : Type} (xs : List α) : xs.zipIdx.Pairwise (fun p q => p.2 < q.2) := by
  have h : (xs.zipIdx.map Prod.snd).Pairwise (· < ·) := by
    rw [List.zipIdx_map_snd]
    exact List.pairwise_lt_range'
  exact List.pairwise_map.mp h

/-- A list with its positions, ranked. -/
theorem ranked_zipIdx (xs : List Num) : (ranked xs.zipIdx).Pairwise Before ∧ (ranked xs.zipIdx).Perm xs.zipIdx :=
  foldl_rankIn xs.zipIdx [] .nil (pairwise_zipIdx xs) (by simp)

/-! ## What TOPK writes -/

/-- Settles O15: the list that TOPK keeps is the first k places of the whole list ranked. -/
theorem topkRanks : Obligations.TopkRanks := by
  unfold Obligations.TopkRanks
  intro o xs hlen _
  obtain ⟨hord, hperm⟩ := ranked_zipIdx xs
  have htop : xs.zipIdx.foldl (fun l x => (rankIn x l).take o.kn) [] = (ranked xs.zipIdx).take o.kn := by
    simpa [ranked] using foldl_rankIn_take o.kn xs.zipIdx []
  have hsplit := List.pairwise_append.mp ((List.take_append_drop o.kn (ranked xs.zipIdx)).symm ▸ hord)
  refine ⟨(ranked xs.zipIdx).take o.kn, ?_, fun p hp => ?_, hord.sublist (List.take_sublist _ _), fun j x hj hx p hp => ?_, ?_⟩
  · rw [List.length_take, hperm.length_eq, List.length_zipIdx, hlen]
  · exact List.mem_zipIdx_iff_getElem?.mp (hperm.mem_iff.mp (List.mem_of_mem_take hp))
  · have hmem : (x, j) ∈ ranked xs.zipIdx := hperm.mem_iff.mpr (List.mem_zipIdx_iff_getElem?.mpr hj)
    rw [← List.take_append_drop o.kn (ranked xs.zipIdx)] at hmem
    exact (hsplit.2.2 p hp (x, j) ((List.mem_append.mp hmem).resolve_left hx)).1
  · simp only [rowTopk, htop, List.map_append, List.flatten_append, List.map_const', List.map_replicate, List.length_range]

end Sys2Proof.Machine
end

section
/-! PROOFS. Rings and their jobs (spec/11 R365 to R380, spec/12 R409, R410): enabling, polls, fetches, checks, causes, records and digests. -/

namespace Sys2Proof.Claims

open Sys2Proof.Machine

/-- A write that takes its effect. -/
theorem Takes.gate {s : State} {who : Initiator} {key : Nat} {cls : RegClass} (h : Takes s who key cls) (eff : State → State) :
    s.gate who key cls eff = eff s := by
  obtain ⟨hhost, habsent, hmay⟩ := h
  have hreach : ¬((who = .host ∧ (!s.hostReach key) = true) ∨ s.absentPage key = true) := by
    rintro (⟨hw, hr⟩ | ha)
    · simp [hhost hw] at hr
    · simp [habsent] at ha
  rw [State.gate, if_neg hreach, if_pos hmay]

end Sys2Proof.Claims

namespace Sys2Proof.Machine

open Sys2Proof.Claims

/-! ## Ring records -/

section rings
variable (s : State) (r : Nat)

/-- A ring reads as it was last set. -/
@[simp] theorem State.ring_setRing (x : Ring) : (s.setRing r x).ring r = x := by simp [State.ring, State.setRing]

/-- Registers have no part in the rings. -/
@[simp] theorem State.ring_setReg (k : Nat) (v : Word) : (s.setReg k v).ring r = s.ring r := rfl

/-- Status bits have no part in the rings. -/
@[simp] theorem State.ring_orReg (k m : Nat) : (s.orReg k m).ring r = s.ring r := rfl

/-- A fault stops a ring that is on, with its code. -/
theorem State.ring_ringFault (code : Nat) : (s.ringFault r code).ring r =
    if (s.ring r).phase = .on then { s.ring r with phase := .fault, code := code } else s.ring r := by
  simp only [State.ringFault]
  split
  · rw [State.ring_orReg, State.ring_setRing]
  · rfl

end rings

/-! ## Producer lines (R371) -/

/-- A ring after a producer line: its indices, and the fault of the first that is out of range. -/
theorem State.ring_takeLine (s : State) (r : Nat) (b : Bytes) : (s.takeLine r b).ring r =
    let z : Ring := { s.ring r with pi := BitVec.ofNat 32 (leAt b 0 4), cr := BitVec.ofNat 32 (leAt b 4 4), marked := false }
    if 2 ^ s.sqLog r < (z.pi - z.fetched).toNat then (if z.phase = .on then { z with phase := .fault, code := 1 } else z)
    else if (z.cr - z.written).toNat ≠ 0 ∧ (z.cr - z.written).toNat < 2 ^ 31 then (if z.phase = .on then { z with phase := .fault, code := 2 } else z)
    else z := by
  simp only [State.takeLine, apply_ite (fun u => State.ring u r), State.ring_ringFault, State.ring_setRing]
  rfl

/-- The indices of a producer line, judged in their order. -/
theorem producerLines_judged : Claims.ProducerLinesAreJudged := by
  intro r b s pi cr x y far ahead
  have hy : y = _ := State.ring_takeLine s r b
  have hfetch (h : s.stage < 3 ∨ x.phase ≠ .on) : s.mayFetch r = false := by
    have hruns : s.ringRuns r = false := by
      rcases h with h | h
      · simp [State.ringRuns, Nat.not_le.mpr h]
      · simp [State.ringRuns, show (s.ring r).phase ≠ .on from h]
    simp [State.mayFetch, hruns]
  refine ⟨?_, ?_, ?_, ?_, fun hon hfar => ?_, fun hon hfar hahead => ?_, fun hfar hahead => ?_, fun hoff => ?_, hfetch⟩
  iterate 4 (rw [hy]; simp only []; split_ifs <;> rfl)
  · rw [hy]
    simp only []
    rw [if_pos hfar, if_pos hon]
    exact ⟨rfl, rfl⟩
  · rw [hy]
    simp only []
    rw [if_neg hfar, if_pos hahead, if_pos hon]
    exact ⟨rfl, rfl⟩
  · rw [hy]
    simp only []
    rw [if_neg hfar, if_neg hahead]
  · rw [hy]
    simp only []
    rw [if_neg hoff]
    split_ifs <;> rfl

/-! ## Records (R380) -/

/-- The number that bytes spell. -/
theorem ofLe_lt : ∀ b : Bytes, ofLe b < 256 ^ b.length
  | [] => by decide
  | x :: b => by
    have hb := ofLe_lt b
    have hx : x.toNat < 256 := x.isLt
    rw [ofLe, List.length_cons, Nat.pow_succ]
    omega

/-- A field of n bytes. -/
theorem leAt_lt (b : Bytes) (o n : Nat) : leAt b o n < 256 ^ n :=
  (ofLe_lt _).trans_le (Nat.pow_le_pow_right (by decide) (List.length_take_le n _))

/-- The bytes of a completion record. -/
theorem record_bytes : Claims.RecordBytes := by
  intro j k kind c s hk hseal hstatus hend hrefusal hflags b
  have hphase : k / 2 ^ s.cqLog j.ring % 2 < 2 := Nat.mod_lt _ (by decide)
  have hfirst : ((1 - k / 2 ^ s.cqLog j.ring % 2) + 2 * kind + 8 * c.sealSt) % 256 =
      (1 - k / 2 ^ s.cqLog j.ring % 2) + 2 * kind + 8 * c.sealSt := Nat.mod_eq_of_lt (by omega)
  have hidx : j.idx.toNat % 256 ^ 4 = j.idx.toNat := Nat.mod_eq_of_lt j.idx.isLt
  have hcookie : leAt j.desc 8 8 % 256 ^ 8 = leAt j.desc 8 8 := Nat.mod_eq_of_lt (leAt_lt _ _ _)
  simp only [b, State.recordLine, List.append_assoc, leAt_append_right, leAt_append_self, length_leBytes, Nat.reduceLeDiff, Nat.reduceSub,
    Nat.shiftRight_eq_div_pow, hflags, Nat.zero_testBit, Bool.false_eq_true, and_false, if_false, Nat.add_zero, hfirst, hidx, hcookie,
    List.length_append, Nat.reduceAdd, Nat.pow_one, Nat.mod_eq_of_lt hstatus, Nat.mod_eq_of_lt hend, Nat.mod_eq_of_lt hrefusal, and_self]

/-- Settles O46. -/
theorem ringLinesAreJudgedAndWritten : Obligations.RingLinesAreJudgedAndWritten :=
  ⟨producerLines_judged, record_bytes⟩

/-! ## Causes, records and digests (R377 to R380, spec/12 R409, R410) -/

/-- The first cause of a job stands. -/
theorem firstCause_stands : Claims.FirstCauseStands := by
  intro tag j s hj ms
  have hset (c : JobCause) : s.jobCause tag.toNat c = if j.cause.isSome then s else
      (s.setJob tag.toNat (some { j with cause := some c, phase := .ending })).killJob j := by
    rw [State.jobCause, hj]
  refine ⟨fun hms hdue => ?_, fun hno => ?_, fun c hc => ?_, fun c hc ht => ?_⟩
  · rw [exec_jobTimeout, execJobTimeout, hj]
    exact if_neg (by omega)
  · rw [exec_jobTimeout, execJobTimeout, hj]
    exact if_pos hno
  · rw [hset, if_pos hc]
  · rw [hset, hc, State.killJob, ht]
    rfl

/-- Records are written once they can be. -/
theorem records_written : Claims.RecordsAreWritten := by
  intro tag j s hj
  refine ⟨fun hnone => ⟨?_, ?_⟩, fun c v hres hready => ⟨fun hrec hst => ?_, fun hrec hst => ?_, fun hrec hst => ?_, fun hrec => ⟨?_, ?_⟩⟩,
    fun c v hres hready hrec => ?_⟩
  · simp only [exec_completionRecordWrite, execCompletionRecordWrite, hj, hnone]
  · simp only [exec_sealUpdate, execSealUpdate, hj, hnone]
  · have h2 : ¬c.status < 2 := by omega
    have h1 : c.status ≠ 1 := by omega
    simp [execCompletionRecordWrite, hj, hres, hrec, hready, h2, h1]
  · simp [execCompletionRecordWrite, hj, hres, hrec, hready, hst]
  · simp [execCompletionRecordWrite, hj, hres, hrec, hready, hst]
  · simp [execSealUpdate, hj, hres, hrec, hready]
  · simp [execCompletionRecordWrite, hj, hres, hrec]
  · simp [execCompletionRecordWrite, hj, hres, hrec, hready]

/-- What the digest engine stores of a job whose input, or free value, it has. -/
theorem digest_stored {x w v : State} {d : DigestJob} {h : Bytes} {a n : Nat} (hx : x = w)
    (hin : (∃ b, w.digestInput d = (some b, v) ∧ h = Config.sm3 b) ∨ ∃ y, w.digestInput d = (none, y) ∧ y.freshDigest = (h, v)) :
    (let (b, s) := x.digestInput d
      let (h, s) : Bytes × State := match b with
        | some b => (Config.sm3 b, s)
        | none => s.freshDigest
      let line := leBytes 8 (leAt d.desc 8 8) ++ leBytes 4 d.idx.toNat ++ leBytes 1 d.ring ++ leBytes 1 d.flags ++ leBytes 1 stSealed ++
        leBytes 17 0 ++ h.take 32
      (.next ((s.store a line).setRegField rMGT_SHADOWCNT 63 32 n) : Host.Outcome State Fault Refusal)) =
    .next ((v.store a (leBytes 8 (leAt d.desc 8 8) ++ leBytes 4 d.idx.toNat ++ leBytes 1 d.ring ++ leBytes 1 d.flags ++ leBytes 1 0 ++
      leBytes 17 0 ++ h.take 32)).setRegField rMGT_SHADOWCNT 63 32 n) := by
  subst hx
  rcases hin with ⟨b, hb, rfl⟩ | ⟨y, hy, hf⟩
  · simp only [hb]
  · simp only [hy, hf]

/-- Digests are written while their ring has room. -/
theorem digests_written : Claims.DigestsAreWritten := by
  intro s
  refine ⟨fun tag d hd => ?_, fun who v h => ?_⟩
  · intro u loc size n full
    have hex : exec (.digestCompute tag) s = execDigestCompute tag s := rfl
    rw [hex, execDigestCompute, hd]
    refine ⟨fun hfull => if_pos hfull, ?_⟩
    intro g w
    refine ⟨fun hfree hwait => (if_neg hfree).trans (if_pos (show (!g.1) = true by rw [hwait]; rfl)), ?_⟩
    intro h v hfree hgo hin line
    refine (if_neg hfree).trans ((if_neg (show ¬(!g.1) = true by rw [hgo]; decide)).trans ?_)
    have hw : ({ g.2 with digests := s.digests.erase d } : State) = w := by
      obtain ⟨r, l, hg⟩ := State.snoopedAll_parts s ((field loc 47 0 + n % size * 64, 64, true) :: (descRegions d.desc).map (fun q => (q.1, q.2, false)))
      have hdig : g.2.digests = s.digests := by rw [show g.2 = _ from hg]
      simp only [w, hdig]
    exact digest_stored hw hin
  · rw [exec_shadowlocWrite, execShadowlocWrite]
    exact congrArg Host.Outcome.next (h.gate _)

/-- Settles O47. -/
theorem jobsEnd : Obligations.JobsEnd :=
  ⟨firstCause_stands, records_written, digests_written⟩

/-! ## Enabling (R368) -/

/-- A write that takes its effect on a register of its own class. -/
theorem next_gateReg {s : State} {who : Initiator} {key : Nat} (h : Takes s who key (classOf key)) {eff : State → State} {u : State}
    (heff : eff s = u) : (.next (s.gateReg who key eff) : Host.Outcome State Fault Refusal) = .next u := by
  rw [State.gateReg, h.gate, heff]

/-- A ring without jobs that is left to drain is OFF. -/
theorem State.ring_ringSettle_draining (s : State) (r : Nat) (h : (s.ring r).phase = .draining) :
    (s.ringSettle r).ring r = { s.ring r with phase := if s.ringJobs r = [] then .off else .draining } := by
  by_cases hj : s.ringJobs r = []
  · simp [State.ringSettle, h, hj]
  · have hset : s.ringSettle r = s := if_neg (by simp [hj])
    rw [hset, if_neg hj, ← h]

/-- What a write of CXL_RINGr_CFG leaves of its ring. -/
theorem State.ring_ringCfgWrite (s : State) (r : Nat) (v : Word) :
    (s.ringCfgWrite r v).ring r =
      if bitOf v 0 && !bitOf (s.reg (ringKey r rCXL_RINGr_CFG)) 0 && decide ((s.ring r).phase = .off) then { Ring.zero with phase := .on }
      else if !bitOf v 0 && bitOf (s.reg (ringKey r rCXL_RINGr_CFG)) 0 then
        { s.ring r with phase := if s.ringJobs r = [] then .off else .draining }
      else s.ring r := by
  have hjobs (u : State) (b : Bool) (hu : u.jobs = s.jobs) (x : Ring) :
      ((if b then u.orReg rCXL_STATUS 8 else u).setRing r x).ringJobs r = s.ringJobs r := by
    unfold State.ringJobs
    split <;> exact congrArg _ hu
  unfold State.ringCfgWrite
  dsimp only
  cases hw : bitOf v 0 <;> cases ho : bitOf (s.reg (ringKey r rCXL_RINGr_CFG)) 0
  · simp
  · simp only [Bool.not_false, Bool.not_true, Bool.true_and, Bool.false_and, Bool.and_true, Bool.false_eq_true, if_true, if_false]
    rw [State.ring_ringSettle_draining _ _ (by rw [State.ring_setRing]), State.ring_setRing, hjobs (State.setReg _ _ _) _ rfl]
  · by_cases hp : (s.ring r).phase = .off
    · simp [hp]
    · simp [hp]
  · simp [apply_ite (fun u => State.ring u r)]

/-- A bit reads as it was set. -/
theorem bitOf_setBit (w : Word) {i : Nat} (hi : i < 64) (b : Bool) : bitOf (setBit w i b) i = b := by
  cases b
  · simp [bitOf_eq_field, setBit, field_setField_same w 0 hi]
  · exact bitOf_setBit_true w hi

/-- The ENABLE bit that a write of CXL_RINGr_CFG leaves: none where the ring could not start. -/
theorem State.enable_ringCfgWrite (s : State) (r : RingId) (v : Word) (hw : bitOf v 0 = true)
    (ho : bitOf (s.reg (ringKey r rCXL_RINGr_CFG)) 0 = false) (hr : (s.ring r).phase ≠ .off) :
    bitOf ((s.ringCfgWrite r v).reg (ringKey r rCXL_RINGr_CFG)) 0 = false := by
  have hne : ringKey r rCXL_RINGr_CFG ≠ rCXL_STATUS := by simp [ringKey, rCXL_RINGr_CFG, rCXL_STATUS]; omega
  unfold State.ringCfgWrite
  simp [hw, ho, hr, State.orReg, State.reg_setReg, hne, bitOf_setBit]

/-- Rings are enabled, left to drain, and refused. -/
theorem rings_enabled : Claims.RingsAreEnabled := by
  intro who r v s
  dsimp only
  intro h
  refine ⟨fun hv => next_gateReg h (if_pos hv), fun hv => next_gateReg h (if_neg (by rw [hv]; decide)), fun ho hv hoff => ?_,
    fun ho hv hon => ⟨?_, State.enable_ringCfgWrite s r v hv ho hon⟩, fun ho hv hjobs => ?_, fun ho hv hjobs => ?_⟩
  · rw [State.ring_ringCfgWrite, ho, hv, hoff]
    rfl
  · simp [State.ring_ringCfgWrite, ho, hv, hon]
  · simp [State.ring_ringCfgWrite, ho, hv, hjobs]
  · simp [State.ring_ringCfgWrite, ho, hv, hjobs]

/-! ## Polls and fetches (R365, R366, R369, R371) -/

/-- Snoops leave the address of a producer line. -/
theorem State.plAddr_snooped (s : State) (r : RingId) (a len : Nat) (write : Bool) : (s.snooped a len write).2.plAddr r = s.plAddr r := by
  have hne : ringKey r rCXL_RINGr_PL ≠ rCXL_SFCNT := by simp [ringKey, rCXL_RINGr_PL, rCXL_SFCNT]; omega
  simp only [State.snooped, State.snoopedAll, State.plAddr, State.regField]
  split
  · exact congrArg (fun w => field w 63 6 * 64) (State.reg_count_ne s _ _ _ hne)
  · rfl

/-- A wait for the link beyond a second faults a ring that has its structures in host memory. -/
theorem linkWait_expires {s : State} {r : RingId} (hl : s.ringLocal r = false) (hruns : s.ringRuns r = true) (hup : s.port.up = false)
    (hlate : s.port.downAt + 1000000000 < s.ns) : exec (.linkWaitExpire r) s = .next (s.ringFault r 3) :=
  if_pos ⟨hruns, by rw [hl]; decide, by rw [hup]; decide, hlate⟩

/-- Otherwise the wait goes on. -/
theorem linkWait_goes_on {s : State} {r : RingId} (h : s.port.up = true ∨ s.ns ≤ s.port.downAt + 1000000000) :
    exec (.linkWaitExpire r) s = .next s := by
  refine if_neg ?_
  rintro ⟨-, -, hup, hlate⟩
  rcases h with h | h
  · rw [h] at hup
    exact absurd hup (by decide)
  · exact absurd hlate (Nat.not_lt.mpr h)

/-- What an access of a ring in device memory comes to: snoops that are in the way, its bytes, or a failed read. -/
def State.ringGets (g : Bool × State) (a len : Nat) (ok : State → Bytes → State) (bad : State → State) : State :=
  match g with
  | (go, u) => if !go then u else match u.ringRead a len with
    | (some b, v) => ok v b
    | (none, v) => bad v

section gets
variable {g : Bool × State} {a len : Nat} {ok : State → Bytes → State} {bad : State → State}

/-- Snoops are sent first. -/
theorem State.ringGets_held (hgo : g.1 = false) : State.ringGets g a len ok bad = g.2 := by
  obtain ⟨go, u⟩ := g
  obtain rfl : go = false := hgo
  rfl

/-- Bytes that were read are taken. -/
theorem State.ringGets_some {b : Bytes} {v : State} (hgo : g.1 = true) (hr : g.2.ringRead a len = (some b, v)) :
    State.ringGets g a len ok bad = ok v b := by
  obtain ⟨go, u⟩ := g
  obtain rfl : go = true := hgo
  simp only at hr
  simp [State.ringGets, hr]

/-- A read that failed. -/
theorem State.ringGets_none {v : State} (hgo : g.1 = true) (hr : g.2.ringRead a len = (none, v)) :
    State.ringGets g a len ok bad = bad v := by
  obtain ⟨go, u⟩ := g
  obtain rfl : go = true := hgo
  simp only at hr
  simp [State.ringGets, hr]

end gets

section near
variable {s : State} {r : RingId} {l : Option Bytes} (hl : s.ringLocal r = true)
include hl

/-- A ring in device memory reads its next descriptor once no snoop is in the way. -/
theorem descriptorFetch_local (hmay : s.mayFetch r = true) :
    exec (.descriptorFetch r l) s = .next (State.ringGets (s.snooped (s.sqBase r + (s.ring r).fetched.toNat % 2 ^ s.sqLog r * 128) 128 false)
      (s.sqBase r + (s.ring r).fetched.toNat % 2 ^ s.sqLog r * 128) 128 (fun v b => v.newJob r b) (fun v => v.ringFault r 3)) := by
  refine ((if_neg (by rw [hmay]; decide)).trans (if_pos hl)).trans ?_
  dsimp -iota only
  generalize s.snooped _ 128 false = g
  rcases g with ⟨_ | _, u⟩
  · rfl
  · generalize s.sqBase r + (s.ring r).fetched.toNat % 2 ^ s.sqLog r * 128 = a
    rcases hr : u.ringRead a 128 with ⟨_ | b, v⟩ <;> simp [State.ringGets, hr]

/-- A ring in device memory reads a producer line that the host has written once no snoop is in the way. -/
theorem ringPoll_local (hruns : s.ringRuns r = true) (hp : s.ringPlaced r = true) (hm : (s.ring r).marked = true) :
    exec (.ringPoll r l) s = .next (State.ringGets (s.snooped (s.plAddr r) 64 false) (s.plAddr r) 64 (fun v b => v.takeLine r b)
      (fun v => v.ringFault r 3)) := by
  refine ((if_neg (by rw [hruns]; decide)).trans ((if_neg (by rw [hp]; decide)).trans ((if_pos hl).trans (if_neg (by rw [hm]; decide))))).trans ?_
  have hpl := State.plAddr_snooped s r (s.plAddr r) 64 false
  generalize s.snooped (s.plAddr r) 64 false = g at hpl ⊢
  rcases g with ⟨_ | _, u⟩
  · rfl
  · replace hpl : u.plAddr r = s.plAddr r := hpl
    rcases hr : u.ringRead (s.plAddr r) 64 with ⟨_ | b, v⟩ <;> simp [State.ringGets, hpl, hr]

end near

/-- Producer lines are written and polled, descriptors fetched, and waits for the link expire. -/
theorem rings_fetch : Claims.RingsFetch := by
  intro r s
  dsimp only
  have hplaced (h : s.ringLocal r = false) : s.ringPlaced r = true := by simp [State.ringPlaced, h]
  refine ⟨fun hl b => ?_, fun hl hup hactive hexp b h1 h64 => ?_, fun hruns hp l => ?_, fun hl hruns hp l => ⟨fun hm => ?_, fun hm hgo => ?_,
    fun b v hm hgo hr => ?_, fun v hm hgo hr => ?_⟩, fun hl hmay l => ⟨fun hgo => ?_, fun b v hgo hr => ?_, fun v hgo hr => ?_⟩,
    fun hl hruns hc hup => ⟨fun b => ?_, ?_⟩, fun hl hruns hc l => ?_, fun hl hmay hup => ⟨fun b hb => ?_, ?_⟩, fun hmay d => ?_,
    fun hl hruns hup hlate => linkWait_expires hl hruns hup hlate, linkWait_goes_on⟩
  · simp [execProducerLineWrite, hl]
  · simp [execProducerLineWrite, hl, hup, hactive, hexp, h1, h64]
  · simp [execRingPoll, hruns, hp]
  · simp [execRingPoll, hruns, hp, hl, hm]
  · rw [ringPoll_local hl hruns hp hm, State.ringGets_held hgo]
  · rw [ringPoll_local hl hruns hp hm, State.ringGets_some hgo hr]
  · rw [ringPoll_local hl hruns hp hm, State.ringGets_none hgo hr]
  · rw [descriptorFetch_local hl hmay, State.ringGets_held hgo]
  · rw [descriptorFetch_local hl hmay, State.ringGets_some hgo hr]
  · rw [descriptorFetch_local hl hmay, State.ringGets_none hgo hr]
  · simp [execRingPoll, hruns, hplaced hl, hl, hc, hup]
  · simp [execRingPoll, hruns, hplaced hl, hl, hc, hup]
  · simp [execRingPoll, hruns, hplaced hl, hl, hc]
  · simp [execDescriptorFetch, hmay, hl, hup, hb]
  · simp [execDescriptorFetch, hmay, hl, hup]
  · simp [execDescriptorFetch, hmay]

/-! ## The operations of descriptors (R373 to R376) -/

/-- The checks of a descriptor that needs no task list, in their order. -/
theorem descriptorChecks_ordered : Claims.DescriptorChecksAreOrdered := by
  intro j s target barred
  have hcheck : s.plainCheck j = if !descFieldsOk j.desc then some stBadDescriptor
    else if j.op = 2 ∧ (!bitOf j.limit 33 ∨ tgRemote target ∨ !j.allows (tgCore target)) then some stPermission
    else if s.computeReset then some stConflict
    else none := rfl
  have hbarred : (j.op = 2 ∧ (!bitOf j.limit 33 ∨ tgRemote target ∨ !j.allows (tgCore target))) ↔ barred := by simp [barred]
  rw [hcheck]
  refine ⟨fun hbad => ?_, fun hok hb => ?_, fun hok hb hr => ?_, fun hok hb hr => ?_⟩
  · simp [hbad]
  · rw [hok, if_neg (by decide), if_pos (hbarred.mpr hb)]
  · rw [hok, if_neg (by decide), if_neg (fun h => hb (hbarred.mp h)), hr, if_pos rfl]
  · rw [hok, if_neg (by decide), if_neg (fun h => hb (hbarred.mp h)), hr, if_neg (by decide)]

/-- A SEND is under way on a proxy channel. -/
theorem anyBusy_iff (s : State) (key : Nat) :
    (s.jobs.any (fun e => (e.2.map (fun k => decide (k.key = key) && (decide (k.phase = .sending) || decide (k.phase = .backoff)))).getD false)) = true ↔
      ∃ e ∈ s.jobs, ∃ k, e.2 = some k ∧ k.key = key ∧ (k.phase = .sending ∨ k.phase = .backoff) := by
  rw [List.any_eq_true]
  refine exists_congr fun e => and_congr_right fun _ => ?_
  cases e.2 <;> simp

/-- The oldest fetched job of a ring begins. -/
theorem jobs_begin : Claims.JobsBegin := by
  intro r j s hj
  dsimp only
  refine ⟨fun hop => ?_, fun hop => ⟨fun e he => ?_, fun hnone hone => ?_, fun hnone hmore => ?_⟩, fun hop => ?_, fun hop => ?_,
    fun tag k hk => ⟨fun hph hag => ?_, fun hno => ?_⟩⟩
  · simp [execJobNop, hj, hop]
  · simp [execJobFence, hj, hop, he]
  · simp [execJobFence, hj, hop, hnone, hone]
  · simp [execJobFence, hj, hop, hnone, hmore]
  · refine ⟨fun v ts hgo hc => ?_, fun v e hgo hc => ?_, fun hgo => ?_⟩
    · simp [execJobStart, hj, hop, hgo, hc]
    · simp [execJobStart, hj, hop, hgo, hc]
    · simp [execJobStart, hj, hop, hgo]
  · refine ⟨fun e he => ?_, fun hnone hbusy => ?_, fun hnone hbusy => ?_⟩
    · simp [execJobSend, hj, hop, he]
    · rw [exec_jobSend, execJobSend, hj]
      simp only [hop, ne_eq, not_true_eq_false, if_false, hnone]
      exact if_pos ((anyBusy_iff s _).mpr hbusy)
    · rw [exec_jobSend, execJobSend, hj]
      simp only [hop, ne_eq, not_true_eq_false, if_false, hnone]
      exact if_neg (fun h => hbusy ((anyBusy_iff s _).mp h))
  · simp [execJobSendRetry, hk, hph, hag]
  · rw [exec_jobSendRetry, execJobSendRetry, hk]
    exact congrArg Host.Outcome.next (if_neg (by rintro ⟨hph, hag⟩; rcases hno with hno | hno; exacts [hno hph, absurd hag (by omega)]))

/-- Settles O45. -/
theorem ringsDriveJobs : Obligations.RingsDriveJobs :=
  ⟨rings_enabled, rings_fetch, jobs_begin, descriptorChecks_ordered⟩

end Sys2Proof.Machine
end

section
/-! PROOFS. The host port (spec/11 R354 to R363): the link and its resets, the mailbox, CXL.mem requests, the snoop filter and snoops. -/

namespace Sys2Proof.Machine

open Sys2Proof.Claims

/-! ## The link and its resets (R354) -/

/-- The link goes down and up, and the resets that the host brings about. -/
theorem hostLink_changes : Claims.HostLinkChanges := by
  intro s
  dsimp only
  refine ⟨fun hpow hp => ?_, fun hno => ?_, fun hpow hp => ⟨fun hb => ?_, fun hb => ?_⟩, fun hup => ?_, fun hup => ?_,
    fun speed width flit ht hp hup hs => ?_, fun hno => ?_, fun speed width flit hno => ?_, fun h0 => ?_, fun h0 => ?_⟩
  · exact if_neg (by simp [hpow, hp])
  · exact if_pos (by simpa using hno)
  · exact (if_neg (by simp [hpow, hp])).trans (if_pos (by simp [hb]))
  · exact (if_neg (by simp [hpow, hp])).trans (if_neg (by simp [hb]))
  · exact if_neg (by simp [hup])
  · exact if_pos (by simp [hup])
  · exact if_neg (by simp [ht, hp, hup, show ¬speed = 0#3 from hs])
  · exact if_pos (by simpa using hno)
  · exact if_pos (by simpa using hno)
  · exact if_neg (by simp [h0])
  · exact if_pos (by simp [h0])

/-! ## The mailbox (R356, R357) -/

section mailbox
variable {s : State} {opc st : Nat} {eff : State → State}
  (h0 : s.stage0 = true) (h63 : bitOf (s.reg rCXL_MBCMD) 63 = true) (hopc : field (s.reg rCXL_MBCMD) 15 0 = opc) (hst : mboxStage opc = some st)

/-- A mailbox that holds no command is left alone. -/
theorem State.mailbox_empty (h : bitOf (s.reg rCXL_MBCMD) 63 = false) (opc : Nat) (eff : State → State) : s.mailbox opc eff = s :=
  if_pos (by simp [h])

include h0 h63 hopc

/-- The command that is posted fails with the code of its first check. -/
theorem State.mailbox_fails {c : Nat} (hc : s.mboxError opc = some c) : s.mailbox opc eff = s.mboxDone c [] := by
  subst hopc
  exact (if_neg (by simp [h0, h63])).trans (by rw [hc])

/-- One that passes the checks is handled. -/
theorem State.mailbox_passes (hc : s.mboxError opc = none) : s.mailbox opc eff = eff s := by
  subst hopc
  exact (if_neg (by simp [h0, h63])).trans (by rw [hc])

include hst

/-- Before its stage, or with Forester stopped, a command fails with code 2. -/
theorem State.mailbox_early (h : s.stage < st ∨ (mboxForester opc = true ∧ bitOf (s.reg rWDN_STATUS) 11 = true)) :
    s.mailbox opc eff = s.mboxDone 2 [] := by
  refine State.mailbox_fails h0 h63 hopc ?_
  simp only [State.mboxError, hst]
  exact if_pos h

variable (hgo : st ≤ s.stage) (hrun : mboxForester opc = true → bitOf (s.reg rWDN_STATUS) 11 = false)
include hgo hrun

omit h0 h63 hopc in
/-- Past the first check, the second and third decide. -/
theorem State.mboxError_late : s.mboxError opc =
    if mboxForester opc ∧ s.wdn.restarting then some 5 else if !s.mboxPayloadOk opc then some 3 else none := by
  have hno : ¬(s.stage < st ∨ (mboxForester opc = true ∧ bitOf (s.reg rWDN_STATUS) 11 = true)) := by
    rintro (h | ⟨hf, h⟩)
    · omega
    · rw [hrun hf] at h
      exact absurd h (by decide)
  simp only [State.mboxError, hst]
  exact if_neg hno

/-- While Forester restarts, a command that it handles fails with code 5. -/
theorem State.mailbox_restarting (hf : mboxForester opc = true) (hr : s.wdn.restarting = true) : s.mailbox opc eff = s.mboxDone 5 [] :=
  State.mailbox_fails h0 h63 hopc (by rw [State.mboxError_late hst hgo hrun, if_pos ⟨hf, hr⟩])

variable (hr : mboxForester opc = true → s.wdn.restarting = false)
include hr

omit h0 h63 hopc in
/-- With Forester running, or not asked for, the payload decides. -/
theorem State.mboxError_payload : s.mboxError opc = if !s.mboxPayloadOk opc then some 3 else none := by
  rw [State.mboxError_late hst hgo hrun, if_neg (fun h => by simp [hr h.1] at h)]

/-- A payload that is not the one laid out fails a command with code 3. -/
theorem State.mailbox_misformed (hp : s.mboxPayloadOk opc = false) : s.mailbox opc eff = s.mboxDone 3 [] :=
  State.mailbox_fails h0 h63 hopc (by rw [State.mboxError_payload hst hgo hrun hr, hp]; rfl)

/-- Any other command is handled. -/
theorem State.mailbox_handled (hp : s.mboxPayloadOk opc = true) : s.mailbox opc eff = eff s :=
  State.mailbox_passes h0 h63 hopc (by rw [State.mboxError_payload hst hgo hrun hr, hp]; rfl)

end mailbox

/-- A command without a payload, by its stage and whether Forester handles it. -/
theorem mailbox_gives {s : State} {opc st : Nat} {forester : Bool} (res : State → Bytes) (hst : mboxStage opc = some st) (hfor : mboxForester opc = forester)
    (hpay : s.mboxPayloadOk opc = decide (s.regField rCXL_MBCMD 28 16 = 0))
    (h : s.stage0 = true ∧ bitOf (s.reg rCXL_MBCMD) 63 = true ∧ field (s.reg rCXL_MBCMD) 15 0 = opc) :
    let x : Host.Outcome State Fault Refusal := .next (s.mailbox opc (fun s => s.mboxDone 0 (res s)))
    (s.stage < st ∨ (forester = true ∧ bitOf (s.reg rWDN_STATUS) 11 = true) → x = .next (s.mboxDone 2 [])) ∧
    (st ≤ s.stage → (forester = true → bitOf (s.reg rWDN_STATUS) 11 = false) →
      (forester = true → s.wdn.restarting = true → x = .next (s.mboxDone 5 [])) ∧
      ((forester = true → s.wdn.restarting = false) → s.regField rCXL_MBCMD 28 16 ≠ 0 → x = .next (s.mboxDone 3 [])) ∧
      ((forester = true → s.wdn.restarting = false) → s.regField rCXL_MBCMD 28 16 = 0 → x = .next (s.mboxDone 0 (res s)))) := by
  subst hfor
  obtain ⟨h0, h63, hopc⟩ := h
  refine ⟨fun he => ?_, fun hgo hrun => ⟨fun hf hr => ?_, fun hr hlen => ?_, fun hr hlen => ?_⟩⟩
  · exact congrArg _ (State.mailbox_early h0 h63 hopc hst he)
  · exact congrArg _ (State.mailbox_restarting h0 h63 hopc hst hgo hrun hf hr)
  · exact congrArg _ (State.mailbox_misformed h0 h63 hopc hst hgo hrun hr (by rw [hpay]; exact decide_eq_false hlen))
  · exact congrArg _ (State.mailbox_handled h0 h63 hopc hst hgo hrun hr (by rw [hpay]; exact decide_eq_true hlen))

/-- A reset that the host asks for. -/
theorem mailbox_resets {s : State} {opc flag : Nat} {fine : Prop} {r : State → ResetReq} (hst : mboxStage opc = some 1) (hfor : mboxForester opc = false)
    (hpay : s.mboxPayloadOk opc = true ↔ fine)
    (h : s.stage0 = true ∧ bitOf (s.reg rCXL_MBCMD) 63 = true ∧ field (s.reg rCXL_MBCMD) 15 0 = opc) (hgo : 1 ≤ s.stage) :
    let x : Host.Outcome State Fault Refusal := .next (s.mailbox opc (fun s => s.reqReset flag (r s)))
    (¬fine → x = .next (s.mboxDone 3 [])) ∧ (fine → s.stage < 4 → x = .next (s.mboxDone 2 [])) ∧
    (fine → 4 ≤ s.stage → bitOf (s.reg rMGT_CTRL) flag = false → x = .next (s.mboxDone 4 [])) ∧
    (fine → 4 ≤ s.stage → bitOf (s.reg rMGT_CTRL) flag = true → x = .next ((s.mboxDone 0 []).askReset (r s) 2).2) := by
  obtain ⟨h0, h63, hopc⟩ := h
  have hrun : mboxForester opc = true → bitOf (s.reg rWDN_STATUS) 11 = false := by simp [hfor]
  have hr : mboxForester opc = true → s.wdn.restarting = false := by simp [hfor]
  have hdo (hf : fine) : s.mailbox opc (fun s => s.reqReset flag (r s)) = s.reqReset flag (r s) :=
    State.mailbox_handled h0 h63 hopc hst hgo hrun hr (hpay.mpr hf)
  refine ⟨fun hf => ?_, fun hf hlow => ?_, fun hf hhigh hflag => ?_, fun hf hhigh hflag => ?_⟩
  · exact congrArg _ (State.mailbox_misformed h0 h63 hopc hst hgo hrun hr (by rw [← Bool.not_eq_true, hpay]; exact hf))
  · exact congrArg _ ((hdo hf).trans (if_pos hlow))
  · exact congrArg _ ((hdo hf).trans ((if_neg (Nat.not_lt.mpr hhigh)).trans (if_pos (by simp [hflag]))))
  · exact congrArg _ ((hdo hf).trans ((if_neg (Nat.not_lt.mpr hhigh)).trans (if_neg (by simp [hflag]))))

/-- The commands of the mailbox. -/
theorem mailboxCommands_complete : Claims.MailboxCommandsComplete := by
  intro s
  dsimp only
  refine ⟨fun h => mailbox_gives State.identity rfl rfl rfl h, fun h => mailbox_gives State.bringUpState rfl rfl rfl h, fun h => mailbox_gives State.layoutResult rfl rfl rfl h,
    fun h => mailbox_gives State.logPtr rfl rfl rfl h, fun h => mailbox_gives State.telemetry rfl rfl rfl h,
    fun h hgo => mailbox_resets (r := fun s => .compute true (decide (ofLe (s.mboxBytes 8) = 1))) rfl rfl ?_ h hgo,
    fun h hgo => mailbox_resets (r := fun _ => .module) rfl rfl ?_ h hgo, fun hno i hi => ?_⟩
  · simp [State.mboxPayloadOk]
  · simp [State.mboxPayloadOk]
  · simp only [List.mem_cons, List.not_mem_nil, or_false] at hi
    rcases hi with rfl | rfl | rfl | rfl | rfl | rfl | rfl <;> exact congrArg _ (State.mailbox_empty hno _ _)

/-! ## The snoop filter (R360) -/

/-- Lines of a set of the filter. -/
def State.setLines (s : State) (k : Nat) : Nat := s.port.lines.countP (fun l => decide (filterSet l.line = k))

/-- Room in the filter is found without a change: the line is held already, or its set is not full. -/
theorem State.filterRoom_true {s v : State} {a : Nat} (h : s.filterRoom a = (true, v)) :
    v = s ∧ ((∃ l ∈ s.port.lines, l.line = a) ∨ s.setLines (filterSet a) < 16) := by
  simp only [State.filterRoom] at h
  split at h
  · next hroom =>
    obtain rfl : s = v := congrArg Prod.snd h
    refine ⟨rfl, hroom.imp (fun hany => ?_) (fun hlen => ?_)⟩
    · obtain ⟨l, hl, hline⟩ := List.any_eq_true.mp hany
      exact ⟨l, (List.mem_filter.mp hl).1, of_decide_eq_true hline⟩
    · rwa [State.setLines, List.countP_eq_length_filter]
  · next hfull =>
    exfalso
    split at h
    · split at h <;> simp at h
    · next hnil => exact hfull (.inr (by rw [hnil]; decide))

/-- A granted line joins its own set, in place of itself. -/
theorem State.setLines_grantLine (s : State) (a k : Nat) : (s.grantLine a).setLines k =
    (s.port.lines.filter (fun l => decide (l.line ≠ a))).countP (fun l => decide (filterSet l.line = k)) + if filterSet a = k then 1 else 0 := by
  simp only [State.setLines, State.grantLine, List.countP_append, List.countP_singleton, decide_eq_true_eq]

/-- No set comes to hold more than 16 lines. -/
theorem filterSets_holdSixteen : Claims.FilterSetsHoldSixteen := by
  intro a s v
  dsimp only
  intro h16 hroom
  obtain ⟨rfl, hor⟩ := State.filterRoom_true hroom
  refine ⟨fun k => ?_, ⟨⟨a, none, 0⟩, by simp [State.grantLine], rfl⟩⟩
  show (v.grantLine a).setLines k ≤ 16
  have hall : v.setLines k ≤ 16 := h16 k
  have hle : (v.port.lines.filter (fun l => decide (l.line ≠ a))).countP (fun l => decide (filterSet l.line = k)) ≤ v.setLines k :=
    List.filter_sublist.countP_le
  rw [State.setLines_grantLine]
  split
  · next hk =>
    subst hk
    rcases hor with ⟨l, hl, hline⟩ | hlt
    · have hlt : (v.port.lines.filter (fun l => decide (l.line ≠ a))).countP (fun l => decide (filterSet l.line = filterSet a)) <
          v.setLines (filterSet a) := by
        have hpos : 0 < (v.port.lines.filter (fun l => !decide (l.line ≠ a))).countP (fun l => decide (filterSet l.line = filterSet a)) :=
          List.countP_pos_iff.mpr ⟨l, List.mem_filter.mpr ⟨hl, by simp [hline]⟩, by simp [hline]⟩
        have hsum := List.countP_eq_countP_filter_add v.port.lines (fun l => decide (filterSet l.line = filterSet a)) (fun l => decide (l.line ≠ a))
        rw [State.setLines, hsum]
        omega
      omega
    · omega
  · omega

/-! ## Snoops that end (R360, R361, R364) -/

/-- Some snoop of a line is overdue. -/
theorem anyOverdue_iff (s : State) (a : Nat) :
    s.port.lines.any (fun l => decide (l.line = a) && l.waits && decide (l.since + 100000 < s.ns)) = true ↔
      ∃ l ∈ s.port.lines, l.line = a ∧ l.waits = true ∧ l.since + 100000 < s.ns := by
  simp [and_assoc]

/-- Answers to snoops, slow snoops, and failures of protected streams. -/
theorem snoops_end : Claims.SnoopsEnd := by
  intro addr a s ha
  dsimp only
  refine ⟨fun l hl hsn => ⟨?_, fun b hb => ?_⟩, fun l hl hsn => ?_, fun l hl hline hw hlate => ?_, fun hno => ?_,
    fun k => ⟨fun hbit => if_pos hbit, fun hbit => if_neg (by simp [hbit])⟩⟩
  · obtain ⟨line, snoop, since⟩ := l
    obtain rfl : snoop = some (true, false) := hsn
    simp only [exec_bisnpResponse, execBisnpResponse, ha, hl]
    rfl
  · obtain ⟨line, snoop, since⟩ := l
    obtain rfl : snoop = some (true, false) := hsn
    simp only [exec_bisnpResponse, execBisnpResponse, ha, hl, hb]
    rfl
  · obtain ⟨line, snoop, since⟩ := l
    obtain rfl : snoop = some (false, false) := hsn
    simp only [exec_bisnpResponse, execBisnpResponse, ha, hl]
    rfl
  · simp only [exec_bisnpSlow, execBisnpSlow, ha]
    exact if_pos ((anyOverdue_iff s a).mpr ⟨l, hl, hline, hw, hlate⟩)
  · simp only [exec_bisnpSlow, execBisnpSlow, ha]
    refine if_neg (fun h => ?_)
    obtain ⟨l, hl, hline, hw, hlate⟩ := (anyOverdue_iff s a).mp h
    exact absurd hlate (Nat.not_lt.mpr (hno l hl hline hw))

/-! ## CXL.mem requests (R359, R362) -/

/-- The name of a line heated by an access. -/
def State.heatLine (s : State) (a : Nat) : State :=
  match s.pool.nameOf a with
  | some i => s.access i 0
  | none => s

/-- The answer to a read: its bytes, or poison. -/
def readAnswer (r : Option Bytes × State) : State := r.2.memAnswer (r.1.elim .poison .data)

/-- What a read or write of a line comes to once nothing holds it: the line is granted to the host unless it reads without caching. -/
def State.serveLine (s : State) (a o : Nat) (op : MemOp) (errs : LineErrs) : State :=
  if s.unusable a 64 || s.chanFailed (s.phys a) then s.memAnswer .poison
  else match op with
    | .write b => s.hostWrite a o b
    | _ => readAnswer ((((if op = .readNoCache then s else s.grantLine a).noteErrs a 64 errs).countLines a 64 false).lineRead a 64)

/-- What a line answers: poison where it failed, and else its bytes or its write. -/
theorem serveLine_answers (w : State) (a o : Nat) (op : MemOp) (errs : LineErrs) :
    let dead := w.unusable a 64 = true ∨ w.chanFailed (w.phys a) = true
    let g := if op = .readNoCache then w else w.grantLine a
    let r := ((g.noteErrs a 64 errs).countLines a 64 false).lineRead a 64
    let x : Host.Outcome State Fault Refusal := .next (w.serveLine a o op errs)
    (dead → x = .next (w.memAnswer .poison)) ∧ (∀ b, ¬dead → op = .write b → x = .next (w.hostWrite a o b)) ∧
    (∀ b, ¬dead → ¬(∃ b, op = .write b) → r.1 = some b → x = .next (r.2.memAnswer (.data b))) ∧
    (¬dead → ¬(∃ b, op = .write b) → r.1 = none → x = .next (r.2.memAnswer .poison)) := by
  intro dead g r x
  have hdead : (w.unusable a 64 || w.chanFailed (w.phys a)) = true ↔ dead := Bool.or_eq_true _ _ |>.to_iff
  have hread (hd : ¬dead) (hw : ¬∃ b, op = .write b) : w.serveLine a o op errs = readAnswer r := by
    refine (if_neg (mt hdead.mp hd)).trans ?_
    cases op with
    | write b => exact absurd ⟨b, rfl⟩ hw
    | readShared => rfl
    | readOwn => rfl
    | readNoCache => rfl
  refine ⟨fun hd => congrArg _ (if_pos (hdead.mpr hd)), fun b hd hop => ?_, fun b hd hw hr => ?_, fun hd hw hr => ?_⟩
  · subst hop
    exact congrArg _ (if_neg (mt hdead.mp hd))
  · exact congrArg _ (by rw [hread hd hw, readAnswer, hr]; rfl)
  · exact congrArg _ (by rw [hread hd hw, readAnswer, hr]; rfl)

section serve
variable {s v : State} {a o n : Nat} {op : MemOp} {errs : LineErrs} (hrep : s.repairHeld a 64 = false)
include hrep

/-- A write to a name that moves is held. -/
theorem State.serveHost_holds_write {b : Bytes} (hn : s.pool.nameOf a = some n) (hm : s.moving n = true) :
    s.serveHost a o (.write b) errs = s.holdWrite n (.host a o b) := by
  simp [State.serveHost, hrep, hn, hm]

/-- A request for ownership of a name that moves is held. -/
theorem State.serveHost_holds_own (hn : s.pool.nameOf a = some n) (hm : s.moving n = true) :
    s.serveHost a o .readOwn errs = s.holdWrite n (.own a) := by
  simp [State.serveHost, hrep, hn, hm]

omit hrep in
/-- The name of a line moves. -/
theorem State.nameMoves_iff : ((s.pool.nameOf a).map s.moving).getD false = true ↔ ∃ n, s.pool.nameOf a = some n ∧ s.moving n = true := by
  cases s.pool.nameOf a <;> simp

omit hrep in
/-- A line waits for a snoop of its own. -/
theorem State.lineWaits_iff : s.port.lines.any (fun l => decide (l.line = a) && l.waits) = true ↔ ∃ l ∈ s.port.lines, l.line = a ∧ l.waits = true := by
  simp

variable (hmov : ¬((∃ n, s.pool.nameOf a = some n ∧ s.moving n = true) ∧ ((∃ b, op = .write b) ∨ op = .readOwn)))
include hmov

/-- A request whose line waits for a snoop waits. -/
theorem State.serveHost_waits (hw : ∃ l ∈ s.port.lines, l.line = a ∧ l.waits = true) : s.serveHost a o op errs = s := by
  rw [← State.lineWaits_iff] at hw
  rw [← State.nameMoves_iff] at hmov
  cases op <;> simp_all [State.serveHost]

variable (hfree : ∀ l ∈ s.port.lines, l.line = a → l.waits = false)
include hfree

omit hmov hrep in
/-- No snoop of the line is outstanding. -/
theorem State.no_lineWaits : s.port.lines.any (fun l => decide (l.line = a) && l.waits) = false := by
  rw [← Bool.not_eq_true, State.lineWaits_iff]
  rintro ⟨l, hl, hline, hwaits⟩
  simp [hfree l hl hline] at hwaits

/-- A read that grants the line waits for room in the filter. -/
theorem State.serveHost_no_room (hw : ¬∃ b, op = .write b) (hop : op ≠ .readNoCache) (hroom : s.filterRoom a = (false, v)) :
    s.serveHost a o op errs = v := by
  have hno := State.no_lineWaits hfree
  rw [← State.nameMoves_iff] at hmov
  clear hfree
  cases op with
  | readNoCache => exact absurd rfl hop
  | write b => exact absurd ⟨b, rfl⟩ hw
  | readShared => simp_all [State.serveHost]
  | readOwn => simp_all [State.serveHost]

/-- Any other request is served, its name heated. -/
theorem State.serveHost_serves (hroom : (((∃ b, op = .write b) ∨ op = .readNoCache) ∧ v = s) ∨
      (¬(∃ b, op = .write b) ∧ op ≠ .readNoCache ∧ s.filterRoom a = (true, v))) :
    s.serveHost a o op errs = (v.heatLine a).serveLine a o op errs := by
  have hno := State.no_lineWaits hfree
  obtain rfl : v = s := hroom.elim (fun h => h.2) (fun h => (State.filterRoom_true h.2.2).1)
  rw [← State.nameMoves_iff] at hmov
  clear hfree
  cases op with
  | write b =>
    have hm : ((v.pool.nameOf a).map v.moving).getD false = false := by simpa using hmov
    cases hn : v.pool.nameOf a <;> rw [hn] at hm <;> simp_all [State.serveHost, State.serveLine, State.heatLine]
  | readNoCache =>
    cases hn : v.pool.nameOf a <;> simp [State.serveHost, State.serveLine, State.heatLine, hrep, hno, hn] <;>
      (generalize State.lineRead _ a 64 = r; rcases r with ⟨_ | b, u⟩ <;> rfl)
  | readShared =>
    replace hroom : v.filterRoom a = (true, v) := by simpa using hroom
    cases hn : v.pool.nameOf a <;> simp [State.serveHost, State.serveLine, State.heatLine, hrep, hno, hn, hroom] <;>
      (generalize State.lineRead _ a 64 = r; rcases r with ⟨_ | b, u⟩ <;> rfl)
  | readOwn =>
    replace hroom : v.filterRoom a = (true, v) := by simpa using hroom
    have hm : ((v.pool.nameOf a).map v.moving).getD false = false := by simpa using hmov
    cases hn : v.pool.nameOf a with
    | none =>
      simp [State.serveHost, State.serveLine, State.heatLine, hrep, hno, hn, hroom]
      generalize State.lineRead _ a 64 = r
      rcases r with ⟨_ | b, u⟩ <;> rfl
    | some n =>
      have hm : v.moving n = false := by simpa [hn] using hm
      simp [State.serveHost, State.serveLine, State.heatLine, hrep, hno, hn, hroom, hm]
      generalize State.lineRead _ a 64 = r
      rcases r with ⟨_ | b, u⟩ <;> rfl

end serve

/-- Host requests for lines. -/
theorem hostMemory_requests : Claims.HostMemoryRequests := by
  intro addr op errs s hup line o i write fits bad
  have hok : ¬((!s.port.up) = true ∨ (!(match op with
      | .write b => decide (1 ≤ b.length) && decide (o + b.length ≤ 64)
      | _ => true)) = true) ↔ fits := by
    cases op <;> simp [fits, hup, Nat.one_le_iff_ne_zero]
  have hnone (hf : fits) (hact : bitOf (s.reg rCXL_HSTAT) 19 = true) (hd : dpaIn s.exposed line = none) : exec i s = .next (s.memAnswer bad) := by
    refine (if_neg (hok.mpr hf)).trans ((if_neg (by simp [hact])).trans ?_)
    rewrite [show dpaIn s.exposed (addr.toNat - addr.toNat % 64) = _ from hd]
    rfl
  have hsome {a : Nat} (hf : fits) (hact : bitOf (s.reg rCXL_HSTAT) 19 = true) (hd : dpaIn s.exposed line = some a) :
      exec i s = if snoopDir ≤ a ∧ a < snoopDir + 0x200000 then .next (s.memAnswer bad) else .next (s.serveHost a o op errs) := by
    refine (if_neg (hok.mpr hf)).trans ((if_neg (by simp [hact])).trans ?_)
    rewrite [show dpaIn s.exposed (addr.toNat - addr.toNat % 64) = _ from hd]
    rfl
  refine ⟨fun hf => ?_, fun hf hact => ?_, fun hf hact => ⟨hnone hf hact, fun a hd hlo hhi => ?_, fun a hd hout => ?_⟩⟩
  · exact if_pos (not_not.mp (mt hok.mp hf))
  · exact (if_neg (hok.mpr hf)).trans (if_pos (by simp [hact]))
  · exact (hsome hf hact hd).trans (if_pos ⟨hlo, hhi⟩)
  have hserve : exec i s = .next (s.serveHost a o op errs) := (hsome hf hact hd).trans (if_neg (by omega))
  rw [hserve]
  intro moves
  refine ⟨fun hrep => ?_, fun n hrep hn hm => ⟨fun b hb => ?_, fun hown => ?_⟩, fun hrep hmov => ⟨fun hw => ?_, fun hfree => ⟨fun v hnw hop hroom => ?_, fun v hroom => ?_⟩⟩⟩
  · exact congrArg _ (if_pos hrep)
  · subst hb
    rw [State.serveHost_holds_write hrep hn hm]
  · subst hown
    rw [State.serveHost_holds_own hrep hn hm]
  · rw [State.serveHost_waits hrep hmov hw]
  · rw [State.serveHost_no_room hrep hmov hfree hnw hop hroom]
  · rw [State.serveHost_serves hrep hmov hfree hroom]
    intro w
    have hw : v.heatLine a = w := by cases hn : v.pool.nameOf a <;> simp [w, State.heatLine, hn]
    rw [hw]
    clear_value w
    exact serveLine_answers w a o op errs

/-- Settles O44. -/
theorem hostPortServes : Obligations.HostPortServes :=
  ⟨hostLink_changes, mailboxCommands_complete, hostMemory_requests, filterSets_holdSixteen, snoops_end⟩

end Sys2Proof.Machine
end

section
/-! PROOFS. The smoulder rotation (spec/13 R416 to R434, R440, R441, R444): tests of slots, times and conditions, migrations, layout revisions
and the operations of SMD_CMD. -/

namespace Sys2Proof.Machine

open Sys2Proof.Claims

/-! ## Tests that fall due (R416, R425, R427) -/

section testDue
variable {s : State} {p : Nat} {cmd : Bool}

/-- A slot under test goes on with its test, if that is in place. -/
theorem State.testDue_running {t : TestRun} (h : (s.slot p).test = some t) :
    s.testDue p cmd = if t.inPlace then s.pokeTest p t else s := by
  simp only [State.testDue, h]

variable (h0 : (s.slot p).test = none)
include h0

/-- A FENCED slot is tested where it is. -/
theorem State.testDue_fenced (hf : (s.slot p).service = svcFenced) : s.testDue p cmd = s.startTest p false cmd := by
  simp only [State.testDue, h0, if_pos hf]

variable (hf : (s.slot p).service ≠ svcFenced)
include hf

/-- A row with a move or another test, or under revision, begins none. -/
theorem State.testDue_taken (h : ¬(s.rowTaken (p / 9) = false ∧ (s.row (p / 9)).revising = false)) : s.testDue p cmd = s := by
  have hr : s.rowTaken (p / 9) = true ∨ (s.row (p / 9)).revising = true := by
    simpa only [Decidable.not_and_iff_or_not, Bool.not_eq_false] using h
  simp only [State.testDue, h0, if_neg hf, if_pos hr]

variable (hfree : s.rowTaken (p / 9) = false ∧ (s.row (p / 9)).revising = false)
include hfree

/-- In a free row the resting slot itself and a stand-in are tested where they are. -/
theorem State.testDue_resting (h : (((s.slot p).service = svcIn ∨ (s.slot p).service = svcWatch) ∧ s.resting (p / 9) = some (p % 9)) ∨
    (s.slot p).service = svcStanding) :
    s.testDue p cmd = (s.modSlot p (fun y => { y with prior := y.service, service := svcTest })).startTest p false cmd := by
  have hp : p / 9 * 9 + p % 9 = p := Nat.div_add_mod' p 9
  obtain ⟨ht, hv⟩ := hfree
  have hrest : s.testDue p cmd = s.testResting (p / 9) (p % 9) cmd := by
    rcases h with ⟨hs, hr⟩ | hs
    · simp [State.testDue, h0, hf, ht, hv, if_pos hs, hr]
    · simp [State.testDue, h0, ht, hv, hs]
  rw [hrest, State.testResting, hp]

/-- A slot in service is tested by a move, in a row that has a stand-in. -/
theorem State.testDue_standIn (hs : (s.slot p).service = svcIn ∨ (s.slot p).service = svcWatch) (hr : s.resting (p / 9) ≠ some (p % 9))
    (hst : s.standIn (p / 9) = true) :
    s.testDue p cmd = if s.rowBusy (p / 9) then s else s.planMove (p / 9) (p % 9) true cmd false := by
  obtain ⟨ht, hv⟩ := hfree
  simp [State.testDue, h0, hf, ht, hv, if_pos hs, hr, hst]

/-- A slot in service in a row without a stand-in, and a conditional fence that is not active, are tested in place. -/
theorem State.testDue_inPlace {t : TestRun} (h : (((s.slot p).service = svcIn ∨ (s.slot p).service = svcWatch) ∧ s.resting (p / 9) ≠ some (p % 9) ∧
      s.standIn (p / 9) = false) ∨ ((s.slot p).service = svcCond ∧ (s.slot p).condActive = false))
    (hrun : ((s.startTest p true cmd).slot p).test = some t) : s.testDue p cmd = (s.startTest p true cmd).pokeTest p t := by
  obtain ⟨ht, hv⟩ := hfree
  rcases h with ⟨hs, hr, hst⟩ | ⟨hs, hc⟩
  · simp [State.testDue, h0, hf, ht, hv, if_pos hs, hr, hst, hrun]
  · simp [State.testDue, h0, ht, hv, hs, hc, hrun]

omit hf in
/-- A slot ON_TEST, a CINDER and a conditional fence that is active are not tested. -/
theorem State.testDue_none (h : (s.slot p).service = svcTest ∨ (s.slot p).service = svcCinder ∨
    ((s.slot p).service = svcCond ∧ (s.slot p).condActive = true)) : s.testDue p cmd = s := by
  obtain ⟨ht, hv⟩ := hfree
  rcases h with hs | hs | ⟨hs, hc⟩
  · simp [State.testDue, h0, ht, hv, hs]
  · simp [State.testDue, h0, ht, hv, hs]
  · simp [State.testDue, h0, ht, hv, hs, hc]

end testDue

/-- TEST_DUE of a slot that is not due. -/
theorem testDue_early {p : PhysId} {s : State} (h : ¬(s.rotating = true ∧ bitOf (s.reg rSMD_CTRL) 0 = true ∧ s.isDue p = true)) :
    exec (.testDue p) s = .next s := if_neg h

/-- TEST_DUE of a slot that is due: the slot is tested, and the step of the sweep that was due is taken. -/
theorem testDue_due {p : PhysId} {s u : State} (h : s.rotating = true ∧ bitOf (s.reg rSMD_CTRL) 0 = true ∧ s.isDue p = true)
    (hu : s.testDue p false = u) :
    let r := p.val / 9
    let step := s.stepDue p = true ∧ s.standIn r = true ∧ (s.slot p).first = false ∧ s.rowBusy r = false
    (∀ i, s.resting r = some i → step → exec (.testDue p) s = .next (u.takeStep r i)) ∧
    (s.resting r = none ∨ ¬step → exec (.testDue p) s = .next u) := by
  subst hu
  refine ⟨fun i hi hstep => ?_, fun hno => ?_⟩
  · refine (if_pos h).trans ?_
    obtain ⟨h1, h2, h3, h4⟩ := hstep
    simp [hi, h1, h2, h3, h4]
  · refine (if_pos h).trans ?_
    rcases hi : s.resting (p.val / 9) with _ | i
    · rfl
    · have hstep := hno.resolve_left (by simp [hi])
      exact congrArg _ (if_neg (by simpa [and_assoc] using hstep))

/-- Tests fall due. -/
theorem tests_fallDue : Claims.TestsFallDue := by
  intro p s
  dsimp only
  refine ⟨testDue_early, fun hdue => ⟨fun t ht => ?_, fun h0 hf => ?_, fun h0 hf hbusy => ?_, fun ⟨h0, hf, hfree⟩ h => ?_,
    fun ⟨h0, hf, hfree⟩ hs hr hst => ⟨fun hb => ?_, fun hb => ?_⟩, fun t ⟨h0, hf, hfree⟩ h ht => ?_, fun ⟨h0, hf, hfree⟩ h => ?_⟩,
    fun t => ⟨fun h => ?_, fun hno hfresh hper => ?_, fun hno h => ?_⟩⟩
  · exact testDue_due hdue (State.testDue_running ht)
  · exact testDue_due hdue (State.testDue_fenced h0 hf)
  · exact testDue_due hdue (State.testDue_taken h0 hf hbusy)
  · exact testDue_due hdue (State.testDue_resting h0 hf hfree h)
  · exact testDue_due hdue ((State.testDue_standIn h0 hf hfree hs hr hst).trans (if_pos hb))
  · exact testDue_due hdue ((State.testDue_standIn h0 hf hfree hs hr hst).trans (if_neg (by simp [hb])))
  · exact testDue_due hdue (State.testDue_inPlace h0 hf hfree h ht)
  · exact testDue_due hdue (State.testDue_none h0 hfree h)
  · exact if_pos (by simpa using h)
  · exact (if_neg (by simpa using hno)).trans (if_pos (by simpa using ⟨hfresh.1, hfresh.2.1, hfresh.2.2.1, hfresh.2.2.2, hper⟩))
  · refine (if_neg (by simpa using hno)).trans (if_neg fun ⟨h1, h2, h3, h4, h5⟩ => ?_)
    exact h.elim (fun h => h ⟨h1, h2, by simpa using h3, h4⟩) (fun h => absurd h5 (Nat.not_le.mpr h))

/-! ## The sweep of a row (R427) -/

/-- Where k steps of the sweep lead. -/
def sweepFrom (x : Nat × Bool) (k : Nat) : Nat × Bool := (List.range k).foldl (fun x _ => sweepStep x.1 x.2) x

theorem sweepFrom_succ (x : Nat × Bool) (k : Nat) : sweepFrom x (k + 1) = sweepStep (sweepFrom x k).1 (sweepFrom x k).2 := by
  simp [sweepFrom, List.range_succ]

/-- A step of the sweep stays on the slots of the row. -/
theorem sweepStep_lt {i : Nat} (h : i < 9) (up : Bool) : (sweepStep i up).1 < 9 := by
  unfold sweepStep
  split_ifs <;> simp <;> omega

theorem sweepFrom_lt {x : Nat × Bool} (h : x.1 < 9) (k : Nat) : (sweepFrom x k).1 < 9 := by
  induction k with
  | zero => exact h
  | succ k ih =>
    rw [sweepFrom_succ]
    exact sweepStep_lt ih _

/-- The sweep comes back after 16 steps and visits every slot. -/
theorem sweeps_visitEverySlot : Claims.SweepsVisitEverySlot := by
  intro i up
  have h16 : ∀ (i : Fin 9) (up : Bool), (sweepFrom (i.val, up) 16).1 = i.val ∧ ∀ j < 9, ∃ k < 16, (sweepFrom (i.val, up) k).1 = j := by decide
  exact ⟨(h16 i up).1, (h16 i up).2, sweepFrom_lt i.isLt⟩

/-! ## Results of tests (R417, R419 to R424) -/

/-- What a pass that ends leaves of the clock: nothing in it touches the time. -/
@[simp] theorem State.modSlot_time (s : State) (p : Nat) (f : Slot → Slot) : (s.modSlot p f).time = s.time := State.setSlot_time ..

@[simp] theorem State.testRecord_time (s : State) (p slice result : Nat) (pinch : Bool) : (s.testRecord p slice result pinch).time = s.time := by
  unfold State.testRecord
  exact State.modSlot_time ..

@[simp] theorem State.setRepairs_time (s : State) (p : Nat) (ws : List Word) : (s.setRepairs p ws).time = s.time := by
  unfold State.setRepairs
  induction ws.zipIdx generalizing s with
  | nil => rfl
  | cons x xs ih => exact (ih _).trans (State.setReg_time ..)

theorem State.setCore_ram_time (s : State) (n : Nat) (c : Core) (m : _) (b w : _) :
    ({ s.setCore n c with ram := m, badWords := b, ceWords := w } : State).time = s.time := rfl

@[simp] theorem State.reinit_time (s : State) (p : Nat) : (s.reinit p).time = s.time := by
  have hpage : (s.resetPage p).time = s.time := by
    unfold State.resetPage
    exact State.setRepairs_time ..
  unfold State.reinit
  generalize s.resetPage p = u at hpage
  dsimp -iota -proj only
  generalize u.holder p = g
  cases g with
  | none => exact hpage
  | some n => exact (State.setCore_ram_time ..).trans hpage

section results
variable {p : PhysId} {s : State} {x : TestRun}

/-- A result that no test awaits. -/
theorem sliceResult_untested (h : (s.slot p).test = none) (slice : Fin 40) (pinch : Bool) (sig : Word) (cells : List (Nat × Nat)) :
    exec (.sliceResult p slice pinch sig cells) s = .next s := by
  simp only [exec_sliceResult, execSliceResult, h]

theorem marchResult_untested (h : (s.slot p).test = none) (pass : Bool) : exec (.marchResult p pass) s = .next s := by
  simp only [exec_marchResult, execMarchResult, h]

variable (hx : (s.slot p).test = some x)
include hx

/-- A result of a slice that may not run. -/
theorem sliceResult_stopped (hrun : s.mayRun p x = false) (slice : Fin 40) (pinch : Bool) (sig : Word) (cells : List (Nat × Nat)) :
    exec (.sliceResult p slice pinch sig cells) s = .next s := by
  simp [execSliceResult, hx, hrun]

/-- A march that is not the one awaited. -/
theorem marchResult_other (h : s.mayRun p x = false ∨ x.next ≠ 40 ∨ (x.pinch = true ∧ x.pinched ≠ 40)) (pass : Bool) :
    exec (.marchResult p pass) s = .next s := by
  simp only [exec_marchResult, execMarchResult, hx]
  exact if_pos (by rcases h with h | h | h <;> simp [h])

variable (hrun : s.mayRun p x = true)
include hrun

/-- Slices that are not the one awaited. -/
theorem sliceResult_other {slice : Fin 40} (h : x.next ≠ slice.val) (sig : Word) (cells : List (Nat × Nat)) :
    exec (.sliceResult p slice false sig cells) s = .next s := by
  simp [execSliceResult, hx, hrun, h]

theorem sliceResult_pinch_other {slice : Fin 40} (h : x.pinch = false ∨ x.pinched ≠ slice.val ∨ x.next ≤ slice.val) (sig : Word)
    (cells : List (Nat × Nat)) : exec (.sliceResult p slice true sig cells) s = .next s := by
  rcases h with h | h | h <;> simp [execSliceResult, hx, hrun, h]

/-- The slice awaited, with the golden signature. -/
theorem sliceResult_passes {slice : Fin 40} {sig : Word} (h : x.next = slice.val) (hsig : sig = Config.golden slice ((s.slot p).passNo % 4))
    (cells : List (Nat × Nat)) :
    let ran := (s.count rSMD_CNT 63 32 1).modSlot p (fun y => { y with sig := sig })
    exec (.sliceResult p slice false sig cells) s =
      .next (((ran.modSlot p (fun y => { y with test := some { x with next := x.next + 1, again := false } })).testRecord p slice 0 false).endSlice p x) := by
  simp [execSliceResult, hx, hrun, h, hsig]

/-- The slice awaited, shortened. -/
theorem sliceResult_pinch {slice : Fin 40} (hp : x.pinch = true) (h : x.pinched = slice.val) (hn : slice.val < x.next) (sig : Word)
    (cells : List (Nat × Nat)) :
    let ran := (s.count rSMD_CNT 63 32 1).modSlot p (fun y => { y with sig := sig })
    let u := ran.modSlot p (fun y => { y with test := some { x with pinched := x.pinched + 1 } })
    exec (.sliceResult p slice true sig cells) s = .next (if sig = Config.golden slice ((s.slot p).passNo % 4)
      then (u.testRecord p slice 0 true).endSlice p x else ((u.testRecord p slice 1 true).endSlice p x).pinchFails p) := by
  by_cases hsig : sig = Config.golden slice ((s.slot p).passNo % 4)
  · simp [execSliceResult, hx, hrun, hp, h, Nat.not_le.mpr hn, if_pos hsig, b2n, decide_eq_true hsig]
  · simp [execSliceResult, hx, hrun, hp, h, Nat.not_le.mpr hn, if_neg hsig, b2n, decide_eq_false hsig]

/-- The slice awaited, with another signature: a failing slice that is repaired is run again. -/
theorem sliceResult_fails {slice : Fin 40} {sig : Word} (h : x.next = slice.val) (hsig : sig ≠ Config.golden slice ((s.slot p).passNo % 4))
    (cells : List (Nat × Nat)) :
    let ran := (s.count rSMD_CNT 63 32 1).modSlot p (fun y => { y with sig := sig })
    let failed := (((ran.count rSMD_CNT 31 0 1).smdStat 0).modSlot p (fun y => { y with fails := satAdd 16 y.fails 1 })).testRecord p slice 1 false
    (16 ≤ slice.val ∨ x.again = true ∨ failed.repairSlice p (slice.val / 4) cells = none →
      exec (.sliceResult p slice false sig cells) s = .next (failed.testFails p)) ∧
    (∀ u, slice.val < 16 → x.again = false → failed.repairSlice p (slice.val / 4) cells = some u →
      exec (.sliceResult p slice false sig cells) s =
        .next ((u.modSlot p (fun y => { y with test := some { x with again := true, slipped := true } })).endSlice p x)) := by
  refine ⟨fun hno => ?_, fun u hlt ha hu => ?_⟩
  · by_cases hfix : slice.val < 16 ∧ x.again = false
    · have hnone := (hno.resolve_left (by omega)).resolve_left (by simp [hfix.2])
      simp [execSliceResult, hx, hrun, h, hsig, hfix, hnone]
    · simp [execSliceResult, hx, hrun, h, hsig, if_neg hfix]
  · simp [execSliceResult, hx, hrun, h, hsig, hlt, ha, hu]

/-- The march tests that end a pass. -/
theorem marchResult_fails (hn : x.next = 40) (hp : x.pinch = true → x.pinched = 40) : exec (.marchResult p false) s =
    .next (((((s.count rSMD_CNT 31 0 1).smdStat 0).modSlot p (fun y => { y with fails := satAdd 16 y.fails 1 })).testRecord p 48 1 false).testFails p) := by
  simp only [exec_marchResult, execMarchResult, hx]
  exact (if_neg (by simpa [hn, hrun] using hp)).trans (if_pos rfl)

theorem marchResult_passes (hn : x.next = 40) (hp : x.pinch = true → x.pinched = 40) :
    let cell := s.cellOf p
    let u := ((s.testRecord p 48 0 false).reinit p).modSlot p (fun y => { y with
      passes := satAdd 16 y.passes 1, passedAt := some s.ns, pinchAt := if x.pinch = true ∧ x.failed = false then some s.ns else y.pinchAt
      streak := if y.service = svcFenced ∧ cell ∉ y.failCells then y.streak + 1 else y.streak })
    exec (.marchResult p true) s =
      .next (u.endTest p (if (u.slot p).service ≠ svcTest then (u.slot p).service else if (u.slot p).prior = svcWatch then svcWatch else svcStanding)
        (if x.slipped then 2 else 0)) := by
  have hgo : ¬(x.next ≠ 40 ∨ (x.pinch = true ∧ x.pinched ≠ 40) ∨ (!s.mayRun p x) = true) := by simpa [hn, hrun] using hp
  simp only [exec_marchResult, execMarchResult, hx, if_neg hgo]
  have hns : ((s.testRecord p 48 0 false).reinit p).ns = s.ns := congrArg (fun x : Nat => (x >>> 32) % 2 ^ 64) (by simp)
  simp [ite_not, hns]

end results

/-- Results of tests. -/
theorem test_results : Claims.TestResults := by
  intro p s x
  refine ⟨fun hrun hx => ⟨sliceResult_stopped hx hrun, marchResult_other hx (.inl hrun)⟩, fun slice pinch sig cells h => sliceResult_untested h slice pinch sig cells,
    fun pass h => marchResult_untested h pass, fun hrun hx => ⟨fun slice sig cells => ⟨fun h => ?_, fun h hsig => ?_, fun h hsig => ?_, fun h => ?_, fun hp h hn => ?_⟩,
      fun pass h => marchResult_other hx (.inr h) pass, fun hn hp => ⟨?_, ?_⟩⟩⟩
  · exact sliceResult_other hx hrun h sig cells
  · exact sliceResult_passes hx hrun h hsig cells
  · exact sliceResult_fails hx hrun h hsig cells
  · exact sliceResult_pinch_other hx hrun h sig cells
  · exact sliceResult_pinch hx hrun hp h hn sig cells
  · exact marchResult_fails hx hrun hn hp
  · exact marchResult_passes hx hrun hn hp

/-! ## Conditions and times (R417, R426) -/

/-- A conditional fence is evaluated. -/
theorem condition_evaluates {p : PhysId} {s : State} (hv : (s.slot p).service = svcCond) (hm : (s.row (p.val / 9)).move = none) :
    let r := p.val / 9
    let near := (s.slot p).cells.any (fun c => cellNear (s.cellOf p) c)
    (near = false → (s.slot p).condActive = true → exec (.conditionEvaluate p) s =
      .next ((s.modSlot p (fun y => { y with condActive := false })).beginMove r (p % 9) (s.row r).rest [] false false false)) ∧
    (∀ g, near = true → (s.slot p).condActive = false → (s.abandonTest p).resting r = some g →
      let u := (s.abandonTest p).abandonTest (r * 9 + g)
      u.resting r = some g →
      let w := u.modSlot p (fun y => { y with condActive := true })
      exec (.conditionEvaluate p) s = .next ((w.setRow r { w.row r with rest := g }).beginMove r g (p % 9) [] false false true)) := by
  refine ⟨fun hn hc => ?_, fun g hn hc h1 h2 => ?_⟩
  · simp [execConditionEvaluate, hv, hm, hn, hc]
  · simp [execConditionEvaluate, hv, hm, hn, hc, h1, h2]

/-- Timers of slots. -/
theorem slotTimers_run : Claims.SlotTimersRun := by
  intro p s
  dsimp only
  refine ⟨fun h => ?_, fun hv hm hn hc => (condition_evaluates hv hm).1 hn hc, fun g hv hm hn hc h1 h2 => (condition_evaluates hv hm).2 g hn hc h1 h2,
    ⟨fun h => ?_, fun hv ht hlate => ?_⟩, ⟨fun h => ?_, fun hv hlate => ?_⟩⟩
  · by_cases h1 : (s.slot p).service ≠ svcCond ∨ (s.row (p.val / 9)).move.isSome = true
    · exact if_pos h1
    · exact (if_neg h1).trans (if_pos (h.resolve_left (fun h => h1 (.inl h)) |>.resolve_left (fun h => h1 (.inr h))))
  · exact if_pos h
  · exact if_neg (by simpa [hv, ht] using hlate)
  · exact if_pos h
  · exact if_neg (by simpa [hv, hoursNs] using hlate)

/-- Settles O49, one family at a time: slots fall due by the state of their rows, the sweep of a row, results of slices and marches, conditions
and times. -/
theorem slotsAreTested : Obligations.SlotsAreTested := by
  unfold Obligations.SlotsAreTested
  exact ⟨tests_fallDue, sweeps_visitEverySlot, test_results, slotTimers_run⟩

/-! ## The operations of SMD_CMD (R444) -/

@[simp] theorem State.resting_setReg (s : State) (k : Nat) (v : Word) (r : Nat) : (s.setReg k v).resting r = s.resting r := rfl
@[simp] theorem State.rowBusy_setReg (s : State) (k : Nat) (v : Word) (r : Nat) : (s.setReg k v).rowBusy r = s.rowBusy r := rfl
@[simp] theorem State.lostCount_setReg (s : State) (k : Nat) (v : Word) (r : Nat) : (s.setReg k v).lostCount r = s.lostCount r := rfl

theorem State.stage_setReg {s : State} {k : Nat} (h : k ≠ rBOOT_STAGE) (v : Word) : (s.setReg k v).stage = s.stage := by
  unfold State.stage State.regField
  rw [State.reg_setReg, if_neg (Ne.symm h)]

/-- The checks of an operation read slots, rows and the time, and of the registers SMD_PERIOD alone. -/
theorem State.slotOpCheck_setReg {s : State} {k : Nat} (h : k ≠ rSMD_PERIOD) (v : Word) (op p : Nat) :
    (s.setReg k v).slotOpCheck op p = s.slotOpCheck op p := by
  have hper : (s.setReg k v).regField rSMD_PERIOD 31 16 = s.regField rSMD_PERIOD 31 16 := by
    unfold State.regField
    rw [State.reg_setReg, if_neg (Ne.symm h)]
  unfold State.slotOpCheck
  simp only [hper, State.slot_setReg, State.row_setReg, State.ns_setReg, State.resting_setReg, State.rowBusy_setReg, State.lostCount_setReg]
  rfl

/-- What SMD_CMD holds while an operation on a slot runs. -/
def smdWord (op p : Nat) : Word := BitVec.ofNat 64 (2 ^ 63 + op * 2 ^ 12 + p % 144)

/-- The state in which an operation runs or is refused: a call of Forester is counted, and SMD_CMD of the die names the operation. -/
def State.smdStarted (s : State) (who : Initiator) (op p : Nat) (refused : Bool) : State :=
  (if who = .forester then s.countCall refused else s).setReg (dieKey (p / 144) rSMD_CMD) (smdWord op p)

section countCall
variable (s : State) (refused : Bool)

/-- Counting a call writes two registers of the Warden. -/
theorem State.countCall_regs : ∃ v w, s.countCall refused = (s.setReg rWDN_CALLCNT v).setReg rWDN_STATUS w ∨ s.countCall refused = s.setReg rWDN_CALLCNT v := by
  cases refused
  · exact ⟨_, 0, .inr rfl⟩
  · exact ⟨_, _, .inl rfl⟩

@[simp] theorem State.slot_countCall (q : Nat) : (s.countCall refused).slot q = s.slot q := by cases refused <;> rfl
@[simp] theorem State.row_countCall (r : Nat) : (s.countCall refused).row r = s.row r := by cases refused <;> rfl
@[simp] theorem State.resting_countCall (r : Nat) : (s.countCall refused).resting r = s.resting r := by cases refused <;> rfl

/-- The stage and the checks of an operation stand. -/
theorem State.countCall_check (op p : Nat) :
    (s.countCall refused).stage = s.stage ∧ (s.countCall refused).slotOpCheck op p = s.slotOpCheck op p := by
  obtain ⟨v, w, h | h⟩ := s.countCall_regs refused <;> rw [h]
  · rw [State.stage_setReg (by decide), State.stage_setReg (by decide), State.slotOpCheck_setReg (by decide), State.slotOpCheck_setReg (by decide)]
    exact ⟨rfl, rfl⟩
  · rw [State.stage_setReg (by decide), State.slotOpCheck_setReg (by decide)]
    exact ⟨rfl, rfl⟩

end countCall

section smdStarted
variable (s : State) (who : Initiator) (op p : Nat) (refused : Bool)

/-- Nothing that the operation reads of slots and rows has changed. -/
@[simp] theorem State.slot_smdStarted (q : Nat) : (s.smdStarted who op p refused).slot q = s.slot q :=
  (State.slot_setReg ..).trans (by split_ifs <;> simp)

@[simp] theorem State.row_smdStarted (r : Nat) : (s.smdStarted who op p refused).row r = s.row r :=
  (State.row_setReg ..).trans (by split_ifs <;> simp)

@[simp] theorem State.resting_smdStarted (r : Nat) : (s.smdStarted who op p refused).resting r = s.resting r :=
  (State.resting_setReg ..).trans (by split_ifs <;> simp)

end smdStarted

/-- Naming an operation in SMD_CMD leaves the stage and the checks. -/
theorem smdCmd_key (p : Nat) : dieKey (p / 144) rSMD_CMD ≠ rBOOT_STAGE ∧ dieKey (p / 144) rSMD_CMD ≠ rSMD_PERIOD := by
  unfold dieKey rSMD_CMD rBOOT_STAGE rSMD_PERIOD
  omega

/-- GO of SMD_CMD. -/
theorem State.smdGo_eq (s : State) (op p : Nat) :
    s.smdGo op p = if s.stage < 4 ∨ (s.slotOpCheck op p).isSome
      then (s.setReg (dieKey (p / 144) rSMD_CMD) (smdWord op p)).smdDone (p / 144) 1
      else (s.setReg (dieKey (p / 144) rSMD_CMD) (smdWord op p)).slotOp op p := by
  unfold State.smdGo
  rw [← smdWord]
  dsimp only
  rw [State.stage_setReg (smdCmd_key p).1, State.slotOpCheck_setReg (smdCmd_key p).2]

/-- SMD_CMD from the Warden or from Forester: refused with REFUSED, or carried out. -/
theorem State.smdCmd_eq {s : State} {who : Initiator} (h : who = .warden ∨ who = .forester) (op p : Nat) :
    s.smdCmd who op p = if s.stage < 4 ∨ (s.slotOpCheck op p).isSome then (s.smdStarted who op p true).smdDone (p / 144) 1
      else (s.smdStarted who op p false).slotOp op p := by
  unfold State.smdStarted
  rcases h with rfl | rfl
  · have hne : ¬Initiator.warden = .forester := by decide
    rw [if_neg hne, if_neg hne]
    exact State.smdGo_eq s op p
  · rw [if_pos rfl, if_pos rfl]
    unfold State.smdCmd
    dsimp only
    rw [State.smdGo_eq, (State.countCall_check s _ op p).1, (State.countCall_check s _ op p).2]
    by_cases h : s.stage < 4 ∨ (s.slotOpCheck op p).isSome = true
    · rw [if_pos h, if_pos h, show (decide (s.stage < 4) || (s.slotOpCheck op p).isSome) = true by simpa using h]
    · rw [if_neg h, if_neg h, show (decide (s.stage < 4) || (s.slotOpCheck op p).isSome) = false by simpa using h]

/-- An operation of SMD_CMD runs from Stage 4 on where its checks allow it, and ends with REFUSED otherwise. -/
theorem smd_runs {s : State} {who : Initiator} (hwho : who = .warden ∨ who = .forester) {i : Instr} {op p : Nat} {allowed : Prop} {u : State}
    (hexec : exec i s = .next (s.smdCmd who op p)) (hcheck : s.slotOpCheck op p = none ↔ allowed)
    (hu : (s.smdStarted who op p false).slotOp op p = u) :
    (s.stage < 4 ∨ ¬allowed → exec i s = .next ((s.smdStarted who op p true).smdDone (p / 144) 1)) ∧
    (4 ≤ s.stage → allowed → exec i s = .next u) := by
  rw [hexec, State.smdCmd_eq hwho, ← hu, ← hcheck]
  refine ⟨fun h => congrArg _ (if_pos (h.imp_right fun h => ?_)), fun h4 h => congrArg _ (if_neg (by rw [h]; simp; omega))⟩
  exact Option.isSome_iff_ne_none.mpr h

/-- Two checks in turn. -/
theorem checks_none {a b : Prop} [Decidable a] [Decidable b] (m n : Nat) : (if a then if b then none else some n else some m) = none ↔ a ∧ b := by
  split_ifs <;> simp_all

section slotOp
variable (s : State) (who : Initiator) (p : Nat)

/-- What the operations that look at the slot or its row do once they are named. -/
theorem State.slotOp_cinder : (s.smdStarted who 3 p false).slotOp 3 p = if (s.slot p).service = svcFenced
    then ((s.smdStarted who 3 p false).retire p).smdDone (p / 144) 0 else (s.smdStarted who 3 p false).leaveService p svcCinder false true := by
  conv_rhs => rw [← State.slot_smdStarted s who 3 p false p]
  rfl

theorem State.slotOp_moveResting : (s.smdStarted who 5 p false).slotOp 5 p = if s.resting (p / 9) = some (p % 9)
    then (s.smdStarted who 5 p false).smdDone (p / 144) 0 else (s.smdStarted who 5 p false).planMove (p / 9) (p % 9) false true false := by
  conv_rhs => rw [← State.resting_smdStarted s who 5 p false (p / 9)]
  rfl

/-- MOVE_RESTING needs a resting slot, and a free row unless that slot is the target. -/
theorem State.slotOpCheck_moveResting : s.slotOpCheck 5 p = none ↔
    (s.slot p).service ≠ svcFenced ∧ (s.slot p).service ≠ svcCond ∧ (s.slot p).service ≠ svcCinder ∧
      (s.resting (p / 9) = some (p % 9) ∨ ((s.resting (p / 9)).isSome = true ∧ s.rowBusy (p / 9) = false ∧ (s.row (p / 9)).revising = false)) := by
  rcases h : s.resting (p / 9) with _ | g <;> simp [State.slotOpCheck, h, and_assoc, or_iff_not_imp_left]

/-- UNFENCE needs a FENCED slot, and then a pass and a pinch pass of late and a repair. -/
theorem State.slotOpCheck_unfence :
    let recent (t : Option Nat) : Prop := ∃ k, t = some k ∧ s.ns ≤ k + s.regField rSMD_PERIOD 31 16 * 1000000000
    s.slotOpCheck 2 p = none ↔ (s.slot p).service = svcFenced ∧ (s.row (p / 9)).move = none ∧ (s.row (p / 9)).revising = false ∧
      recent (s.slot p).passedAt ∧ recent (s.slot p).pinchAt ∧ (s.slot p).repaired = true := by
  rcases h1 : (s.slot p).passedAt with _ | x
  · simp only [State.slotOpCheck, h1, Bool.false_and]
    split_ifs <;> simp_all
  rcases h2 : (s.slot p).pinchAt with _ | y
  · simp only [State.slotOpCheck, h1, h2, Bool.and_false, Bool.false_and]
    split_ifs <;> simp_all
  · simp [State.slotOpCheck, h1, h2, and_assoc, checks_none]

/-- A write of the host is judged as any register write. -/
theorem State.smdCmd_host (op : Nat) : s.smdCmd .host op p = s.gate .host (dieKey (p / 144) rSMD_CMD) .w id := by
  unfold State.smdCmd
  rfl

variable {s p}

theorem State.slotOp_abandon (ht : (s.slot p).test.isSome = true) :
    (s.smdStarted who 6 p false).slotOp 6 p = ((s.smdStarted who 6 p false).abandonTest p).smdDone (p / 144) 0 :=
  if_pos (by simpa using ht)

theorem State.slotOp_abandonMove {m : Move} (ht : (s.slot p).test = none) (hm : (s.row (p / 9)).move = some m) :
    let w := (s.smdStarted who 6 p false).testRecord p 0 2 false
    (s.smdStarted who 6 p false).slotOp 6 p = w.setRow (p / 9) { w.row (p / 9) with move := some { m with test := false, cmd := true } } := by
  have hrow : ((s.smdStarted who 6 p false).testRecord p 0 2 false).row (p / 9) = (s.smdStarted who 6 p false).row (p / 9) := State.row_setSlot ..
  dsimp only
  rw [hrow]
  simp [State.slotOp, ht, hm]

theorem State.slotOp_abandonNone (ht : (s.slot p).test = none) (hm : (s.row (p / 9)).move = none) :
    (s.smdStarted who 6 p false).slotOp 6 p = s.smdStarted who 6 p false := by
  simp [State.slotOp, ht, hm]

end slotOp

/-- Settles O52: what each operation requires is what its checks ask for, and none of it is changed by naming the operation or counting a call. -/
theorem slotOperations : Obligations.SlotOperations := by
  unfold Obligations.SlotOperations
  intro p s who hwho
  dsimp only
  refine ⟨smd_runs hwho rfl ?_ rfl, smd_runs hwho rfl ?_ rfl, smd_runs hwho rfl ?_ rfl, smd_runs hwho rfl ?_ ?_, smd_runs hwho rfl ?_ rfl,
    smd_runs hwho rfl ?_ ?_, fun ht => smd_runs hwho rfl ?_ ?_, fun m ht hm htest htgt => smd_runs hwho rfl ?_ ?_,
    fun ht hm => smd_runs hwho rfl ?_ ?_, ?_⟩
  · simp [State.slotOpCheck, and_assoc, imp_iff_not_or]
  · simp [State.slotOpCheck, or_assoc, imp_iff_not_or]
  · exact State.slotOpCheck_unfence s p
  · simp [State.slotOpCheck]
  · exact State.slotOp_cinder s who p
  · simp [State.slotOpCheck, and_assoc, checks_none]
  · refine (State.slotOpCheck_moveResting s p).trans ?_
    rfl
  · exact State.slotOp_moveResting s who p
  · simp [State.slotOpCheck, ht]
  · exact State.slotOp_abandon who ht
  · simp [State.slotOpCheck, ht, hm, htest, htgt]
  · exact State.slotOp_abandonMove who ht hm
  · simp [State.slotOpCheck, ht, hm]
  · exact State.slotOp_abandonNone who ht hm
  · simp only [List.forall_mem_cons]
    have hhost (op : Nat) {x : Host.Outcome State Fault Refusal} (hx : x = .next (s.smdCmd .host op p)) :
        s.hostReach (dieKey (p.val / 144) rSMD_CMD) = true → s.absentPage (dieKey (p.val / 144) rSMD_CMD) = false → s.mayWrite .host .w = false →
        x = .next (s.gate .host (dieKey (p.val / 144) rSMD_CMD) .w id) := by
      intro _ _ _
      rw [hx, State.smdCmd_host]
    exact ⟨hhost 0 rfl, hhost 1 rfl, hhost 2 rfl, hhost 3 rfl, hhost 4 rfl, hhost 5 rfl, hhost 6 rfl, fun _ h => absurd h List.not_mem_nil⟩

/-! ## Migrations (R428 to R434) -/

/-- Cores freeze for a move, or are taken out of its copy. -/
theorem migrations_freeze : Claims.MigrationsFreeze := by
  intro c s
  dsimp only
  refine ⟨fun h => ⟨?_, ?_⟩, fun m hm => ⟨?_, fun hearly => ?_, fun hlate ho => ?_, fun hlate ho => ?_⟩, fun m hm h1 h2 h3 h4 => ⟨fun h => ?_, fun h => ?_⟩, fun h => ?_⟩
  · simp only [exec_migrationFreeze, execMigrationFreeze, h]
  · simp only [exec_migrationForced, execMigrationForced, h]
  · simp [execMigrationFreeze, hm]
  · simp [execMigrationForced, hm, not_le.mp hearly]
  · simp [execMigrationForced, hm, Nat.not_lt.mpr hlate, ho]
  · simp [execMigrationForced, hm, Nat.not_lt.mpr hlate, ho]
  · simp only [exec_runEmptyTimeout, execRunEmptyTimeout, hm]
    exact if_pos ⟨h1, h2, by simp only [h3, Bool.not_false], h4, by simpa using h⟩
  · simp only [exec_runEmptyTimeout, execRunEmptyTimeout, hm]
    refine if_neg fun ⟨_, _, _, _, h5⟩ => ?_
    simp only [List.any_eq_true, Bool.and_eq_true, decide_eq_true_eq] at h5
    obtain ⟨q, hq, hc, hlt⟩ := h5
    exact absurd (h q hq hc) (by omega)
  · rcases hm : (s.row (c.val / 8)).move with _ | m
    · simp only [exec_runEmptyTimeout, execRunEmptyTimeout, hm]
    · simp only [exec_runEmptyTimeout, execRunEmptyTimeout, hm]
      exact if_neg fun ⟨_, _, _, h4, _⟩ => by simp [hm, h4] at h

/-- The next column of a move is copied and switched. -/
theorem migrations_commit : Claims.MigrationsCommit := by
  intro c s
  refine ⟨fun h => ?_, fun m hm => ⟨fun h => ?_, fun p hh hv hr hp => ⟨fun hc => ?_, fun hc => ?_⟩⟩⟩
  · simp only [exec_migrationCommit, execMigrationCommit, h]
  · simp only [exec_migrationCommit, execMigrationCommit, hm]
    exact if_pos (by simpa using h)
  · simp [execMigrationCommit, hm, hh, hv, hr, hp, hc]
  · simp [execMigrationCommit, hm, hh, hv, hr, hp, hc]

/-! ## Layout revisions (R440, R441, R514) -/

/-- The revision number rises by one, and SMD_LAYOUT and CXL_HSTAT hold it. -/
theorem State.raiseLayout_fields (s : State) : s.raiseLayout.regField rSMD_LAYOUT 15 0 = (s.regField rSMD_LAYOUT 15 0 + 1) % 2 ^ 16 ∧
    s.raiseLayout.regField rCXL_HSTAT 47 32 = s.raiseLayout.regField rSMD_LAYOUT 15 0 := by
  unfold State.raiseLayout State.setRegField State.regField
  dsimp only
  generalize hv : (field (s.reg rSMD_LAYOUT) 15 0 + 1) % 2 ^ 16 = v
  have hlt : v < 2 ^ 16 := hv ▸ Nat.mod_lt _ (by decide)
  have hl : ((s.setReg rSMD_LAYOUT (setField (s.reg rSMD_LAYOUT) 15 0 v)).setReg rCXL_HSTAT
      (setField ((s.setReg rSMD_LAYOUT (setField (s.reg rSMD_LAYOUT) 15 0 v)).reg rCXL_HSTAT) 47 32 v)).reg rSMD_LAYOUT =
      setField (s.reg rSMD_LAYOUT) 15 0 v := by
    rw [State.reg_setReg, if_neg (by decide), State.reg_setReg, if_pos rfl]
  rw [hl, State.reg_setReg, if_pos rfl, field_setField_same _ _ (by decide), field_setField_same _ _ (by decide)]
  exact ⟨Nat.mod_eq_of_lt hlt, rfl⟩

/-- Marks of ports are registers. -/
theorem State.slot_markPorts (s : State) (p q : Nat) (l : List Nat) : (l.foldl (fun s i => s.markPort p i true) s).slot q = s.slot q := by
  induction l generalizing s with
  | nil => rfl
  | cons i l ih =>
    refine (ih _).trans ?_
    unfold State.markPort
    dsimp only
    split_ifs <;> simp [State.orReg]

/-- Layouts are revised, restored, and changed by router failures. -/
theorem layouts_areRevised : Claims.LayoutsAreRevised := by
  refine ⟨fun r s => ⟨fun h => ?_, fun m hm => ⟨fun h => ?_, fun h hc => ?_, fun h hr => ?_, fun h hr => ?_, fun h hr hc => ?_, fun h hr hc => ?_⟩⟩,
    State.raiseLayout_fields, fun p s => ⟨fun h => ?_, fun h => ?_⟩⟩
  · rcases hm : (s.row r).move with _ | m
    · simp only [exec_layoutRevision, exec_layoutRestore, execLayoutRevision, execLayoutRestore, hm, and_self]
    · have hv := h.resolve_left (by simp [hm])
      simp [execLayoutRevision, execLayoutRestore, hm, hv]
  · simp [execLayoutRevision, execLayoutRestore, hm, h]
  · cases hr : s.restores r
    · simp [execLayoutRevision, hm, hr, h.1, h.2, hc]
    · simp [execLayoutRestore, hm, hr, h.1, h.2, hc]
  · simp [execLayoutRestore, hm, hr]
  · simp [execLayoutRevision, hm, hr]
  · simp [execLayoutRevision, hm, hr, h.1, h.2, hc]
  · simp [execLayoutRestore, hm, hr, h.1, h.2, hc]
  · simp [execRouterFailure, h]
  · refine (if_pos h).trans (congrArg _ ?_)
    have hslot : ((List.range 6).foldl (fun s i => s.markPort p i true) (s.smdStat 12)).slot p = s.slot p :=
      (State.slot_markPorts ..).trans (State.slot_setReg ..)
    unfold State.routerFails
    dsimp only
    rw [hslot]

/-- Settles O51. -/
theorem coresMigrate : Obligations.CoresMigrate := by
  unfold Obligations.CoresMigrate
  exact ⟨migrations_freeze, migrations_commit, layouts_areRevised⟩

end Sys2Proof.Machine
end

section
/-! PROOFS. Power and bring-up (spec/14 R445 to R459, spec/16 R502 to R505): each stage from the stage before it, and what stops it. -/

namespace Sys2Proof.Machine

open Sys2Proof.Claims

/-! ## Power (R445, R502 to R505) -/

/-- Power comes, goes and fails; training of the host link; Stage 0. -/
theorem power_comesAndGoes : Claims.PowerComesAndGoes := by
  intro s
  dsimp only
  refine ⟨fun h => ?_, fun h => ?_, rfl, ⟨rfl, rfl, rfl, rfl, rfl, rfl, rfl, rfl⟩, fun rail => ⟨fun h => ?_, fun h => ?_⟩, ⟨fun h => ?_, fun h => ?_⟩,
    fun ok h => ?_, fun hp h0 => ⟨?_, ?_⟩⟩
  · exact if_neg (by simp [h])
  · exact if_pos h
  · exact if_neg (by simp [h])
  · exact if_pos h
  · exact if_pos (by simpa using h)
  · exact if_neg (by simpa using h)
  · exact if_pos (by simpa using h)
  · exact (if_neg (by simp [hp, h0])).trans (if_pos rfl)
  · exact (if_neg (by simp [hp, h0])).trans (if_neg (by decide))

/-! ## Stages 1 and 2 (R446, R447, R452, R453, R456, R457) -/

/-- Stage 1: the image slots are judged and one is taken. -/
theorem stage1_runs {s : State} (h : s.atStage 0 = true) (a b : Bytes) :
    let ra := s.slotReason a
    let rb := s.slotReason b
    let seen := s.setReg rBOOT_IMAGE (BitVec.ofNat 64 (ra * 2 ^ 48 + rb * 2 ^ 52))
    let useB := decide (ra ≠ 0 ∨ (rb = 0 ∧ leAt a 12 8 < leAt b 12 8))
    let img := if useB then b else a
    let seq := wordAt img 12
    let took := seen.setReg rBOOT_IMAGE (setBit (setBit (setField (seen.reg rBOOT_IMAGE) 47 0 (field seq 47 0)) 63 useB) 62 (useB && decide (ra ≠ 0)))
    exec (.stage1 false a b ()) s = .next (s.bootFail 3 0) ∧
    (ra ≠ 0 → rb ≠ 0 → exec (.stage1 true a b ()) s = .next (seen.bootFail 1 (ra + rb * 16))) ∧
    (ra = 0 ∨ rb = 0 →
      (took.foresterOk (sectionOf img 5) = false → exec (.stage1 true a b ()) s = .next (took.bootFail 2 0)) ∧
      (took.foresterOk (sectionOf img 5) = true → exec (.stage1 true a b ()) s = .next (({ took with
        boot := { took.boot with image := some (parseImage img), imgSeq := seq }
        wdn := { took.wdn with beatAt := took.ns, restarts := [], restarting := false } }.applyDefects.applyParams).reach 1))) := by
  dsimp only
  refine ⟨?_, fun ha hb => ?_, fun hab => ?_⟩
  · simp [execStage1, h]
  · simp [execStage1, h, ha, hb]
  · have hboth : ¬(s.slotReason a ≠ 0 ∧ s.slotReason b ≠ 0) := by tauto
    simp only [exec_stage1, execStage1, h, Bool.not_true, Bool.false_eq_true, if_false, if_neg hboth, Bool.decide_or, Bool.decide_and]
    exact ⟨fun hf => if_pos (by rw [hf]; rfl), fun hf => if_neg (by rw [hf]; decide)⟩

/-- Stage 2: the memories and seams as reported, then the layout. (The check of the layout is named, so that
nothing computes it.) -/
theorem stage2_runs {s : State} (h : s.atStage 1 = true) (rep : Stage2Report) (htrain : rep.hbmTrainFail = none) (hlane : rep.hbmLaneFail = none)
    (hseams : s.seamsUnfit rep.seamBad = none) :
    let a := (((s.repairSeams rep.seamBad).bringHearth rep).bringPeat rep.peatBad).bringPorts rep
    let spares := min ((rep.hbmSpares.map (fun x => x.toNat)).sum) 255
    let excluded := ((List.range 12).filter (fun k => bitOf (a.reg (chanKey k rPEAT_Cc_CFG)) 2)).foldl (fun m k => m + 2 ^ k) 0
    let b := (((a.setRegField rBOOT_LINKS 51 51 (b2n rep.cxlReduced)).setRegField rBOOT_LINKS 50 39 excluded).setRegField rBOOT_LINKS 38 31 spares).setRegField
      rBOOT_LINKS 30 21 (min a.seamRepairs 1023)
    let u := if rep.cxlReduced then b.record ⟨sevDegraded, 19, 0, 0, 0, 0, 0, 0, 0⟩ else b
    (∀ k, u.layoutFault = some k → exec (.stage2 rep) s = .next (u.bootFail 19 k)) ∧
    (u.layoutFault = none → exec (.stage2 rep) s = .next
      (({ (((u.bringPool.bringRanges).orReg rTIER_STATUS 512).reach 2).flushEarly with early := [] }).setRegField rCXL_HSTAT 19 19 1)) := by
  dsimp only
  refine ⟨fun k hk => ?_, fun hk => ?_⟩
  · refine (if_neg (by simp [h])).trans ?_
    obtain ⟨fault, hfault⟩ : ∃ f, f = State.layoutFault := ⟨_, rfl⟩
    rw [← hfault] at hk ⊢
    simp only [htrain, hlane, hseams, hk]
  · refine (if_neg (by simp [h])).trans ?_
    obtain ⟨fault, hfault⟩ : ∃ f, f = State.layoutFault := ⟨_, rfl⟩
    rw [← hfault] at hk ⊢
    simp only [htrain, hlane, hseams, hk]

/-! ## Stage 3 (R458, R459) -/

section stage3
variable {s : State} (h : s.atStage 2 = true) (bad : List SlotFail) (routers : List PhysId) (esc : EscPlan) (mps : BitVec 16)

/-- What a Stage 3 that is ready leaves. -/
def State.upAndReady (x : State) : State :=
  let w := ((x.drawIncarns.seedSpan).reach 4).startRotation
  let v : State := { w with boot := { w.boot with readyAt := w.ns } }
  if v.reduced then v.orReg rBOOT_STATUS 1 else v

/-- The state in which the escape tables are judged. -/
def State.tested (s : State) : State := ((s.bootTest bad routers).bootMps mps).buildMap

include h

/-- With escape tables kept or installed, the module is ready unless a die has no processor. -/
theorem stage3_routed {x : State} (hx : (esc = .keep ∧ (s.tested bad routers mps).escKept = true ∧ x = s.tested bad routers mps) ∨
      (∃ b, esc = .tables b ∧ escSetOk b = true ∧ (s.tested bad routers mps).escRouted (setEntry b) = true ∧ x = (s.tested bad routers mps).installEsc b)) :
    (∀ d, deadDie mps = some d → exec (.stage3 bad routers esc mps) s = .next (x.bootFail 33 d)) ∧
    (deadDie mps = none → exec (.stage3 bad routers esc mps) s = .next x.upAndReady) := by
  have hgo : ¬(!s.atStage 2) = true := by simp [h]
  rcases hx with ⟨he, hk, hx⟩ | ⟨b, he, hb, hr, hx⟩
  · rw [he, hx]
    refine ⟨fun d hd => (if_neg hgo).trans ((if_pos hk).trans ?_), fun hd => (if_neg hgo).trans ((if_pos hk).trans ?_)⟩
    · rw [hd]
      rfl
    · rw [hd]
      unfold State.upAndReady State.tested
      rfl
  · rw [he, hx]
    refine ⟨fun d hd => (if_neg hgo).trans ((if_pos ⟨hb, hr⟩).trans ?_), fun hd => (if_neg hgo).trans ((if_pos ⟨hb, hr⟩).trans ?_)⟩
    · rw [hd]
      rfl
    · rw [hd]
      unfold State.upAndReady State.tested
      rfl

/-- A die without escape tables. -/
theorem stage3_unrouted {d : _} (hk : (s.tested bad routers mps).escKept = false) :
    exec (.stage3 bad routers (.none_ d) mps) s = .next ((s.tested bad routers mps).bootFail 32 d) := by
  have hgo : ¬(!s.atStage 2) = true := by simp [h]
  exact (if_neg hgo).trans (if_neg (by rw [State.tested] at hk; simp [hk]))

/-- A plan that does not fit the tables is not carried out. -/
theorem stage3_misplanned (hesc : (esc = .keep ∧ (s.tested bad routers mps).escKept = false) ∨
      (∃ b, esc = .tables b ∧ ¬(escSetOk b = true ∧ (s.tested bad routers mps).escRouted (setEntry b) = true)) ∨
      (∃ d, esc = .none_ d ∧ (s.tested bad routers mps).escKept = true)) : exec (.stage3 bad routers esc mps) s = .next s := by
  have hgo : ¬(!s.atStage 2) = true := by simp [h]
  rcases hesc with ⟨rfl, hk⟩ | ⟨b, rfl, hb⟩ | ⟨d, rfl, hk⟩
  · exact (if_neg hgo).trans (if_neg (by rw [State.tested] at hk; simp [hk]))
  · exact (if_neg hgo).trans (if_neg hb)
  · exact (if_neg hgo).trans (if_pos hk)

end stage3

/-- The stages of bring-up. -/
theorem bringUp_stages : Claims.BringUpStages := by
  intro s
  refine ⟨fun ok a b h => ?_, fun rep h => ?_, fun bad routers esc mps h => ?_, fun h a b => stage1_runs h a b,
    fun h rep => ⟨fun k hk => ?_, fun ht => ⟨fun k hk => ?_, fun hl => ⟨fun k hk => ?_, fun hs => stage2_runs h rep ht hl hs⟩⟩⟩,
    fun h bad routers esc mps => ⟨fun x hx => stage3_routed h bad routers esc mps hx, ?_, fun hesc => stage3_misplanned h bad routers esc mps hesc⟩⟩
  · exact if_pos (by simp [h])
  · exact if_pos (by simp [h])
  · exact if_pos (by simp [h])
  · simp only [exec_stage2, execStage2, h, hk, Bool.not_true, Bool.false_eq_true, if_false]
  · simp only [exec_stage2, execStage2, h, ht, hk, Bool.not_true, Bool.false_eq_true, if_false]
  · simp only [exec_stage2, execStage2, h, ht, hl, hk, Bool.not_true, Bool.false_eq_true, if_false]
  · rintro d rfl hk
    exact stage3_unrouted h bad routers mps hk

/-- Settles O53. -/
theorem bringUpRuns : Obligations.BringUpRuns := by
  unfold Obligations.BringUpRuns
  exact ⟨power_comesAndGoes, bringUp_stages⟩

end Sys2Proof.Machine
end

section
/-! PROOFS. Resets (spec/14 R460 to R468, spec/15 R484): requests and how they are judged, core and compute resets, fatal conditions. -/

namespace Sys2Proof.Machine

open Sys2Proof.Claims

/-! ## Requests (R466) -/

/-- The fields of BOOT_RESET as a write leaves them. -/
def State.resetNamed (s : State) (v : Word) : State :=
  s.setReg rBOOT_RESET (setField (setField (setBit (s.reg rBOOT_RESET) 19 (bitOf v 19)) 18 16 (field v 18 16)) 8 0 (field v 8 0))

section bootReset
variable {who : Initiator} {v : Word} {s : State} (h : Takes s who rBOOT_RESET (classOf rBOOT_RESET)) {i : Instr} {kind : Nat} {r : ResetReq}
  (hexec : exec i s = .next (s.bootReset who kind v))
include h hexec

/-- A write without GO, or of another kind, and a write while GO reads 1. -/
theorem bootReset_idle (hno : bitOf v 63 = false ∨ field v 18 16 ≠ kind) : exec i s = .next s := by
  rw [hexec]
  exact next_gateReg h (if_neg (fun ⟨hv, hk⟩ => hno.elim (fun h => by simp [h] at hv) (fun h => h hk)))

theorem bootReset_busy (hv : bitOf v 63 = true) (hk : field v 18 16 = kind) (hold : bitOf (s.reg rBOOT_RESET) 63 = true) :
    exec i s = .next (s.resetNamed v) := by
  rw [hexec]
  exact next_gateReg h ((if_pos ⟨hv, hk⟩).trans (if_pos (.inr hold)))

/-- What GO comes to, by how the request is judged. -/
theorem bootReset_go (hkind : bitOf v 63 = true → field v 18 16 = kind → bitOf (s.reg rBOOT_RESET) 63 = false →
      s.bootResetWrite v = (s.resetNamed v).resetGo r)
    (hv : bitOf v 63 = true) (hk : field v 18 16 = kind) (hold : bitOf (s.reg rBOOT_RESET) 63 = false) :
    let u := s.resetNamed v
    let w := setField (setBit (setBit (u.reg rBOOT_RESET) 63 true) 61 false) 60 59 0
    (u.judgeReset r = 0 → exec i s = .next ((u.setReg rBOOT_RESET w).doReset r 4)) ∧
    (u.judgeReset r = 1 → exec i s = .next ((u.setReg rBOOT_RESET (setField w 60 59 1)).orReg rBOOT_STATUS 4)) ∧
    (u.judgeReset r = 2 → exec i s = .next ((u.setReg rBOOT_RESET (setField (setBit (setBit w 63 false) 61 true) 60 59 2)).orReg rBOOT_STATUS 2)) := by
  have hgo : exec i s = .next ((s.resetNamed v).resetGo r) := by
    rw [hexec]
    exact next_gateReg h ((if_pos ⟨hv, hk⟩).trans (hkind hv hk hold))
  refine ⟨fun hj => hgo.trans ?_, fun hj => hgo.trans ?_, fun hj => hgo.trans ?_⟩ <;> simp only [State.resetGo, hj]

end bootReset

/-- The four kinds of BOOT_RESET. -/
theorem reset_requests : Claims.ResetRequests := by
  intro who v s h
  simp only [List.forall_mem_cons]
  refine ⟨?_, ?_, ?_, ?_, fun _ h => absurd h List.not_mem_nil⟩ <;>
    refine ⟨bootReset_idle h rfl, fun hv hk => ⟨bootReset_busy h rfl hv hk, bootReset_go h rfl (fun hv hk hold => ?_) hv hk⟩⟩ <;>
    simp [State.bootResetWrite, State.resetNamed, hv, hk, hold]

/-- Refused, absorbed or started. -/
theorem resets_areJudged : Claims.ResetsAreJudged := by
  intro s keep bist n
  refine ⟨rfl, fun h => ⟨if_pos h, if_pos (.inl h)⟩, fun _ hp => if_pos (.inr (by simp [hp])), fun h4 hrun => ⟨?_, fun hp => ?_⟩,
    fun k b h4 hrun => ⟨?_, fun hp => ?_⟩, fun m k b h4 hrun => ⟨?_, fun hp => ?_⟩⟩
  all_goals have h4' : ¬s.stage < 4 := Nat.not_lt.mpr h4
  all_goals simp [State.judgeReset, *]

/-! ## Fatal conditions (R484) -/

/-- A fatal condition resets the module, at most three times an hour. -/
theorem fatalConditions_reset : Claims.FatalConditionsReset := by
  intro cause d s
  refine ⟨fun h => if_pos (by simpa using h), fun hp h0 => ⟨fun h3 => ?_, fun h3 => ?_⟩⟩
  · exact (if_neg (by simp [hp, h0])).trans (congrArg _ (if_pos h3))
  · exact (if_neg (by simp [hp, h0])).trans (congrArg _ (if_neg (Nat.not_le.mpr h3)))

/-! ## Core resets (R465) -/

/-- Repair maps are registers. -/
theorem State.setRepairs_eq (s : State) (p : Nat) (ws : List Word) : ∃ r, s.setRepairs p ws = { s with regs := r } := by
  unfold State.setRepairs
  induction ws.zipIdx generalizing s with
  | nil => exact ⟨s.regs, rfl⟩
  | cons x xs ih =>
    obtain ⟨r, hr⟩ := ih (s.setReg (s.pageKey p (rARR_REPAIRa + 8 * x.2)) x.1)
    exact ⟨r, hr⟩

/-- What a core reset wipes: the core, its scratchpad and its seal numbering, before registers and the slot are set. -/
def State.coreWiped (s : State) (n src : Nat) : State :=
  let s := (s.resetCause 3 src).setRegField rBOOT_RESET 62 62 1
  let s := { s with boot := { s.boot with run := some ⟨some n, true, false⟩ } }
  let s := (s.endAllTasks n).wipeCore n (s.core n)
  let u := s.sealUnit n
  s.setSeal n { u with incarn := u.incarn + 1, next := 0 }

/-- Registers and slots are no part of a core, of a seal unit or of memory. -/
theorem State.regs_slots_parts (u : State) (r : Tab Word) (q : Tab Slot) (n : Nat) :
    let t : State := { u with regs := r, slots := q }
    t.core n = u.core n ∧ t.sealUnit n = u.sealUnit n ∧ t.ram = u.ram := ⟨rfl, rfl, rfl⟩

/-- The rest of a core reset is registers and the slot. -/
theorem State.startCore_parts (s : State) (n src : Nat) : (s.startCore n src).core n = (s.coreWiped n src).core n ∧
    (s.startCore n src).sealUnit n = (s.coreWiped n src).sealUnit n ∧ (s.startCore n src).ram = (s.coreWiped n src).ram := by
  have heq : ∃ r q, s.startCore n src = { s.coreWiped n src with regs := r, slots := q } := by
    unfold State.startCore
    extract_lets s1 _ _ s3 u s4 s5 w
    have hw : w = s4 := rfl
    rw [hw]
    clear_value w s4
    rcases s5.slotOf n with _ | p
    · exact ⟨s5.regs, s5.slots, rfl⟩
    · obtain ⟨r, hr⟩ := s5.setRepairs_eq p ((List.range 4).map (fun a => s5.mapRepair p a))
      refine ⟨r, (({ s5 with regs := r } : State).modSlot p (fun x => { x with rst := true })).slots, ?_⟩
      exact (congrArg (fun v : State => v.modSlot p (fun x => { x with rst := true })) hr).trans rfl
  obtain ⟨r, q, heq⟩ := heq
  rw [heq]
  exact State.regs_slots_parts ..

/-- Generations raised, each once. -/
theorem tget_raisedAll (m : Tab (BitVec 8)) {q k : Nat} (h : q < k) :
    tget (fun _ => 0) (raisedAll m k) q = tget (fun _ => 0) m q + 1 := by
  unfold raisedAll
  exact tget_foldl_tset_mem _ (fun q => q) (fun q => tget (fun _ => 0) m q + 1) q _ _ [] ⟨q, List.mem_range.mpr h, rfl⟩ (fun e _ he => by rw [he])

/-- What a wiped core keeps. -/
theorem State.core_wipeCore (s : State) (n : Nat) (c : Core) :
    (s.wipeCore n c).core n = { c.passThrough with qgen := raisedAll c.qgen 64, sgen := raisedAll c.sgen 8, refusal := 0 } :=
  State.core_setCore_same ..

/-- A wiped scratchpad reads zero. -/
theorem State.ram_wipeCore (s : State) (n : Nat) (c : Core) {a : Nat} (h : a < spadSize) :
    tget zeroByte (s.wipeCore n c).ram (spadAddr n 0 + a) = 0 := by
  have hin : (decide (spadAddr n 0 ≤ spadAddr n 0 + a) && decide (spadAddr n 0 + a < spadAddr n 0 + spadSize)) = true := by simp [h]
  exact (tget_tdrop zeroByte (fun x => decide (spadAddr n 0 ≤ x) && decide (x < spadAddr n 0 + spadSize)) _ s.ram).trans (if_pos hin)

/-- What is wiped: the core and its scratchpad, and the numbering of its seals. -/
theorem State.core_coreWiped (s : State) (n src : Nat) : (s.coreWiped n src).core n =
    { (s.core n).passThrough with qgen := raisedAll (s.core n).qgen 64, sgen := raisedAll (s.core n).sgen 8, refusal := 0 } := by
  unfold State.coreWiped
  extract_lets s1 s2 s3 u
  exact (State.core_setSeal ..).trans (State.core_wipeCore ..)

theorem State.seal_coreWiped (s : State) (n src : Nat) : ((s.coreWiped n src).sealUnit n).next = 0 := by
  unfold State.coreWiped
  extract_lets s1 s2 s3 u
  rw [State.sealUnit_setSeal_same]

theorem State.ram_coreWiped (s : State) (n src : Nat) {a : Nat} (h : a < spadSize) : tget zeroByte (s.coreWiped n src).ram (spadAddr n 0 + a) = 0 := by
  unfold State.coreWiped
  extract_lets s1 s2 s3 u
  rw [State.setSeal_ram]
  exact State.ram_wipeCore _ n _ h

/-! ## Completion (R462, R465) -/

/-- Core and compute resets clear and complete. -/
theorem coreResets_completeAndClear : Claims.CoreResetsCompleteAndClear := by
  refine ⟨fun s n src hn => ?_, fun c s => ⟨fun k b hrun => ⟨fun p hp => ?_, fun hp => ?_⟩, fun hrun => ?_, fun bad routers k bist hrun => ?_,
    fun bad routers hrun => ?_⟩⟩
  · obtain ⟨hcore, hseal, hram⟩ := s.startCore_parts n src
    dsimp only
    rw [hcore, hseal, hram, s.core_coreWiped n src]
    exact ⟨fun q hq => tget_raisedAll _ hq, fun slot => rfl, s.seal_coreWiped n src, fun a ha => s.ram_coreWiped n src ha⟩
  · simp [execCoreResetComplete, hrun, hp]
  · simp [execCoreResetComplete, hrun, hp]
  · rcases h : s.boot.run with _ | ⟨_ | n, k, b⟩
    · simp [execCoreResetComplete, h]
    · simp [execCoreResetComplete, h]
    · simp only [exec_coreResetComplete, execCoreResetComplete, h]
      exact if_pos (fun hn => hrun k b (by rw [h, hn]))
  · simp only [exec_computeResetComplete, execComputeResetComplete, hrun, List.isEmpty_iff]
  · rcases h : s.boot.run with _ | ⟨_ | n, k, b⟩
    · simp [execComputeResetComplete, h]
    · exact absurd h (hrun k b)
    · simp [execComputeResetComplete, h]

/-- Settles O54. -/
theorem resetsRun : Obligations.ResetsRun := by
  unfold Obligations.ResetsRun
  exact ⟨reset_requests, resets_areJudged, coreResets_completeAndClear, fatalConditions_reset⟩

end Sys2Proof.Machine
end

section
/-! PROOFS. The Warden and Forester (spec/15 R469 to R485): management processors, the watchdog, and the calls with their checks. -/

namespace Sys2Proof.Machine

open Sys2Proof.Claims

/-! ## Processors and the watchdog (R469 to R471) -/

/-- A processor is tested once a period. -/
theorem mpTest_runs (s : State) (k : Fin 16) :
    let last := if tget (fun _ => 0) s.wdn.mpAt k = 0 then s.boot.readyAt else tget (fun _ => 0) s.wdn.mpAt k
    let due := s.rotating = true ∧ s.mp k ≠ 3 ∧ last + s.regField rSMD_PERIOD 15 0 * 1000000000 ≤ s.ns
    let t : State := { s with wdn := { s.wdn with mpAt := tset (fun _ => 0) s.wdn.mpAt k s.ns } }
    let u := if t.mp k = 1 then (match t.wardenTarget with
      | some j => t.moveWarden k j
      | none => t) else t
    let w := (u.setMp k 3).record ⟨sevDegraded, 20, 0, 9, k, 0, 0, 0, 0⟩
    let none_ : Bool := (List.range 16).all (fun j => decide (w.mp j = 3))
    (¬due → ∀ pass, exec (.mpTest k pass) s = .next s) ∧
    (due →
      exec (.mpTest k true) s = .next u ∧
      (none_ = false → exec (.mpTest k false) s = .next w) ∧
      (none_ = true → exec (.mpTest k false) s =
        .next { w.record ⟨sevDevice, 20, 0, 0, 0, 0, 0, 0, 0⟩ with boot := { w.boot with faultLow := true } })) := by
  intro last due t u w none_
  refine ⟨fun hno pass => if_pos ?_, fun hd => ?_⟩
  · by_contra hgo
    simp only [not_or, Bool.not_eq_true, Nat.not_lt] at hgo
    obtain ⟨h1, h2, h3⟩ := hgo
    refine hno ⟨by simpa using h1, h2, le_of_eq_of_le ?_ h3⟩
    rcases h : tget (fun _ => 0) s.wdn.mpAt k with _ | n <;> simp [last, h]
  · have hexec (pass : Bool) : exec (.mpTest k pass) s = if pass then .next u
        else if none_ then .next { w.record ⟨sevDevice, 20, 0, 0, 0, 0, 0, 0, 0⟩ with boot := { w.boot with faultLow := true } } else .next w := by
      refine if_neg ?_
      obtain ⟨h1, h2, h3⟩ := hd
      simp only [not_or, Bool.not_eq_true, Nat.not_lt]
      refine ⟨by simpa using h1, h2, le_of_eq_of_le ?_ h3⟩
      rcases h : tget (fun _ => 0) s.wdn.mpAt k with _ | n <;> simp [last, h]
    exact ⟨(hexec true).trans (if_pos rfl), fun hn => (hexec false).trans ((if_neg (by decide)).trans (if_neg (by rw [hn]; decide))),
      fun hn => (hexec false).trans ((if_neg (by decide)).trans (if_pos hn))⟩

/-- Processors are tested, Forester is watched, heartbeats are heard. -/
theorem processors_areWatched : Claims.ProcessorsAreWatched := by
  intro s
  refine ⟨fun k => ?_, ⟨fun h => ?_, fun h hr => ?_, fun h hr => ?_⟩, fun h => ?_, fun h => ?_⟩
  · exact mpTest_runs s k
  · refine if_pos ?_
    by_contra hno
    refine h ?_
    simp only [not_or, Bool.not_eq_true, Option.isNone_eq_false_iff, Nat.not_lt] at hno
    obtain ⟨h1, h2, h3, h4⟩ := hno
    exact ⟨by simpa using h1, h2, h3, h4⟩
  · obtain ⟨h1, h2, h3, h4⟩ := h
    have hgo : ¬((!s.powered) = true ∨ s.boot.image.isNone = true ∨ bitOf (s.reg rWDN_STATUS) 11 = true ∨ s.ns < s.wdn.beatAt + 3000000000) := by
      simp [h1, h3, h4, Option.isSome_iff_ne_none.mp h2]
    exact (if_neg hgo).trans (if_neg (Nat.not_le.mpr hr))
  · obtain ⟨h1, h2, h3, h4⟩ := h
    have hgo : ¬((!s.powered) = true ∨ s.boot.image.isNone = true ∨ bitOf (s.reg rWDN_STATUS) 11 = true ∨ s.ns < s.wdn.beatAt + 3000000000) := by
      simp [h1, h3, h4, Option.isSome_iff_ne_none.mp h2]
    exact (if_neg hgo).trans (if_pos hr)
  · exact congrArg _ ((if_neg (by simp [h])).trans ((if_neg (by decide)).trans (if_neg (by decide))))
  · exact congrArg _ (if_pos (by simp [h]))

/-! ## Calls (R479, R480) -/

/-- The first check that fails, one check at a time. -/
theorem firstFail_cons (b : Bool) (cs : List Bool) : firstFail (b :: cs) = if b then (firstFail cs).map (· + 1) else some 1 := by
  unfold firstFail
  rw [List.findIdx?_cons]
  cases b <;> simp [Function.comp_def]

/-- Checks that all hold, and the first that does not. -/
theorem firstFail_none {cs : List Bool} {checks : List Prop} (h : List.Forall₂ (fun b q => b = true ↔ q) cs checks) (hall : ∀ q ∈ checks, q) :
    firstFail cs = none := by
  induction h with
  | nil => rfl
  | cons hb _ ih =>
    rw [List.forall_mem_cons] at hall
    rw [firstFail_cons, if_pos (hb.mpr hall.1), ih hall.2]
    rfl

theorem firstFail_some {cs : List Bool} {checks : List Prop} (h : List.Forall₂ (fun b q => b = true ↔ q) cs checks) {k : Nat}
    (hall : ∀ q ∈ checks.take k, q) (hk : ∃ q, checks[k]? = some q ∧ ¬q) : firstFail cs = some (k + 1) := by
  induction h generalizing k with
  | nil => simp at hk
  | @cons b q cs checks hb _ ih =>
    rw [firstFail_cons]
    cases k with
    | zero =>
      obtain ⟨q', hq', hno⟩ := hk
      rw [List.getElem?_cons_zero, Option.some.injEq] at hq'
      exact if_neg (fun h => hno (hq' ▸ hb.mp h))
    | succ k =>
      rw [List.take_succ_cons, List.forall_mem_cons] at hall
      rw [if_pos (hb.mpr hall.1), ih hall.2 (by simpa using hk)]
      rfl

section call
variable {s : State} {ok bz : Bool} {check : Option Nat} {f : State → State}

/-- Without a running Forester no call comes. -/
theorem State.call_stopped (h : s.foresterRuns = false) : s.call ok bz check f = s := if_pos (by simp [h])

variable (h : s.foresterRuns = true)
include h

/-- BAD_CALL, BUSY, REFUSED and OK. -/
theorem State.call_badArgs (hok : ok = false) : s.call ok bz check f = s.callResult 2 0 := by
  simp [State.call, h, hok]

variable (hok : ok = true)
include hok

theorem State.call_busy (hb : bz = true) : s.call ok bz check f = s.callResult 3 0 := by
  simp [State.call, h, hok, hb]

variable (hb : bz = false)
include hb

theorem State.call_refused {k : Nat} (hc : check = some k) : s.call ok bz check f = (s.countCall true).callResult 1 k := by
  simp [State.call, h, hok, hb, hc]

theorem State.call_done (hc : check = none) : s.call ok bz check f = (f (s.countCall false)).callResult 0 0 := by
  simp [State.call, h, hok, hb, hc]

end call

/-- How a call is answered, by its ranges, whether it is busy, and its checks. -/
theorem call_answers {s : State} {i : Instr} {ok bz : Bool} {cs : List Bool} {f : State → State} {range busy : Prop} {checks : List Prop} {u : State}
    (hexec : exec i s = .next (s.call ok bz (firstFail cs) f)) (hok : ok = true ↔ range) (hbz : bz = true ↔ busy)
    (hcs : List.Forall₂ (fun b q => b = true ↔ q) cs checks) (hu : f (s.countCall false) = u) :
    (s.foresterRuns = false → exec i s = .next s) ∧
    (s.foresterRuns = true → ¬range → exec i s = .next (s.callResult 2 0)) ∧
    (s.foresterRuns = true → range → busy → exec i s = .next (s.callResult 3 0)) ∧
    (∀ k, s.foresterRuns = true → range → ¬busy → (∀ q ∈ checks.take k, q) → (∃ q, checks[k]? = some q ∧ ¬q) →
      exec i s = .next ((s.countCall true).callResult 1 (k + 1))) ∧
    (s.foresterRuns = true → range → ¬busy → (∀ q ∈ checks, q) → exec i s = .next (u.callResult 0 0)) := by
  subst hu
  rw [hexec, ← hok, ← hbz]
  refine ⟨fun h => congrArg _ (State.call_stopped h), fun h hr => congrArg _ (State.call_badArgs h (by simpa using hr)),
    fun h hr hb => congrArg _ (State.call_busy h hr hb), fun k h hr hb hall hk => ?_, fun h hr hb hall => ?_⟩
  · exact congrArg _ (State.call_refused h hr (by simpa using hb) (firstFail_some hcs hall hk))
  · exact congrArg _ (State.call_done h hr (by simpa using hb) (firstFail_none hcs hall))

/-- SLOT_OP: the checks are those of SMD_CMD. -/
theorem slotOp_answers (s : State) (die slot op : Word) :
    let p := die.toNat * 144 + slot.toNat
    let range := die.toNat < 4 ∧ slot.toNat < 144 ∧ op.toNat ≤ 6
    (s.foresterRuns = false → exec (.slotOp die slot op) s = .next s) ∧
    (s.foresterRuns = true → ¬range → exec (.slotOp die slot op) s = .next (s.callResult 2 0)) ∧
    (s.foresterRuns = true → range → s.stage < 4 → exec (.slotOp die slot op) s = .next ((s.countCall true).callResult 1 1)) ∧
    (∀ k, s.foresterRuns = true → range → 4 ≤ s.stage → s.slotOpCheck op.toNat p = some k →
      exec (.slotOp die slot op) s = .next ((s.countCall true).callResult 1 k)) ∧
    (s.foresterRuns = true → range → 4 ≤ s.stage → s.slotOpCheck op.toNat p = none →
      exec (.slotOp die slot op) s = .next (((s.countCall false).smdGo op.toNat p).callResult 0 0)) := by
  intro p range
  have hok (hr : range) : (decide (die.toNat < 4) && decide (slot.toNat < 144) && decide (op.toNat ≤ 6)) = true := by simpa [and_assoc] using hr
  have hlate (h4 : 4 ≤ s.stage) : (if s.stage < 4 then some 1 else s.slotOpCheck op.toNat p) = s.slotOpCheck op.toNat p := if_neg (Nat.not_lt.mpr h4)
  refine ⟨fun h => congrArg _ (State.call_stopped h), fun h hr => congrArg _ (State.call_badArgs h ?_),
    fun h hr hst => congrArg _ (State.call_refused h (hok hr) rfl (if_pos hst)),
    fun k h hr hst hk => congrArg _ (State.call_refused h (hok hr) rfl ((hlate hst).trans hk)),
    fun h hr hst hk => ?_⟩
  · exact Bool.eq_false_iff.mpr fun h => hr (by simpa [and_assoc] using h)
  · have hexec : exec (.slotOp die slot op) s = .next (s.call (decide (die.toNat < 4) && decide (slot.toNat < 144) && decide (op.toNat ≤ 6)) false
        (if s.stage < 4 then some 1 else s.slotOpCheck op.toNat p) (fun u => u.smdGo op.toNat p)) := rfl
    rw [hexec, State.call_done h (hok hr) rfl ((hlate hst).trans hk)]

/-- PORT_MARK reaches the port of the slot where the core stands, which counting a call does not move. -/
theorem State.slotOf_countCall (s : State) (refused : Bool) (n : Nat) : (s.countCall refused).slotOf n = s.slotOf n := by
  cases refused <;> rfl

/-- The order of seam repairs: every lower link of the seam is up. -/
theorem seamOrder_iff (s : State) (die seam data : Nat) :
    (match seamLinkOf seam data with
      | some r => (List.range r).all (fun k => s.seamLinkUp die seam k)
      | none => true) = true ↔ ∀ r, seamLinkOf seam data = some r → ∀ k < r, s.seamLinkUp die seam k = true := by
  rcases seamLinkOf seam data with _ | r <;> simp

/-- The kinds of RESET that are numbered. -/
theorem word_eq_iff (w : Word) {n : Nat} (hn : n < 2 ^ 64) : w = BitVec.ofNat 64 n ↔ w.toNat = n := by
  rw [← BitVec.toNat_inj, BitVec.toNat_ofNat, Nat.mod_eq_of_lt hn]

/-- A snoop counts in a register of the host port, and so leaves Forester running. -/
theorem State.foresterRuns_snooped (s : State) (a len : Nat) (write : Bool) : (s.snooped a len write).2.foresterRuns = s.foresterRuns := by
  have hreg : ∀ k, k ≠ rCXL_SFCNT → (s.snooped a len write).2.reg k = s.reg k := by
    intro k hk
    unfold State.snooped State.snoopedAll
    dsimp only
    split_ifs
    · exact (State.reg_setReg ..).trans (if_neg hk)
    · rfl
  have hboot : (s.snooped a len write).2.boot = s.boot ∧ (s.snooped a len write).2.wdn = s.wdn := by
    obtain ⟨r, l, h⟩ := s.snooped_parts a len write
    rw [h]
    exact ⟨rfl, rfl⟩
  unfold State.foresterRuns State.powered State.bootFailed
  rw [hboot.1, hboot.2, hreg _ (by decide), hreg _ (by decide)]

/-- SHADOW_PAIR. -/
theorem shadowPair_answers (s : State) (rec primary win addr : Word) (got : Option Bytes) (v : State) :
    let q := s.digestRing
    let i : Instr := .shadowPair rec primary win addr got
    let keyed := s.keySlot (BitVec.ofNat 16 primary.toNat) ≠ 0
    let range := q.1 ≤ rec.toNat ∧ rec.toNat + 64 ≤ q.1 + q.2 ∧ rec.toNat % 64 = 0 ∧ primary.toNat < 65536 ∧ win.toNat < 4096 ∧ addr.toNat < 2 ^ 48
    (s.foresterRuns = false → ¬range → exec i s = .next s) ∧
    (s.foresterRuns = true → ¬range → exec i s = .next (s.callResult 2 0)) ∧
    (∀ go, range → s.snooped rec.toNat 64 false = (go, v) → s.foresterRuns = true →
      (keyed → got = none ∨ go = false → exec i s = .next (v.callResult 3 0)) ∧
      (¬keyed → exec i s = .next ((v.countCall true).callResult 1 1)) ∧
      (∀ g, keyed → go = true → got = some g →
        let u := v.countCall false
        (∀ b w, u.readMem rec.toNat 64 = (some b, w) → exec i s = .next ((w.comparePair b (g.take 64)).callResult 0 0)) ∧
        (∀ w, u.readMem rec.toNat 64 = (none, w) → exec i s = .next (w.callResult 0 0)))) := by
  intro q i keyed range
  have hok : (decide (s.digestRing.1 ≤ rec.toNat) && decide (rec.toNat + 64 ≤ s.digestRing.1 + s.digestRing.2) && decide (rec.toNat % 64 = 0) &&
      decide (primary.toNat < 65536) && decide (win.toNat < 4096) && decide (addr.toNat < 2 ^ 48)) = true ↔ range := by simp [range, q, and_assoc]
  have hkey : decide (s.keySlot (BitVec.ofNat 16 primary.toNat) ≠ 0) = true ↔ keyed := decide_eq_true_iff
  refine ⟨fun h hr => ?_, fun h hr => ?_, fun go hr hsn h => ?_⟩
  · rw [← hok, Bool.not_eq_true] at hr
    simp only [i, exec_shadowPair, execShadowPair, hr, Bool.false_eq_true, if_false]
    exact congrArg _ (State.call_stopped h)
  · rw [← hok, Bool.not_eq_true] at hr
    simp only [i, exec_shadowPair, execShadowPair, hr, Bool.false_eq_true, if_false]
    exact congrArg _ (State.call_badArgs h rfl)
  · have hv : v.foresterRuns = true := by
      rw [← h, ← State.foresterRuns_snooped s rec.toNat 64 false, hsn]
    rw [← hok] at hr
    simp only [i, exec_shadowPair, execShadowPair, hr, if_true, hsn]
    refine ⟨fun hk hno => congrArg _ (State.call_busy hv rfl ?_), fun hk => congrArg _ (State.call_refused hv rfl ?_ ?_),
      fun g hk hgo hgot => ⟨fun b w hrd => ?_, fun w hrd => ?_⟩⟩
    · rw [hkey.mpr hk]
      rcases hno with hno | hno <;> simp [hno]
    · rw [Bool.eq_false_iff.mpr (mt hkey.mp hk)]
      rfl
    · rw [Bool.eq_false_iff.mpr (mt hkey.mp hk)]
      rfl
    · refine congrArg _ ((State.call_done hv rfl ?_ ?_).trans ?_)
      · simp [hgo, hgot]
      · rw [hkey.mpr hk]
        rfl
      · simp only [hgot, hrd]
    · refine congrArg _ ((State.call_done hv rfl ?_ ?_).trans ?_)
      · simp [hgo, hgot]
      · rw [hkey.mpr hk]
        rfl
      · simp only [hrd]

/-- The calls of the Warden. -/
theorem wardenCalls_areJudged : Claims.WardenCallsAreJudged := by
  intro s
  refine ⟨slotOp_answers s, fun core link adjust => call_answers rfl (by simp) (by simp) (.cons (by simp) (.cons (by simp) .nil)) rfl,
    fun table => call_answers rfl (by simp) (by simp) (.cons (by simp) .nil) rfl,
    fun core port down p hp => call_answers rfl (by simp) (by simp) (.cons ?_ .nil) ?_,
    fun core port down hp => call_answers rfl (by simp) (by simp) (.cons ?_ .nil) ?_,
    fun die seam wire data => call_answers rfl ?_ (by simp) (.cons (by simp) (.cons (seamOrder_iff ..) .nil)) rfl,
    fun die chan => call_answers rfl (by simp) (by simp) (.cons (by simp) .nil) rfl,
    fun w base limit ctrl => call_answers rfl ?_ (by simp) (.cons (by simp) (.cons (by simp) (.cons (by simp) .nil))) rfl,
    fun d entry => call_answers rfl (by simp) (by simp) (.cons (by simp) .nil) rfl,
    fun d slot => call_answers rfl (by simp) (by simp) (.cons (by simp) .nil) rfl,
    fun slot => call_answers rfl (by simp) (by simp) (.cons (by simp) .nil) rfl,
    fun kind core keep => call_answers rfl (by simp) (by simp) (.cons ?_ .nil) rfl,
    fun which img himg => call_answers rfl (by simp) (by simp) (.cons ?_ .nil) ?_,
    call_answers rfl (by simp) (by simp) (.cons (by simp) .nil) rfl,
    fun sev code d0 d1 => call_answers rfl (by simp) (by simp) (.cons (by simp) .nil) rfl,
    fun ns => call_answers rfl (by simp) (by simp) (.cons (by simp) .nil) rfl,
    fun rec primary win addr got v => shadowPair_answers s rec primary win addr got v⟩
  · simp only [hp]
  · simp only [State.slotOf_countCall, hp]
  · simp only [hp]
  · simp only [State.slotOf_countCall, hp]
    rfl
  · simp [and_assoc]
  · simp [and_assoc]
  · simp only [show kind = 0 ↔ kind.toNat = 0 from word_eq_iff kind (by decide), show kind = 1 ↔ kind.toNat = 1 from word_eq_iff kind (by decide),
      show kind = 2 ↔ kind.toNat = 2 from word_eq_iff kind (by decide)]
    rcases kind.toNat with _ | _ | _ | n <;> simp
  · simp [hoursNs]
  · have hboot : (s.countCall false).boot = s.boot := rfl
    simp only [hboot, himg]

/-! ## SOFT_REPAIR (R480) -/

/-- A journaled entry leaves the placement of rows. -/
theorem State.rows_journal (s : State) (kind p rest : Nat) : (s.journal kind p rest).rows = s.rows := by
  unfold State.journal State.journalEntry
  dsimp only
  split <;> rfl

theorem State.holder_of_rows {s u : State} (h : u.rows = s.rows) (p : Nat) : u.holder p = s.holder p := by
  unfold State.holder State.slotOf State.row
  rw [h]

/-- Soft repairs are checked. -/
theorem softRepairs_areChecked : Claims.SoftRepairsAreChecked := by
  intro die slot array idx row s n
  dsimp only
  intro hrun hdie hslot ha hi hh
  have hok : (decide (die.toNat < 4) && decide (slot.toNat < 144) && decide (array.toNat < 4) && decide (idx.toNat ≤ if row then 65 else 66)) = true := by
    simp [hdie, hslot, ha, hi]
  simp only [exec_softRepair, execSoftRepair, hh, hok]
  refine ⟨fun hb => congrArg _ (State.call_busy hrun rfl (by simpa using hb)), fun hs hl => ?_⟩
  have hidle : ((s.core n).streaming array.toNat || (s.core n).loading array.toNat) = false := by rw [hs, hl]; rfl
  have hlocated : ∀ (x : Option (Nat × Nat × Nat)), ((∃ c r t, x = some (c, r, t) ∧ (if row then r else c) = idx.toNat ∧ s.ns ≤ t + 1000000000) ↔
      (match x with
        | some (c, r, t) => decide ((if row then r else c) = idx.toNat) && decide (s.ns ≤ t + 1000000000)
        | none => false) = true) := by
    rintro (_ | ⟨c, r, t⟩) <;> simp
  refine ⟨fun hno => congrArg _ (State.call_refused hrun rfl hidle ?_), fun hloc hnone => congrArg _ (State.call_refused hrun rfl hidle ?_),
    fun w hloc hnew => ⟨fun hover => congrArg _ (State.call_refused hrun rfl hidle ?_), fun hfit => congrArg _ ((State.call_done hrun rfl hidle ?_).trans ?_)⟩⟩
  · exact (firstFail_cons _ _).trans (if_neg (mt (hlocated _).mpr hno))
  · rw [hnone]
    refine (firstFail_cons _ _).trans ((if_pos ((hlocated _).mp hloc)).trans ?_)
    rfl
  · rw [hnew]
    refine (firstFail_cons _ _).trans ((if_pos ((hlocated _).mp hloc)).trans ?_)
    simp [firstFail_cons, hover]
  · rw [hnew]
    refine (firstFail_cons _ _).trans ((if_pos ((hlocated _).mp hloc)).trans ?_)
    simp [hfit, firstFail]
  · have hold : (((s.countCall false).journal (if row then 3 else 4) (die.toNat * 144 + slot.toNat)
        (array.toNat * 2 ^ 48 + idx.toNat * 2 ^ 41)).modSlot (die.toNat * 144 + slot.toNat) (fun y => { y with repaired := true })).holder
        (die.toNat * 144 + slot.toNat) = some n := by
      rw [← hh]
      refine State.holder_of_rows ?_ _
      have hcount : (s.countCall false).rows = s.rows := rfl
      rw [State.modSlot, State.setSlot_rows, State.rows_journal, hcount]
    simp only [hold, hnew]

/-- Settles O55. -/
theorem wardenCalls : Obligations.WardenCalls := by
  unfold Obligations.WardenCalls
  exact ⟨processors_areWatched, wardenCalls_areJudged, softRepairs_areChecked⟩

end Sys2Proof.Machine
end

section
/-! PROOFS. Identity and attestation, key exchange, the management ports, the time base and the log (spec/15 R472 to R497). -/

namespace Sys2Proof.Machine

open Sys2Proof.Claims

/-! ## The SPDM connection (R487) -/

/-- Before Stage 1 the responder does not answer. -/
theorem State.spdm_down {s : State} (h : ¬(s.powered = true ∧ 1 ≤ s.stage)) (f : State → State) : s.spdm f = s := if_neg h
theorem State.spdm_up {s : State} (h : s.powered = true ∧ 1 ≤ s.stage) (f : State → State) : s.spdm f = f s := if_pos h

theorem spdm_next {s t : State} {i : Instr} {f : State → State} (hexec : exec i s = .next (s.spdm f)) (h : s.powered = true ∧ 1 ≤ s.stage) (hf : f s = t) :
    exec i s = .next t := by
  rw [hexec, State.spdm_up h, hf]

/-- The connection is negotiated in turn. -/
theorem connections_areNegotiated : Claims.ConnectionsAreNegotiated := by
  intro s
  dsimp only
  refine ⟨fun h => ?_, fun h => ⟨congrArg _ (State.spdm_up h _), fun v hp => ?_, fun v hp hv => ?_, fun v hp h1 h2 => ?_, fun c hp => ?_, fun hp => ⟨?_, ?_⟩⟩⟩
  · simp only [List.forall_mem_cons]
    exact ⟨congrArg _ (State.spdm_down h _), congrArg _ (State.spdm_down h _), congrArg _ (State.spdm_down h _), congrArg _ (State.spdm_down h _),
      congrArg _ (State.spdm_down h _), fun _ h => absurd h List.not_mem_nil⟩
  · exact spdm_next rfl h (if_pos hp)
  · exact spdm_next rfl h ((if_neg (not_not.mpr hp)).trans (if_pos hv))
  · exact spdm_next rfl h ((if_neg (not_not.mpr hp)).trans (if_neg (not_or.mpr ⟨h1, h2⟩)))
  · exact spdm_next rfl h (if_pos hp)
  · exact spdm_next rfl h ((if_neg (not_not.mpr hp)).trans (if_pos rfl))
  · exact spdm_next rfl h ((if_neg (not_not.mpr hp)).trans (if_neg (by decide)))

/-! ## Attestation (R473, R487, R488) -/

/-- How a request after the algorithms is answered: not at all, as unexpected, or by its own effect. -/
theorem spdmLate_answers {s t : State} {i : Instr} {f : State → State} (hexec : exec i s = .next (s.spdmLate f)) (hf : f s = t) :
    let up := s.powered = true ∧ 1 ≤ s.stage
    let open_ := s.wdn.spdm.phase = 3 ∧ (s.lifecycle = 2 ∨ s.lifecycle = 3)
    (¬up → exec i s = .next s) ∧ (up → ¬open_ → exec i s = .next (s.spdmAnswer (.error 0x04))) ∧ (up → open_ → exec i s = .next t) := by
  subst hf
  rw [hexec]
  exact ⟨fun h => congrArg _ (State.spdm_down h _), fun h ho => congrArg _ ((State.spdm_up h _).trans (if_neg ho)),
    fun h ho => congrArg _ ((State.spdm_up h _).trans (if_pos ho))⟩

/-- A session that FINISH has completed. -/
theorem State.secured_iff (s : State) (session : BitVec 32) : s.secured session = true ↔ ∃ n, (session, true, n) ∈ s.wdn.spdm.sessions := by
  unfold State.secured
  simp only [List.any_eq_true, Bool.and_eq_true, decide_eq_true_eq, Prod.exists]
  exact ⟨fun ⟨a, b, n, h, ha, hb⟩ => ⟨n, ha ▸ hb ▸ h⟩, fun ⟨n, h⟩ => ⟨session, true, n, h, rfl, rfl⟩⟩

/-- One that it has not. -/
theorem State.begun_iff (s : State) (session : BitVec 32) :
    s.wdn.spdm.sessions.any (fun x => decide (x.1 = session) && !x.2.1) = true ↔ ∃ n, (session, false, n) ∈ s.wdn.spdm.sessions := by
  simp only [List.any_eq_true, Bool.and_eq_true, decide_eq_true_eq, Bool.not_eq_true', Prod.exists]
  exact ⟨fun ⟨a, b, n, h, ha, hb⟩ => ⟨n, ha ▸ hb ▸ h⟩, fun ⟨n, h⟩ => ⟨session, false, n, h, rfl, rfl⟩⟩

/-- A request inside a session. -/
theorem spdmIn_answers {s t : State} {i : Instr} {session : BitVec 32} {f : State → State} (hexec : exec i s = .next (s.spdmIn session f)) (hf : f s = t) :
    let up := s.powered = true ∧ 1 ≤ s.stage
    let open_ := s.wdn.spdm.phase = 3 ∧ (s.lifecycle = 2 ∨ s.lifecycle = 3)
    let answers (i : Instr) (t : State) : Prop :=
      (¬up → exec i s = .next s) ∧ (up → ¬open_ → exec i s = .next (s.spdmAnswer (.error 0x04))) ∧ (up → open_ → exec i s = .next t)
    let secured := ∃ n, (session, true, n) ∈ s.wdn.spdm.sessions
    (secured → answers i t) ∧ (¬secured → answers i (s.spdmAnswer (.error 0x02))) := by
  subst hf
  exact ⟨fun h => spdmLate_answers hexec (if_pos ((s.secured_iff session).mpr h)),
    fun h => spdmLate_answers hexec (if_neg (mt (s.secured_iff session).mp h))⟩

/-- What the responder answers. -/
theorem attestation_answers : Claims.AttestationAnswers := by
  intro s
  refine ⟨spdmLate_answers rfl rfl, fun slot off len => spdmLate_answers rfl rfl, fun slot nonce => spdmLate_answers rfl rfl,
    fun index => spdmLate_answers rfl ?_, fun slot session exchange => spdmLate_answers rfl ?_, fun session => ⟨fun ok hno => spdmLate_answers rfl ?_,
      fun hb => ⟨spdmLate_answers rfl ?_, spdmLate_answers rfl ?_⟩, spdmIn_answers rfl rfl, spdmIn_answers rfl rfl, spdmIn_answers rfl rfl,
      fun stream on => spdmIn_answers rfl rfl, fun owned serial custKey sigOk => ⟨fun hok => spdmIn_answers rfl ?_, fun hok => spdmIn_answers rfl ?_⟩⟩⟩
  · have hff : index = 0xFF ↔ index.toNat = 0xFF := by rw [← BitVec.toNat_inj]; rfl
    simp only [hff]
    rfl
  · have hany : (s.wdn.spdm.sessions.any (fun x => decide (x.1 = session))) = true ↔ session ∈ s.wdn.spdm.sessions.map (fun x => x.1) := by
      simp only [List.any_eq_true, decide_eq_true_eq, List.mem_map]
    simp only [hany]
    rfl
  · exact if_pos (by rw [Bool.eq_false_iff.mpr (mt (s.begun_iff session).mp hno)]; rfl)
  · exact (if_neg (by rw [(s.begun_iff session).mpr hb]; decide)).trans (if_pos rfl)
  · exact (if_neg (by rw [(s.begun_iff session).mpr hb]; decide)).trans (if_neg (by decide))
  · obtain ⟨h1, h2, h3, h4⟩ := hok
    refine if_neg ?_
    cases owned <;> simp_all
  · refine if_pos ?_
    by_contra hall
    refine hok ?_
    cases owned <;> simp_all

/-! ## Key exchange (R489) -/

section kx
variable {slot : Fin 8} {s : State}

/-- The message in a slot of WDN_KXBOX. -/
def State.kxHeld (s : State) (slot : Fin 8) : Bytes := tread zeroByte s.wdn.kxBox (512 * slot.val) 512

/-- The state once the message is taken. -/
def State.kxTaken (s : State) (slot : Fin 8) : State :=
  { s with wdn := { s.wdn with kxBox := twrite zeroByte s.wdn.kxBox (512 * slot.val) (List.replicate 512 0) } }

/-- A message is taken when it is of the kind asked for. -/
theorem State.kxTake_other {kind : Nat} (h : leAt (s.kxHeld slot) 0 1 ≠ kind) : s.kxTake slot kind = none := if_pos h

theorem State.kxTake_kind {kind : Nat} (h : leAt (s.kxHeld slot) 0 1 = kind) : s.kxTake slot kind =
    some ((BitVec.ofNat 16 (leAt (s.kxHeld slot) 4 2), BitVec.ofNat 64 (leAt (s.kxHeld slot) 8 8), (s.kxHeld slot).drop 16), s.kxTaken slot) :=
  if_neg (not_not.mpr h)

/-- The sender, the identifier and the body of the message held. -/
def State.kxDev (s : State) (slot : Fin 8) : BitVec 16 := BitVec.ofNat 16 (leAt (s.kxHeld slot) 4 2)
def State.kxId (s : State) (slot : Fin 8) : Word := BitVec.ofNat 64 (leAt (s.kxHeld slot) 8 8)
def State.kxBody (s : State) (slot : Fin 8) : Bytes := (s.kxHeld slot).drop 16

/-- Messages from a peer with which no exchange runs. -/
theorem kx_stray (hx : (s.kxTaken slot).kxWith (s.kxDev slot) = none) :
    (leAt (s.kxHeld slot) 0 1 = 2 → exec (.kxHello slot) s = .next (s.kxTaken slot)) ∧
    (leAt (s.kxHeld slot) 0 1 = 3 → exec (.kxReply slot ()) s = .next (s.kxTaken slot)) ∧
    (leAt (s.kxHeld slot) 0 1 = 4 → exec (.kxConfirm slot ()) s = .next (s.kxTaken slot)) := by
  unfold State.kxDev at hx
  refine ⟨fun h => ?_, fun h => ?_, fun h => ?_⟩
  · simp only [exec_kxHello, execKxHello, State.kxTake_kind h, hx]
  · simp only [exec_kxReply, execKxReply, State.kxTake_kind h, hx]
  · simp only [exec_kxConfirm, execKxConfirm, State.kxTake_kind h, hx]

/-- A first piece from a peer that has no exchange begins one. -/
theorem kxCert_begins {k : Nat} {x : Kx} (h : leAt (s.kxHeld slot) 0 1 = 1) (hx : (s.kxTaken slot).kxWith (s.kxDev slot) = none)
    (hk : (s.kxTaken slot).responderSlot (s.kxDev slot) = some k)
    (hkx : ((s.kxTaken slot).startKx (s.kxDev slot) k (s.kxId slot) false).kxWith (s.kxDev slot) = some x) :
    exec (.kxCert slot ()) s = .next (((s.kxTaken slot).startKx (s.kxDev slot) k (s.kxId slot) false).takePiece x (s.kxBody slot)) := by
  unfold State.kxDev State.kxId at *
  simp only [exec_kxCert, execKxCert, State.kxTake_kind h, hx, hk, hkx]
  rfl

variable {x : Kx} (hx : (s.kxTaken slot).kxWith (s.kxDev slot) = some x) (hid : x.id = s.kxId slot)
include hx hid

/-- A piece of the chain goes to its exchange. -/
theorem kxCert_piece (h : leAt (s.kxHeld slot) 0 1 = 1) : exec (.kxCert slot ()) s = .next ((s.kxTaken slot).takePiece x (s.kxBody slot)) := by
  unfold State.kxDev at hx
  simp only [exec_kxCert, execKxCert, State.kxTake_kind h, hx]
  exact if_pos hid

/-- HELLO at a responder whose peer's chain passed. -/
theorem kxHello_answers (h : leAt (s.kxHeld slot) 0 1 = 2) (h1 : x.init_ = false) (h2 : x.certOk = true) (h3 : x.hello = false) :
    let u := s.kxTaken slot
    let same := ((s.kxBody slot).drop 96).take 32 = u.custHash
    (¬same → exec (.kxHello slot) s = .next (u.abandonKx (s.kxDev slot))) ∧
    (same →
      let r := (u.freshBytes 12).1
      let w := (u.freshBytes 12).2
      let log := (s.kxBody slot).take 128 ++ r ++ w.custHash
      exec (.kxHello slot) s = .next ((w.setKx (s.kxDev slot) (some { x with hello := true, log := log })).kxSend (s.kxDev slot) 3 (s.kxId slot)
        (r ++ w.custHash ++ (Config.sm2Keys log 1).take 32))) := by
  have hgo : ¬(x.id ≠ s.kxId slot ∨ x.init_ = true ∨ (!x.certOk) = true ∨ x.hello = true) := by simp [hid, h1, h2, h3]
  unfold State.kxDev at hx
  refine ⟨fun hs => ?_, fun hs => ?_⟩
  · simp only [exec_kxHello, execKxHello, State.kxTake_kind h, hx]
    exact (if_neg hgo).trans (if_pos hs)
  · simp only [exec_kxHello, execKxHello, State.kxTake_kind h, hx]
    exact (if_neg hgo).trans (if_neg (not_not.mpr hs))

/-- REPLY at an initiator that has sent HELLO. -/
theorem kxReply_answers (h : leAt (s.kxHeld slot) 0 1 = 3) (h1 : x.init_ = true) (h2 : x.certOk = true) (h3 : x.hello = true) :
    let u := s.kxTaken slot
    let y := { x with log := x.log ++ (s.kxBody slot).take 128 }
    let fits := ((s.kxBody slot).drop 128).take 32 = (Config.sm2Keys y.log 1).take 32 ∧ ((s.kxBody slot).drop 96).take 32 = u.custHash
    (¬fits → exec (.kxReply slot ()) s = .next (u.abandonKx (s.kxDev slot))) ∧
    (fits → exec (.kxReply slot ()) s = .next ((u.kxSend (s.kxDev slot) 4 (s.kxId slot) ((Config.sm2Keys y.log 2).take 32)).finishKx y)) := by
  have hgo : ¬(x.id ≠ s.kxId slot ∨ (!x.init_) = true ∨ (!x.certOk) = true ∨ (!x.hello) = true) := by simp [hid, h1, h2, h3]
  unfold State.kxDev at hx
  refine ⟨fun hf => ?_, fun hf => ?_⟩
  · simp only [exec_kxReply, execKxReply, State.kxTake_kind h, hx]
    exact (if_neg hgo).trans (if_pos (not_and_or.mp hf))
  · simp only [exec_kxReply, execKxReply, State.kxTake_kind h, hx]
    exact (if_neg hgo).trans (if_neg (fun hno => (not_and_or.mpr hno) hf))

/-- CONFIRM at a responder that has answered HELLO. -/
theorem kxConfirm_answers (h : leAt (s.kxHeld slot) 0 1 = 4) (h1 : x.init_ = false) (h2 : x.hello = true) :
    let u := s.kxTaken slot
    let fits := (s.kxBody slot).take 32 = (Config.sm2Keys x.log 2).take 32
    (fits → exec (.kxConfirm slot ()) s = .next (u.finishKx x)) ∧ (¬fits → exec (.kxConfirm slot ()) s = .next (u.abandonKx (s.kxDev slot))) := by
  have hgo : ¬(x.id ≠ s.kxId slot ∨ x.init_ = true ∨ (!x.hello) = true) := by simp [hid, h1, h2]
  unfold State.kxDev at hx
  refine ⟨fun hf => ?_, fun hf => ?_⟩
  · simp only [exec_kxConfirm, execKxConfirm, State.kxTake_kind h, hx]
    exact (if_neg hgo).trans (if_pos hf)
  · simp only [exec_kxConfirm, execKxConfirm, State.kxTake_kind h, hx]
    exact (if_neg hgo).trans (if_neg hf)

end kx

/-- Exchanges run. -/
theorem keyExchanges_run : Claims.KeyExchangesRun := by
  intro slot s
  refine ⟨⟨fun h => ?_, fun h => ?_, fun h => ?_, fun h => ?_⟩, fun hx => kx_stray hx,
    fun x hx hid => ⟨kxCert_piece hx hid, kxHello_answers hx hid, kxReply_answers hx hid, kxConfirm_answers hx hid⟩, fun h hx k x hk hkx => ?_,
    fun peer => ⟨fun h => ?_, fun x h => ⟨fun hlt => ?_, fun hle => ?_⟩⟩⟩
  · simp only [exec_kxCert, execKxCert, State.kxTake_other h]
  · simp only [exec_kxHello, execKxHello, State.kxTake_other h]
  · simp only [exec_kxReply, execKxReply, State.kxTake_other h]
  · simp only [exec_kxConfirm, execKxConfirm, State.kxTake_other h]
  · exact kxCert_begins h hx hk hkx
  · simp only [exec_kxTimeout, execKxTimeout, h]
  · simp only [exec_kxTimeout, execKxTimeout, h]
    exact if_neg (Nat.not_le.mpr hlt)
  · simp only [exec_kxTimeout, execKxTimeout, h]
    exact if_pos hle

/-! ## The management ports (R493, R494) -/

/-- Datagrams, the network key, sensors and PLDM resets. -/
theorem management_ports : Claims.ManagementPorts := by
  intro s
  dsimp only
  refine ⟨fun h => if_pos (by simpa using h), fun hq hp => if_neg (by simp [hq, hp]), fun who v h => next_gateReg h rfl,
    fun h => ?_, fun ⟨hp, h0⟩ => ?_⟩
  · have hdown : (!s.powered) = true ∨ (!s.stage0) = true := by by_contra hno; simp_all
    exact ⟨fun i => if_pos hdown, if_pos hdown, fun b => if_pos hdown⟩
  · have hup : ¬((!s.powered) = true ∨ (!s.stage0) = true) := by simp [hp, h0]
    have hgives {i : Nat} (hi : i < 256) {v : Option Nat} {u : State} (hv : s.sensor i = (v, u)) :
        exec (.pldmSensorRead (BitVec.ofNat 8 i)) s = .next { u with wdn := { u.wdn with pldmAns := v } } := by
      simp only [exec_pldmSensorRead, execPldmSensorRead, if_neg hup, BitVec.toNat_ofNat, Nat.mod_eq_of_lt hi, hv]
    refine ⟨hgives (by decide) rfl, fun d hd => ⟨hgives (by omega) ?_, hgives (by omega) ?_⟩, fun k hk => hgives (by omega) ?_, hgives (by decide) rfl,
      fun i h1 h2 => hgives h2 ?_, hgives (i := 22) (by decide) rfl, if_neg hup, fun b => if_neg hup⟩
    · exact (if_neg (by omega)).trans (if_pos (by omega))
    · exact (if_neg (by omega)).trans ((if_neg (by omega)).trans (if_pos (by omega)))
    · exact (if_neg (by omega)).trans ((if_neg (by omega)).trans ((if_neg (by omega)).trans (if_pos (by omega))))
    · exact (if_neg (by omega)).trans ((if_neg (by omega)).trans ((if_neg (by omega)).trans ((if_neg (by omega)).trans
        ((if_neg (by omega)).trans (if_neg (by omega))))))

/-! ## Time and the log (R491, R497) -/

/-- Without a correction a tick adds 10 ns. -/
theorem State.tickStep_plain {s : State} (h : s.regField rMGT_TIMERATE 31 0 = 0) : s.tickStep = 10 * 2 ^ 32 := by
  unfold State.tickStep
  rw [h]
  rfl

/-- The eight registers of a log record. -/
def State.showRecord (s : State) (b : Bytes) : State :=
  (List.range 8).foldl (fun s j => s.setReg (rMGT_LOGDATAj + 8 * j) (BitVec.ofNat 64 (leAt b (8 * j) 8))) s

/-- A record is read whole. -/
theorem logdata_isRead {who : Initiator} {s : State} (h : s.readReach who rMGT_LOGDATAj = true) :
    (s.stage < 2 → exec (.logdataRead who) s = .next (s.showRecord (List.replicate 64 0xFF))) ∧
    (2 ≤ s.stage → ∀ b u, s.ringRead (logRing + s.regField rMGT_LOGIDX 15 0 * 64) 64 = (some b, u) → exec (.logdataRead who) s = .next (u.showRecord b)) ∧
    (2 ≤ s.stage → ∀ u, s.ringRead (logRing + s.regField rMGT_LOGIDX 15 0 * 64) 64 = (none, u) →
      exec (.logdataRead who) s = .next ((u.freshBytes 8).2.showRecord (u.freshBytes 8).1)) := by
  have hgo : ¬(!s.readReach who rMGT_LOGDATAj) = true := by simp [h]
  refine ⟨fun hs => ?_, fun hs b u hr => ?_, fun hs u hr => ?_⟩
  · simp only [exec_logdataRead, execLogdataRead, if_neg hgo, if_pos hs]
    rfl
  · simp only [exec_logdataRead, execLogdataRead, if_neg hgo, if_neg (Nat.not_lt.mpr hs), hr]
    rfl
  · simp only [exec_logdataRead, execLogdataRead, if_neg hgo, if_neg (Nat.not_lt.mpr hs), hr]
    rfl

/-- The time base and the log are read. -/
theorem timeAndLog_areRead : Claims.TimeAndLogAreRead := by
  intro s
  exact ⟨fun h => if_neg (by simp [h]), fun h => if_pos h, State.tickStep_plain, fun who => ⟨fun h => if_neg (by simp [h]), fun h => if_pos h⟩,
    fun who => ⟨fun h => if_pos (by simp [h]), logdata_isRead⟩⟩

/-- Settles O56. -/
theorem managementAnswers : Obligations.ManagementAnswers := by
  unfold Obligations.ManagementAnswers
  exact ⟨connections_areNegotiated, attestation_answers, keyExchanges_run, management_ports, timeAndLog_areRead⟩

end Sys2Proof.Machine
end

section
/-! PROOFS. The power manager: samples, control steps, thermal limits, droop and pace (spec/16 R505 to R511). -/

namespace Sys2Proof.Machine

open Sys2Proof.Claims

/-- A period has passed since a time that may not have come yet. -/
theorem elapsed_iff (last : Option Nat) (now period : Nat) : elapsed last now period = true ↔ ∀ t, last = some t → t + period ≤ now := by
  cases last <;> simp [elapsed]

/-! ## Input power (R507) -/

/-- A field that fits its bits reads back as it was written. -/
theorem State.regField_setRegField_same (s : State) (k lo v : Nat) {hi : Nat} (hhi : hi < 64) (hv : v < 2 ^ (hi + 1 - lo)) :
    (s.setRegField k hi lo v).regField k hi lo = v := by
  rw [State.regField, State.setRegField, State.reg_setReg_same, field_setField_same _ _ hhi, Nat.mod_eq_of_lt hv]

/-- VCORE is lowered, and no lower than its floor. -/
theorem State.setMv_lowerMv (s : State) (d mv : Nat) (hfloor : s.floorMv d ≤ s.setMv d) :
    (s.lowerMv d mv).setMv d = max (s.floorMv d) (s.setMv d - mv) := by
  by_cases h : s.setMv d ≤ s.floorMv d
  · have hlow : s.lowerMv d mv = s := if_pos h
    rw [hlow]
    omega
  · have hlow : s.lowerMv d mv = s.setRegField (dieKey d rPWR_VCORE) 29 16 (max (s.floorMv d) (s.setMv d - mv)) := if_neg h
    have hlt : s.setMv d < 2 ^ (29 + 1 - 16) := Nat.mod_lt _ (by decide)
    rw [hlow, State.setMv, State.regField_setRegField_same _ _ _ _ (by decide) (by omega)]

/-- Samples of the input power are judged. -/
theorem powerSamples_areJudged : Claims.PowerSamplesAreJudged := by
  intro watts vin s
  refine ⟨fun h => if_pos ?_, fun hdue => ?_, fun d mv _ _ hfloor => s.setMv_lowerMv d mv hfloor⟩
  · have hnot : ¬(s.powered = true ∧ elapsed s.power.sampleAt s.ns 10000 = true) := fun hx => h ⟨hx.1, (elapsed_iff _ _ _).1 hx.2⟩
    cases hp : s.powered <;> simp_all
  · obtain ⟨hp, ht⟩ := hdue
    have hgo : ¬(!s.powered ∨ !elapsed s.power.sampleAt s.ns 10000) := by
      rw [(elapsed_iff _ _ _).2 ht]
      simp [hp]
    exact ⟨fun h => (if_neg hgo).trans (if_neg h), fun h => (if_neg hgo).trans (if_pos h)⟩

/-! ## Control steps, temperature, droop and pace (R505 to R511) -/

/-- A control step goes over the dies. -/
theorem powerSteps_run : Claims.PowerStepsRun := by
  intro s
  refine ⟨fun dies h => if_pos ?_, fun dies hdue hlen => ?_, fun d temps rowMw => ⟨fun h => if_pos ?_, fun hp ht hr i c hi hc => ?_⟩,
    fun d mv long => ⟨fun h => if_pos ?_, fun hp h0 => ?_⟩, fun d ps => ⟨fun h => ?_, fun h => ?_⟩⟩
  · have hnot : ¬(s.powered = true ∧ s.stage0 = true ∧ elapsed s.power.stepAt s.ns 100000 = true) ∨ dies.length ≠ 4 :=
      h.imp_left fun hn hx => hn ⟨hx.1, hx.2.1, (elapsed_iff _ _ _).1 hx.2.2⟩
    cases hp : s.powered <;> cases h0 : s.stage0 <;> simp_all
    cases he : elapsed s.power.stepAt s.ns 100000 <;> simp_all
  · obtain ⟨hp, h0, ht⟩ := hdue
    refine if_neg ?_
    rw [(elapsed_iff _ _ _).2 ht]
    simp [hp, h0, hlen]
  · cases hp : s.powered <;> simp_all
  · have hgo : ¬(!s.powered ∨ temps.length ≠ 20 ∨ rowMw.length ≠ 16) := by simp [hp, ht, hr]
    subst hi hc
    refine ⟨fun h => (if_neg hgo).trans (if_pos h), fun h h2 => (if_neg hgo).trans ((if_neg (Nat.not_le.mpr h)).trans (if_pos h2)),
      fun h h2 h3 => (if_neg hgo).trans ((if_neg (Nat.not_le.mpr h)).trans ((if_neg (Nat.not_le.mpr h2)).trans (if_neg (Nat.not_le.mpr h3)))),
      fun h h2 => (if_neg hgo).trans ((if_neg (Nat.not_le.mpr h)).trans ((if_neg ?_).trans (if_pos h2)))⟩
    exact Nat.not_le.mpr (Nat.lt_of_lt_of_le (Nat.lt_add_of_pos_right (by decide)) h2)
  · rcases h with h | h <;> simp [h]
  · have hgo : ¬(!s.powered ∨ !s.stage0) := by simp [hp, h0]
    exact ⟨fun h => (if_neg hgo).trans (if_neg h), fun h => (if_neg hgo).trans (if_pos h)⟩
  · simp only [exec_paceMeasure, execPaceMeasure, h, Bool.not_false, if_true]
  · have hslow : ∀ key v, (s.setRegField key 15 0 v).regField key 31 16 = s.regField key 31 16 := fun key v => by
      rw [State.regField, State.setRegField, State.reg_setReg_same, field_setField_disjoint _ _ (Or.inr (by decide))]
      rfl
    simp only [exec_paceMeasure, execPaceMeasure, h, Bool.not_true, Bool.false_eq_true, if_false, hslow]

/-- Settles O58. -/
theorem powerIsManaged : Obligations.PowerIsManaged := by
  unfold Obligations.PowerIsManaged
  exact ⟨powerSamples_areJudged, powerSteps_run⟩

end Sys2Proof.Machine
end

section
/-! PROOFS. Register accesses and the control tree (spec/00 R10 to R14, spec/05 R184, spec/13, spec/15 R476 to R478). -/

namespace Sys2Proof.Machine

open Sys2Proof.Claims

/-! ## Writes -/

/-- An access that is not aligned, or of another size, is none. -/
theorem accessOk_false {o size : Nat} (h : (size ≠ 4 ∧ size ≠ 8) ∨ o % size ≠ 0) : accessOk o size = false := by
  rcases h with ⟨h4, h8⟩ | h <;> simp_all [accessOk]

/-- An aligned access of 4 or 8 bytes. -/
theorem accessOk_true {o size : Nat} (hs : size = 4 ∨ size = 8) (h : o % size = 0) : accessOk o size = true := by
  rcases hs with rfl | rfl <;> simp [accessOk, h]

/-- The offset is not one of the component registers. -/
theorem isComponent_false {o : Nat} (h : ¬(0x2600000 ≤ o ∧ o < 0x2610000)) : isComponent o = false := by
  simpa [isComponent] using h

/-- The low half of a written word and the half of the register that it does not reach. -/
theorem lane_low (v k : Word) :
    (v &&& 0xFFFFFFFF) ||| (k &&& ~~~(0xFFFFFFFF : Word)) = (v &&& 0xFFFFFFFF) ||| (k &&& 0xFFFFFFFF00000000) := rfl

/-- The high half of a written word and the half of the register that it does not reach. -/
theorem lane_high (v k : Word) :
    (v <<< 32 &&& 0xFFFFFFFF00000000) ||| (k &&& ~~~(0xFFFFFFFF00000000 : Word)) = (v <<< 32) ||| (k &&& 0xFFFFFFFF) := by
  have hv : v <<< 32 &&& 0xFFFFFFFF00000000 = v <<< 32 := by
    ext i hi
    interval_cases i <;> simp
  rw [hv]
  rfl

/-- A word written whole. -/
theorem lane_whole (v k : Word) : (v &&& ones64) ||| (k &&& ~~~ones64) = v := by
  have hv : v &&& ones64 = v := BitVec.and_allOnes
  have hk : k &&& ~~~ones64 = 0#64 := BitVec.and_zero
  rw [hv, hk, BitVec.or_zero]

/-- The bits of a register that take no written value keep theirs. -/
theorem State.reg_regWrite_ne (s : State) {key k : Nat} (v : Word) (h : k ≠ key) : (s.regWrite key v).reg k = s.reg k := by
  unfold State.regWrite
  split
  · rfl
  · rw [State.reg_setReg, if_neg h]

/-- One bit of a register after a plain write, by its kind. -/
theorem bit_follows_kind {old v rw w1c w1s : Bool} : (rw && w1c) = false → (rw && w1s) = false → (w1c && w1s) = false →
    ((((old && !rw) || (v && rw)) && !(v && w1c)) || (v && w1s)) =
      ((((v && rw) || ((old && w1c) && !v)) || ((old || v) && w1s)) || (old && !((rw || w1c) || w1s))) := by
  revert old v rw w1c w1s
  decide

/-- RW bits, bits written 1 to clear and bits written 1 to set (R10). -/
theorem registerBits_followTheirKind : Claims.RegisterBitsFollowTheirKind := by
  intro s key v r hr
  refine ⟨fun k hk => s.reg_regWrite_ne v hk, fun h1 h2 h3 => ?_⟩
  simp only [State.regWrite, hr, State.reg_setReg_same]
  generalize s.reg key = old at *
  generalize BitVec.ofNat 64 r.rw = a at *
  generalize BitVec.ofNat 64 r.w1c = b at *
  generalize BitVec.ofNat 64 r.w1s = c at *
  ext i hi
  have e1 := congrArg (fun x : Word => x.getLsbD i) h1
  have e2 := congrArg (fun x : Word => x.getLsbD i) h2
  have e3 := congrArg (fun x : Word => x.getLsbD i) h3
  simp only [BitVec.getLsbD_eq_getElem hi, BitVec.getElem_and, BitVec.getElem_or, BitVec.getElem_not, BitVec.ofNat_eq_ofNat, BitVec.getElem_zero] at e1 e2 e3 ⊢
  exact bit_follows_kind e1 e2 e3

/-- The value that an aligned write gives its register: the bits that it reaches, and what is kept of the others. -/
def written (s : State) (o size : Nat) (v : Word) (key : Nat) : Word :=
  ((if o % 8 = 0 then v else v <<< 32) &&& laneMask o size) ||| (s.kept key &&& ~~~laneMask o size)

/-- A write of 8 bytes is whole. -/
theorem written_whole (s : State) {o : Nat} (v : Word) (key : Nat) (h : o % 8 = 0) : written s o 8 v key = v := by
  simp only [written, laneMask, h, if_true]
  exact lane_whole v _

/-- A write of the low half keeps the high one. -/
theorem written_low (s : State) {o : Nat} (v : Word) (key : Nat) (h : o % 8 = 0) :
    written s o 4 v key = (v &&& 0xFFFFFFFF) ||| (s.kept key &&& 0xFFFFFFFF00000000) := by
  simp only [written, laneMask, h, if_true]
  exact lane_low v _

/-- A write of the high half keeps the low one. -/
theorem written_high (s : State) {o : Nat} (v : Word) (key : Nat) (h : o % 8 = 4) :
    written s o 4 v key = (v <<< 32) ||| (s.kept key &&& 0xFFFFFFFF) := by
  have h0 : ¬o % 8 = 0 := by omega
  simp only [written, laneMask, if_neg h0]
  exact lane_high v _

/-- A write that reaches a register of its own takes that register's rule. -/
theorem registerWrite_key {who : Initiator} {off : BitVec 32} {size : Nat} (v : Word) {s : State} (hp : s.powered = true) (ho : off.toNat < 0x4000000)
    (hok : accessOk off.toNat size = true) (hm : ¬(mboxBase ≤ off.toNat ∧ off.toNat < mboxBase + 0x1000)) (hc : ¬(0x2600000 ≤ off.toNat ∧ off.toNat < 0x2610000))
    (hpx : ¬(0x2000000 ≤ off.toNat / 8 * 8 ∧ off.toNat / 8 * 8 < 0x2400000 ∧ off.toNat / 8 * 8 % 0x100000 = rSMD_PXDATA)) :
    exec (.registerWrite who off size v) s = .next (s.writeKey who (off.toNat / 8 * 8) (written s off.toNat size v (off.toNat / 8 * 8))) := by
  have hkey : off.toNat - off.toNat % 8 = off.toNat / 8 * 8 := by omega
  have hgo : ¬(!s.powered ∨ !accessOk off.toNat size ∨ barBytes ≤ off.toNat) := by simp [hp, hok, barBytes, ho]
  simp only [exec_registerWrite, execRegisterWrite, if_neg hgo, isComponent_false hc, Bool.false_eq_true, if_false, if_neg hm, hkey, if_neg hpx]
  rfl

/-- A write that reaches SMD_PXDATA takes the rule of the register that SMD_PXSEL names. -/
theorem registerWrite_px {who : Initiator} {off : BitVec 32} {size : Nat} (v : Word) {s : State} (hp : s.powered = true)
    (hok : accessOk off.toNat size = true) (h8 : off.toNat % 8 = 0)
    (hpx : 0x2000000 ≤ off.toNat / 8 * 8 ∧ off.toNat / 8 * 8 < 0x2400000 ∧ off.toNat / 8 * 8 % 0x100000 = rSMD_PXDATA)
    (hreach : who = .host → s.hostReach off.toNat = true) :
    exec (.registerWrite who off size v) s =
      .next (s.pxWrite who ((off.toNat - 0x2000000) / 0x100000) (written s off.toNat size v (s.pxTarget ((off.toNat - 0x2000000) / 0x100000)).2)) := by
  have hkey : off.toNat / 8 * 8 = off.toNat := by omega
  rw [hkey] at hpx
  have hgo : ¬(!s.powered ∨ !accessOk off.toNat size ∨ barBytes ≤ off.toNat) := by
    have := hpx.2.1
    simp [hp, hok, barBytes]
    omega
  have hc : isComponent off.toNat = false := isComponent_false (by omega)
  have hm : ¬(mboxBase ≤ off.toNat ∧ off.toNat < mboxBase + 0x1000) := by
    have := hpx.2.1
    simp only [mboxBase]
    omega
  have hr : who ≠ .host ∨ s.hostReach off.toNat = true := by
    by_cases hw : who = .host
    · exact Or.inr (hreach hw)
    · exact Or.inl hw
  simp only [exec_registerWrite, execRegisterWrite, if_neg hgo, hc, Bool.false_eq_true, if_false, if_neg hm, h8, Nat.sub_zero, if_pos hpx, if_pos hr, if_true]
  simp only [written, h8, if_true]

/-- A write to the mailbox is judged by its class. -/
theorem registerWrite_mailbox {who : Initiator} {off : BitVec 32} {size : Nat} (v : Word) {s : State} (hp : s.powered = true)
    (hok : accessOk off.toNat size = true) (hlo : mboxBase ≤ off.toNat) (hhi : off.toNat < mboxBase + 0x1000) :
    exec (.registerWrite who off size v) s = .next (s.gate who off.toNat .h (fun s => s.mboxWrite off.toNat size (v.toNat % 2 ^ (8 * size)))) := by
  have hb : off.toNat < barBytes := Nat.lt_trans hhi (by decide)
  have hgo : ¬(!s.powered ∨ !accessOk off.toNat size ∨ barBytes ≤ off.toNat) := by simp [hp, hok, hb]
  have hc : isComponent off.toNat = false := isComponent_false fun h => absurd h.2 (Nat.not_lt.mpr (Nat.le_trans (by decide) hlo))
  simp only [exec_registerWrite, execRegisterWrite, if_neg hgo, hc, Bool.false_eq_true, if_false, if_pos (And.intro hlo hhi)]

/-- Register writes: size, reach, halves, the mailbox and SMD_PXDATA. -/
theorem registerWrites_reach : Claims.RegisterWritesReach := by
  intro who off v s
  refine ⟨fun size h => if_pos ?_, fun hp ho => ⟨fun h8 hplain hpx => ?_, fun h8 hplain hpx => ?_, fun h4 hplain hpx => ?_, fun size hs hal hlo hhi => ?_,
    fun h8 hpx hreach => ⟨?_, ?_⟩⟩⟩
  · rcases h with h | h | h | h
    · simp [h]
    · simp [accessOk_false (o := off.toNat) (Or.inl h)]
    · simp [accessOk_false (Or.inr h)]
    · exact Or.inr (Or.inr h)
  · have hkey : off.toNat / 8 * 8 = off.toNat := by omega
    have h := registerWrite_key (who := who) v hp ho (accessOk_true (Or.inr rfl) h8) hplain.1 hplain.2 hpx
    rwa [hkey, written_whole s v _ h8] at h
  · have hkey : off.toNat / 8 * 8 = off.toNat := by omega
    have h := registerWrite_key (who := who) v hp ho (accessOk_true (Or.inl rfl) (by omega)) hplain.1 hplain.2 hpx
    rwa [hkey, written_low s v _ h8] at h
  · have h := registerWrite_key (who := who) v hp ho (accessOk_true (Or.inl rfl) (by omega)) hplain.1 hplain.2 hpx
    rwa [written_high s v _ h4] at h
  · exact registerWrite_mailbox v hp (accessOk_true hs hal) hlo hhi
  · have h := registerWrite_px v hp (accessOk_true (Or.inr rfl) h8) h8 hpx hreach
    rwa [written_whole s v _ h8] at h
  · have h := registerWrite_px v hp (accessOk_true (Or.inl rfl) (by omega)) h8 hpx hreach
    rwa [written_low s v _ h8] at h

/-! ## Reads -/

/-- A read of a register of its own returns it as its initiator sees it, and clears what reads clear. -/
theorem readToClear_key {who : Initiator} {off : BitVec 32} {size : Nat} {s : State} (hr : s.readReach who off.toNat = true) (ho : off.toNat < 0x4000000)
    (hok : accessOk off.toNat size = true) (ht : off.toNat / 8 * 8 ≠ rMGT_TIME) (hl : off.toNat / 8 * 8 ≠ rMGT_LOGDATAj)
    (hpx : ¬(0x2000000 ≤ off.toNat / 8 * 8 ∧ off.toNat / 8 * 8 < 0x2400000 ∧ off.toNat / 8 * 8 % 0x100000 = rSMD_PXDATA))
    (hc : ¬(0x2600000 ≤ off.toNat ∧ off.toNat < 0x2610000)) :
    exec (.readToClear who off size) s = .next { s.readClear (off.toNat / 8 * 8) (laneMask off.toNat size) with
      rd := if size = 8 then s.view who (off.toNat / 8 * 8) else if off.toNat % 8 = 0 then s.view who (off.toNat / 8 * 8) &&& 0xFFFFFFFF
        else s.view who (off.toNat / 8 * 8) >>> 32 } := by
  have hkey : off.toNat - off.toNat % 8 = off.toNat / 8 * 8 := by omega
  have hgo : ¬(!accessOk off.toNat size ∨ !s.readReach who off.toNat) := by simp [hok, hr]
  simp only [exec_readToClear, execReadToClear, if_neg hgo, if_neg (Nat.not_le.mpr ho : ¬barBytes ≤ off.toNat), isComponent_false hc, Bool.false_eq_true,
    if_false, hkey, State.readKey, if_neg ht, if_neg hl, if_neg hpx]

/-- A read through SMD_PXDATA from a slot whose compute domain has power. -/
theorem State.pxRead_on (s : State) {who : Initiator} {d : Nat} {m : Word} (hon : (s.slot (s.pxTarget d).1).on = true)
    (hid : (s.pxTarget d).2 % 0x10000 ≠ rCORE_ID) : s.pxRead who d m = (s.view who (s.pxTarget d).2, s.readClear (s.pxTarget d).2 m) := by
  have hpow : ¬((!(s.slot (s.pxTarget d).1).on) = true ∧ (!routerDomain ((s.pxTarget d).2 % 0x10000)) = true) := by simp [hon]
  exact (if_neg hpow).trans (if_neg fun h => hid h.1)

/-- Register reads, and the register that SMD_PXSEL names. -/
theorem registerReads_return : Claims.RegisterReadsReturn := by
  intro who s
  refine ⟨fun off => ⟨fun size h => if_pos ?_, fun size hs hal hr ho => ?_, fun hr ho ⟨ht, hl, hpx, hc⟩ => ⟨fun h8 => ?_, fun h8 => ?_, fun h4 => ?_⟩⟩,
    fun d => ⟨fun hr => ?_, fun hr hon hdom => ?_, fun hr hon hid => ?_, fun v hp hreach => ?_, fun v h => ?_⟩⟩
  · rcases h with h | h | h
    · simp [accessOk_false (o := off.toNat) (Or.inl h)]
    · simp [accessOk_false (Or.inr h)]
    · simp [h]
  · have hgo : ¬(!accessOk off.toNat size ∨ !s.readReach who off.toNat) := by simp [accessOk_true hs hal, hr]
    exact (if_neg hgo).trans (if_pos ho)
  · have hkey : off.toNat / 8 * 8 = off.toNat := by omega
    have h := readToClear_key hr ho (accessOk_true (Or.inr rfl) h8) ht hl hpx hc
    rwa [hkey] at h
  · have hkey : off.toNat / 8 * 8 = off.toNat := by omega
    have h := readToClear_key hr ho (accessOk_true (Or.inl rfl) (by omega)) ht hl hpx hc
    simp only [hkey, laneMask, h8, if_true, show ¬(4 : Nat) = 8 by decide, if_false] at h
    exact h
  · have h0 : ¬off.toNat % 8 = 0 := by omega
    have h := readToClear_key hr ho (accessOk_true (Or.inl rfl) (by omega)) ht hl hpx hc
    simp only [laneMask, if_neg h0, show ¬(4 : Nat) = 8 by decide, if_false] at h
    exact h
  · simp only [exec_smdPxdataAccess, execSmdPxdataAccess, hr, Bool.false_eq_true, if_false]
  · simp only [exec_smdPxdataAccess, execSmdPxdataAccess, hr, if_true, State.pxRead, hon, hdom, Bool.not_false, and_self]
  · simp only [exec_smdPxdataAccess, execSmdPxdataAccess, hr, if_true, s.pxRead_on hon hid]
  · have hgo : s.powered = true ∧ (who ≠ .host ∨ s.hostReach (dieKey d rSMD_PXDATA) = true) :=
      ⟨hp, (Decidable.em (who = .host)).elim (fun hw => Or.inr (hreach hw)) Or.inl⟩
    simp only [exec_smdPxdataAccess, execSmdPxdataAccess, if_pos hgo, State.pxWrite, Bool.not_eq_true']
  · have hstay : ¬(s.powered = true ∧ (who ≠ .host ∨ s.hostReach (dieKey d rSMD_PXDATA) = true)) := by
      rcases h with h | ⟨rfl, h⟩ <;> simp [h]
    simp only [exec_smdPxdataAccess, execSmdPxdataAccess, if_neg hstay]

/-! ## The control tree (spec/05 R184) -/

/-- An access of the control tree with power. -/
theorem smdPxdataAccess_spad {s : State} (hp : s.powered = true) (who : Initiator) (d : DieId) (a : BitVec 48) (x : Fin 4) (w : Option Word) :
    exec (.smdPxdataAccess who d (.spad a x w)) s = .next (s.treeAccess a.toNat (2 ^ x.val) w) := by
  simp only [exec_smdPxdataAccess, execSmdPxdataAccess, hp, if_true]

/-- An access that is misaligned, or of an address that is no scratchpad's, reads all ones and writes nothing. -/
theorem State.treeAccess_none (s : State) {a size : Nat} (h : a % size ≠ 0 ∨ ∀ n o, s.kindOf a ≠ .spad n o) (w : Option Word) :
    s.treeAccess a size w = if w.isNone then { s with rd := BitVec.allOnes 64 } else s := by
  unfold State.treeAccess
  cases hk : s.kindOf a
  case spad n o => exact if_pos (h.resolve_right fun hn => hn n o hk)
  all_goals rfl

/-- An aligned access of a scratchpad. -/
theorem State.treeAccess_spad (s : State) {a size n o : Nat} (hk : s.kindOf a = .spad n o) (hal : a % size = 0) (w : Option Word) :
    s.treeAccess a size w =
      if !s.spadPowered n o size then (if w.isNone then { s.coreStat n rSPAD_STATUS 3 with rd := BitVec.allOnes 64 } else s.coreStat n rSPAD_STATUS 3)
      else match w with
        | some v => if s.gathering n then s.gatherWrite n o (leBytes size v.toNat) else s.treeWrite n o (leBytes size v.toNat)
        | none => if s.gathering n then s.gatherRead n o size else s.treeRead n o size := by
  unfold State.treeAccess
  rw [hk]
  exact if_neg (not_not_intro hal)

/-- Accesses of the control tree to scratchpads. -/
theorem treeAccesses_reachScratchpads : Claims.TreeAccessesReachScratchpads := by
  intro who d a x s
  refine ⟨fun hp => ?_, fun hp => ⟨fun h => ?_, fun n o hk hal => ?_⟩⟩
  · simp only [exec_smdPxdataAccess, execSmdPxdataAccess, hp, Bool.false_eq_true, if_false, implies_true, and_self]
  · simp only [smdPxdataAccess_spad hp, s.treeAccess_none h]
    exact ⟨rfl, fun v => rfl⟩
  · simp only [smdPxdataAccess_spad hp, s.treeAccess_spad hk hal]
    refine ⟨fun hoff => ?_, fun hon hg => ?_, fun hon hg => ?_⟩
    · simp [hoff]
    · refine ⟨fun hb => ?_, fun i hb => ?_, fun v hb => ?_, fun v i hb => ?_⟩
      · simp [hon, hg, State.treeRead, hb]
      · simp [hon, hg, State.treeRead, hb]
      · simp [hon, hg, State.treeWrite, hb]
      · simp [hon, hg, State.treeWrite, hb]
    · simp [hon, hg]

/-- Settles O59. -/
theorem registerAccesses : Obligations.RegisterAccesses := by
  unfold Obligations.RegisterAccesses
  exact ⟨registerWrites_reach, registerBits_followTheirKind, registerReads_return, treeAccesses_reachScratchpads⟩

end Sys2Proof.Machine
end

section
/-! PROOFS. Operand blocks, and the matrix arrays: weight loads, streams, drain set-ups and activation rows (spec/02 R59 to R70, R81 to R93; spec/04
R135 to R138, R144). -/

namespace Sys2Proof.Machine

open Sys2Proof.Claims

/-! ## Instructions that take an operand block (R137) -/

/-- An attempt that begins with the 64 B block of its instruction, and goes on with k. -/
def fromBlock (n t : Nat) (f : InsnBits) (k : State → State → Bytes → Try) (s : State) : Try :=
  (s.block n t ((s.task n t).addrA f) 64).try_ s n t ((s.task n t).addrA f) (k s)

/-- WLOAD, STREAM, DSET, ROWOP, DMA and TPREF begin with their block. -/
theorem exec_fromBlock {i : Instr} {opc : Nat} {c : CoreId} {t : TaskSlot} {f : InsnBits} (h : insn i = some (opc, c, t, f))
    (hopc : opc = 0x40 ∨ opc = 0x41 ∨ opc = 0x42 ∨ opc = 0x50 ∨ opc = 0x58 ∨ opc = 0x5A) (s : State) :
    ∃ k, exec i s = .next (s.issue c t opc f (fun _ _ => fromBlock c t f k)) := by
  revert h
  fun_cases insn i <;> intro h
  -- The last case is every command that issues nothing.
  case case95 => cases h
  all_goals obtain ⟨rfl, rfl, rfl, rfl⟩ := h
  all_goals simp at hopc
  all_goals exact ⟨_, rfl⟩

/-- VOP and VTURN begin with their block once the vector unit takes them. -/
theorem exec_inVecOrder {i : Instr} {opc : Nat} {c : CoreId} {t : TaskSlot} {f : InsnBits} (h : insn i = some (opc, c, t, f))
    (hopc : opc = 0x51 ∨ opc = 0x52) (s : State) :
    ∃ k, exec i s = .next (s.issue c t opc f (fun _ _ => inVecOrder c t (fromBlock c t f k))) := by
  revert h
  fun_cases insn i <;> intro h
  -- The last case is every command that issues nothing.
  case case95 => cases h
  all_goals obtain ⟨rfl, rfl, rfl, rfl⟩ := h
  all_goals simp at hopc
  all_goals exact ⟨_, rfl⟩

section blocks
variable {s u v : State} {c : CoreId} {t : TaskSlot} {opc : Nat} {f : InsnBits}

/-- A block that lies outside the regions, or is not aligned, is none. -/
theorem State.block_access {addr : Word} {len : Nat} (h : addr.toNat % 64 ≠ 0 ∨ (u.core c).xlate t addr len false = .bad) :
    u.block c t addr len = .access := by
  unfold State.block
  split
  next => rfl
  next h0 => rw [State.taskRead, h.resolve_left (fun hn => h0 hn)]

/-- An attempt whose block is none ends its task. -/
theorem fromBlock_access (k : State → State → Bytes → Try) (hfresh : FreshEnd u c t)
    (h : ((u.task c t).addrA f).toNat % 64 ≠ 0 ∨ (u.core c).xlate t ((u.task c t).addrA f) 64 false = .bad) :
    fromBlock c t f k u = .stop (drainsWith u c t 0x03 ((u.task c t).addrA f)) := by
  rw [fromBlock, State.block_access h, Acc.try_, hfresh.endTask]

/-- The tasks that wait for the vector unit are those of before the issue. -/
@[simp] theorem State.waitsVec_atIssue (s : State) : ((s.atIssue c t opc f).core c).waitsVec = (s.core c).waitsVec := by
  funext i
  rw [State.core_atIssue]
  by_cases hi : i = t
  · subst hi
    simp only [Core.waitsVec, Core.task_setTask_same]
    rfl
  · simp only [Core.waitsVec, Core.task_setTask, if_neg hi]

/-- The order of the vector unit is that of before the issue. -/
@[simp] theorem State.vecBefore_atIssue (s : State) : ((s.atIssue c t opc f).core c).vecBefore t = (s.core c).vecBefore t := by
  rw [Core.vecBefore, State.waitsVec_atIssue, State.core_atIssue]
  rfl

/-- Issue leaves the image of its task. -/
@[simp] theorem State.img_atIssue (s : State) : ((s.atIssue c t opc f).task c t).img = (s.task c t).img := by
  rw [State.task_atIssue]

/-- Issue leaves the PC of its task. -/
@[simp] theorem State.pc_atIssue (s : State) : ((s.atIssue c t opc f).task c t).pc = (s.task c t).pc := by
  rw [State.task_atIssue]

/-- The line of the vector unit is that of before the issue. -/
@[simp] theorem State.vecWait_atIssue (s : State) : ((s.atIssue c t opc f).core c).vecWait = (s.core c).vecWait := by
  rw [State.core_atIssue]
  rfl

/-- An operation that the vector unit takes and that stops leaves its line. -/
theorem inVecOrder_stop {body : State → Try} (hline : (u.core c).vecBefore t = []) (hbody : body u = .stop v) :
    inVecOrder c t body u = .stop (leavesLine u c t v) := by
  simp only [inVecOrder, hline, hbody]
  rfl

end blocks

/-- Blocks outside the regions end the task. -/
theorem blocksOutside_endTheTask : Claims.BlocksOutsideEndTheTask := by
  intro i opc c t f s hinsn hfresh hopc hi addr hbad
  have haddr : ((s.atIssue c t opc f).task c t).addrA f = addr := by
    rw [State.addrA_atIssue, Task.addrA, fImm64_eq]
  have hstop (k : State → State → Bytes → Try) : fromBlock c t f k (s.atIssue c t opc f) = .stop (drainsWith (s.atIssue c t opc f) c t 0x03 addr) := by
    rw [fromBlock_access k (hfresh.atIssue opc f) (by rw [haddr, State.xlate_atIssue]; exact hbad), haddr]
  refine ⟨fun h1 h2 => ?_, fun hvec hline => ?_⟩
  · obtain ⟨k, hk⟩ := exec_fromBlock hinsn (by omega) s
    rw [hk, hi.issue, hstop]
    rfl
  · obtain ⟨k, hk⟩ := exec_inVecOrder hinsn hvec s
    rw [hk, hi.issue, inVecOrder_stop (by rw [State.vecBefore_atIssue, hline]) (hstop k)]
    simp only [State.finish_stop, leavesLine, State.vecWait_atIssue]

/-! ## WLOAD, STREAM and DSET -/

section issue
variable {s v : State} {c : CoreId} {t : TaskSlot} {f : InsnBits} {b : Bytes}

/-- An attempt that waits on no stage, of a task that did not wait. -/
theorem finish_waits {opc : Nat} (hw : (v.task c t).wait = none) (hns : v.ns = s.ns) :
    (s.atIssue c t opc f).finish c t opc f (.wait v 0 0 0 false) = waitsOn v c t opc f 0 0 0 false :=
  State.finish_wait _ _ _ _ _ _ _ _ _ _ hw (by rw [State.ns_atIssue, hns])

/-- A mask of arrays lies in the low four bits. -/
theorem allOf_mod (x : Nat) (p : Nat → Prop) : allOf (x % 16) p ↔ ∀ a ∈ arraysOf (x % 16), p a := by
  rw [allOf, Nat.mod_mod]

/-- None of a list has what q tests, where p says that it has not. -/
theorem any_false_iff {l : List Nat} {q : Nat → Bool} {p : Nat → Prop} (h : ∀ a, q a = false ↔ p a) : l.any q = false ↔ ∀ a ∈ l, p a := by
  simp [List.any_eq_false, ← h]

/-- Some of a list has what q tests, where not all have p. -/
theorem any_true_of {l : List Nat} {q : Nat → Bool} {p : Nat → Prop} (h : ∀ a, q a = false ↔ p a) (hn : ¬∀ a ∈ l, p a) : l.any q = true :=
  Bool.eq_true_of_not_eq_false fun hf => hn ((any_false_iff h).1 hf)

/-- An offset by the low half of a word. -/
theorem offsetBy_low (base : Nat) (w : Word) : offsetBy base w false = (base + w.toNat % 2 ^ 32) % 2 ^ 32 := by
  simp [offsetBy, field_low]

/-- An offset by the high half of a word. -/
theorem offsetBy_high (base : Nat) (w : Word) : offsetBy base w true = (base + w.toNat / 2 ^ 32) % 2 ^ 32 := by
  have := w.isLt
  simp only [offsetBy, if_true, field, fieldN, Nat.shiftRight_eq_div_pow]
  omega

/-- WLOAD begins the loads of its arrays. -/
theorem weightLoads_begin : Claims.WeightLoadsBegin := by
  intro c t f s v b hi hread
  dsimp only
  have hblock : (s.atIssue c t 0x40 f).block c t (((s.atIssue c t 0x40 f).task c t).addrA f) 64 = .ok v b := hread
  have hex : exec (.wload c t f) s = .next ((s.atIssue c t 0x40 f).finish c t 0x40 f (tryWload c t f (s.atIssue c t 0x40 f))) := by
    rw [exec_wload, execWload, hi.issue]
  simp only [hex, tryWload, hblock, Acc.try_, State.greg_atIssue, offsetBy_low, offsetBy_high, allOf_mod, State.img_atIssue, State.pc_atIssue]
  have hfree : ∀ a, (decide (((v.core c).array a).shadow ≠ .empty) || ((v.core c).array a).diag.isSome) = false ↔
      ((v.core c).array a).shadow = .empty ∧ ((v.core c).array a).diag = none := by simp
  refine ⟨fun hgood hall => ?_, fun hgood hnot hw hns => ?_, fun hbad => ?_⟩
  · rw [if_neg (not_not_intro hgood), (any_false_iff hfree).2 hall]
    rfl
  · rw [if_neg (not_not_intro hgood), any_true_of hfree hnot, if_pos rfl, finish_waits hw hns]
  · rw [if_pos hbad]
    rfl

/-- STREAM queues its stream. -/
theorem streams_queue : Claims.StreamsQueue := by
  intro c t f s v b hi hread
  dsimp only
  have hblock : (s.atIssue c t 0x41 f).block c t (((s.atIssue c t 0x41 f).task c t).addrA f) 64 = .ok v b := hread
  have hex : exec (.stream c t f) s = .next ((s.atIssue c t 0x41 f).finish c t 0x41 f (tryStream c t f (s.atIssue c t 0x41 f))) := by
    rw [exec_stream, execStream, hi.issue]
  simp only [hex, tryStream, hblock, Acc.try_, State.greg_atIssue, offsetBy_low, offsetBy_high, allOf_mod, State.img_atIssue, State.pc_atIssue]
  have hroom : ∀ a, decide (2 ≤ ((v.core c).arrayStreams a).length) = false ↔ ((v.core c).arrayStreams a).length < 2 := by simp
  have hqueue : (match (v.core c).queue (leAt b 18 1) with
      | some q => decide (q.owner = t) && decide (q.land = 1)
      | none => false) = true ↔ ∃ q, (v.core c).queue (leAt b 18 1) = some q ∧ q.owner = t ∧ q.land = 1 := by
    cases (v.core c).queue (leAt b 18 1) <;> simp
  refine ⟨fun ⟨h1, h2, h3, h4, h5, h6, h7, h8, h9⟩ hmask hall => ?_, fun ⟨h1, h2, h3, h4, h5, h6, h7, h8, h9⟩ hmask => ?_,
    fun ⟨h1, h2, h3, h4, h5, h6, h7, h8, h9⟩ hnot hw hns => ?_, fun hbad => ?_⟩
  · rw [if_neg, (any_false_iff hroom).2 hall, if_neg Bool.false_ne_true, if_neg hmask]
    · rfl
    · exact not_not_intro ⟨h1, h2, h3, h4, h5, h6, h7, fun h => (h8 h).imp_right hqueue.2, h9⟩
  · rw [if_neg, hmask]
    · rfl
    · exact not_not_intro ⟨h1, h2, h3, h4, h5, h6, h7, fun h => (h8 h).imp_right hqueue.2, h9⟩
  · rw [if_neg, any_true_of hroom hnot, if_pos rfl, finish_waits hw hns]
    exact not_not_intro ⟨h1, h2, h3, h4, h5, h6, h7, fun h => (h8 h).imp_right hqueue.2, h9⟩
  · rw [if_pos]
    · rfl
    · rintro ⟨h1, h2, h3, h4, h5, h6, h7, h8, h9⟩
      exact hbad ⟨h1, h2, h3, h4, h5, h6, h7, fun h => (h8 h).imp_right hqueue.1, h9⟩

/-- DSET sets its drains up. -/
theorem drains_areSetUp : Claims.DrainsAreSetUp := by
  intro c t f s v b hi hread
  dsimp only
  have hblock : (s.atIssue c t 0x42 f).block c t (((s.atIssue c t 0x42 f).task c t).addrA f) 64 = .ok v b := hread
  have hex : exec (.dset c t f) s = .next ((s.atIssue c t 0x42 f).finish c t 0x42 f (tryDset c t f (s.atIssue c t 0x42 f))) := by
    rw [exec_dset, execDset, hi.issue]
  simp only [hex, tryDset, hblock, Acc.try_, allOf_mod, State.img_atIssue]
  have hfree : ∀ d, (!(v.core c).drainFree d || !((v.core c).arrayStreams d).isEmpty) = false ↔
      (v.core c).drainFree d = true ∧ (v.core c).arrayStreams d = [] := by simp
  refine ⟨fun hgood hall => ?_, fun hgood hnot hw hns => ?_, fun hbad => ?_⟩
  · rw [if_neg (not_not_intro hgood), (any_false_iff hfree).2 hall]
    rfl
  · rw [if_neg (not_not_intro hgood), any_true_of hfree hnot, if_pos rfl, finish_waits hw hns]
  · rw [if_pos hbad, State.drainCfgBits, Nat.mod_mod, Nat.shiftLeft_eq]
    rfl

end issue

/-! ## Weight loads, streams and activation rows -/

/-- A load becomes a bank once its lines are read. -/
theorem weightLoads_complete : Claims.WeightLoadsComplete := by
  intro c a s
  refine ⟨fun r v w els scs hload hlive hels hscs => ?_, fun r hload hlive hheld => ?_, fun hnone => ?_⟩
  · simp only [exec_weightLoadReady, execWeightLoadReady, hload, hlive, hels, hscs, if_true]
  · simp only [exec_weightLoadReady, execWeightLoadReady, hload, hlive, hheld, if_true]
  · rw [exec_weightLoadReady, execWeightLoadReady]
    dsimp only
    split
    next r hload => exact absurd hload (hnone r)
    next => rfl

/-- The banks that a stream finds, where each of its arrays has one. -/
theorem banks_length {as : List Nat} {bank : Nat → Option Bank} (h : ∀ b ∈ as, ∃ w, bank b = some w) :
    (as.filterMap (fun b => (bank b).map (fun w => (b, w)))).length = as.length := by
  induction as with
  | nil => rfl
  | cons b as ih =>
    obtain ⟨w, hw⟩ := h b List.mem_cons_self
    simp [hw, ih fun x hx => h x (List.mem_cons_of_mem _ hx)]

/-- A bank that a stream finds is that of one of its arrays. -/
theorem mem_banks {as : List Nat} {bank : Nat → Option Bank} {y : Nat × Bank}
    (h : y ∈ as.filterMap (fun b => (bank b).map (fun w => (b, w)))) : y.1 ∈ as ∧ bank y.1 = some y.2 := by
  simp only [List.mem_filterMap, Option.map_eq_some_iff] at h
  obtain ⟨b, hb, w, hw, rfl⟩ := h
  exact ⟨hb, hw⟩

/-- STREAM_START starts the first stream of its arrays. -/
theorem streams_start : Claims.StreamsStart := by
  intro c a s x meadow
  dsimp only
  intro hhead hstarted hlive ha harrays hothers
  have hbank : ∀ b ∈ arraysOf x.mask, ∃ w, (s.core c).bankAfter b x.swap = some w := fun b hb => by
    obtain ⟨-, -, -, w, hw, -⟩ := harrays b hb
    exact ⟨w, hw⟩
  have hform : ∀ y ∈ (arraysOf x.mask).filterMap (fun b => ((s.core c).bankAfter b x.swap).map (fun w => (b, w))), y.2.meadow = meadow ∧
      pairOk x.fmt y.2.fmt = true ∧ (s.drainCfg c y.1).valid ((s.core c).drain y.1).set x.fmt y.2.fmt = true ∧
      reductionOk x meadow ((s.core c).drain y.1).red = true := fun y hy => by
    obtain ⟨hy1, hy2⟩ := mem_banks hy
    obtain ⟨-, -, -, w, hw, hprops⟩ := harrays y.1 hy1
    have hwy : w = y.2 := Option.some.inj (hw.symm.trans hy2)
    rw [← hwy]
    exact hprops
  have hready : x.swap = true → ∀ b ∈ arraysOf x.mask, ∃ w, ((s.core c).array b).shadow = .ready w := fun hswap b hb => by
    obtain ⟨w, hw⟩ := hbank b hb
    rw [Core.bankAfter, if_pos hswap] at hw
    cases hsh : ((s.core c).array b).shadow with
    | ready w' => exact ⟨w', rfl⟩
    | empty => rw [hsh] at hw; cases hw
    | loading r => rw [hsh] at hw; cases hw
  obtain ⟨y, hy⟩ : ∃ y, ((arraysOf x.mask).filterMap (fun b => ((s.core c).bankAfter b x.swap).map (fun w => (b, w)))).head? = some y := by
    cases hb : (arraysOf x.mask).filterMap (fun b => ((s.core c).bankAfter b x.swap).map (fun w => (b, w))) with
    | nil =>
      have hlen := banks_length hbank
      rw [hb, List.length_nil, eq_comm, List.length_eq_zero_iff] at hlen
      exact absurd (hlen ▸ ha) List.not_mem_nil
    | cons y ys => exact ⟨y, rfl⟩
  obtain ⟨ymead, -⟩ := hform y (List.mem_of_mem_head? (by rw [hy]; rfl))
  rw [exec_streamStart, execStreamStart]
  dsimp only
  rw [hhead]
  dsimp only
  rw [if_neg, if_neg, if_neg, if_neg, hy]
  · dsimp only
    rw [if_neg, if_neg, if_neg]
    · refine ⟨fun hfin => ?_, fun e v hfin hopen => ?_⟩
      · rw [hfin]
        rfl
      · rw [hfin, hopen]
        rfl
    · simp only [List.any_eq_true, Bool.not_eq_true', not_exists, not_and, Bool.or_eq_true]
      intro y' hy'
      obtain ⟨-, -, hval, hred⟩ := hform y' hy'
      simp [hval, ymead, hred]
    · simp only [List.any_eq_true, Bool.and_eq_true, not_exists, not_and]
      intro z hz hzs b hb
      split
      next w hw => simp [hothers z hz hzs b hb w hw, ymead]
      next => exact Bool.false_ne_true
    · rintro (hlt | hm | hp)
      · exact absurd hlt (Nat.not_lt.mpr (Nat.le_of_eq (banks_length hbank).symm))
      · obtain ⟨y', hy', hne⟩ := List.any_eq_true.1 hm
        simp [(hform y' hy').1, ymead] at hne
      · obtain ⟨y', hy', hne⟩ := List.any_eq_true.1 hp
        simp [(hform y' hy').2.1] at hne
  · rintro ⟨hswap, hany⟩
    obtain ⟨b, hb, hne⟩ := List.any_eq_true.1 hany
    obtain ⟨w, hw⟩ := hready hswap b hb
    simp [hw] at hne
  · rintro ⟨hswap, hany⟩
    obtain ⟨b, hb, hne⟩ := List.any_eq_true.1 hany
    obtain ⟨w, hw⟩ := hready hswap b hb
    simp [hw] at hne
  · intro hany
    obtain ⟨b, hb, hne⟩ := List.any_eq_true.1 hany
    simp [(harrays b hb).2.2.1] at hne
  · rintro (h | h | hany)
    · simp [hstarted] at h
    · simp [hlive] at h
    · obtain ⟨b, hb, hne⟩ := List.any_eq_true.1 hany
      simp [(harrays b hb).1, (harrays b hb).2.1] at hne

/-- ACTIVATION_ROW takes the rows that the source of the running stream supplies. -/
theorem activation_rows : Claims.ActivationRows := by
  intro c a ups s x
  dsimp only
  intro hhead hstarted hlive
  have hgo : ¬(!x.started ∨ !s.live c) := by simp [hstarted, hlive]
  rw [exec_activationRow, execActivationRow]
  dsimp only
  rw [hhead]
  dsimp only
  rw [if_neg hgo]
  refine ⟨fun v rs poison hgot => ?_, fun hgot => ?_⟩
  · rw [hgot]
    rfl
  · rw [hgot]

/-- Settles O11. -/
theorem arraysLoadAndStream : Obligations.ArraysLoadAndStream := by
  unfold Obligations.ArraysLoadAndStream
  exact ⟨blocksOutside_endTheTask, weightLoads_begin, streams_queue, drains_areSetUp, weightLoads_complete, streams_start, activation_rows⟩

end Sys2Proof.Machine
end

section
/-! PROOFS. Weight banks and their checksum columns (spec/01 R24, spec/02 R66 to R68, R81). -/

namespace Sys2Proof.Machine

open Sys2Proof.Claims

/-! ## Tables made of rows of values -/

/-- A table of rows, entry by entry. -/
theorem tabOf_eq (kf : Nat → Nat → Nat) (rows : List (Nat × List Nat)) :
    tabOf kf rows = (rows.flatMap (fun r => r.2.zipIdx.map (fun v => (r.1, v)))).foldl (fun m p => tset (fun _ => 0) m (kf p.1 p.2.2) p.2.1) [] := by
  simp only [tabOf, List.foldl_flatMap, List.foldl_map]

/-- What a table of rows holds at the key of one place, where no other place has that key. -/
theorem tget_tabOf (kf : Nat → Nat → Nat) (rows : List (Nat × List Nat)) {k v : Nat} (hex : ∃ r ∈ rows, ∃ p ∈ r.2.zipIdx, kf r.1 p.2 = k)
    (hall : ∀ r ∈ rows, ∀ p ∈ r.2.zipIdx, kf r.1 p.2 = k → p.1 = v) : tget (fun _ => 0) (tabOf kf rows) k = v := by
  rw [tabOf_eq]
  refine tget_foldl_tset_mem _ (fun p : Nat × Nat × Nat => kf p.1 p.2.2) (fun p => p.2.1) k v _ _ ?_ fun e he hk => ?_
  · obtain ⟨r, hr, p, hp, hk⟩ := hex
    exact ⟨(r.1, p), List.mem_flatMap.2 ⟨r, hr, List.mem_map_of_mem hp⟩, hk⟩
  · obtain ⟨r, hr, he⟩ := List.mem_flatMap.1 he
    obtain ⟨p, hp, rfl⟩ := List.mem_map.1 he
    exact hall r hr p hp hk

/-- A table of rows is canonical. -/
theorem twf_tabOf (kf : Nat → Nat → Nat) (rows : List (Nat × List Nat)) : twf (fun _ => 0) (tabOf kf rows) = true := by
  rw [tabOf_eq]
  exact twf_foldl_tset _ _ _ _ _ (twf_nil _)

/-- The rows of unpacked elements that a load reads. -/
def unpacked (els : List Bytes) (w per : Nat) : List (Nat × List Nat) :=
  els.zipIdx.map (fun b => (b.2, (List.range per).map (packedAt (ofLe b.1) w)))

/-- A row of unpacked elements by its index. -/
theorem mem_unpacked {els : List Bytes} {w per : Nat} {r : Nat × List Nat} :
    r ∈ unpacked els w per ↔ r.1 < els.length ∧ r.2 = (List.range per).map (packedAt (ofLe (els.getD r.1 [])) w) := by
  simp only [unpacked, List.mem_map, Prod.exists, List.mem_zipIdx_iff_getElem?, List.getElem?_eq_some_iff, List.getD_eq_getElem?_getD]
  constructor
  · rintro ⟨b, i, ⟨hi, hb⟩, rfl⟩
    simp [hi, hb]
  · rintro ⟨hi, hr⟩
    refine ⟨els[r.1], r.1, ⟨hi, rfl⟩, Prod.ext rfl ?_⟩
    rw [hr]
    simp [hi]

/-- An element of an unpacked row by its place. -/
theorem mem_zipIdx_row {per : Nat} {g : Nat → Nat} {p : Nat × Nat} : p ∈ ((List.range per).map g).zipIdx ↔ p.2 < per ∧ p.1 = g p.2 := by
  rw [show p = (p.1, p.2) from rfl, List.mem_zipIdx_iff_getElem?]
  by_cases h : p.2 < per <;> simp [h, eq_comm]

/-- The element at a place of a table of unpacked rows, where the keys of its places differ. -/
theorem tget_tabOf_unpacked {kf : Nat → Nat → Nat} {els : List Bytes} {w per i j : Nat} (hi : i < els.length) (hj : j < per)
    (hinj : ∀ i' j', i' < els.length → j' < per → kf i' j' = kf i j → i' = i ∧ j' = j) :
    tget (fun _ => 0) (tabOf kf (unpacked els w per)) (kf i j) = packedAt (ofLe (els.getD i [])) w j := by
  refine tget_tabOf kf _ ⟨(i, (List.range per).map (packedAt (ofLe (els.getD i [])) w)), mem_unpacked.2 ⟨hi, rfl⟩,
    (packedAt (ofLe (els.getD i [])) w j, j), mem_zipIdx_row.2 ⟨hj, rfl⟩, rfl⟩ fun r hr p hp hk => ?_
  obtain ⟨hlt, hrow⟩ := mem_unpacked.1 hr
  rw [hrow] at hp
  obtain ⟨hp, hval⟩ := mem_zipIdx_row.1 hp
  obtain ⟨h1, h2⟩ := hinj r.1 p.2 hlt hp hk
  rw [hval, h1, h2]

/-! ## Elements of a bank (R66 to R68) -/

/-- An array has at most 128 columns and at most 64 K positions. -/
theorem arrayCols_le (meadow : Bool) : arrayCols meadow ≤ 128 ∧ kDepth meadow ≤ 64 := by
  cases meadow <;> decide

/-- Weight banks hold the rows that were read. -/
theorem weightBanks_holdTheirRows : Claims.WeightBanksHoldTheirRows := by
  intro r els scs k j hk hj hlen
  obtain ⟨hcols, hdepth⟩ := arrayCols_le r.meadow
  cases htrans : r.trans with
  | true =>
    rw [htrans, if_pos rfl] at hlen
    have h := tget_tabOf_unpacked (kf := fun i j => bankKey j i) (els := els) (w := elemBits (fmtCode r.fmt)) (per := kDepth r.meadow) (i := j) (j := k)
      (by omega) hk (fun i' j' h1 h2 h3 => by simp only [bankKey] at h3; omega)
    simp only [LoadReq.bank, htrans, if_true]
    exact h
  | false =>
    rw [htrans, if_neg Bool.false_ne_true] at hlen
    have h := tget_tabOf_unpacked (kf := fun i j => bankKey i j) (els := els) (w := elemBits (fmtCode r.fmt)) (per := arrayCols r.meadow) (i := k) (j := j)
      (by omega) hj (fun i' j' h1 h2 h3 => by simp only [bankKey] at h3; omega)
    simp only [LoadReq.bank, htrans, Bool.false_eq_true, if_false]
    exact h

/-! ## Checksum weights (R81) -/

/-- A zero code is a zero element. -/
theorem units16_zero (code : Nat) (mx : Bool) : units16 (decodeElem code mx 0) = 0 := by
  unfold decodeElem ffmt
  split
  next f hf =>
    split at hf <;> cases hf <;> rfl
  next =>
    split <;> cases mx <;> rfl

/-- A sum over a range of a value that stands at one place only. -/
theorem sum_range_single (a b n : Nat) (x : Int) :
    ((List.range n).map (fun j => if b = a + j then x else 0)).sum = if a ≤ b ∧ b < a + n then x else 0 := by
  induction n with
  | zero => simp
  | succ n ih =>
    rw [List.range_succ, List.map_append, List.sum_append, ih]
    by_cases h1 : a ≤ b ∧ b < a + n
    · have h2 : b ≠ a + n := by omega
      have h3 : a ≤ b ∧ b < a + (n + 1) := by omega
      simp [h1, h2, h3]
    · by_cases h2 : b = a + n
      · subst h2
        simp
      · have h3 : ¬(a ≤ b ∧ b < a + (n + 1)) := by omega
        simp [h1, h2, h3]

/-- The values of a canonical table at the keys of a range, summed over its entries or over the range. -/
theorem sum_filter_range {g : Nat → Int} (hg : g 0 = 0) (a n : Nat) : ∀ (m : Tab Nat) (lo : Nat), twfFrom (fun _ => 0) lo m = true →
    ((m.filter (fun e => decide (a ≤ e.1 ∧ e.1 < a + n))).map (fun e => g e.2)).sum =
      ((List.range n).map (fun j => g (tget (fun _ => 0) m (a + j)))).sum
  | [], _, _ => by simp [tget, hg]
  | (b, x) :: m, lo, h => by
    simp only [twfFrom, Bool.and_eq_true, decide_eq_true_eq] at h
    obtain ⟨-, -, hm⟩ := h
    have hb : tget (fun _ => 0) m b = 0 := tget_of_lt_twfFrom _ m (b + 1) b hm (Nat.lt_succ_self b)
    have hsplit : ∀ j, g (tget (fun _ => 0) ((b, x) :: m) (a + j)) = (if b = a + j then g x else 0) + g (tget (fun _ => 0) m (a + j)) := fun j => by
      by_cases hj : b = a + j
      · rw [← hj]
        simp [tget, hb, hg]
      · simp [tget, hj]
    simp only [hsplit]
    rw [List.sum_map_add, sum_range_single, ← sum_filter_range hg a n m (b + 1) hm, List.filter_cons]
    by_cases hin : a ≤ b ∧ b < a + n <;> simp [hin]

/-- The checksum column as one table. -/
theorem checksOf_eq (meadow : Bool) (fmt : Nat) (elems : Tab Nat) :
    checksOf meadow fmt elems = ((List.range (if meadow then 32 else 64)).flatMap (fun k => (List.range (if meadow then 2 else 1)).map (fun c => (k, c)))).foldl
      (fun m q => tset (fun _ => zeroNum) m (checkKey q.1 q.2) (checkWeight (decide (fmtCode fmt = 6))
        ((elems.filter (fun e => decide (e.1 / 128 = q.1 ∧ e.1 % 128 / 64 = q.2))).map (fun e => decodeElem (fmtCode fmt) (fmtMx fmt) e.2)))) [] := by
  simp only [checksOf, List.foldl_flatMap, List.foldl_map]

/-- The checksum weight of a K position, of the columns of one half. -/
theorem tget_checksOf {meadow : Bool} {fmt : Nat} {elems : Tab Nat} {k h : Nat} (hk : k < kDepth meadow) (hh : h < (if meadow then 2 else 1)) :
    tget (fun _ => zeroNum) (checksOf meadow fmt elems) (k * 2 + h) = checkWeight (decide (fmtCode fmt = 6))
      ((elems.filter (fun e => decide (e.1 / 128 = k ∧ e.1 % 128 / 64 = h))).map (fun e => decodeElem (fmtCode fmt) (fmtMx fmt) e.2)) := by
  have hc : ∀ x, x < (if meadow then 2 else 1) → x < 2 := fun x hx => by cases meadow <;> simp at hx <;> omega
  rw [checksOf_eq]
  refine tget_foldl_tset_mem _ (fun q : Nat × Nat => checkKey q.1 q.2) _ _ _ _ _ ⟨(k, h), ?_, rfl⟩ fun q hq hkey => ?_
  · refine List.mem_flatMap.2 ⟨k, List.mem_range.2 ?_, List.mem_map.2 ⟨h, List.mem_range.2 hh, rfl⟩⟩
    cases meadow <;> exact hk
  · obtain ⟨k', -, hq⟩ := List.mem_flatMap.1 hq
    obtain ⟨c, hc', rfl⟩ := List.mem_map.1 hq
    have h1 := hc _ (List.mem_range.1 hc')
    have h2 := hc _ hh
    simp only [checkKey] at hkey
    obtain ⟨rfl, rfl⟩ : k' = k ∧ c = h := by omega
    rfl

/-- Checksum weights are the sums of their rows. -/
theorem checksumWeights_sumTheirRows : Claims.ChecksumWeightsSumTheirRows := by
  intro r els scs k h hfmt hk hh b
  have hh2 : h < 2 := by cases hm : r.meadow <;> simp [hm] at hh <;> omega
  have helems : twf (fun _ => 0) b.elems = true := twf_tabOf (fun i j => if r.trans then bankKey j i else bankKey i j)
    (unpacked els (elemBits (fmtCode r.fmt)) (if r.trans then kDepth r.meadow else arrayCols r.meadow))
  have hsum := sum_filter_range (g := fun v => units16 (decodeElem (fmtCode r.fmt) (fmtMx r.fmt) v)) (units16_zero _ _) (k * 128 + 64 * h) 64
    b.elems 0 helems
  have hfilter : (b.elems.filter fun e => decide (e.1 / 128 = k ∧ e.1 % 128 / 64 = h)) =
      b.elems.filter (fun e => decide (k * 128 + 64 * h ≤ e.1 ∧ e.1 < k * 128 + 64 * h + 64)) :=
    List.filter_congr fun e _ => decide_eq_decide.2 (by omega)
  have hchecks : b.checks = checksOf r.meadow r.fmt b.elems := rfl
  rw [hchecks, tget_checksOf hk hh, hfilter, checkWeight, if_neg (by simpa using hfmt), List.map_map, ← hsum]
  rfl

/-- Settles O12. -/
theorem weightBanksAreFilled : Obligations.WeightBanksAreFilled :=
  ⟨weightBanks_holdTheirRows, checksumWeights_sumTheirRows⟩

end Sys2Proof.Machine
end

section
/-! PROOFS. The drains: half-sums, rounding, tile checks, and the diagnostic, repair and set-up registers (spec/02 R71 to R93). -/

namespace Sys2Proof.Machine

open Sys2Proof.Claims

/-! ## Rows and check tiles (R82 to R84) -/

/-- The check tile that a row of a stream joins: the one that is open for the stream, or a new one. -/
def Drain.openTile (d : Drain) (x : Stream) (row : Nat) (meadow : Bool) : CheckTile :=
  match d.tile with
  | some t => if t.stream = x.id then t else .start x.id row x.sealEp meadow (decide (fmtCode x.fmt = 6))
  | none => .start x.id row x.sealEp meadow (decide (fmtCode x.fmt = 6))

/-- Rows of the stream that the open tile has. -/
theorem Drain.openTile_rows (d : Drain) (x : Stream) (row : Nat) (meadow : Bool) :
    (d.openTile x row meadow).rows = match d.tile with | some t => if t.stream = x.id then t.rows else 0 | none => 0 := by
  unfold Drain.openTile
  cases d.tile with
  | none => rfl
  | some t => by_cases h : t.stream = x.id <;> simp [h, CheckTile.start]

/-- A poisoned tile that has ended fails. -/
theorem CheckTile.fails_of_poison {t : CheckTile} (h : t.poison = true) : t.fails = true := by
  simp [CheckTile.fails, CheckTile.checkFails, h]

/-- The check tile of a stream with one row more, where the circuits are sound. -/
def Drain.joined (d : Drain) (x : Stream) (b : Bank) (g : Int) (a lane : Nat) (poison : Bool) (r : ActRow) : CheckTile :=
  let t := (d.openTile x (x.next + lane) b.meadow).addRow b [] a lane (r.values x.fmt) (halfSumsOf x.fmt g b r)
  { t with poison := t.poison || poison }

/-- What a drain makes of a row: its half-sums wait, and its tile goes on or ends. -/
theorem Drain.takeRow_eq (d : Drain) (x : Stream) (b : Bank) (g : Int) (ck a lane : Nat) (poison : Bool) (r : ActRow) :
    d.takeRow x b g ck a [] poison lane r =
      let row := x.next + lane
      let t := d.joined x b g a lane poison r
      let halfs := d.halfs ++ [⟨⟨x.id, row, x.task, x.pc, x.m0 + row, x.n0, b.meadow, x.sealEp⟩, x.final, halfSumsOf x.fmt g b r⟩]
      if ck ≤ t.rows ∨ x.rows ≤ row + 1 then
        { d with halfs := halfs, tile := none, tiles := d.tiles ++ [t.finish (checkRowSums t.bf16 b t.checkRow)] }
      else { d with halfs := halfs, tile := some t } := rfl

/-- A row reaches a drain. -/
theorem rows_reachDrains : Claims.RowsReachDrains := by
  intro dr x b g ck a lane poison r hck e row before
  have hrows : (dr.joined x b g a lane poison r).rows = before + 1 := congrArg (· + 1) (dr.openTile_rows x row b.meadow)
  have hfails : ∀ t : CheckTile, t.poison = (dr.joined x b g a lane poison r).poison → poison = true → t.fails = true :=
    fun t ht hp => CheckTile.fails_of_poison (by simp [ht, Drain.joined, hp])
  have he : e = _ := dr.takeRow_eq x b g ck a lane poison r
  dsimp only at he
  rw [hrows] at he
  refine ⟨?_, fun hend => ?_, fun hgo => ?_⟩
  · rw [he]
    split <;> rfl
  · rw [if_pos hend] at he
    rw [he]
    refine ⟨rfl, List.length_append, fun t ht => ?_⟩
    rw [List.getLast?_append_of_ne_nil _ (List.cons_ne_nil _ _), List.getLast?_singleton, Option.some.injEq] at ht
    subst ht
    exact ⟨hrows, hfails _ rfl⟩
  · rw [if_neg hgo] at he
    rw [he]
    exact ⟨rfl, _, rfl, hrows, hfails _ rfl⟩

/-! ## Half-sums, rounding and the results of tiles (R71, R72, R83 to R88) -/

/-- The oldest half-sums of a drain enter its windows. -/
theorem halfSums_enterWindows : Claims.HalfSumsEnterWindows := by
  intro c d skew s h hs
  dsimp only
  intro hhalfs hlive hroom
  have hopens : ¬((!s.live c) = true ∨ (!((s.core c).drain d).windows.any (fun w => decide (w.1 / 128 = h.id.row))) = true ∧
      windowsPerDrain < ((s.core c).drain d).inUse + arrayCols h.id.meadow) := by
    rintro (hl | ⟨hw, hlt⟩)
    · simp [hlive] at hl
    · rcases hroom with ⟨w, hmem, hrow⟩ | hle
      · rw [List.any_eq_true.2 ⟨w, hmem, by simpa using hrow⟩] at hw
        cases hw
      · exact absurd hlt (Nat.not_lt.mpr hle)
  rw [exec_halfSumAdd, execHalfSumAdd]
  dsimp only
  rw [hhalfs]
  dsimp only
  rw [if_neg hopens]
  exact ⟨fun hlim => congrArg _ (if_neg (by rw [hlim]; exact Bool.false_ne_true)), fun hlim => congrArg _ (if_pos hlim)⟩

/-- The oldest completed group of a drain is rounded. -/
theorem windows_round : Claims.WindowsRound := by
  intro c d skew s r rs hrounds hlive
  have hgo : ¬(!s.live c) = true := by simp [hlive]
  dsimp only
  rw [exec_windowRound, execWindowRound]
  dsimp only
  rw [hrounds]
  dsimp only
  rw [if_neg hgo]
  refine ⟨fun v hv hskew => ?_, fun v hv hskew => ?_, fun v hv => ?_, fun hv => ?_⟩
  · rw [State.roundCtx, hv]
    dsimp only
    rw [if_pos hskew]
  · rw [State.roundCtx, hv]
    dsimp only
    rw [if_neg hskew]
  · rw [State.roundCtx, hv]
    rfl
  · rw [State.roundCtx, hv]

/-- The result of the oldest tile that has ended. -/
theorem tile_checks : Claims.TileChecks := by
  intro c d s t ts
  dsimp only
  intro htiles hlive
  rw [exec_tileCheckResult, execTileCheckResult]
  dsimp only
  rw [htiles]
  dsimp only
  refine ⟨fun ⟨h, hmem, hholds⟩ => if_pos (Or.inr (List.any_eq_true.2 ⟨h, hmem, hholds⟩)), fun hnone => ?_⟩
  have hgo : ¬((!s.live c) = true ∨ ((s.core c).drain d).halfs.any (fun h => t.holds h.id) = true) := by
    rintro (hl | ha)
    · simp [hlive] at hl
    · obtain ⟨h, hmem, hholds⟩ := List.any_eq_true.1 ha
      rw [hnone h hmem] at hholds
      cases hholds
  have hcheck : t.checkFails = true ↔ t.rowsFail ≠ 0 ∨ t.colsFail ≠ [] ∨ t.poison = true := by
    simp [CheckTile.checkFails, or_assoc]
  have hfails : t.fails = true ↔ t.rowsFail ≠ 0 ∨ t.colsFail ≠ [] ∨ t.dupFail = true ∨ t.poison = true := by
    rw [CheckTile.fails, Bool.or_eq_true, hcheck]
    tauto
  rw [if_neg hgo]
  simp only [← hcheck, ← hfails]
  refine ⟨fun hf => if_neg hf, fun e hf he => ?_, fun hf he => ?_⟩
  · rw [if_pos hf, he]
    rfl
  · rw [if_pos hf, he]
    rfl

/-! ## Diagnostic passes, repair maps and set-up registers (R89 to R93) -/

/-- ARRAY and COLUMN of a write to ARR_DIAG. -/
theorem diag_fields (v : Word) : field v 2 1 = v.toNat / 2 % 4 ∧ field v 9 3 = v.toNat / 8 % 128 := by
  simp [field, fieldN, Nat.shiftRight_eq_div_pow]

/-- ARR_DIAG and the end of its passes. -/
theorem diagnostic_passes : Claims.DiagnosticPasses := by
  intro who c s
  dsimp only
  refine ⟨fun v hT => ?_, fun fail a col hdiag more hmore => ?_⟩
  · obtain ⟨harr, hcol⟩ := diag_fields v
    have hex (eff : State → State) (u : State) (h : eff s = u) :
        (.next (s.gate who (coreKey c rARR_DIAG) .w eff) : Host.Outcome State Fault Refusal) = .next u := by rw [hT.gate, h]
    rw [exec_diagPass, execDiagPass, ← harr, ← hcol]
    refine ⟨fun h0 => hex _ _ (if_pos (by simp [h0])), fun h0 hstr hsh hle => hex _ _ ((if_neg (by simp [h0])).trans (if_neg ?_)),
      fun h0 hbad => hex _ _ ((if_neg (by simp [h0])).trans (if_pos hbad))⟩
    rintro (h | h | h)
    · simp [hstr] at h
    · exact h hsh
    · exact absurd hle (Nat.not_le.mpr h)
  · have hany : ((List.range 4).any fun b => decide (b ≠ a.val) && ((s.core c).array b).diag.isSome) = more := by
      rw [Bool.eq_iff_iff, hmore, List.any_eq_true]
      simp only [List.mem_range, Bool.and_eq_true, decide_eq_true_eq, Option.isSome_iff_ne_none]
    rw [exec_diagDone, execDiagDone]
    dsimp only
    rw [hdiag]
    dsimp only
    rw [hany]
    cases fail <;> rfl

/-- ARR_REPAIR and the set-up registers of a drain. -/
theorem repairAndDrain_writes : Claims.RepairAndDrainWrites := by
  intro who c a v s
  dsimp only
  have hex (hT : Takes s who (coreKey c (rARR_REPAIRa + 8 * a)) .w) (u : State) (h : s.writeRepair c a v = u) :
      exec (.arrRepairWrite who c a v) s = .next u := by
    rw [exec_arrRepairWrite, execArrRepairWrite, hT.gate, h]
  have htaken : ((s.core c).streaming a = true ∨ (s.core c).loading a = true ∨ repairBad (v &&& 0xffffffff) = true) ↔
      ¬((s.core c).streaming a = false ∧ (s.core c).loading a = false ∧ repairBad (v &&& 0xffffffff) = false) := by
    simp only [not_and_or, Bool.not_eq_false]
  refine ⟨fun hT ht hmap => hex hT _ ((if_neg (htaken.not.2 (not_not_intro ht))).trans (if_neg (by rw [hmap]; exact Bool.false_ne_true))),
    fun hT ht hmap => hex hT _ ((if_neg (htaken.not.2 (not_not_intro ht))).trans (if_pos hmap)),
    fun hT ht => hex hT _ (if_pos (htaken.2 ht)), fun which hT => ?_⟩
  have hidle : (((s.core c).drain a).noWindow && !((s.core c).arrayStreams a).any (fun x => x.started)) = true ↔
      ((s.core c).drain a).noWindow = true ∧ ∀ x ∈ (s.core c).arrayStreams a, x.started = false := by simp
  rw [exec_drnCfgWrite, execDrnCfgWrite]
  exact ⟨fun h => congrArg _ ((hT.gate _).trans (if_pos (hidle.2 h))), fun h => congrArg _ ((hT.gate _).trans (if_neg (hidle.not.2 h)))⟩

/-- Settles O13. -/
theorem drainsRoundAndCheck : Obligations.DrainsRoundAndCheck := by
  unfold Obligations.DrainsRoundAndCheck
  exact ⟨rows_reachDrains, halfSums_enterWindows, windows_round, tile_checks, diagnostic_passes, repairAndDrain_writes⟩

end Sys2Proof.Machine
end

section
/-! PROOFS. The row engine and the vector unit: issue, completion and order (spec/03 R95 to R119, R126; spec/04 R135 to R138). -/

namespace Sys2Proof.Machine

open Sys2Proof.Claims

/-! ## The operation that X names -/

/-- X reads back as it was replaced. -/
theorem fX_withX (f : InsnBits) {x : Nat} (h : x < 32) : fX (withX f x) = x := by
  simp only [fX, withX, field, fieldN, BitVec.toNat_ofNat, Nat.shiftLeft_eq, Nat.shiftRight_eq_div_pow]
  omega

/-- A ROWOP issues the operation that its X names. -/
theorem exec_rowop {i : Instr} {c : CoreId} {t : TaskSlot} {f : InsnBits} (h : insn i = some (0x50, c, t, f)) (s : State) :
    exec i s = .next (s.issue c t 0x50 f (fun _ _ => tryRowop (fX f) c t f)) := by
  revert h
  fun_cases insn i <;> intro h
  -- The last case is every command that issues nothing.
  case case95 => cases h
  all_goals simp at h
  all_goals obtain ⟨rfl, rfl, rfl⟩ := h
  all_goals rw [fX_withX _ (by decide)]
  all_goals rfl

/-- A VOP issues the operation that its X names. -/
theorem exec_vop {i : Instr} {c : CoreId} {t : TaskSlot} {f : InsnBits} (h : insn i = some (0x51, c, t, f)) (s : State) :
    exec i s = .next (s.issue c t 0x51 f (fun _ _ => tryVop (fX f) c t f)) := by
  revert h
  fun_cases insn i <;> intro h
  -- The last case is every command that issues nothing.
  case case95 => cases h
  all_goals simp at h
  all_goals obtain ⟨rfl, rfl, rfl⟩ := h
  all_goals rw [fX_withX _ (by decide)]
  all_goals rfl

/-! ## The row engine (R98 to R112, R126) -/

/-- An operation as it is issued, with the free value that SOFTMAX_BWD draws. -/
theorem RowOp.issued_eq (t pc op : Nat) (b : Bytes) (v : State) :
    RowOp.issued ⟨t, pc, op, b, 0, 0, [], [], 0, 0⟩ v =
      (⟨t, pc, op, b, 0, 0, [], [], 0, if op = 9 then v.freeIdx else 0⟩, if op = 9 then { v with freeIdx := v.freeIdx + 1 } else v) := by
  by_cases h : op = 9 <;> simp [RowOp.issued, h]

/-- A ROWOP is checked and waits its turn. -/
theorem rowOperations_queue : Claims.RowOperationsQueue := by
  intro i c t f s v b hinsn hi hread hx o u
  have hblock : (s.atIssue c t 0x50 f).block c t (((s.atIssue c t 0x50 f).task c t).addrA f) 64 = .ok v b := hread
  have hex : exec i s = .next ((s.atIssue c t 0x50 f).finish c t 0x50 f (tryRowop (fX f) c t f (s.atIssue c t 0x50 f))) := by
    rw [exec_rowop hinsn, hi.issue]
  have hissued : RowOp.issued ⟨t, (s.task c t).pc, fX f, b, 0, 0, [], [], 0, 0⟩ v = (o, u) := RowOp.issued_eq _ _ _ _ _
  have hwait : (u.task c t).wait = (v.task c t).wait := by
    show (State.task (if fX f = 9 then _ else _) c t).wait = _
    split <;> rfl
  have hns : u.ns = v.ns := by
    show State.ns (if fX f = 9 then _ else _) = _
    split <;> rfl
  simp only [hex, tryRowop, hblock, Acc.try_, State.pc_atIssue, hissued]
  refine ⟨fun e w hok hstat hopen => ?_, fun hok => ?_, fun hok hstat => ?_, fun hok hstat hopen hw hv => ?_⟩
  · rw [hok, hstat, hopen]
    rfl
  · rw [hok]
    rfl
  · rw [hok, hstat]
    rfl
  · rw [hok, hstat, hopen]
    exact congrArg _ (finish_waits (hwait.trans hw) (hns.trans hv))

/-- The row engine completes a row. -/
theorem rows_complete : Claims.RowsComplete := by
  intro c s v w o ops r hops hlive hnext hwrites n done
  have hgo : ¬(!s.live c) = true := by simp [hlive]
  rw [exec_rowComplete, execRowComplete]
  simp only [hops, if_neg hgo, hnext, hwrites]
  refine ⟨fun hmore => ?_, fun x hlast hexport => ?_⟩
  · rw [if_neg (by omega)]
    rfl
  · rw [if_pos hlast, hexport]
    rfl

/-- The statistics window of a slot is written while the slot is empty. -/
theorem statisticsWindow_writes : Claims.StatisticsWindowWrites := by
  intro who c t v s hT
  rw [exec_rowStatwinWrite, execRowStatwinWrite]
  exact ⟨fun h => congrArg _ ((hT.gate _).trans (if_pos h)), fun h => congrArg _ ((hT.gate _).trans (if_neg h))⟩

/-- Settles O14. -/
theorem rowEngineCompletes : Obligations.RowEngineCompletes := by
  unfold Obligations.RowEngineCompletes
  exact ⟨rowOperations_queue, rows_complete, statisticsWindow_writes⟩

/-! ## The vector unit (R116 to R119, R135) -/

section vector
variable {s u v : State} {c : CoreId} {t : TaskSlot} {opc : Nat} {f : InsnBits}

/-- An operation that the vector unit takes and that is done leaves its line. -/
theorem inVecOrder_done {body : State → Try} (hline : (u.core c).vecBefore t = []) (hbody : body u = .done v) :
    inVecOrder c t body u = .done (leavesLine u c t v) := by
  simp only [inVecOrder, hline, hbody]
  rfl

/-- The line that an operation leaves at its issue is that of before. -/
theorem leavesLine_atIssue (v : State) : leavesLine (s.atIssue c t opc f) c t v = leavesLine s c t v := by
  simp only [leavesLine, State.vecWait_atIssue]

/-- An operation whose result can be written is done. -/
theorem State.vecOut_done {w y z : State} {addr : Word} {ws : List (Nat × Bytes)} {fl : Flags} {e : BitVec 32}
    (hopen : w.openWindow c t 5 = some (e, y)) (hwrites : y.unitWrites c t e ws = .ok z ()) :
    w.vecOut c t addr ws fl = .done ((z.vecFlags c fl).winFlags c (some e) fl) := by
  rw [State.vecOut, hopen]
  dsimp only
  rw [hwrites]
  rfl

end vector

/-- A VOP completes at its issue. -/
theorem vectorOperations_complete : Claims.VectorOperationsComplete := by
  intro i c t f s v b hinsn hi hline hread x k
  have hblock : (s.atIssue c t 0x51 f).block c t (((s.atIssue c t 0x51 f).task c t).addrA f) 64 = .ok v b := hread
  have hline' : ((s.atIssue c t 0x51 f).core c).vecBefore t = [] := by rw [State.vecBefore_atIssue, hline]
  have hex : exec i s = .next ((s.atIssue c t 0x51 f).finish c t 0x51 f (tryVop (fX f) c t f (s.atIssue c t 0x51 f))) := by
    rw [exec_vop hinsn, hi.issue]
  rw [hex, tryVop]
  refine ⟨?_, fun hok => ?_⟩
  · dsimp only
    intro w ins e y z hok hins hopen hwrites
    rw [inVecOrder_done hline', leavesLine_atIssue]
    · rfl
    · simp only [hblock, Acc.try_, State.greg_atIssue, State.preg_atIssue]
      rw [hok, hins]
      exact State.vecOut_done hopen hwrites
  · rw [inVecOrder_stop hline' (v := (v.orReg (coreKey c 0x3000) (2 ^ 9)).endTask c t 0x06 0), leavesLine_atIssue]
    · rfl
    · simp only [hblock, Acc.try_, State.greg_atIssue, State.preg_atIssue]
      rw [hok]
      rfl

/-- An operation issued while another waits for the unit waits behind it. -/
theorem vectorOperations_keepTheirOrder : Claims.VectorOperationsKeepTheirOrder := by
  intro i opc c t f s hinsn hopc hi hw hline
  obtain ⟨k, hk⟩ := exec_inVecOrder hinsn hopc s
  have hself : (s.core c).waitsVec t = false := by
    have hw' : ((s.core c).task t).wait = none := hw
    simp [Core.waitsVec, hw']
  have hbefore : ((s.core c).vecBefore t).isEmpty = false := by
    obtain ⟨u, hu, hne, hwaits⟩ := hline
    have hmem : u ∈ (s.core c).vecBefore t := by
      simp only [Core.vecBefore, hself, Bool.false_eq_true, if_false, List.mem_filter, decide_eq_true_eq]
      exact ⟨⟨hu, hne⟩, hwaits⟩
    rw [List.isEmpty_eq_false_iff]
    exact List.ne_nil_of_mem hmem
  have htry : inVecOrder c t (fromBlock c t f k) (s.atIssue c t opc f) = .wait ((s.atIssue c t opc f).modCore c
      (fun k => { k with vecWait := k.vecWait.filter (fun x => decide (x ≠ t.val)) ++ [t.val] })) 0 0 0 false := by
    simp only [inVecOrder, State.vecBefore_atIssue, State.waitsVec_atIssue, hbefore, hself]
    rfl
  have htask : (((s.atIssue c t opc f).modCore c (fun k => { k with vecWait := k.vecWait.filter (fun x => decide (x ≠ t.val)) ++ [t.val] })).task c t).wait =
      none := by
    rw [← hw, ← State.wait_atIssue s c t opc f]
    simp only [State.task, State.modCore, State.core_setCore_same]
    rfl
  rw [hk, hi.issue, htry, finish_waits htask (State.ns_atIssue s c t opc f)]
  rfl

/-- Values of the element-wise operations. -/
theorem vectorElement_values : Claims.VectorElementValues := by
  intro b sel x y z val
  refine ⟨rfl, rfl, rfl, rfl, fun hx hy => ⟨?_, ?_⟩, fun h => ⟨?_, ?_⟩, rfl, rfl, rfl, rfl⟩
  · simp [val, Vec.elem, vmin, hx, hy]
  · simp [val, Vec.elem, vmax, hx, hy]
  · rcases h with h | h <;> simp [val, Vec.elem, vmin, h]
  · rcases h with h | h <;> simp [val, Vec.elem, vmax, h]

/-- The turned rows: row j holds element j of every row. -/
theorem Vec.turned_eq (v : Vec) (rows : List (List Num)) :
    v.turned rows =
      let outs := (List.range v.aux).map (fun j => (j, v.out.row (v.m0 + j) v.n0 (rows.map (fun r => (r.getD j zeroNum, false)))))
      (outs.flatMap (fun o => rowWrites v.outAddr v.aux o.1 v.outFmt v.count o.2.1 o.2.2.1), flagsOf (outs.map (fun o => o.2.2.2))) := by
  simp only [Vec.turned, exactly, List.flatMap_map, List.map_map]
  rfl

/-- VTURN completes at its issue. -/
theorem turningCopy_completes : Claims.TurningCopyCompletes := by
  intro c t f s v w b rows fl e y z hi hline hread
  dsimp only
  intro hok hrows hopen hwrites
  have hblock : (s.atIssue c t 0x52 f).block c t (((s.atIssue c t 0x52 f).task c t).addrA f) 64 = .ok v b := hread
  have hline' : ((s.atIssue c t 0x52 f).core c).vecBefore t = [] := by rw [State.vecBefore_atIssue, hline]
  rw [exec_vturn, execVturn, hi.issue, tryVturn, inVecOrder_done hline', leavesLine_atIssue]
  · rfl
  · simp only [hblock, Acc.try_]
    rw [hok, hrows]
    simp only [Acc.tryAsync, Vec.turned_eq]
    exact State.vecOut_done hopen hwrites

/-- Settles O16. -/
theorem vectorUnitCompletes : Obligations.VectorUnitCompletes := by
  unfold Obligations.VectorUnitCompletes
  exact ⟨vectorOperations_complete, vectorOperations_keepTheirOrder, vectorElement_values, turningCopy_completes⟩

end Sys2Proof.Machine
end

section
/-! PROOFS. DMA transfers, their requests at a scratchpad, fences, posy reads and timeouts (spec/08 R257 to R269, spec/05 R178, spec/07 R249). -/

namespace Sys2Proof.Machine

open Sys2Proof.Claims

/-! ## Issue of a DMA (R264, R266, R268) -/

/-- The lowest of the 16 DMA slots that is free. -/
theorem find_free_slot {ds : List Dma} {i : Nat} (hi : i < 16) (hfree : ¬∃ d ∈ ds, d.slot = i) (hlow : ∀ j < i, ∃ d ∈ ds, d.slot = j) :
    (List.range 16).find? (fun i => !ds.any (fun d => decide (d.slot = i))) = some i := by
  rw [List.find?_range_eq_some]
  refine ⟨by simpa using hfree, List.mem_range.2 hi, fun j hj => by simpa using hlow j hj⟩

/-- All DMA slots are busy. -/
theorem find_no_slot {ds : List Dma} (hbusy : ∀ j < 16, ∃ d ∈ ds, d.slot = j) :
    (List.range 16).find? (fun i => !ds.any (fun d => decide (d.slot = i))) = none := by
  rw [List.find?_eq_none]
  intro j hj
  simpa using hbusy j (List.mem_range.1 hj)

/-- DMA takes a slot. -/
theorem dma_issues : Claims.DmaIssues := by
  intro c t f s v b hi hread
  dsimp only
  have hblock : (s.atIssue c t 0x58 f).block c t (((s.atIssue c t 0x58 f).task c t).addrA f) 64 = .ok v b := hread
  have hex : exec (.dma c t f) s = .next ((s.atIssue c t 0x58 f).finish c t 0x58 f (tryDma c t f (s.atIssue c t 0x58 f))) := by
    rw [exec_dma, execDma, hi.issue]
  simp only [hex, tryDma, hblock, Acc.try_]
  refine ⟨fun i hok hlt hfree hlow => ?_, fun hok hbusy hw hns => ?_, fun hok => ?_⟩
  · rw [hok, find_free_slot hlt hfree hlow]
    rfl
  · rw [hok, find_no_slot hbusy]
    exact congrArg _ (finish_waits hw hns)
  · rw [hok]
    rfl

/-- DMAWAIT waits for the DMAs that it names. -/
theorem dma_waits : Claims.DmaWaits := by
  intro c t f s hi hw awaited u
  have hdmas : ((s.atIssue c t 0x59 f).core c).dmas = (s.core c).dmas := by
    rw [State.core_atIssue]
    rfl
  have hany : ((s.core c).dmas.any fun d => decide (d.task = t) && (fI f || decide (dmaTag d.slot d.gen = ((s.task c t).greg (fA f)).toNat))) = true ↔
      ∃ d ∈ (s.core c).dmas, awaited d := by
    simp only [List.any_eq_true, Bool.and_eq_true, Bool.or_eq_true, decide_eq_true_eq]
    rfl
  have hex : exec (.dmawait c t f) s = .next ((s.atIssue c t 0x59 f).finish c t 0x59 f (tryDmawait c t f (s.atIssue c t 0x59 f))) := by
    rw [exec_dmawait, execDmawait, hi.issue]
  simp only [hex, tryDmawait, State.greg_atIssue, hdmas]
  refine ⟨fun hnone => ?_, fun hsome => ?_⟩
  · rw [if_neg (hany.not.2 fun ⟨d, hd, ha⟩ => hnone d hd ha)]
    rfl
  · rw [if_pos (hany.2 hsome)]
    exact congrArg _ (finish_waits (by rw [State.wait_atIssue, hw]) (State.ns_atIssue s c t 0x59 f))

/-- The oldest DMA with bytes left sends the read of its next packet. -/
theorem dmaPackets_issue : Claims.DmaPacketsIssue := by
  intro c s d hlive hfind hout
  have hgo : ¬((!s.live c) = true ∨ 64 ≤ (s.core c).pktsOut) := by
    rintro (h | h)
    · simp [hlive] at h
    · exact absurd h (Nat.not_le.mpr hout)
  rw [exec_dmaPacketIssue, execDmaPacketIssue]
  dsimp only
  rw [hfind]
  exact if_neg hgo

/-! ## Responses (R268, R269) -/

/-- The writes of a DMA leave in the order of its packets. -/
theorem writes_leaveInAddressOrder : Claims.WritesLeaveInAddressOrder := by
  intro ps
  induction ps with
  | nil => rfl
  | cons p ps ih =>
    cases hout : p.out with
    | true => simp [nextWrites, hout, ih]
    | false => cases hdata : p.data <;> simp [nextWrites, hout, hdata, ih]

/-- Responses to the packets of a DMA. -/
theorem dma_responses : Claims.DmaResponses := by
  intro p n s hdst
  have hhere : s.here p = true → ¬(!s.here p) = true := fun h => by simp [h]
  have hlive : s.live n = true → ¬(!s.live n) = true := fun h => by simp [h]
  rw [exec_dmaResponse, execDmaResponse]
  simp only [hdst]
  refine ⟨fun h => if_pos (by simp [h]), fun h hl => (if_neg (hhere h)).trans (if_pos (by simp [hl])), fun h hl => ?_⟩
  rw [if_neg (hhere h), if_neg (hlive hl)]
  refine ⟨fun hnone => ?_, fun d x hsome => ?_⟩
  · rw [hnone]
    rfl
  · rw [hsome]
    dsimp only
    have hfail : ∀ st, p.status = st → st ≠ .ok → p.status ≠ .ok := fun st he hn => he ▸ hn
    refine ⟨fun hok htype => ?_, fun hok htype => ⟨fun hleft => ?_, fun hleft => ?_⟩, fun hst => ?_, fun hst => ?_, fun hst => ?_⟩
    · rw [if_neg (not_not_intro hok), htype]
      rfl
    · rw [if_neg (not_not_intro hok), htype]
      exact congrArg _ (if_pos ⟨List.isEmpty_iff.2 hleft.1, hleft.2⟩)
    · rw [if_neg (not_not_intro hok), htype]
      exact congrArg _ (if_neg fun hd => hleft ⟨List.isEmpty_iff.1 hd.1, hd.2⟩)
    · rw [if_pos (hfail _ hst (by decide)), hst]
      rfl
    · rw [if_pos (hfail _ hst (by decide)), hst]
      rfl
    · rw [if_pos (hfail _ hst (by decide)), hst]
      rfl

/-! ## Requests at a scratchpad (R178, R184, R255, R269) -/

/-- DMA requests that have landed. -/
theorem dmaRequests_areServed : Claims.DmaRequestsAreServed := by
  refine ⟨fun p q s hdst htype hhere => ?_, fun p n s hdst hhere htype => ?_⟩
  · simp only [exec_dmaRequestArrive, execDmaRequestArrive, hdst, hhere, htype, and_self, if_true]
  · have hgo : ¬((!s.here p) = true ∨ (p.type ≠ .dmaRead ∧ p.type ≠ .dmaWrite)) := by
      rintro (h | ⟨h1, h2⟩)
      · simp [hhere] at h
      · exact htype.elim h1 h2
    have hl : s.live n = true → ¬(!s.live n) = true := fun h => by simp [h]
    rw [exec_dmaRequestArrive, execDmaRequestArrive]
    simp only [hdst]
    rw [if_neg hgo]
    refine ⟨fun hdead => if_pos (by simp [hdead]), fun hlive hnone => ?_, fun ps hlive hps => ?_⟩
    · rw [if_neg (hl hlive), hnone]
    · rw [if_neg (hl hlive), hps]
      dsimp only
      refine ⟨fun ⟨q, hq, hoff⟩ => if_pos (List.any_eq_true.2 ⟨q, hq, by simp [hoff]⟩), fun hon => ?_⟩
      have hany : ¬(ps.any fun q => !s.spadPowered n q.1 q.2) = true := by
        rw [List.any_eq_true]
        rintro ⟨q, hq, h⟩
        simp [hon q hq] at h
      rw [if_neg hany]
      refine ⟨fun hw => ⟨fun hb => ?_, fun o hb => ?_⟩, fun hr hplan => ⟨fun hb => ?_, fun o hb => ?_⟩⟩
      · rw [if_pos hw, State.serveSpadWrite, hb]
      · rw [if_pos hw, State.serveSpadWrite, hb]
      · rw [if_neg (by rw [hr]; decide), hplan]
        simp only [State.serveSpadRead, hb]
      · rw [if_neg (by rw [hr]; decide), hplan]
        simp only [State.serveSpadRead, hb]

/-- Settles O17. -/
theorem dmaTransfersRun : Obligations.DmaTransfersRun := by
  unfold Obligations.DmaTransfersRun
  exact ⟨dma_issues, dma_waits, dmaPackets_issue, dma_responses, writes_leaveInAddressOrder, dmaRequests_areServed⟩

/-! ## Fences, posy reads and timeouts (R262, R264, R249) -/

/-- A held FENCE packet waits while something that it waits for is not answered. -/
theorem State.fenceReady_iff (s : State) (n : Nat) (h : FenceHold) :
    s.fenceReady n h = true ↔ ¬((∃ i ∈ h.waits, i ∈ s.awaits n h.pkt.dst) ∨ (∃ i ∈ h.seals, i ∈ s.sealAwaits n h.pkt.dst)) := by
  simp only [State.fenceReady, Bool.and_eq_true, Bool.not_eq_true', not_or, List.any_eq_false, List.contains_iff_mem, not_exists, not_and]

/-- FENCE packets are released in turn, and posy records are written. -/
theorem fencesAndPosies : Claims.FencesAndPosies := by
  intro c s
  refine ⟨⟨fun hs h hs' hfenced hwait hready => ?_, fun hwait => ?_⟩, fun a recs hposy => ?_⟩
  · have hnone : ∀ x ∈ hs, s.fenceReady c x = false := fun x hx =>
      Bool.eq_false_iff.2 fun hr => (s.fenceReady_iff c x).1 hr (hwait x hx)
    have hr : s.fenceReady c h = true := (s.fenceReady_iff c h).2 hready
    have hfind : (s.core c).fenced.find? (fun h => s.fenceReady c h) = some h := by
      rw [hfenced, List.find?_append, List.find?_eq_none.2 (fun x hx => by simp [hnone x hx]), List.find?_cons_of_pos hr]
      rfl
    have hmem : h ∉ hs := fun hm => by
      rw [hnone h hm] at hr
      cases hr
    rw [exec_fenceRelease, execFenceRelease]
    simp only [hfind]
    rw [hfenced, List.erase_append_right _ hmem, List.erase_cons_head]
    rfl
  · have hfind : (s.core c).fenced.find? (fun h => s.fenceReady c h) = none :=
      List.find?_eq_none.2 fun x hx hr => (s.fenceReady_iff c x).1 hr (hwait x hx)
    simp only [exec_fenceRelease, execFenceRelease, hfind]
  · rw [exec_posyDone, execPosyDone]
    simp only [hposy, Nat.reduceMul]
    refine ⟨fun v hv => ?_, fun v hv => ?_⟩
    · rw [hv]
      rfl
    · rw [hv]
      exact ⟨fun hok => if_pos hok, fun hok => if_neg fun h => Bool.false_ne_true (hok.symm.trans h)⟩

/-- Operations that time out on the mesh end with their tasks. -/
theorem mesh_timeouts : Claims.MeshTimeouts := by
  intro c s
  dsimp only
  have hlow : s.regField (coreKey c rMESH_TMO) 31 0 = (s.reg (coreKey c rMESH_TMO)).toNat % 2 ^ 32 := by
    simp [State.regField, field_low]
  have hhigh : s.regField (coreKey c rMESH_TMO) 63 32 = (s.reg (coreKey c rMESH_TMO)).toNat / 2 ^ 32 := by
    have := (s.reg (coreKey c rMESH_TMO)).isLt
    simp only [State.regField, field, fieldN, Nat.shiftRight_eq_div_pow]
    omega
  refine ⟨fun tag d hfind => ?_, fun t chan r hfind => ?_⟩
  · have hfind' : (s.core c).dmas.find? (fun d => decide (dmaTag d.slot d.gen = tag.toNat)) = some d := hfind
    simp only [exec_meshTimeout, execMeshTimeout, hfind', State.dmaDue, usAfter, hlow]
    exact ⟨fun h => if_neg (Nat.not_le.mpr h), fun h => if_pos h⟩
  · simp only [exec_meshTimeout, execMeshTimeout, hfind, usAfter, hhigh]
    exact ⟨fun h => if_neg (Nat.not_le.mpr h), fun h => if_pos h⟩

/-- Settles O18. -/
theorem fencesAndTimeoutsEnd : Obligations.FencesAndTimeoutsEnd := by
  unfold Obligations.FencesAndTimeoutsEnd
  exact ⟨fencesAndPosies, mesh_timeouts⟩

end Sys2Proof.Machine
end

section
/-! PROOFS. Barriers: BAR at the tap, the rounds of a group, and its registers (spec/08 R271 to R275). -/

namespace Sys2Proof.Machine

open Sys2Proof.Claims

/-! ## BAR -/

/-- A change of a core that leaves its tasks leaves what a task waits for. -/
theorem State.wait_setCore_of_tasks (s : State) (n t : Nat) {k : Core} (h : k.tasks = (s.core n).tasks) :
    ((s.setCore n k).task n t).wait = (s.task n t).wait := by
  simp only [State.task, State.core_setCore_same, Core.task, h]

/-- BAR by what the tap holds. -/
theorem barriers_join : Claims.BarriersJoin := by
  intro c t f s hi hw
  dsimp only
  have hex : exec (.bar c t f) s = .next ((s.atIssue c t 0x70 f).finish c t 0x70 f (tryBar c t f 0 (s.atIssue c t 0x70 f))) := by
    rw [exec_bar, execBar, hi.issue]
  have htap : ((s.atIssue c t 0x70 f).core c).tap = (s.core c).tap := by
    rw [State.core_atIssue]
    rfl
  have hwait : ((s.atIssue c t 0x70 f).task c t).wait = none := by rw [State.wait_atIssue, hw]
  simp only [hex, tryBar, htap, State.greg_atIssue]
  refine ⟨fun h => ?_, fun x h hne => ?_, fun x v h he hv => ?_, fun x h he hv => ?_⟩
  · rw [h]
    dsimp only
    rw [State.finish_wait]
    · rfl
    · rw [State.wait_setCore_of_tasks]
      · exact hwait
      · rfl
    · rfl
  · rw [h]
    simp only [if_neg hne]
    exact congrArg _ (State.finish_wait _ _ _ _ _ _ _ _ _ _ hwait rfl)
  · rw [h]
    simp only [if_pos he, hv]
    rfl
  · rw [h]
    simp only [if_pos he, hv]
    exact congrArg _ (State.finish_wait _ _ _ _ _ _ _ _ _ _ hwait rfl)

/-! ## Rounds of a group (R273, R274) -/

/-- What becomes of a group with at least one join. -/
theorem State.gathered_of_join (s : State) (g : Nat) (b : Beacon) (j : Nat × Word) :
    s.gathered g { b with joined := b.joined ++ [j] } =
      { b with joined := b.joined ++ [j], phase := if s.members g ≤ b.joined.length + 1 then .releasing else .gathering } := by
  unfold State.gathered
  rw [if_neg (by simp), List.length_append]
  split <;> simp_all

/-- The next round of a group, with the joins that were held. -/
theorem State.gathered_next (s : State) (g r : Nat) (l : List (Nat × Word)) :
    s.gathered g ⟨.idle, r, l, []⟩ =
      { joined := l, held := [], round := r, phase := if l = [] then .idle else if s.members g ≤ l.length then .releasing else .gathering } := by
  unfold State.gathered
  cases l with
  | nil => rfl
  | cons j l =>
    simp only [List.isEmpty_cons, Bool.false_eq_true, if_false, reduceCtorEq]
    split <;> rfl

/-- Rounds of a group. -/
theorem beacon_rounds : Claims.BeaconRounds := by
  intro g s
  dsimp only
  refine ⟨fun c x htap hg hj hphase => ?_, fun hphase => ?_, fun hphase => ?_, fun who v hT hv hphase => ?_⟩
  · have hgo : ¬(x.group ≠ g.val ∨ x.joined = true ∨ (s.beacon g).phase = .fault) := by simp [hg, hj, hphase]
    rw [exec_beaconJoin, execBeaconJoin]
    simp only [htap]
    rw [if_neg hgo]
    have hbad : ((!s.isMember g c) = true ∨ (!bitOf (s.gcfg g) 0) = true ∨ (x.op ≠ s.groupOp g ∧ x.op ≠ 0) ∨
        ((s.beacon g).phase ≠ .releasing ∧ ((s.beacon g).joined.any fun j => decide (j.1 = c.val)) = true)) ↔
        ¬(s.isMember g c = true ∧ bitOf (s.gcfg g) 0 = true ∧ (x.op = s.groupOp g ∨ x.op = 0) ∧
          ((s.beacon g).phase = .releasing ∨ ∀ j ∈ (s.beacon g).joined, j.1 ≠ c.val)) := by
      simp only [Bool.not_eq_true', not_and_or, not_or, Bool.not_eq_true, List.any_eq_true, decide_eq_true_eq, not_forall, not_not, exists_prop, ne_eq]
    refine ⟨fun hf hr => (if_neg (hbad.not.2 (not_not_intro hf))).trans (if_pos hr), fun hf hr => (if_neg (hbad.not.2 (not_not_intro hf))).trans ((if_neg hr).trans ?_),
      fun hf => (if_pos (hbad.2 hf)).trans ?_⟩
    · rw [State.gathered_of_join]
      rfl
    · rw [State.setCore_setCore]
      rfl
  · rw [exec_beaconRelease, execBeaconRelease]
    dsimp only
    rw [if_neg (not_not_intro hphase), State.gathered_next]
  · exact if_neg hphase
  · exact next_gateReg hT (if_pos ⟨hv, hphase⟩)

/-- The registers of a group. -/
theorem beaconGroup_writes : Claims.BeaconGroupWrites := by
  intro who g which v s
  dsimp only
  intro hT
  exact ⟨fun h => next_gateReg hT (if_pos h), fun h => next_gateReg hT (if_neg h)⟩

/-- Settles O19. -/
theorem barriersRun : Obligations.BarriersRun := by
  unfold Obligations.BarriersRun
  exact ⟨barriers_join, beacon_rounds, beaconGroup_writes⟩

end Sys2Proof.Machine
end

section
/-! PROOFS. Messages: sends, their results, acceptance and refusals (spec/07 R216 to R242, R249). -/

namespace Sys2Proof.Machine

open Sys2Proof.Claims

/-! ## A send once its messages are known (R225, spec/12 R399) -/

section send
variable {s : State} {n t chan opc : Nat} {dst : Option Nat} {multi : Bool} {ms : List OutMsg}

/-- A channel has a send in flight where some send is on it. -/
theorem Task.sending_iff (k : Task) (chan : Nat) : k.sending chan = true ↔ ∃ r ∈ k.sends, r.chan = chan := by
  simp [Task.sending]

/-- A channel is free where no send is on it. -/
theorem Task.sending_false {k : Task} {chan : Nat} (h : ∀ r ∈ k.sends, r.chan ≠ chan) : k.sending chan = false := by
  simpa [Task.sending] using h

/-- A send that depends on nothing OPEN, on a free channel, posts its messages. -/
theorem State.trySend_post (hdeps : (s.task n t).deps = []) (hfree : ∀ r ∈ (s.task n t).sends, r.chan ≠ chan) :
    s.trySend n t chan opc dst multi ms = .done (s.post n t chan opc dst multi none ms) := by
  simp [State.trySend, hdeps, Task.sending_false hfree]

/-- A send waits for its channel. -/
theorem State.trySend_channel (hdeps : (s.task n t).deps = []) (hbusy : ∃ r ∈ (s.task n t).sends, r.chan = chan) :
    s.trySend n t chan opc dst multi ms = .wait s 1 0 0 false := by
  simp [State.trySend, hdeps, (Task.sending_iff _ chan).2 hbusy]

/-- A send waits for what its task depends on. -/
theorem State.trySend_deps (hdeps : (s.task n t).deps ≠ []) : s.trySend n t chan opc dst multi ms = .wait s 1 0 0 true := by
  simp [State.trySend, hdeps]

/-- A message whose packet leaves. -/
theorem State.post_packet {m : OutMsg} (h : s.localResult n t chan m = none) :
    s.post n t chan opc dst multi none [m] = (s.request n (s.msgPacket n t chan m) (s.msgDue n)).modTask n t (fun k => { k with
      sends := k.sends ++ [⟨none, chan, (s.task n t).nextSeq chan, dst, multi, opc, s.ns, [⟨m.idx, tgCore m.target, m.sheaf.getD (tgQueue m.target), none⟩],
        (s.task n t).pc⟩]
      pending := match dst with
        | some d => k.pending ++ [d]
        | none => k.pending }) := by
  simp only [State.post, State.postAll, h]
  rfl

/-- A message that is answered at the sender. -/
theorem State.post_answered {m : OutMsg} {w : Word} (h : s.localResult n t chan m = some w) :
    let r : SendRec := ⟨none, chan, (s.task n t).nextSeq chan, dst, multi, opc, s.ns, [⟨m.idx, tgCore m.target, m.sheaf.getD (tgQueue m.target), some w⟩],
      (s.task n t).pc⟩
    s.post n t chan opc dst multi none [m] = (s.modTask n t (fun k => { k with
      sends := k.sends ++ [r]
      pending := match dst with
        | some d => k.pending ++ [d]
        | none => k.pending })).sendDone n t r := by
  simp only [State.post, State.postAll, h]
  rfl

end send

/-- The last word of a task has no part in NEXT of its channels. -/
theorem Task.nextSeq_lastWord (k : Task) (w : Word) (chan : Nat) : ({ k with lastWord := w } : Task).nextSeq chan = k.nextSeq chan := rfl

section issued
variable (s : State) (c : CoreId) (t : TaskSlot) (opc : Nat) (f : InsnBits)

/-- Issue leaves what a task depends on. -/
@[simp] theorem State.deps_atIssue : ((s.atIssue c t opc f).task c t).deps = (s.task c t).deps := by
  rw [State.task_atIssue]

/-- Issue leaves the sends of a task. -/
@[simp] theorem State.sends_atIssue : ((s.atIssue c t opc f).task c t).sends = (s.task c t).sends := by
  rw [State.task_atIssue]

/-- Issue leaves NEXT of every channel. -/
@[simp] theorem State.nextSeq_atIssue (chan : Nat) : ((s.atIssue c t opc f).task c t).nextSeq chan = (s.task c t).nextSeq chan := by
  rw [State.task_atIssue, Task.nextSeq_lastWord]

/-- Issue leaves the cores that are present. -/
@[simp] theorem State.present_atIssue (n : Nat) : (s.atIssue c t opc f).present n = s.present n := by
  obtain ⟨r, h⟩ := State.atIssue_eq s c t opc f
  rw [h]
  rfl

end issued

/-- What SEND comes to at the sender. -/
theorem send_localResult (s : State) (n t chan x : Nat) (w : Word) (data : Bytes) :
    s.localResult n t chan ⟨0, w, .word, x, tgLane w, none, data, false⟩ =
      if targetOk w = false then some (localNack 7 ((s.task n t).nextSeq chan))
      else if tgRemote w = false ∧ s.present (tgCore w) = false then some (localNack 5 ((s.task n t).nextSeq chan)) else none := by
  simp [State.localResult]

/-- SEND by its target and its channel. -/
theorem sends_leave : Claims.SendsLeave := by
  intro c t f s hi hw
  dsimp only
  have hchan : (((s.task c t).greg (fA f)).toNat / 2 ^ 18 % 16) = tgChan ((s.task c t).greg (fA f)) := by
    simp [tgChan, field, fieldN, Nat.shiftRight_eq_div_pow]
  rw [hchan]
  have hex : exec (.send c t f) s = .next ((s.atIssue c t 0x60 f).finish c t 0x60 f (trySENDw c t f (s.atIssue c t 0x60 f))) := by
    rw [exec_send, execSend, hi.issue]
  have hwait : ((s.atIssue c t 0x60 f).task c t).wait = none := by rw [State.wait_atIssue, hw]
  simp only [hex, trySENDw, State.greg_atIssue]
  refine ⟨fun hd hf hok hto => ?_, fun hd hf hbad => ?_, fun hd hf hok hl hp => ?_, fun hd hb => ?_, fun hd => ?_⟩
  · have hnone : ¬(tgRemote ((s.task c t).greg (fA f)) = false ∧ s.present (tgCore ((s.task c t).greg (fA f))) = false) := by
      rintro ⟨h1, h2⟩
      rcases hto with h | h
      · rw [h1] at h
        cases h
      · rw [h2] at h
        cases h
    rw [State.trySend_post (by simpa using hd) (by simpa using hf), State.post_packet]
    · simp only [State.nextSeq_atIssue, State.pc_atIssue, State.ns_atIssue]
      rfl
    · rw [send_localResult, if_neg (by simp [hok]), State.present_atIssue, if_neg hnone]
  · rw [State.trySend_post (by simpa using hd) (by simpa using hf), State.post_answered (w := localNack 7 ((s.task c t).nextSeq _))]
    · simp only [State.nextSeq_atIssue, State.pc_atIssue, State.ns_atIssue]
      rfl
    · rw [send_localResult, if_pos hbad, State.nextSeq_atIssue]
  · rw [State.trySend_post (by simpa using hd) (by simpa using hf), State.post_answered (w := localNack 5 ((s.task c t).nextSeq _))]
    · simp only [State.nextSeq_atIssue, State.pc_atIssue, State.ns_atIssue]
      rfl
    · rw [send_localResult, if_neg (by simp [hok]), State.present_atIssue, if_pos ⟨hl, hp⟩, State.nextSeq_atIssue]
  · rw [State.trySend_channel (by simpa using hd) (by simpa using hb), State.finish_wait _ _ _ _ _ _ _ _ _ _ hwait rfl]
  · rw [State.trySend_deps (by simpa using hd), State.finish_wait _ _ _ _ _ _ _ _ _ _ hwait rfl]

/-- The other sends post what their operands say. -/
theorem otherSends_post : Claims.OtherSendsPost := by
  intro c t f s hdeps
  dsimp only
  have hd (opc : Nat) : ((s.atIssue c t opc f).task c t).deps = [] := by rw [State.deps_atIssue, hdeps]
  have hs (opc chan : Nat) (h : ∀ r ∈ (s.task c t).sends, r.chan ≠ chan) : ∀ r ∈ ((s.atIssue c t opc f).task c t).sends, r.chan ≠ chan := by
    rwa [State.sends_atIssue]
  refine ⟨fun x b hi hfree hal hread hx hf => ?_, ?_, fun hi hfree hx => ?_, fun hi hfree hx => ?_, fun x b hi hx hread hd' hf => ?_, fun hi hfree => ?_⟩
  · rw [← fImm64_eq] at hal hread
    simp only [exec_sendd, execSendd, hi.issue, trySENDd, State.greg_atIssue, State.areg_atIssue]
    rw [if_neg (not_not_intro hal), hread]
    simp only [Acc.try_]
    rw [State.trySend_post hx hf]
    rfl
  · intro x y head list hi hal hread h1 h64 hlist hd' hf
    rw [← fImm64_eq] at hal hread hlist
    have hcnt : ¬(leAt head 0 1 = 0 ∨ 64 < leAt head 0 1) := by omega
    simp only [exec_msend, execMsend, hi.issue, tryMSEND, State.greg_atIssue, State.areg_atIssue, Task.addrA]
    rw [if_neg (not_not_intro hal), hread]
    simp only [Acc.try_]
    rw [if_neg hcnt, hlist]
    simp only []
    rw [State.trySend_post hd' hf]
    rfl
  · simp only [exec_shfadd, execShfadd, hi.issue, tryShfadd, State.greg_atIssue, hx]
    rw [State.trySend_post (hd 0x68) (hs 0x68 _ hfree)]
    rfl
  · simp only [exec_shfadd, execShfadd, hi.issue, tryShfadd, State.greg_atIssue, hx]
    rw [State.trySend_post (hd 0x68) (hs 0x68 _ hfree), field_low]
    rfl
  · simp only [exec_shfadd, execShfadd, hi.issue, tryShfadd, State.greg_atIssue, hx, hread, Acc.try_]
    rw [State.trySend_post hd' hf]
    rfl
  · have hidx : (s.atIssue c t 0x69 f).freeIdx = s.freeIdx := by
      obtain ⟨r, h⟩ := State.atIssue_eq s c t 0x69 f
      rw [h]
    simp only [exec_shfend, execShfend, hi.issue, tryShfend, State.greg_atIssue, State.fresh, hidx]
    rw [State.trySend_post (s := { s.atIssue c t 0x69 f with freeIdx := s.freeIdx + 1 }) (hd 0x69) (hs 0x69 _ hfree), field_low]
    rfl

/-! ## Results (R224, R227) -/

/-- A reply that has landed ends or goes on with its send. -/
theorem send_results : Claims.SendResults := by
  intro p m n s hmsg hdst
  have hhere : s.here p = true → ¬(!s.here p) = true := fun h => by simp [h]
  rw [exec_sendResult, execSendResult]
  simp only [hmsg, hdst]
  refine ⟨fun h => if_pos (by simp [h]), fun h hl => (if_neg (hhere h)).trans (congrArg _ (if_neg (by simp [hl]))), fun h hl => ?_⟩
  rw [if_neg (hhere h), if_pos hl]
  have htask : ((s.take p).modCore n (fun c => c.settle p.tag)).task n m.key.slot.toNat = s.task n m.key.slot.toNat := by
    simp only [State.task, State.modCore, State.core_setCore_same]
    rfl
  simp only [State.coreReply, htask]
  refine ⟨fun hnone => ?_, fun r hsome => ⟨fun hst => ?_, fun hst => ?_, fun hst hres => ?_, fun hst hres => ?_⟩⟩
  · rw [hnone]
    rfl
  · rw [hsome]
    dsimp only
    rw [if_pos hst]
  · rw [hsome]
    dsimp only
    rw [if_neg (by rw [hst]; decide), if_pos hst]
  · rw [hsome]
    dsimp only
    rw [if_neg (by rw [hst]; decide), if_neg (by rw [hst]; decide), if_pos]
    · rfl
    · simpa [List.any_eq_false, Option.ne_none_iff_isSome] using hres
  · rw [hsome]
    dsimp only
    have hany : ¬(!r.targets.any (fun x => decide (msgTag m.key.slot.toNat m.key.chan.toNat x.idx m.seq = p.tag) && x.result.isNone)) = true := by
      obtain ⟨x, hx, hmine, hr⟩ := hres
      simp only [Bool.not_eq_true', Bool.not_eq_false, List.any_eq_true]
      exact ⟨x, hx, by simp [hmine, hr]⟩
    rw [if_neg (by rw [hst]; decide), if_neg (by rw [hst]; decide), if_neg hany]
    refine ⟨fun hall => congrArg _ (if_pos ?_), fun hsome' => congrArg _ (if_neg ?_)⟩
    · rw [List.all_eq_true]
      exact fun x hx => Option.ne_none_iff_isSome.1 (hall x hx)
    · rw [List.all_eq_true]
      obtain ⟨x, hx, hr⟩ := hsome'
      exact fun hall => Option.ne_none_iff_isSome.2 (hall x hx) hr

/-! ## Acceptance (R222 to R231) -/

section accept
variable {p : Packet} {m : MsgHeader} {n : CoreId} {s : State}

/-- A malformed message is refused before its queue is looked at. -/
theorem messageAcceptance_malformed (hdst : p.dst = .core n) (hmsg : p.msg = some m) (hhere : s.here p = true) (hsheaf : m.sheaf = false)
    (hbad : wellMade m p.data.length 0 = false) :
    exec (.messageAcceptance p) s = .next ((s.take p).answerMsg n p m
      ⟨2, 7, 0, none, (((s.core n).queue m.dstQ.toNat).map (fun x => x.entries.length)).getD 0⟩) := by
  rw [exec_messageAcceptance, execMessageAcceptance]
  simp only [hdst, hmsg, hhere, hsheaf, Bool.not_true, Bool.false_eq_true, if_false, hbad, Bool.not_false, if_true]

/-- A message to a queue that is not configured. -/
theorem messageAcceptance_noQueue (hdst : p.dst = .core n) (hmsg : p.msg = some m) (hhere : s.here p = true) (hsheaf : m.sheaf = false)
    (hmade : wellMade m p.data.length 0 = true) (hq : (s.core n).queue m.dstQ.toNat = none) :
    exec (.messageAcceptance p) s = .next ((s.take p).answerMsg n p m (if s.live n then ⟨2, 5, 0, none, 0⟩ else ⟨2, 4, 15, none, 0⟩)) := by
  rw [exec_messageAcceptance, execMessageAcceptance]
  simp only [hdst, hmsg, hhere, hsheaf, Bool.not_true, Bool.false_eq_true, if_false, hmade, hq, Option.map_none]
  cases s.live n <;> rfl

/-- A message to a configured queue of a core that does not accept for it. -/
theorem messageAcceptance_fenced {x : RQueue} (hdst : p.dst = .core n) (hmsg : p.msg = some m) (hhere : s.here p = true) (hsheaf : m.sheaf = false)
    (hmade : wellMade m p.data.length 0 = true) (hq : (s.core n).queue m.dstQ.toNat = some x)
    (hf : s.live n = false ∨ (s.task n x.owner).phase = .suspended) :
    exec (.messageAcceptance p) s = .next ((s.take p).answerMsg n p m ⟨2, 4, 15, none, x.entries.length⟩) := by
  have hf' : (!s.live n) = true ∨ (s.task n x.owner).phase = .suspended := hf.imp_left (by simp)
  rw [exec_messageAcceptance, execMessageAcceptance]
  simp only [hdst, hmsg, hhere, hsheaf, Bool.not_true, Bool.false_eq_true, if_false, hmade, hq, Option.map_some, if_pos hf', Option.getD_some]

/-- A message to a configured queue of a live core whose reader is not suspended. -/
theorem messageAcceptance_queue {x : RQueue} (hdst : p.dst = .core n) (hmsg : p.msg = some m) (hhere : s.here p = true) (hsheaf : m.sheaf = false)
    (hmade : wellMade m p.data.length 0 = true) (hq : (s.core n).queue m.dstQ.toNat = some x) (hlive : s.live n = true)
    (hsusp : (s.task n x.owner).phase ≠ .suspended) {d : Decision} {u : State}
    (hd : s.acceptQueue n m.dstQ.toNat x m p.data p.span = (d, u)) :
    exec (.messageAcceptance p) s = .next ((u.take p).answerMsg n p m d) := by
  rw [exec_messageAcceptance, execMessageAcceptance]
  simp only [hdst, hmsg, hhere, hsheaf, Bool.not_true, Bool.false_eq_true, if_false, hmade, hq, Option.map_some, hlive, hsusp, or_self, hd]

end accept

/-- A target refuses a remote sender, or its window does. -/
def deniesRemote (span : Option Bool) (remoteOk : Bool) : Prop := span.isSome = true ∧ (remoteOk = false ∨ span = some false)

section checks
variable {m : MsgHeader} {span : Option Bool} {phase : Phase} {remoteOk fits anygenOk : Bool} {gen : BitVec 8} {table : List (SenderKey × BitVec 16)}
  {size : Nat}

/-- A reader that is LOADING or DRAINING takes no message. -/
theorem commonChecks_closed (h : phase = .loading ∨ phase = .draining) :
    commonChecks m span phase remoteOk fits anygenOk gen table size = some (2, 2) := by
  simp [commonChecks, readerChecks, h]

/-- A remote sender that the target or its window refuses. -/
theorem commonChecks_remote (hl : phase ≠ .loading) (hd : phase ≠ .draining) (hr : deniesRemote span remoteOk) :
    commonChecks m span phase remoteOk fits anygenOk gen table size = some (2, 6) := by
  obtain ⟨h1, h2⟩ := hr
  simp [commonChecks, readerChecks, hl, hd, h1, h2]

/-- The checks after those of the reader. -/
theorem commonChecks_late (hl : phase ≠ .loading) (hd : phase ≠ .draining) (hr : ¬deniesRemote span remoteOk) :
    commonChecks m span phase remoteOk fits anygenOk gen table size =
      if fits = false then some (2, 7)
      else if m.anygen = true ∧ anygenOk = false then some (2, 6)
      else if m.anygen = false ∧ m.gen ≠ gen then some (2, 3)
      else if isDup table m = true then some (1, 0)
      else if tableFull table m size = true then some (2, 6) else none := by
  have hreader : readerChecks span phase remoteOk = none := by
    rw [readerChecks, if_neg (by simp [hl, hd]), if_neg (by simpa [deniesRemote] using hr)]
  simp only [commonChecks, hreader, Bool.not_eq_true']

end checks

/-- A message that a check refuses leaves the state as it is. -/
theorem State.acceptQueue_refused {s : State} {n q : Nat} {x : RQueue} {m : MsgHeader} {b : Bytes} {span : Option Bool} {o k : Nat}
    (h : commonChecks m span (s.task n x.owner).phase x.remoteOk (decide (m.type = if x.desc then .desc else .word)) x.anygenOk ((s.core n).genOf q) x.table
      x.senders = some (o, k)) : s.acceptQueue n q x m b span = (⟨o, k, 0, none, x.entries.length⟩, s) := by
  simp only [State.acceptQueue, h]

/-- Generation and ANYGEN agree with the queue. -/
theorem generation_passes {m : MsgHeader} {anygenOk : Bool} {gen : BitVec 8} (h : if m.anygen then anygenOk = true else m.gen = gen) :
    ¬(m.anygen = true ∧ anygenOk = false) ∧ ¬(m.anygen = false ∧ m.gen ≠ gen) := by
  cases hm : m.anygen <;> simp_all

/-- A message that passes every check joins its queue, or is refused FULL. -/
theorem messages_areAccepted : Claims.MessagesAreAccepted := by
  intro p m n x s hdst hmsg hhere hlive hsheaf
  dsimp only
  intro hq hsusp hload hdrain hmade hspan htype hgen hdup hfull
  have hremote : ¬deniesRemote p.span x.remoteOk := by
    rintro ⟨h1, h2⟩
    rcases hspan with h | ⟨h, hr⟩ <;> simp_all
  obtain ⟨hg1, hg2⟩ := generation_passes hgen
  have hchecks : commonChecks m p.span (s.task n x.owner).phase x.remoteOk (decide (m.type = if x.desc then .desc else .word)) x.anygenOk
      ((s.core n).genOf m.dstQ.toNat) x.table x.senders = none := by
    rw [commonChecks_late hload hdrain hremote, if_neg (by simp [htype]), if_neg hg1, if_neg hg2, if_neg (by simp [hdup]), if_neg (by simp [hfull])]
  refine ⟨fun hadm => messageAcceptance_queue hdst hmsg hhere hsheaf hmade hq hlive hsusp ?_, fun hadm => messageAcceptance_queue hdst hmsg hhere hsheaf hmade hq hlive hsusp ?_⟩
  · simp only [State.acceptQueue, hchecks, hadm, if_true]
  · simp only [State.acceptQueue, hchecks, hadm, Bool.false_eq_true, if_false]

/-- Settles O22: the first check that applies decides. -/
theorem messagesAreRefusedInOrder : Obligations.MessagesAreRefusedInOrder := by
  intro p m n s hdst hmsg hhere hsheaf
  dsimp only
  refine ⟨messageAcceptance_malformed hdst hmsg hhere hsheaf, fun hmade => ⟨fun hq hl => ?_, fun hq hl => ?_, fun x hq => ⟨fun hf => ?_, fun hlive hsusp => ?_⟩⟩⟩
  · rw [messageAcceptance_noQueue hdst hmsg hhere hsheaf hmade hq, hl]
    rfl
  · rw [messageAcceptance_noQueue hdst hmsg hhere hsheaf hmade hq, hl]
    rfl
  · rw [messageAcceptance_fenced hdst hmsg hhere hsheaf hmade hq hf, hq]
    rfl
  · rw [hq]
    have hrefuse {o k : Nat} (h : commonChecks m p.span (s.task n x.owner).phase x.remoteOk (decide (m.type = if x.desc then .desc else .word)) x.anygenOk
        ((s.core n).genOf m.dstQ.toNat) x.table x.senders = some (o, k)) :
        exec (.messageAcceptance p) s = .next ((s.take p).answerMsg n p m ⟨o, k, 0, none, x.entries.length⟩) :=
      messageAcceptance_queue hdst hmsg hhere hsheaf hmade hq hlive hsusp (State.acceptQueue_refused h)
    refine ⟨fun h => hrefuse (commonChecks_closed h), fun hload hdrain => ⟨fun hr => hrefuse (commonChecks_remote hload hdrain hr), fun hr hfit => hrefuse ?_,
      fun hr hfit hany hok => hrefuse ?_, fun hr hfit hany hgen => hrefuse ?_, fun hr hfit hgen hdup => hrefuse ?_, fun hr hfit hgen hdup hfull => hrefuse ?_⟩⟩
    · rw [commonChecks_late hload hdrain hr, if_pos (by simpa using hfit)]
    · rw [commonChecks_late hload hdrain hr, if_neg (by simpa using hfit), if_pos ⟨hany, hok⟩]
    · rw [commonChecks_late hload hdrain hr, if_neg (by simpa using hfit), if_neg (by simp [hany]), if_pos ⟨hany, hgen⟩]
    · obtain ⟨hg1, hg2⟩ := generation_passes hgen
      rw [commonChecks_late hload hdrain hr, if_neg (by simpa using hfit), if_neg hg1, if_neg hg2, if_pos hdup]
    · obtain ⟨hg1, hg2⟩ := generation_passes hgen
      rw [commonChecks_late hload hdrain hr, if_neg (by simpa using hfit), if_neg hg1, if_neg hg2, if_neg (by simp [hdup]), if_pos hfull]

/-! ## Posy reads, and the sends of units (R241, R242, R249) -/

/-- A register write leaves the cores and where they stand. -/
theorem State.regWrite_parts (s : State) (key : Nat) (v : Word) (n : Nat) :
    (s.regWrite key v).core n = s.core n ∧ (s.regWrite key v).slotFor n = s.slotFor n := by
  obtain ⟨r, h⟩ := State.regWrite_regs s key v
  rw [h]
  exact ⟨rfl, rfl⟩

/-- The address that a write of QUE_POSY names. -/
theorem field_posyAddress (v : Word) : field v 47 6 = v.toNat / 64 % 2 ^ 42 := by
  simp [field, fieldN, Nat.shiftRight_eq_div_pow]

/-- What POSY_READ does where its write reaches the register. -/
theorem exec_posyRead_takes {s : State} {who : Initiator} {c : CoreId} {v : Word} (h : Claims.Takes s who (coreKey c rQUE_POSY) .f)
    (hgo : bitOf v 63 = true) :
    exec (.posyRead who c v) s = .next (if (s.core c).posy.isSome then s else
      let u := s.regWrite (coreKey c rQUE_POSY) v
      if !(u.slotFor c).on then (u.setReg (coreKey c rQUE_POSY) (setBit (setBit (u.reg (coreKey c rQUE_POSY)) 63 false) 62 true)).coreStat c rQUE_STATUS 4
      else (u.setReg (coreKey c rQUE_POSY) (setBit (u.reg (coreKey c rQUE_POSY)) 62 false)).modCore c (fun k =>
        { k with posy := some (field v 47 6 * 64, k.posyRecords) })) := by
  rw [exec_posyRead, execPosyRead]
  dsimp only
  rw [h.gate, if_neg (by simp [hgo])]

/-- A message leaves its unit where nothing is in its way and its back-off is as the send asks. -/
theorem State.unitPost_posts {s : State} {c : CoreId} {n : SendUnit} {m : UnitMsg} {ms : List UnitMsg} {again : Bool}
    (hout : (s.core c).outbox n = m :: ms) (hfly : m.flying = false) (hlive : s.live c = true) (hseal : s.windowSealed c m.epoch = true)
    (howed : (s.core c).msgOwed n m = false) (hchan : (s.task c m.task).sending (tgChan m.target) = false)
    (hagain : m.backoff.isSome = again) (htime : m.backoff.getD 0 ≤ s.ns) :
    s.unitPost c n again = (s.modCore c (fun k => k.markFlying n)).post c m.task (tgChan m.target)
      (match n with | .drain _ => 0x41 | .rowEngine => 0x50) none false (some n)
      [⟨0, m.target, m.type, if decide (m.type = .word) then m.payload.length / 8 - 1 else 0, if decide (m.type = .word) then tgLane m.target else m.lane,
        if decide (m.type = .word) then none else some (tgQueue m.target % 8), m.payload, false⟩] := by
  simp only [State.unitPost, hout]
  rw [if_neg]
  · cases n <;> simp only [decide_eq_true_eq]
  · simp [hfly, hlive, hseal, howed, hchan, hagain, htime]

/-- A message whose back-off runs stays. -/
theorem State.unitPost_backoff {s : State} {c : CoreId} {n : SendUnit} {m : UnitMsg} {ms : List UnitMsg} {again : Bool}
    (hout : (s.core c).outbox n = m :: ms) (htime : s.ns < m.backoff.getD 0) : s.unitPost c n again = s := by
  simp only [State.unitPost, hout]
  rw [if_pos (by simp [htime])]

/-- POSY_READ, UNIT_SEND and UNIT_RESEND. -/
theorem posyReads_and_unitSends : Claims.PosyReadsAndUnitSends := by
  intro c s
  refine ⟨fun who v hgo => ?_, fun n m ms hout hfly hlive hseal howed hchan => ?_⟩
  · dsimp only
    intro ht
    obtain ⟨hcore, hslot⟩ := State.regWrite_parts s (coreKey c rQUE_POSY) v c
    rw [exec_posyRead_takes ht hgo, ← field_posyAddress]
    dsimp only
    rw [hslot]
    refine ⟨fun hnone hon => ?_, fun hnone hoff => ?_, fun y hy => ?_⟩
    · rw [hnone, if_neg (by simp), if_neg (by simp [hon])]
    · rw [hnone, if_neg (by simp), if_pos (by simp [hoff])]
      rfl
    · rw [hy]
      rfl
  · dsimp only
    simp only [exec_unitSend, execUnitSend, exec_unitResend, execUnitResend]
    refine ⟨fun hnone => congrArg _ ?_, fun e he hle => congrArg _ ?_, fun e he hlt => congrArg _ ?_⟩
    · rw [State.unitPost_posts hout hfly hlive hseal howed hchan (by simp [hnone]) (by simp [hnone])]
      cases n <;> rfl
    · rw [State.unitPost_posts hout hfly hlive hseal howed hchan (by simp [he]) (by simpa [he] using hle)]
      cases n <;> rfl
    · exact State.unitPost_backoff hout (by simpa [he] using hlt)

/-- RING_LANDING_WRITE where the words fit, and where they do not. -/
theorem ring_landingWrites : Claims.RingLandingWrites := by
  intro c q x e es s hq hent hland hlive
  dsimp only
  intro hvalid
  rw [exec_ringLandingWrite, execRingLandingWrite]
  simp only [hq, hent]
  refine ⟨fun hfit => ?_, fun hfull => if_neg (by simp [Nat.not_le.2 hfull])⟩
  rw [if_pos ⟨hland, hlive, hvalid, hfit⟩]
  simp only [Core.popQueue, RQueue.depart, hent, List.drop_succ_cons, List.drop_zero]
  rfl

/-- Settles O20: sends, results, acceptance, posy reads, unit sends and landing writes, each by its own lemma. -/
theorem messagesAreSent : Obligations.MessagesAreSent :=
  ⟨sends_leave, otherSends_post, send_results, messages_areAccepted, posyReads_and_unitSends, ring_landingWrites⟩

end Sys2Proof.Machine
end

section
/-! PROOFS. Receive queues and sheaves: what RECV and its like take, generations, rounds (spec/07 R229, R230, R236, R240, R243 to R247). -/

namespace Sys2Proof.Machine

open Sys2Proof.Claims

/-! ## What issue and the loss of an entry leave -/

section issued
variable (s : State) (c : CoreId) (t : TaskSlot) (opc : Nat) (f : InsnBits)

/-- Issue leaves the receive queues. -/
@[simp] theorem State.queue_atIssue (q : Nat) : ((s.atIssue c t opc f).core c).queue q = (s.core c).queue q := by
  rw [State.core_atIssue]
  rfl

/-- Issue leaves the sheaves. -/
@[simp] theorem State.sheaf_atIssue (h : Nat) : ((s.atIssue c t opc f).core c).sheaf h = (s.core c).sheaf h := by
  rw [State.core_atIssue]
  rfl

/-- Issue leaves which queues a task may read. -/
theorem State.readQueue_atIssue (q : Nat) : ((s.atIssue c t opc f).core c).readQueue t q = (s.core c).readQueue t q := by
  rw [State.core_atIssue]
  rfl

/-- Issue records the instruction as the last one of its task. -/
theorem State.lastWord_atIssue : ((s.atIssue c t opc f).task c t).lastWord = insnWord opc f := by
  rw [State.task_atIssue]

end issued

/-- A register's bits leave the tasks. -/
@[simp] theorem State.task_orReg (s : State) (key : Nat) (m n t : Nat) : (s.orReg key m).task n t = s.task n t := rfl

/-- A queue that is set leaves the tasks of its core. -/
@[simp] theorem State.task_modCore_setQueue (s : State) (n t q : Nat) (x : Option RQueue) :
    (s.modCore n (fun k => k.setQueue q x)).task n t = s.task n t := by
  simp only [State.task, State.modCore, State.core_setCore_same]
  rfl

/-! ## RECV, RECVT, RECVC (R236) -/

/-- The words of an entry fill the registers in order. -/
theorem Task.setWords_eq (k : Task) (d : Nat) (b : Bytes) (n : Nat) :
    k.setWords d b n = (List.range n).foldl (fun k j => k.setG (d + j) (BitVec.ofNat 64 (leAt b (8 * j) 8))) k := by
  induction n with
  | zero => rfl
  | succ n ih => rw [Task.setWords, ih, List.range_succ, List.foldl_append]; rfl

/-- A queue that the task may read. -/
theorem Core.readQueue_some {k : Core} {t q : Nat} {x : RQueue} (h : k.queue q = some x ∧ x.owner = t ∧ x.land = 0) : k.readQueue t q = some x := by
  obtain ⟨hq, ho, hl⟩ := h
  simp [Core.readQueue, hq, ho, hl]

/-- A queue that the task may not read. -/
theorem Core.readQueue_none {k : Core} {t q : Nat} (h : ∀ x : RQueue, ¬(k.queue q = some x ∧ x.owner = t ∧ x.land = 0)) : k.readQueue t q = none := by
  cases hq : k.queue q with
  | none => simp [Core.readQueue, hq]
  | some x =>
    have hx : ¬(x.owner = t ∧ x.land = 0) := fun hx => h x ⟨hq, hx⟩
    simp [Core.readQueue, hq, hx]

section takes
variable {s : State} {n t q : Nat} {f : InsnBits} {x : RQueue} {e : QEntry}

/-- What taking an entry into the registers comes to. -/
theorem State.takeEntry_eq : s.takeEntry n t q f x e =
    let v := (s.modCore n (fun k => k.setQueue q (some { x with entries := x.entries.drop 1, row := 0, departs := (s.ns :: x.departs).take 65 }))).modTask n t
      (fun k => (List.range (fX f % 4 + 1)).foldl (fun k j => k.setG (fD f + j) (BitVec.ofNat 64 (leAt e.words (8 * j) 8))) k)
    if x.desc = false ∧ 8 * (fX f % 4 + 1) < e.words.length then v.orReg (coreKey n rQUE_STATUS) (2 ^ 2) else v := by
  simp only [State.takeEntry, Task.setWords_eq, Core.popQueue, RQueue.depart, Bool.not_eq_true']
  rfl

/-- An attempt of RECV. -/
theorem tryRecv_of (hq : (s.core n).readQueue t (fImm f % 64) = some x) :
    tryRecv n t f s = match x.entries with
      | [] => .wait s 0 0 (fImm f % 64) false
      | e :: _ => .done (s.takeEntry n t (fImm f % 64) f x e) := by
  simp only [tryRecv, hq] <;> rfl

/-- A control token whose entry leaves. -/
theorem tryRecvc_token {es : List QEntry} (hq : (s.core n).readQueue t (fImm f % 64) = some x) (hd : x.desc = false) (he : x.entries = e :: es) :
    let w := leAt e.words 0 8
    let p := s.modCore n (fun k => k.setQueue (fImm f % 64) (some { x with entries := x.entries.drop 1, row := 0, departs := (s.ns :: x.departs).take 65 }))
    let v := if 8 < e.words.length then p.orReg (coreKey n rQUE_STATUS) (2 ^ 2) else p
    tryRecvc n t f s = if 4 ≤ w / 2 ^ 60 % 16 then .stop (v.endTask n t endIllegal (s.task n t).lastWord)
      else .done (v.modTask n t (fun k => (k.setG (fD f) (BitVec.ofNat 64 w)).setP (fA f) (decide (w / 2 ^ 60 % 16 ≠ 1)))) := by
  dsimp only
  have hw : field (BitVec.ofNat 64 (leAt e.words 0 8)) 63 60 = leAt e.words 0 8 / 2 ^ 60 % 16 := by
    have hlt : leAt e.words 0 8 < 2 ^ 64 := leAt_lt _ _ _
    simp only [field, fieldN, BitVec.toNat_ofNat, Nat.mod_eq_of_lt hlt, Nat.shiftRight_eq_div_pow]
    rfl
  simp only [tryRecvc, hq, hd, he, hw, Core.popQueue, RQueue.depart, Bool.false_eq_true, if_false]
  by_cases hlen : 8 < e.words.length
  · simp only [if_pos hlen, State.coreStat, State.task_orReg, State.task_modCore_setQueue]
  · simp only [if_neg hlen, State.task_modCore_setQueue]

end takes

/-- RECV, RECVT and RECVC by the queue they name. -/
theorem queue_reads : Claims.QueueReads := by
  intro c t f s hw
  dsimp only
  have hwait (opc : Nat) : ((s.atIssue c t opc f).task c t).wait = none := by rw [State.wait_atIssue, hw]
  have hread (opc : Nat) : ((s.atIssue c t opc f).core c).readQueue t (fImm f % 64) = (s.core c).readQueue t (fImm f % 64) :=
    State.readQueue_atIssue s c t opc f _
  have hrecv (hi : Issues s c t 0x63 f) : exec (.recv c t f) s = .next ((s.atIssue c t 0x63 f).finish c t 0x63 f (tryRecv c t f (s.atIssue c t 0x63 f))) := by
    rw [exec_recv, execRecv, hi.issue]
  have hrecvt (hi : Issues s c t 0x64 f) : exec (.recvt c t f) s = .next ((s.atIssue c t 0x64 f).finish c t 0x64 f (tryRecvt c t f (s.atIssue c t 0x64 f))) := by
    rw [exec_recvt, execRecvt, hi.issue]
  have hrecvc (hi : Issues s c t 0x65 f) : exec (.recvc c t f) s = .next ((s.atIssue c t 0x65 f).finish c t 0x65 f (tryRecvc c t f (s.atIssue c t 0x65 f))) := by
    rw [exec_recvc, execRecvc, hi.issue]
  refine ⟨fun x e es hm he hi => ?_, fun x hm he hi => ?_, fun x e es hm he hi => ?_, fun x hm he hi => ?_, fun x e es hm hd he hi => ?_,
    fun x hm hd he hi => ?_, fun x hm hd hi => ?_, fun hno => ⟨fun hi => ?_, fun hi => ?_, fun hi => ?_⟩⟩
  · rw [hrecv hi, tryRecv_of ((hread _).trans (Core.readQueue_some hm)), he]
    dsimp only
    rw [State.finish_done_eq, State.takeEntry_eq, State.ns_atIssue, he]
  · rw [hrecv hi, tryRecv_of ((hread _).trans (Core.readQueue_some hm)), he]
    dsimp only
    rw [State.finish_wait _ _ _ _ _ _ _ _ _ _ (hwait _) rfl]
  · simp only [hrecvt hi, tryRecvt, (hread _).trans (Core.readQueue_some hm), he]
    rw [State.finish_done_eq, State.takeEntry_eq, State.ns_atIssue, he]
  · simp only [hrecvt hi, tryRecvt, (hread _).trans (Core.readQueue_some hm), he]
    rw [State.finish_done_eq]
  · have htry := tryRecvc_token (s := s.atIssue c t 0x65 f) ((hread _).trans (Core.readQueue_some hm)) hd he
    dsimp only at htry
    rw [State.ns_atIssue, State.lastWord_atIssue] at htry
    rw [hrecvc hi, htry]
    refine ⟨fun hlt => ?_, fun hle => ?_⟩
    · rw [if_neg (Nat.not_le.2 hlt), State.finish_done_eq]
    · rw [if_pos hle, State.finish_stop]
  · simp only [hrecvc hi, tryRecvc, (hread _).trans (Core.readQueue_some hm), hd, he, Bool.false_eq_true, if_false]
    rw [State.finish_wait _ _ _ _ _ _ _ _ _ _ (hwait _) rfl]
  · simp only [hrecvc hi, tryRecvc, (hread _).trans (Core.readQueue_some hm), hd, if_true]
    rw [State.finish_stop, State.lastWord_atIssue]
  · simp only [hrecv hi, tryRecv, (hread _).trans (Core.readQueue_none hno)]
    rw [State.finish_stop, State.lastWord_atIssue]
  · simp only [hrecvt hi, tryRecvt, (hread _).trans (Core.readQueue_none hno)]
    rw [State.finish_stop, State.lastWord_atIssue]
  · simp only [hrecvc hi, tryRecvc, (hread _).trans (Core.readQueue_none hno)]
    rw [State.finish_stop, State.lastWord_atIssue]

/-! ## Generations (R229, R230, R240) -/

/-- The generation of a configured queue rises, and what it held goes. -/
theorem State.raiseQueue_some {s : State} {n q : Nat} {x : RQueue} (h : (s.core n).queue q = some x) :
    let v := s.modCore n (fun k => { k with qgen := tset (fun _ => 0) k.qgen q (k.genOf q + 1) }.setQueue q
      (some { x with entries := [], table := [], resv := [], row := 0 }))
    s.raiseQueue n q = if x.entries = [] then v else (v.count (coreKey n rQUE_CNT2) 31 0 x.entries.length).orReg (coreKey n rQUE_STATUS) (2 ^ 3) := by
  simp only [State.raiseQueue, h, State.discardEntries, List.length_eq_zero_iff]
  rfl

/-- The generation of a queue that is not configured rises. -/
theorem State.raiseQueue_none {s : State} {n q : Nat} (h : (s.core n).queue q = none) :
    s.raiseQueue n q = s.modCore n (fun k => { k with qgen := tset (fun _ => 0) k.qgen q (k.genOf q + 1) }) := by
  simp only [State.raiseQueue, h]
  rfl

/-- QDONE and RESERVATION_LAPSE. -/
theorem queueGenerations_rise : Claims.QueueGenerationsRise := by
  intro c t f s
  dsimp only
  have hex (hi : Issues s c t 0x66 f) : exec (.qdone c t f) s = .next ((s.atIssue c t 0x66 f).finish c t 0x66 f (tryQdone c t f (s.atIssue c t 0x66 f))) := by
    rw [exec_qdone, execQdone, hi.issue]
  refine ⟨fun x hi hmine hq => ?_, fun hi hmine hq => ?_, fun hi hmine => ?_, fun p i x hq => ?_⟩
  · rw [hex hi, tryQdone, State.img_atIssue, if_pos hmine, State.raiseQueue_some (by rw [State.queue_atIssue, hq]), State.finish_done_eq]
  · rw [hex hi, tryQdone, State.img_atIssue, if_pos hmine, State.raiseQueue_none (by rw [State.queue_atIssue, hq]), State.finish_done_eq]
  · rw [hex hi, tryQdone, State.img_atIssue, if_neg (by simp [hmine]), State.finish_stop, State.lastWord_atIssue]
  · rw [exec_reservationLapse, execReservationLapse]
    simp only [hq]

/-! ## Sheaves (R243 to R247) -/

/-- A contribution carries no plain message. -/
theorem isContribution_type {m : MsgType} (h : isContribution m = true) : m ≠ .word ∧ m ≠ .desc ∧ m ≠ .shfEnd := by
  cases m <;> simp_all [isContribution]

/-- A contribution that passes every check enters its lane. -/
theorem State.acceptSheaf_contribution {s v : State} {n h : Nat} {x : Sheaf} {m : MsgHeader} {d b : Bytes} {u : Window}
    (hc : isContribution m.type = true) (hrun : (s.task n x.owner).phase = .running)
    (hread : s.taskRead n x.owner (BitVec.ofNat 64 (x.laneAddr x.round m.lane.toNat)) 64 .dma = .ok v b)
    (hu : contribute (Window.ofBytes b) m.type d = some u) (hrun' : (v.task n x.owner).phase = .running) (hany : m.anygen = false)
    (hgen : m.gen = (v.core n).sgenOf h) (hdup : isDup x.table m = false) (hfull : tableFull x.table m x.senders = false) (hopen : x.phase = .opened) :
    let y := { x with received := x.received + 1, table := noteSeq x.table m, loss := x.loss || u.loss }
    let w := ((v.laneStore n x.owner (BitVec.ofNat 64 (x.laneAddr x.round m.lane.toNat)) u).noteSender n x m).event n 0x1B 1
    s.acceptSheaf n h x m d none = (some ⟨0, 0, 0, none, 0⟩,
      if x.expect = some (x.received + 1) then w.release n h y else w.modCore n (fun k => k.setSheaf h (some y))) := by
  obtain ⟨h1, h2, h3⟩ := isContribution_type hc
  have hreader : readerChecks none .running x.remoteOk = none := by simp [readerChecks]
  have hchecks : commonChecks m none .running x.remoteOk true false ((v.core n).sgenOf h) x.table x.senders = none := by
    rw [commonChecks_late (by decide) (by decide) (by simp [deniesRemote]), if_neg (by decide), if_neg (by simp [hany]), if_neg (by simp [hgen]),
      if_neg (by simp [hdup]), if_neg (by simp [hfull])]
  dsimp only
  simp only [State.acceptSheaf, hc, hrun, hreader, Option.isNone_none, and_self, if_true, hread, hu, hrun', h1, h2, h3, ne_eq, not_false_eq_true,
    decide_true, Option.isSome_some, Bool.and_self, hchecks, hopen, if_false, State.settleSheaf]

section shfrecv
variable {s : State} {n t : Nat} {f : InsnBits} {x : Sheaf}

/-- SHFRECV of a released round, before its lanes are read. -/
theorem tryShfrecv_window (hx : (s.core n).sheaf (fImm f % 8) = some x) (ho : x.owner = t) (hp : x.phase = .released) (hk : x.kind = 2) :
    tryShfrecv n t f s = .done ((s.modCore n (fun k => k.setSheaf (fImm f % 8) (some { x with phase := .clearing }))).modTask n t
      (fun k => k.setG (fD f) (BitVec.ofNat 64 (x.laneAddr x.round 0)))) := by
  subst ho
  simp only [tryShfrecv, hx, hp, hk, ne_eq, not_true_eq_false, if_false, if_true]

/-- SHFRECV of a released round whose lanes are read: they are rounded, and their flags shown. -/
theorem tryShfrecv_read {v : State} {b : Bytes} (hx : (s.core n).sheaf (fImm f % 8) = some x) (ho : x.owner = t) (hp : x.phase = .released) (hk : x.kind ≠ 2)
    (hread : (s.modCore n (fun k => k.setSheaf (fImm f % 8) (some { x with phase := .clearing }))).taskRead n t (BitVec.ofNat 64 (x.laneAddr x.round 0))
      (64 * x.lanes) .dma = .ok v b) :
    let rs := (List.range x.lanes).map (fun l => laneValue x.kind (Window.ofBytes ((b.drop (64 * l)).take 64)))
    let v := if rs.any (fun r => r.2.1) then v.orReg (coreKey n rSHF_STATUS) (2 ^ (24 + fImm f % 8)) else v
    let v := if rs.any (fun r => r.2.2) then v.orReg (coreKey n rSHF_STATUS) (2 ^ (16 + fImm f % 8)) else v
    tryShfrecv n t f s = if x.lanes = 1 then .done (v.modTask n t (fun k => k.setG (fD f) (BitVec.ofNat 64 ((rs.map (fun r => r.1)).headD 0))))
      else (v.taskWrite n t (BitVec.ofNat 64 x.outAddr) (rs.flatMap (fun r => leBytes 8 r.1)) .dma).try_ v n t (BitVec.ofNat 64 x.outAddr) (fun s _ =>
        .done (s.modTask n t (fun k => k.setG (fD f) (BitVec.ofNat 64 x.outAddr)))) := by
  subst ho
  simp only [tryShfrecv, hx, hp, ne_eq, not_true_eq_false, if_false, if_neg hk, hread, Acc.try_]
  rfl

end shfrecv

/-- Rounds of sheaves. -/
theorem sheaf_rounds : Claims.SheafRounds := by
  intro c h x s hx hlive
  refine ⟨?_, ?_, ?_, ?_⟩
  · intro p m b u v hdst hmsg hsheaf hq hhere hrun hmade hspan hc hread hu hrun' hany hgen hdup hfull hopen
    have hh : m.dstQ.toNat % 8 = h := by omega
    have hacc := State.acceptSheaf_contribution (h := h) hc hrun hread hu hrun' hany hgen hdup hfull hopen
    dsimp only at hacc ⊢
    rw [exec_messageAcceptance, execMessageAcceptance]
    simp only [hdst, hmsg, hhere, hsheaf, hh, hx, Option.map_some, Option.getD_some, hmade, hlive, hrun, hspan, hacc, Bool.not_true, Bool.false_eq_true,
      if_true, if_false, reduceCtorEq, or_self]
  · intro t f b v hi hh ho hp
    dsimp only
    have hx' : ((s.atIssue c t 0x6A f).core c).sheaf (fImm f % 8) = some x := by rw [State.sheaf_atIssue, hh, hx]
    rw [exec_shfrecv, execShfrecv, hi.issue]
    refine ⟨fun hk => ?_, fun hk hl hread => ?_⟩
    · rw [tryShfrecv_window hx' ho hp hk, State.finish_done_eq, hh]
    · have hbytes : 64 * x.lanes = 64 := by rw [hl]
      have hlanes : List.range x.lanes = [0] := by rw [hl]; rfl
      have htry := tryShfrecv_read hx' ho hp hk (v := v) (b := b) (by rw [hh, hbytes]; exact hread)
      dsimp only at htry
      rw [if_pos hl] at htry
      rw [htry, State.finish_done_eq, hh, hlanes]
      simp only [List.map_cons, List.map_nil, List.any_cons, List.any_nil, Bool.or_false, Nat.mul_zero, List.drop_zero, List.headD_cons]
  · intro t f b v w hi hh ho hp
    dsimp only
    intro hk hl hread hwrite
    have hx' : ((s.atIssue c t 0x6A f).core c).sheaf (fImm f % 8) = some x := by rw [State.sheaf_atIssue, hh, hx]
    have htry := tryShfrecv_read hx' ho hp hk (v := v) (b := b) (by rw [hh]; exact hread)
    dsimp only at htry
    rw [if_neg hl, hh, hwrite] at htry
    rw [exec_shfrecv, execShfrecv, hi.issue, htry]
    rfl
  · intro v hp hwrite
    rw [exec_sheafBufferCleared, execSheafBufferCleared]
    simp only [hx, hp, hlive, and_self, if_true, hwrite]
    rfl

/-- Settles O23: receives, generations and sheaf rounds, each by its own lemma. -/
theorem queuesAreRead : Obligations.QueuesAreRead := ⟨queue_reads, queueGenerations_rise, sheaf_rounds⟩

end Sys2Proof.Machine
end

section
/-! PROOFS. Verdicts of windows and the messages between seal units (spec/12 R382 to R394). -/

namespace Sys2Proof.Machine

open Sys2Proof.Claims

/-- The window found for an epoch is of that epoch. -/
theorem SealUnit.win_epoch {u : SealUnit} {e : BitVec 32} {w : SealWin} (h : u.win e = some w) : w.epoch = e := by
  simpa using List.find?_some h

/-- WINDOW_VERDICT by the window and its check. -/
theorem window_verdicts : Claims.WindowVerdicts := by
  intro c e dup w s hw
  dsimp only
  have hepoch := SealUnit.win_epoch hw
  rw [exec_windowVerdict, execWindowVerdict]
  simp only [hw]
  refine ⟨fun hidle hopen hp hf hd => ?_, fun hidle hopen hp hbad => ?_, fun h => if_pos ?_⟩
  · rw [if_neg (by simp [hidle, hopen, hp]), if_neg (by simp [hf, hd])]
  · rw [if_neg (by simp [hidle, hopen, hp]), if_pos hbad]
    simp only [State.retractWin, hepoch]
  · rcases h with h | h | h
    · exact .inr (.inr (by simpa using h))
    · exact .inl h
    · exact .inr (.inl h)

/-- What a verdict leaves of one reference. -/
def settleRef (key : ProdKey) (e : BitVec 32) (sealed : Bool) (r : SealRef) : Option SealRef :=
  if r.key ≠ key ∨ r.epoch ≠ e then some r
  else if sealed then (if r.st = .lapsed then some r else none)
  else if r.st = .opened then some { r with st := .retracted, lines := 0 } else some r

/-- References after a verdict are what it leaves of each. -/
theorem SealUnit.mem_settleRefs {u : SealUnit} {key : ProdKey} {e : BitVec 32} {sealed : Bool} {r : SealRef} :
    r ∈ (u.settleRefs key e sealed false).refs ↔ ∃ a ∈ u.refs, settleRef key e sealed a = some r := by
  simp only [SealUnit.settleRefs, List.mem_filterMap]
  rfl

section settle
variable {key : ProdKey} {e : BitVec 32} {a r : SealRef}

/-- A verdict leaves references of other epochs. -/
theorem settleRef_other {sealed : Bool} (h : a.key ≠ key ∨ a.epoch ≠ e) : settleRef key e sealed a = some a := if_pos h

/-- A verdict concerns the references of its epoch. -/
theorem settleRef_own {sealed : Bool} (hk : a.key = key) (he : a.epoch = e) : settleRef key e sealed a =
    if sealed then (if a.st = .lapsed then some a else none) else if a.st = .opened then some { a with st := .retracted, lines := 0 } else some a :=
  if_neg (by simp [hk, he])

/-- What a SEAL leaves is as it was, and lapsed if it is of the epoch. -/
theorem settleRef_sealed : settleRef key e true a = some r ↔ a = r ∧ (r.key = key ∧ r.epoch = e → r.st = .lapsed) := by
  by_cases h : a.key = key ∧ a.epoch = e
  · rw [settleRef_own h.1 h.2]
    by_cases hl : a.st = .lapsed
    · rw [if_pos rfl, if_pos hl, Option.some_inj]
      exact ⟨fun heq => ⟨heq, fun _ => heq ▸ hl⟩, And.left⟩
    · rw [if_pos rfl, if_neg hl]
      exact ⟨nofun, fun ⟨heq, hr⟩ => absurd (heq ▸ hr (heq ▸ h)) hl⟩
  · rw [settleRef_other (by rw [← not_and_or]; exact h), Option.some_inj]
    exact ⟨fun heq => ⟨heq, fun hr => absurd (heq ▸ hr) h⟩, And.left⟩

/-- A reference keeps its producer and epoch. -/
theorem settleRef_keeps (h : settleRef key e false a = some r) : r.key = a.key ∧ r.epoch = a.epoch := by
  by_cases ho : a.key ≠ key ∨ a.epoch ≠ e
  · rw [settleRef_other ho, Option.some_inj] at h
    exact h ▸ ⟨rfl, rfl⟩
  · obtain ⟨hk, he⟩ : a.key = key ∧ a.epoch = e := by simpa [not_or] using ho
    rw [settleRef_own hk he, if_neg Bool.false_ne_true] at h
    split at h <;> exact Option.some_inj.1 h ▸ ⟨rfl, rfl⟩

/-- After a RETRACT no reference of the epoch is OPEN. -/
theorem settleRef_retracted (h : settleRef key e false a = some r) (hk : r.key = key) (he : r.epoch = e) : r.st ≠ .opened := by
  obtain ⟨hka, hea⟩ := settleRef_keeps h
  rw [settleRef_own (hka ▸ hk) (hea ▸ he), if_neg Bool.false_ne_true] at h
  split at h
  next => exact Option.some_inj.1 h ▸ nofun
  next hst => exact Option.some_inj.1 h ▸ hst

end settle

/-- What SEAL and RETRACT leave of the references of a unit. -/
theorem verdicts_settleReferences : Claims.VerdictsSettleReferences := by
  intro u key e r
  simp only [SealUnit.mem_settleRefs]
  refine ⟨⟨fun ⟨a, ha, h⟩ => ?_, fun ⟨hr, h⟩ => ⟨r, hr, settleRef_sealed.2 ⟨rfl, h⟩⟩⟩, fun hother => ⟨fun ⟨a, ha, h⟩ => ?_, fun hr => ⟨r, hr, settleRef_other hother⟩⟩,
    fun hk he ⟨a, ha, h⟩ => settleRef_retracted h hk he, fun hr hk he hst => ⟨r, hr, ?_⟩⟩
  · obtain ⟨rfl, hl⟩ := settleRef_sealed.1 h
    exact ⟨ha, hl⟩
  · obtain ⟨hka, hea⟩ := settleRef_keeps h
    rw [settleRef_other (by rwa [← hka, ← hea]), Option.some_inj] at h
    exact h ▸ ha
  · rw [settleRef_own hk he, if_neg Bool.false_ne_true, if_pos hst]

section arrive
variable {p : Packet} {s : State} {kind : SealKind} {act : State → Nat → SealMsg → State}

/-- A packet that has not landed is not taken. -/
theorem State.sealIn_away (h : s.here p = false) : s.sealIn p kind act = s := if_pos (by simp [State.sealHere, h])

/-- A packet that has landed at a seal unit. -/
theorem State.sealHere_true (h : s.here p = true) (ht : p.type = .seal) (hr : s.isRemote p.region p.addr = false) : s.sealHere p = true := by
  simp [State.sealHere, h, ht, hr]

/-- A message of a reserved KIND is refused. -/
theorem State.sealIn_reserved (h : s.sealHere p = true) (hm : sealOf p.data = none) : s.sealIn p kind act = (s.take p).respond p .refused [] := by
  rw [State.sealIn, if_neg (by simp [h]), hm]

/-- A message of the kind that is awaited reaches its unit. -/
theorem State.sealIn_kind {m : SealMsg} (h : s.sealHere p = true) (hm : sealOf p.data = some m) (hk : m.kind = kind) :
    s.sealIn p kind act = act s (unitAt p.dst) m := by
  rw [State.sealIn, if_neg (by simp [h]), hm]
  exact if_pos hk

end arrive

/-- NOTICE_ARRIVE, SEAL_ARRIVE and RETRACT_ARRIVE. -/
theorem sealMessages_arrive : Claims.SealMessagesArrive := by
  intro p s
  dsimp only
  rw [exec_noticeArrive, execNoticeArrive, exec_sealArrive, execSealArrive, exec_retractArrive, execRetractArrive]
  refine ⟨fun h => ⟨congrArg _ (State.sealIn_away h), congrArg _ (State.sealIn_away h), congrArg _ (State.sealIn_away h)⟩, fun hh ht hr => ?_⟩
  have hhere := State.sealHere_true hh ht hr
  refine ⟨fun hm => ⟨congrArg _ (State.sealIn_reserved hhere hm), congrArg _ (State.sealIn_reserved hhere hm), congrArg _ (State.sealIn_reserved hhere hm)⟩,
    fun m hm => ⟨fun hk => ?_, fun hk => ?_, fun hk => ?_⟩⟩
  · rw [State.sealIn_kind hhere hm hk]
    simp only [State.takeNotice]
    refine ⟨fun b k u hb hu => ?_, fun hb => ?_, fun b k hb hu => ?_⟩
    · simp only [hb, hu]
    · simp only [hb]
    · simp only [hb, hu]
      rfl
  · rw [State.sealIn_kind hhere hm hk]
    exact ⟨fun h => congrArg _ (if_pos h), fun h => congrArg _ (if_neg (by simp [h]))⟩
  · rw [State.sealIn_kind hhere hm hk]
    exact ⟨fun h => congrArg _ (if_pos h), fun h => congrArg _ (if_neg (by simp [h]))⟩

/-- SEAL_ACKNOWLEDGED, SEAL_MESSAGE_RESEND and LAPSE. -/
theorem sealMessages_end : Claims.SealMessagesEnd := by
  intro d i k s hu
  dsimp only
  rw [exec_sealAcknowledged, execSealAcknowledged, exec_sealMessageResend, execSealMessageResend]
  simp only [hu, State.sealAck]
  refine ⟨⟨fun hnone => ?_, fun p o hp ho => ?_⟩, fun o ho => ?_, fun key x hx => ?_⟩
  · rw [hnone]
    rfl
  · have ho' : ((s.take p).sealUnit i).outs.find? (fun o => decide (o.id = k)) = some o := ho
    rw [hp]
    simp only [Option.map_some, ho']
    exact ⟨fun h => by rw [if_pos h], fun hst hk => by rw [if_neg (by simp [hst, hk])]⟩
  · rw [ho]
    dsimp only
    refine ⟨fun h => if_pos h, fun h => ?_⟩
    rw [if_neg (Nat.not_le.2 h)]
    exact ⟨fun ht => if_pos ht, fun ht => if_neg (Nat.not_lt.2 ht)⟩
  · rw [exec_lapse, execLapse]
    simp only [hu, hx]
    refine ⟨fun h => if_pos h, fun h => ?_⟩
    rw [if_neg (Nat.not_lt.2 h)]
    by_cases hi : i < 512
    · simp only [State.sealStat, if_pos hi]
      rfl
    · simp only [State.sealStat, if_neg hi]
      rfl

/-- Settles O25: verdicts, references, and the messages that arrive and end, each by its own lemma. -/
theorem sealsSettle : Obligations.SealsSettle :=
  ⟨window_verdicts, verdicts_settleReferences, sealMessages_arrive, sealMessages_end⟩

end Sys2Proof.Machine
end

section
/-! PROOFS. Configurations of the lattice: CFGSW, CFGLD, EPOCH, the switches of links, markers and seal lanes (spec/04 R144 to R147,
spec/06 R205 to R207, spec/12 R403, R404). -/

namespace Sys2Proof.Machine

open Sys2Proof.Claims

/-! ## CFGSW, CFGLD, EPOCH (R144 to R147) -/

/-- A task owns a configuration slot of its core's lattice. -/
theorem Core.ownsSlot_iff (k : Core) (t i : Nat) : k.ownsSlot t i = true ↔ k.owner = some t ∧ (k.task t).img.cfgSlots.testBit i = true := by
  simp [Core.ownsSlot]

section issued
variable (s : State) (c : CoreId) (t : TaskSlot) (opc : Nat) (f : InsnBits)

/-- Issue leaves the slots that a task owns. -/
theorem State.ownsSlot_atIssue (i : Nat) : ((s.atIssue c t opc f).core c).ownsSlot t i = (s.core c).ownsSlot t i := by
  have himg : (((s.atIssue c t opc f).core c).task t).img = ((s.core c).task t).img := State.img_atIssue s
  have howner : ((s.atIssue c t opc f).core c).owner = (s.core c).owner := by
    rw [State.core_atIssue]
    rfl
  rw [Core.ownsSlot, Core.ownsSlot, himg, howner]

/-- Issue leaves the configurations of a core and its links. -/
theorem State.lattice_atIssue : ((s.atIssue c t opc f).core c).cfg = (s.core c).cfg ∧ ((s.atIssue c t opc f).core c).active = (s.core c).active ∧
    ((s.atIssue c t opc f).core c).leaving = (s.core c).leaving ∧ ((s.atIssue c t opc f).core c).epoch = (s.core c).epoch ∧
    ((s.atIssue c t opc f).core c).switchOpen = (s.core c).switchOpen := by
  rw [State.core_atIssue]
  exact ⟨rfl, rfl, rfl, rfl, rfl⟩

end issued

/-- CFGSW and EPOCH. -/
theorem configuration_switches : Claims.ConfigurationSwitches := by
  intro c t f s
  dsimp only
  have hcfg (i : Nat) : ((s.atIssue c t 0x80 f).core c).cfgSlot i = (s.core c).cfgSlot i :=
    congrArg (fun m => tget (fun _ => none) m i) (State.lattice_atIssue s c t 0x80 f).1
  have hex (hi : Issues s c t 0x80 f) : exec (.cfgsw c t f) s = .next ((s.atIssue c t 0x80 f).finish c t 0x80 f (tryCfgsw c t f (s.atIssue c t 0x80 f))) := by
    rw [exec_cfgsw, execCfgsw, hi.issue]
  have howns (hm : (s.core c).owner = some t.val ∧ (s.task c t).img.cfgSlots.testBit (fImm f % 8) = true) :
      ((s.atIssue c t 0x80 f).core c).ownsSlot t (fImm f % 8) = true := by
    rw [State.ownsSlot_atIssue]
    exact (Core.ownsSlot_iff _ _ _).2 hm
  refine ⟨fun x hi hm hx hfree => ?_, fun x hi hm hx hheld hw => ?_, fun hi hbad => ?_, fun hi => ?_⟩
  · simp only [hex hi, tryCfgsw, howns hm, hcfg, hx, Bool.not_true, Bool.false_eq_true, if_false]
    rw [if_neg (by simpa using hfree), State.finish_jump]
  · simp only [hex hi, tryCfgsw, howns hm, hcfg, hx, Bool.not_true, Bool.false_eq_true, if_false]
    rw [if_pos (by simpa using hheld), State.finish_wait _ _ _ _ _ _ _ _ _ _ (by rw [State.wait_atIssue, hw]) rfl]
  · rw [hex hi]
    rcases hbad with hm | hx
    · have hno : ¬((s.core c).ownsSlot t (fImm f % 8)) = true := fun h => hm ((Core.ownsSlot_iff _ _ _).1 h)
      simp only [tryCfgsw, State.ownsSlot_atIssue, hno, Bool.not_false, if_true, State.finish_stop]
    · simp only [tryCfgsw, hcfg, hx]
      split <;> rfl
  · obtain ⟨-, hactive, -, hepoch, -⟩ := State.lattice_atIssue s c t 0x82 f
    rw [exec_epoch, execEpoch, hi.issue, tryEpoch, hactive, hepoch, State.finish_done_eq]

/-- CFGLD by its slot, its entry and its schedule. -/
theorem configuration_loads : Claims.ConfigurationLoads := by
  intro c t f s v w h b hi
  dsimp only
  obtain ⟨-, hactive, hleaving, -, hopen⟩ := State.lattice_atIssue s c t 0x81 f
  have hex : exec (.cfgld c t f) s = .next ((s.atIssue c t 0x81 f).finish c t 0x81 f (tryCfgld c t f (s.atIssue c t 0x81 f))) := by
    rw [exec_cfgld, execCfgld, hi.issue]
  rw [hex]
  simp only [tryCfgld, State.ownsSlot_atIssue, hactive, hleaving, hopen, State.areg_atIssue, State.img_atIssue]
  refine ⟨fun hm => ?_, fun hm hbusy hw => ?_, fun hm hfree hread => ?_⟩
  · have hno : ¬((s.core c).ownsSlot t (fImm f % 8)) = true := fun h => hm ((Core.ownsSlot_iff _ _ _).1 h)
    rw [if_pos (by simpa using hno), State.finish_stop]
  · have hown := (Core.ownsSlot_iff _ _ _).2 hm
    rw [if_neg (by simpa [State.task] using hown), if_pos hbusy, State.finish_wait _ _ _ _ _ _ _ _ _ _ (by rw [State.wait_atIssue, hw]) rfl]
  · have hown := (Core.ownsSlot_iff _ _ _).2 hm
    rw [if_neg (by simpa [State.task] using hown), if_neg hfree, hread]
    simp only [Acc.try_]
    refine ⟨fun hok => ?_, fun hok hread2 => ⟨fun hs => ?_, fun hs => ?_⟩⟩
    · rw [if_pos (by simp [hok]), State.finish_stop]
    · rw [if_neg (by simp [hok]), hread2]
      simp only [hs, if_true]
      rfl
    · rw [if_neg (by simp [hok]), hread2]
      simp only [hs, Bool.false_eq_true, if_false]
      rfl

/-! ## The switches of links (R194, R206, R207) -/

/-- INPUT_LINK_SWITCH, OUTPUT_LINK_SWITCH and ROUTE_STEER_CHANGE. -/
theorem links_switch : Claims.LinksSwitch := by
  intro c d s
  dsimp only
  rw [exec_inputLinkSwitch, execInputLinkSwitch, exec_outputLinkSwitch, execOutputLinkSwitch, exec_routeSteerChange, execRouteSteerChange]
  refine ⟨fun q rest hstop hq hep => ?_, fun x xs hstop hp hx => ⟨fun hsend hout => ?_, fun hsend => ?_⟩, fun hp => ?_, fun x xs hp hx => ?_,
    fun hst hbusy => if_neg ?_, fun h => if_pos ?_⟩
  · simp only [hq]
    rw [if_neg (by simp [hstop, hep])]
  · simp only [hp]
    rw [if_neg (by simp [hstop, hx, hout]), if_pos hsend]
  · simp only [hp]
    rw [if_neg (by simp [hstop, hx, hsend]), if_neg (by simp [hsend])]
  · simp only [hp]
  · simp only [hp]
    exact if_pos (hx.elim (fun h => .inr (.inl (by simp [h]))) (fun ⟨h, ho⟩ => .inr (.inr ⟨h, by simp [ho]⟩)))
  · rw [linkId]
    simp only [Option.isNone_iff_eq_none, not_or, Bool.not_eq_true]
    exact ⟨hst, hbusy⟩
  · exact h.imp_left (fun h => by rw [linkId, h]; rfl)

/-- A marker passes switches that do not await it. -/
theorem gotMarker_skip {i : Nat} {ps qs : List OutSwitch} (h : ∀ p ∈ ps, i ∉ p.awaited) : gotMarker i (ps ++ qs) = ps ++ gotMarker i qs := by
  induction ps with
  | nil => rfl
  | cons p ps ih =>
    obtain ⟨hp, hps⟩ := List.forall_mem_cons.1 h
    rw [List.cons_append, gotMarker, if_neg (by simpa using hp), ih hps, List.cons_append]

/-- A marker reaches the first switch that awaits it. -/
theorem markers_reachOutputs : Claims.MarkersReachOutputs := by
  intro i ps qs x h
  refine ⟨fun hx => ?_, ?_⟩
  · rw [gotMarker_skip h, gotMarker, if_pos (by simpa using hx)]
  · simpa [gotMarker] using gotMarker_skip (qs := []) h

/-! ## Seal lanes (spec/12 R403, R404) -/

/-- SEAL_LANE_UPDATE and LANE_RETRACT. -/
theorem seal_lanes : Claims.SealLanes := by
  intro c d m s hm
  dsimp only
  simp only [exec_sealLaneUpdate, execSealLaneUpdate, exec_laneRetract, execLaneRetract, hm]
  refine ⟨fun sc h => if_pos h, fun sc hlt hle => if_neg (by omega), fun hr => if_pos (by simp [hr]), fun hr => ⟨fun t ht => ?_, fun hnone => ?_⟩⟩
  · rw [if_neg (by simp [hr])]
    simp only [State.coreStat, ht]
  · rw [if_neg (by simp [hr])]
    simp only [State.coreStat, hnone]

/-- Settles O28: switches, loads, links, markers and seal lanes, each by its own lemma. -/
theorem latticeConfigures : Obligations.LatticeConfigures :=
  ⟨configuration_switches, configuration_loads, links_switch, markers_reachOutputs, seal_lanes⟩

/-! ## A switch of the core (R145, R206, R207) -/

/-- A link that is replaced. -/
theorem Core.link_setLink (c : Core) (i j : Nat) (l : Link) : (c.setLink i l).link j = if j = i then l else c.link j := tget_tset dLink c.links i j l

/-- The links of a core replaced, each by what it alone and the rest of the core make of it. -/
theorem Core.link_foldl_setLink {g : Core → Nat → Link} (hg : ∀ c i j x, j ≠ i → g (c.setLink i x) j = g c j) (is : List Nat) (hnd : is.Nodup) (c : Core)
    (j : Nat) : (is.foldl (fun c i => c.setLink i (g c i)) c).link j = if j ∈ is then g c j else c.link j := by
  induction is generalizing c with
  | nil => rfl
  | cons i is ih =>
    obtain ⟨hi, hnd⟩ := List.nodup_cons.1 hnd
    rw [List.foldl_cons, ih hnd, Core.link_setLink]
    by_cases hj : j = i
    · subst hj
      simp [hi]
    · simp [hj, hg _ _ _ _ hj]

/-- The links of a core replaced leave the rest of it. -/
theorem Core.foldl_setLink_links (g : Core → Nat → Link) (is : List Nat) (c : Core) :
    ∃ ls, is.foldl (fun c i => c.setLink i (g c i)) c = { c with links := ls } := by
  induction is generalizing c with
  | nil => exact ⟨c.links, rfl⟩
  | cons i is ih =>
    obtain ⟨ls, h⟩ := ih (c.setLink i (g c i))
    exact ⟨ls, h⟩

/-- A core whose links differ only where input links of `is` passed to its epoch, and in their slack. -/
structure InputsPass (is : List Nat) (c d : Core) : Prop where
  core : ∃ ls, d = { c with links := ls }
  queue : ∀ j, (d.link j).queue = (c.link j).queue
  pend : ∀ j, (d.link j).pend = (c.link j).pend
  outSched : ∀ j, (d.link j).outSched = (c.link j).outSched
  stays : ∀ j, (j ∉ is ∨ marks (c.link j).inSched j = true) → (d.link j).inEpoch = (c.link j).inEpoch ∧ (d.link j).inSched = (c.link j).inSched
  passes : ∀ j ∈ is, marks (c.link j).inSched j = false → (d.link j).inEpoch = some c.epoch ∧ (d.link j).inSched = c.activeSched

/-- No link passes. -/
theorem InputsPass.refl (c : Core) : InputsPass [] c c where
  core := ⟨c.links, rfl⟩
  queue _ := rfl
  pend _ := rfl
  outSched _ := rfl
  stays _ _ := ⟨rfl, rfl⟩
  passes _ h := absurd h List.not_mem_nil

/-- Some links pass, then others. -/
theorem InputsPass.trans {is js : List Nat} {c d e : Core} (h : InputsPass is c d) (k : InputsPass js d e) (hdis : ∀ i ∈ is, i ∉ js) :
    InputsPass (is ++ js) c e where
  core := by
    obtain ⟨ls, rfl⟩ := h.core
    obtain ⟨ms, hm⟩ := k.core
    exact ⟨ms, hm⟩
  queue j := (k.queue j).trans (h.queue j)
  pend j := (k.pend j).trans (h.pend j)
  outSched j := (k.outSched j).trans (h.outSched j)
  stays j hj := by
    have h1 := h.stays j (hj.imp_left (fun hn hi => hn (List.mem_append_left _ hi)))
    have h2 := k.stays j (hj.imp (fun hn hi => hn (List.mem_append_right _ hi)) (fun hm => by rw [h1.2, hm]))
    exact ⟨h2.1.trans h1.1, h2.2.trans h1.2⟩
  passes j hj hm := by
    obtain ⟨ls, hd⟩ := h.core
    by_cases hi : j ∈ is
    · have h1 := h.passes j hi hm
      have h2 := k.stays j (.inl (hdis j hi))
      exact ⟨h2.1.trans h1.1, h2.2.trans h1.2⟩
    · have h1 := h.stays j (.inl hi)
      have h2 := k.passes j ((List.mem_append.1 hj).resolve_left hi) (by rw [h1.2, hm])
      rw [hd] at h2
      exact h2

/-- Slack granted to one link. -/
theorem State.grantLink_passes (s : State) (n i : Nat) : InputsPass [] (s.core n) ((s.grantLink n i).core n) := by
  have hcore : (s.grantLink n i).core n = (s.core n).setLink i { (s.core n).link i with granted := (s.core n).grant i (s.slackAsked n i) } :=
    State.core_setCore_same _ _ _
  have hlink (j : Nat) : ∃ g, ((s.grantLink n i).core n).link j = { (s.core n).link j with granted := g } := by
    rw [hcore, Core.link_setLink]
    split
    next h => exact ⟨_, by rw [h]⟩
    next => exact ⟨_, rfl⟩
  refine ⟨⟨_, hcore⟩, fun j => ?_, fun j => ?_, fun j => ?_, fun j _ => ?_, fun j hj => absurd hj List.not_mem_nil⟩ <;>
  · obtain ⟨g, hg⟩ := hlink j
    simp [hg]

/-- Slack granted anew to a link, and to those that fell short. -/
theorem State.regrant_passes (s : State) (n i : Nat) : InputsPass [] (s.core n) ((s.regrant n i).core n) := by
  have hfold (is : List Nat) (t : State) :
      InputsPass [] (t.core n) ((is.foldl (fun s j => if ((s.core n).link j).granted < s.slackAsked n j then s.grantLink n j else s) t).core n) := by
    induction is generalizing t with
    | nil => exact .refl _
    | cons j is ih =>
      rw [List.foldl_cons]
      refine InputsPass.trans ?_ (ih _) (fun _ h => absurd h List.not_mem_nil)
      split
      · exact State.grantLink_passes t n j
      · exact .refl _
  have hstat (u : State) (b : Nat) : (u.coreStat n rLAT_STATUS b).core n = u.core n := by rw [State.coreStat, State.orReg, State.core_setReg]
  have hif (u : State) (p : Prop) [Decidable p] : (if p then u.coreStat n rLAT_STATUS 6 else u).core n = u.core n := by
    split
    · exact hstat u 6
    · rfl
  rw [State.regrant]
  have h := hfold (List.range 4) (if (((s.grantLink n i).core n).link i).granted < (s.grantLink n i).slackAsked n i then
    (s.grantLink n i).coreStat n rLAT_STATUS 6 else s.grantLink n i)
  rw [hif] at h
  exact (State.grantLink_passes s n i).trans h (fun _ h => absurd h List.not_mem_nil)

/-- Input link i as it is once it has passed to the core's epoch. -/
def Core.passed (c : Core) (i : Nat) : Link :=
  let l := { c.link i with inEpoch := some c.epoch, inSched := c.activeSched, base := (c.activeSched.map (fun x => leAt x (36 + i) 1)).getD 0 }
  { l with inProg := Prog.start (l.dispatch i) }

/-- An unmarked input link of the core replaced by itself once it has passed. -/
theorem Core.setLink_passes (c : Core) (i : Nat) (hm : marks (c.link i).inSched i = false) : InputsPass [i] c (c.setLink i (c.passed i)) := by
  have hsame (j : Nat) : ((c.setLink i (c.passed i)).link j).queue = (c.link j).queue ∧ ((c.setLink i (c.passed i)).link j).pend = (c.link j).pend ∧
      ((c.setLink i (c.passed i)).link j).outSched = (c.link j).outSched := by
    rw [Core.link_setLink]
    split
    next h => exact h ▸ ⟨rfl, rfl, rfl⟩
    next => exact ⟨rfl, rfl, rfl⟩
  refine ⟨⟨_, rfl⟩, fun j => (hsame j).1, fun j => (hsame j).2.1, fun j => (hsame j).2.2, fun j hj => ?_, fun j hj _ => ?_⟩
  · have hne : j ≠ i := by
      rintro rfl
      rcases hj with h | h
      · exact h (List.mem_singleton_self j)
      · rw [hm] at h
        cases h
    rw [Core.link_setLink, if_neg hne]
    exact ⟨rfl, rfl⟩
  · rw [Core.link_setLink, if_pos (List.mem_singleton.1 hj)]
    exact ⟨rfl, rfl⟩

/-- An unmarked input link passes to the core's epoch. -/
theorem switchIn_passes (s : State) (n i : Nat) (hm : marks ((s.core n).link i).inSched i = false) :
    InputsPass [i] (s.core n) ((s.switchIn n i).core n) := by
  have h := State.regrant_passes (s.setCore n ((s.core n).setLink i ((s.core n).passed i))) n i
  rw [State.core_setCore_same] at h
  exact (Core.setLink_passes _ i hm).trans h (fun _ _ => List.not_mem_nil)

/-- Every unmarked input link passes. -/
theorem foldl_switchIn_passes (n : Nat) (is : List Nat) (hnd : is.Nodup) (s : State) :
    InputsPass is (s.core n) ((is.foldl (fun s i => if marks ((s.core n).link i).inSched i then s else s.switchIn n i) s).core n) := by
  induction is generalizing s with
  | nil => exact .refl _
  | cons i is ih =>
    obtain ⟨hi, hnd⟩ := List.nodup_cons.1 hnd
    rw [List.foldl_cons]
    have hstep : InputsPass [i] (s.core n) ((if marks ((s.core n).link i).inSched i then s else s.switchIn n i).core n) := by
      cases hm : marks ((s.core n).link i).inSched i with
      | false => exact switchIn_passes s n i hm
      | true =>
        refine ⟨⟨(s.core n).links, rfl⟩, fun _ => rfl, fun _ => rfl, fun _ => rfl, fun _ _ => ⟨rfl, rfl⟩, fun j hj hj' => ?_⟩
        rw [List.mem_singleton.1 hj, hm] at hj'
        cases hj'
    exact hstep.trans (ih hnd _) (fun j hj => by rwa [List.mem_singleton.1 hj])

/-- Output link j as it is once it has been told to pass to the core's epoch (R207). -/
def Core.toPass (c : Core) (j : Nat) : Link :=
  let l := c.link j
  let old := l.lastSched
  if marks old (4 + j) then { l with pend := l.pend ++ [⟨selectIns ((old.map (fun b => schedProg b (4 + j))).getD []), true, c.epoch, c.activeSched⟩] }
  else if l.pend.isEmpty then
    let m := { l with pend := [], outSched := c.activeSched }
    { m with outProg := Prog.start (m.select j) }
  else { l with pend := l.pend ++ [⟨[], false, c.epoch, c.activeSched⟩] }

/-- What passing to an epoch later does to the core. -/
theorem State.core_switchLater (s : State) (n j : Nat) : (s.switchLater n j).core n = (s.core n).setLink j ((s.core n).toPass j) := by
  have hset (c : Core) (l m : Link) : (c.setLink j l).setLink j m = c.setLink j m := by simp [Core.setLink]
  simp only [State.switchLater, Core.toPass]
  split
  · rw [State.core_setCore_same]
  · split
    · simp only [State.switchOut, State.switchOutTo, State.modCore, State.core_setCore_same, Core.link_setLink, if_true, hset]
    · rw [State.core_setCore_same]

/-- A link that is told to pass looks at itself and at what no link changes. -/
theorem Core.toPass_setLink (c : Core) (i j : Nat) (x : Link) (h : j ≠ i) : (c.setLink i x).toPass j = c.toPass j := by
  have hl : (c.setLink i x).link j = c.link j := by rw [Core.link_setLink, if_neg h]
  simp only [Core.toPass, hl]
  rfl

/-- Every output link is told to pass. -/
theorem State.core_foldl_switchLater (s : State) (n : Nat) :
    ((List.range 4).foldl (fun s j => s.switchLater n j) s).core n = (List.range 4).foldl (fun c j => c.setLink j (c.toPass j)) (s.core n) :=
  (List.foldl_hom (fun s : State => s.core n) (fun s j => (State.core_switchLater s n j).symm)).symm

/-- Being told to pass leaves the input side of a link. -/
theorem Core.toPass_input (c : Core) (j : Nat) : (c.toPass j).inEpoch = (c.link j).inEpoch ∧ (c.toPass j).inSched = (c.link j).inSched ∧
    (c.toPass j).queue = (c.link j).queue := by
  simp only [Core.toPass]
  split
  · exact ⟨rfl, rfl, rfl⟩
  · split <;> exact ⟨rfl, rfl, rfl⟩

section toPass
variable {c : Core} {j : Nat}

/-- A marked output link is to send a marker. -/
theorem Core.toPass_marked (h : marks (c.link j).lastSched (4 + j) = true) :
    (c.toPass j).pend = (c.link j).pend ++ [⟨selectIns (((c.link j).lastSched.map (fun b => schedProg b (4 + j))).getD []), true, c.epoch, c.activeSched⟩] ∧
    (c.toPass j).outSched = (c.link j).outSched := by
  constructor <;> simp [Core.toPass, h]

/-- An unmarked output link with nothing to make passes. -/
theorem Core.toPass_unmarked (h : marks (c.link j).lastSched (4 + j) = false) (hp : (c.link j).pend = []) :
    (c.toPass j).pend = [] ∧ (c.toPass j).outSched = c.activeSched := by
  constructor <;> simp [Core.toPass, h, hp]

/-- An unmarked output link behind the switches that it has still to make. -/
theorem Core.toPass_behind (h : marks (c.link j).lastSched (4 + j) = false) (hp : (c.link j).pend ≠ []) :
    (c.toPass j).pend = (c.link j).pend ++ [⟨[], false, c.epoch, c.activeSched⟩] := by
  rw [Core.toPass]
  simp only [h, List.isEmpty_iff, hp, Bool.false_eq_true, if_false]

end toPass

/-- Settles O30: the input links pass first, then each output link is told to. -/
theorem switchesRaiseTheEpoch : Obligations.SwitchesRaiseTheEpoch := by
  intro n slot s
  dsimp only
  obtain ⟨s₁, hs₁⟩ : ∃ s₁, s.modCore n (fun c => { c with epoch := (c.epoch + 1) % 8, leaving := c.active, active := slot }) = s₁ := ⟨_, rfl⟩
  have hcore : s₁.core n = { s.core n with epoch := ((s.core n).epoch + 1) % 8, leaving := (s.core n).active, active := slot } := by
    rw [← hs₁, State.modCore, State.core_setCore_same]
  obtain ⟨m, hm⟩ : ∃ m, ((List.range 4).foldl (fun s i => if marks ((s.core n).link i).inSched i then s else s.switchIn n i) s₁).core n = m := ⟨_, rfl⟩
  have hpass : InputsPass (List.range 4) (s₁.core n) m := hm ▸ foldl_switchIn_passes n (List.range 4) List.nodup_range s₁
  have hd : (s.switchCore n slot).core n = (List.range 4).foldl (fun c j => c.setLink j (c.toPass j)) m := by
    rw [State.switchCore, hs₁, State.core_foldl_switchLater, hm]
  have hlink (j : Nat) (hj : j < 4) : ((s.switchCore n slot).core n).link j = m.toPass j := by
    rw [hd, Core.link_foldl_setLink (fun c i j x h => Core.toPass_setLink c i j x h) _ List.nodup_range, if_pos (List.mem_range.2 hj)]
  obtain ⟨ls, hls⟩ := hpass.core
  obtain ⟨ks, hks⟩ := Core.foldl_setLink_links Core.toPass (List.range 4) m
  have hepoch : m.epoch = ((s.core n).epoch + 1) % 8 := by rw [hls, hcore]
  have hsched : m.activeSched = ((s.core n).cfgSlot slot).map (fun x => x.schedule) := by
    rw [hls, hcore]
    rfl
  have hold (j : Nat) : (m.link j).lastSched = ((s.core n).link j).lastSched := by
    rw [Link.lastSched, hpass.pend, hpass.outSched, hcore]
    rfl
  have hpend (j : Nat) : (m.link j).pend = ((s.core n).link j).pend := by
    rw [hpass.pend, hcore]
    rfl
  refine ⟨?_, ?_, ?_, fun i hi hmark => ?_, fun i hi hmark => ?_, fun j hj => ⟨fun hmark => ?_, fun hmark hp => ?_, fun hmark hp => ?_⟩⟩
  · rw [hd, hks, ← hepoch]
  · rw [hd, hks, hls, hcore]
  · rw [hd, hks, hls, hcore]
  · obtain ⟨he, hsch, -⟩ := Core.toPass_input m i
    obtain ⟨h1, h2⟩ := hpass.passes i (List.mem_range.2 hi) (by rw [hcore]; exact hmark)
    rw [hlink i hi, he, hsch, h1, h2, hcore]
    exact ⟨rfl, rfl⟩
  · obtain ⟨he, -, hq⟩ := Core.toPass_input m i
    obtain ⟨h1, -⟩ := hpass.stays i (.inr (by rw [hcore]; exact hmark))
    rw [hlink i hi, he, hq, h1, hpass.queue, hcore]
    exact ⟨rfl, rfl⟩
  · obtain ⟨h1, h2⟩ := Core.toPass_marked (c := m) (j := j) (by rw [hold, hmark])
    rw [hlink j hj, h1, h2, hold, hpend, hepoch, hsched, hpass.outSched, hcore]
    exact ⟨rfl, rfl⟩
  · obtain ⟨h1, h2⟩ := Core.toPass_unmarked (c := m) (j := j) (by rw [hold, hmark]) (by rw [hpend, hp])
    rw [hlink j hj, h1, h2, hsched]
    exact ⟨rfl, rfl⟩
  · rw [hlink j hj, Core.toPass_behind (by rw [hold, hmark]) (by rw [hpend]; exact hp), hpend, hepoch, hsched]


end Sys2Proof.Machine
end

section
/-! PROOFS. Tokens on the lattice: arrival and its check, dispatch, bypass, output registers, slack, stalls and the forced drain
(spec/06 R187 to R215). -/

namespace Sys2Proof.Machine

open Sys2Proof.Claims

/-! ## The check of the codes (R190) -/

/-- No bit set among the low ones. -/
theorem popCount_eq_zero {n v : Nat} : popCount n v = 0 ↔ ∀ i < n, v.testBit i = false := by
  simp [popCount, List.countP_eq_zero]

/-- The bits that the first code and the second one cover. -/
theorem codeRange_bit : ∀ i < 572, (codeRange false).getLsbD i = (decide (i < 276) || (decide (552 ≤ i) && decide (i < 562))) ∧
    (codeRange true).getLsbD i = ((decide (276 ≤ i) && decide (i < 552)) || decide (562 ≤ i)) := by
  decide +kernel

/-- A code that finds nothing wrong has no wrong bit in its range. -/
theorem codeErrors_zero {err : BitVec 572} {second : Bool} (h : codeErrors err second = 0) : err &&& codeRange second = 0 := by
  refine BitVec.eq_of_getLsbD_eq (fun i hi => ?_)
  obtain ⟨h1, h2⟩ := codeRange_bit i hi
  simp only [BitVec.getLsbD_and, BitVec.ofNat_eq_ofNat, BitVec.getLsbD_zero, ← BitVec.testBit_toNat err]
  cases second with
  | false =>
    simp only [codeErrors, Bool.false_eq_true, if_false, Nat.add_eq_zero_iff, popCount_eq_zero, Nat.testBit_mod_two_pow, Nat.testBit_shiftRight] at h
    obtain ⟨hlo, hhi⟩ := h
    rw [h1]
    by_cases ha : i < 276
    · simp [show err.toNat.testBit i = false by simpa [ha] using hlo i ha]
    · by_cases hb : 552 ≤ i ∧ i < 562
      · have := hhi (i - 552) (by omega)
        rw [show 552 + (i - 552) = i by omega] at this
        simp [show err.toNat.testBit i = false by simpa [show i - 552 < 10 by omega] using this]
      · have : (decide (i < 276) || (decide (552 ≤ i) && decide (i < 562))) = false := by simp; omega
        rw [this, Bool.and_false]
  | true =>
    simp only [codeErrors, if_true, Nat.add_eq_zero_iff, popCount_eq_zero, Nat.testBit_mod_two_pow, Nat.testBit_shiftRight] at h
    obtain ⟨hlo, hhi⟩ := h
    rw [h2]
    by_cases ha : 276 ≤ i ∧ i < 552
    · have := hlo (i - 276) (by omega)
      rw [show 276 + (i - 276) = i by omega] at this
      simp [show err.toNat.testBit i = false by simpa [show i - 276 < 276 by omega] using this]
    · by_cases hb : 562 ≤ i
      · have := hhi (i - 562) (by omega)
        rw [show 562 + (i - 562) = i by omega] at this
        simp [show err.toNat.testBit i = false by simpa [show i - 562 < 10 by omega] using this]
      · have : ((decide (276 ≤ i) && decide (i < 552)) || decide (562 ≤ i)) = false := by simp; omega
        rw [this, Bool.and_false]

/-- A token that no bit of an error reaches. -/
theorem tokenHit_zero (t : Token) : tokenHit t 0 = t := by
  simp [tokenHit]

/-- What the check of a code finds of at most two wrong bits. -/
def foundBy (k : Nat) : Ecc := if k = 0 then .good else if k = 1 then .corrected else .uncorrectable

/-- The check of at most two wrong bits draws no free value. -/
theorem State.codeCheck_small (s : State) {k : Nat} (h : k ≤ 2) : s.codeCheck k = (foundBy k, s) := by
  match k, h with
  | 0, _ | 1, _ | 2, _ => rfl

/-- A code with at most one wrong bit leaves nothing of the error in its range. -/
theorem codeKept_zero {err : BitVec 572} {second : Bool} (h : codeErrors err second ≤ 1) :
    err &&& (if foundBy (codeErrors err second) = .corrected then 0 else codeRange second) = 0 := by
  rcases Nat.le_one_iff_eq_zero_or_eq_one.1 h with h0 | h1
  · rw [h0, if_neg (by decide), codeErrors_zero h0]
  · rw [h1, if_pos (by decide)]
    exact BitVec.and_zero

section check
variable (s : State) (n : Nat) (tok : Token) {err : BitVec 572}

/-- The check of a token with at most two wrong bits in each code. -/
theorem State.checkToken_small (ha : codeErrors err false ≤ 2) (hb : codeErrors err true ≤ 2) :
    let a := foundBy (codeErrors err false)
    let b := foundBy (codeErrors err true)
    let keep (e : Ecc) (second : Bool) : BitVec 572 := if e = .corrected then 0 else codeRange second
    let t := tokenHit tok (err &&& (keep a false ||| keep b true))
    s.checkToken n tok err =
      if a = .uncorrectable ∨ b = .uncorrectable then
        ({ t with poison := true }, ((s.count (coreKey n rLAT_ECC) 47 24 1).coreStat n rLAT_STATUS 3).coreRec sevDegraded 6 3 n)
      else if a = .corrected ∨ b = .corrected then
        (t, if decide (s.regField (coreKey n rLAT_ECC) 23 0 = 0) then ((s.count (coreKey n rLAT_ECC) 23 0 1).coreStat n rLAT_STATUS 2).coreRec sevCorrected 6 2 n
          else (s.count (coreKey n rLAT_ECC) 23 0 1).coreStat n rLAT_STATUS 2)
      else (t, s) := by
  simp only [State.checkToken, State.codeCheck_small s ha, State.codeCheck_small s hb]

/-- A token with at most one wrong bit in each code is restored. -/
theorem State.checkToken_restored (ha : codeErrors err false ≤ 1) (hb : codeErrors err true ≤ 1) : (s.checkToken n tok err).1 = tok := by
  have hkeep : err &&& ((if foundBy (codeErrors err false) = .corrected then 0 else codeRange false) |||
      (if foundBy (codeErrors err true) = .corrected then 0 else codeRange true)) = 0 := by
    rw [BitVec.and_or_distrib_left, codeKept_zero ha, codeKept_zero hb]
    exact BitVec.or_zero
  have hsmall {k : Nat} (h : k ≤ 1) : foundBy k ≠ .uncorrectable := by
    rcases Nat.le_one_iff_eq_zero_or_eq_one.1 h with rfl | rfl <;> decide
  rw [State.checkToken_small s n tok (by omega) (by omega)]
  simp only [hkeep, tokenHit_zero, hsmall ha, hsmall hb, or_self, if_false]
  split <;> rfl

end check

/-- What the check of the codes leaves of a token, and what it records. -/
theorem tokenCodes_areChecked : Claims.TokenCodesAreChecked := by
  intro n tok err s
  dsimp only
  refine ⟨fun ha hb => State.checkToken_restored s n tok ha hb, fun ha hb => ?_, fun ha hb hne => ?_, fun ha hb htwo => ?_⟩
  · rw [State.checkToken_small s n tok (by omega) (by omega), ha, hb]
    rfl
  · have hone : foundBy (codeErrors err false) = .corrected ∨ foundBy (codeErrors err true) = .corrected := by
      rcases Nat.le_one_iff_eq_zero_or_eq_one.1 ha with h | h
      · rw [show codeErrors err true = 1 by omega]
        exact .inr rfl
      · rw [h]
        exact .inl rfl
    have hsmall {k : Nat} (h : k ≤ 1) : foundBy k ≠ .uncorrectable := by
      rcases Nat.le_one_iff_eq_zero_or_eq_one.1 h with rfl | rfl <;> decide
    rw [State.checkToken_small s n tok (by omega) (by omega)]
    simp only [hsmall ha, hsmall hb, or_self, if_false, hone, if_true, State.coreStat]
  · have huc : foundBy (codeErrors err false) = .uncorrectable ∨ foundBy (codeErrors err true) = .uncorrectable :=
      htwo.imp (fun h => by rw [h]; rfl) (fun h => by rw [h]; rfl)
    rw [State.checkToken_small s n tok ha hb]
    simp only [huc, if_true]
    exact ⟨trivial, rfl⟩

/-- A token without wrong bits passes its check. -/
theorem State.checkToken_clean (s : State) (n : Nat) (tok : Token) : s.checkToken n tok 0 = (tok, s) := by
  have h (b : Bool) : codeErrors 0 b = 0 := by cases b <;> simp [codeErrors, popCount_eq_zero]
  refine Prod.ext (State.checkToken_restored s n tok (by rw [h]; exact Nat.zero_le 1) (by rw [h]; exact Nat.zero_le 1)) ?_
  exact (tokenCodes_areChecked n tok 0 s).2.1 (h false) (h true)

/-! ## Arrival (R196, R208) -/

section enqueue
variable {s : State} {c i : Nat} {tok : Token}

/-- An item is of the epoch that its link takes next. -/
def fitsLink (l : Link) (tok : Token) : Prop := ∀ e, l.tailEpoch = some e → tok.epoch.toNat = if tok.marker then (e + 1) % 8 else e

/-- The check of an item's epoch. -/
theorem wrongEpoch_iff (l : Link) (tok : Token) : (match l.tailEpoch with
    | none => false
    | some e => if tok.marker then decide (tok.epoch.toNat ≠ (e + 1) % 8) else decide (tok.epoch.toNat ≠ e)) = true ↔ ¬fitsLink l tok := by
  rw [fitsLink]
  cases l.tailEpoch with
  | none => simp
  | some e => cases tok.marker <;> simp

/-- An item of another epoch is a protocol error. -/
theorem State.enqueue_wrong (h : ¬fitsLink ((s.core c).link i) tok) : s.enqueue c i tok = s.epochError c :=
  if_pos ((wrongEpoch_iff _ _).2 h)

/-- An item of the link's epoch joins its queue. -/
theorem State.enqueue_fits (h : fitsLink ((s.core c).link i) tok) : s.enqueue c i tok =
    let l := (s.core c).link i
    let m := { l with queue := l.queue ++ [itemOf tok], hwm := max l.hwm (l.queue.length + 1), received := l.received + b2n (!tok.marker) }
    let u := s.modCore c (fun k => k.setLink i m)
    if tok.marker then u else (u.count (coreKey c (rLAT_CNTi + 8 * i)) 31 0 1).event c (0x0E + i) 1 := by
  have hok : ¬(match ((s.core c).link i).tailEpoch with
    | none => false
    | some e => if tok.marker then decide (tok.epoch.toNat ≠ (e + 1) % 8) else decide (tok.epoch.toNat ≠ e)) = true :=
    fun hw => (wrongEpoch_iff _ _).1 hw h
  refine (if_neg hok).trans ?_
  simp only [List.length_append, List.length_singleton]

end enqueue

/-- TOKEN_ARRIVE by what reaches the link. -/
theorem tokens_arrive : Claims.TokensArrive := by
  intro c d err s
  dsimp only
  rw [exec_tokenArrive, execTokenArrive]
  refine ⟨fun hnone => ?_, fun w hw => ?_⟩
  · simp only [hnone]
  simp only [hw]
  refine ⟨fun hp => if_pos (by simp [hp]), fun hp hs => ?_, fun hp hs hfull => ?_, fun hp hs hroom => ⟨?_, ?_⟩⟩
  · rw [if_neg (by simp [hp]), if_pos hs]
  · rw [if_neg (by simp [hp]), if_neg (by simp [hs]), if_pos hfull]
  · rw [if_neg (by simp [hp]), if_neg (by simp [hs]), if_neg (Nat.not_le.2 hroom)]
  · rintro rfl
    rw [if_neg (by simp [hp]), if_neg (by simp [hs]), if_neg (Nat.not_le.2 hroom), State.checkToken_clean]
    refine ⟨fun hw => congrArg _ (State.enqueue_wrong hw), fun hw hm => ?_, fun hw hm => ?_⟩
    · rw [State.enqueue_fits hw]
      simp only [hm, Bool.not_true, show b2n false = 0 from rfl, if_true]
    · rw [State.enqueue_fits hw]
      simp only [hm, Bool.not_false, show b2n true = 1 from rfl, Bool.false_eq_true, if_false]

/-! ## Dispatch and bypass (R191, R201, R202, R205) -/

/-- The head of an input queue goes to the destinations that it is owed to, or that the program names. -/
theorem State.dispatchIn_to {s : State} {n i : Nat} {tok : Token} {rest : List LatItem} {dests : List Nat} (hq : ((s.core n).link i).queue = .data tok :: rest)
    (hd : ((s.core n).link i).owed = some dests ∨ (((s.core n).link i).owed = none ∧
      (Prog.sel (((s.core n).link i).dispatch i) ((s.core n).link i).inProg).map destList = some dests)) :
    let r := s.deliver n i (((s.core n).link i).received + 1 - dataCount ((s.core n).link i).queue) tok dests
    s.dispatchIn n i = r.1.modCore n (fun c =>
      if r.2.isEmpty then c.setLink i { c.link i with queue := rest, owed := none, inProg := Prog.step ((c.link i).dispatch i) (c.link i).inProg }
      else c.setLink i { c.link i with owed := some r.2 }) := by
  rcases hd with h | ⟨h, hsel⟩
  · simp only [State.dispatchIn, hq, h]
    rfl
  · simp only [State.dispatchIn, hq, h, hsel]
    rfl

/-- TOKEN_DISPATCH and BYPASS_FORWARD. -/
theorem tokens_moveOn : Claims.TokensMoveOn := by
  intro c s
  dsimp only
  simp only [exec_tokenDispatch, execTokenDispatch, exec_bypassForward, execBypassForward]
  refine ⟨fun d tok rest dests hstop hq hdest => ?_, fun x hstop hx => ?_, fun d hstop => if_pos hstop, fun p west => ⟨fun hnone => ?_, fun w hw => ?_⟩⟩
  · rw [if_neg (by simp [hstop])]
    have hin := State.dispatchIn_to (s := s) (n := c) hq hdest
    dsimp only at hin
    rw [hin]
    refine ⟨fun hleft => ?_, fun hleft => ?_⟩
    · simp only [hleft, List.isEmpty_nil, if_true]
    · simp only [List.isEmpty_iff, hleft, if_false]
  · rw [if_neg (by simp [hstop])]
    rewrite [State.dispatchDrain, hx]
    rfl
  · rw [hnone]
  · rw [hw]
    exact ⟨fun h => if_neg (by simp [h]), fun h => if_pos h⟩

/-! ## Output registers (R194, R209, R210) -/

/-- The route of a link looks at no core. -/
theorem State.segFree_modCore (s : State) (n : Nat) (g : Core → Core) (l k : Nat) : (s.modCore n g).segFree l k = s.segFree l k := rfl

/-- A token that moves on a link changes no link and no wire. -/
theorem State.linkMoved_parts (s : State) (l n i : Nat) : ((s.linkMoved l).core n).link i = (s.core n).link i ∧ (s.linkMoved l).wires = s.wires := by
  have hmod (t : State) (m : Nat) : ((t.modCore m (fun c => { c with moved := t.ns })).core n).link i = (t.core n).link i := by
    rw [State.modCore, State.core_setCore]
    split
    next h => rw [h]; rfl
    next => rfl
  have hmod' (t : State) (m x : Nat) : ((t.modCore m (fun c => { c with moved := x })).core n).link i = (t.core n).link i := by
    rw [State.modCore, State.core_setCore]
    split
    next h => rw [h]; rfl
    next => rfl
  simp only [State.linkMoved]
  split
  · exact ⟨(hmod' _ _ _).trans (hmod' _ _ _), rfl⟩
  · exact ⟨hmod' _ _ _, rfl⟩

/-- An item that enters an output register. -/
theorem outputRegisters_hold : Claims.OutputRegistersHold := by
  intro n i x s hi hout
  dsimp only
  have hdiv : (n * 4 + i) / 4 = n := by omega
  have hmod : (n * 4 + i) % 4 = i := by omega
  obtain ⟨u, hu⟩ : ∃ u, s.modCore n (fun c => c.setLink i { c.link i with out := (c.link i).out ++ [x] }) = u := ⟨_, rfl⟩
  have hlink : (u.core n).link i = { (s.core n).link i with out := [x] } := by
    rw [← hu, State.modCore, State.core_setCore_same, Core.link_setLink, if_pos rfl, hout]
    rfl
  have hsteer : u.steered (n * 4 + i) = s.steered (n * 4 + i) := by rw [← hu]; rfl
  have hfree : u.segFree (n * 4 + i) 0 = s.segFree (n * 4 + i) 0 := by rw [← hu, State.segFree_modCore]
  have hwires : u.wires = s.wires := by rw [← hu]; rfl
  have hemit : s.emit n i x = if (s.steered (n * 4 + i)).isSome ∨ !s.segFree (n * 4 + i) 0 then u else
      { (u.modCore n (fun c => c.setLink i { (u.core n).link i with out := [] })).linkMoved (n * 4 + i) with
        wires := ((u.modCore n (fun c => c.setLink i { (u.core n).link i with out := [] })).linkMoved (n * 4 + i)).wires ++ [⟨n * 4 + i, 0, x⟩] } := by
    rw [State.emit, hu, linkId, State.pumpLink, hdiv, hmod]
    simp only [hlink, hsteer, hfree]
  refine ⟨fun hs hf => ?_, fun hor => ?_⟩
  · rw [hemit, if_neg (by simp [hs, hf])]
    obtain ⟨hl, hw⟩ := State.linkMoved_parts (u.modCore n (fun c => c.setLink i { (u.core n).link i with out := [] })) (n * 4 + i) n i
    refine ⟨?_, ?_⟩
    · show _ ++ _ = _
      rw [hw, ← hwires]
      rfl
    · refine (congrArg Link.out hl).trans ?_
      rw [State.modCore, State.core_setCore_same, Core.link_setLink, if_pos rfl]
  · have hstay : (s.steered (n * 4 + i)).isSome ∨ !s.segFree (n * 4 + i) 0 := hor.imp (fun h => Option.ne_none_iff_isSome.1 h) (fun h => by simp [h])
    rw [hemit, if_pos hstay]
    exact ⟨hwires, by rw [hlink], fun src => by simp [State.outReady, hlink]⟩

/-! ## Slack (R198, R199) -/

/-- LAT_SLACK_WRITE. -/
theorem slack_isGranted : Claims.SlackIsGranted := by
  intro who c d v s
  dsimp only
  intro ht
  have hadj : field v 7 0 = v.toNat % 256 := by simp [field, fieldN]
  rw [exec_latSlackWrite, execLatSlackWrite]
  refine ⟨fun h => next_gateReg ht ?_, fun h1 h2 => next_gateReg ht ?_⟩
  · simp only [State.writeSlack, hadj]
    rw [if_pos h, State.coreStat]
  · simp only [State.writeSlack, hadj]
    rw [if_neg (by omega)]

/-! ## Stalls and the forced drain (R211 to R215) -/

/-- The tokens discarded leave the cores. -/
theorem State.core_discardToken (s : State) (n k m : Nat) : (s.discardToken n k).core m = s.core m := by
  rw [State.discardToken]
  split
  · rfl
  · rw [State.coreStat, State.orReg, State.core_setReg]
    split <;> rw [State.count, State.setRegField, State.core_setReg]

/-- Windows that are dropped leave the links. -/
theorem Core.link_dropWindows (c : Core) (i : Nat) : c.dropWindows.link i = c.link i := by
  rw [Core.dropWindows]
  exact List.foldlRecOn (List.range 4) _ (motive := fun d : Core => d.link i = c.link i) rfl (fun d hd _ _ => hd)

/-- An input queue, an output register and the switches of a link, emptied. -/
def Core.emptied (c : Core) (i : Nat) : Link := { c.link i with queue := [], owed := none, pend := [], out := [] }

/-- The core after its lattice was told to drain. -/
theorem State.core_stopLattice_eq (s : State) (n : Nat) : (s.stopLattice n).core n =
    { ((List.range 4).foldl (fun c i => c.setLink i (c.emptied i)) (s.core n)).dropWindows with stopped := true, drained := false, drainToks := [] } := by
  rw [State.stopLattice, State.core_discardToken, State.core_setCore_same]
  rfl

/-- A lattice told to drain is stopped, not drained, and holds no drain token. -/
theorem State.core_stopLattice (s : State) (n : Nat) :
    ((s.stopLattice n).core n).stopped = true ∧ ((s.stopLattice n).core n).drained = false ∧ ((s.stopLattice n).core n).drainToks = [] := by
  rw [State.core_stopLattice_eq]
  exact ⟨rfl, rfl, rfl⟩

/-- A lattice told to drain holds nothing on its links. -/
theorem State.link_stopLattice (s : State) (n i : Nat) (hi : i < 4) :
    (((s.stopLattice n).core n).link i).queue = [] ∧ (((s.stopLattice n).core n).link i).out = [] ∧ (((s.stopLattice n).core n).link i).pend = [] := by
  have hlink : ((s.stopLattice n).core n).link i = (s.core n).emptied i := by
    have hrest (k : Core) : ({ k with stopped := true, drained := false, drainToks := [] } : Core).link i = k.link i := rfl
    rw [State.core_stopLattice_eq, hrest, Core.link_dropWindows, Core.link_foldl_setLink _ _ List.nodup_range, if_pos (List.mem_range.2 hi)]
    intro c k j x h
    rw [Core.emptied, Core.link_setLink, if_neg h]
    rfl
  rw [hlink]
  exact ⟨rfl, rfl, rfl⟩

/-- LATTICE_STALL, LAT_STOP_SET, LATTICE_DRAINED and LAT_STOP_CLEAR. -/
theorem lattice_stops : Claims.LatticeStops := by
  intro who c s
  dsimp only
  rw [exec_latticeStall, execLatticeStall, exec_latStopSet, execLatStopSet, exec_latticeDrained, execLatticeDrained, exec_latStopClear, execLatStopClear]
  refine ⟨fun h0 hh ht => ?_, fun h => ?_, fun ht hs => next_gateReg ht ?_, fun ht hs => next_gateReg ht ?_, ?_, fun hs hh => if_pos ?_,
    fun ht hs => next_gateReg ht ?_⟩
  · rw [if_neg (by simp [h0, hh, ht])]
    simp only [State.coreStat, Nat.reducePow]
  · rw [if_pos (by simpa using h)]
  · rw [if_neg (by simp [hs])]
  · rw [if_pos hs]
  · have hcore := State.core_stopLattice s c
    have hlink (i : Nat) (hi : i < 4) := State.link_stopLattice s c i hi
    obtain ⟨h1, h2, h3⟩ := hcore
    exact ⟨h1, h2, h3, hlink⟩
  · simp [hs, hh]
  · rw [if_pos hs]

/-- Settles O29: arrival, the check of codes, dispatch, registers, slack and stops, each by its own lemma. -/
theorem latticeTokensMove : Obligations.LatticeTokensMove :=
  ⟨tokens_arrive, tokenCodes_areChecked, tokens_moveOn, outputRegisters_hold, slack_isGranted, lattice_stops⟩


end Sys2Proof.Machine
end

section
/-! PROOFS. Ember checkpoints and the recovery of jobs (spec/13 R435 to R438). -/

namespace Sys2Proof.Machine

open Sys2Proof.Claims

/-! ## Checkpoints (R435, R436) -/

/-- EMBER at its issue. -/
theorem ember_issues (c : CoreId) (t : TaskSlot) (f : InsnBits) (s : State) (hi : Issues s c t 0x7C f) (hw : (s.task c t).wait = none) :
    let u := s.atIssue c t 0x7C f
    let p := (s.task c t).img.ember (fImm f % 2 ^ 16)
    let rs := (s.task c t).img.carried p.live p.pairs
    (u.emberDue c t f = false → exec (.ember c t f) s = .next (advance u c t)) ∧
    (u.emberDue c t f = true → (s.task c t).deps ≠ [] → exec (.ember c t f) s = .next (waitsOn u c t 0x7C f 1 0 0 true)) ∧
    (u.emberDue c t f = true → (s.task c t).deps = [] →
      (u.emberSeals c t rs = 0 → exec (.ember c t f) s = .next (waitsOn u c t 0x7C f 2 0 0 false)) ∧
      (u.emberSeals c t rs = 1 → exec (.ember c t f) s = .next (waitsOn u c t 0x7C f 1 0 0 true)) ∧
      (u.emberSeals c t rs = 2 → exec (.ember c t f) s = .next (u.freezeTask c t .recovery))) := by
  dsimp only
  have hwait : ((s.atIssue c t 0x7C f).task c t).wait = none := by rw [State.wait_atIssue, hw]
  rw [exec_ember, execEmber, hi.issue]
  simp only [tryEmber, State.img_atIssue, State.deps_atIssue, OfNat.zero_ne_ofNat, if_false, true_and]
  refine ⟨fun hdue => ?_, fun hdue hd => ?_, fun hdue hd => ?_⟩
  · rw [if_pos (by simp [hdue]), State.finish_done_eq]
  · rw [if_neg (by simp [hdue]), if_pos (by simp [hd]), State.finish_wait _ _ _ _ _ _ _ _ _ _ hwait rfl]
  · rw [if_neg (by simp [hdue]), if_neg (by simp [hd])]
    refine ⟨fun hs => ?_, fun hs => ?_, fun hs => ?_⟩
    · rw [hs]
      exact congrArg _ (State.finish_wait _ _ _ _ _ _ _ _ _ _ hwait rfl)
    · rw [hs]
      exact congrArg _ (State.finish_wait _ _ _ _ _ _ _ _ _ _ hwait rfl)
    · rw [hs]
      rfl

/-- EMBER at its issue and EMBER_WRITE_COMPLETE. -/
theorem checkpoints_areWritten : Claims.CheckpointsAreWritten := by
  intro c t f s
  refine ⟨ember_issues c t f s, fun w hphase hw hopc hstage hf => ?_, fun hphase ok => ?_⟩
  · dsimp only
    simp only [exec_emberWriteComplete, execEmberWriteComplete, hphase, hw, hopc, hstage, hf, ne_eq, not_true_eq_false, or_self, if_false]
    cases (s.task c t).emberHalf
    all_goals
      refine ⟨fun hbad hgo => ?_, fun hbad hgo ok => ?_, fun r hbad ok => ?_⟩
      · simp only [Nat.reducePow] at hbad hgo ⊢
        rw [hbad, hgo]
        exact ⟨rfl, rfl⟩
      · simp only [Nat.reducePow] at hbad hgo ⊢
        rw [hbad, hgo]
        rfl
      · rw [hbad]
        rfl
  · rw [exec_emberWriteComplete, execEmberWriteComplete]
    dsimp only
    split
    next h _ => exact absurd h hphase
    next => rfl

/-! ## Recovery of jobs (R437, R438) -/

/-- The forced drain of the lattice that a place's task owns. -/
def stopAt (s : State) (q : Nat × Nat) : State :=
  if (s.core q.1).owner = some q.2 ∧ (s.core q.1).stopped = false then (s.setReg (coreKey q.1 rLAT_CTRL) 1).stopLattice q.1 else s

/-- No place of a job awaits the map that is to place it. -/
theorem places_placed {j : Job} {s : State} (h : ∀ q ∈ j.places, s.awaitsMap q.1 = false) : (j.places.any (fun q => s.awaitsMap q.1)) = false := by
  simpa [List.any_eq_false] using h

/-- JOB_RECOVERY and RECOVERY_RESUME. -/
theorem jobs_recover : Claims.JobsRecover := by
  intro tag j s hj
  dsimp only
  have hstop : (fun (s : State) (q : Nat × Nat) =>
      if (s.core q.1).owner = some q.2 ∧ (!(s.core q.1).stopped) = true then (s.setReg (coreKey q.1 rLAT_CTRL) 1).stopLattice q.1 else s) = stopAt := by
    funext s q
    simp only [stopAt, Bool.not_eq_true']
  have hstop' : (fun (s : State) (q : Nat × Nat) =>
      if (s.core q.1).owner = some q.2 ∧ (s.core q.1).stopped = false then (s.setReg (coreKey q.1 rLAT_CTRL) 1).stopLattice q.1 else s) = stopAt := rfl
  rw [exec_jobRecovery, execJobRecovery, exec_recoveryResume, execRecoveryResume]
  simp only [hj, hstop, hstop', Nat.reducePow]
  refine ⟨fun hp hf hmap => ?_, fun h => ?_, fun hp hmap => ?_, fun hp => if_pos (.inl hp)⟩
  · rw [if_neg (by simp [hp, hf, places_placed hmap])]
    refine ⟨fun hgo => ?_, fun hgo hbad => ?_, fun hgo hbad hline => ?_, fun k hgo hbad hline => ?_⟩
    · rw [if_pos (by simp [hgo])]
    · rw [if_neg (by simp [hgo]), if_pos hbad]
    · rw [if_neg (by simp [hgo]), if_neg (by simp [hbad]), hline]
    · rw [if_neg (by simp [hgo]), if_neg (by simp [hbad]), hline]
  · rw [if_pos (h.imp_right (fun h => .inl (by simp [h])))]
  · rw [if_neg]
    simp only [hp, ne_eq, not_true_eq_false, false_or, List.any_eq_true, not_exists, not_and]
    intro q hq
    obtain ⟨h1, h2⟩ := hmap q hq
    simp [h1, h2]

/-- Settles O33: checkpoints and recoveries, each by its own lemma. -/
theorem checkpointsAndRecovery : Obligations.CheckpointsAndRecovery := ⟨checkpoints_areWritten, jobs_recover⟩

end Sys2Proof.Machine
end

section
/-! PROOFS. The rings of hearth and peat: requests, reads that wait for NOTICEs, and what stacks and channels report (spec/09 R276 to R295). -/

namespace Sys2Proof.Machine

open Sys2Proof.Claims

/-! ## Requests (R279, R283, R288 to R295) -/

section requests
variable {req : RingReq} {peat : Bool} {s : State}

/-- A request that has landed at a ring of its memory is served there. -/
theorem exec_ringAccess (hh : s.here req.pkt = true) (ht : s.ringTakes req.pkt peat = true) :
    exec (if peat then .peatAccess req else .hearthAccess req) s = .next (s.ringServe req) := by
  cases peat with
  | false => exact if_pos ⟨hh, ht⟩
  | true => exact if_pos ⟨hh, ht⟩

/-- A request whose range is no memory is refused. -/
theorem State.ringServe_refused (h : req.pkt.region = true ∨ s.memOk (field req.pkt.addr 47 0) req.pkt.len = false) :
    s.ringServe req = (s.take req.pkt).respond req.pkt .refused [] := by
  exact if_pos (h.imp_right (fun h => by rw [h]; rfl))

end requests

/-- HEARTH_ACCESS and PEAT_ACCESS by what the request meets. -/
theorem rings_serveMemory : Claims.RingsServeMemory := by
  intro req peat s hh ht
  dsimp only
  rw [exec_ringAccess hh ht]
  refine ⟨fun h => congrArg _ (State.ringServe_refused h), fun hreg hmem => ?_⟩
  have hok : ¬(req.pkt.region = true ∨ (!(s.memOk (field req.pkt.addr 47 0) req.pkt.len)) = true) := by simp [hreg, hmem]
  simp only [State.ringServe]
  rw [if_neg hok]
  generalize (s.take req.pkt).snooped (field req.pkt.addr 47 0) req.pkt.len (decide (req.pkt.type = .dmaWrite)) = g
  refine ⟨fun hr => ?_, fun hr hg => ?_, fun hr hg => ?_⟩
  · rw [if_pos hr]
  · rw [if_neg (by simp [hr]), if_pos (by simp [hg])]
  · rw [if_neg (by simp [hr]), if_neg (by simp [hg])]
    cases g.2.pool.nameOf (field req.pkt.addr 47 0) with
    | none =>
      dsimp only
      refine ⟨fun hdead => ?_, fun hdead hw => ⟨fun _ => ?_, fun n hn => by cases hn⟩, fun hdead hw => ?_⟩
      · rw [if_pos (by simpa using hdead)]
      · rw [if_neg (by simpa using hdead), if_pos hw]
      · rw [if_neg (by simpa using hdead), if_neg (by simp [hw])]
        exact ⟨fun h => by rewrite [h]; rfl, fun x h => by rewrite [h]; rfl, fun h => by rewrite [h]; rfl⟩
    | some n =>
      dsimp only
      refine ⟨fun hdead => ?_, fun hdead hw => ⟨fun hm => ?_, fun k hk hm => ?_⟩, fun hdead hw => ?_⟩
      · rw [if_pos (by simpa using hdead)]
      · rw [if_neg (by simpa using hdead), if_pos hw, if_neg (by simp [hm n rfl])]
      · cases hk
        rw [if_neg (by simpa using hdead), if_pos hw, if_pos hm]
      · rw [if_neg (by simpa using hdead), if_neg (by simp [hw])]
        exact ⟨fun h => by rewrite [h]; rfl, fun x h => by rewrite [h]; rfl, fun h => by rewrite [h]; rfl⟩

/-- A read whose every line is good. -/
theorem State.lineRead_good {s : State} {a len : Nat} (h : ∀ g ∈ s.linesOf a len, g ∉ s.badLines ∧ s.chanFailed g = false) :
    s.lineRead a len = (some (s.bytes a len), s) := by
  have hbad : (s.linesOf a len).filter (fun g => s.badLines.contains g) = [] := by
    rw [List.filter_eq_nil_iff]
    exact fun g hg => by simpa using (h g hg).1
  have hchan : (s.linesOf a len).any s.chanFailed = false := by
    rw [List.any_eq_false]
    exact fun g hg => by simp [(h g hg).2]
  simp only [State.lineRead, hbad, hchan]
  rfl

/-- Reads and writes that meet no uncorrectable line. -/
theorem rings_moveBytes : Claims.RingsMoveBytes := by
  intro p s
  dsimp only
  refine ⟨fun h => ?_, fun h => ?_⟩
  · have hnote : s.noteErrs (field p.addr 47 0) p.len [] = s := rfl
    rw [State.serveRead]
    simp only [hnote, State.lineRead_good h]
  · rw [State.serveWrite]
    simp only [h, Bool.false_eq_true, if_false]

/-- NOTICE_ACKNOWLEDGED at a directory and at a core. -/
theorem noticedReads_areServed : Claims.NoticedReadsAreServed := by
  intro d i k s hu
  rw [exec_noticeAcknowledged, execNoticeAcknowledged]
  simp only [hu]
  refine ⟨fun hp => ?_, fun r v hp hi => ?_, fun r v ps hp hi hps => ?_, fun r v hp hi hps => ?_⟩
  · rw [hp]
  · rw [hp]
    exact if_neg (Nat.not_lt.2 hi)
  · rw [hp]
    simp only [if_pos hi, hps]
  · rw [hp]
    simp only [if_pos hi, hps]

/-- A stack's counts and temperature once a report is shown (R280). -/
def State.tempShown (s : State) (k : StackId) (t : BitVec 8) (rows errors : BitVec 32) : State :=
  let key := stackKey k rHTH_Ss_STATE
  let e := (s.count (stackKey k rHTH_Ss_ECS) 63 32 rows.toNat).count (stackKey k rHTH_Ss_ECS) 31 0 errors.toNat
  e.setReg key (setBit (setField (e.reg key) 31 24 t.toNat) 3 (decide (85 < t.toNat)))

/-- A change of the tier engine leaves the registers. -/
theorem State.reg_withTier (u : State) (x : Tier) (k : Nat) : ({ u with tier := x } : State).reg k = u.reg k := rfl

section report
variable (s : State) (k : StackId) (t : BitVec 8) (rows errors : BitVec 32)

/-- What a report shows leaves the tier engine and the limits that were met. -/
theorem State.tempShown_tier : (s.tempShown k t rows errors).tier = s.tier := by
  have htier (u : State) (k : Nat) (v : Word) : (u.setReg k v).tier = u.tier := rfl
  simp only [State.tempShown, State.count, State.setRegField, htier]

/-- A report at the stack's limit. -/
theorem hbmTempReport_limit : exec (.hbmTempReport k t ⟨true, rows, errors⟩) s =
    let u := s.tempShown k t rows errors
    .next ((({ u with tier := { u.tier with hot := tset (fun _ => 0) u.tier.hot k (t.toNat + 1) } }.setReg (stackKey k rHTH_Ss_STATE)
      (setBit (u.reg (stackKey k rHTH_Ss_STATE)) 2 true)).orReg (dieKey (k.val / 3) rHTH_STATUS) (2 ^ (4 * (k.val % 3) + 2))).orReg
        (dieKey (k.val / 3) rPWR_STATUS) (2 ^ 5)) := by
  rw [exec_hbmTempReport, execHbmTempReport]
  dsimp only
  rw [if_pos rfl, ← State.reg_withTier (s.tempShown k t rows errors) { (s.tempShown k t rows errors).tier with
    hot := tset (fun _ => 0) (s.tempShown k t rows errors).tier.hot k (t.toNat + 1) }]
  rfl

/-- A report below the stack's limit. -/
theorem hbmTempReport_below : exec (.hbmTempReport k t ⟨false, rows, errors⟩) s =
    let u := s.tempShown k t rows errors
    if tget (fun _ => 0) u.tier.hot k ≠ 0 ∧ t.toNat + 4 ≤ tget (fun _ => 0) u.tier.hot k then
      .next ({ u with tier := { u.tier with hot := tset (fun _ => 0) u.tier.hot k 0 } }.setReg (stackKey k rHTH_Ss_STATE)
        (setBit (u.reg (stackKey k rHTH_Ss_STATE)) 2 false))
    else .next u := by
  rw [exec_hbmTempReport, execHbmTempReport]
  rfl

end report

/-- HBM_TEMP_REPORT, PATROL_SCRUB_PASS, PPR_COMPLETE and PEAT_CHANNEL_FAILURE. -/
theorem stacksAndChannels_report : Claims.StacksAndChannelsReport := by
  intro s
  refine ⟨fun k t rows errors => ?_, fun ch n hn hon hch hbad => ?_, fun ch ok => ⟨fun h => ?_, fun h => ?_⟩, fun ch => ⟨fun hin hout => ?_, fun h => ?_⟩⟩
  · refine ⟨fun h => ?_, fun h0 hle => ?_, hbmTempReport_limit s k t rows errors⟩
    · rw [hbmTempReport_below]
      dsimp only
      rw [State.tempShown_tier, if_neg]
      · rfl
      · rintro ⟨h0, hle⟩
        rcases h with h | h
        · exact h0 h
        · exact absurd hle (Nat.not_le.2 h)
    · rw [hbmTempReport_below]
      dsimp only
      rw [if_pos]
      · rfl
      · rw [State.tempShown_tier]
        exact ⟨h0, hle⟩
  · have hnone : s.badLines.filter (fun g => s.onChannel ch g) = [] := List.filter_eq_nil_iff.2 (fun g hg => by simp [hbad g hg])
    rw [exec_patrolScrubPass, execPatrolScrubPass]
    simp only [List.map_nil, List.filter_nil, List.eraseDups_nil, List.append_nil, if_neg hn]
    rw [if_neg (by simp [hon, hch])]
    have hreg (u : State) (k : Nat) (v : Word) : (u.setReg k v).badLines.filter (fun g => (u.setReg k v).onChannel ch g) =
        u.badLines.filter (fun g => u.onChannel ch g) := rfl
    simp only [State.orReg, State.count, State.setRegField, hreg, hnone, List.foldl_nil]
  · rw [exec_pprComplete, execPprComplete]
    exact if_pos h
  · rw [exec_pprComplete, execPprComplete]
    exact if_neg (by simp [h])
  · rw [exec_peatChannelFailure, execPeatChannelFailure]
    exact if_pos ⟨by simpa using hin, by simpa using hout⟩
  · rw [exec_peatChannelFailure, execPeatChannelFailure]
    refine if_neg ?_
    rintro ⟨h1, h2⟩
    rcases h with h | h
    · exact h (by simpa using h1)
    · simp [h] at h2

/-- Settles O34: requests, their bytes, noticed reads and reports, each by its own lemma. -/
theorem memoriesServe : Obligations.MemoriesServe := ⟨rings_serveMemory, rings_moveBytes, noticedReads_areServed, stacksAndChannels_report⟩

/-! ## Heat (R293) -/

/-- The module at Stage 2 with the tier engine on, a pool of one name, and the line of the context block map that holds its entry uncorrectable. -/
def sweepOverBadMap : State :=
  { (State.reset.setRegField rBOOT_STAGE 2 0 2).orReg rTIER_STATUS (2 ^ 9) with
    pool := { Pool.zero with map := 0x1000000, hbase := 0x2000000, hsize := 65536 }, badLines := [0x1000000] }

/-- Bytes of memory that a command leaves written. -/
def bytesAfter : Host.Outcome State Fault Refusal → Nat
  | .next t => t.ram.length
  | _ => 0

/-- The sweep of that map finds the line, and its error record goes to the log ring. -/
theorem sweep_writes_log : twf mapIdentity sweepOverBadMap.tierMap = true ∧ bitOf (sweepOverBadMap.reg rTIER_STATUS) 9 = true ∧
    sweepOverBadMap.ram.length = 0 ∧ bytesAfter (exec (.heatDecayPeriod 0) sweepOverBadMap) ≠ 0 := by
  decide +kernel

/-- Refutes O35: the sweep that a decay makes reads the map (R293), a map line that reads uncorrectable is reported (R295), and from Stage 2 on the
report is a record in the log ring, so memory is not as it was. -/
theorem not_namesAreHeatedAndPinned : ¬ Obligations.NamesAreHeatedAndPinned := by
  rintro ⟨hdecay, -⟩
  obtain ⟨hwf, hon, hbefore, hafter⟩ := sweep_writes_log
  obtain ⟨t, ht, -, -, -, hram⟩ := hdecay 0 sweepOverBadMap hwf hon
  rw [ht, bytesAfter, hram] at hafter
  exact hafter hbefore

end Sys2Proof.Machine
end

section
/-! PROOFS. The swaps of the tier engine and its policy (spec/09 R293, R294, R308). -/

namespace Sys2Proof.Machine

open Sys2Proof.Claims

/-! ## Swaps (R294) -/

/-- A snoop takes no time. -/
theorem State.ns_snooped (s : State) (a len : Nat) (write : Bool) : (s.snooped a len write).2.ns = s.ns := by
  obtain ⟨r, l, h⟩ := State.snooped_parts s a len write
  rw [h]
  rfl

/-- An agent that may start a swap: the engine and the migration are on, no swap of its own runs, and the starts of the last millisecond leave one. -/
def State.maySwap (s : State) (d : Nat) : Prop :=
  bitOf (s.reg rTIER_POLICY) 63 = true ∧ bitOf (s.reg rTIER_STATUS) 9 = true ∧ (s.agent d).swap = none ∧
    (s.tier.starts.filter (fun x => decide (s.ns < x + 1000000))).length < s.regField rTIER_POLICY 47 32 ∧ s.computeReset = false

section starts
variable {s : State} {d v : DieId} {b x : Nat} {ps vs : List Nat}

/-- What keeps an agent from starting a swap. -/
theorem State.maySwap_iff : (!bitOf (s.reg rTIER_POLICY) 63) = true ∨ (!bitOf (s.reg rTIER_STATUS) 9) = true ∨ (s.agent d).swap.isSome = true ∨
    s.regField rTIER_POLICY 47 32 ≤ (s.tier.starts.filter (fun x => decide (s.ns < x + 1000000))).length ∨ s.computeReset = true ↔ ¬s.maySwap d := by
  simp only [State.maySwap, not_and_or, Bool.not_eq_true', Option.isSome_iff_ne_none, ne_eq, Nat.not_lt, Bool.not_eq_true, Bool.not_eq_false]

/-- SWAP_START where no swap may start. -/
theorem swapStart_stays (h : ¬s.maySwap d) : exec (.swapStart d v) s = .next s := by
  rw [exec_swapStart, execSwapStart]
  exact if_pos (State.maySwap_iff.2 h)

/-- SWAP_START of a head that no longer calls for a swap. -/
theorem swapStart_promoted (h : s.maySwap d) (hp : (s.agent d).promote = b :: ps) (hb : s.inHearth b = true ∨ s.pinned b = true) :
    exec (.swapStart d v) s = .next (s.setAgent d { s.agent d with promote := ps }) := by
  rw [exec_swapStart, execSwapStart]
  dsimp only
  rw [if_neg (fun hn => State.maySwap_iff.1 hn h), hp]
  exact if_pos hb

/-- SWAP_START of a victim that is none any more. -/
theorem swapStart_victim (h : s.maySwap d) (hp : (s.agent d).promote = b :: ps) (h1 : s.inHearth b = false) (h2 : s.pinned b = false)
    (hv : (s.agent v).victims = x :: vs) (hx : s.inHearth x = false ∨ s.pinned x = true) :
    exec (.swapStart d v) s = .next (s.setAgent v { s.agent v with victims := vs }) := by
  rw [exec_swapStart, execSwapStart]
  dsimp only
  rw [if_neg (fun hn => State.maySwap_iff.1 hn h), hp]
  dsimp only
  rw [if_neg (by simp [h1, h2]), hv]
  exact if_pos (hx.imp_left (fun h => by simp [h]))

/-- SWAP_START of two names that may move and that the host holds no line of. -/
theorem swapStart_starts (h : s.maySwap d) (hp : (s.agent d).promote = b :: ps) (h1 : s.inHearth b = false) (h2 : s.pinned b = false)
    (hv : (s.agent v).victims = x :: vs) (hx : s.inHearth x = true) (hxp : s.pinned x = false) (hmb : s.mayMove b = true) (hmx : s.mayMove x = true)
    (hg1 : (s.snooped (s.nameAddr b) 65536 true).1 = true)
    (hg2 : ((s.snooped (s.nameAddr b) 65536 true).2.snooped (s.nameAddr x) 65536 true).1 = true) :
    let s2 := ((s.snooped (s.nameAddr b) 65536 true).2.snooped (s.nameAddr x) 65536 true).2
    let u := s2.setAgent v { s2.agent v with victims := vs }
    let q := u.setAgent d { u.agent d with promote := ps, swap := some ⟨x, b, false, false, []⟩ }
    exec (.swapStart d v) s = .next { (q.setMoving x true).setMoving b true with
      tier := { q.tier with starts := s.tier.starts.filter (fun x => decide (s.ns < x + 1000000)) ++ [s.ns] } } := by
  have hns : ((s.snooped (s.nameAddr b) 65536 true).2.snooped (s.nameAddr x) 65536 true).2.ns = s.ns := by rw [State.ns_snooped, State.ns_snooped]
  rw [exec_swapStart, execSwapStart]
  dsimp only
  rw [if_neg (fun hn => State.maySwap_iff.1 hn h), hp]
  dsimp only
  rw [if_neg (by simp [h1, h2]), hv]
  dsimp only
  rw [if_neg (by simp [hx, hxp]), if_neg (by simp [hmb, hmx]), if_neg (by simp [hg1, hg2])]
  have hagent (t : State) (d : Nat) (a : Agent) : (t.setAgent d a).ns = t.ns := rfl
  simp only [hagent, hns]

end starts

/-! ## The end of a swap -/

section ends
variable {s : State} {d : DieId} {w : Swap} {errs : LineErrs}

/-- A name that a failed swap pins where it is. -/
def State.keepsName (s : State) (i : Nat) : State :=
  let v := s.setPin i true
  { v with tier := { v.tier with enginePins := if v.tier.enginePins.contains i then v.tier.enginePins else v.tier.enginePins ++ [i] } }

/-- What the end of a swap does once its names have moved or stayed. -/
def State.swapEnds (v : State) (d : Nat) (w : Swap) : State :=
  let v := (v.setMoving w.a false).setMoving w.b false
  let v := if w.pinA then v.setPin w.a true else v
  let v := if w.pinB then v.setPin w.b true else v
  w.held.foldl (fun s h => s.applyHeld h) (v.setAgent d { v.agent d with swap := none })

/-- SWAP_COMPLETE once no row of the two names is under repair. -/
theorem exec_swapComplete_ends (hs : (s.agent d).swap = some w) (ha : s.repairHeld (s.nameAddr w.a) 65536 = false)
    (hb : s.repairHeld (s.nameAddr w.b) 65536 = false) :
    let u := (s.noteErrs (s.nameAddr w.a) 65536 errs).noteErrs (s.nameAddr w.b) 65536 errs
    let fa := field (u.mapEntry w.a) 26 0
    let fb := field (u.mapEntry w.b) 26 0
    let found := (u.frameUes fa ++ u.frameUes fb).foldl (fun s g => s.lineUe g) u
    exec (.swapComplete ⟨d, errs⟩) s = .next ((if u.frameBad fa = true ∨ u.frameBad fb = true then
      let v := if u.frameBad fa then found.keepsName w.a else found
      let v := if u.frameBad fb then v.keepsName w.b else v
      (v.tierStat 7).record ⟨sevDegraded, 13, 7, 3, d.val, 0, 0, 0, 0⟩
      else (((found.exchange w.a w.b).count rTIER_CNT 63 32 1).dieEvent d 0x06 0 1).promoted w.b).swapEnds d w) := by
  rw [exec_swapComplete, execSwapComplete]
  simp only [hs]
  rw [if_neg (by simp [ha, hb])]
  rfl

end ends

/-- A frame whose staging read succeeds has no uncorrectable line. -/
theorem State.frameUes_nil {s : State} {j : Nat} (h : s.frameBad j = false) : s.frameUes j = [] := by
  have h' : (s.frameUes j).isEmpty = true := by
    simp only [State.frameBad, Bool.or_eq_false_iff, Bool.not_eq_false'] at h
    exact h.1
  exact List.isEmpty_iff.1 h'

/-- SWAP_START and SWAP_COMPLETE. -/
theorem swaps_run : Claims.SwapsRun := by
  intro d s
  dsimp only
  refine ⟨fun v b x ps vs hmay hp => ⟨fun hb => swapStart_promoted hmay hp hb, fun h1 h2 hv => ⟨fun hx => swapStart_victim hmay hp h1 h2 hv hx,
    fun hx hxp hmb hmx hg1 hg2 => swapStart_starts hmay hp h1 h2 hv hx hxp hmb hmx hg1 hg2⟩⟩, fun v hmay => swapStart_stays hmay, fun errs hnone => ?_,
    fun w errs hs hheld => ?_, fun w errs hs ha hb => ⟨fun hfa hfb => ?_, fun hbad => ?_⟩⟩
  · rw [exec_swapComplete, execSwapComplete]
    simp only [hnone]
  · rw [exec_swapComplete, execSwapComplete]
    simp only [hs]
    exact if_pos hheld
  · have h := exec_swapComplete_ends (errs := errs) hs ha hb
    dsimp only at h
    rw [h, if_neg (by simp [hfa, hfb]), State.frameUes_nil hfa, State.frameUes_nil hfb]
    rfl
  · have h := exec_swapComplete_ends (errs := errs) hs ha hb
    dsimp only at h
    rw [h, if_pos hbad]
    rfl

/-! ## The policy (R308) -/

/-- TIER_POLICY_WRITE by the fields of its value. -/
theorem tier_policies : Claims.TierPolicies := by
  intro who v s ht
  have h1 : field v 47 32 = v.toNat / 2 ^ 32 % 2 ^ 16 := by simp [field, fieldN, Nat.shiftRight_eq_div_pow]
  have h2 : field v 15 8 = v.toNat / 2 ^ 8 % 2 ^ 8 := by simp [field, fieldN, Nat.shiftRight_eq_div_pow]
  have h3 : field v 7 0 = v.toNat % 2 ^ 8 := by simp [field, fieldN]
  have h4 : field v 31 16 = v.toNat / 2 ^ 16 % 2 ^ 16 := by simp [field, fieldN, Nat.shiftRight_eq_div_pow]
  rw [exec_tierPolicyWrite, execTierPolicyWrite]
  refine ⟨fun hf => next_gateReg ht ?_, fun hf => next_gateReg ht ?_⟩
  · simp only [h1, h2, h3, h4]
    exact if_pos hf
  · simp only [h1, h2, h3, h4]
    exact if_neg hf

/-- Settles O36: swaps and the policy, each by its own lemma. -/
theorem swapsAndPolicies : Obligations.SwapsAndPolicies := ⟨swaps_run, tier_policies⟩

end Sys2Proof.Machine
end

section
/-! PROOFS. Prefetch descriptors of the tier engine and peat scans (spec/09 R296 to R307). -/

namespace Sys2Proof.Machine

open Sys2Proof.Claims

/-! ## A block's read takes no time -/

/-- A record takes no time. -/
theorem State.ns_record (s : State) (b : RecBody) : (s.record b).ns = s.ns := by
  obtain ⟨r, m, t, l, w, c, q, e, n, p, j, h⟩ := State.record_parts s b
  rw [h]
  rfl

/-- An event takes no time. -/
theorem State.ns_event (s : State) (n code k : Nat) : (s.event n code k).ns = s.ns := by
  obtain ⟨r, h⟩ := State.event_regs s n code k
  rw [h]
  rfl

/-- Corrected words take no time. -/
theorem State.ns_noteCeN (s : State) (n k : Nat) : (s.noteCeN n k).ns = s.ns := by
  rw [State.noteCeN]
  split
  · rfl
  · rw [State.coreRec, State.ns_record, State.ns_event, State.coreStat, State.orReg, State.ns_setReg, State.count, State.setRegField, State.ns_setReg]

/-- Corrected words of pieces take no time. -/
theorem State.ns_pieceCe (s : State) (n : Nat) (ps : List (Nat × Nat)) : (s.pieceCe n ps).ns = s.ns := by
  induction ps generalizing s with
  | nil => rfl
  | cons p ps ih => rw [State.pieceCe, ih, State.noteCe, State.ns_noteCeN]

/-- A read of a task takes no time. -/
theorem State.ns_taskRead {s v : State} {n t len : Nat} {addr : Word} {i : SpadInit} {b : Bytes} (h : s.taskRead n t addr len i = .ok v b) : v.ns = s.ns := by
  rw [State.taskRead] at h
  split at h
  · cases h
  · cases h
  · split at h
    · cases h
    · injection h with hs
      rw [← hs, State.ns_pieceCe]

/-- A block's read takes no time. -/
theorem State.ns_block {s v : State} {n t len : Nat} {addr : Word} {b : Bytes} (h : s.block n t addr len = .ok v b) : v.ns = s.ns := by
  rw [State.block] at h
  split at h
  · cases h
  · exact State.ns_taskRead h

/-! ## TPREF (R296) -/

/-- TPREF by its block. -/
theorem tpref_gives (c : CoreId) (t : TaskSlot) (f : InsnBits) (s v w : State) (b0 b : Bytes) (hi : Issues s c t 0x5A f) :
    let addr := (s.task c t).areg (fA f) + BitVec.ofInt 64 (BitVec.ofNat 32 (fImm f)).toInt
    let die := c.val / 128
    let op := leAt b0 0 1
    (s.atIssue c t 0x5A f).block c t addr 64 = .ok v b0 →
    (5 ≤ op → exec (.tpref c t f) s = .next (v.endTask c t 0x02 (insnWord 0x5A f))) ∧
    (op < 5 → v.block c t addr (if op = 4 then 128 else 64) = .ok w b →
      ((w.agent die).descs.length < 64 → exec (.tpref c t f) s = .next (advance (w.setAgent die { w.agent die with
        descs := (w.agent die).descs ++ [⟨c, t, (s.task c t).pc, b, [], false, 0, [], [], [], [], 0, 0, 0, [], false, []⟩] }) c t)) ∧
      (64 ≤ (w.agent die).descs.length → (w.task c t).wait = none → exec (.tpref c t f) s = .next (waitsOn w c t 0x5A f 0 0 0 false))) := by
  dsimp only
  rw [← fImm64_eq]
  intro hread
  have hex : exec (.tpref c t f) s = .next ((s.atIssue c t 0x5A f).finish c t 0x5A f (tryTpref c t f (s.atIssue c t 0x5A f))) := by
    rw [exec_tpref, execTpref, hi.issue]
  have haddr : ((s.atIssue c t 0x5A f).task c t).addrA f = (s.task c t).areg (fA f) + fImm64 f := by rw [Task.addrA, State.areg_atIssue]
  simp only [hex, tryTpref, haddr, hread, Acc.try_, State.lastWord_atIssue, State.pc_atIssue]
  refine ⟨fun h5 => ?_, fun h5 hread2 => ⟨fun hroom => ?_, fun hfull hw => ?_⟩⟩
  · rw [if_pos h5, State.finish_stop]
  · rw [if_neg (by omega), hread2]
    dsimp only
    rw [if_neg (show ¬maxDescs ≤ _ from Nat.not_le.2 hroom), State.finish_done_eq]
  · rw [if_neg (by omega), hread2]
    dsimp only
    rw [if_pos (show maxDescs ≤ _ from hfull), State.finish_wait _ _ _ _ _ _ _ _ _ _ hw ((State.ns_block hread2).trans (State.ns_block hread)).symm]

/-! ## COOL, PIN, UNPIN and PREFETCH (R297, R298) -/

section runs
variable {s : State} {d op k : Nat} {x : TierDesc} {errs : LineErrs} {awaits : State → Nat → Bool} {act : State → Nat → State}

/-- A descriptor that an agent opens. -/
theorem State.runDesc_opens (hon : bitOf (s.reg rTIER_STATUS) 9 = true) (hx : s.oldestDesc d op = some (k, x)) :
    let g := s.descReady x []
    let r := g.2.readList x errs
    let names := r.2.1.filterMap (fun e => r.2.2.entryName e)
    let bad := r.2.2.badEntries r.2.1
    let u := if bad = 0 then r.2.2 else r.2.2.orReg rTIER_STATUS (2 ^ 3)
    let wait := (names.filter (awaits u)).eraseDups
    let v := names.foldl (fun s n => s.actOn act n) u
    let y : TierDesc := { x with opened := true, marked := wait, badEntries := bad }
    (g.1 = false → s.runDesc d op errs awaits act = g.2) ∧
    (g.1 = true → r.1 ≠ 0 → s.runDesc d op errs awaits act = r.2.2.endDesc d k { x with result := r.1 }) ∧
    (g.1 = true → r.1 = 0 → wait = [] → s.runDesc d op errs awaits act = v.endDesc d k y) ∧
    (g.1 = true → r.1 = 0 → wait ≠ [] → s.runDesc d op errs awaits act = v.setDesc d k (some y)) := by
  dsimp only
  simp only [State.runDesc, hon, hx, Bool.not_true, Bool.false_eq_true, if_false]
  generalize s.descReady x [] = g
  obtain ⟨r1, es, u, hr⟩ : ∃ r1 es u, g.2.readList x errs = (r1, es, u) := ⟨_, _, _, rfl⟩
  simp only [hr]
  refine ⟨fun hg => if_pos (by simp [hg]), fun hg h1 => ?_, fun hg h1 hw => ?_, fun hg h1 hw => ?_⟩
  · rw [if_neg (by simp [hg])]
    obtain ⟨n, rfl⟩ : ∃ n, r1 = n + 1 := Nat.exists_eq_succ_of_ne_zero h1
    rfl
  · subst h1
    rw [if_neg (by simp [hg])]
    exact if_pos (List.isEmpty_iff.2 hw)
  · subst h1
    rw [if_neg (by simp [hg])]
    exact if_neg (fun h => hw (List.isEmpty_iff.1 h))

/-- The first of an agent's descriptors is the one that is ready. -/
theorem State.readyDesc_head {y : TierDesc} {ys : List TierDesc} {waits : State → Nat → Bool} (hd : (s.agent d).descs = y :: ys) (ho : y.opened = true)
    (hop : y.op = op) (hw : ∀ n ∈ y.marked, waits s n = false) : s.readyDesc d op waits = some (y, 0) := by
  have hall : y.marked.all (fun i => !waits s i) = true := List.all_eq_true.2 (fun n hn => by simp [hw n hn])
  rw [State.readyDesc, hd, List.zipIdx_cons, List.find?_cons_of_pos (by simp [ho, hop, hall])]

end runs

/-- TPREF, and the descriptors that act on names. -/
theorem prefetch_descriptors : Claims.PrefetchDescriptors := by
  refine ⟨fun c t f s v w b0 b hi _ => tpref_gives c t f s v w b0 b hi, fun d k x errs s hon => ?_⟩
  dsimp only
  have hruns {op : Nat} {awaits : State → Nat → Bool} {act : State → Nat → State} (hx : s.oldestDesc d op = some (k, x)) :=
    State.runDesc_opens (errs := errs) (awaits := awaits) (act := act) hon hx
  have hnext {u v : State} (h : u = v) : (.next u : Host.Outcome State Fault Refusal) = .next v := congrArg _ h
  refine ⟨fun hx => ?_, fun hx => ?_, fun hnone hx => ?_, fun hnone hx => ?_, fun y ys hd ho => ⟨fun hop hw => ?_, fun hop hw => ?_⟩⟩
  · obtain ⟨h1, h2, h3, h4⟩ := hruns (awaits := fun _ _ => false) (act := State.coolName) hx
    rw [exec_cool, execCool]
    exact ⟨fun a => hnext (h1 a), fun a b => hnext (h2 a b), fun a b e => hnext (h3 a b e), fun a b e => hnext (h4 a b e)⟩
  · obtain ⟨h1, h2, h3, h4⟩ := hruns (awaits := fun _ _ => false) (act := State.unpinName) hx
    rw [exec_unpin, execUnpin]
    exact ⟨fun a => hnext (h1 a), fun a b => hnext (h2 a b), fun a b e => hnext (h3 a b e), fun a b e => hnext (h4 a b e)⟩
  · obtain ⟨h1, h2, h3, h4⟩ := hruns (awaits := State.moving) (act := State.pinName) hx
    rw [exec_pin, execPin]
    simp only [hnone]
    exact ⟨fun a => hnext (h1 a), fun a b => hnext (h2 a b), fun a b e => hnext (h3 a b e), fun a b e => hnext (h4 a b e)⟩
  · obtain ⟨h1, h2, h3, h4⟩ := hruns (awaits := fun s n => !s.inHearth n && !s.mapUnusable n) (act := State.prefetchName) hx
    rw [exec_prefetch, execPrefetch]
    simp only [hnone]
    exact ⟨fun a => hnext (h1 a), fun a b => hnext (h2 a b), fun a b e => hnext (h3 a b e), fun a b e => hnext (h4 a b e)⟩
  · rw [exec_pin, execPin]
    simp only [State.readyDesc_head hd ho hop hw]
  · rw [exec_prefetch, execPrefetch]
    simp only [State.readyDesc_head hd ho hop hw]

/-! ## Scans (R299 to R307) -/

section scan
variable {d : DieId} {k : Nat} {x : TierDesc} {errs : LineErrs} {s : State}

/-- A name that is moving among the entries of a list. -/
theorem anyMoving_false {u : State} {es : List (Nat × Nat × Nat)} (h : ∀ e ∈ es, ∀ n, u.entryName e = some n → u.moving n = false) :
    es.any (fun e => ((u.entryName e).map u.moving).getD false) = false := by
  rw [List.any_eq_false]
  intro e he
  cases hn : u.entryName e with
  | none => simp
  | some n => simp [h e he n hn]

/-- SCAN by its list, its fields and its queries. -/
theorem scan_opens (hon : bitOf (s.reg rTIER_STATUS) 9 = true) (hx : s.oldestDesc d 4 = some (k, x)) :
    let h := s.descReady x []
    let r := h.2.readList x errs
    let stop (s : State) (code : Nat) : State := (s.endDesc d k { x with result := code }).count rTIER_CNT2 63 32 1
    (h.1 = false → exec (.scan ⟨d, errs⟩) s = .next h.2) ∧
    (h.1 = true → r.1 ≠ 0 → exec (.scan ⟨d, errs⟩) s = .next (stop r.2.2 r.1)) ∧
    (h.1 = true → r.1 = 0 → x.scanOk r.2.1 = false → exec (.scan ⟨d, errs⟩) s = .next (stop (r.2.2.orReg rTIER_STATUS (2 ^ 2)) 2)) ∧
    (h.1 = true → r.1 = 0 → x.scanOk r.2.1 = true → (∀ e ∈ r.2.1, ∀ n, r.2.2.entryName e = some n → r.2.2.moving n = false) →
      let q := (r.2.2.noteErrs (leAt x.desc 32 8) x.queryBytes errs).agentRead (leAt x.desc 32 8) x.queryBytes
      (q.1 = none → exec (.scan ⟨d, errs⟩) s = .next (stop q.2 3)) ∧
      (∀ b, q.1 = some b → q.2.badEntries r.2.1 = 0 →
        let v := (r.2.1.filterMap (fun e => q.2.entryName e)).foldl (fun s n => s.lookup n) q.2
        let marked := (List.range x.count).filter (fun i => v.assigned (r.2.1.getD i (0, 0, 0)))
        let y := { x with entries := r.2.1, opened := true, marked := marked, queries := b, badEntries := 0 }
        exec (.scan ⟨d, errs⟩) s = .next ((v.putStatus d y 1 marked).setDesc d k (some y)))) := by
  dsimp only
  rw [exec_scan, execScan]
  simp only [hon, hx, Bool.not_true, Bool.false_eq_true, if_false]
  generalize s.descReady x [] = g
  obtain ⟨r1, es, u, hr⟩ : ∃ r1 es u, g.2.readList x errs = (r1, es, u) := ⟨_, _, _, rfl⟩
  simp only [hr]
  refine ⟨fun hg => if_pos (by simp [hg]), fun hg h1 => ?_, fun hg h1 hok => ?_, fun hg h1 hok hm => ?_⟩
  · rw [if_neg (by simp [hg])]
    obtain ⟨n, rfl⟩ : ∃ n, r1 = n + 1 := Nat.exists_eq_succ_of_ne_zero h1
    rfl
  · subst h1
    rw [if_neg (by simp [hg])]
    exact if_pos (by simp [hok])
  · subst h1
    have hready : ¬(!g.1) = true := by simp [hg]
    have hfields : ¬(!x.scanOk es) = true := by simp [hok]
    have hstill : ¬es.any (fun e => ((u.entryName e).map u.moving).getD false) = true := by simp [anyMoving_false hm]
    simp only [if_neg hready, if_neg hfields, if_neg hstill]
    generalize (u.noteErrs (leAt x.desc 32 8) x.queryBytes errs).agentRead (leAt x.desc 32 8) x.queryBytes = q
    obtain ⟨qb, qs⟩ := q
    refine ⟨fun hq => ?_, fun b hq hbad => ?_⟩
    · dsimp only at hq
      rw [hq]
    · dsimp only at hq hbad
      rw [hq]
      simp only [hbad, if_true]

/-- A block whose every word is SEALED has no other. -/
theorem blockStates_sealed {w : Nat → Nat} {bs : List Nat} (h : ∀ j ∈ bs, w j = 1) :
    (bs.map w).any (fun v => decide (2 ≤ v)) = false ∧ (bs.map w).any (fun v => decide (v = 0)) = false := by
  constructor
  · rw [List.any_map, List.any_eq_false]
    exact fun j hj => by simp [h j hj]
  · rw [List.any_map, List.any_eq_false]
    exact fun j hj => by simp [h j hj]

/-- SCAN_BLOCK of an entry that is still to be scanned. -/
theorem scanBlock_entry {i : Fin 64} {b : Fin 4096} (hx : (s.agent d).descs[i.val]? = some x) (hop : x.op = 4) (ho : x.opened = true)
    (hm : b.val ∈ x.marked) (hd : b.val ∉ x.done) (hs : b.val ∉ x.skipped) :
    let e := x.entries.getD b.val (0, 0, 0)
    let ch := (s.peatPlace (s.phys e.1)).1
    let word := fun j => (s.sealUnit (512 + s.ringDie e.1)).blockState j
    ((∃ j ∈ blocksOf e.1 65536, 2 ≤ word j) → ∀ n, exec (.scanBlock d i b n errs) s =
      .next (s.setDesc d i (some { x with skipped := x.skipped ++ [b.val] }.partly))) ∧
    ((∀ j ∈ blocksOf e.1 65536, word j = 1) → s.repairHeld e.1 65536 = false → ch ∉ s.tier.scanOut →
      let g := s.descReady x [(e.1, 65536, false)]
      let u := ((g.2.noteErrs e.1 65536 errs).count (chanKey ch rPEAT_Cc_SCANCNT) 63 32 1).dieEvent (ch / 3) 0x08 (ch % 3) 1
      (g.1 = false → ∀ n, exec (.scanBlock d i b n errs) s = .next g.2) ∧
      (g.1 = true →
        (∀ blk, (u.ringRead e.1 65536).1 = some blk →
          let rows := (u.ringRead e.1 65536).2.scanRows x blk e.2.1 e.2.2 x.rows
          let put := rows.2.putRecords d x ch b.val rows.1
          exec (.scanBlock d i b 0 errs) s = .next (put.2.setDesc d i (some put.1))) ∧
        ((u.ringRead e.1 65536).1 = none →
          let put := (u.ringRead e.1 65536).2.putRecords d { x with ueBlocks := x.ueBlocks + 1 }.partly ch b.val x.nanRecords
          exec (.scanBlock d i b 0 errs) s = .next (put.2.setDesc d i (some put.1))))) := by
  have hgo : ¬(x.op ≠ 4 ∨ (!x.opened) = true ∨ (!x.marked.contains b.val) = true ∨ x.done.contains b.val = true ∨ x.skipped.contains b.val = true) := by
    simp [hop, ho, hm, hd, hs]
  rcases he : x.entries.getD b.val (0, 0, 0) with ⟨name, tok, pos⟩
  dsimp only
  have hscan (n : Fin 3) : exec (.scanBlock d i b n errs) s = execScanBlock d i b n errs s := by rw [exec_scanBlock]
  refine ⟨fun hbad n => ?_, fun hseal hheld hch => ?_⟩
  · obtain ⟨j, hj, h2⟩ := hbad
    have hany : ((blocksOf name 65536).map (s.sealUnit (512 + s.ringDie name)).blockState).any (fun v => decide (2 ≤ v)) = true :=
      List.any_eq_true.2 ⟨_, List.mem_map_of_mem hj, decide_eq_true h2⟩
    rw [hscan, execScanBlock, hx]
    show (if _ then _ else _) = _
    rw [if_neg hgo, he]
    show (if _ then _ else _) = _
    rw [if_pos hany]
  · obtain ⟨h1, h2⟩ := blockStates_sealed hseal
    have hgood : ¬((blocksOf name 65536).map (s.sealUnit (512 + s.ringDie name)).blockState).any (fun v => decide (2 ≤ v)) = true := Bool.eq_false_iff.1 h1
    have hopen : ¬(((blocksOf name 65536).map (s.sealUnit (512 + s.ringDie name)).blockState).any (fun v => decide (v = 0)) = true ∨ s.repairHeld name 65536 = true) := by
      simpa [hheld] using h2
    have hin : ¬s.tier.scanOut.contains (s.peatPlace (s.phys name)).1 = true := by simpa using hch
    rcases hready : s.descReady x [(name, 65536, false)] with ⟨go, r⟩
    dsimp only
    refine ⟨fun hg n => ?_, fun hg => ⟨fun blk hblk => ?_, fun hblk => ?_⟩⟩
    · rw [hscan, execScanBlock, hx]
      show (if _ then _ else _) = _
      rw [if_neg hgo, he]
      show (if _ then _ else _) = _
      rw [if_neg hgood, if_neg hopen, if_neg hin, hready, hg]
      rfl
    · rw [hscan, execScanBlock, hx]
      show (if _ then _ else _) = _
      rw [if_neg hgo, he]
      show (if _ then _ else _) = _
      rw [if_neg hgood, if_neg hopen, if_neg hin, hready, hg]
      show (if _ then _ else _) = _
      rw [if_neg (show ¬(!true) = true by decide)]
      show (if _ then _ else _) = _
      rw [if_neg (show ¬(0 : Fin 3).val = 2 by decide), if_pos (show (0 : Fin 3).val = 0 from rfl)]
      extract_lets s1 s2
      change (s2.ringRead name 65536).1 = _ at hblk
      change _ = Host.Outcome.next ((((s2.ringRead name 65536).2.scanRows x blk tok pos x.rows).2.putRecords d x _ b _).2.setDesc d i (some (((s2.ringRead name 65536).2.scanRows x blk tok pos x.rows).2.putRecords d x _ b _).1))
      generalize s2.ringRead name 65536 = rr at hblk ⊢
      generalize (s.peatPlace (s.phys name)).1 = ch
      obtain ⟨r1, r2⟩ := rr
      obtain rfl : r1 = some blk := hblk
      generalize State.scanRows = rows
      generalize State.putRecords = put
      rfl
    · rw [hscan, execScanBlock, hx]
      show (if _ then _ else _) = _
      rw [if_neg hgo, he]
      show (if _ then _ else _) = _
      rw [if_neg hgood, if_neg hopen, if_neg hin, hready, hg]
      show (if _ then _ else _) = _
      rw [if_neg (show ¬(!true) = true by decide)]
      show (if _ then _ else _) = _
      rw [if_neg (show ¬(0 : Fin 3).val = 2 by decide), if_pos (show (0 : Fin 3).val = 0 from rfl)]
      extract_lets s1 s2
      change (s2.ringRead name 65536).1 = _ at hblk
      change _ = Host.Outcome.next (((s2.ringRead name 65536).2.putRecords d _ _ b _).2.setDesc d i (some ((s2.ringRead name 65536).2.putRecords d _ _ b _).1))
      generalize s2.ringRead name 65536 = rr at hblk ⊢
      generalize (s.peatPlace (s.phys name)).1 = ch
      obtain ⟨r1, r2⟩ := rr
      obtain rfl : r1 = none := hblk
      generalize State.putRecords = put
      rfl

/-- The oldest SCAN whose every assigned entry is scanned or passed over closes. -/
theorem scanDone_closes {ys : List TierDesc} (hd : (s.agent d).descs = x :: ys) (hop : x.op = 4) (ho : x.opened = true)
    (hc : x.closing = true → x.owed = []) (hm : ∀ b ∈ x.marked, b ∈ x.done ∨ b ∈ x.skipped) :
    let h := s.descReady x []
    let q := if x.closing then (x, h.2) else h.2.closeScan d x
    (h.1 = false → exec (.scanDone d) s = .next h.2) ∧
    (h.1 = true → q.1.owed = [] → exec (.scanDone d) s = .next ((q.2.endDesc d 0 q.1).count rTIER_CNT2 63 32 1)) ∧
    (h.1 = true → q.1.owed ≠ [] → exec (.scanDone d) s = .next (q.2.setDesc d 0 (some q.1))) := by
  have hall : x.marked.all (fun b => x.done.contains b || x.skipped.contains b) = true :=
    List.all_eq_true.2 (fun b hb => by simpa using hm b hb)
  have hclose : (!x.closing || x.owed.isEmpty) = true := by
    cases h : x.closing with
    | false => rfl
    | true => simp [hc h]
  have hfind : (s.agent d).descs.zipIdx.find? (fun y => decide (y.1.op = 4) && y.1.opened && (!y.1.closing || y.1.owed.isEmpty) &&
      y.1.marked.all (fun b => y.1.done.contains b || y.1.skipped.contains b)) = some (x, 0) := by
    rw [hd, List.zipIdx_cons, List.find?_cons_of_pos]
    simp only [hop, decide_true, ho, hclose, hall, Bool.and_self]
  dsimp only
  rw [exec_scanDone, execScanDone]
  simp only [hfind]
  refine ⟨fun hg => if_pos (by simp [hg]), fun hg hq => ?_, fun hg hq => ?_⟩
  · rw [if_neg (by simp [hg])]
    exact congrArg _ (if_pos (List.isEmpty_iff.2 hq))
  · rw [if_neg (by simp [hg])]
    exact congrArg _ (if_neg (fun h => hq (List.isEmpty_iff.1 h)))

end scan

/-- SCAN, SCAN_BLOCK and SCAN_DONE. -/
theorem scans_run : Claims.ScansRun := by
  intro d k x errs s hon
  exact ⟨fun hx => scan_opens hon hx, fun i b hx hop ho hm hd hs => scanBlock_entry hx hop ho hm hd hs,
    fun ys hd hop ho hc hm => scanDone_closes hd hop ho hc hm⟩

/-- Settles O37: descriptors and scans, each by its own lemma. -/
theorem tierDescriptorsRun : Obligations.TierDescriptorsRun := ⟨prefetch_descriptors, scans_run⟩

end Sys2Proof.Machine
end

section
/-! PROOFS. Mesh routers and their registers (spec/08 R254 to R262). -/

namespace Sys2Proof.Machine

open Sys2Proof.Claims

/-- A field is a quotient taken modulo its size. -/
theorem field_eq (w : Word) (hi lo : Nat) : field w hi lo = w.toNat / 2 ^ lo % 2 ^ (hi + 1 - lo) := by
  rw [field, fieldN, Nat.shiftRight_eq_div_pow]

section arrive
variable {p : PhysId} {port : RPort} {err : BitVec 2085} {s : State} {w : FlitWire}

/-- The machine once a flit has left its wire, its error counted where it fails its check. -/
def State.tookFlit (s : State) (p : PhysId) (port : RPort) (w : FlitWire) (ok : Bool) : State :=
  let off : State := { s with flits := s.flits.erase w }
  if ok then off else (off.count (off.slotPage p (rMESH_CNTp + 8 * portNo port)) 31 0 1).orReg (off.slotPage p rMESH_STATUS) 1

/-- A flit that a powered router lets pass, killed or not. -/
theorem execFlitArrive_passes {f : Flit} {killed ok : Bool} (hf : damagedFlit w.flit err = f) (hw : s.nextFlit p (portNo port) = some w) (hon : (s.slot p).routerOn = true)
    (hdrop : tget (fun _ => false) (s.router p).drop (portNo port * 4 + w.flit.vc.toNat) = false) (hok : flitOk f = ok)
    (hbody : ¬(ok = false ∧ isHead f = true))
    (hkilled : (!isHead f && (!ok || f.kill ||
      tget (fun _ => false) (s.router p).kill (portNo port * 4 + w.flit.vc.toNat))) = killed) :
    let key := portNo port * 4 + w.flit.vc.toNat
    execFlitArrive p port err s = .next (((s.tookFlit p port w ok).modRouter p (fun r =>
      { r with kill := tset (fun _ => false) r.kill key (killed && !isTail f) })).acceptFlit p key
      { (if killed then resealFlit { f with kill := true, data := if ok then f.data else 0 } else f) with vc := w.flit.vc }) := by
  intro key
  have hbad : ¬((!ok) = true ∧ isHead f = true) := fun ⟨h1, h2⟩ => hbody ⟨by simpa using h1, h2⟩
  rw [execFlitArrive, hw]
  dsimp only
  rw [hf]
  subst hok hkilled
  refine (if_neg (show ¬(!(s.slot p).routerOn) = true by rw [hon]; decide)).trans ((if_neg (fun h => by cases hdrop.symm.trans h)).trans ((if_neg hbad).trans ?_))
  rw [State.tookFlit]
  cases flitOk f <;> rfl

/-- A flit that a powered router discards. -/
theorem execFlitArrive_drops {f : Flit} {ok : Bool} (hf : damagedFlit w.flit err = f) (hw : s.nextFlit p (portNo port) = some w) (hon : (s.slot p).routerOn = true)
    (hok : flitOk f = ok) :
    let key := portNo port * 4 + w.flit.vc.toNat
    let dropped (u : State) (on : Bool) : State := u.modRouter p (fun r => { r with drop := tset (fun _ => false) r.drop key on })
    (tget (fun _ => false) (s.router p).drop key = true → execFlitArrive p port err s =
      .next ((if f.kind = 2 then dropped (s.tookFlit p port w ok) false else s.tookFlit p port w ok).discardFlit p key w.flit)) ∧
    (tget (fun _ => false) (s.router p).drop key = false → ok = false → isHead f = true → execFlitArrive p port err s =
      .next ((dropped (s.tookFlit p port w ok) true).discardFlit p key w.flit)) := by
  intro key dropped
  have hlive : ¬(!(s.slot p).routerOn) = true := by rw [hon]; decide
  rw [execFlitArrive, hw]
  dsimp only
  rw [hf]
  refine ⟨fun hd => ?_, fun hd hbad hh => ?_⟩
  · refine (if_neg hlive).trans ((if_pos hd).trans ?_)
    rw [State.tookFlit, ← hok]
    cases flitOk f <;> rfl
  · refine (if_neg hlive).trans ((if_neg (fun h => by cases hd.symm.trans h)).trans ((if_pos ⟨by rw [hok, hbad]; rfl, hh⟩).trans ?_))
    rw [State.tookFlit, ← hok]
    cases flitOk f <;> rfl

end arrive

/-- FLIT_ARRIVE and ESCAPE_FALLBACK. -/
theorem flits_arrive : Claims.FlitsArrive := by
  intro p port err s
  refine ⟨fun hn => by rw [exec_flitArrive, execFlitArrive, hn], fun w hw => ?_, fun hon => ?_, fun hoff => ?_⟩
  · generalize hf : damagedFlit w.flit err = f
    intro f key off r counted drops kills
    rw [exec_flitArrive]
    refine ⟨fun hoff => ?_, fun hp hdrop => ⟨fun hok hlive => ?_, fun hok hh hdead => ?_, fun hok hh => ?_, fun hok hh => ?_⟩, fun hp hdrop hok => ?_⟩
    · rw [execFlitArrive, hw]
      exact if_pos (show (!(s.slot p).routerOn) = true by rw [hoff]; rfl)
    · have hkilled : (!isHead f && (!true || f.kill || tget (fun _ => false) r.kill key)) = false := by
        rcases hlive with h | ⟨h1, h2⟩
        · rw [h]; rfl
        · rw [h1, h2]; simp
      rw [execFlitArrive_passes hf hw hp hdrop hok (by simp) hkilled]
      rfl
    · have hkilled : (!isHead f && (!true || f.kill || tget (fun _ => false) r.kill key)) = true := by
        rw [hh]
        rcases hdead with h | h
        · rw [h]; rfl
        · rw [h]; simp
      rw [execFlitArrive_passes hf hw hp hdrop hok (by simp) hkilled]
      rfl
    · exact (execFlitArrive_drops hf hw hp hok).2 hdrop rfl hh
    · rw [execFlitArrive_passes (killed := true) hf hw hp hdrop hok (fun h => by cases hh.symm.trans h.2) (by rw [hh]; rfl)]
      rfl
    · exact (execFlitArrive_drops hf hw hp hok).1 hdrop
  · rw [exec_escapeFallback, execEscapeFallback]
    exact if_pos hon
  · rw [exec_escapeFallback, execEscapeFallback]
    exact if_neg (by simp [hoff])

/-- The register writes of the mesh. -/
theorem mesh_registerWrites : Claims.MeshRegisterWrites := by
  intro who v s
  refine ⟨fun d ht => ?_, fun c port p hp => ?_, fun d j => ?_⟩
  · intro r q code
    rw [exec_escdataWrite, execEscdataWrite]
    have hr : field (s.reg (dieKey d rMESH_ESCIDX)) 7 0 = r := field_low _ 7
    have hq : field (s.reg (dieKey d rMESH_ESCIDX)) 25 16 = q := field_eq _ 25 16
    have hc : field v 2 0 = code := field_low v 2
    refine ⟨fun h1 h2 h3 => next_gateReg ht ?_, fun h => next_gateReg ht ?_⟩
    · dsimp only
      rw [hr, hq, hc, if_neg (by omega)]
    · dsimp only
      rw [hr, hq, hc, if_pos h]
  · intro at_ key u ht
    rw [exec_markDownWrite, execMarkDownWrite]
    refine ⟨fun hv hold => next_gateReg ht ?_, fun h => next_gateReg ht ?_⟩
    · simp only [hp, State.markPort]
      rw [if_pos ⟨hv, by rw [hold]; rfl⟩]
    · simp only [hp, State.markPort]
      rw [if_neg (fun ⟨h1, h2⟩ => h.elim (fun h => by simp [h] at h1) (fun h => by simp [key, h] at h2))]
  · intro key wire target u ht
    rw [exec_seamRprWrite, execSeamRprWrite]
    have hw : field v 6 0 = wire := field_low v 6
    have htg : field v 19 8 = target := field_eq v 19 8
    refine ⟨fun hv hk => next_gateReg ht ?_, fun h => next_gateReg ht ?_⟩
    · dsimp only
      rw [hw, htg, if_pos ⟨hv, hk⟩]
    · dsimp only
      rw [hw, htg, if_neg (fun ⟨hv, hk⟩ => h.elim (fun h => by simp [h] at hv) (fun ⟨h1, h2⟩ => hk.elim (fun h => by omega) h2))]

/-- Settles O39: flits by whether the router lets them pass or discards them; the registers by the gate. -/
theorem meshRoutersRun : Obligations.MeshRoutersRun := ⟨flits_arrive, mesh_registerWrites⟩

end Sys2Proof.Machine
end

section
/-! PROOFS. Span ports, their frames and the keys of links (spec/10 R315 to R345). -/

namespace Sys2Proof.Machine

open Sys2Proof.Claims

/-! ## Bits and keys -/

/-- A bit that is set may be set again. -/
theorem setBit_eq_self {w : Word} {i : Nat} (h : bitOf w i = true) : setBit w i true = w := by
  rw [bitOf, BitVec.testBit_toNat] at h
  refine BitVec.eq_of_getLsbD_eq (fun j hj => ?_)
  simp only [setBit, setField, if_true, BitVec.getLsbD_or, BitVec.getLsbD_and, BitVec.getLsbD_not, BitVec.getLsbD_ofNat, Nat.testBit_shiftLeft,
    Nat.testBit_two_pow_sub_one]
  by_cases hij : i = j
  · subst hij
    simp [h, hj]
  · have hout : ¬(i ≤ j ∧ j - i < 1) := by omega
    by_cases hle : i ≤ j
    · have : ¬j - i < 1 := by omega
      simp [hj, hle, this]
    · simp [hj, hle]

/-- The configuration of a port is not its counter of codewords. -/
theorem portKey_cfg_ne_fec (p : Nat) : portKey p rRTL_Pp_CFG ≠ portKey p rRTL_Pp_FEC := by
  simp only [portKey, dieKey, rRTL_Pp_CFG, rRTL_Pp_FEC]
  omega

/-! ## States of a port -/

/-- RTL_CFG_WRITE, PORT_TRAINING_COMPLETE and PORT_UCW_CHECK. -/
theorem ports_changeState : Claims.PortsChangeState := by
  intro p s cfg old
  have hframed (v : Word) : field old 7 4 * 2 + field old 1 1 = field v 7 4 * 2 + field v 1 1 ↔ field old 7 4 = field v 7 4 ∧ field old 1 1 = field v 1 1 := by
    have h1 : field old 1 1 < 2 := Nat.mod_lt _ (by decide)
    have h2 : field v 1 1 < 2 := Nat.mod_lt _ (by decide)
    omega
  refine ⟨fun who v ht => ?_, fun lanes h => ?_, fun lanes h => ?_, by decide, by decide, by decide, fun c ucw => ?_⟩
  · intro same u
    rw [exec_rtlCfgWrite, execRtlCfgWrite]
    refine ⟨fun ho hv hs => next_gateReg ht ?_, fun ho hv hs => next_gateReg ht ?_, fun ho hv => next_gateReg ht ?_, fun ho hv => next_gateReg ht ?_,
      fun ho hv => next_gateReg ht ?_⟩
    · exact if_pos ⟨ho, hv, fun h => hs ((hframed v).1 h)⟩
    · refine (if_neg (fun h => h.2.2 ((hframed v).2 hs))).trans ((if_neg (fun h => ?_)).trans (if_neg (fun h => ?_)))
      · simp [hv] at h
      · exact absurd h.1 (by rw [show bitOf (s.reg _) 0 = true from ho]; decide)
    · exact (if_neg (fun h => by simp [hv] at h)).trans (if_pos ⟨ho, by rw [hv]; rfl⟩)
    · exact (if_neg (fun h => by cases ho.symm.trans h.1)).trans ((if_neg (fun h => by cases ho.symm.trans h.1)).trans
        (if_pos ⟨by rw [show bitOf (s.reg _) 0 = false from ho]; rfl, hv⟩))
    · exact (if_neg (fun h => by cases ho.symm.trans h.1)).trans ((if_neg (fun h => by cases ho.symm.trans h.1)).trans
        (if_neg (fun h => by simp [hv] at h)))
  · rw [exec_portTrainingComplete, execPortTrainingComplete, if_pos h]
  · rw [exec_portTrainingComplete, execPortTrainingComplete, if_neg h]
  · intro u limit
    have hl : u.regField cfg 63 48 = limit := by
      rw [State.regField, State.reg_count_ne _ _ _ _ (portKey_cfg_ne_fec p), State.reg_count_ne _ _ _ _ (portKey_cfg_ne_fec p), field_eq]
      exact Nat.mod_eq_of_lt (by have := (s.reg cfg).isLt; omega)
    rw [exec_portUcwCheck, execPortUcwCheck]
    refine ⟨fun h h0 h1 => ?_, fun h h0 => ?_, fun h => if_pos (by rw [h]; rfl)⟩
    · refine (if_neg (by rw [h]; decide)).trans (congrArg _ (if_pos ?_))
      rw [show State.regField _ _ 63 48 = limit from hl]
      exact ⟨h0, h1⟩
    · refine (if_neg (by rw [h]; decide)).trans (congrArg _ (if_neg ?_))
      rw [show State.regField _ _ 63 48 = limit from hl]
      omega

/-! ## Link and time frames -/

/-- The frames of links. -/
theorem links_exchangeFrames : Claims.LinksExchangeFrames := by
  intro p s x
  refine ⟨fun h => ⟨fun dev a b c d => ?_, fun a b c => ?_, ?_, fun hb => ?_⟩, fun h => ⟨fun dev a b c d => ?_, fun a b c => ?_, ?_, ?_⟩,
    fun rsp h => ?_, fun rsp f fs h => ?_, fun rsp => ?_⟩
  · rw [exec_linkFrame, execLinkFrame, if_pos h]
  · rw [exec_timeFrame, execTimeFrame, if_pos h]
  · rw [exec_linkFrameSend, execLinkFrameSend, if_pos h]
    generalize s.clearTx.freeLost = u
    rw [State.sendLink]
    rfl
  · rw [exec_timeFrameSend, execTimeFrameSend, if_pos ⟨h, hb⟩]
  · rw [exec_linkFrame, execLinkFrame, if_neg (by simp [h])]
  · rw [exec_timeFrame, execTimeFrame, if_neg (by simp [h])]
  · rw [exec_linkFrameSend, execLinkFrameSend, if_neg (by simp [h])]
  · rw [exec_timeFrameSend, execTimeFrameSend, if_neg (by simp [h])]
  · rw [exec_frameVanished, execFrameVanished]
    dsimp only
    rw [h]
  · rw [exec_frameVanished, execFrameVanished]
    dsimp only
    rw [h]
    exact ⟨fun ht => if_pos ht, fun ht => if_neg (by omega)⟩
  · rw [exec_transitTimeout, execTransitTimeout]
    refine ⟨fun f fs qs hq hno hlate => ?_, fun hno => ?_⟩
    · have hfind : (x.vc rsp).queue.find? (fun f => decide (f.since + 1000 * s.regField rSPAN_CTRL2 63 32 < s.ns)) = some f := by
        rw [hq, List.find?_append, List.find?_eq_none.2 (fun g hg => by simpa using hno g hg), List.find?_cons_of_pos (by simpa using hlate)]
        rfl
      have herase : (x.vc rsp).queue.erase f = fs ++ qs := by
        rw [hq, List.erase_append_right _ (fun hm => hno f hm hlate), List.erase_cons_head]
      dsimp only
      rw [hfind]
      dsimp only
      rw [herase]
    · dsimp only
      rw [List.find?_eq_none.2 (fun g hg => by simpa using hno g hg)]

/-! ## Frames received -/

/-- A frame of DIRECT mode. -/
theorem directFrame_received {p : PortId} {o : Bytes} {s : State} (h : s.directUp p = true) :
    let u := s.clearTx.countFrame p false
    let kind := leAt o 0 1 % 16
    let vc := (leAt o 0 1).testBit 4
    let n := frameUnits o.length
    let b := (o.take (o.length - 4)).drop 7
    let whole := 11 ≤ o.length ∧ crcHolds o = true
    let v := u.seen p b
    (¬whole → exec (.directFrameReceive p o ()) s = .next (u.badFrame p kind vc n)) ∧
    (whole → kind = 0 → dataBodyOk b = true →
      ((spanOf b).dstDev = v.devNum → exec (.directFrameReceive p o ()) s = .next (v.takeIn p vc n b)) ∧
      ((spanOf b).dstDev ≠ v.devNum → exec (.directFrameReceive p o ()) s = .next ((v.discardFrame p vc n).forward b (leAt o 1 1)))) ∧
    (whole → kind = 1 → b.length = 32 → exec (.directFrameReceive p o ()) s = .next (u.linkFrame p (BitVec.ofNat 16 (leAt b 0 2))
      (BitVec.ofNat 32 (leAt b 4 4)) (BitVec.ofNat 32 (leAt b 8 4)) (BitVec.ofNat 32 (leAt b 12 4)) (BitVec.ofNat 32 (leAt b 16 4)))) ∧
    (whole → kind = 2 → b.length = 32 → exec (.directFrameReceive p o ()) s =
      .next (u.timeFrame p (BitVec.ofNat 64 (leAt b 0 8)) (BitVec.ofNat 64 (leAt b 8 8)) (BitVec.ofNat 64 (leAt b 16 8)))) ∧
    (whole → 3 ≤ kind → exec (.directFrameReceive p o ()) s = .next (u.badFrame p kind vc n)) := by
  intro u kind vc n b whole v
  have hup {α : Type} (y z : α) : (if (!s.directUp p) = true then y else z) = z := if_neg (by rw [h]; decide)
  have hbad (hw : whole) : ¬(o.length < 11 ∨ (!crcHolds o) = true) := by
    obtain ⟨h1, h2⟩ := hw
    simp [h2]
    omega
  rw [exec_directFrameReceive, execDirectFrameReceive]
  refine ⟨fun hw => ?_, fun hw hk hd => ⟨fun hdst => ?_, fun hdst => ?_⟩, fun hw hk hl => ?_, fun hw hk hl => ?_, fun hw hk => ?_⟩
  · refine (hup _ _).trans (if_pos ?_)
    by_contra hc
    obtain ⟨h1, h2⟩ := not_or.1 hc
    exact hw ⟨Nat.le_of_not_lt h1, by simpa using h2⟩
  · exact (hup _ _).trans ((if_neg (hbad hw)).trans ((if_pos ⟨hk, hd⟩).trans (congrArg _ (if_pos hdst))))
  · exact (hup _ _).trans ((if_neg (hbad hw)).trans ((if_pos ⟨hk, hd⟩).trans (congrArg _ (if_neg hdst))))
  · exact (hup _ _).trans ((if_neg (hbad hw)).trans ((if_neg (fun h => by cases hk.symm.trans h.1)).trans (if_pos ⟨hk, hl⟩)))
  · exact (hup _ _).trans ((if_neg (hbad hw)).trans ((if_neg (fun h => by cases hk.symm.trans h.1)).trans ((if_neg (fun h => by cases hk.symm.trans h.1)).trans
      (if_pos ⟨hk, hl⟩))))
  · exact (hup _ _).trans ((if_neg (hbad hw)).trans ((if_neg (fun h => by have := h.1; omega)).trans ((if_neg (fun h => by have := h.1; omega)).trans
      (if_neg (fun h => by have := h.1; omega)))))

/-- The frames that a port receives. -/
theorem frames_areReceived : Claims.FramesAreReceived := by
  intro p o s u
  refine ⟨fun h => directFrame_received h, fun h => ?_, fun hup he => ?_, fun h body => ?_⟩
  · rw [exec_directFrameReceive, execDirectFrameReceive, if_pos (by rw [h]; rfl)]
  · intro t b rsp n
    have hgo {α : Type} (y z : α) : (if (!(s.portUp p && s.ethMode p)) = true then y else z) = z := if_neg (by rw [hup, he]; decide)
    have hframe {v : State} (hv : u.etherIn p o = v) : exec (.ethernetFrameReceive p (.frame o) ()) s = .next v := by
      rw [exec_ethernetFrameReceive, execEthernetFrameReceive, ← hv]
      exact hgo _ _
    have hcrc {α : Type} (hc : crcHolds o = true) (y z : α) : (if (!crcHolds o) = true then y else z) = z := if_neg (by rw [hc]; decide)
    refine ⟨fun hc => hframe ?_, fun hc ht => hframe ?_, fun hc ht hn => hframe ?_, fun hc ht hn => ⟨fun hd => hframe ?_, fun hd hr => hframe ?_,
      fun hd hr => hframe ?_⟩, ?_⟩
    · exact if_pos (by rw [hc]; rfl)
    · exact (hcrc hc _ _).trans (if_pos ht)
    · exact (hcrc hc _ _).trans ((if_neg ht).trans (if_pos hn))
    · exact (hcrc hc _ _).trans ((if_neg ht).trans ((if_neg (fun h => h hn)).trans (if_pos hd)))
    · exact (hcrc hc _ _).trans ((if_neg ht).trans ((if_neg (fun h => h hn)).trans ((if_neg (fun h => h hd)).trans (if_pos hr))))
    · exact (hcrc hc _ _).trans ((if_neg ht).trans ((if_neg (fun h => h hn)).trans ((if_neg (fun h => h hd)).trans (if_neg (Nat.not_lt.2 hr)))))
    · intro stopped running
      rw [exec_ethernetFrameReceive, execEthernetFrameReceive, exec_ethernetFrameReceive, execEthernetFrameReceive]
      exact ⟨hgo _ _, hgo _ _⟩
  · rw [exec_ethernetFrameReceive, execEthernetFrameReceive, if_pos]
    rcases h with h | h <;> simp [h]

/-! ## Keys of links -/

/-- The registers of the keys. -/
theorem linkKeys_areWritten : Claims.LinkKeysAreWritten := by
  intro who v s slot i u phased
  refine ⟨fun ht => ⟨fun h0 => ?_, fun h0 h18 h19 => ?_, fun h0 h18 h19 => ?_, fun h0 h18 h19 => ?_⟩, ?_⟩
  · rw [exec_txphaseWrite, execTxphaseWrite]
    exact next_gateReg ht (if_pos h0)
  · rw [exec_txphaseWrite, execTxphaseWrite]
    refine next_gateReg ht ((if_neg h0).trans ?_)
    dsimp only
    rw [if_neg (by rw [h19]; decide), if_neg (by rw [h18]; decide)]
  · rw [exec_keyCommit, execKeyCommit, setBit_eq_self h18]
    refine next_gateReg ht ((if_neg h0).trans ?_)
    dsimp only
    rw [if_neg (by rw [h19]; decide), if_pos h18]
  · rw [exec_keyClear, execKeyClear, setBit_eq_self h19]
    refine next_gateReg ht ((if_neg h0).trans ?_)
    dsimp only
    rw [if_pos h19, if_neg (by rw [h18]; decide)]
  · intro x j k ht
    rw [exec_keydataWrite, execKeydataWrite]
    have hw (n : Nat) {y : SpanKey} (h0 : field x 7 0 ≠ 0) (hy : k.word n v = y) (hn : field x 11 10 = n) :
        (if field x 7 0 = 0 then s else s.setSpanKey j (k.word (field x 11 10) v)) = s.setSpanKey j y := by rw [if_neg h0, hn, hy]
    exact ⟨fun h0 => next_gateReg ht (if_pos h0), fun h0 h => next_gateReg ht (hw 0 h0 rfl h), fun h0 h => next_gateReg ht (hw 1 h0 rfl h),
      fun h0 h => next_gateReg ht (hw 2 h0 rfl h)⟩

/-- Settles O40: ports, their frames and the keys of links, each by its own lemma. -/
theorem spanLinksRun : Obligations.SpanLinksRun :=
  ⟨ports_changeState, links_exchangeFrames, frames_areReceived, linkKeys_areWritten⟩

end Sys2Proof.Machine
end

section
/-! PROOFS. The span engines: numbering and order of packets, requests, operations, contexts and registers (spec/10 R313 to R350). -/

namespace Sys2Proof.Machine

open Sys2Proof.Claims

/-! ## Numbering (R329) -/

/-- A context is found where it stood after its fields other than its name are changed. -/
theorem State.sendCtx_map {s : State} {dev : BitVec 16} {prompt : Bool} {c : SendCtx} (h : s.sendCtx dev prompt = some c) (f : SendCtx → SendCtx)
    (hf : ∀ x, (f x).dev = x.dev ∧ (f x).prompt = x.prompt) (xs : List SendCtx) (hxs : xs = s.span.sends) :
    ((xs.map (fun d => if d.dev = dev ∧ d.prompt = prompt then f d else d)).find? (fun c => decide (c.dev = dev) && c.prompt == prompt)) = some (f c) := by
  have hp (x : SendCtx) : (decide ((if x.dev = dev ∧ x.prompt = prompt then f x else x).dev = dev) &&
      (if x.dev = dev ∧ x.prompt = prompt then f x else x).prompt == prompt) = (decide (x.dev = dev) && x.prompt == prompt) := by
    split
    · rw [(hf x).1, (hf x).2]
    · rfl
  have hc : c.dev = dev ∧ c.prompt = prompt := by simpa using List.find?_some h
  rw [List.find?_map, Function.comp_def]
  simp only [hp]
  rw [hxs, show s.span.sends.find? _ = some c from h, Option.map_some, if_pos hc]

/-- Packets are numbered in turn. -/
theorem packets_areNumbered : Claims.PacketsAreNumbered := by
  intro dev prompt ps qs c s v hc hn
  rw [State.numbered, State.openSend, hc, Option.map_some, Option.some.injEq, Prod.mk.injEq] at hn
  obtain ⟨rfl, rfl⟩ := hn
  refine ⟨by simp, fun i hi => ?_, ?_⟩
  · simp
  · rw [State.sendCtx]
    dsimp only
    rw [State.sendCtx_map hc (fun d => { d with next := d.next + BitVec.ofNat 32 ps.length, since := s.ns }) (fun x => ⟨rfl, rfl⟩) _ rfl]
    rfl

/-! ## Order (R331) -/

/-- Packets are taken in the order of their numbers. -/
theorem packets_keepTheirOrder : Claims.PacketsKeepTheirOrder := by
  intro p c s d at_ u twin room
  have htwin : c.held.any (fun q => decide (q.seq = p.seq)) = true ↔ twin := by simp [twin]
  rw [State.placeInOrder]
  refine ⟨fun h => if_pos h, fun h1 h2 ht hr => ?_, fun h1 h2 ht hr => ?_, fun h1 h2 ht => ?_, fun h1 h2 => ?_, fun h => ?_⟩
  · exact (if_neg (show ¬d = 0 by omega)).trans ((if_pos h2).trans ((if_neg (fun h => ht (htwin.1 h))).trans (if_pos hr)))
  · exact (if_neg (show ¬d = 0 by omega)).trans ((if_pos h2).trans ((if_neg (fun h => ht (htwin.1 h))).trans (if_neg hr)))
  · exact (if_neg (show ¬d = 0 by omega)).trans ((if_pos h2).trans (if_pos (htwin.2 ht)))
  · exact (if_neg (show ¬d = 0 by omega)).trans ((if_neg (show ¬d < 4096 by omega)).trans (if_pos h2))
  · exact (if_neg (show ¬d = 0 by omega)).trans ((if_neg (show ¬d < 4096 by omega)).trans (if_neg (show ¬d < 2 ^ 31 by omega)))

/-- Settles O42: the numbers of packets and their order. -/
theorem spanPacketsKeepTheirOrder : Obligations.SpanPacketsKeepTheirOrder := ⟨packets_areNumbered, packets_keepTheirOrder⟩

/-! ## Requests and packets (R314 to R318) -/

/-- Requests, and the answers to them. -/
theorem spanRequests_leave : Claims.SpanRequestsLeave := by
  intro p d win wgen s hdst hhere u dev prompt pieces room
  have hgo {α : Type} (y z : α) : (if (!u.here p) = true then y else z) = z := if_neg (by rw [show u.here p = true from hhere]; decide)
  have hex : exec (.spanRequest p win wgen) s = execSpanRequest p win wgen s := by rw [exec_spanRequest]
  rw [hex, execSpanRequest, hdst]
  refine ⟨fun hreq hfar hmig hspan hroom hdev => ?_, fun i hreq hi => ?_⟩
  · have hsplit {v : State} (hv : u.spanRequest p win wgen = v) :
        (if (!u.here p) = true then .next u else if (!isRequest p.type) = true then .next (u.spanReturn p) else if p.type = .span then .next (u.fromEngine p)
          else if u.isRemote p.region p.addr = true ∧ p.type ≠ .migrate then .next (u.spanRequest p win wgen) else .next u : Host.Outcome State Fault Refusal) = .next v := by
      rw [hgo, if_neg (by rw [hreq]; decide), if_neg hspan, if_pos ⟨hfar, hmig⟩, hv]
    have hfree : ¬4096 ≤ u.span.ops.countP (fun o => decide (o.die = dev.toNat % 4)) := Nat.not_le.2 hroom
    have hloop {α : Prop} : (!decide (dev = u.devNum)) = true ∧ α ↔ α := by simp [hdev]
    refine ⟨fun hst => hsplit ?_, fun h0 h3 => ⟨fun hports => hsplit ?_, fun ps v hports hprot hnum => hsplit ?_⟩⟩
    · rw [State.spanRequest]
      exact (if_neg hfree).trans (if_pos (hloop.2 hst))
    · rw [State.spanRequest]
      exact (if_neg hfree).trans ((if_neg (fun h => (hloop.1 h).elim h0 h3)).trans (if_pos (hloop.2 (List.isEmpty_iff.2 hports))))
    · rw [State.spanRequest]
      refine (if_neg hfree).trans ((if_neg (fun h => (hloop.1 h).elim h0 h3)).trans ((if_neg (fun h => hports (List.isEmpty_iff.1 (hloop.1 h)))).trans
        ((if_neg (fun h => ?_)).trans ?_)))
      · have := hloop.1 h
        rw [show State.mayProtect _ _ _ = true from hprot] at this
        cases this
      · extract_lets tag
        rw [show u.numbered _ _ (splitRequest _ _ _ tag _ _) = some (ps, v) from hnum]
        exact if_neg (by simpa using hdev)
  · have hspan : p.type ≠ .span := fun h => by simp [h, isRequest] at hreq
    rewrite [hgo, if_pos (by rw [hreq]; rfl), State.spanReturn, hi]
    rfl

/-- Packets that arrive. -/
theorem spanPackets_arrive : Claims.SpanPacketsArrive := by
  intro b s pkt
  rw [exec_spanPacketArrive, execSpanPacketArrive]
  have htaken {x : Option State} (hd : pkt.dstDev = s.devNum) (h : s.clearTx.freeLost.takeFrame b = x) :
      (if pkt.dstDev = s.devNum then s.clearTx.freeLost.takeFrame b else none) = x := (if_pos hd).trans h
  refine ⟨fun hd => ?_, fun hd hn => ?_, fun u hd hu => ?_⟩
  · rw [if_neg hd]
  · rw [htaken hd hn]
  · rw [htaken hd hu]
    refine ⟨fun hm => if_pos (by rw [hm]; rfl), fun hm ha => (if_neg (by rw [hm]; decide)).trans ?_, fun q newer v hm ha => (if_neg (by rw [hm]; decide)).trans ?_⟩
    · rw [ha]
    · rw [ha]

/-! ## Contexts and fences (R330 to R334) -/

/-- Lost packets change registers only. -/
theorem State.spanLost_regs (s : State) (die n : Nat) : ∃ r, s.spanLost die n = { s with regs := r } := by
  rw [State.spanLost]
  split
  · exact ⟨s.regs, rfl⟩
  · obtain ⟨r, hr⟩ := ((s.count rSPAN_CNT 63 32 n).spanStat 2).evDie_regs die 0x0D 0 n 32
    exact ⟨r, hr⟩

/-- Lost packets take no time. -/
theorem State.ns_spanLost (s : State) (die n : Nat) : (s.spanLost die n).ns = s.ns := by
  obtain ⟨r, hr⟩ := s.spanLost_regs die n
  rw [hr]
  rfl

/-- Lost packets leave the contexts. -/
theorem State.span_spanLost (s : State) (die n : Nat) : (s.spanLost die n).span = s.span := by
  obtain ⟨r, hr⟩ := s.spanLost_regs die n
  rw [hr]

/-- Contexts go, and fences are released. -/
theorem contexts_goAndReleaseFences : Claims.ContextsGoAndReleaseFences := by
  intro dev prompt s
  refine ⟨fun c hc => ⟨fun h => ?_, fun p h => ?_, fun h1 h2 h3 => ?_, fun h => ?_, fun f fs h => ?_⟩, fun c hc => ?_⟩
  · rw [exec_reorderGapExpire, execReorderGapExpire, hc]
    dsimp only
    rw [h]
    rfl
  · intro k
    rw [exec_reorderGapExpire, execReorderGapExpire, hc]
    dsimp only
    rw [h]
    refine ⟨fun ht => if_pos ht, fun ht => (if_neg (Nat.not_lt.2 ht)).trans ?_⟩
    rw [State.ns_spanLost]
    rfl
  · rw [exec_reorderContextEvict, execReorderContextEvict, hc]
    dsimp only
    rw [h1, h2, if_neg (by simpa using h3)]
  · rw [exec_reorderContextEvict, execReorderContextEvict, hc]
    exact if_pos (by simpa using h)
  · intro waits
    rw [exec_spanFenceRelease, execSpanFenceRelease, hc, Option.map_some, h]
    have hw : f.waits.any (fun t => s.span.ins.any (fun i => decide (i.tag = t))) = true ↔ waits := by simp [waits]
    exact ⟨fun hno => if_neg (fun h => hno (hw.1 h)), fun hyes => if_pos (hw.2 hyes)⟩
  · rw [exec_sendContextEvict, execSendContextEvict, hc]
    exact ⟨fun h => if_pos h, fun h => if_neg (Nat.not_lt.2 h)⟩

/-! ## Operations (R335) -/

/-- Operations end. -/
theorem spanOperations_end : Claims.SpanOperationsEnd := by
  intro tag o s ho u data late
  refine ⟨fun h => ?_, fun h => ?_, fun h1 h2 => ?_, fun h => ?_⟩
  · rw [exec_spanOpComplete, execSpanOpComplete, ho]
    exact if_pos h
  · rw [exec_spanOpComplete, execSpanOpComplete, ho]
    refine ⟨fun hm => ?_, fun hm hok => ?_, fun hm hok => ?_⟩
    · exact (if_neg (Nat.not_lt.2 h)).trans (if_pos hm)
    · refine (if_neg (Nat.not_lt.2 h)).trans ((if_neg hm).trans ?_)
      dsimp only
      rw [hok, if_pos rfl]
    · refine (if_neg (Nat.not_lt.2 h)).trans ((if_neg hm).trans ?_)
      dsimp only
      rw [if_neg hok]
  · rw [exec_spanOpTimeout, execSpanOpTimeout, ho]
    exact if_neg (fun h => h.elim (fun h => by omega) (fun h => by omega))
  · rw [exec_spanOpTimeout, execSpanOpTimeout, ho]
    exact if_pos h

/-! ## Registers (R337, R347, R348, R350) -/

/-- A plain write of a register leaves the span engines. -/
theorem State.span_regWrite (s : State) (key : Nat) (v : Word) : (s.regWrite key v).span = s.span := by
  rw [State.regWrite]
  split <;> rfl

/-- The span registers. -/
theorem spanRegister_writes : Claims.SpanRegisterWrites := by
  intro who v s
  refine ⟨fun w => ?_, fun dev => ?_, fun which => ?_⟩
  · intro ctrl base limit empty which ht
    rw [exec_spanWindowWrite, execSpanWindowWrite]
    refine ⟨fun h hv => next_gateReg ht ?_, fun h hv => next_gateReg ht ?_, fun h he => next_gateReg ht ?_, fun h he => next_gateReg ht ?_⟩
    · exact (if_pos h).trans (if_pos hv)
    · refine (if_pos h).trans ((if_neg (fun h => by cases hv.symm.trans h)).trans ?_)
      split <;> rfl
    · exact (if_neg (by omega)).trans (if_pos he)
    · exact (if_neg (by omega)).trans (if_neg he)
  · intro key u ht
    rw [exec_routeEntryWrite, execRouteEntryWrite]
    refine ⟨fun h => next_gateReg ht (if_neg h), fun h => ⟨_, next_gateReg ht (if_pos h), ?_⟩⟩
    dsimp only
    rw [State.span_spanLost, State.span_regWrite]
    refine ⟨fun c hc => ?_, fun c hc => ?_, fun c hc hd => ?_, fun c hc hd => ?_⟩
    · exact of_decide_eq_true (List.mem_filter.1 hc).2
    · exact of_decide_eq_true (List.mem_filter.1 hc).2
    · exact List.mem_filter.2 ⟨hc, decide_eq_true hd⟩
    · exact List.mem_filter.2 ⟨hc, decide_eq_true hd⟩
  · intro key ht
    rw [exec_spanCtrlWrite, execSpanCtrlWrite]
    exact ⟨fun h => next_gateReg ht (if_pos h), fun h => next_gateReg ht (if_neg (by rw [h]; decide))⟩

/-- Settles O41: requests, packets, contexts, operations and registers, each by its own lemma. -/
theorem spanRequestsRun : Obligations.SpanRequestsRun :=
  ⟨spanRequests_leave, spanPackets_arrive, contexts_goAndReleaseFences, spanOperations_end, spanRegister_writes⟩

end Sys2Proof.Machine
end

section
/-! PROOFS. What every command keeps: the queue of commands, byte stores in canonical form, and the bits of OTP that are set.
The relation, its rules for the ways in which a meaning is put together, and the operations that write a byte store or OTP. -/

namespace Sys2Proof.Machine

/-! ## Bits of OTP (spec/15 R472) -/

/-- Every bit that is set in one table of bytes is set in another. -/
def BitsKept (o o' : Tab Byte) : Prop := ∀ a k, (tget zeroByte o a).getLsbD k = true → (tget zeroByte o' a).getLsbD k = true

/-- Bytes written over ones whose bits they keep. -/
theorem BitsKept.twrite {o : Tab Byte} : ∀ {vs : Bytes} {m : Tab Byte} {k : Nat}, BitsKept o m →
    (∀ i (h : i < vs.length) b, (tget zeroByte o (k + i)).getLsbD b = true → vs[i].getLsbD b = true) → BitsKept o (twrite zeroByte m k vs)
  | [], _, _, hm, _ => hm
  | v :: vs, m, k, hm, hv => by
    refine BitsKept.twrite (vs := vs) (m := tset zeroByte m k v) (k := k + 1) (fun a b ha => ?_) (fun i h b hb => ?_)
    · rw [tget_tset]
      split
      next hk => exact hv 0 (Nat.succ_pos _) b (by rw [Nat.add_zero, ← hk]; exact ha)
      next => exact hm a b ha
    · exact hv (i + 1) (Nat.succ_lt_succ h) b (by rw [← Nat.add_assoc, Nat.add_right_comm]; exact hb)

/-- A bit of the bytes that spell a number. -/
theorem getLsbD_leBytes : ∀ (n v i b : Nat) (h : i < (leBytes n v).length), b < 8 → (leBytes n v)[i].getLsbD b = v.testBit (8 * i + b)
  | 0, _, _, _, h, _ => by simp [leBytes] at h
  | n + 1, v, 0, b, _, hb => by
    rw [show (leBytes (n + 1) v)[0] = BitVec.ofNat 8 v from rfl, BitVec.getLsbD_ofNat, decide_eq_true hb, Bool.true_and, Nat.mul_zero, Nat.zero_add]
  | n + 1, v, i + 1, b, h, hb => by
    have h' : i < (leBytes n (v / 256)).length := by simpa [leBytes] using h
    rw [show (leBytes (n + 1) v)[i + 1] = (leBytes n (v / 256))[i] from rfl, getLsbD_leBytes n (v / 256) i b h' hb, show 256 = 2 ^ 8 from rfl,
      Nat.testBit_div_two_pow, show 8 * (i + 1) + b = 8 * i + b + 8 by omega]

/-- A bit of the number that bytes of a table spell. -/
theorem testBit_ofLe_tread (o : Tab Byte) : ∀ (n a i b : Nat), i < n → b < 8 →
    (ofLe (tread zeroByte o a n)).testBit (8 * i + b) = (tget zeroByte o (a + i)).getLsbD b
  | n + 1, a, 0, b, _, hb => by
    have hlow := congrArg (fun x => x.testBit b) (Nat.add_mul_mod_self_left (tget zeroByte o a).toNat (2 ^ 8) (ofLe (tread zeroByte o (a + 1) n)))
    simp only [Nat.testBit_mod_two_pow, hb, decide_true, Bool.true_and] at hlow
    rw [tread, ofLe, Nat.mul_zero, Nat.zero_add, Nat.add_zero]
    exact hlow
  | n + 1, a, i + 1, b, h, hb => by
    have hhigh : ((tget zeroByte o a).toNat + 2 ^ 8 * ofLe (tread zeroByte o (a + 1) n)) / 2 ^ 8 = ofLe (tread zeroByte o (a + 1) n) := by
      rw [Nat.add_mul_div_left _ _ (by decide), Nat.div_eq_of_lt (tget zeroByte o a).isLt, Nat.zero_add]
    rw [show a + (i + 1) = a + 1 + i by omega, ← testBit_ofLe_tread o n (a + 1) i b (by omega) hb, ← hhigh, Nat.testBit_div_two_pow, tread, ofLe]
    congr 1
    omega

/-- A word of OTP with bits set keeps those that were set. -/
theorem BitsKept.setOtp (o : Tab Byte) (a v : Nat) : BitsKept o (Machine.twrite zeroByte o a (leBytes 8 (ofLe (tread zeroByte o a 8) ||| v))) := by
  refine BitsKept.twrite (fun _ _ h => h) (fun i h b hb => ?_)
  have hb8 : b < 8 := BitVec.lt_of_getLsbD hb
  have hi : i < 8 := by simpa using h
  rw [getLsbD_leBytes _ _ _ _ h hb8, Nat.testBit_or, testBit_ofLe_tread o 8 a i b hi hb8, hb, Bool.true_or]

/-- Bytes that are added to those of OTP keep them. -/
theorem BitsKept.writeOtp (o : Tab Byte) (a : Nat) (bs : Bytes) :
    BitsKept o (Machine.twrite zeroByte o a (bs.zipIdx.map (fun x => tget zeroByte o (a + x.2) ||| x.1))) := by
  refine BitsKept.twrite (fun _ _ h => h) (fun i h b hb => ?_)
  rw [List.getElem_map, List.getElem_zipIdx, BitVec.getLsbD_or]
  simp [hb]

/-! ## What is kept -/

/-- A state keeps of another its queue, the canonical form of its byte stores, and the bits that are set in its OTP. -/
structure Kept (r s : State) : Prop where
  pending : s.pending = r.pending
  mem : r.memWf = true → s.memWf = true
  otp : BitsKept r.otp s.otp

section rules
variable {r s u : State} {α β γ : Type}

/-- An access keeps it where the states that it ends in do. -/
inductive KeptAcc (r : State) : Acc α → Prop
  | ok {s : State} {v : α} : Kept r s → KeptAcc r (.ok s v)
  | held : KeptAcc r .held
  | access : KeptAcc r .access
  | ue {s : State} : Kept r s → KeptAcc r (.ue s)

/-- An instruction keeps it where the state that it ends in does. -/
inductive KeptTry (r : State) : Try → Prop
  | done {s : State} : Kept r s → KeptTry r (.done s)
  | jump {s : State} {pc : Int} : Kept r s → KeptTry r (.jump s pc)
  | stop {s : State} : Kept r s → KeptTry r (.stop s)
  | wait {s : State} {stage keep operand : Nat} {sealed : Bool} : Kept r s → KeptTry r (.wait s stage keep operand sealed)

/-- An instruction that may be of another kind keeps it where it is of its kind. -/
inductive KeptTryIn (r : State) : Option Try → Prop
  | none : KeptTryIn r none
  | some {x : Try} : KeptTry r x → KeptTryIn r (some x)

/-- The intake of activation rows keeps it where the states that it ends in do. -/
inductive KeptIntake (r : State) : Intake → Prop
  | rows {s : State} {rs : List ActRow} {poison : Bool} : Kept r s → KeptIntake r (.rows s rs poison)
  | held : KeptIntake r .held
  | access {addr : Word} : KeptIntake r (.access addr)
  | ended {s : State} {code : Nat} : Kept r s → KeptIntake r (.ended s code)
  | ue {s : State} : Kept r s → KeptIntake r (.ue s)

/-- A plan of a read keeps it where the state in which it is held does. -/
inductive KeptServe (r : State) : Serve → Prop
  | now : KeptServe r .now
  | held {s : State} : Kept r s → KeptServe r (.held s)
  | full : KeptServe r .full

/-- A result that may be missing keeps it where the state in it does. -/
inductive KeptIn (r : State) (f : α → State) : Option α → Prop
  | none : KeptIn r f none
  | some {x : α} : Kept r (f x) → KeptIn r f (some x)

/-- A command goes on, and keeps it. -/
inductive KeptOut (r : State) : Host.Outcome State Fault Refusal → Prop
  | next {s : State} : Kept r s → KeptOut r (.next s)

/-! ### The relation itself -/

theorem KeptOut.goesOn {a : Host.Outcome State Fault Refusal} (h : KeptOut r a) : ∃ t, a = .next t := by
  cases h
  exact ⟨_, rfl⟩

theorem Kept.refl (s : State) : Kept s s := ⟨rfl, id, fun _ _ h => h⟩

theorem Kept.trans (h : Kept r s) (hu : Kept s u) : Kept r u :=
  ⟨hu.pending.trans h.pending, fun hm => hu.mem (h.mem hm), fun a k hb => hu.otp a k (h.otp a k hb)⟩

/-- Every field but the queue, the byte stores and OTP may change. -/
theorem Kept.update {freeIdx : Nat} {rd : Word} {time : Nat} {regs : Tab Word} {boot : Boot} {badLines badWords ceWords : List Nat}
    {rows : Tab RowMap} {slots : Tab Slot} {dmap : List Word} {pool : Pool} {tierMap : Tab Word} {tier : Tier} {jobs : Tab (Option Job)} {rings : Tab Ring}
    {digests : List DigestJob} {port : HostPort} {span : SpanSt} {wdn : Wdn} {power : Power} {cores : Tab Core} {seals : Tab SealUnit}
    {beacons : Tab Beacon} {net landed : List Packet} {routers : Tab Router} {flits : List FlitWire} {esc : Tab Nat}
    {escNew : Option (Tab Nat × Bool)} {seamWires : Tab Nat} {wires : List WireItem} {steer : Tab (Option (List Nat))} {early netQ : List Bytes} (h : Kept r s) :
    Kept r { s with
      freeIdx, rd, time, regs, boot, badLines, badWords, ceWords, rows, slots, dmap, pool, tierMap, tier, jobs, rings, digests, port,
      span, wdn, power, cores, seals, beacons, net, landed, routers, flits, esc, escNew, seamWires, wires, steer, early, netQ } :=
  ⟨h.pending, h.mem, h.otp⟩

/-! ### Conditionals, folds and pairs -/

theorem Kept.ite {c : Prop} [Decidable c] (hs : Kept r s) (hu : Kept r u) : Kept r (if c then s else u) := by split <;> assumption

theorem Kept.foldl {f : State → β → State} {xs : List β} (h : Kept r s) (hf : ∀ u x, Kept r u → Kept r (f u x)) : Kept r (xs.foldl f s) := by
  induction xs generalizing s with
  | nil => exact h
  | cons x xs ih => exact ih (hf s x h)

theorem Kept.snd {p : α × State} {x : α} (h : Kept r p.2) (e : p = (x, u)) : Kept r u := by subst e; exact h

theorem Kept.fst {p : State × α} {x : α} (h : Kept r p.1) (e : p = (u, x)) : Kept r u := by subst e; exact h

theorem Kept.third {p : α × β × State} {x : α} {y : β} (h : Kept r p.2.2) (e : p = (x, y, u)) : Kept r u := by subst e; exact h

theorem Kept.iteSnd {c : Prop} [Decidable c] {p q : α × State} (hp : Kept r p.2) (hq : Kept r q.2) : Kept r (if c then p else q).2 := by
  split <;> assumption

theorem Kept.iteThird {c : Prop} [Decidable c] {p q : α × β × State} (hp : Kept r p.2.2) (hq : Kept r q.2.2) : Kept r (if c then p else q).2.2 := by
  split <;> assumption

theorem Kept.iteFst {c : Prop} [Decidable c] {p q : State × α} (hp : Kept r p.1) (hq : Kept r q.1) : Kept r (if c then p else q).1 := by
  split <;> assumption

theorem Kept.foldlSnd {f : α × State → β → α × State} {p : α × State} {xs : List β} (h : Kept r p.2)
    (hf : ∀ q x, Kept r q.2 → Kept r (f q x).2) : Kept r (xs.foldl f p).2 := by
  induction xs generalizing p with
  | nil => exact h
  | cons x xs ih => exact ih (hf p x h)

theorem Kept.foldlFst {f : State × α → β → State × α} {p : State × α} {xs : List β} (h : Kept r p.1)
    (hf : ∀ q x, Kept r q.1 → Kept r (f q x).1) : Kept r (xs.foldl f p).1 := by
  induction xs generalizing p with
  | nil => exact h
  | cons x xs ih => exact ih (hf p x h)

/-! ### The state that a result holds -/

theorem Kept.ofOk {a : Acc α} {v : α} (h : KeptAcc r a) (e : a = .ok u v) : Kept r u := by subst e; cases h; assumption

theorem Kept.ofUe {a : Acc α} (h : KeptAcc r a) (e : a = .ue u) : Kept r u := by subst e; cases h; assumption

theorem Kept.ofDone {a : Try} (h : KeptTry r a) (e : a = .done u) : Kept r u := by subst e; cases h; assumption

theorem Kept.ofJump {a : Try} {pc : Int} (h : KeptTry r a) (e : a = .jump u pc) : Kept r u := by subst e; cases h; assumption

theorem Kept.ofStop {a : Try} (h : KeptTry r a) (e : a = .stop u) : Kept r u := by subst e; cases h; assumption

theorem Kept.ofWait {a : Try} {stage keep operand : Nat} {sealed : Bool} (h : KeptTry r a) (e : a = .wait u stage keep operand sealed) : Kept r u := by
  subst e; cases h; assumption

theorem Kept.ofRows {a : Intake} {rs : List ActRow} {poison : Bool} (h : KeptIntake r a) (e : a = .rows u rs poison) : Kept r u := by
  subst e; cases h; assumption

theorem Kept.ofEnded {a : Intake} {code : Nat} (h : KeptIntake r a) (e : a = .ended u code) : Kept r u := by subst e; cases h; assumption

theorem Kept.ofLost {a : Intake} (h : KeptIntake r a) (e : a = .ue u) : Kept r u := by subst e; cases h; assumption

theorem Kept.ofHeld {a : Serve} (h : KeptServe r a) (e : a = .held u) : Kept r u := by subst e; cases h; assumption

theorem Kept.ofNext {a : Host.Outcome State Fault Refusal} (h : KeptOut r a) (e : a = .next u) : Kept r u := by subst e; cases h; assumption

theorem Kept.ofSome {f : α → State} {o : Option α} {x : α} (h : KeptIn r f o) (e : o = .some x) : Kept r (f x) := by subst e; cases h; assumption

theorem KeptTry.ofSome {o : Option Try} {x : Try} (h : KeptTryIn r o) (e : o = .some x) : KeptTry r x := by subst e; cases h; assumption

/-! ### Results that are put together -/

theorem Kept.pair {x : α} (h : Kept r s) : Kept r (x, s).2 := h

theorem Kept.pairFst {x : α} (h : Kept r s) : Kept r (s, x).1 := h

theorem Kept.triple {x : α} {y : β} (h : Kept r s) : Kept r (x, y, s).2.2 := h

theorem KeptAcc.ite {c : Prop} [Decidable c] {a b : Acc α} (ha : KeptAcc r a) (hb : KeptAcc r b) : KeptAcc r (if c then a else b) := by
  split <;> assumption

theorem KeptTry.ite {c : Prop} [Decidable c] {a b : Try} (ha : KeptTry r a) (hb : KeptTry r b) : KeptTry r (if c then a else b) := by
  split <;> assumption

theorem KeptTryIn.ite {c : Prop} [Decidable c] {a b : Option Try} (ha : KeptTryIn r a) (hb : KeptTryIn r b) : KeptTryIn r (if c then a else b) := by
  split <;> assumption

theorem KeptIntake.ite {c : Prop} [Decidable c] {a b : Intake} (ha : KeptIntake r a) (hb : KeptIntake r b) : KeptIntake r (if c then a else b) := by
  split <;> assumption

theorem KeptServe.ite {c : Prop} [Decidable c] {a b : Serve} (ha : KeptServe r a) (hb : KeptServe r b) : KeptServe r (if c then a else b) := by
  split <;> assumption

theorem KeptOut.ite {c : Prop} [Decidable c] {a b : Host.Outcome State Fault Refusal} (ha : KeptOut r a) (hb : KeptOut r b) :
    KeptOut r (if c then a else b) := by
  split <;> assumption

theorem KeptIn.ite {c : Prop} [Decidable c] {f : α → State} {a b : Option α} (ha : KeptIn r f a) (hb : KeptIn r f b) :
    KeptIn r f (if c then a else b) := by
  split <;> assumption

theorem KeptIn.map {f : α → State} {g : β → State} {k : α → β} {o : Option α} (h : KeptIn r f o) (hk : ∀ x, Kept r (f x) → Kept r (g (k x))) :
    KeptIn r g (o.map k) := by
  cases h with
  | none => exact .none
  | some h => exact .some (hk _ h)

theorem KeptIn.ofMap {g : β → State} {k : α → β} {o : Option α} (hk : ∀ x, Kept r (g (k x))) : KeptIn r g (o.map k) := by
  cases o with
  | none => exact .none
  | some x => exact .some (hk x)

/-! ## Byte stores and OTP -/

/-- Memory may change where its table stays canonical. -/
theorem Kept.ram {ram : Tab Byte} (h : Kept r s) (hr : twf zeroByte s.ram = true → twf zeroByte ram = true) : Kept r { s with ram } :=
  ⟨h.pending, fun hm => memWf_ram (h.mem hm) hr rfl, h.otp⟩

/-- Memory may lose what lies in a set of addresses, with any other field but the queue, the host's memory and OTP. -/
theorem Kept.wipe {p : Nat → Bool} {freeIdx : Nat} {rd : Word} {time : Nat} {regs : Tab Word} {boot : Boot} {badLines badWords ceWords : List Nat}
    {rows : Tab RowMap} {slots : Tab Slot} {dmap : List Word} {pool : Pool} {tierMap : Tab Word} {tier : Tier} {jobs : Tab (Option Job)} {rings : Tab Ring}
    {digests : List DigestJob} {port : HostPort} {span : SpanSt} {wdn : Wdn} {power : Power} {cores : Tab Core} {seals : Tab SealUnit}
    {beacons : Tab Beacon} {net landed : List Packet} {routers : Tab Router} {flits : List FlitWire} {esc : Tab Nat}
    {escNew : Option (Tab Nat × Bool)} {seamWires : Tab Nat} {wires : List WireItem} {steer : Tab (Option (List Nat))} {early netQ : List Bytes} (h : Kept r s) :
    Kept r { s with
      ram := tdrop p s.ram, freeIdx, rd, time, regs, boot, badLines, badWords, ceWords, rows, slots, dmap, pool, tierMap, tier, jobs, rings, digests,
      port, span, wdn, power, cores, seals, beacons, net, landed, routers, flits, esc, escNew, seamWires, wires, steer, early, netQ } :=
  (h.ram (twf_tdrop zeroByte p s.ram)).update

/-- The host's memory may be written. -/
theorem Kept.hostMemory {a : Nat} {b : Bytes} (h : Kept r s) : Kept r { s with hostMem := twrite zeroByte s.hostMem a b } :=
  ⟨h.pending, fun hm => memWf_hostWrite s a b (h.mem hm), h.otp⟩

/-- OTP may change where it keeps its bits. -/
theorem Kept.otpWrite {otp : Tab Byte} (h : Kept r s) (ho : BitsKept s.otp otp) : Kept r { s with otp } :=
  ⟨h.pending, h.mem, fun a k hb => ho a k (h.otp a k hb)⟩

end rules

end Sys2Proof.Machine
end

section
/-! PROOFS. What every operation on the state keeps: registers, records, memory, seals, tasks and what they share. -/

namespace Sys2Proof.Machine

open Sys2Proof.Claims

section kept
variable {r s : State}

/-! ## Registers -/

theorem Kept.setReg {k : ℕ} {v : Word} (h : Kept r s) : Kept r (s.setReg k v) := .update h

theorem Kept.setRegField {k hi lo v : ℕ} (h : Kept r s) : Kept r (s.setRegField k hi lo v) := .setReg h

theorem Kept.orReg {k m : ℕ} (h : Kept r s) : Kept r (s.orReg k m) := .setReg h

theorem Kept.count {k hi lo n : ℕ} (h : Kept r s) : Kept r (s.count k hi lo n) := .setRegField h

theorem Kept.coreStat {n off b : ℕ} (h : Kept r s) : Kept r (s.coreStat n off b) := .orReg h

theorem Kept.logOnce {k valid : ℕ} {v : Word} (h : Kept r s) : Kept r (s.logOnce k valid v) := .ite h (.setReg h)

/-! ## Time and free values -/

theorem Kept.fresh (h : Kept r s) : Kept r (s.fresh).2 := .pair (.update h)

/-! ## Cores and the kindling map -/

theorem Kept.setCore {n : ℕ} {c : Core} (h : Kept r s) : Kept r (s.setCore n c) := .update h

theorem Kept.modCore {n : ℕ} {f : Core → Core} (h : Kept r s) : Kept r (s.modCore n f) := .setCore h

theorem Kept.setTask {n t : ℕ} {k : Task} (h : Kept r s) : Kept r (s.setTask n t k) := .modCore h

theorem Kept.modTask {n t : ℕ} {f : Task → Task} (h : Kept r s) : Kept r (s.modTask n t f) := .setTask h

theorem Kept.setRow {r' : ℕ} {m : RowMap} (h : Kept r s) : Kept r (s.setRow r' m) := .update h

theorem Kept.setSlot {p : ℕ} {x : Slot} (h : Kept r s) : Kept r (s.setSlot p x) := .update h

theorem Kept.modSlot {p : ℕ} {f : Slot → Slot} (h : Kept r s) : Kept r (s.modSlot p f) := .setSlot h

/-! ## The context pool -/

theorem Kept.setMapEntry {i : ℕ} {e' : Word} (h : Kept r s) : Kept r (s.setMapEntry i e') := .update h

/-! ## Memory -/

theorem Kept.setByte {a : ℕ} {b : Byte} (h : Kept r s) : Kept r (s.setByte a b) := by
  rw [State.setByte]
  exact .ite (.setMapEntry h) (h.ram (twf_tset _ _ _ _))

theorem Kept.writeFrom {s₀ : State} {a len k : ℕ} {bs : Bytes} (h : Kept r s) : Kept r (s₀.writeFrom a len k bs s) := by
  induction bs generalizing s k with
  | nil => exact h
  | cons b bs ih => exact ih (.ite h (.setByte h))

theorem Kept.clearBad {a len : ℕ} (h : Kept r s) : Kept r (s.clearBad a len) := .update h

/-! ## Seal references and written lines -/

theorem Kept.setSeal {n : ℕ} {u : SealUnit} (h : Kept r s) : Kept r (s.setSeal n u) := .update h

theorem Kept.sealWrote {a len : ℕ} (h : Kept r s) : Kept r (s.sealWrote a len) := by
  unfold State.sealWrote
  split
  · exact .ite h (.setSeal h)

theorem Kept.store {a : ℕ} {bs : Bytes} (h : Kept r s) : Kept r (s.store a bs) := .sealWrote (.clearBad (.writeFrom h))

/-! ## Error records -/

theorem Kept.flash {type : ℕ} {body : Bytes} (h : Kept r s) : Kept r (s.flash type body) := .update h

theorem Kept.publish {sev : ℕ} {bs : Bytes} (h : Kept r s) : Kept r (s.publish sev bs) := by
  unfold State.publish
  extract_lets u src u₁
  have hu : Kept r u := .ite (.update h) h
  have hu₁ : Kept r u₁ := .ite (.update hu) hu
  exact .ite hu₁ (.flash hu₁)

theorem Kept.logStore {seq : ℕ} {bs : Bytes} (h : Kept r s) : Kept r (s.logStore seq bs) := .store (.ite (.count h) h)

theorem Kept.record {b : RecBody} (h : Kept r s) : Kept r (s.record b) :=
  .ite (.ite (.update (.publish (.setReg h))) (.count (.publish (.setReg h)))) (.logStore (.publish (.setReg h)))

theorem Kept.coreRec {sev src code n : ℕ} (h : Kept r s) : Kept r (s.coreRec sev src code n) := .record h

/-! ## The life of a task -/

theorem Kept.setBeacon {g : ℕ} {b : Beacon} (h : Kept r s) : Kept r (s.setBeacon g b) := .update h

theorem Kept.leaveBar {n t : ℕ} (h : Kept r s) : Kept r (s.leaveBar n t) := by
  unfold State.leaveBar
  extract_lets c
  split
  · exact .ite h (.ite (.setCore h) (.setBeacon (.setCore h)))
  · exact h

theorem Kept.endWith {n t code : ℕ} {at_ : Option ℕ} {detail : Word} (h : Kept r s) : Kept r (s.endWith n t code at_ detail) := by
  unfold State.endWith
  extract_lets k
  split
  · exact h
  · exact .ite h (.leaveBar (.setTask h))
  · exact .leaveBar (.setTask h)

theorem Kept.endTask {n t code : ℕ} {detail : Word} (h : Kept r s) : Kept r (s.endTask n t code detail) := .endWith h

theorem Kept.endAsync {n t pc code : ℕ} {detail : Word} (h : Kept r s) : Kept r (s.endAsync n t pc code detail) := .endWith h

theorem Kept.freezeTask {n t : ℕ} {why : Freeze} (h : Kept r s) : Kept r (s.freezeTask n t why) := by
  unfold State.freezeTask
  extract_lets k
  split
  · exact .setTask h
  · exact .setTask h
  · exact .setTask h
  · exact h

/-! ## Conditions, and the status bits and counters that results set -/

theorem Kept.drainFlags {n d : ℕ} {f : Flags} (h : Kept r s) : Kept r (s.drainFlags n d f) := .orReg h

theorem Kept.rowFlags {n : ℕ} {f : Flags} (h : Kept r s) : Kept r (s.rowFlags n f) := .orReg h

theorem Kept.vecFlags {n : ℕ} {f : Flags} (h : Kept r s) : Kept r (s.vecFlags n f) := .orReg h

theorem Kept.evBump {n c k : ℕ} (h : Kept r s) : Kept r (s.evBump n c k) := .ite (.orReg (.setReg h)) (.setReg h)

theorem Kept.evCore {n code k k₁ : ℕ} (h : Kept r s) : Kept r (s.evCore n code k k₁) := by
  induction k₁ generalizing s with
  | zero =>
    rw [State.evCore]
    exact h
  | succ k ih =>
    rw [State.evCore]
    exact .ite (.evBump (ih h)) (ih h)

theorem Kept.evDie {d code idx k k₁ : ℕ} (h : Kept r s) : Kept r (s.evDie d code idx k k₁) := by
  induction k₁ generalizing s with
  | zero =>
    rw [State.evDie]
    exact h
  | succ k ih =>
    rw [State.evDie]
    exact .ite (.setReg (ih h)) (ih h)

theorem Kept.event {n code k : ℕ} (h : Kept r s) : Kept r (s.event n code k) := .evDie (.evCore h)

theorem Kept.dieEvent {d code idx k : ℕ} (h : Kept r s) : Kept r (s.dieEvent d code idx k) := .evDie h

/-! ## What a scratchpad access reports (R160, R185) -/

theorem Kept.noteCeN {n k : ℕ} (h : Kept r s) : Kept r (s.noteCeN n k) := .ite h (.coreRec (.event (.coreStat (.count h))))

theorem Kept.noteCe {n a len : ℕ} (h : Kept r s) : Kept r (s.noteCe n a len) := .noteCeN h

theorem Kept.mergeCe {n : ℕ} {ps : List (ℕ × ℕ)} (h : Kept r s) : Kept r (s.mergeCe n ps) := .noteCeN h

theorem Kept.noteUeBy {n off k code job : ℕ} (h : Kept r s) : Kept r (s.noteUeBy n off k code job) := by
  unfold State.noteUeBy
  extract_lets u u₁
  have hu : Kept r u := .count (.coreStat h)
  have hu₁ : Kept r u₁ := .logOnce hu
  exact .record hu₁

theorem Kept.noteUe {n off k : ℕ} {i : SpadInit} {job : ℕ} (h : Kept r s) : Kept r (s.noteUe n off k i job) := .noteUeBy h

theorem Kept.copyUe {n off k job : ℕ} (h : Kept r s) : Kept r (s.copyUe n off k job) := by
  unfold State.copyUe
  split
  next e => exact .noteUeBy (.snd (.fresh h) e)

theorem Kept.pieceStore {n : ℕ} {xs : List (ℕ × ℕ)} {xs₁ : Bytes} (h : Kept r s) : Kept r (s.pieceStore n xs xs₁) := by
  induction xs generalizing s n xs₁ with
  | nil =>
    rw [State.pieceStore]
    exact h
  | cons x xs ih =>
    rw [State.pieceStore]
    exact ih (.store h)

theorem Kept.pieceCe {n : ℕ} {xs : List (ℕ × ℕ)} (h : Kept r s) : Kept r (s.pieceCe n xs) := by
  induction xs generalizing s with
  | nil =>
    rw [State.pieceCe]
    exact h
  | cons x xs ih =>
    rw [State.pieceCe]
    exact ih (.noteCe h)

theorem KeptAcc.taskRead {n t : ℕ} {addr : Word} {len : ℕ} {i : SpadInit} (h : Kept r s) : KeptAcc r (s.taskRead n t addr len i) := by
  unfold State.taskRead
  split
  · exact .access
  · exact .held
  · split
    · exact .ue (.freezeTask (.noteUe h))
    · exact .ok (.pieceCe h)

theorem KeptAcc.taskWrite {n t : ℕ} {addr : Word} {bs : Bytes} {i : SpadInit} (h : Kept r s) : KeptAcc r (s.taskWrite n t addr bs i) := by
  unfold State.taskWrite
  split
  · exact .access
  · exact .held
  · split
    · exact .ue (.freezeTask (.noteUe (.pieceStore h)))
    · exact .ok (.pieceStore (.mergeCe h))

/-! ## Issue -/

theorem Kept.setPc {n t : ℕ} {pc : ℤ} (h : Kept r s) : Kept r (s.setPc n t pc) := .ite (.setTask h) (.endTask h)

theorem Kept.finish {n t opc : ℕ} {f : InsnBits} {y : Try} (h : KeptTry r y) : Kept r (s.finish n t opc f y) := by
  cases h with
  | done h => exact .setPc h
  | jump h => exact .setPc h
  | stop h => exact h
  | wait h => exact .setTask h

theorem Kept.attempt {n t opc : ℕ} {f : InsnBits} {stage keep : ℕ} {body : ℕ → ℕ → State → Try} (h : Kept r s)
    (h₁ : ∀ y, ∀ y₁, ∀ u, Kept r u → KeptTry r (body y y₁ u)) :
    Kept r (s.attempt n t opc f stage keep body) :=
  .ite (.finish (.wait h)) (.finish (h₁ _ _ _ h))

theorem Kept.atIssue {n t opc : ℕ} {f : InsnBits} (h : Kept r s) : Kept r (s.atIssue n t opc f) := .modTask (.event (.count h))

theorem Kept.issue {n t opc : ℕ} {f : InsnBits} {body : ℕ → ℕ → State → Try} (h : Kept r s) (h₁ : ∀ y, ∀ y₁, ∀ u, Kept r u → KeptTry r (body y y₁ u))
    :
    Kept r (s.issue n t opc f body) :=
  .ite (.ite (.ite (.attempt (.atIssue h) (fun _ _ _ hu => h₁ _ _ _ hu)) (.finish (.done (.atIssue h)))) (.endTask h)) h

theorem KeptTry.async {α : Type} {x : Acc α} {n t : ℕ} {addr : Word} {ok : State → α → Try} (h : KeptAcc r x) (hs : Kept r s)
    (hok : ∀ u, Kept r u → ∀ y, KeptTry r (ok u y)) : KeptTry r (x.tryAsync s n t addr ok) := by
  cases h with
  | ok h => exact hok _ h _
  | held => exact .wait hs
  | access => exact .stop (.endAsync hs)
  | ue h => exact .stop h

theorem KeptTry.acc {α : Type} {x : Acc α} {n t : ℕ} {addr : Word} {ok : State → α → Try} (h : KeptAcc r x) (hs : Kept r s)
    (hok : ∀ u, Kept r u → ∀ y, KeptTry r (ok u y)) : KeptTry r (x.try_ s n t addr ok) := by
  cases h with
  | ok h => exact hok _ h _
  | held => exact .wait hs
  | access => exact .stop (.endTask hs)
  | ue h => exact .stop h

/-! ## What a task still has outstanding in the units of its core -/

theorem KeptAcc.block {n t : ℕ} {addr : Word} {len : ℕ} (h : Kept r s) : KeptAcc r (s.block n t addr len) := .ite .access (.taskRead h)

theorem KeptTry.uwait {n t : ℕ} {f : InsnBits} (h : Kept r s) : KeptTry r (tryUwait n t f s) := .ite (.done h) (.wait h)

theorem KeptOut.uwait {c : CoreId} {t : TaskSlot} {f : InsnBits} (h : Kept r s) : KeptOut r (execUwait c t f s) :=
  .next (.issue h (fun _ _ _ hu => .uwait hu))

/-! ## What is discarded -/

theorem Kept.setAgent {d : ℕ} {a : Agent} (h : Kept r s) : Kept r (s.setAgent d a) := .update h

theorem Kept.discardOps {n t : ℕ} (h : Kept r s) : Kept r (s.discardOps n t) := .setAgent (.leaveBar (.modCore h))

/-! ## Operations on seal logic that other units use -/

theorem Kept.modWin {n : ℕ} {e' : BitVec 32} {f : SealWin → SealWin} (h : Kept r s) : Kept r (s.modWin n e' f) := .setSeal h

theorem KeptIn.openWindow {n t unit : ℕ} (h : Kept r s) : KeptIn r (fun y => y.2) (s.openWindow n t unit) := by
  unfold State.openWindow
  extract_lets u k w
  exact .ite .none (.some (.pair (.setSeal h)))

theorem Kept.ownRefs {n : ℕ} {e' : BitVec 32} {bs : List ℕ} (h : Kept r s) : Kept r (s.ownRefs n e' bs) := .ite (.setSeal h) h

theorem KeptAcc.windowWrite {n t : ℕ} {e' : Option (BitVec 32)} {addr : Word} {bs : Bytes} (h : Kept r s) :
    KeptAcc r (s.windowWrite n t e' addr bs) := by
  unfold State.windowWrite
  split
  · refine .ite .held ?_
    split
    next e₃ => exact .ok (.ownRefs (.ofOk (.taskWrite h) e₃))
    · exact .taskWrite h
  · exact .taskWrite h

theorem Kept.winFlags {n : ℕ} {e' : Option (BitVec 32)} {f : Flags} (h : Kept r s) : Kept r (s.winFlags n e' f) := by
  unfold State.winFlags
  split
  · exact .ite h (.modWin h)
  · exact h

/-! ## Who may write a register -/

theorem Kept.deny {who : Initiator} {off : ℕ} (h : Kept r s) : Kept r (s.deny who off) :=
  .ite (.record (.logOnce (.orReg (.count h)))) (.logOnce (.orReg (.count h)))

theorem Kept.gate {who : Initiator} {key : ℕ} {cls : RegClass} {eff : State → State} (h : Kept r s) (h₁ : ∀ u, Kept r u → Kept r (eff u)) :
    Kept r (s.gate who key cls eff) :=
  .ite h (.ite (h₁ _ h) (.deny h))

theorem Kept.gateReg {who : Initiator} {key : ℕ} {eff : State → State} (h : Kept r s) (h₁ : ∀ u, Kept r u → Kept r (eff u)) :
    Kept r (s.gateReg who key eff) :=
  .gate h (fun _ hu => h₁ _ hu)

theorem Kept.regWrite {key : ℕ} {v : Word} (h : Kept r s) : Kept r (s.regWrite key v) := by
  unfold State.regWrite
  split
  · exact h
  · exact .setReg h

/-! ## Packets as flits (R253, R254, R255) -/

theorem Kept.inject {p : Packet} (h : Kept r s) : Kept r (s.inject p) := .update h

theorem Kept.lose {f : Flit} (h : Kept r s) : Kept r (s.lose f) := by
  unfold State.lose
  split
  · exact .update h
  · exact h

theorem Kept.land {fs : List Flit} (h : Kept r s) : Kept r (s.land fs) := by
  unfold State.land
  split
  · exact .ite (.update h) (.update (.update h))
  · exact h

theorem Kept.modRouter {p : ℕ} {f : Router → Router} (h : Kept r s) : Kept r (s.modRouter p f) := .update h

theorem Kept.escSettle (h : Kept r s) : Kept r (s.escSettle) := by
  unfold State.escSettle
  split
  · exact .ite (.update h) h
  · exact h

theorem Kept.emptyRouter {p : ℕ} (h : Kept r s) : Kept r (s.emptyRouter p) := by
  unfold State.emptyRouter
  extract_lets u u₁ u₂
  have hu : Kept r u := .foldl h fun _ _ hu₃ => .foldl hu₃ fun _ _ hu₄ => .lose hu₄
  have hu₁ : Kept r u₁ := .foldl hu fun _ _ hu₃ => .foldl hu₃ fun _ _ hu₄ => .lose hu₄
  have hu₂ : Kept r u₂ := .modRouter hu₁
  refine .escSettle (.foldl hu₂ fun u₃ x hu₃ => ?_)
  split
  · exact .modRouter hu₃
  · exact hu₃

theorem Kept.take {p : Packet} (h : Kept r s) : Kept r (s.take p) := .update h

end kept

end Sys2Proof.Machine
end

section
/-! PROOFS. What the operations of the units keep: bank groups, the context pool, jobs, lattice links, slots, tests and moves. -/

namespace Sys2Proof.Machine

open Sys2Proof.Claims

section kept
variable {r s : State}

/-! ## Bank groups' power, narrow accesses of the control tree to a scratchpad, and the gather buffer -/

theorem Kept.flushWord {n : ℕ} {g : Gather} {o : ℕ} (h : Kept r s) : Kept r (s.flushWord n g o) :=
  .ite h (.ite (.store h) (.ite (.noteUe h) (.foldl (.mergeCe h) fun _ _ hu => .store hu)))

theorem Kept.gatherFlush {n : ℕ} (h : Kept r s) : Kept r (s.gatherFlush n) := by
  unfold State.gatherFlush
  split
  · exact h
  · exact .modCore (.foldl h fun _ _ hu => .flushWord hu)

theorem Kept.gatherAway {n o : ℕ} (h : Kept r s) : Kept r (s.gatherAway n o) := by
  unfold State.gatherAway
  split
  · exact .ite h (.gatherFlush h)
  · exact h

theorem Kept.loadLine {n o : ℕ} (h : Kept r s) : Kept r (s.loadLine n o) := .ite (.noteCe h) (.noteUe (.noteCe h))

theorem Kept.gatherRead {n o size : ℕ} (h : Kept r s) : Kept r (s.gatherRead n o size) := by
  unfold State.gatherRead
  extract_lets u g bad u₁ u₂ v
  have hu : Kept r u := .gatherAway h
  have hu₁ : Kept r u₁ := .ite (.ite (.noteUe hu) hu) (.loadLine hu)
  have hu₂ : Kept r u₂ := .modCore hu₁
  exact .update hu₂

theorem Kept.gatherWrite {n o : ℕ} {bs : Bytes} (h : Kept r s) : Kept r (s.gatherWrite n o bs) := by
  unfold State.gatherWrite
  exact .modCore (.gatherAway h)

theorem Kept.treeRead {n o size : ℕ} (h : Kept r s) : Kept r (s.treeRead n o size) := by
  unfold State.treeRead
  split
  · exact .update (.noteUe h)
  · exact .update (.noteCe h)

theorem Kept.treeWrite {n o : ℕ} {bs : Bytes} (h : Kept r s) : Kept r (s.treeWrite n o bs) := by
  unfold State.treeWrite
  split
  · exact .noteUe h
  · exact .pieceStore (.mergeCe h)

theorem Kept.treeAccess {a size : ℕ} {write : Option Word} (h : Kept r s) : Kept r (s.treeAccess a size write) := by
  unfold State.treeAccess
  extract_lets none_
  have hnone_ : ∀ u, Kept r u → Kept r (none_ u) := fun _ hu => .ite (.update hu) hu
  split
  · refine .ite (hnone_ _ h) (.ite (hnone_ _ (.coreStat h)) ?_)
    split
    · exact .ite (.gatherWrite h) (.treeWrite h)
    · exact .ite (.gatherRead h) (.treeRead h)
  · exact hnone_ _ h

theorem KeptOut.gatherIdleFlush {c : CoreId} (h : Kept r s) : KeptOut r (execGatherIdleFlush c s) := .next (.gatherFlush h)

/-! ## What the rings record of corrected and uncorrectable lines of hearth and peat -/

theorem Kept.hearthCe {a : ℕ} (h : Kept r s) : Kept r (s.hearthCe a) := by
  unfold State.hearthCe
  split
  · exact .ite (.record (.orReg (.count h))) (.orReg (.count h))

theorem Kept.hearthUe {a : ℕ} (h : Kept r s) : Kept r (s.hearthUe a) := by
  unfold State.hearthUe
  split
  · exact .record (.logOnce (.orReg (.count h)))

theorem Kept.peatCe {a : ℕ} (h : Kept r s) : Kept r (s.peatCe a) := by
  unfold State.peatCe
  split
  · exact .orReg (.count h)

theorem Kept.peatUe {a : ℕ} (h : Kept r s) : Kept r (s.peatUe a) := by
  unfold State.peatUe
  split
  · exact .record (.logOnce (.orReg (.count h)))

theorem Kept.pprRequest {a : ℕ} (h : Kept r s) : Kept r (s.pprRequest a) := by
  unfold State.pprRequest
  split
  · exact .ite h (.orReg (.setReg h))

theorem Kept.lineUe {a : ℕ} (h : Kept r s) : Kept r (s.lineUe a) := .ite (.hearthUe h) (.pprRequest (.peatUe h))

theorem Kept.noteErrs {a len : ℕ} {errs : LineErrs} (h : Kept r s) : Kept r (s.noteErrs a len errs) :=
  .foldl h fun _ _ hu => .ite hu (.ite (.update hu) (.ite (.hearthCe hu) (.peatCe hu)))

theorem Kept.lineRead {a len : ℕ} (h : Kept r s) : Kept r (s.lineRead a len).2 := by
  unfold State.lineRead
  extract_lets ls bad
  exact .pair (.foldl h fun _ _ hu => .lineUe hu)

/-! ## The context pool -/

theorem Kept.setHeat {i h' : ℕ} (h : Kept r s) : Kept r (s.setHeat i h') := .setMapEntry h

theorem Kept.setPin {i : ℕ} {b : Bool} (h : Kept r s) : Kept r (s.setPin i b) := .setMapEntry h

theorem Kept.setMoving {i : ℕ} {b : Bool} (h : Kept r s) : Kept r (s.setMoving i b) := .setMapEntry h

theorem Kept.tierStat {b : ℕ} (h : Kept r s) : Kept r (s.tierStat b) := .orReg h

theorem Kept.mapUe {i : ℕ} (h : Kept r s) : Kept r (s.mapUe i) := .ite (.record (.tierStat (.update (.lineUe h)))) h

theorem Kept.readMap {i : ℕ} (h : Kept r s) : Kept r (s.readMap i) := .mapUe (.dieEvent (.count h))

theorem Kept.lookup {i : ℕ} (h : Kept r s) : Kept r (s.lookup i) := .ite h (.setAgent (.readMap h))

theorem Kept.promote {i : ℕ} (h : Kept r s) : Kept r (s.promote i) := .ite h (.ite (.setAgent h) (.count (.tierStat (.setAgent h))))

theorem Kept.promoteFirst {i : ℕ} (h : Kept r s) : Kept r (s.promoteFirst i) := .ite (.setAgent h) (.count (.tierStat (.setAgent h)))

theorem Kept.touch {i tier : ℕ} (h : Kept r s) : Kept r (s.touch i tier) := .ite h (.ite (.promote (.setHeat h)) (.setHeat h))

theorem Kept.accessS {i tier : ℕ} (h : Kept r s) : Kept r (s.access i tier) := .touch (.lookup h)

theorem Kept.ringRead {a len : ℕ} (h : Kept r s) : Kept r (s.ringRead a len).2 := by
  unfold State.ringRead
  extract_lets u
  have hu : Kept r u := .foldl h fun _ _ hu₁ => .accessS hu₁
  exact .iteSnd (.pair hu) (.lineRead hu)

/-! ## Back-invalidation (spec/11 R360) -/

theorem Kept.snoopedAll {rs : List (ℕ × ℕ × Bool)} (h : Kept r s) : Kept r (s.snoopedAll rs).2 := by
  unfold State.snoopedAll
  extract_lets on inv blocks due u src src₁
  have hu : Kept r u := .count h
  exact .iteSnd (.pair (.update hu)) (.pair (.update h))

theorem Kept.snooped {a len : ℕ} {write : Bool} (h : Kept r s) : Kept r (s.snooped a len write).2 := .snoopedAll h

/-! ## Jobs as their tasks and seals report to them -/

theorem Kept.setJob {tag : ℕ} {j : Option Job} (h : Kept r s) : Kept r (s.setJob tag j) := .update h

theorem Kept.modJob {tag : ℕ} {f : Job → Job} (h : Kept r s) : Kept r (s.modJob tag f) := .setJob h

theorem Kept.killTask {n t : ℕ} (h : Kept r s) : Kept r (s.killTask n t) := .ite h (.modTask (.discardOps h))

theorem Kept.killJob {j : Job} (h : Kept r s) : Kept r (s.killJob j) := by
  unfold State.killJob
  refine .foldl h fun u x hu => ?_
  split
  · exact .killTask hu
  · exact hu

theorem Kept.jobCause {tag : ℕ} {c : JobCause} (h : Kept r s) : Kept r (s.jobCause tag c) := by
  unfold State.jobCause
  split
  · exact .ite h (.killJob (.setJob h))
  · exact h

theorem Kept.jobsSee (h : Kept r s) : Kept r (s.jobsSee) := .update h

theorem Kept.jobsSeal {u : ℕ} {key : ProdKey} {e' : BitVec 32} {flags : ℕ} (h : Kept r s) : Kept r (s.jobsSeal u key e' flags) := .ite h (.update h)

theorem Kept.taskReported {tag n : ℕ} {no : BitVec 32} {code : ℕ} (h : Kept r s) : Kept r (s.taskReported tag n no code) :=
  .ite (.jobsSee (.modJob h)) (.jobCause (.modJob h))

/-! ## The operand lattice's links -/

theorem Kept.linkMoved {l : ℕ} (h : Kept r s) : Kept r (s.linkMoved l) := by
  unfold State.linkMoved
  extract_lets u
  have hu : Kept r u := .modCore h
  split
  · exact .modCore hu
  · exact hu

theorem Kept.pumpLink {l : ℕ} (h : Kept r s) : Kept r (s.pumpLink l) := by
  unfold State.pumpLink
  extract_lets k
  split
  · exact h
  · exact .ite h (.update (.linkMoved (.modCore h)))

theorem Kept.emit {n i : ℕ} {x : LatItem} (h : Kept r s) : Kept r (s.emit n i x) := .pumpLink (.modCore h)

theorem KeptOut.routeSteerChange {c : CoreId} {d : Dir} (h : Kept r s) : KeptOut r (execRouteSteerChange c d s) :=
  .ite (.next h) (.next (.pumpLink (.update h)))

/-! ## The kindling map and the service states of slots -/

theorem Kept.smdStat {b : ℕ} (h : Kept r s) : Kept r (s.smdStat b) := .orReg h

/-! ## The defect map (R442) -/

theorem Kept.setOtp {a v : ℕ} (h : Kept r s) : Kept r (s.setOtp a v) := h.otpWrite (BitsKept.setOtp _ _ _)

theorem Kept.journalEntry {e' : Word} (h : Kept r s) : Kept r (s.journalEntry e') := by
  unfold State.journalEntry
  extract_lets u
  have hu : Kept r u := .update h
  split
  · exact .setOtp (.setOtp hu)
  · exact .flash hu

theorem Kept.journal {kind p rest : ℕ} (h : Kept r s) : Kept r (s.journal kind p rest) := .journalEntry h

/-! ## Registers that belong to a physical slot -/

theorem Kept.setRepairs {p : ℕ} {ws : List Word} (h : Kept r s) : Kept r (s.setRepairs p ws) := .foldl h fun _ _ hu => .setReg hu

theorem Kept.resetPage {p : ℕ} (h : Kept r s) : Kept r (s.resetPage p) := .setRepairs (.update h)

theorem Kept.dropLoose {n : ℕ} (h : Kept r s) : Kept r (s.dropLoose n) := .wipe h

theorem Kept.reinit {p : ℕ} (h : Kept r s) : Kept r (s.reinit p) := by
  unfold State.reinit
  extract_lets u
  have hu : Kept r u := .resetPage h
  split
  · exact .wipe (.setCore hu)
  · exact hu

/-! ## Placement -/

theorem Kept.keepRoutes {s' : State} {ks : List ℕ} (h : Kept r s) : Kept r (s.keepRoutes s' ks) :=
  .foldl h fun _ _ hu => .ite (.update hu) hu

theorem Kept.moved {n : ℕ} (h : Kept r s) : Kept r (s.moved n) := .dropLoose (.modCore h)

theorem Kept.settleSlot {p : ℕ} (h : Kept r s) : Kept r (s.settleSlot p) :=
  .ite (.setSlot h) (.ite (.setSlot h) (.ite (.setSlot h) (.ite (.setSlot h) h)))

theorem Kept.placeRow {r' : ℕ} {m : RowMap} (h : Kept r s) : Kept r (s.placeRow r' m) := .foldl (.setRow h) fun _ _ hu => .setReg hu

theorem Kept.commitU {r' u : ℕ} (h : Kept r s) : Kept r (s.commitU r' u) := by
  unfold State.commitU
  extract_lets was src u₁ u₂
  have hwas : Kept r was := h
  have hu₁ : Kept r u₁ := .placeRow h
  have hu₂ : Kept r u₂ := .foldl hu₁ fun _ _ hu₃ => .ite (.moved hu₃) hu₃
  exact .keepRoutes (.foldl hu₂ fun _ _ hu₃ => .settleSlot hu₃)

/-! ## Tests under way -/

theorem Kept.testRecord {p slice result : ℕ} {pinch : Bool} (h : Kept r s) : Kept r (s.testRecord p slice result pinch) := by
  unfold State.testRecord
  exact .modSlot h

theorem Kept.smdDone {d result : ℕ} (h : Kept r s) : Kept r (s.smdDone d result) := .setReg h

theorem Kept.quitSlice {p : ℕ} (h : Kept r s) : Kept r (s.quitSlice p) := .ite (.setRow h) h

theorem Kept.endTest {p svc result : ℕ} (h : Kept r s) : Kept r (s.endTest p svc result) := by
  unfold State.endTest
  extract_lets x cmd idle u u₁
  have hu : Kept r u := by
    unfold u
    split
    · exact .gatherFlush h
    · exact h
  have hu₁ : Kept r u₁ := .quitSlice (.setSlot hu)
  exact .ite (.smdDone hu₁) hu₁

theorem Kept.abandonTest {p : ℕ} (h : Kept r s) : Kept r (s.abandonTest p) := by
  unfold State.abandonTest
  extract_lets x
  split
  · exact .endTest (.ite (.testRecord h) (.reinit (.testRecord h)))
  · exact h

theorem Kept.startTest {p : ℕ} {inPlace cmd : Bool} (h : Kept r s) : Kept r (s.startTest p inPlace cmd) := .modSlot h

theorem Kept.beginSlice {p : ℕ} (h : Kept r s) : Kept r (s.beginSlice p) := .modSlot (.setRow h)

theorem Kept.endSlice {p : ℕ} {t : TestRun} (h : Kept r s) : Kept r (s.endSlice p t) := by
  unfold State.endSlice
  refine .ite h ?_
  extract_lets u
  have hu : Kept r u := by
    unfold u
    split
    · exact .gatherFlush h
    · exact h
  exact .modSlot (.quitSlice hu)

theorem Kept.testResting {r' i : ℕ} {cmd : Bool} (h : Kept r s) : Kept r (s.testResting r' i cmd) := .startTest (.modSlot h)

/-! ## Moves of the resting slot (R427, R430) -/

theorem Kept.thaw {n : ℕ} (h : Kept r s) : Kept r (s.thaw n) := .foldl h fun _ _ hu => .ite (.setTask hu) hu

theorem Kept.finishMove {r' : ℕ} {m : Move} (h : Kept r s) : Kept r (s.finishMove r' m) := by
  unfold State.finishMove
  extract_lets src u u₁ u₂
  have hu : Kept r u := .setRow h
  have hu₁ : Kept r u₁ := .ite (.smdDone hu) hu
  have hu₂ : Kept r u₂ := .ite (.record hu₁) hu₁
  exact .ite (.testResting hu₂) hu₂

theorem Kept.beginMove {r' g k : ℕ} {lost : List ℕ} {test cmd bad : Bool} (h : Kept r s) : Kept r (s.beginMove r' g k lost test cmd bad) :=
  .ite (.finishMove (.commitU h)) (.setRow h)

theorem Kept.planMove {r' k : ℕ} {test cmd bad : Bool} (h : Kept r s) : Kept r (s.planMove r' k test cmd bad) := by
  unfold State.planMove
  split
  · exact .beginMove h
  · exact h

/-! ## Fences and watches -/

theorem Kept.freezeAll {n : ℕ} {why : Freeze} (h : Kept r s) : Kept r (s.freezeAll n why) := .foldl h fun _ _ hu => .freezeTask hu

theorem Kept.beginRevision {r' : ℕ} {cmd : Bool} (h : Kept r s) : Kept r (s.beginRevision r' cmd) := by
  unfold State.beginRevision
  extract_lets u lost m gone u₁ src
  have hu₁ : Kept r u₁ := .foldl h fun _ _ hu₂ => .freezeAll hu₂
  exact .setRow hu₁

theorem Kept.dropMove {r' : ℕ} {abort : Bool} (h : Kept r s) : Kept r (s.dropMove r' abort) := by
  unfold State.dropMove
  split
  · extract_lets src u u₁
    have hu : Kept r u := .foldl (.setRow h) fun _ _ hu₂ => .thaw hu₂
    have hu₁ : Kept r u₁ := .ite (.smdStat hu) hu
    exact .ite (.smdDone hu₁) hu₁
  · exact h

theorem Kept.routerLost {p : ℕ} (h : Kept r s) : Kept r (s.routerLost p) := .update (.emptyRouter h)

theorem Kept.leaveService {p svc : ℕ} {router cmd : Bool} (h : Kept r s) : Kept r (s.leaveService p svc router cmd) := by
  unfold State.leaveService
  extract_lets r' u u₁ u₂ free held u₃ u₄ u₅ u₆ u₇ u₈ src
  have hu : Kept r u := by
    unfold u
    split
    · exact .ite (.smdDone h) h
    · exact h
  have hu₁ : Kept r u₁ := .foldl hu fun _ _ hu₉ => .ite hu₉ (.abandonTest hu₉)
  have hu₂ : Kept r u₂ := .dropMove hu₁
  have hu₃ : Kept r u₃ := .foldl hu₂ fun _ _ hu₉ => .freezeAll hu₉
  have hu₄ : Kept r u₄ := .quitSlice hu₃
  have hu₅ : Kept r u₅ := .modSlot hu₄
  have hu₆ : Kept r u₆ := .foldl hu₅ fun _ _ hu₉ => .ite (.modSlot hu₉) hu₉
  have hu₇ : Kept r u₇ := .ite (.routerLost hu₆) hu₆
  have hu₈ : Kept r u₈ := .journal (.smdStat hu₇)
  refine .ite ?_ (.beginRevision hu₈)
  clear_value free
  split
  · exact .ite (.ite (.smdDone (.setRow hu₈)) (.setRow hu₈)) (.beginMove (.setRow hu₈))
  · exact .ite (.smdDone hu₈) hu₈

theorem Kept.enterWatch {p : ℕ} (h : Kept r s) : Kept r (s.enterWatch p) := .ite (.planMove (.modSlot h)) (.modSlot h)

theorem Kept.attributed {n : ℕ} (h : Kept r s) : Kept r (s.attributed n) := by
  unfold State.attributed
  split
  · exact h
  · exact .ite (.enterWatch (.setSlot h)) (.setSlot h)

theorem Kept.arrayFaulty {n mask : ℕ} (h : Kept r s) : Kept r (s.arrayFaulty n mask) := by
  unfold State.arrayFaulty
  extract_lets u
  have hu : Kept r u := .foldl h fun _ _ hu₁ => .ite (.freezeTask hu₁) hu₁
  split
  · exact .leaveService hu
  · exact hu

end kept

end Sys2Proof.Machine
end

section
/-! PROOFS. What the operations of arrays, narrow accesses, the mesh, messages and receive queues keep. -/

namespace Sys2Proof.Machine

open Sys2Proof.Claims

section kept
variable {r s : State}

/-! ## The matrix arrays -/

theorem KeptAcc.taskReads {n t : ℕ} {xs : List (ℕ × ℕ)} (h : Kept r s) : KeptAcc r (s.taskReads n t xs) := by
  induction xs generalizing s with
  | nil =>
    rw [State.taskReads]
    exact .ok h
  | cons x xs ih =>
    rw [State.taskReads]
    split
    next u _ e =>
      have hu : Kept r u := .ofOk (.taskRead h) e
      split
      next e₁ => exact .ok (.ofOk (ih hu) e₁)
      · exact .held
      · exact .access
      next e₁ => exact .ue (.ofUe (ih hu) e₁)
    · exact .held
    · exact .access
    next e => exact .ue (.ofUe (.taskRead h) e)

theorem KeptTry.arrayFault {n t : ℕ} (h : Kept r s) : KeptTry r (s.arrayFault n t) := .stop (.endTask h)

/-! ## WLOAD -/

theorem KeptTry.wload {n t : ℕ} {f : InsnBits} (h : Kept r s) : KeptTry r (tryWload n t f s) :=
  .acc (.block h) h (fun _ hu _ => .ite (.arrayFault hu) (.ite (.wait hu) (.done (.setCore hu))))

theorem KeptOut.wload {c : CoreId} {t : TaskSlot} {f : InsnBits} (h : Kept r s) : KeptOut r (execWload c t f s) :=
  .next (.issue h (fun _ _ _ hu => .wload hu))

theorem Kept.empty {c : CoreId} {a : ArrayId} (h : Kept r s) : Kept r (execWeightLoadReady.empty c a s) := .modCore h

theorem KeptOut.weightLoadReady {c : CoreId} {a : ArrayId} (h : Kept r s) : KeptOut r (execWeightLoadReady c a s) := by
  unfold execWeightLoadReady
  extract_lets x
  split
  · refine .ite ?_ (.next h)
    split
    next u _ e₁ =>
      have hu : Kept r u := .ofOk (.taskReads h) e₁
      split
      next e₂ => exact .next (.modCore (.ofOk (.taskReads hu) e₂))
      · exact .next hu
      · exact .next (.endAsync (.empty hu))
      next e₂ => exact .next (.empty (.ofUe (.taskReads hu) e₂))
    · exact .next h
    · exact .next (.endAsync (.empty h))
    next e₁ => exact .next (.empty (.ofUe (.taskReads h) e₁))
  · exact .next h

/-! ## STREAM and DSET -/

theorem KeptTry.stream {n t : ℕ} {f : InsnBits} (h : Kept r s) : KeptTry r (tryStream n t f s) :=
  .acc (.block h) h (fun _ hu _ => .ite (.arrayFault hu) (.ite (.wait hu) (.ite (.done hu) (.done (.setCore hu)))))

theorem KeptOut.stream {c : CoreId} {t : TaskSlot} {f : InsnBits} (h : Kept r s) : KeptOut r (execStream c t f s) :=
  .next (.issue h (fun _ _ _ hu => .stream hu))

theorem Kept.drainCfgBits {n mask : ℕ} (h : Kept r s) : Kept r (s.drainCfgBits n mask) := .orReg h

theorem Kept.ofDrainReg {n base mask rw v : ℕ} (h : Kept r s) : Kept r (drainReg n base mask rw v s) := .foldl h fun _ _ hu => .setReg hu

theorem KeptTry.dset {n t : ℕ} {f : InsnBits} (h : Kept r s) : KeptTry r (tryDset n t f s) := by
  unfold tryDset
  refine .acc (.block h) h (fun u hu x => .ite (.stop (.endTask (.drainCfgBits hu))) (.ite (.wait hu) ?_))
  extract_lets u₁ u₂ u₃ st
  exact .done (.modCore (.ofDrainReg (.ofDrainReg (.ofDrainReg hu))))

theorem KeptOut.dset {c : CoreId} {t : TaskSlot} {f : InsnBits} (h : Kept r s) : KeptOut r (execDset c t f s) :=
  .next (.issue h (fun _ _ _ hu => .dset hu))

/-! ## Stream start (R61, R62, R70, R72, R93) -/

theorem KeptOut.fail {c : CoreId} {x : Stream} {code : ℕ} (h : Kept r s) : KeptOut r (execStreamStart.fail c s x code) :=
  .next (.endAsync (.modCore h))

theorem Kept.start {c : CoreId} {x : Stream} {as : List ℕ} {e' : Option (BitVec 32)} (h : Kept r s) : Kept r (execStreamStart.start c s x as e') :=
  .modCore h

theorem KeptOut.streamStart {c : CoreId} {a : ArrayId} (h : Kept r s) : KeptOut r (execStreamStart c a s) := by
  unfold execStreamStart
  extract_lets k
  split
  · exact .next h
  · refine .ite (.next h) (.ite (.next (.arrayFaulty h)) (.ite (.fail h) (.ite (.next h) ?_)))
    extract_lets banks bad bnd
    split
    · exact .fail h
    · refine .ite (.fail h) (.ite (.next h) (.ite (.fail (.drainCfgBits h)) (.ite ?_ (.next (.start h)))))
      split
      · exact .next h
      next e₃ => exact .next (.start (.modWin (.ofSome (.openWindow h) e₃)))

/-! ## Activation rows (R62 to R65, R187, R188, R238) -/

theorem KeptIn.spadRow {n o len : ℕ} (h : Kept r s) : KeptIn r (fun y => y.1) (s.spadRow n o len) := .ite .none (.some (.pairFst (.noteCe h)))

theorem KeptIntake.intakeSpad {n : ℕ} {x : Stream} {d k : ℕ} (h : Kept r s) : KeptIntake r (s.intakeSpad n x d k) := by
  unfold State.intakeSpad
  extract_lets w row rows scs
  split
  next u _ e =>
    have hu : Kept r u := .ofOk (.taskReads h) e
    split
    next e₁ => exact .rows (.ofOk (.taskReads hu) e₁)
    · exact .held
    · exact .access
    next e₁ => exact .ue (.ofUe (.taskReads hu) e₁)
  · exact .held
  · exact .access
  next e => exact .ue (.ofUe (.taskReads h) e)

theorem KeptIntake.ofIntakeLink {x : Stream} {d k : ℕ} {dual : Bool} (h : Kept r s) : KeptIntake r (intakeLink s x d k dual) := .ite .held (.rows h)

theorem KeptIntake.intakeQueue {n : ℕ} {x : Stream} {d : ℕ} (h : Kept r s) : KeptIntake r (s.intakeQueue n x d) := by
  unfold State.intakeQueue
  split
  · exact .held
  · split
    · exact .held
    · extract_lets w b rows
      split
      · refine .ite (.ended h) (.ite (.ended h) (.ite .held (.ite .held ?_)))
        split
        · exact .ue (.freezeTask (.noteUe h))
        next u _ e₅ =>
          have hu : Kept r u := .ofSome (.spadRow h) e₅
          split
          · exact .ue (.freezeTask (.noteUe hu))
          next e₆ => exact .rows (.ofSome (.ite (.spadRow hu) (.some (.pairFst hu))) e₆)
      · exact .ended h

theorem Kept.drop {c : CoreId} {x : Stream} (h : Kept r s) : Kept r (execActivationRow.drop c s x) := .modCore h

theorem KeptOut.activationRow {c : CoreId} {row : RowIn} (h : Kept r s) : KeptOut r (execActivationRow c row s) := by
  obtain ⟨a, ups⟩ := row
  rw [execActivationRow]
  split
  · exact .next h
  · refine .ite (.next h) ?_
    extract_lets as banks meadow d dual want bits need got
    have hgot : KeptIntake r got := .ite (.intakeSpad h) (.ite (.intakeQueue h) (.ofIntakeLink h))
    clear_value got
    split
    · exact .next h
    · exact .next (.endAsync (.drop h))
    · exact .next (.endAsync (.drop (.ofEnded hgot rfl)))
    · exact .next (.drop (.ofLost hgot rfl))
    · exact .next (.setCore (.event (.ofRows hgot rfl)))

/-! ## LD and ST with the control words of circular regions, and the advance of their pointers -/

theorem KeptTry.doneLd {n t : ℕ} {f : InsnBits} {v : Word} (h : Kept r s) : KeptTry r (tryLd.doneLd n t f v s) := .done (.modTask h)

theorem KeptTry.ld {n t : ℕ} {f : InsnBits} (h : Kept r s) : KeptTry r (tryLd n t f s) := by
  unfold tryLd
  refine .ite (.stop (.endTask h)) (.ite ?_ (.acc (.taskRead h) h (fun _ hu _ => .doneLd hu)))
  split
  · exact .doneLd h
  · exact .stop (.endTask h)

theorem KeptTry.tryAdvance {n t r' : ℕ} {head : Bool} {v : ℕ} {addr : Word} (h : Kept r s) : KeptTry r (s.tryAdvance n t r' head v addr) := by
  unfold State.tryAdvance
  refine .ite (.wait h) ?_
  split
  · exact .done (.setCore h)
  · exact .stop (.endTask h)

theorem KeptTry.st {n t : ℕ} {f : InsnBits} (h : Kept r s) : KeptTry r (trySt n t f s) := by
  unfold trySt
  refine .ite (.stop (.endTask h)) (.ite ?_ (.acc (.taskWrite h) h (fun _ hu _ => .done hu)))
  split
  · exact .tryAdvance h
  · exact .stop (.endTask h)

theorem KeptOut.ld {c : CoreId} {t : TaskSlot} {f : InsnBits} (h : Kept r s) : KeptOut r (execLd c t f s) := .next (.issue h (fun _ _ _ hu => .ld hu))

theorem KeptOut.st {c : CoreId} {t : TaskSlot} {f : InsnBits} (h : Kept r s) : KeptOut r (execSt c t f s) := .next (.issue h (fun _ _ _ hu => .st hu))

theorem KeptOut.circAdvance {c : CoreId} {t : TaskSlot} (h : Kept r s) : KeptOut r (execCircAdvance c t s) := by
  unfold execCircAdvance
  extract_lets k
  split
  · exact .ite (.next (.attempt h (fun _ _ _ hu => .st hu))) (.next h)
  · exact .next h

/-! ## Mesh requests and responses at their source and destination -/

theorem Kept.answered {p : Packet} {st : RespStatus} {data : Bytes} (h : Kept r s) : Kept r (s.answered p st data).2 := by
  unfold State.answered
  split
  · split
    next e₁ => exact .pair (.snd (.fresh h) e₁)
  · exact .pair h

theorem Kept.refuseAtSource {p : Packet} (h : Kept r s) : Kept r (s.refuseAtSource p) := by
  unfold State.refuseAtSource
  split
  next e => exact .update (.snd (.answered h) e)

theorem Kept.respond {p : Packet} {st : RespStatus} {data : Bytes} (h : Kept r s) : Kept r (s.respond p st data) := by
  unfold State.respond
  split
  next e => exact .inject (.snd (.answered h) e)

theorem Kept.countDiscard {n : ℕ} (h : Kept r s) : Kept r (s.countDiscard n) := by
  unfold State.countDiscard
  split
  · exact .modRouter h
  · exact h

theorem Kept.request {n : ℕ} {p : Packet} {due : ℕ} (h : Kept r s) : Kept r (s.request n p due) := .ite (.setCore h) (.inject (.setCore h))

theorem KeptOut.fenceRelease {c : CoreId} (h : Kept r s) : KeptOut r (execFenceRelease c s) := by
  unfold execFenceRelease
  extract_lets k
  split
  · exact .next h
  · exact .next (.inject (.setCore h))

theorem Kept.reply {p : Packet} {h' : MsgHeader} {r' : Word} (h : Kept r s) : Kept r (s.reply p h' r') := .inject h

/-! ## A send's messages -/

theorem Kept.postAll {n t chan : ℕ} {xs : List OutMsg} (h : Kept r s) : Kept r (s.postAll n t chan xs).1 := by
  induction xs generalizing s with
  | nil =>
    rw [State.postAll]
    exact .pairFst h
  | cons x xs ih =>
    rw [State.postAll]
    split
    next e => exact .pairFst (.fst (ih (.ite (.request h) h)) e)

theorem Kept.mclog {n t : ℕ} {ts : List SendTarget} (h : Kept r s) : Kept r (s.mclog n t ts) := .foldl h fun _ _ hu => .setReg hu

theorem Kept.unitReply {n t : ℕ} {u : SendUnit} {r' : Word} (h : Kept r s) : Kept r (s.unitReply n t u r') := by
  unfold State.unitReply
  refine .ite (.modCore h) ?_
  split
  · exact .endAsync (.drainCfgBits (.modCore h))
  · exact .endAsync (.coreStat (.modCore h))

theorem Kept.sendDone {n t : ℕ} {r' : SendRec} (h : Kept r s) : Kept r (s.sendDone n t r') := by
  unfold State.sendDone
  extract_lets codes u u₁ u₂
  have hu : Kept r u := .event h
  have hu₁ : Kept r u₁ := .modTask hu
  have hu₂ : Kept r u₂ := .ite (.mclog hu₁) hu₁
  split
  · exact .unitReply hu₂
  · exact hu₂

theorem Kept.post {n t chan opc : ℕ} {dst : Option ℕ} {multi : Bool} {unit : Option SendUnit} {ms : List OutMsg} (h : Kept r s) :
    Kept r (s.post n t chan opc dst multi unit ms) := by
  unfold State.post
  extract_lets seq since pc
  split
  next u _ e =>
    have hu : Kept r u := .fst (.postAll h) e
    exact .ite (.sendDone (.modTask hu)) (.modTask hu)

theorem KeptTry.trySend {n t chan opc : ℕ} {dst : Option ℕ} {multi : Bool} {ms : List OutMsg} (h : Kept r s) :
    KeptTry r (s.trySend n t chan opc dst multi ms) :=
  .ite (.wait h) (.ite (.wait h) (.done (.post h)))

theorem KeptTry.sendw {n t : ℕ} {f : InsnBits} (h : Kept r s) : KeptTry r (trySENDw n t f s) := .trySend h

theorem KeptTry.sendd {n t : ℕ} {f : InsnBits} (h : Kept r s) : KeptTry r (trySENDd n t f s) :=
  .ite (.stop (.endTask h)) (.acc (.taskRead h) h (fun _ hu _ => .trySend hu))

theorem KeptTry.msend {n t : ℕ} {f : InsnBits} (h : Kept r s) : KeptTry r (tryMSEND n t f s) :=
  .ite (.stop (.endTask h)) (.acc (.taskRead h) h (fun _ hu _ => .ite (.stop (.endTask hu)) (.acc (.taskRead hu) hu (fun _ hu₁ _ => .trySend hu₁))))

theorem KeptTry.shfadd {n t : ℕ} {f : InsnBits} (h : Kept r s) : KeptTry r (tryShfadd n t f s) := by
  unfold tryShfadd
  extract_lets k w v h'
  split
  · exact .trySend h
  · exact .trySend h
  · exact .acc (.taskRead h) h (fun _ hu _ => .trySend hu)

theorem KeptTry.shfend {n t : ℕ} {f : InsnBits} (h : Kept r s) : KeptTry r (tryShfend n t f s) := by
  unfold tryShfend
  extract_lets w
  split
  next e => exact .trySend (.snd (.fresh h) e)

theorem KeptOut.send {c : CoreId} {t : TaskSlot} {f : InsnBits} (h : Kept r s) : KeptOut r (execSend c t f s) :=
  .next (.issue h (fun _ _ _ hu => .sendw hu))

theorem KeptOut.sendd {c : CoreId} {t : TaskSlot} {f : InsnBits} (h : Kept r s) : KeptOut r (execSendd c t f s) :=
  .next (.issue h (fun _ _ _ hu => .sendd hu))

theorem KeptOut.msend {c : CoreId} {t : TaskSlot} {f : InsnBits} (h : Kept r s) : KeptOut r (execMsend c t f s) :=
  .next (.issue h (fun _ _ _ hu => .msend hu))

theorem KeptOut.shfadd {c : CoreId} {t : TaskSlot} {f : InsnBits} (h : Kept r s) : KeptOut r (execShfadd c t f s) :=
  .next (.issue h (fun _ _ _ hu => .shfadd hu))

theorem KeptOut.shfend {c : CoreId} {t : TaskSlot} {f : InsnBits} (h : Kept r s) : KeptOut r (execShfend c t f s) :=
  .next (.issue h (fun _ _ _ hu => .shfend hu))

/-! ## Results (R224, R227) -/

theorem Kept.lateResponse {n : ℕ} (h : Kept r s) : Kept r (s.lateResponse n) := .count h

theorem Kept.coreReply {pkt : Packet} {h' : MsgHeader} {n : CoreId} (h : Kept r s) : Kept r (s.coreReply pkt h' n) := by
  unfold State.coreReply
  extract_lets t chan u w
  have hu : Kept r u := .modCore h
  split
  · exact .lateResponse hu
  · exact .ite (.endAsync (.modTask hu)) (.ite (.endAsync (.modTask hu)) (.ite (.lateResponse hu) (.ite (.sendDone (.modTask hu)) (.modTask hu))))

/-! ## Units that send (R241, R242, spec/12 R399) -/

theorem Kept.unitPost {n : ℕ} {u : SendUnit} {again : Bool} (h : Kept r s) : Kept r (s.unitPost n u again) := by
  unfold State.unitPost
  split
  · exact h
  · exact .ite h (.post (.modCore h))

theorem KeptOut.unitSend {c : CoreId} {u : SendUnit} (h : Kept r s) : KeptOut r (execUnitSend c u s) := .next (.unitPost h)

theorem KeptOut.unitResend {c : CoreId} {u : SendUnit} (h : Kept r s) : KeptOut r (execUnitResend c u s) := .next (.unitPost h)

/-! ## Generations (R229) -/

theorem Kept.discardEntries {n k : ℕ} (h : Kept r s) : Kept r (s.discardEntries n k) := .ite h (.coreStat (.count h))

theorem Kept.raiseQueue {n q : ℕ} (h : Kept r s) : Kept r (s.raiseQueue n q) := by
  unfold State.raiseQueue
  extract_lets c c'
  split
  · exact .setCore h
  · exact .discardEntries (.setCore h)

theorem Kept.raiseSheaf {n h' : ℕ} (h : Kept r s) : Kept r (s.raiseSheaf n h') := .modCore h

theorem Kept.raiseMasks {n queues sheaves : ℕ} (h : Kept r s) : Kept r (s.raiseMasks n queues sheaves) :=
  .foldl (.foldl h fun _ _ hu => .raiseQueue hu) fun _ _ hu => .raiseSheaf hu

/-! ## Acceptance (R222) -/

theorem Kept.stagesIn {t : ℕ} (h : Kept r s) : Kept r (s.stagesIn t).2 := by
  unfold State.stagesIn
  split
  next e =>
    extract_lets lo
    exact .pair (.snd (.fresh h) e)

theorem Kept.intervals {x : RQueue} (h : Kept r s) : Kept r (s.intervals x).2 := by
  unfold State.intervals
  split
  · exact .stagesIn h
  · exact .pair h

theorem Kept.refuseFull {n q : ℕ} {x : RQueue} {k : SenderKey} (h : Kept r s) : Kept r (s.refuseFull n q x k).2 := by
  unfold State.refuseFull
  split
  next u e =>
    have hu : Kept r u := .snd (.intervals h) e
    split
    · extract_lets e₂
      exact .pair (.modCore hu)
    · refine .iteSnd ?_ (.pair hu)
      extract_lets e₂
      exact .pair (.modCore hu)

theorem Kept.acceptQueue {n q : ℕ} {x : RQueue} {h' : MsgHeader} {b : Bytes} {span : Option Bool} (h : Kept r s) :
    Kept r (s.acceptQueue n q x h' b span).2 := by
  unfold State.acceptQueue
  extract_lets fits y
  split
  · exact .pair h
  · exact .iteSnd (.pair (.modCore h)) (.refuseFull h)

theorem Kept.release {n h' : ℕ} {x : Sheaf} (h : Kept r s) : Kept r (s.release n h' x) := .ite (.modTask (.coreStat (.modCore h))) (.modCore h)

theorem Kept.settleSheaf {n h' : ℕ} {x : Sheaf} (h : Kept r s) : Kept r (s.settleSheaf n h' x) := .ite (.release h) (.modCore h)

theorem Kept.endToken {n h' : ℕ} {x : Sheaf} {m : MsgHeader} {v : ℕ} (h : Kept r s) : Kept r (s.endToken n h' x m v).2 := by
  unfold State.endToken
  extract_lets ok y
  exact .iteSnd (.iteSnd (.pair (.settleSheaf h)) (.pair (.coreStat h))) (.iteSnd (.pair (.settleSheaf h)) (.pair (.coreStat h)))

theorem Kept.laneStore {n t : ℕ} {addr : Word} {u : Window} (h : Kept r s) : Kept r (s.laneStore n t addr u) := by
  unfold State.laneStore
  split
  · exact .pieceStore h
  · exact h

theorem Kept.tableBytes {n t : ℕ} {x : Sheaf} {from_ count : ℕ} (h : Kept r s) : Kept r (s.tableBytes n t x from_ count) := by
  unfold State.tableBytes
  refine .foldl h fun u x₁ hu => ?_
  split
  next u₁ e =>
    have hu₁ : Kept r u₁ := .snd (.fresh hu) e
    split
    · exact .pieceStore hu₁
    · exact hu₁

theorem Kept.noteSender {n : ℕ} {x : Sheaf} {m : MsgHeader} (h : Kept r s) : Kept r (s.noteSender n x m) := .tableBytes h

theorem Kept.acceptSheaf {n h' : ℕ} {x : Sheaf} {m : MsgHeader} {b : Bytes} {span : Option Bool} (h : Kept r s) :
    Kept r (s.acceptSheaf n h' x m b span).2 := by
  unfold State.acceptSheaf
  extract_lets addr fin
  have hfin : ∀ x, ∀ u, Kept r u → Kept r (fin x u).2 := by
    refine fun x₁ u hu => ?_
    unfold fin
    split
    · exact .pair hu
    · split
      · exact .pair hu
      · exact .pair hu
      · exact .pair hu
      · refine .iteSnd ?_ ?_
        · split
          next u₂ e₂ =>
            have hu₂ : Kept r u₂ := .snd (.endToken hu) e₂
            exact .pair (.ite (.noteSender hu₂) hu₂)
        · extract_lets u₂
          have hu₂ : Kept r u₂ := .noteSender (.laneStore hu)
          exact .pair (.settleSheaf (.event hu₂))
  refine .iteSnd ?_ (hfin _ _ h)
  split
  next e => exact hfin _ _ (.ofOk (.taskRead h) e)
  next e => exact .pair (.ofUe (.taskRead h) e)
  · exact hfin _ _ h

theorem Kept.countDecision {n : ℕ} {m : MsgHeader} {d : Decision} (h : Kept r s) : Kept r (s.countDecision n m d) :=
  .ite (.event (.count h)) (.ite (.ite (.coreStat (.coreStat (.count h))) (.coreStat (.count h)))
    (.ite (.coreStat (.event (.count h))) (.event (.count h))))

theorem Kept.answerMsg {n : ℕ} {pkt : Packet} {m : MsgHeader} {d : Decision} (h : Kept r s) : Kept r (s.answerMsg n pkt m d) :=
  .reply (.countDecision h)

theorem KeptOut.messageAcceptance {pkt : Packet} (h : Kept r s) : KeptOut r (execMessageAcceptance pkt s) := by
  unfold execMessageAcceptance
  split
  next x x₁ _ _ _ _ =>
    refine .ite (.next h) ?_
    extract_lets c q h' nack owner lanes occ
    have hnack : ∀ x, ∀ x₁, ∀ x₂, KeptOut r (nack x x₁ x₂) := fun _ _ _ => .next (.answerMsg (.take h))
    refine .ite (hnack _ _ _) ?_
    clear_value owner
    split
    · exact .ite (hnack _ _ _) (hnack _ _ _)
    · refine .ite (hnack _ _ _) (.ite ?_ ?_)
      · split
        · split
          next e₃ => exact .next (.answerMsg (.take (.snd (.acceptSheaf h) e₃)))
          next e₃ => exact .next (.snd (.acceptSheaf h) e₃)
        · exact hnack _ _ _
      · split
        · split
          next e₃ => exact .next (.answerMsg (.take (.snd (.acceptQueue h) e₃)))
        · exact hnack _ _ _
  · exact .next h

theorem KeptOut.reservationLapse {c : CoreId} {q : Fin 64} {place : Fin 4} (h : Kept r s) : KeptOut r (execReservationLapse c q place s) := by
  unfold execReservationLapse
  split
  · exact .next (.modCore h)
  · exact .next h

/-! ## Receiving (R236, R240, R247) -/

theorem Kept.takeEntry {n t q : ℕ} {f : InsnBits} {x : RQueue} {e' : QEntry} (h : Kept r s) : Kept r (s.takeEntry n t q f x e') :=
  .ite (.coreStat (.modTask (.modCore h))) (.modTask (.modCore h))

theorem KeptTry.recv {n t : ℕ} {f : InsnBits} (h : Kept r s) : KeptTry r (tryRecv n t f s) := by
  unfold tryRecv
  extract_lets q
  split
  · exact .stop (.endTask h)
  · split
    · exact .wait h
    · exact .done (.takeEntry h)

theorem KeptTry.recvt {n t : ℕ} {f : InsnBits} (h : Kept r s) : KeptTry r (tryRecvt n t f s) := by
  unfold tryRecvt
  extract_lets q
  split
  · exact .stop (.endTask h)
  · split
    · exact .done (.modTask h)
    · exact .done (.modTask (.takeEntry h))

theorem KeptTry.recvc {n t : ℕ} {f : InsnBits} (h : Kept r s) : KeptTry r (tryRecvc n t f s) := by
  unfold tryRecvc
  extract_lets q
  split
  · exact .stop (.endTask h)
  · refine .ite (.stop (.endTask h)) ?_
    split
    · exact .wait h
    · extract_lets w u u₁
      have hu : Kept r u := .modCore h
      have hu₁ : Kept r u₁ := .ite (.coreStat hu) hu
      exact .ite (.stop (.endTask hu₁)) (.done (.modTask hu₁))

theorem KeptTry.qdone {n t : ℕ} {f : InsnBits} (h : Kept r s) : KeptTry r (tryQdone n t f s) := .ite (.done (.raiseQueue h)) (.stop (.endTask h))

theorem KeptTry.shfrecv {n t : ℕ} {f : InsnBits} (h : Kept r s) : KeptTry r (tryShfrecv n t f s) := by
  unfold tryShfrecv
  extract_lets h' g
  have hg : ∀ x, ∀ u, Kept r u → KeptTry r (g x u) := fun _ _ hu => .done (.modTask hu)
  split
  · exact .stop (.endTask h)
  · refine .ite (.stop (.endTask h)) (.ite (.wait h) (.ite (hg _ _ (.modCore h)) (.acc (.taskRead (.modCore h)) (.modCore h) (fun u hu x₂ => ?_))))
    extract_lets vs u₁ u₂ o
    have hu₁ : Kept r u₁ := .ite (.coreStat hu) hu
    have hu₂ : Kept r u₂ := .ite (.coreStat hu₁) hu₁
    exact .ite (hg _ _ hu₂) (.acc (.taskWrite hu₂) hu₂ (fun _ hu₃ _ => hg _ _ hu₃))

theorem KeptOut.recv {c : CoreId} {t : TaskSlot} {f : InsnBits} (h : Kept r s) : KeptOut r (execRecv c t f s) :=
  .next (.issue h (fun _ _ _ hu => .recv hu))

theorem KeptOut.recvt {c : CoreId} {t : TaskSlot} {f : InsnBits} (h : Kept r s) : KeptOut r (execRecvt c t f s) :=
  .next (.issue h (fun _ _ _ hu => .recvt hu))

theorem KeptOut.recvc {c : CoreId} {t : TaskSlot} {f : InsnBits} (h : Kept r s) : KeptOut r (execRecvc c t f s) :=
  .next (.issue h (fun _ _ _ hu => .recvc hu))

theorem KeptOut.qdone {c : CoreId} {t : TaskSlot} {f : InsnBits} (h : Kept r s) : KeptOut r (execQdone c t f s) :=
  .next (.issue h (fun _ _ _ hu => .qdone hu))

theorem KeptOut.shfrecv {c : CoreId} {t : TaskSlot} {f : InsnBits} (h : Kept r s) : KeptOut r (execShfrecv c t f s) :=
  .next (.issue h (fun _ _ _ hu => .shfrecv hu))

theorem KeptOut.ringLandingWrite {c : CoreId} {q : Fin 64} (h : Kept r s) : KeptOut r (execRingLandingWrite c q s) := by
  unfold execRingLandingWrite
  extract_lets k
  split
  · split
    · exact .ite (.next (.pieceStore (.setCore h))) (.next h)
    · exact .next h
  · exact .next h

theorem KeptOut.sheafBufferCleared {c : CoreId} {h' : Fin 8} (h : Kept r s) : KeptOut r (execSheafBufferCleared c h' s) := by
  unfold execSheafBufferCleared
  split
  · refine .ite ?_ (.next h)
    split
    next e₁ => exact .next (.modCore (.ofOk (.taskWrite h) e₁))
    · exact .next h
  · exact .next h

/-! ## Posy read (R249) -/

theorem KeptOut.posyRead {who : Initiator} {c : CoreId} {v : Word} (h : Kept r s) : KeptOut r (execPosyRead who c v s) :=
  .next (.gate h (fun _ hu => .ite (.regWrite hu) (.ite hu (.ite (.coreStat (.setReg (.regWrite hu))) (.modCore (.setReg (.regWrite hu)))))))

end kept

end Sys2Proof.Machine
end

section
/-! PROOFS. What the operations of seal logic, DMA and the operand lattice keep. -/

namespace Sys2Proof.Machine

open Sys2Proof.Claims

section kept
variable {r s : State}

/-! ## Seal logic and seal directories -/

theorem Kept.modSeal {i : ℕ} {f : SealUnit → SealUnit} (h : Kept r s) : Kept r (s.modSeal i f) := .setSeal h

theorem Kept.sealStat {i b : ℕ} (h : Kept r s) : Kept r (s.sealStat i b) := .ite (.coreStat h) h

/-! ## Sending (R391 to R394) -/

theorem Kept.emitSeal {i id : ℕ} {dst : SealEnd} {m : SealMsg} (h : Kept r s) : Kept r (s.emitSeal i id dst m) := .inject (.ite (.count h) h)

theorem Kept.sendSeal {i : ℕ} {dst : SealEnd} {m : SealMsg} (h : Kept r s) : Kept r (s.sendSeal i dst m) := .emitSeal (.setSeal h)

theorem Kept.tell {i : ℕ} {m : SealMsg} {b : SealSub} (h : Kept r s) : Kept r (s.tell i m b) := .ite (.modSeal h) (.sendSeal h)

theorem Kept.tellAll {i : ℕ} {m : SealMsg} (h : Kept r s) : Kept r (s.tellAll i m) := .foldl h fun _ _ hu => .tell hu

theorem Kept.freeWins {i : ℕ} (h : Kept r s) : Kept r (s.freeWins i) := .ite (.modSeal h) h

theorem Kept.outDone {i : ℕ} {o : SealOut} (h : Kept r s) : Kept r (s.outDone i o) := by
  unfold State.outDone
  extract_lets u
  have hu : Kept r u := .modSeal h
  split
  · refine .ite hu ?_
    split
    · split
      · exact .sendSeal (.modSeal hu)
      · exact hu
    · exact hu
  · exact .freeWins (.modSeal hu)

/-! ## Windows that seal or retract (R385, R387, R398) -/

theorem Kept.dropDep {n : ℕ} {key : ProdKey} {e' : BitVec 32} {bounded loss nonrep : Bool} (h : Kept r s) :
    Kept r (s.dropDep n key e' bounded loss nonrep) := by
  unfold State.dropDep
  extract_lets u
  have hu : Kept r u := .foldl h fun _ _ hu₁ => .modTask hu₁
  exact .modSeal hu

theorem Kept.sealOne {n : ℕ} {w : SealWin} (h : Kept r s) : Kept r (s.sealOne n w) := by
  unfold State.sealOne
  extract_lets key u u₁ u₂ u₃ u₄ u₅ u₆
  have hu : Kept r u := .jobsSeal h
  have hu₁ : Kept r u₁ := .modSeal hu
  have hu₂ : Kept r u₂ := .tellAll hu₁
  have hu₃ : Kept r u₃ := .event (.count hu₂)
  have hu₄ : Kept r u₄ := .ite (.coreStat hu₃) hu₃
  have hu₅ : Kept r u₅ := .ite (.coreStat hu₄) hu₄
  have hu₆ : Kept r u₆ := .ite (.coreStat hu₅) hu₅
  exact .freeWins (.dropDep hu₆)

theorem Kept.sealReady {n k : ℕ} (h : Kept r s) : Kept r (s.sealReady n k) := by
  induction k generalizing s with
  | zero =>
    rw [State.sealReady]
    exact h
  | succ k ih =>
    rw [State.sealReady]
    split
    · exact ih (.sealOne h)
    · exact h

theorem Kept.retractOne {n : ℕ} {w : SealWin} {why : Cause} (h : Kept r s) : Kept r (s.retractOne n w why) := by
  unfold State.retractOne
  extract_lets key u u₁ u₂ u₃ u₄ u₅ u₆ u₇
  have hu : Kept r u := .modSeal h
  have hu₁ : Kept r u₁ := .tellAll hu
  have hu₂ : Kept r u₂ := .coreStat (.event (.count hu₁))
  have hu₃ : Kept r u₃ := .ite (.coreStat hu₂) hu₂
  have hu₄ : Kept r u₄ := .logOnce hu₃
  have hu₅ : Kept r u₅ := .modCore hu₄
  have hu₆ : Kept r u₆ := .modCore hu₅
  have hu₇ : Kept r u₇ := .ite hu₆ (.freezeTask hu₆)
  exact .freeWins (.jobsSee hu₇)

theorem Kept.cascade {n : ℕ} {bad : List (ProdKey × BitVec 32)} {why : Cause} {k : ℕ} (h : Kept r s) : Kept r (s.cascade n bad why k) := by
  induction k generalizing s n bad why with
  | zero =>
    rw [State.cascade]
    exact h
  | succ k ih =>
    rw [State.cascade]
    split
    · exact ih (.retractOne h)
    · exact h

theorem Kept.freezeDeps {n : ℕ} {bad : List (ProdKey × BitVec 32)} (h : Kept r s) : Kept r (s.freezeDeps n bad) :=
  .foldl h fun _ _ hu => .ite (.modTask (.freezeTask hu)) hu

theorem Kept.retractAt {n : ℕ} {key : ProdKey} {e' : BitVec 32} {why : Cause} (h : Kept r s) : Kept r (s.retractAt n key e' why) :=
  .freezeDeps (.cascade h)

theorem Kept.retractWin {n : ℕ} {w : SealWin} {why : Cause} (h : Kept r s) : Kept r (s.retractWin n w why) := .retractAt (.retractOne h)

theorem KeptOut.windowVerdict {c : CoreId} {epoch : BitVec 32} {dupFail : Bool} (h : Kept r s) : KeptOut r (execWindowVerdict c epoch dupFail s) := by
  unfold execWindowVerdict
  split
  · exact .ite (.next h) (.ite (.next (.attributed (.retractWin h))) (.next (.sealReady (.modWin h))))
  · exact .next h

/-! ## Messages that arrive (R387 to R394) -/

theorem Kept.refuseReads {i id : ℕ} {st : RespStatus} (h : Kept r s) : Kept r (s.refuseReads i id st) := .foldl (.setSeal h) fun _ _ hu => .respond hu

theorem Kept.takeNotice {i : ℕ} {m : SealMsg} (h : Kept r s) : Kept r (s.takeNotice i m).2 := by
  unfold State.takeNotice
  split
  · exact .pair h
  · split
    · exact .pair (.sealStat h)
    · exact .pair (.setSeal h)

theorem Kept.sealIn {p : Packet} {kind : SealKind} {act : State → ℕ → SealMsg → State} (h : Kept r s) (h₁ : ∀ u, Kept r u → ∀ y₁, ∀ y₂, Kept r
    (act u y₁ y₂)) :
    Kept r (s.sealIn p kind act) := by
  unfold State.sealIn
  refine .ite h ?_
  split
  · exact .respond (.take h)
  · exact .ite (h₁ _ h _ _) h

theorem KeptOut.noticeArrive {pkt : Packet} {wu : Unit} (h : Kept r s) : KeptOut r (execNoticeArrive pkt wu s) := by
  unfold execNoticeArrive
  refine .next (.sealIn h (fun u hu x x₁ => ?_))
  split
  next e => exact .respond (.take (.snd (.takeNotice hu) e))
  next e => exact (.snd (.takeNotice hu) e)

theorem Kept.takeSeal {i : ℕ} {m : SealMsg} (h : Kept r s) : Kept r (s.takeSeal i m) := by
  unfold State.takeSeal
  extract_lets u u₁ u₂
  have hu : Kept r u := .jobsSeal h
  have hu₁ : Kept r u₁ := .modSeal hu
  have hu₂ : Kept r u₂ := .tellAll hu₁
  exact .ite (.sealReady (.dropDep hu₂)) hu₂

theorem Kept.takeRetract {i : ℕ} {m : SealMsg} {lapse : Bool} (h : Kept r s) : Kept r (s.takeRetract i m lapse) := by
  unfold State.takeRetract
  extract_lets u u₁ u₂
  have hu : Kept r u := .ite h (.ite (.sealStat h) h)
  have hu₁ : Kept r u₁ := .modSeal hu
  have hu₂ : Kept r u₂ := .tellAll (.jobsSee hu₁)
  exact .ite (.retractAt hu₂) hu₂

theorem KeptOut.sealArrive {pkt : Packet} {wu : Unit} (h : Kept r s) : KeptOut r (execSealArrive pkt wu s) :=
  .next (.sealIn h (fun _ hu _ _ => .ite (.takeSeal (.respond (.take hu))) (.respond (.take hu))))

theorem KeptOut.retractArrive {pkt : Packet} {wu : Unit} (h : Kept r s) : KeptOut r (execRetractArrive pkt wu s) :=
  .next (.sealIn h (fun _ hu _ _ => .ite (.takeRetract (.respond (.take hu))) (.respond (.take hu))))

theorem KeptIn.sealAck {i k : ℕ} (h : Kept r s) : KeptIn r (fun y => y.2) (s.sealAck i k) := .ofMap fun _ => .take h

theorem KeptOut.sealAcknowledged {e' : SealEnd} {k : ℕ} (h : Kept r s) : KeptOut r (execSealAcknowledged e' k s) := by
  unfold execSealAcknowledged
  split
  · exact .next h
  · split
    · exact .next h
    next u e₁ =>
      have hu : Kept r u := .ofSome (.sealAck h) e₁
      split
      · exact .next (.outDone (.ite hu (.refuseReads hu)))
      · exact .next hu

theorem KeptOut.sealMessageResend {e' : SealEnd} {k : ℕ} (h : Kept r s) : KeptOut r (execSealMessageResend e' k s) := by
  unfold execSealMessageResend
  split
  · exact .next h
  · split
    · exact .next h
    · exact .ite (.next h) (.ite (.next (.ite (.count (.emitSeal (.modSeal h))) (.emitSeal (.modSeal h)))) (.next (.outDone (.modSeal h))))

theorem KeptOut.lapse {e' : SealEnd} {k : ProdKey} (h : Kept r s) : KeptOut r (execLapse e' k s) := by
  unfold execLapse
  split
  · exact .next h
  · split
    · exact .next h
    · refine .ite (.next h) ?_
      extract_lets n u u₁ u₂
      have hu : Kept r u := .sealStat h
      have hu₁ : Kept r u₁ := .ite (.count hu) hu
      have hu₂ : Kept r u₂ := .modSeal hu₁
      exact .next (.takeRetract hu₂)

/-! ## Reads that pass on references (R393) -/

theorem Kept.sendNotices {i : ℕ} {dst : SealEnd} {ranges : List (ℕ × ℕ)} {xs : List SealRef} (h : Kept r s) :
    Kept r (s.sendNotices i dst ranges xs).1 := by
  induction xs generalizing s with
  | nil =>
    rw [State.sendNotices]
    exact .pairFst h
  | cons x xs ih =>
    rw [State.sendNotices]
    split
    next u _ e =>
      have hu : Kept r u := by
        refine .fst ?_ e
        refine .foldlFst (.pairFst (.modSeal h)) fun q x₂ hq => ?_
        extract_lets id
        exact .pairFst (.sendSeal hq)
      extract_lets u₁
      have hu₁ : Kept r u₁ := .ite hu (.tellAll hu)
      split
      next e₁ => exact .pairFst (.fst (ih hu₁) e₁)

theorem KeptServe.servePlan {i : ℕ} {ps : List (ℕ × ℕ)} {dst : Option (SealEnd × List (ℕ × ℕ))} {pkt : Packet} {errs : LineErrs} (h : Kept r s) :
    KeptServe r (s.servePlan i ps dst pkt errs) := by
  unfold State.servePlan
  extract_lets rs
  split
  · exact .now
  · refine .ite .now (.ite .full ?_)
    split
    next e₁ => exact .held (.modSeal (.fst (.sendNotices h) e₁))

theorem KeptIn.popRead {i k : ℕ} (h : Kept r s) : KeptIn r (fun y => y.2) (s.popRead i k) := by
  unfold State.popRead
  extract_lets u
  split
  · exact .ite .none (.some (.pair (.setSeal h)))
  · exact .none

/-! ## Power of scratchpad bank groups, and circular regions named by a DMA -/

theorem KeptOut.spadPwrWrite {who : Initiator} {c : CoreId} {v : Word} (h : Kept r s) : KeptOut r (execSpadPwrWrite who c v s) :=
  .next (.gateReg h (fun _ hu => .ite (.coreStat hu) (.regWrite hu)))

theorem Kept.dropGroup {n g : ℕ} (h : Kept r s) : Kept r (s.dropGroup n g) := .wipe h

theorem KeptOut.groupPowerDown {c : CoreId} {g : Fin 16} (h : Kept r s) : KeptOut r (execGroupPowerDown c g s) :=
  .ite (.next (.dropGroup (.setReg h))) (.next h)

theorem KeptOut.groupPowerUpReady {c : CoreId} {g : Fin 16} (h : Kept r s) : KeptOut r (execGroupPowerUpReady c g s) :=
  .ite (.next (.dropGroup (.setReg h))) (.next h)

/-! ## Issue (R266, R268) -/

theorem KeptTry.dma {n t : ℕ} {f : InsnBits} (h : Kept r s) : KeptTry r (tryDma n t f s) := by
  unfold tryDma
  refine .acc (.block h) h (fun u hu x => .ite (.stop (.endTask hu)) ?_)
  split
  · exact .wait hu
  · exact .done (.modTask (.setCore hu))

theorem KeptTry.dmawait {n t : ℕ} {f : InsnBits} (h : Kept r s) : KeptTry r (tryDmawait n t f s) := .ite (.wait h) (.done h)

theorem KeptOut.dma {c : CoreId} {t : TaskSlot} {f : InsnBits} (h : Kept r s) : KeptOut r (execDma c t f s) :=
  .next (.issue h (fun _ _ _ hu => .dma hu))

theorem KeptOut.dmawait {c : CoreId} {t : TaskSlot} {f : InsnBits} (h : Kept r s) : KeptOut r (execDmawait c t f s) :=
  .next (.issue h (fun _ _ _ hu => .dmawait hu))

/-! ## Packets (R267, R268) -/

theorem Kept.dmaRequest {n due : ℕ} {type : PktType} {fence adv region : Bool} {tag : BitVec 32} {a : Word} {len : ℕ} {data : Bytes} (h : Kept r s) :
    Kept r (s.dmaRequest n due type fence adv region tag a len data) := by
  unfold State.dmaRequest
  extract_lets p
  split
  · exact .request h
  · exact .refuseAtSource h

theorem KeptOut.dmaPacketIssue {c : CoreId} (h : Kept r s) : KeptOut r (execDmaPacketIssue c s) := by
  unfold execDmaPacketIssue
  extract_lets k
  split
  · exact .next h
  · exact .ite (.next h) (.next (.event (.dmaRequest (.setCore h))))

/-! ## Responses (R269) and timeouts (R264) -/

theorem Kept.dropDma {n slot : ℕ} (h : Kept r s) : Kept r (s.dropDma n slot) := .modCore h

theorem Kept.failDma {n : ℕ} {d : Dma} {st : RespStatus} (h : Kept r s) : Kept r (s.failDma n d st) := by
  unfold State.failDma
  extract_lets u
  have hu : Kept r u := .dropDma h
  split
  · exact .endAsync hu
  · exact .endAsync hu
  · exact .freezeTask (.coreStat hu)

theorem Kept.pktDone {n : ℕ} {d : Dma} {p : DmaPkt} (h : Kept r s) : Kept r (s.pktDone n d p) := .ite (.dropDma h) (.modCore h)

theorem Kept.sendWrites {n : ℕ} {d : Dma} (h : Kept r s) : Kept r (s.sendWrites n d) := .foldl h fun _ _ hu => .dmaRequest (.modCore hu)

theorem Kept.copyAcked {p : ℕ} {tag : BitVec 32} (h : Kept r s) : Kept r (s.copyAcked p tag) := .setRow h

theorem KeptOut.dmaResponse {pkt : Packet} (h : Kept r s) : KeptOut r (execDmaResponse pkt s) := by
  unfold execDmaResponse
  split
  · exact .next h
  · exact .next (.ite (.copyAcked (.take h)) h)
  · refine .ite (.next h) (.ite (.next (.countDiscard (.take h))) ?_)
    extract_lets u
    have hu : Kept r u := .modCore (.take h)
    split
    · exact .next (.lateResponse hu)
    · refine .ite (.next (.failDma hu)) ?_
      split
      · exact .next (.sendWrites (.modCore hu))
      · exact .next (.pktDone hu)
      · exact .next hu

theorem KeptOut.meshTimeout {c : CoreId} {op : MeshOp} (h : Kept r s) : KeptOut r (execMeshTimeout c op s) := by
  unfold execMeshTimeout
  split
  · split
    · refine .ite (.next h) ?_
      extract_lets u
      have hu : Kept r u := .foldl h fun _ _ hu₁ => .modCore hu₁
      exact .next (.endAsync (.coreStat (.dropDma hu)))
    · exact .next h
  · split
    · refine .ite (.next h) ?_
      extract_lets u u₁
      have hu : Kept r u := .foldl h fun _ _ hu₂ => .modCore hu₂
      have hu₁ : Kept r u₁ := .modTask hu
      exact .next (.endAsync (.coreStat hu₁))
    · exact .next h

/-! ## Requests at a scratchpad (R178, R184, R269, spec/12 R393) -/

theorem Kept.noteMoved {p : Packet} (h : Kept r s) : Kept r (s.noteMoved p).2 := by
  unfold State.noteMoved
  extract_lets write
  split
  · exact .pair h
  · exact .pair h
  · split
    · exact .pair h
    · extract_lets v
      exact .pair (.modCore h)

theorem Kept.applyAdv {n : ℕ} {p : Packet} {head : Bool} {st : RespStatus} (h : Kept r s) : Kept r (s.applyAdv n p head st).1 := by
  unfold State.applyAdv
  extract_lets q upTo
  split
  next u e =>
    have hu : Kept r u := by
      refine .snd ?_ e
      split
      next e₁ => exact .pair (.snd (.noteMoved h) e₁)
      next e₁ => exact .pair (.snd (.noteMoved h) e₁)
    split
    · split
      · exact .pairFst (.setCore hu)
      · exact .pairFst hu
    · exact .pairFst hu

theorem Kept.serveSpadRead {n : ℕ} {p : Packet} {ps : List (ℕ × ℕ)} (h : Kept r s) : Kept r (s.serveSpadRead n p ps) := by
  unfold State.serveSpadRead
  extract_lets ues b
  split
  · exact .respond (.noteUe h)
  · split
    next e₁ => exact .respond (.fst (.applyAdv (.pieceCe h)) e₁)

theorem Kept.serveSpadWrite {n : ℕ} {p : Packet} {ps : List (ℕ × ℕ)} (h : Kept r s) : Kept r (s.serveSpadWrite n p ps) := by
  unfold State.serveSpadWrite
  extract_lets bad ues u
  have hu : Kept r u := .pieceStore (.mergeCe h)
  clear_value bad
  split
  · exact .respond (.noteUe hu)
  · split
    next e => exact .respond (.fst (.applyAdv hu) e)

theorem KeptOut.dmaRequestArrive {pkt : Packet} (h : Kept r s) : KeptOut r (execDmaRequestArrive pkt s) := by
  unfold execDmaRequestArrive
  split
  · exact .next h
  · exact .next (.ite (.respond (.take h)) h)
  · refine .ite (.next h) (.ite (.next (.countDiscard (.take h))) ?_)
    split
    · exact .next (.respond (.take h))
    · refine .ite (.next (.respond (.coreStat (.take h)))) (.ite (.next (.serveSpadWrite (.take h))) ?_)
      split
      · exact .next (.serveSpadRead (.take h))
      next e₂ => exact .next (.ofHeld (.servePlan (.take h)) e₂)
      · exact .next (.coreStat h)

/-! ## The posy records (spec/07 R249) -/

theorem KeptOut.posyDone {c : CoreId} (h : Kept r s) : KeptOut r (execPosyDone c s) := by
  unfold execPosyDone
  split
  · exact .next h
  · split
    next u e₁ =>
      have hu : Kept r u := .snd (.snooped h) e₁
      exact .ite (.next hu) (.ite (.next (.store (.setReg (.modCore hu)))) (.next (.coreStat (.setReg (.modCore hu)))))

/-! ## Slack (R197 to R199) -/

theorem Kept.grantLink {n i : ℕ} (h : Kept r s) : Kept r (s.grantLink n i) := .modCore h

theorem Kept.regrant {n i : ℕ} (h : Kept r s) : Kept r (s.regrant n i) := by
  unfold State.regrant
  extract_lets u u₁
  have hu : Kept r u := .grantLink h
  have hu₁ : Kept r u₁ := .ite (.coreStat hu) hu
  exact .foldl hu₁ fun _ _ hu₂ => .ite (.grantLink hu₂) hu₂

theorem Kept.writeSlack {n i : ℕ} {v : Word} (h : Kept r s) : Kept r (s.writeSlack n i v) := .ite (.coreStat h) (.regrant (.regWrite h))

theorem KeptOut.latSlackWrite {who : Initiator} {c : CoreId} {d : Dir} {v : Word} (h : Kept r s) : KeptOut r (execLatSlackWrite who c d v s) :=
  .next (.gateReg h (fun _ hu => .writeSlack hu))

/-! ## Arrival (R190, R208, R214) -/

theorem Kept.epochError {n : ℕ} (h : Kept r s) : Kept r (s.epochError n) := by
  unfold State.epochError
  extract_lets u
  have hu : Kept r u := .coreRec (.coreStat (.count h))
  split
  · exact .freezeTask hu
  · exact hu

theorem Kept.discardToken {n k : ℕ} (h : Kept r s) : Kept r (s.discardToken n k) := .ite h (.coreStat (.ite (.count h) (.count h)))

theorem Kept.codeCheck {k : ℕ} (h : Kept r s) : Kept r (s.codeCheck k).2 := by
  unfold State.codeCheck
  split
  · exact .pair h
  · exact .pair h
  · exact .pair h
  · split
    next e => exact .pair (.snd (.fresh h) e)

theorem Kept.checkToken {n : ℕ} {tok : Token} {err : BitVec 572} (h : Kept r s) : Kept r (s.checkToken n tok err).2 := by
  unfold State.checkToken
  split
  next e =>
    split
    next u₁ e₁ =>
      have hu₁ : Kept r u₁ := .snd (.codeCheck (.snd (.codeCheck h) e)) e₁
      extract_lets keep t first u₂
      have hu₂ : Kept r u₂ := .coreStat (.count hu₁)
      exact .iteSnd (.pair (.coreRec (.coreStat (.count hu₁)))) (.iteSnd (.pair (.ite (.coreRec hu₂) hu₂)) (.pair hu₁))

theorem Kept.offWire {w : WireItem} (h : Kept r s) : Kept r (s.offWire w) := .pumpLink (.linkMoved (.update h))

theorem Kept.enqueue {c i : ℕ} {tok : Token} (h : Kept r s) : Kept r (s.enqueue c i tok) :=
  .ite (.epochError h) (.ite (.modCore h) (.event (.count (.modCore h))))

theorem KeptOut.tokenArrive {c : CoreId} {d : Dir} {err : BitVec 572} {wu : Unit} (h : Kept r s) : KeptOut r (execTokenArrive c d err wu s) := by
  unfold execTokenArrive
  extract_lets i k
  split
  · exact .next h
  · refine .ite (.next (.offWire h)) (.ite (.next (.discardToken (.offWire h))) (.ite (.next h) ?_))
    split
    next e₁ => exact .next (.enqueue (.snd (.checkToken (.offWire h)) e₁))

theorem KeptOut.bypassForward {p : PhysId} {fromWest : Bool} {wu : Unit} (h : Kept r s) : KeptOut r (execBypassForward p fromWest wu s) := by
  unfold execBypassForward
  split
  · exact .next h
  · exact .ite (.next (.pumpLink (.linkMoved (.update h)))) (.next h)

/-! ## Dispatch (R201, R202, R205, R206) -/

theorem Kept.sendOut {n j : ℕ} {tok : Token} {lane : Option (BitVec 32) × Option (ℕ × ℕ)} (h : Kept r s) : Kept r (s.sendOut n j tok lane) :=
  .emit (.modCore h)

theorem Kept.toPort {n i y : ℕ} {x : Stream} {tok : Token} (h : Kept r s) : Kept r (s.toPort n i y x tok) := by
  unfold State.toPort
  extract_lets u
  have hu : Kept r u := .modCore h
  split
  · exact .ite hu (.modWin hu)
  · exact hu

theorem Kept.deliver {n i y : ℕ} {tok : Token} {xs : List ℕ} (h : Kept r s) : Kept r (s.deliver n i y tok xs).1 := by
  induction xs generalizing s with
  | nil =>
    rw [State.deliver]
    exact .pairFst h
  | cons x xs ih =>
    rw [State.deliver]
    split
    next u _ e =>
      have hu : Kept r u := by
        refine .fst ?_ e
        refine .iteFst ?_ (.iteFst (.pairFst (.sendOut h)) (.pairFst h))
        split
        · exact .pairFst (.toPort h)
        · exact .pairFst h
      split
      next e₁ => exact .pairFst (.fst (ih hu) e₁)

theorem Kept.dispatchIn {n i : ℕ} (h : Kept r s) : Kept r (s.dispatchIn n i) := by
  unfold State.dispatchIn
  extract_lets l y
  split
  · split
    · exact h
    · split
      next e₂ => exact .modCore (.fst (.deliver h) e₂)
  · exact h

theorem Kept.dispatchDrain {n : ℕ} (h : Kept r s) : Kept r (s.dispatchDrain n) := by
  unfold State.dispatchDrain
  split
  · exact h
  · extract_lets c u src u₁
    have hu : Kept r u := .setCore h
    have hu₁ : Kept r u₁ := .sendOut hu
    split
    · exact .modWin hu₁
    · exact hu₁

theorem KeptOut.tokenDispatch {c : CoreId} {src : Option Dir} (h : Kept r s) : KeptOut r (execTokenDispatch c src s) := by
  unfold execTokenDispatch
  refine .ite (.next h) ?_
  split
  · exact .next (.dispatchIn h)
  · exact .next (.dispatchDrain h)

/-! ## Epoch switches (R206, R207) -/

theorem Kept.switchIn {n i : ℕ} (h : Kept r s) : Kept r (s.switchIn n i) := by
  unfold State.switchIn
  exact .regrant (.setCore h)

theorem Kept.switchOutTo {n j : ℕ} {b : Option Bytes} (h : Kept r s) : Kept r (s.switchOutTo n j b) := .modCore h

theorem Kept.switchOut {n j : ℕ} (h : Kept r s) : Kept r (s.switchOut n j) := .switchOutTo (.modCore h)

theorem KeptOut.inputLinkSwitch {c : CoreId} {d : Dir} (h : Kept r s) : KeptOut r (execInputLinkSwitch c d s) := by
  unfold execInputLinkSwitch
  extract_lets i k l outs k₁ src
  split
  · exact .ite (.next h) (.next (.switchIn (.setCore h)))
  · exact .next h

theorem KeptOut.outputLinkSwitch {c : CoreId} {d : Dir} (h : Kept r s) : KeptOut r (execOutputLinkSwitch c d s) := by
  unfold execOutputLinkSwitch
  extract_lets j k l
  split
  · exact .next h
  · exact .ite (.next h) (.next (.switchOutTo (.ite (.emit (.setCore h)) (.setCore h))))

theorem Kept.switchLater {n j : ℕ} (h : Kept r s) : Kept r (s.switchLater n j) := by
  unfold State.switchLater
  extract_lets c l old add
  have hadd : ∀ x, Kept r (add x) := fun _ => .setCore h
  exact .ite (hadd _) (.ite (.switchOut h) (hadd _))

theorem Kept.switchCore {n slot : ℕ} (h : Kept r s) : Kept r (s.switchCore n slot) := by
  unfold State.switchCore
  extract_lets u u₁
  have hu : Kept r u := .modCore h
  have hu₁ : Kept r u₁ := .foldl hu fun _ _ hu₂ => .ite hu₂ (.switchIn hu₂)
  exact .foldl hu₁ fun _ _ hu₂ => .switchLater hu₂

theorem KeptTry.cfgsw {n t : ℕ} {f : InsnBits} (h : Kept r s) : KeptTry r (tryCfgsw n t f s) := by
  unfold tryCfgsw
  refine .ite (.stop (.endTask h)) ?_
  split
  · exact .stop (.endTask h)
  · exact .ite (.wait h) (.jump (.switchCore h))

theorem KeptTry.cfgld {n t : ℕ} {f : InsnBits} (h : Kept r s) : KeptTry r (tryCfgld n t f s) :=
  .ite (.stop (.endTask h)) (.ite (.wait h)
    (.acc (.taskRead h) h (fun _ hu _ => .ite (.stop (.endTask hu))
    (.acc (.taskRead hu) hu (fun _ hu₁ _ => .ite (.done (.modCore hu₁)) (.stop (.endTask (.coreStat hu₁))))))))

theorem KeptTry.epoch {n t : ℕ} {f : InsnBits} (h : Kept r s) : KeptTry r (tryEpoch n t f s) := .done (.modTask h)

theorem KeptOut.cfgsw {c : CoreId} {t : TaskSlot} {f : InsnBits} (h : Kept r s) : KeptOut r (execCfgsw c t f s) :=
  .next (.issue h (fun _ _ _ hu => .cfgsw hu))

theorem KeptOut.cfgld {c : CoreId} {t : TaskSlot} {f : InsnBits} (h : Kept r s) : KeptOut r (execCfgld c t f s) :=
  .next (.issue h (fun _ _ _ hu => .cfgld hu))

theorem KeptOut.epoch {c : CoreId} {t : TaskSlot} {f : InsnBits} (h : Kept r s) : KeptOut r (execEpoch c t f s) :=
  .next (.issue h (fun _ _ _ hu => .epoch hu))

/-! ## Stalls and the forced drain (R211 to R215) -/

theorem KeptOut.latticeStall {c : CoreId} (h : Kept r s) : KeptOut r (execLatticeStall c s) :=
  .ite (.next h) (.next (.record (.coreStat (.logOnce h))))

theorem Kept.stopLattice {n : ℕ} (h : Kept r s) : Kept r (s.stopLattice n) := .discardToken (.setCore h)

theorem KeptOut.latStopSet {who : Initiator} {c : CoreId} (h : Kept r s) : KeptOut r (execLatStopSet who c s) :=
  .next (.gateReg h (fun _ hu => .ite hu (.stopLattice (.setReg hu))))

theorem KeptOut.latticeDrained {c : CoreId} (h : Kept r s) : KeptOut r (execLatticeDrained c s) := .ite (.next (.modCore h)) (.next h)

theorem KeptOut.latStopClear {who : Initiator} {c : CoreId} (h : Kept r s) : KeptOut r (execLatStopClear who c s) :=
  .next (.gateReg h (fun _ hu => .ite (.modCore (.setReg hu)) hu))

/-! ## Seal lanes (spec/12 R403, R404) -/

theorem Kept.advanceLane {n j : ℕ} (h : Kept r s) : Kept r (s.advanceLane n j) := by
  unfold State.advanceLane
  exact .modCore h

theorem KeptOut.sealLaneUpdate {c : CoreId} {d : Dir} {sc : Word} (h : Kept r s) : KeptOut r (execSealLaneUpdate c d sc s) := by
  unfold execSealLaneUpdate
  extract_lets i
  split
  · exact .next h
  · refine .ite (.next (.advanceLane h)) ?_
    extract_lets u u₁
    have hu : Kept r u := .modCore (.advanceLane h)
    have hu₁ : Kept r u₁ := .modSeal hu
    exact .next (.sealReady hu₁)

theorem Kept.retractLane {n i k : ℕ} (h : Kept r s) : Kept r (s.retractLane n i k) := by
  induction k generalizing s with
  | zero =>
    rw [State.retractLane]
    exact h
  | succ k ih =>
    rw [State.retractLane]
    split
    · exact ih (.retractWin h)
    · exact h

theorem KeptOut.laneRetract {c : CoreId} {d : Dir} (h : Kept r s) : KeptOut r (execLaneRetract c d s) := by
  unfold execLaneRetract
  extract_lets i u u₁ u₂
  have hu : Kept r u := .retractLane h
  have hu₁ : Kept r u₁ := .modCore hu
  have hu₂ : Kept r u₂ := .coreStat hu₁
  split
  · exact .next h
  · refine .ite (.next h) (.next ?_)
    split
    · exact .freezeTask hu₂
    · exact hu₂

end kept

end Sys2Proof.Machine
end

section
/-! PROOFS. What the operations of the beacon net, the row engine, the waits for seals, event counters and routers keep. -/

namespace Sys2Proof.Machine

open Sys2Proof.Claims

section kept
variable {r s : State}

/-! ## The beacon net -/

theorem KeptTry.bar {n t : ℕ} {f : InsnBits} {stage : ℕ} (h : Kept r s) : KeptTry r (tryBar n t f stage s) := by
  unfold tryBar
  extract_lets g c
  split
  · exact .wait (.setCore h)
  · refine .ite ?_ (.wait h)
    split
    · exact .done (.modTask (.count (.setCore h)))
    · exact .wait h

theorem KeptOut.bar {c : CoreId} {t : TaskSlot} {f : InsnBits} (h : Kept r s) : KeptOut r (execBar c t f s) :=
  .next (.issue h (fun _ _ _ hu => .bar hu))

theorem Kept.strayJoin {n : ℕ} (h : Kept r s) : Kept r (s.strayJoin n) := .coreRec (.orReg (.count h))

theorem KeptOut.beaconJoin {g : GroupId} {c : CoreId} (h : Kept r s) : KeptOut r (execBeaconJoin g c s) := by
  unfold execBeaconJoin
  extract_lets k b
  split
  · exact .next h
  · exact .ite (.next h) (.ite (.next (.strayJoin (.setCore (.setCore h)))) (.ite (.next (.setBeacon (.setCore h)))
      (.next (.setBeacon (.setCore h)))))

theorem Kept.releaseTap {g : ℕ} {v : Word} {n : ℕ} (h : Kept r s) : Kept r (s.releaseTap g v n) := .modCore h

theorem KeptOut.beaconRelease {g : GroupId} (h : Kept r s) : KeptOut r (execBeaconRelease g s) := by
  unfold execBeaconRelease
  refine .ite (.next h) ?_
  extract_lets op v u u₁
  have hu : Kept r u := .foldl h fun _ _ hu₂ => .ite hu₂ (.releaseTap hu₂)
  have hu₁ : Kept r u₁ := .setReg hu
  exact .next (.setBeacon hu₁)

theorem KeptOut.beaconFault {g : GroupId} (h : Kept r s) : KeptOut r (execBeaconFault g s) := .ite (.next h) (.next (.record (.orReg (.setBeacon h))))

theorem Kept.rejoin {g : ℕ} (h : Kept r s) : Kept r (s.rejoin g) := by
  unfold State.rejoin
  refine .foldl h fun u x hu => ?_
  split
  · exact .ite (.modCore hu) hu
  · exact hu

theorem KeptOut.beaconClear {who : Initiator} {g : GroupId} {v : Word} (h : Kept r s) : KeptOut r (execBeaconClear who g v s) :=
  .next (.gateReg h (fun _ hu => .ite (.rejoin (.setBeacon hu)) hu))

theorem KeptOut.bcnGcfgWrite {who : Initiator} {g : GroupId} {which : Fin 9} {v : Word} (h : Kept r s) :
    KeptOut r (execBcnGcfgWrite who g which v s) :=
  .next (.gateReg h (fun _ hu => .ite (.regWrite hu) (.orReg hu)))

theorem Kept.beaconAbsent {n : ℕ} (h : Kept r s) : Kept r (s.beaconAbsent n) := by
  unfold State.beaconAbsent
  extract_lets gs u
  have hu : Kept r u := .foldl h fun _ _ hu₁ => .setBeacon (.setReg hu₁)
  exact .ite hu (.orReg hu)

/-! ## The ROW block -/

theorem Kept.issued {o : RowOp} (h : Kept r s) : Kept r (o.issued s).2 := .iteSnd (.pair (.update h)) (.pair h)

theorem KeptTry.rowop {op n t : ℕ} {f : InsnBits} (h : Kept r s) : KeptTry r (tryRowop op n t f s) := by
  unfold tryRowop
  refine .acc (.block h) h (fun u hu x => ?_)
  split
  next u₁ e =>
    have hu₁ : Kept r u₁ := .snd (.issued hu) e
    refine .ite (.stop (.endTask (.coreStat hu₁))) (.ite (.stop (.endTask (.coreStat hu₁))) ?_)
    split
    · exact .wait hu₁
    next e₂ => exact .done (.modCore (.ofSome (.openWindow hu₁) e₂))

theorem Kept.issueRow {op c t : ℕ} {f : InsnBits} (h : Kept r s) : Kept r (s.issueRow op c t f) := .issue h (fun _ _ _ hu => .rowop hu)

theorem KeptOut.softmax {c : CoreId} {t : TaskSlot} {f : InsnBits} (h : Kept r s) : KeptOut r (execSoftmax c t f s) := .next (.issueRow h)

theorem KeptOut.smxPart {c : CoreId} {t : TaskSlot} {f : InsnBits} (h : Kept r s) : KeptOut r (execSmxPart c t f s) := .next (.issueRow h)

theorem KeptOut.smxMerge {c : CoreId} {t : TaskSlot} {f : InsnBits} (h : Kept r s) : KeptOut r (execSmxMerge c t f s) := .next (.issueRow h)

theorem KeptOut.smxNorm {c : CoreId} {t : TaskSlot} {f : InsnBits} (h : Kept r s) : KeptOut r (execSmxNorm c t f s) := .next (.issueRow h)

theorem KeptOut.lse {c : CoreId} {t : TaskSlot} {f : InsnBits} (h : Kept r s) : KeptOut r (execLse c t f s) := .next (.issueRow h)

theorem KeptOut.lnorm {c : CoreId} {t : TaskSlot} {f : InsnBits} (h : Kept r s) : KeptOut r (execLnorm c t f s) := .next (.issueRow h)

theorem KeptOut.rmsnorm {c : CoreId} {t : TaskSlot} {f : InsnBits} (h : Kept r s) : KeptOut r (execRmsnorm c t f s) := .next (.issueRow h)

theorem KeptOut.topk {c : CoreId} {t : TaskSlot} {f : InsnBits} (h : Kept r s) : KeptOut r (execTopk c t f s) := .next (.issueRow h)

theorem KeptOut.rowdot {c : CoreId} {t : TaskSlot} {f : InsnBits} (h : Kept r s) : KeptOut r (execRowdot c t f s) := .next (.issueRow h)

theorem KeptOut.softmaxBwd {c : CoreId} {t : TaskSlot} {f : InsnBits} (h : Kept r s) : KeptOut r (execSoftmaxBwd c t f s) := .next (.issueRow h)

theorem KeptOut.lnormBwd {c : CoreId} {t : TaskSlot} {f : InsnBits} (h : Kept r s) : KeptOut r (execLnormBwd c t f s) := .next (.issueRow h)

theorem KeptOut.rmsnormBwd {c : CoreId} {t : TaskSlot} {f : InsnBits} (h : Kept r s) : KeptOut r (execRmsnormBwd c t f s) := .next (.issueRow h)

/-! ## Rows in memory -/

theorem KeptAcc.readRow {n t : ℕ} {x : OutCtx} {base all row fmt len : ℕ} (h : Kept r s) : KeptAcc r (s.readRow n t x base all row fmt len) := by
  unfold State.readRow
  extract_lets p q
  split
  next e => exact .ok (.ofOk (.taskReads h) e)
  next e => exact .ok (.ofOk (.taskReads h) e)
  · exact .held
  · exact .access
  next e => exact .ue (.ofUe (.taskReads h) e)

/-! ## The base-2 exponential (R95, R96) -/

theorem Kept.anchorOf {us : List Num} (h : Kept r s) : Kept r (s.anchorOf us).2 := by
  unfold State.anchorOf
  extract_lets m free
  have hfree : Kept r free.2 := by
    unfold free
    split
    next e => exact .pair (.snd (.fresh h) e)
  clear_value m
  split
  · extract_lets k
    exact .iteSnd (.pair h) hfree
  · exact hfree

/-! ## Softmax partials (R101 to R105) -/

theorem KeptAcc.readPartial {n t addr d : ℕ} (h : Kept r s) : KeptAcc r (s.readPartial n t addr d) := by
  unfold State.readPartial
  split
  next u _ e =>
    have hu : Kept r u := .ofOk (.taskReads h) e
    refine .ite (.ok hu) ?_
    split
    next e₁ => exact .ok (.ofOk (.taskReads hu) e₁)
    · exact .held
    · exact .access
    next e₁ => exact .ue (.ofUe (.taskReads hu) e₁)
  · exact .held
  · exact .access
  next e => exact .ue (.ofUe (.taskReads h) e)

theorem KeptAcc.readPartials {n t d k addr : ℕ} (h : Kept r s) : KeptAcc r (s.readPartials n t d k addr) := by
  induction k generalizing s addr with
  | zero =>
    rw [State.readPartials]
    exact .ok h
  | succ k ih =>
    rw [State.readPartials]
    split
    next u _ e =>
      have hu : Kept r u := .ofOk (.readPartial h) e
      split
      next v _ _ e => exact .ok (.ofOk (ih hu) e)
      next v e => exact .ok (.ofOk (ih hu) e)
      · exact .held
      · exact .access
      next v e => exact .ue (.ofUe (ih hu) e)
    next u e => exact .ok (.ofOk (.readPartial h) e)
    · exact .held
    · exact .access
    next u e => exact .ue (.ofUe (.readPartial h) e)

/-! ## The operations, one row (R101 to R109) -/

theorem Kept.rowSoftmax {o : RowOp} {xs : List Num} (h : Kept r s) : Kept r (s.rowSoftmax o xs).2 := by
  unfold State.rowSoftmax
  split
  · exact .pair h
  · split
    · exact .pair h
  · split
    next e₁ =>
      split
      · extract_lets win
        split
        · extract_lets qs
          split
          · exact .pair (.snd (.anchorOf h) e₁)

theorem Kept.rowPart {o : RowOp} {xs : List Num} (h : Kept r s) : Kept r (s.rowPart o xs).2 := by
  unfold State.rowPart
  extract_lets exact part sumFlags r'
  split
  · exact .pair h
  · split
    · exact .pair h
  · split
    next e₁ =>
      split
      · split
        · extract_lets ws win
          exact .pair (.snd (.anchorOf h) e₁)

theorem Kept.rowLseScores {o : RowOp} {xs : List Num} (h : Kept r s) : Kept r (s.rowLseScores o xs).2 := by
  unfold State.rowLseScores
  split
  · exact .pair h
  · exact .pair h
  · split
    next e₁ =>
      split
      · extract_lets win
        split
        · exact .pair (.snd (.anchorOf h) e₁)

theorem KeptAcc.readRows {n t : ℕ} {x : OutCtx} {fmt len : ℕ} {xs : List (ℕ × ℕ × ℕ)} (h : Kept r s) : KeptAcc r (s.readRows n t x fmt len xs) := by
  induction xs generalizing s with
  | nil =>
    rw [State.readRows]
    exact .ok h
  | cons x xs ih =>
    rw [State.readRows]
    split
    next u _ _ e =>
      have hu : Kept r u := .ofOk (.readRow h) e
      split
      next e₁ => exact .ok (.ofOk (ih hu) e₁)
      · exact .held
      · exact .access
      next e₁ => exact .ue (.ofUe (ih hu) e₁)
    · exact .held
    · exact .access
    next e => exact .ue (.ofUe (.readRow h) e)

theorem KeptAcc.rowOfElems {n : ℕ} {o : RowOp} {delta : Option Num} (h : Kept r s) : KeptAcc r (s.rowOfElems n o delta) := by
  unfold State.rowOfElems
  extract_lets rc
  split
  next u _ _ e =>
    have hu : Kept r u := .ofOk (.readRows h) e
    extract_lets x₁ y z
    split
    next u₁ e₁ =>
      have hu₁ : Kept r u₁ := by
        refine .snd ?_ e₁
        split
        · exact .rowSoftmax hu
        · exact .rowPart hu
        · exact .rowLseScores hu
        · exact .pair hu
        · exact .pair hu
        · exact .pair hu
        · exact .pair hu
        · exact .pair hu
        · exact .pair hu
        · exact .pair hu
      exact .ok hu₁
  · exact .held
  · exact .access
  next e => exact .ue (.ofUe (.readRows h) e)

theorem KeptAcc.rowOfPartials {n : ℕ} {o : RowOp} (h : Kept r s) : KeptAcc r (s.rowOfPartials n o) := by
  unfold State.rowOfPartials
  refine .ite (.ok h) ?_
  split
  next e => exact .ok (.ofOk (.readPartials h) e)
  next u _ _ e =>
    have hu : Kept r u := .ofOk (.readPartials h) e
    extract_lets o₁
    split
    · split
      · exact .ok hu
      · exact .ok hu
    · exact .ok hu
    · split
      · exact .ok hu
    · exact .ok hu
  · exact .held
  · exact .access
  next e => exact .ue (.ofUe (.readPartials h) e)

theorem KeptAcc.rowNext {n : ℕ} {o : RowOp} (h : Kept r s) : KeptAcc r (s.rowNext n o) := by
  unfold State.rowNext
  refine .ite (.rowOfPartials h) (.ite ?_ (.rowOfElems h))
  split
  next e => exact .rowOfElems (.ofOk (.taskReads h) e)
  · exact .held
  · exact .access
  next e => exact .ue (.ofUe (.taskReads h) e)

theorem KeptAcc.unitWrites {n t : ℕ} {e' : BitVec 32} {xs : List (ℕ × Bytes)} (h : Kept r s) : KeptAcc r (s.unitWrites n t e' xs) := by
  induction xs generalizing s with
  | nil =>
    rw [State.unitWrites]
    exact .ok h
  | cons x xs ih =>
    rw [State.unitWrites]
    split
    next e => exact ih (.ofOk (.windowWrite h) e)
    · exact .windowWrite h

theorem KeptAcc.rowExport {n : ℕ} {o : RowOp} (h : Kept r s) : KeptAcc r (s.rowExport n o) := by
  unfold State.rowExport
  refine .ite (.ok h) (.ite ?_ (.unitWrites h))
  split
  next e => exact .ok (.modCore (.ofOk (.taskReads h) e))
  · exact .held
  · exact .access
  next e => exact .ue (.ofUe (.taskReads h) e)

theorem Kept.rowDone {n : ℕ} {r' : RowRes} (h : Kept r s) : Kept r (s.rowDone n r') := by
  unfold State.rowDone
  extract_lets o u u₁ u₂
  have hu : Kept r u := .winFlags (.rowFlags h)
  have hu₁ : Kept r u₁ := .count hu
  have hu₂ : Kept r u₂ := .ite (.count hu₁) hu₁
  exact .modCore hu₂

theorem KeptOut.rowComplete {c : CoreId} (h : Kept r s) : KeptOut r (execRowComplete c s) := by
  unfold execRowComplete
  split
  · exact .next h
  · extract_lets drop
    have hdrop : ∀ u, Kept r u → Kept r (drop u) := fun _ hu => .modCore hu
    refine .ite (.next h) ?_
    split
    · exact .next h
    · exact .next (.endAsync (hdrop _ h))
    next e₁ => exact .next (hdrop _ (.ofUe (.rowNext h) e₁))
    next e₁ => exact .next (.endAsync (.coreStat (hdrop _ (.ofOk (.rowNext h) e₁))))
    next e₁ => exact .next (.endAsync (hdrop _ (.ofOk (.rowNext h) e₁)))
    next s1 _ e₁ =>
      have hs1 : Kept r s1 := .ofOk (.rowNext h) e₁
      split
      · exact .next h
      · exact .next (.endAsync (hdrop _ h))
      next e₂ => exact .next (hdrop _ (.ofUe (.unitWrites hs1) e₂))
      next s3 _ e₂ =>
        have hs3 : Kept r s3 := .ofOk (.unitWrites hs1) e₂
        refine .ite ?_ (.next (.rowDone hs3))
        split
        · exact .next h
        · exact .next (.endAsync (hdrop _ h))
        next e₃ => exact .next (hdrop _ (.ofUe (.rowExport hs3) e₃))
        next e₃ => exact .next (.rowDone (.ofOk (.rowExport hs3) e₃))

theorem KeptOut.rowStatwinWrite {who : Initiator} {c : CoreId} {t : TaskSlot} {v : Word} (h : Kept r s) :
    KeptOut r (execRowStatwinWrite who c t v s) :=
  .next (.gate h (fun _ hu => .ite (.regWrite hu) (.coreStat hu)))

/-! ## WAITSEAL and SEALQ (spec/12 R396 to R398), and the event counter instructions -/

theorem Kept.inherit {n t : ℕ} {rs : List SealRef} (h : Kept r s) : Kept r (s.inherit n t rs) := .foldl h fun _ _ hu => .modTask hu

theorem KeptTry.waitseal {n t : ℕ} {f : InsnBits} {stage keep : ℕ} (h : Kept r s) : KeptTry r (tryWaitseal n t f stage keep s) := by
  unfold tryWaitseal
  refine .ite (.done h) ?_
  split
  · exact .stop (.endTask h)
  · exact .wait h
  · exact .ite (.stop (.freezeTask h)) (.ite (.done h) (.ite (.ite (.wait (.coreStat h)) (.done (.inherit h))) (.wait h)))

theorem KeptTry.sealq {n t : ℕ} {f : InsnBits} (h : Kept r s) : KeptTry r (trySealq n t f s) := by
  unfold trySealq
  extract_lets k addr len put
  have hput : ∀ x, KeptTry r (put x) := fun _ => .done (.modTask h)
  refine .ite (hput _) ?_
  split
  · exact .stop (.endTask h)
  · exact hput _
  · exact hput _

theorem KeptOut.waitseal {c : CoreId} {t : TaskSlot} {f : InsnBits} (h : Kept r s) : KeptOut r (execWaitseal c t f s) :=
  .next (.issue h (fun _ _ _ hu => .waitseal hu))

theorem KeptOut.sealq {c : CoreId} {t : TaskSlot} {f : InsnBits} (h : Kept r s) : KeptOut r (execSealq c t f s) :=
  .next (.issue h (fun _ _ _ hu => .sealq hu))

/-! ## Event counters (spec/15 R495) -/

theorem KeptTry.evsel {n t : ℕ} {f : InsnBits} (h : Kept r s) : KeptTry r (tryEvsel n t f s) := .ite (.done (.setReg h)) (.done h)

theorem Kept.evEach {n t : ℕ} {f : InsnBits} {act : State → ℕ → State} (h : Kept r s) (h₁ : ∀ u, Kept r u → ∀ y₁, Kept r (act u y₁)) :
    Kept r (s.evEach n t f act) :=
  .foldl h fun _ _ hu => h₁ _ hu _

theorem KeptTry.evctl {n t : ℕ} {f : InsnBits} (h : Kept r s) : KeptTry r (tryEvctl n t f s) := by
  unfold tryEvctl
  extract_lets ctl
  split
  · exact .done (.evEach h (fun _ hu _ => .setReg hu))
  · exact .done (.evEach h (fun _ hu _ => .setReg hu))
  · exact .done (.evEach h (fun _ hu _ => .setReg hu))

theorem KeptTry.evrd {n t : ℕ} {f : InsnBits} (h : Kept r s) : KeptTry r (tryEvrd n t f s) := .ite (.done (.modTask h)) (.done h)

theorem KeptOut.evsel {c : CoreId} {t : TaskSlot} {f : InsnBits} (h : Kept r s) : KeptOut r (execEvsel c t f s) :=
  .next (.issue h (fun _ _ _ hu => .evsel hu))

theorem KeptOut.evctlStart {c : CoreId} {t : TaskSlot} {f : InsnBits} (h : Kept r s) : KeptOut r (execEvctlStart c t f s) :=
  .next (.issue h (fun _ _ _ hu => .evctl hu))

theorem KeptOut.evctlStop {c : CoreId} {t : TaskSlot} {f : InsnBits} (h : Kept r s) : KeptOut r (execEvctlStop c t f s) :=
  .next (.issue h (fun _ _ _ hu => .evctl hu))

theorem KeptOut.evctlClear {c : CoreId} {t : TaskSlot} {f : InsnBits} (h : Kept r s) : KeptOut r (execEvctlClear c t f s) :=
  .next (.issue h (fun _ _ _ hu => .evctl hu))

theorem KeptOut.evrd {c : CoreId} {t : TaskSlot} {f : InsnBits} (h : Kept r s) : KeptOut r (execEvrd c t f s) :=
  .next (.issue h (fun _ _ _ hu => .evrd hu))

/-! ## Escape table sets (R259) -/

theorem Kept.putEsc {t : Tab ℕ} (h : Kept r s) : Kept r (s.putEsc t) := .escSettle (.update h)

/-! ## Flits through a router (R256 to R258, R261, R263) -/

theorem Kept.returnCredit {p key : ℕ} (h : Kept r s) : Kept r (s.returnCredit p key) := by
  unfold State.returnCredit
  split
  · exact .modRouter h
  · exact h

theorem Kept.resteer {p key : ℕ} (h : Kept r s) : Kept r (s.resteer p key) := by
  unfold State.resteer
  extract_lets r'
  split
  · exact h
  · split
    · exact .orReg (.count (.modRouter h))
    · exact h

theorem Kept.deliverFlit {p o vc : ℕ} {f : Flit} (h : Kept r s) : Kept r (s.deliverFlit p o vc f) := by
  unfold State.deliverFlit
  extract_lets k fs u u₁
  have hu : Kept r u := .modRouter h
  have hu₁ : Kept r u₁ := .ite (.land hu) hu
  refine .ite ?_ (.dieEvent hu₁)
  split
  · exact .event hu₁
  · exact hu₁

theorem Kept.passFlit {p key o vc : ℕ} {f : Flit} {rest : List Flit} (h : Kept r s) : Kept r (s.passFlit p key o vc f rest) := by
  unfold State.passFlit
  extract_lets tail src f₁ u u₁ u₂
  have hu : Kept r u := .modRouter h
  have hu₁ : Kept r u₁ := .returnCredit (.count hu)
  have hu₂ : Kept r u₂ := .modRouter hu₁
  split
  · exact .update (.ite hu₂ (.dieEvent hu₂))
  · exact .deliverFlit hu₁

theorem Kept.moveFlit {p key : ℕ} {esc : Bool} (h : Kept r s) : Kept r (s.moveFlit p key esc).1 := by
  unfold State.moveFlit
  extract_lets u r'
  have hu : Kept r u := .resteer h
  split
  · exact .pairFst hu
  · refine .iteFst ?_ ?_
    · split
      · exact .pairFst hu
      · extract_lets u₁
        have hu₁ : Kept r u₁ := .ite (.orReg hu) hu
        exact .pairFst (.passFlit hu₁)
    · split
      · exact .iteFst (.pairFst (.passFlit hu)) (.pairFst hu)
      · exact .pairFst (.returnCredit (.modRouter hu))

theorem Kept.moveAll {p key : ℕ} {esc : Bool} {k : ℕ} (h : Kept r s) : Kept r (s.moveAll p key esc k) := by
  induction k generalizing s p key esc with
  | zero =>
    rw [State.moveAll]
    exact h
  | succ k ih =>
    rw [State.moveAll]
    split
    next e => exact ih (.fst (.moveFlit h) e)
    next e => exact (.fst (.moveFlit h) e)

theorem Kept.pump {p : ℕ} (h : Kept r s) : Kept r (s.pump p) := .escSettle (.foldl h fun _ _ hu => .moveAll hu)

theorem Kept.acceptFlit {p key : ℕ} {f : Flit} (h : Kept r s) : Kept r (s.acceptFlit p key f) := .pump (.modRouter h)

theorem Kept.seamDrop {p port : ℕ} (h : Kept r s) : Kept r (s.seamDrop p port) := by
  unfold State.seamDrop
  split
  · exact .ite h (.count h)
  · exact h

theorem Kept.discardFlit {p key : ℕ} {sent : Flit} (h : Kept r s) : Kept r (s.discardFlit p key sent) :=
  .escSettle (.seamDrop (.returnCredit (.lose h)))

theorem KeptOut.flitArrive {p : PhysId} {port : RPort} {err : BitVec 2085} (h : Kept r s) : KeptOut r (execFlitArrive p port err s) := by
  unfold execFlitArrive
  split
  · exact .next h
  · refine .ite (.next (.escSettle (.returnCredit (.lose (.update h))))) ?_
    extract_lets bad u killed g u₁
    have hu : Kept r u := .ite (.orReg (.count (.update h))) (.update h)
    have hu₁ : Kept r u₁ := .modRouter hu
    exact .ite (.next (.discardFlit (.ite (.modRouter hu) hu))) (.ite (.next (.discardFlit (.modRouter hu))) (.next (.acceptFlit hu₁)))

theorem KeptOut.escapeFallback {p : PhysId} {port : RPort} (h : Kept r s) : KeptOut r (execEscapeFallback p port s) :=
  .ite (.next (.pump (.moveAll (.moveAll h)))) (.next h)

/-! ## Registers -/

theorem KeptOut.escdataWrite {who : Initiator} {d : DieId} {v : Word} (h : Kept r s) : KeptOut r (execEscdataWrite who d v s) :=
  .next (.gateReg h (fun _ hu => .ite hu (.putEsc hu)))

theorem Kept.markPort {p port : ℕ} {down : Bool} (h : Kept r s) : Kept r (s.markPort p port down) := .ite (.orReg (.setReg h)) (.setReg h)

theorem KeptOut.markDownWrite {who : Initiator} {c : CoreId} {port : RPort} {v : Word} (h : Kept r s) :
    KeptOut r (execMarkDownWrite who c port v s) := by
  unfold execMarkDownWrite
  refine .next (.gateReg h (fun u hu => ?_))
  split
  · exact .markPort hu
  · exact hu

theorem Kept.setSeamWire {d j i w : ℕ} (h : Kept r s) : Kept r (s.setSeamWire d j i w) := .update h

theorem Kept.dropSeamLink {d j r' : ℕ} (h : Kept r s) : Kept r (s.dropSeamLink d j r') := by
  unfold State.dropSeamLink
  extract_lets e u
  have hu : Kept r u := .markPort h
  split
  · exact .markPort hu
  · exact hu

theorem Kept.repairSeam {d j : ℕ} {bad : List ℕ} (h : Kept r s) : Kept r (s.repairSeam d j bad) := by
  unfold State.repairSeam
  extract_lets free vital kept mesh u
  have hu : Kept r u := .foldl h fun _ _ hu₁ => .setSeamWire hu₁
  exact .foldl hu fun _ _ hu₁ => .dropSeamLink hu₁

theorem Kept.repairSeams {bad : List (DieId × Fin 2 × BitVec 12)} (h : Kept r s) : Kept r (s.repairSeams bad) := .foldl h fun _ _ hu => .repairSeam hu

theorem KeptOut.seamRprWrite {who : Initiator} {d : DieId} {j : Fin 2} {v : Word} (h : Kept r s) : KeptOut r (execSeamRprWrite who d j v s) :=
  .next (.gateReg h (fun _ hu => .ite (.setSeamWire (.setReg hu)) (.setReg hu)))

end kept

end Sys2Proof.Machine
end

section
/-! PROOFS. What the starts and ends of tasks, tests of slots, checkpoints, the rings of memory and the tier engine keep. -/

namespace Sys2Proof.Machine

open Sys2Proof.Claims

section kept
variable {r s : State}

/-! ## The start (spec/04 R142, R143, spec/11 R374) -/

theorem Kept.answerStart {n : ℕ} {req : StartReq} {ans : ℕ} {slot : Option ℕ} (h : Kept r s) : Kept r (s.answerStart n req ans slot) := by
  unfold State.answerStart
  extract_lets tag mine u
  have hu : Kept r u := .modJob h
  split
  · exact .jobCause hu
  · exact hu

theorem KeptOut.startReservation {c : CoreId} {req : StartReq} (h : Kept r s) : KeptOut r (execStartReservation c req s) := by
  unfold execStartReservation
  refine .ite (.next h) ?_
  extract_lets a
  split
  next u e =>
    have hu : Kept r u := .snd (.snooped h) e
    refine .ite (.next hu) ?_
    split
    next e₁ => exact .next (.answerStart (.snd (.ringRead hu) e₁))
    next u₁ e₁ =>
      have hu₁ : Kept r u₁ := .snd (.ringRead hu) e₁
      refine .ite (.next (.answerStart hu₁)) ?_
      extract_lets i t u₂
      have hu₂ : Kept r u₂ := .modTask hu₁
      split
      · exact .next (.answerStart (.modCore hu₁))
      · exact .next (.answerStart hu₂)

theorem KeptOut.startGo {jobTag : BitVec 32} (h : Kept r s) : KeptOut r (execStartGo jobTag s) := by
  unfold execStartGo
  extract_lets tag
  split
  · exact .ite (.next (.foldl (.setJob h) fun _ _ hu => .modCore hu)) (.next h)
  · exact .next h

theorem KeptOut.reservationCancel {c : CoreId} {t : TaskSlot} (h : Kept r s) : KeptOut r (execReservationCancel c t s) :=
  .ite (.next (.modJob (.setTask h))) (.next h)

/-! ## Loading (spec/04 R147, R149, spec/05 R180, spec/07 R217, R218) -/

theorem Kept.applyQcfg {n t : ℕ} {b : Bytes} (h : Kept r s) : Kept r (s.applyQcfg n t b) := by
  unfold State.applyQcfg
  extract_lets nq u
  have hu : Kept r u := .foldl h fun _ _ hu₁ => .modCore hu₁
  refine .foldl hu fun u₁ x hu₁ => ?_
  extract_lets x₁ u₂
  have hu₂ : Kept r u₂ := .modCore hu₁
  split
  · exact .tableBytes (.pieceStore hu₂)
  · exact hu₂

theorem Kept.openRegion {n t : ℕ} {b code : Bytes} {r' : Region} (h : Kept r s) : Kept r (s.openRegion n t b code r') := by
  unfold State.openRegion
  extract_lets u u₁
  have hu : Kept r u := .ite (.modTask h) (.ite (.modCore h) h)
  have hu₁ : Kept r u₁ := by
    unfold u₁
    split
    · exact .store hu
    · exact hu
  exact .ite (.store hu₁) hu₁

theorem Kept.startLattice {n t : ℕ} {slots : List ℕ} {es : List CfgSlot} (h : Kept r s) : Kept r (s.startLattice n t slots es) :=
  .foldl (.modCore h) fun _ _ hu => .switchOut (.switchIn hu)

theorem Kept.readQcfg {n t : ℕ} {i : ImageInfo} (h : Kept r s) : Kept r (s.readQcfg n t i).2 := by
  unfold State.readQcfg
  split
  · exact .pair h
  · exact .iteSnd (.pair (.noteCe h)) (.pair (.noteUe h))

theorem Kept.loadImage {n t : ℕ} {b : Bytes} {i : ImageInfo} (h : Kept r s) : Kept r (s.loadImage n t b i) := by
  unfold State.loadImage
  extract_lets h' code u u₁ bad es
  have hu : Kept r u := .foldl h fun _ _ hu₂ => .openRegion hu₂
  have hu₁ : Kept r u₁ := .setReg hu
  have hbad : ∀ u, Kept r u → ∀ x, Kept r (bad u x) := fun _ hu₂ _ => .endTask hu₂
  split
  next u₂ e =>
    have hu₂ : Kept r u₂ := .snd (.readQcfg hu₁) e
    refine .ite (hbad _ hu₂ _) ?_
    extract_lets u₃ u₄
    have hu₃ : Kept r u₃ := by
      unfold u₃
      split
      · exact .applyQcfg hu₂
      · exact hu₂
    have hu₄ : Kept r u₄ := .ite (.startLattice hu₃) hu₃
    exact .ite (hbad _ (.coreStat hu₃) _) (.modTask hu₄)

theorem KeptOut.taskLoadComplete {c : CoreId} {t : TaskSlot} (h : Kept r s) : KeptOut r (execTaskLoadComplete c t s) := by
  unfold execTaskLoadComplete
  refine .ite (.next h) ?_
  split
  next u e =>
    have hu : Kept r u := .snd (.snooped h) e
    refine .ite (.next hu) ?_
    split
    next e₁ => exact .next (.endTask (.snd (.ringRead hu) e₁))
    next u₁ e₁ =>
      have hu₁ : Kept r u₁ := .snd (.ringRead hu) e₁
      exact .ite (.next (.endTask hu₁)) (.next (.loadImage hu₁))

/-! ## The end (spec/04 R150 to R155, spec/05 R181, spec/07 R229, spec/12 R388) -/

theorem Kept.dropRefs {n o len : ℕ} (h : Kept r s) : Kept r (s.dropRefs n o len) := .setSeal h

theorem Kept.zeroRange {a len : ℕ} (h : Kept r s) : Kept r (s.zeroRange a len) := .wipe h

theorem Kept.releaseUnits {n t : ℕ} {i : ImageInfo} (h : Kept r s) : Kept r (s.releaseUnits n t i) := by
  unfold State.releaseUnits
  exact .modCore (.raiseMasks h)

theorem Kept.releaseRegions {n : ℕ} {i : ImageInfo} (h : Kept r s) : Kept r (s.releaseRegions n i) := .foldl h fun _ _ hu => .dropRefs hu

theorem Kept.endReport {n t : ℕ} (h : Kept r s) : Kept r (s.endReport n t) := by
  unfold State.endReport
  extract_lets k i u src u₁ u₂
  have hu : Kept r u := .releaseRegions (.releaseUnits h)
  have hu₁ : Kept r u₁ := .setTask hu
  have hu₂ : Kept r u₂ := .ite hu₁ (.record hu₁)
  exact .taskReported hu₂

theorem Kept.drained {n t : ℕ} (h : Kept r s) : Kept r (s.drained n t) := .ite (.endReport h) (.modTask (.modCore h))

theorem KeptOut.taskDrainComplete {c : CoreId} {t : TaskSlot} (h : Kept r s) : KeptOut r (execTaskDrainComplete c t s) :=
  .ite (.next h) (.ite (.ite (.next h) (.next (.drained h))) (.next (.drained (.discardOps h))))

theorem KeptOut.scrubComplete {c : CoreId} {t : TaskSlot} (h : Kept r s) : KeptOut r (execScrubComplete c t s) := by
  unfold execScrubComplete
  split
  · extract_lets u u₁
    have hu : Kept r u := .modCore h
    have hu₁ : Kept r u₁ := .foldl hu fun _ _ hu₂ => .zeroRange hu₂
    exact .next (.ite (.endReport hu₁) hu₁)

theorem KeptOut.seqKill {who : Initiator} {c : CoreId} {mask : BitVec 4} (h : Kept r s) : KeptOut r (execSeqKill who c mask s) :=
  .next (.gateReg h (fun _ hu => .foldl hu fun _ _ hu₁ => .killTask hu₁))

theorem Kept.holdSlot {n t : ℕ} {on : Bool} (h : Kept r s) : Kept r (s.holdSlot n t on) := .ite h (.ite (.modTask h) (.modTask h))

theorem KeptOut.seqHold {who : Initiator} {c : CoreId} {mask : BitVec 4} (h : Kept r s) : KeptOut r (execSeqHold who c mask s) :=
  .next (.gateReg h (fun _ hu => .setRegField (.foldl hu fun _ _ hu₁ => .holdSlot hu₁)))

/-! ## Tests (R417, R419 to R425) -/

theorem Kept.skipTest {p : ℕ} (h : Kept r s) : Kept r (s.skipTest p) := .record (.modSlot (.smdStat h))

theorem Kept.pokeTest {p : ℕ} {t : TestRun} (h : Kept r s) : Kept r (s.pokeTest p t) := .ite (.beginSlice h) (.ite (.skipTest h) h)

theorem Kept.testDue {p : ℕ} {cmd : Bool} (h : Kept r s) : Kept r (s.testDue p cmd) := by
  unfold State.testDue
  extract_lets r' x inPlace
  have hinPlace : ∀ u, Kept r u → Kept r (inPlace u) := by
    refine fun u hu => ?_
    unfold inPlace
    extract_lets u₁
    have hu₁ : Kept r u₁ := .startTest hu
    split
    · exact .pokeTest hu₁
    · exact hu₁
  split
  · exact .ite (.pokeTest h) h
  · exact .ite (.startTest h) (.ite h (.ite (.ite (.testResting h) (.ite (.ite h (.planMove h)) (hinPlace _ h)))
      (.ite (.testResting h) (.ite (hinPlace _ h) h))))

theorem Kept.takeStep {r' i : ℕ} (h : Kept r s) : Kept r (s.takeStep r' i) := .setRow h

theorem KeptOut.testDue {p : PhysId} (h : Kept r s) : KeptOut r (execTestDue p s) := by
  unfold execTestDue
  refine .ite ?_ (.next h)
  extract_lets step s1
  have hs1 : Kept r s1 := .testDue h
  split
  · exact .next (.ite (.takeStep hs1) hs1)
  · exact .next hs1

theorem Kept.repairWith {p a : ℕ} {x : List ℕ × List ℕ} (h : Kept r s) : Kept r (s.repairWith p a x) := by
  unfold State.repairWith
  extract_lets key u u₁
  have hu : Kept r u := .foldl h fun _ _ hu₂ => .journal (.setReg hu₂)
  have hu₁ : Kept r u₁ := .foldl hu fun _ _ hu₂ => .journal (.setReg hu₂)
  exact .modSlot (.smdStat hu₁)

theorem KeptIn.repairSlice {p a : ℕ} {cells : List (ℕ × ℕ)} (h : Kept r s) : KeptIn r (fun y => y) (s.repairSlice p a cells) := by
  unfold State.repairSlice
  extract_lets m cells₁
  split
  · exact .none
  · exact .ite .none (.some (.repairWith h))
  · split
    next e₁ => exact .some (.repairWith (.snd (.fresh h) e₁))

theorem Kept.testFails {p : ℕ} (h : Kept r s) : Kept r (s.testFails p) :=
  .ite (.endTest (.modSlot h)) (.ite (.endTest (.journal (.modSlot h))) (.modSlot (.leaveService h)))

theorem Kept.pinchFails {p : ℕ} (h : Kept r s) : Kept r (s.pinchFails p) := by
  unfold State.pinchFails
  extract_lets x cell window recent again u u₁
  have hu : Kept r u := .smdStat (.modSlot h)
  have hu₁ : Kept r u₁ := .record hu
  exact .ite hu₁ (.ite (.modSlot hu₁) (.ite (.modSlot hu₁) hu₁))

theorem KeptOut.sliceResult {p : PhysId} {slice : Fin 40} {pinch : Bool} {sig : Word} {cells : List (ℕ × ℕ)} (h : Kept r s) :
    KeptOut r (execSliceResult p slice pinch sig cells s) := by
  unfold execSliceResult
  split
  · exact .next h
  · extract_lets seed good run fail v₁ v₂ v₃ v fixed
    have hrun : ∀ u, Kept r u → Kept r (run u) := fun u hu => .modSlot (.count hu)
    have hfail : ∀ u, Kept r u → Kept r (fail u) := fun u hu => .modSlot (.smdStat (.count hu))
    clear_value run fail
    have hu : Kept r (run s) := hrun s h
    refine .ite (.next h) (.ite
      (.ite (.next h) (.next (.ite (.endSlice (.testRecord (.modSlot hu))) (.pinchFails (.endSlice (.testRecord (.modSlot hu)))))))
      (.ite (.next h) ?_))
    refine .ite (.next (.endSlice (.testRecord (.modSlot hu)))) ?_
    have hv : Kept r v := .testRecord (hfail _ hu)
    have hfixed : KeptIn r (fun y => y) fixed := .ite (.repairSlice hv) .none
    clear_value fixed
    split
    · exact .next (.endSlice (.modSlot (.ofSome hfixed rfl)))
    · exact .next (.testFails hv)

theorem KeptOut.marchResult {p : PhysId} {pass : Bool} (h : Kept r s) : KeptOut r (execMarchResult p pass s) := by
  unfold execMarchResult
  split
  · exact .next h
  · refine .ite (.next h) (.ite ?_ ?_)
    · extract_lets u
      have hu : Kept r u := .testRecord (.modSlot (.smdStat (.count h)))
      exact .next (.testFails hu)
    · extract_lets cell u u₁ x₁
      have hu : Kept r u := .reinit (.testRecord h)
      have hu₁ : Kept r u₁ := .modSlot hu
      exact .next (.endTest hu₁)

/-! ## Conditions and times (R417, R426) -/

theorem KeptOut.conditionEvaluate {p : PhysId} (h : Kept r s) : KeptOut r (execConditionEvaluate p s) := by
  unfold execConditionEvaluate
  refine .ite (.next h) (.ite (.next h) (.ite ?_ (.next (.beginMove (.modSlot h)))))
  extract_lets u u₁ u₂ src
  have hu : Kept r u := .abandonTest h
  have hu₁ : Kept r u₁ := by
    unfold u₁
    split
    · exact .abandonTest hu
    · exact hu
  have hu₂ : Kept r u₂ := .modSlot hu₁
  split
  · exact .next (.beginMove (.setRow hu₂))
  · exact .next hu₁

theorem KeptOut.watchExpire {p : PhysId} (h : Kept r s) : KeptOut r (execWatchExpire p s) := .ite (.next h) (.next (.setSlot h))

theorem Kept.retire {p : ℕ} (h : Kept r s) : Kept r (s.retire p) := .journal (.smdStat (.modSlot (.abandonTest h)))

theorem KeptOut.cinderTimeout {p : PhysId} (h : Kept r s) : KeptOut r (execCinderTimeout p s) := .ite (.next h) (.next (.retire h))

/-! ## Migration (R428 to R434) -/

theorem Kept.markFrozen {n : ℕ} {m : Move} {skip : Bool} (h : Kept r s) : Kept r (s.markFrozen n m skip) := .setRow h

theorem KeptOut.migrationFreeze {c : CoreId} (h : Kept r s) : KeptOut r (execMigrationFreeze c s) := by
  unfold execMigrationFreeze
  split
  · exact .next h
  · extract_lets u
    have hu : Kept r u := .foldl h fun _ _ hu₁ => .ite (.freezeTask hu₁) hu₁
    exact .next (.ite (.markFrozen hu) hu)

theorem Kept.forceOut {n : ℕ} {m : Move} (h : Kept r s) : Kept r (s.forceOut n m) := by
  unfold State.forceOut
  extract_lets u u₁
  have hu : Kept r u := .freezeAll h
  have hu₁ : Kept r u₁ := .ite (.stopLattice (.setReg hu)) hu
  exact .count (.smdStat (.markFrozen hu₁))

theorem KeptOut.migrationForced {c : CoreId} (h : Kept r s) : KeptOut r (execMigrationForced c s) := by
  unfold execMigrationForced
  split
  · exact .next h
  · exact .ite (.next h) (.ite (.next (.forceOut h)) (.next (.count (.markFrozen (.freezeAll h)))))

theorem KeptOut.runEmptyTimeout {c : CoreId} (h : Kept r s) : KeptOut r (execRunEmptyTimeout c s) := by
  unfold execRunEmptyTimeout
  split
  · exact .ite (.next (.forceOut h)) (.next h)
  · exact .next h

theorem Kept.notCopied {n : ℕ} (h : Kept r s) : Kept r (s.notCopied n) := by
  unfold State.notCopied
  extract_lets hit u u₁
  have hu : Kept r u := .wipe h
  have hu₁ : Kept r u₁ := .foldl (.freezeAll hu) fun _ _ hu₂ => .discardOps hu₂
  exact .modCore hu₁

theorem Kept.copyCe {n : ℕ} (h : Kept r s) : Kept r (s.copyCe n) := by
  unfold State.copyCe
  extract_lets u
  have hu : Kept r u := .foldl h fun _ _ hu₁ => .foldl hu₁ fun _ _ hu₂ => .noteCe hu₂
  exact .update hu

theorem Kept.settleCols {m : Move} {cols : List ℕ} (h : Kept r s) : Kept r (s.settleCols m cols) := by
  unfold State.settleCols
  refine .foldl h fun u x hu => .ite (.notCopied hu) ?_
  split
  · exact .notCopied (.copyUe hu)
  · exact .copyCe hu

theorem Kept.startCopy {r' : ℕ} {m : Move} {cols : List ℕ} {u : ℕ} (h : Kept r s) : Kept r (s.startCopy r' m cols u) :=
  .foldl (.setRow h) fun _ _ hu₁ => .inject hu₁

theorem Kept.copying {r' : ℕ} {m : Move} {cols : List ℕ} {u : ℕ} (h : Kept r s) : Kept r (s.copying r' m cols u) := .ite h (.startCopy h)

theorem KeptOut.migrationCommit {c : CoreId} (h : Kept r s) : KeptOut r (execMigrationCommit c s) := by
  unfold execMigrationCommit
  extract_lets n r'
  split
  · exact .next h
  · refine .ite (.next h) ?_
    split
    · exact .next h
    · refine .ite (.next (.copying h)) ?_
      extract_lets u u₁ m₁ src u₂
      have hu : Kept r u := .count (.commitU (.settleCols (.copying h)))
      have hu₁ : Kept r u₁ := .thaw hu
      have hu₂ : Kept r u₂ := .setRow hu₁
      exact .next (.ite (.finishMove hu₂) hu₂)

/-! ## Layout revisions (R440, R441, R514) -/

theorem Kept.endAbsentTasks {n : ℕ} (h : Kept r s) : Kept r (s.endAbsentTasks n) :=
  .foldl h fun _ _ hu => .ite (.jobCause (.setTask hu)) (.ite (.endTask (.setTask hu)) (.endTask hu))

theorem Kept.raiseLayout (h : Kept r s) : Kept r (s.raiseLayout) := .setRegField (.setRegField h)

theorem Kept.commitRevision {r' : ℕ} {m : Move} (h : Kept r s) : Kept r (s.commitRevision r' m) := by
  unfold State.commitRevision
  extract_lets before u u₁ u₂ u₃ u₄ src
  have hu : Kept r u := .commitU (.settleCols h)
  have hu₁ : Kept r u₁ := .count hu
  have hu₂ : Kept r u₂ := .foldl hu₁ fun _ _ hu₅ => .thaw hu₅
  have hu₃ : Kept r u₃ := .foldl hu₂ fun _ _ hu₅ => .beaconAbsent (.endAbsentTasks hu₅)
  have hu₄ : Kept r u₄ := by
    refine .foldl hu₃ fun u₅ x hu₅ => ?_
    extract_lets u₆ u₇
    have hu₆ : Kept r u₆ := by
      unfold u₆
      split
      · exact .reinit hu₅
      · exact hu₅
    exact .setSeal hu₆
  exact .setRow hu₄

theorem KeptOut.layoutRevision {r' : Fin 64} (h : Kept r s) : KeptOut r (execLayoutRevision r' s) := by
  unfold execLayoutRevision
  split
  · refine .ite (.next h) (.ite (.next (.copying h)) ?_)
    extract_lets u u₁ src u₂
    have hu : Kept r u := .smdStat (.raiseLayout (.commitRevision (.copying h)))
    have hu₁ : Kept r u₁ := .record hu
    have hu₂ : Kept r u₂ := .setRow hu₁
    exact .next (.ite (.smdDone hu₂) hu₂)
  · exact .next h

theorem KeptOut.layoutRestore {r' : Fin 64} (h : Kept r s) : KeptOut r (execLayoutRestore r' s) := by
  unfold execLayoutRestore
  split
  · refine .ite (.next h) (.ite (.next (.copying h)) ?_)
    extract_lets u u₁ src u₂
    have hu : Kept r u := .raiseLayout (.commitRevision (.copying h))
    have hu₁ : Kept r u₁ := .record hu
    have hu₂ : Kept r u₂ := .setRow hu₁
    exact .next (.ite (.smdDone hu₂) hu₂)
  · exact .next h

theorem Kept.routerFails {p : ℕ} (h : Kept r s) : Kept r (s.routerFails p) := by
  unfold State.routerFails
  extract_lets u
  have hu : Kept r u := .foldl (.smdStat h) fun _ _ hu₁ => .markPort hu₁
  exact .ite (.beginRevision (.dropMove (.routerLost (.modSlot hu)))) (.leaveService hu)

theorem KeptOut.routerFailure {p : PhysId} (h : Kept r s) : KeptOut r (execRouterFailure p s) := .ite (.next (.routerFails h)) (.next h)

/-! ## SMD_CMD (R444) -/

theorem Kept.unfence {p : ℕ} (h : Kept r s) : Kept r (s.unfence p) :=
  .ite (.smdDone (.journal (.modSlot h))) (.ite (.smdDone (.commitU (.journal (.modSlot h)))) (.beginRevision (.journal (.modSlot h))))

theorem Kept.condFence {p : ℕ} (h : Kept r s) : Kept r (s.condFence p) := by
  unfold State.condFence
  extract_lets x u u₁
  have hu : Kept r u := .setSlot h
  have hu₁ : Kept r u₁ := .foldl hu fun _ _ hu₂ => .journal hu₂
  exact .smdDone hu₁

theorem Kept.slotOp {op p : ℕ} (h : Kept r s) : Kept r (s.slotOp op p) := by
  unfold State.slotOp
  extract_lets r' src
  split
  · exact .testDue h
  · exact .leaveService h
  · exact .unfence h
  · exact .ite (.smdDone (.retire h)) (.leaveService h)
  · exact .condFence h
  · exact .ite (.smdDone h) (.planMove h)
  · refine .ite (.smdDone (.abandonTest h)) ?_
    split
    · exact .setRow (.testRecord h)
    · exact h

theorem Kept.smdGo {op p : ℕ} (h : Kept r s) : Kept r (s.smdGo op p) := by
  unfold State.smdGo
  exact .ite (.smdDone (.setReg h)) (.slotOp (.setReg h))

theorem Kept.countCall {refused : Bool} (h : Kept r s) : Kept r (s.countCall refused) := .ite (.orReg (.count h)) (.count h)

theorem Kept.smdCmd {who : Initiator} {op p : ℕ} (h : Kept r s) : Kept r (s.smdCmd who op p) := by
  unfold State.smdCmd
  extract_lets key
  split
  · exact .smdGo h
  · exact .smdGo (.countCall h)
  · exact .gate h (fun _ hu => hu)

theorem KeptOut.smdTest {who : Initiator} {p : PhysId} (h : Kept r s) : KeptOut r (execSmdTest who p s) := .next (.smdCmd h)

theorem KeptOut.smdFence {who : Initiator} {p : PhysId} (h : Kept r s) : KeptOut r (execSmdFence who p s) := .next (.smdCmd h)

theorem KeptOut.smdUnfence {who : Initiator} {p : PhysId} (h : Kept r s) : KeptOut r (execSmdUnfence who p s) := .next (.smdCmd h)

theorem KeptOut.smdCinder {who : Initiator} {p : PhysId} (h : Kept r s) : KeptOut r (execSmdCinder who p s) := .next (.smdCmd h)

theorem KeptOut.smdCond {who : Initiator} {p : PhysId} (h : Kept r s) : KeptOut r (execSmdCond who p s) := .next (.smdCmd h)

theorem KeptOut.moveResting {who : Initiator} {p : PhysId} (h : Kept r s) : KeptOut r (execMoveResting who p s) := .next (.smdCmd h)

theorem KeptOut.smdAbandon {who : Initiator} {p : PhysId} (h : Kept r s) : KeptOut r (execSmdAbandon who p s) := .next (.smdCmd h)

/-! ## Checkpoints (R435, R436) -/

theorem KeptTry.ember {n t : ℕ} {f : InsnBits} {stage : ℕ} (h : Kept r s) : KeptTry r (tryEmber n t f stage s) := by
  unfold tryEmber
  refine .ite (.wait h) (.ite (.done h) (.ite (.wait h) ?_))
  split
  · exact .wait h
  · exact .wait h
  · exact .stop (.freezeTask h)

theorem KeptOut.ember {c : CoreId} {t : TaskSlot} {f : InsnBits} (h : Kept r s) : KeptOut r (execEmber c t f s) :=
  .next (.issue h (fun _ _ _ hu => .ember hu))

theorem Kept.writeEmber {n t h' : ℕ} {p : EmberPoint} (h : Kept r s) : Kept r (s.writeEmber n t h' p) := by
  unfold State.writeEmber
  extract_lets k c base hdr u u₁ u₂
  have hu : Kept r u := .foldl h fun _ _ hu₃ => .store (.noteCe hu₃)
  have hu₁ : Kept r u₁ := .foldl hu fun _ _ hu₃ => .store hu₃
  have hu₂ : Kept r u₂ := by
    refine .foldl hu₁ fun u₃ x hu₃ => ?_
    split
    · exact .store hu₃
    · exact hu₃
  exact .store hu₂

theorem Kept.emberFails {n t : ℕ} (h : Kept r s) : Kept r (s.emberFails n t) := .record (.smdStat h)

theorem KeptOut.emberWriteComplete {c : CoreId} {t : TaskSlot} {ok : Bool} (h : Kept r s) : KeptOut r (execEmberWriteComplete c t ok s) := by
  unfold execEmberWriteComplete
  extract_lets k half
  split
  · refine .ite (.next h) ?_
    extract_lets p
    split
    · exact .next (.finish (.done (.emberFails (.copyUe h))))
    · split
      next u e₃ =>
        have hu : Kept r u := .snd (.snooped h) e₃
        refine .ite (.next hu) ?_
        extract_lets u₁
        have hu₁ : Kept r u₁ := .ite (.modTask (.writeEmber hu)) (.emberFails hu)
        exact .next (.finish (.done hu₁))
  · exact .next h

/-! ## Recovery of jobs (R437, R438) -/

theorem Kept.endFrozen {j : Job} (h : Kept r s) : Kept r (s.endFrozen j) := .foldl (.smdStat h) fun _ _ hu => .ite (.endTask (.setTask hu)) hu

theorem Kept.retractTask {n t : ℕ} (h : Kept r s) : Kept r (s.retractTask n t) := by
  unfold State.retractTask
  refine .foldl h fun u x hu => ?_
  split
  · exact .ite (.retractWin hu) hu
  · exact hu

theorem Kept.loseRange {a len : ℕ} (h : Kept r s) : Kept r (s.loseRange a len) := .wipe h

theorem Kept.restoreRegions {n t base : ℕ} {carried : List Region} (h : Kept r s) : Kept r (s.restoreRegions n t base carried) :=
  .foldl h fun _ _ hu => .ite (.dropRefs (.store (.zeroRange hu))) (.loseRange hu)

theorem Kept.restoreUnits {n t base : ℕ} {b : Bytes} (h : Kept r s) : Kept r (s.restoreUnits n t base b) := .setReg (.modCore h)

theorem Kept.restoreTask {n t k : ℕ} (h : Kept r s) : Kept r (s.restoreTask n t k) := by
  unfold State.restoreTask
  extract_lets h' base i
  split
  · exact h
  · extract_lets u u₁ u₂
    have hu : Kept r u := .restoreRegions h
    have hu₁ : Kept r u₁ := .modTask (.restoreUnits hu)
    have hu₂ : Kept r u₂ := .coreStat hu₁
    exact .ite (.endTask (.modTask hu₂)) hu₁

theorem KeptOut.jobRecovery {jobTag : BitVec 32} (h : Kept r s) : KeptOut r (execJobRecovery jobTag s) := by
  unfold execJobRecovery
  split
  · exact .next h
  · split
    next u e₁ =>
      have hu : Kept r u := .snd (.snoopedAll h) e₁
      refine .ite (.next h) (.ite (.next hu) ?_)
      extract_lets u₁ bad u₂ u₃ u₄ u₅
      have hu₁ : Kept r u₁ := hu
      have hu₂ : Kept r u₂ := .foldl hu₁ fun _ _ hu₆ => .freezeTask hu₆
      have hu₃ : Kept r u₃ := .foldl hu₂ fun _ _ hu₆ => .ite (.stopLattice (.setReg hu₆)) hu₆
      have hu₄ : Kept r u₄ := .foldl hu₃ fun _ _ hu₆ => .discardOps hu₆
      have hu₅ : Kept r u₅ := .foldl hu₄ fun _ _ hu₆ => .retractTask hu₆
      refine .ite (.next (.endFrozen hu₅)) ?_
      split
      · exact .next (.endFrozen hu₅)
      · extract_lets u₆ u₇
        have hu₆ : Kept r u₆ := .foldl hu₅ fun _ _ hu₈ => .restoreTask hu₈
        have hu₇ : Kept r u₇ := .count hu₆
        exact .next (.modJob hu₇)

theorem Kept.restartLattice {n t : ℕ} (h : Kept r s) : Kept r (s.restartLattice n t) :=
  .foldl (.modCore (.setReg h)) fun _ _ hu => .switchOut (.switchIn hu)

theorem Kept.resumeTask {n t : ℕ} (h : Kept r s) : Kept r (s.resumeTask n t) := by
  unfold State.resumeTask
  refine .ite h ?_
  extract_lets i u u₁ u₂
  have hu : Kept r u := .raiseMasks h
  have hu₁ : Kept r u₁ := by
    unfold u₁
    split
    · exact .applyQcfg hu
    · exact hu
  have hu₂ : Kept r u₂ := .ite (.restartLattice hu₁) hu₁
  exact .setPc (.modTask hu₂)

theorem KeptOut.recoveryResume {jobTag : BitVec 32} (h : Kept r s) : KeptOut r (execRecoveryResume jobTag s) := by
  unfold execRecoveryResume
  split
  · exact .next h
  · refine .ite (.next h) ?_
    extract_lets u
    have hu : Kept r u := .foldl h fun _ _ hu₁ => .resumeTask hu₁
    exact .next (.setJob (.smdStat hu))

/-! ## Work rings and host lines that a write may meet (spec/11 R359, R366) -/

theorem Kept.setRing {r' : ℕ} {x : Ring} (h : Kept r s) : Kept r (s.setRing r' x) := .update h

theorem Kept.markLine {a : ℕ} (h : Kept r s) : Kept r (s.markLine a) := .foldl h fun _ _ hu => .ite (.setRing hu) hu

theorem Kept.memAnswer {x : MemAns} (h : Kept r s) : Kept r (s.memAnswer x) := .ite (.orReg (.update h)) (.update h)

/-! ## Requests at a ring (R279, R283, R288 to R295, R513) -/

theorem Kept.countLines {a len : ℕ} {write : Bool} (h : Kept r s) : Kept r (s.countLines a len write) := .ite (.dieEvent h) (.dieEvent h)

theorem Kept.serveRead {p : Packet} {errs : LineErrs} (h : Kept r s) : Kept r (s.serveRead p errs) := by
  unfold State.serveRead
  extract_lets a
  split
  next e => exact .respond (.snd (.lineRead (.countLines (.noteErrs h))) e)
  next e => exact .respond (.snd (.lineRead (.countLines (.noteErrs h))) e)

theorem Kept.serveWrite {p : Packet} (h : Kept r s) : Kept r (s.serveWrite p) := .respond (.store (.countLines h))

theorem Kept.hostWrite {line o : ℕ} {b : Bytes} (h : Kept r s) : Kept r (s.hostWrite line o b) := .memAnswer (.markLine (.store (.countLines h)))

theorem Kept.holdWrite {i : ℕ} {h' : HeldWrite} (h : Kept r s) : Kept r (s.holdWrite i h') := by
  unfold State.holdWrite
  refine .foldl h fun u x hu => ?_
  extract_lets a
  split
  · exact .ite (.setAgent (.count hu)) hu
  · exact hu

theorem Kept.applyHeld {x : HeldWrite} (h : Kept r s) : Kept r (s.applyHeld x) := by
  unfold State.applyHeld
  split
  · exact .serveWrite h
  · exact .hostWrite h
  · exact h
  · exact .store h

theorem Kept.ringServe {r' : RingReq} (h : Kept r s) : Kept r (s.ringServe r') := by
  unfold State.ringServe
  refine .ite (.respond (.take h)) ?_
  extract_lets write
  split
  next u e =>
    have hu : Kept r u := .snd (.snooped (.take h)) e
    refine .ite h (.ite (.update hu) ?_)
    extract_lets u₁ name u₂ dead
    have hu₁ : Kept r u₁ := hu
    have hu₂ : Kept r u₂ := by
      unfold u₂
      clear_value name
      split
      · exact .accessS hu₁
      · exact hu₁
    refine .ite (.respond hu₂) (.ite ?_ ?_)
    · clear_value name
      split
      · exact .ite (.holdWrite hu₂) (.serveWrite hu₂)
      · exact .serveWrite hu₂
    · split
      · exact .serveRead hu₂
      next e₁ => exact (.ofHeld (.servePlan hu₂) e₁)
      · exact .update hu

theorem KeptOut.hearthAccess {req : RingReq} (h : Kept r s) : KeptOut r (execHearthAccess req s) := .ite (.next (.ringServe h)) (.next h)

theorem KeptOut.peatAccess {req : RingReq} (h : Kept r s) : KeptOut r (execPeatAccess req s) := .ite (.next (.ringServe h)) (.next h)

theorem KeptOut.noticeAcknowledged {e' : SealEnd} {k : ℕ} (h : Kept r s) : KeptOut r (execNoticeAcknowledged e' k s) := by
  unfold execNoticeAcknowledged
  split
  · exact .next h
  · split
    · exact .next h
    next u e₁ =>
      have hu : Kept r u := .ofSome (.popRead h) e₁
      refine .ite ?_ (.next (.serveRead hu))
      split
      · exact .next (.serveSpadRead hu)
      · exact .next (.respond hu)

/-! ## Heat and swaps (R293, R294) -/

theorem Kept.sweepMap {d : ℕ} (h : Kept r s) : Kept r (s.sweepMap d) := by
  unfold State.sweepMap
  refine .foldl h fun u x hu => ?_
  extract_lets i
  split
  · exact .mapUe hu
  · exact hu

theorem KeptOut.heatDecayPeriod {d : DieId} (h : Kept r s) : KeptOut r (execHeatDecayPeriod d s) := by
  unfold execHeatDecayPeriod
  refine .ite (.next h) ?_
  extract_lets hot old src u u₁ u₂ cold a new
  have hu : Kept r u := .update h
  have hu₁ : Kept r u₁ := .sweepMap hu
  have hu₂ : Kept r u₂ := .foldl hu₁ fun _ _ hu₃ => .setMapEntry hu₃
  exact .next (.setAgent hu₂)

theorem KeptOut.swapStart {d v : DieId} (h : Kept r s) : KeptOut r (execSwapStart d v s) := by
  unfold execSwapStart
  refine .ite (.next h) ?_
  split
  · exact .next h
  · refine .ite (.next (.setAgent h)) ?_
    split
    · exact .ite (.next (.count h)) (.next h)
    · refine .ite (.next (.setAgent h)) (.ite (.next h) ?_)
      split
      next e₂ =>
        split
        next u₁ e₃ =>
          have hu₁ : Kept r u₁ := .snd (.snooped (.snd (.snooped h) e₂)) e₃
          refine .ite (.next hu₁) (.next ?_)
          extract_lets src src₁ src₂ src₃
          have hsrc₂ : Kept r src₂ := .setMoving (.setMoving (.setAgent (.setAgent hu₁)))
          exact .update hsrc₂

theorem Kept.swapFrames {a b : ℕ} (h : Kept r s) : Kept r (s.swapFrames a b) :=
  ⟨h.pending, fun hm => memWf_swapFrames s a b (h.mem hm), h.otp⟩

theorem Kept.exchange {a b : ℕ} (h : Kept r s) : Kept r (s.exchange a b) := by
  unfold State.exchange
  extract_lets fa fb u u₁ u₂ u₃
  have hu : Kept r u := .swapFrames h
  have hu₁ : Kept r u₁ := .setMapEntry hu
  have hu₂ : Kept r u₂ := .setMapEntry hu₁
  have hu₃ : Kept r u₃ := .setMapEntry hu₂
  exact .setMapEntry hu₃

theorem Kept.promoted {b : ℕ} (h : Kept r s) : Kept r (s.promoted b) := .foldl h fun _ _ hu => .setAgent hu

theorem KeptOut.swapComplete {x : AgentRun} (h : Kept r s) : KeptOut r (execSwapComplete x s) := by
  unfold execSwapComplete
  split
  · split
    · exact .next h
    · refine .ite (.next h) ?_
      extract_lets u fa fb badA badB u₁ u₂ u₃ u₄ u₅ u₆ src u₇
      have hu : Kept r u := .noteErrs (.noteErrs h)
      have hu₁ : Kept r u₁ := .foldl hu fun _ _ hu₈ => .lineUe hu₈
      have hu₂ : Kept r u₂ := .foldl hu₁ fun _ _ hu₈ => .ite (.update (.setPin hu₈)) hu₈
      have hu₃ : Kept r u₃ := .ite (.record (.tierStat hu₂)) (.promoted (.dieEvent (.count (.exchange hu₁))))
      have hu₄ : Kept r u₄ := .setMoving (.setMoving hu₃)
      have hu₅ : Kept r u₅ := .ite (.setPin hu₄) hu₄
      have hu₆ : Kept r u₆ := .ite (.setPin hu₅) hu₅
      have hu₇ : Kept r u₇ := .setAgent hu₆
      exact .next (.foldl hu₇ fun _ _ hu₈ => .applyHeld hu₈)

theorem KeptOut.tierPolicyWrite {who : Initiator} {v : Word} (h : Kept r s) : KeptOut r (execTierPolicyWrite who v s) :=
  .next (.gateReg h (fun _ hu => .ite (.regWrite hu) (.tierStat hu)))

/-! ## Health of stacks and channels (R280, R282, R284, R285) -/

theorem KeptOut.hbmTempReport {k : StackId} {celsius : BitVec 8} {x : TempReport} (h : Kept r s) : KeptOut r (execHbmTempReport k celsius x s) := by
  unfold execHbmTempReport
  split
  · refine .ite ?_ (.ite (.next (.setReg (.update (.setReg (.count (.count h)))))) (.next (.setReg (.count (.count h)))))
    extract_lets src u u₁
    have hu : Kept r u := .update (.setReg (.count (.count h)))
    have hu₁ : Kept r u₁ := .orReg (.setReg hu)
    exact .next (.orReg hu₁)

theorem KeptOut.patrolScrubPass {ch : ChanId} {corrected : BitVec 32} {bad : List ℕ} {rowFull : Option ℕ} (h : Kept r s) :
    KeptOut r (execPatrolScrubPass ch corrected bad rowFull s) := by
  unfold execPatrolScrubPass
  refine .ite (.next h) ?_
  extract_lets new u u₁ u₂ u₃
  have hu : Kept r u := .update h
  have hu₁ : Kept r u₁ := .ite hu (.orReg (.count hu))
  have hu₂ : Kept r u₂ := .foldl hu₁ fun _ _ hu₄ => .pprRequest (.peatUe hu₄)
  have hu₃ : Kept r u₃ := by
    unfold u₃
    split
    · exact .ite (.pprRequest hu₂) hu₂
    · exact hu₂
  exact .next (.orReg (.setRegField hu₃))

theorem KeptOut.pprComplete {ch : ChanId} {ok : Bool} (h : Kept r s) : KeptOut r (execPprComplete ch ok s) := .ite (.next (.setReg h)) (.next h)

theorem KeptOut.peatChannelFailure {ch : ChanId} (h : Kept r s) : KeptOut r (execPeatChannelFailure ch s) := .ite (.next (.update h)) (.next h)

/-! ## Descriptors (R296) -/

theorem KeptTry.tpref {n t : ℕ} {f : InsnBits} (h : Kept r s) : KeptTry r (tryTpref n t f s) :=
  .acc (.block h) h (fun _ hu _ => .ite (.stop (.endTask hu)) (.acc (.block hu) hu (fun _ hu₁ _ => .ite (.wait hu₁) (.done (.setAgent hu₁)))))

theorem KeptOut.tpref {c : CoreId} {t : TaskSlot} {f : InsnBits} (h : Kept r s) : KeptOut r (execTpref c t f s) :=
  .next (.issue h (fun _ _ _ hu => .tpref hu))

/-! ## Reads and writes of an agent -/

theorem Kept.agentRead {a len : ℕ} (h : Kept r s) : Kept r (s.agentRead a len).2 := by
  unfold State.agentRead
  refine .iteSnd (.pair h) ?_
  split
  · exact .iteSnd (.pair h) (.iteSnd (.pair (.noteUe h)) (.pair h))
  · exact .ringRead h
  · exact .ringRead h
  · exact .pair h

theorem Kept.agentStore {a : ℕ} {b : Bytes} (h : Kept r s) : Kept r (s.agentStore a b).2 := by
  unfold State.agentStore
  extract_lets u
  have hu : Kept r u := .foldl h fun _ _ hu₁ => .accessS hu₁
  refine .iteSnd (.pair hu) ?_
  split
  · exact .pair (.holdWrite hu)
  · exact .pair (.store hu)

theorem Kept.agentWrite {d : ℕ} {a : Word} {off : ℕ} {b : Bytes} {adv : ℕ} (h : Kept r s) : Kept r (s.agentWrite d a off b adv).2 := by
  unfold State.agentWrite
  extract_lets region x g tag p n l
  refine .iteSnd (.pair (.inject (.setAgent h))) (.iteSnd (.iteSnd (.pair h) ?_) (.iteSnd (.pair h) ?_))
  · split
    · exact .pair h
    · refine .iteSnd (.pair (.coreStat h)) ?_
      extract_lets u
      have hu : Kept r u := .pieceStore h
      refine .iteSnd (.pair hu) ?_
      split
      · exact .pair (.setCore hu)
      · exact .pair hu
  · split
    · exact .iteSnd (.pair (.store h)) (.pair (.coreStat h))
    · exact .agentStore h
    · exact .agentStore h
    · exact .pair h

/-! ## Status records (R298) -/

theorem Kept.putStatus {d : ℕ} {x : TierDesc} {kind : ℕ} {bits : List ℕ} (h : Kept r s) : Kept r (s.putStatus d x kind bits) := by
  unfold State.putStatus
  refine .ite h ?_
  extract_lets a b
  split
  next e => exact .tierStat (.snd (.agentWrite h) e)
  next e => exact (.snd (.agentWrite h) e)
  next e => exact .setAgent (.snd (.agentWrite h) e)

theorem Kept.setDesc {d k : ℕ} {x : Option TierDesc} (h : Kept r s) : Kept r (s.setDesc d k x) := .setAgent h

theorem Kept.endDesc {d k : ℕ} {x : TierDesc} (h : Kept r s) : Kept r (s.endDesc d k x) := .setDesc (.putStatus h)

/-! ## Opening a descriptor (R296, R297) -/

theorem Kept.descReady {x : TierDesc} {more : List (ℕ × ℕ × Bool)} (h : Kept r s) : Kept r (s.descReady x more).2 := by
  unfold State.descReady
  extract_lets at_
  exact .iteSnd (.pair h) (.snoopedAll h)

theorem Kept.readList {x : TierDesc} {errs : LineErrs} (h : Kept r s) : Kept r (s.readList x errs).2.2 := by
  unfold State.readList
  refine .iteThird (.triple (.tierStat h)) ?_
  split
  next e => exact .triple (.snd (.agentRead (.noteErrs h)) e)
  next u e =>
    have hu : Kept r u := .snd (.agentRead (.noteErrs h)) e
    extract_lets es
    exact .iteThird (.triple hu) (.triple (.tierStat hu))

theorem Kept.actOn {act : State → ℕ → State} {i : ℕ} (h : Kept r s) (h₁ : ∀ u, Kept r u → ∀ y₁, Kept r (act u y₁)) : Kept r (s.actOn act i) :=
  .ite (.lookup h) (h₁ _ (.lookup h) _)

theorem Kept.runDesc {d op : ℕ} {errs : LineErrs} {awaits : State → ℕ → Bool} {act : State → ℕ → State} (h : Kept r s)
    (h₁ : ∀ u, Kept r u → ∀ y₁, Kept r (act u y₁)) :
    Kept r (s.runDesc d op errs awaits act) := by
  unfold State.runDesc
  refine .ite h ?_
  split
  · exact h
  · split
    next u e₁ =>
      have hu : Kept r u := .snd (.descReady h) e₁
      refine .ite hu ?_
      split
      next u₁ e₂ =>
        have hu₁ : Kept r u₁ := .third (.readList hu) e₂
        extract_lets names bad u₂ wait u₃ x₄
        have hu₂ : Kept r u₂ := .ite hu₁ (.tierStat hu₁)
        have hu₃ : Kept r u₃ := .foldl hu₂ fun _ _ hu₄ => .actOn hu₄ (fun _ hu₅ _ => h₁ _ hu₅ _)
        exact .ite (.endDesc hu₃) (.setDesc hu₃)
      next e₂ => exact .endDesc (.third (.readList hu) e₂)

theorem Kept.prefetchName {i : ℕ} (h : Kept r s) : Kept r (s.prefetchName i) := .ite h (.promoteFirst (.setHeat h))

theorem KeptOut.prefetch {x : AgentRun} (h : Kept r s) : KeptOut r (execPrefetch x s) := by
  unfold execPrefetch
  split
  · split
    · exact .next (.endDesc h)
    · exact .next (.runDesc h (fun _ hu _ => .prefetchName hu))

theorem Kept.coolName {i : ℕ} (h : Kept r s) : Kept r (s.coolName i) := .ite (.setAgent (.setHeat h)) (.setHeat h)

theorem Kept.pinName {i : ℕ} (h : Kept r s) : Kept r (s.pinName i) := by
  unfold State.pinName
  refine .ite (.foldl h fun u x hu => ?_) (.setPin h)
  extract_lets a
  split
  · exact .setAgent hu
  · exact hu

theorem Kept.unpinName {i : ℕ} (h : Kept r s) : Kept r (s.unpinName i) := by
  unfold State.unpinName
  refine .ite h (.foldl (.setPin h) fun u x hu => ?_)
  extract_lets a
  split
  · exact .setAgent hu
  · exact hu

theorem KeptOut.cool {x : AgentRun} (h : Kept r s) : KeptOut r (execCool x s) := by
  unfold execCool
  split
  · exact .next (.runDesc h (fun _ hu _ => .coolName hu))

theorem KeptOut.pin {x : AgentRun} (h : Kept r s) : KeptOut r (execPin x s) := by
  unfold execPin
  split
  · split
    · exact .next (.endDesc h)
    · exact .next (.runDesc h (fun _ hu _ => .pinName hu))

theorem KeptOut.unpin {x : AgentRun} (h : Kept r s) : KeptOut r (execUnpin x s) := by
  unfold execUnpin
  split
  · exact .next (.runDesc h (fun _ hu _ => .unpinName hu))

/-! ## Scans (R299 to R307) -/

theorem KeptOut.scan {x : AgentRun} (h : Kept r s) : KeptOut r (execScan x s) := by
  unfold execScan
  split
  next x _ _ _ =>
    refine .ite (.next h) ?_
    split
    · exact .next h
    · extract_lets stop
      have hstop : ∀ u, Kept r u → ∀ x, Kept r (stop u x) := fun _ hu _ => .count (.endDesc hu)
      split
      next u e₁ =>
        have hu : Kept r u := .snd (.descReady h) e₁
        refine .ite (.next hu) ?_
        split
        next u₁ e₂ =>
          have hu₁ : Kept r u₁ := .third (.readList hu) e₂
          refine .ite (.next (hstop _ (.tierStat hu₁) _)) (.ite (.next hu) ?_)
          split
          next e₃ => exact .next (hstop _ (.snd (.agentRead (.noteErrs hu₁)) e₃) _)
          next u₂ e₃ =>
            have hu₂ : Kept r u₂ := .snd (.agentRead (.noteErrs hu₁)) e₃
            extract_lets bad u₃ u₄ mk x₇
            have hu₃ : Kept r u₃ := .ite hu₂ (.tierStat hu₂)
            have hu₄ : Kept r u₄ := .foldl hu₃ fun _ _ hu₅ => .lookup hu₅
            exact .next (.setDesc (.putStatus hu₄))
        next e₂ => exact .next (hstop _ (.third (.readList hu) e₂) _)

theorem Kept.scanRow {x : TierDesc} {blk : Bytes} {t pos r' : ℕ} (h : Kept r s) : Kept r (s.scanRow x blk t pos r').2 := by
  unfold State.scanRow
  extract_lets d xs nans w o
  split
  · exact .pair h
  · exact .pair h
  · split
    next e₁ =>
      split
      · split
        · extract_lets ws sum vs all
          exact .pair (.snd (.anchorOf h) e₁)

theorem Kept.scanRows {x : TierDesc} {blk : Bytes} {t pos k : ℕ} (h : Kept r s) : Kept r (s.scanRows x blk t pos k).2 := by
  induction k generalizing s with
  | zero =>
    rw [State.scanRows]
    exact .pair h
  | succ k ih =>
    rw [State.scanRows]
    split
    next e =>
      split
      next e₁ => exact .pair (.snd (.scanRow (.snd (ih h) e)) e₁)

theorem Kept.descWrite {d : ℕ} {x : TierDesc} {entry off : ℕ} {b : Bytes} {adv : ℕ} (h : Kept r s) : Kept r (s.descWrite d x entry off b adv).2 := by
  unfold State.descWrite
  split
  next e => exact .pair (.snd (.agentWrite h) e)
  next e => exact .pair (.snd (.agentWrite h) e)
  next e => exact .pair (.snd (.agentWrite h) e)

theorem Kept.putRecords {d : ℕ} {x : TierDesc} {ch b : ℕ} {ps : List Partial} (h : Kept r s) : Kept r (s.putRecords d x ch b ps).2 := by
  unfold State.putRecords
  extract_lets x₁
  exact .iteSnd (.pair h) (.foldlSnd (.pair h) fun _ _ hq => .descWrite hq)

theorem Kept.scanUnitOut {k : ℕ} (h : Kept r s) : Kept r (s.scanUnitOut k) := by
  unfold State.scanUnitOut
  extract_lets src u u₁ u₂
  have hu : Kept r u := .update h
  have hu₁ : Kept r u₁ := .setReg hu
  have hu₂ : Kept r u₂ := .tierStat (.orReg hu₁)
  exact .record hu₂

theorem KeptOut.scanBlock {d : DieId} {k : Fin 64} {b : Fin 4096} {mismatches : Fin 3} {errs : LineErrs} (h : Kept r s) :
    KeptOut r (execScanBlock d k b mismatches errs s) := by
  unfold execScanBlock
  split
  · exact .next h
  · refine .ite (.next h) ?_
    split
    · extract_lets ch u states skip
      have hskip : ∀ u, Kept r u → Kept r (skip u) := fun _ hu₁ => .setDesc hu₁
      refine .ite (.next (hskip _ h)) (.ite (.next h) (.ite (.next (hskip _ h)) ?_))
      split
      next u₁ e₂ =>
        have hu₁ : Kept r u₁ := .snd (.descReady h) e₂
        refine .ite (.next hu₁) (.ite (.next (hskip _ (.scanUnitOut (.ite hu₁ (.count hu₁))))) ?_)
        extract_lets u₂ u₃
        have hu₂ : Kept r u₂ := .noteErrs (.ite hu₁ (.count hu₁))
        have hu₃ : Kept r u₃ := .dieEvent (.count hu₂)
        split
        next e₃ =>
          split
          next e₄ => exact .next (.setDesc (.snd (.putRecords (.snd (.ringRead hu₃) e₃)) e₄))
        next e₃ =>
          split
          next e₄ =>
            split
            next e₅ => exact .next (.setDesc (.snd (.putRecords (.snd (.scanRows (.snd (.ringRead hu₃) e₃)) e₄)) e₅))

theorem Kept.closeScan {d : ℕ} {x : TierDesc} (h : Kept r s) : Kept r (s.closeScan d x).2 := by
  unfold State.closeScan
  extract_lets x₁ out far
  split
  next u e =>
    have hu : Kept r u := .snd (.iteSnd (.foldlSnd (.pair h) fun _ _ hq => .descWrite hq) (.pair h)) e
    exact .iteSnd (.pair hu) (.iteSnd (.descWrite hu) (.iteSnd (.pair hu) (.descWrite hu)))

theorem KeptOut.scanDone {d : DieId} (h : Kept r s) : KeptOut r (execScanDone d s) := by
  unfold execScanDone
  split
  · exact .next h
  · split
    next u e₁ =>
      have hu : Kept r u := .snd (.descReady h) e₁
      refine .ite (.next hu) ?_
      split
      next u₁ e₂ =>
        have hu₁ : Kept r u₁ := .snd (.iteSnd (.pair hu) (.closeScan hu)) e₂
        exact .next (.ite (.count (.endDesc hu₁)) (.setDesc hu₁))

theorem Kept.agentAck {d : ℕ} {p : Packet} (h : Kept r s) : Kept r (s.agentAck d p) :=
  .ite (.ite (.setAgent h) (.tierStat (.setAgent h))) (.setAgent h)

end kept

end Sys2Proof.Machine
end

section
/-! PROOFS. What the operations of the span engine, the work rings, jobs and the snoop filter keep. -/

namespace Sys2Proof.Machine

open Sys2Proof.Claims

section kept
variable {r s : State}

/-! ## Ports -/

theorem Kept.setPort {p : ℕ} {x : SpanPort} (h : Kept r s) : Kept r (s.setPort p x) := .update h

theorem Kept.modPort {p : ℕ} {f : SpanPort → SpanPort} (h : Kept r s) : Kept r (s.modPort p f) := .setPort h

theorem Kept.rtlStat {p b : ℕ} (h : Kept r s) : Kept r (s.rtlStat p b) := .orReg h

theorem Kept.countFrame {p : ℕ} {sent : Bool} (h : Kept r s) : Kept r (s.countFrame p sent) := .ite (.count h) (.count h)

theorem Kept.crcDrop {p : ℕ} (h : Kept r s) : Kept r (s.crcDrop p) := .rtlStat (.count h)

theorem Kept.transitDrop (h : Kept r s) : Kept r (s.transitDrop) := .orReg (.count h)

theorem Kept.emitFrame {p : ℕ} {f : TxFrame} (h : Kept r s) : Kept r (s.emitFrame p f) := .countFrame (.modPort h)

theorem KeptIn.sendOne {p : ℕ} {rsp : Bool} (h : Kept r s) : KeptIn r (fun y => y) (s.sendOne p rsp) := by
  unfold State.sendOne
  extract_lets x v
  split
  · exact .none
  · extract_lets o n done sent
    have hdone : ∀ u, Kept r u → Kept r (done u) := fun _ hu => .dieEvent (.dieEvent hu)
    exact .ite .none (.ite (.ite .none (.some (hdone _ (.emitFrame (.setPort h))))) (.ite .none (.some (hdone _ (.emitFrame (.setPort h))))))

theorem Kept.sendQueue {p : ℕ} {rsp : Bool} {k : ℕ} (h : Kept r s) : Kept r (s.sendQueue p rsp k) := by
  induction k generalizing s with
  | zero =>
    rw [State.sendQueue]
    exact h
  | succ k ih =>
    rw [State.sendQueue]
    split
    next e => exact ih (.ofSome (.sendOne h) e)
    · exact h

theorem Kept.pumpPort {p : ℕ} (h : Kept r s) : Kept r (s.pumpPort p) := .sendQueue (.sendQueue h)

theorem Kept.queueFrame {p : ℕ} {f : OutFrame} (h : Kept r s) : Kept r (s.queueFrame p f) := .pumpPort (.modPort h)

theorem Kept.clearTx (h : Kept r s) : Kept r (s.clearTx) := .update h

/-! ## Spraying (R327) -/

theorem KeptIn.choosePort {p : SpanPkt} (h : Kept r s) : KeptIn r (fun y => y.2) (s.choosePort p) := .ofMap fun _ => .update h

theorem Kept.toSpanPort {die q : ℕ} {f : OutFrame} (h : Kept r s) : Kept r (s.toSpanPort die q f) := .ite (.queueFrame h) (.inject h)

/-! ## States of a port (R310 to R312) -/

theorem Kept.portOff {p st : ℕ} (h : Kept r s) : Kept r (s.portOff p st) := .setReg (.modPort h)

theorem Kept.portDown_ {p : ℕ} (h : Kept r s) : Kept r (s.portDown_ p) := .record (.rtlStat (.portOff h))

theorem KeptOut.rtlCfgWrite {who : Initiator} {p : PortId} {v : Word} (h : Kept r s) : KeptOut r (execRtlCfgWrite who p v s) :=
  .next (.gateReg h (fun _ hu => .ite (.rtlStat hu) (.ite (.portOff (.regWrite hu)) (.ite (.portOff (.regWrite hu)) (.regWrite hu)))))

theorem Kept.trained {p lanes : ℕ} (h : Kept r s) : Kept r (s.trained p lanes) := by
  unfold State.trained
  split
  · exact .portDown_ h
  · extract_lets u u₁
    have hu : Kept r u := .setReg (.modPort h)
    have hu₁ : Kept r u₁ := .ite hu (.record (.rtlStat hu))
    exact .pumpPort hu₁

theorem KeptOut.portTrainingComplete {p : PortId} {lanes : BitVec 4} (h : Kept r s) : KeptOut r (execPortTrainingComplete p lanes s) :=
  .ite (.next (.trained (.clearTx h))) (.next h)

theorem KeptOut.portUcwCheck {p : PortId} {corrected ucw : BitVec 32} (h : Kept r s) : KeptOut r (execPortUcwCheck p corrected ucw s) :=
  .ite (.next h) (.next (.ite (.portDown_ (.count (.count h))) (.count (.count h))))

/-! ## Frames of DIRECT mode (R319 to R322, R346) -/

theorem Kept.linkFrame {p : ℕ} {dev : BitVec 16} {rcvdReq freedReq rcvdRsp freedRsp : BitVec 32} (h : Kept r s) :
    Kept r (s.linkFrame p dev rcvdReq freedReq rcvdRsp freedRsp) :=
  .pumpPort (.setReg (.modPort h))

theorem Kept.timeFrame {p : ℕ} {ttx ptx prx : Word} (h : Kept r s) : Kept r (s.timeFrame p ttx ptx prx) := .setReg (.setReg (.setReg (.modPort h)))

theorem KeptOut.linkFrame {p : PortId} {dev : BitVec 16} {rcvdReq freedReq rcvdRsp freedRsp : BitVec 32} (h : Kept r s) :
    KeptOut r (execLinkFrame p dev rcvdReq freedReq rcvdRsp freedRsp s) :=
  .ite (.next (.linkFrame (.countFrame (.clearTx h)))) (.next h)

theorem KeptOut.timeFrame {p : PortId} {ttx ptx prx : Word} (h : Kept r s) : KeptOut r (execTimeFrame p ttx ptx prx s) :=
  .ite (.next (.timeFrame (.countFrame h))) (.next h)

theorem Kept.sendLink {p : ℕ} (h : Kept r s) : Kept r (s.sendLink p) := .emitFrame (.setPort h)

theorem Kept.tellFreed {p : ℕ} (h : Kept r s) : Kept r (s.tellFreed p) := .ite (.sendLink h) h

theorem KeptOut.timeFrameSend {p : PortId} (h : Kept r s) : KeptOut r (execTimeFrameSend p s) :=
  .ite (.next (.emitFrame (.setReg (.clearTx h)))) (.next h)

theorem KeptOut.frameVanished {p : PortId} {rsp : Bool} (h : Kept r s) : KeptOut r (execFrameVanished p rsp s) := by
  unfold execFrameVanished
  extract_lets x v
  split
  · exact .next h
  · exact .ite (.next h) (.next (.pumpPort (.count (.setPort (.clearTx h)))))

theorem KeptOut.transitTimeout {p : PortId} {rsp : Bool} (h : Kept r s) : KeptOut r (execTransitTimeout p rsp s) := by
  unfold execTransitTimeout
  extract_lets x v
  split
  · exact .next h
  · exact .next (.pumpPort (.transitDrop (.setPort (.clearTx h))))

theorem Kept.bufferFrame {p : ℕ} {rsp : Bool} {n : ℕ} {body : Bytes} (h : Kept r s) : Kept r (s.bufferFrame p rsp n body) := .modPort h

theorem Kept.freeFrame {p : ℕ} {f : RxFrame} (h : Kept r s) : Kept r (s.freeFrame p f) :=
  .ite (.emitFrame (.setPort (.modPort h))) (.tellFreed (.modPort h))

theorem Kept.discardFrame {p : ℕ} {rsp : Bool} {n : ℕ} (h : Kept r s) : Kept r (s.discardFrame p rsp n) := .tellFreed (.modPort h)

theorem Kept.seen {p : ℕ} {body : Bytes} (h : Kept r s) : Kept r (s.seen p body) := .dieEvent (.dieEvent h)

theorem Kept.takeIn {p : ℕ} {rsp : Bool} {n : ℕ} {body : Bytes} (h : Kept r s) : Kept r (s.takeIn p rsp n body) :=
  .ite (.bufferFrame h) (.inject (.bufferFrame h))

theorem Kept.freeLost (h : Kept r s) : Kept r (s.freeLost) := .foldl h fun _ _ hu => .foldl hu fun _ _ hu₁ => .freeFrame hu₁

theorem KeptOut.linkFrameSend {p : PortId} (h : Kept r s) : KeptOut r (execLinkFrameSend p s) :=
  .ite (.next (.sendLink (.freeLost (.clearTx h)))) (.next h)

theorem Kept.forward {body : Bytes} {ttl : ℕ} (h : Kept r s) : Kept r (s.forward body ttl) := by
  unfold State.forward
  refine .ite (.transitDrop h) ?_
  split
  next e => exact .queueFrame (.ofSome (.choosePort h) e)
  · exact .transitDrop h

theorem Kept.badFrame {p kind : ℕ} {vc : Bool} {n : ℕ} (h : Kept r s) : Kept r (s.badFrame p kind vc n) := .crcDrop (.ite h (.discardFrame h))

theorem KeptOut.directFrameReceive {p : PortId} {octets : Bytes} {wu : Unit} (h : Kept r s) : KeptOut r (execDirectFrameReceive p octets wu s) := by
  unfold execDirectFrameReceive
  refine .ite (.next h) (.ite (.next (.badFrame (.countFrame (.clearTx h))))
    (.ite ?_ (.ite (.next (.linkFrame (.countFrame (.clearTx h)))) (.ite (.next (.timeFrame (.countFrame (.clearTx h))))
    (.next (.badFrame (.countFrame (.clearTx h))))))))
  extract_lets u
  have hu : Kept r u := .seen (.countFrame (.clearTx h))
  exact .next (.ite (.takeIn hu) (.forward (.discardFrame hu)))

theorem Kept.holdOff {p : ℕ} {rsp : Bool} (h : Kept r s) : Kept r (s.holdOff p rsp) := .ite (.emitFrame (.setPort h)) h

theorem Kept.etherIn {p : ℕ} {octets : Bytes} (h : Kept r s) : Kept r (s.etherIn p octets) := by
  unfold State.etherIn
  refine .ite (.crcDrop h) ?_
  split
  · exact .ite (.setReg h) (.ite (.count h) (.ite (.rtlStat (.count h)) (.ite (.crcDrop h) (.holdOff (.takeIn (.seen h))))))

theorem KeptOut.ethernetFrameReceive {p : PortId} {body : EthBody} {wu : Unit} (h : Kept r s) : KeptOut r (execEthernetFrameReceive p body wu s) := by
  unfold execEthernetFrameReceive
  refine .ite (.next h) ?_
  extract_lets u ours
  have hu : Kept r u := .countFrame (.clearTx h)
  split
  · exact .next (.etherIn hu)
  · exact .next (.ite (.rtlStat (.modPort hu)) (.pumpPort (.modPort hu)))
  · exact .ite (.next (.count hu)) (.next (.ite (.rtlStat (.modPort hu)) (.pumpPort (.modPort hu))))

/-! ## Counters -/

theorem Kept.spanStat {b : ℕ} (h : Kept r s) : Kept r (s.spanStat b) := .orReg h

theorem Kept.spanLost {die n : ℕ} (h : Kept r s) : Kept r (s.spanLost die n) := .ite h (.dieEvent (.spanStat (.count h)))

theorem Kept.spanLate (h : Kept r s) : Kept r (s.spanLate) := .spanStat (.count h)

theorem Kept.spanNoSlot (h : Kept r s) : Kept r (s.spanNoSlot) := .spanStat (.count h)

theorem Kept.spanNoPort (h : Kept r s) : Kept r (s.spanNoPort) := .spanStat (.count h)

theorem Kept.winCount {w : ℕ} {ok : Bool} (h : Kept r s) : Kept r (s.winCount w ok) := .ite (.count h) (.spanStat (.count (.count h)))

/-! ## Send contexts and protection (R329, R330, R343) -/

theorem KeptIn.openSend {dev : BitVec 16} {prompt : Bool} (h : Kept r s) : KeptIn r (fun y => y.2) (s.openSend dev prompt) := by
  unfold State.openSend
  split
  · exact .some (.pair h)
  · extract_lets die sess c src
    exact .ite .none (.some (.pair (.update h)))

theorem KeptIn.numbered {dev : BitVec 16} {prompt : Bool} {ps : List SpanPkt} (h : Kept r s) :
    KeptIn r (fun y => y.2) (s.numbered dev prompt ps) := .map (.openSend h) fun _ hx => .update hx

theorem Kept.setSpanKey {i : ℕ} {k : SpanKey} (h : Kept r s) : Kept r (s.setSpanKey i k) := .update h

theorem Kept.protect {p : SpanPkt} (h : Kept r s) : Kept r (s.protect p).2 := by
  unfold State.protect
  extract_lets slot ph i k ctr h' c
  exact .iteSnd (.pair h) (.pair (.setSpanKey h))

theorem Kept.launch {xs : List SpanPkt} (h : Kept r s) : Kept r (s.launch xs) := by
  induction xs generalizing s with
  | nil =>
    rw [State.launch]
    exact h
  | cons x xs ih =>
    rw [State.launch]
    split
    next u e =>
      have hu : Kept r u := .snd (.protect h) e
      split
      next e₁ => exact ih (.toSpanPort (.ofSome (.choosePort hu) e₁))
      · exact ih (.spanNoPort hu)

/-! ## Responses (R318, R328, R348) -/

theorem Kept.sendResponses {dev : BitVec 16} {prompt : Bool} {ps : List SpanPkt} (h : Kept r s) : Kept r (s.sendResponses dev prompt ps) := by
  unfold State.sendResponses
  refine .ite (.foldl h fun _ _ hu => .spanNoPort hu) (.ite h ?_)
  split
  next e => exact .launch (.ofSome (.numbered h) e)
  · exact .update h

/-! ## Operations of this module (R335) -/

theorem Kept.opResponse {p : SpanPkt} (h : Kept r s) : Kept r (s.opResponse p) := by
  unfold State.opResponse
  split
  · exact .spanLate h
  · exact .update h

theorem Kept.answerRequest {r' : SpanPkt} {st : RespStatus} {data : Bytes} (h : Kept r s) : Kept r (s.answerRequest r' st data) := by
  unfold State.answerRequest
  split
  next u e =>
    have hu : Kept r u := .snd (.iteSnd (.fresh h) (.pair h)) e
    exact .ite (.foldl hu fun _ _ hu₁ => .opResponse hu₁) (.sendResponses hu)

/-! ## Windows (R336 to R341) -/

theorem Kept.spanDeliver {p : SpanPkt} {dst : Place} {verdict : Bool} {tier : ℕ} (h : Kept r s) : Kept r (s.spanDeliver p dst verdict tier) :=
  .ite (.update (.update h)) (.inject (.update h))

theorem Kept.releaseRequest {p : SpanPkt} (h : Kept r s) : Kept r (s.releaseRequest p) := by
  unfold State.releaseRequest
  refine .ite (.answerRequest h) (.ite (.ite (.answerRequest h) (.spanDeliver (.winCount h)))
    (.ite (.answerRequest (.winCount h)) (.ite ?_ (.ite (.answerRequest (.update (.winCount h))) ?_))))
  · split
    · exact .spanDeliver (.winCount h)
    · exact .answerRequest (.winCount h)
  · split
    · exact .spanDeliver (.winCount h)
    · exact .answerRequest (.winCount h)

theorem Kept.spanRelease {p : SpanPkt} (h : Kept r s) : Kept r (s.spanRelease p) := .ite (.opResponse h) (.releaseRequest h)

/-! ## Reorder contexts (R331, R332) -/

theorem Kept.modRecv {dev : BitVec 16} {prompt : Bool} {f : RecvCtx → RecvCtx} (h : Kept r s) : Kept r (s.modRecv dev prompt f) := .update h

theorem Kept.releaseHeld {dev : BitVec 16} {prompt : Bool} {k : ℕ} (h : Kept r s) : Kept r (s.releaseHeld dev prompt k) := by
  induction k generalizing s with
  | zero =>
    rw [State.releaseHeld]
    exact h
  | succ k ih =>
    rw [State.releaseHeld]
    split
    · exact h
    · split
      · exact h
      · exact ih (.spanRelease (.modRecv h))

theorem Kept.placeInOrder {p : SpanPkt} {c : RecvCtx} (h : Kept r s) : Kept r (s.placeInOrder p c) :=
  .ite (.releaseHeld (.spanRelease (.modRecv (.modRecv h))))
    (.ite (.ite (.spanLate (.modRecv h)) (.ite (.modRecv (.modRecv h)) (.spanNoSlot (.modRecv h))))
    (.ite (.spanNoSlot (.modRecv h)) (.spanLate (.modRecv h))))

theorem Kept.spanStale (h : Kept r s) : Kept r (s.spanStale) := .spanStat h

theorem Kept.reorder {p : SpanPkt} {newer loop : Bool} (h : Kept r s) : Kept r (s.reorder p newer loop) := by
  unfold State.reorder
  refine .ite (.spanStat h) ?_
  split
  · exact .ite (.spanStat (.count h)) (.ite (.spanStale h) (.placeInOrder (.update h)))
  · exact .ite (.placeInOrder h) (.ite (.placeInOrder (.modRecv (.spanLost h))) (.spanStale h))

theorem KeptIn.authenticate {p : SpanPkt} (h : Kept r s) : KeptIn r (fun y => y.2.2) (s.authenticate p) := by
  unfold State.authenticate
  split
  · exact .ite .none (.some (.triple h))
  · extract_lets slot i k newer
    exact .ite .none (.some (.triple (.ite (.setSpanKey h) h)))

theorem KeptIn.takeFrame {body : Bytes} (h : Kept r s) : KeptIn r (fun y => y) (s.takeFrame body) := by
  unfold State.takeFrame
  extract_lets d held
  split
  · exact .ofMap fun _ => .freeFrame h
  · split
    · extract_lets v
      have hv : Kept r v := .take h
      refine .some (show Kept r _ from ?_)
      split
      · exact .freeFrame hv
      · exact hv
    · exact .none

theorem KeptOut.spanPacketArrive {body : Bytes} (h : Kept r s) : KeptOut r (execSpanPacketArrive body s) := by
  unfold execSpanPacketArrive
  extract_lets pkt
  split
  · exact .next h
  next u e =>
    have hu : Kept r u := .ofSome (.ite (.takeFrame (.freeLost (.clearTx h))) .none) e
    refine .ite (.next (.spanStat (.count hu))) ?_
    split
    · exact .next (.record (.spanStat (.count hu)))
    next e₁ => exact .next (.reorder (.ofSome (.authenticate hu) e₁))

theorem KeptOut.reorderGapExpire {dev : BitVec 16} {prompt : Bool} (h : Kept r s) : KeptOut r (execReorderGapExpire dev prompt s) := by
  unfold execReorderGapExpire
  split
  · exact .next h
  · extract_lets d least
    clear_value least
    split
    · exact .next h
    · refine .ite (.next h) ?_
      extract_lets u
      have hu : Kept r u := .modRecv (.spanLost (.clearTx h))
      exact .next (.releaseHeld hu)

theorem Kept.sendOwed (h : Kept r s) : Kept r (s.sendOwed) := .foldl (.update h) fun _ _ hu => .sendResponses hu

theorem KeptOut.sendContextEvict {dev : BitVec 16} {prompt : Bool} (h : Kept r s) : KeptOut r (execSendContextEvict dev prompt s) := by
  unfold execSendContextEvict
  split
  · exact .next h
  · exact .ite (.next h) (.next (.sendOwed (.update (.clearTx h))))

theorem KeptOut.reorderContextEvict {dev : BitVec 16} {prompt : Bool} (h : Kept r s) : KeptOut r (execReorderContextEvict dev prompt s) := by
  unfold execReorderContextEvict
  split
  · exact .next h
  · exact .ite (.next h) (.next (.update h))

theorem KeptOut.spanFenceRelease {dev : BitVec 16} {prompt : Bool} (h : Kept r s) : KeptOut r (execSpanFenceRelease dev prompt s) := by
  unfold execSpanFenceRelease
  split
  · exact .ite (.next h) (.next (.inject (.modRecv h)))
  · exact .next h

/-! ## Requests of this module (R313 to R318, R328, R335) -/

theorem Kept.spanRequest {p : Packet} {win : BitVec 12} {wgen : BitVec 16} (h : Kept r s) : Kept r (s.spanRequest p win wgen) := by
  unfold State.spanRequest
  refine .ite h (.ite (.respond (.spanStat (.take h))) (.ite (.respond (.spanNoPort (.take h))) (.ite (.respond (.take h)) ?_)))
  extract_lets tag
  split
  · exact h
  next u e =>
    have hu : Kept r u := .ofSome (.numbered h) e
    exact .ite (.foldl (.update (.take hu)) fun _ _ hu₁ => .reorder hu₁) (.launch (.update (.take hu)))

theorem Kept.spanReturn {p : Packet} (h : Kept r s) : Kept r (s.spanReturn p) := by
  unfold State.spanReturn
  split
  · exact .ite h (.ite (.agentAck (.take h)) (.take h))
  · exact .answerRequest (.update (.take h))

theorem Kept.fromEngine {p : Packet} (h : Kept r s) : Kept r (s.fromEngine p) := .ite h (.queueFrame (.take h))

theorem KeptOut.spanRequest {pkt : Packet} {win : BitVec 12} {wgen : BitVec 16} (h : Kept r s) : KeptOut r (execSpanRequest pkt win wgen s) := by
  unfold execSpanRequest
  split
  · exact .next h
  · exact .next h
  · exact .ite (.next (.clearTx h)) (.ite (.next (.spanReturn (.clearTx h))) (.ite (.next (.fromEngine (.clearTx h)))
      (.ite (.next (.spanRequest (.clearTx h))) (.next (.clearTx h)))))

theorem KeptOut.spanOpComplete {tag : BitVec 32} (h : Kept r s) : KeptOut r (execSpanOpComplete tag s) := by
  unfold execSpanOpComplete
  split
  · exact .next h
  · exact .ite (.next h) (.ite (.next (.inject (.update h))) (.next (.respond (.update h))))

theorem KeptOut.spanOpTimeout {tag : BitVec 32} (h : Kept r s) : KeptOut r (execSpanOpTimeout tag s) := by
  unfold execSpanOpTimeout
  split
  · exact .next h
  · exact .ite (.next h) (.next (.dieEvent (.spanStat (.count (.update h)))))

/-! ## Registers (R337, R343, R347, R348, R350) -/

theorem Kept.spanWindowWrite {w which : ℕ} {v : Word} (h : Kept r s) : Kept r (s.spanWindowWrite w which v) :=
  .ite (.ite (.spanStat h) (.regWrite h)) (.ite (.spanStat h) (.setRegField (.regWrite h)))

theorem KeptOut.spanWindowWrite {who : Initiator} {w : BitVec 12} {which : Fin 3} {v : Word} (h : Kept r s) :
    KeptOut r (execSpanWindowWrite who w which v s) :=
  .next (.gateReg h (fun _ hu => .spanWindowWrite hu))

theorem Kept.routeWrite {dev : BitVec 16} {v : Word} (h : Kept r s) : Kept r (s.routeWrite dev v) :=
  .ite (.update (.spanLost (.regWrite h))) (.regWrite h)

theorem KeptOut.routeEntryWrite {who : Initiator} {dev : BitVec 16} {v : Word} (h : Kept r s) : KeptOut r (execRouteEntryWrite who dev v s) :=
  .next (.gateReg h (fun _ hu => .routeWrite hu))

theorem KeptOut.spanCtrlWrite {who : Initiator} {which : Fin 3} {v : Word} (h : Kept r s) : KeptOut r (execSpanCtrlWrite who which v s) :=
  .next (.gateReg h (fun _ hu => .ite (.regWrite hu) (.spanStat hu)))

theorem Kept.keyIdxWrite {v : Word} (h : Kept r s) : Kept r (s.keyIdxWrite v) := by
  unfold State.keyIdxWrite
  refine .ite (.setReg h) ?_
  extract_lets i src u src₁ u₁ src₂
  have hu : Kept r u := .update (.setReg h)
  have hu₁ : Kept r u₁ := .ite (.setSpanKey hu) hu
  exact .ite (.setSpanKey hu₁) hu₁

theorem KeptOut.keyCommit {who : Initiator} {v : Word} (h : Kept r s) : KeptOut r (execKeyCommit who v s) :=
  .next (.gateReg h (fun _ hu => .keyIdxWrite hu))

theorem KeptOut.keyClear {who : Initiator} {v : Word} (h : Kept r s) : KeptOut r (execKeyClear who v s) :=
  .next (.gateReg h (fun _ hu => .keyIdxWrite hu))

theorem KeptOut.txphaseWrite {who : Initiator} {v : Word} (h : Kept r s) : KeptOut r (execTxphaseWrite who v s) :=
  .next (.gateReg h (fun _ hu => .keyIdxWrite hu))

theorem KeptOut.keydataWrite {who : Initiator} {v : Word} (h : Kept r s) : KeptOut r (execKeydataWrite who v s) :=
  .next (.gateReg h (fun _ hu => .ite hu (.setSpanKey hu)))

/-! ## Rings (R365 to R371) -/

theorem Kept.ringFault {r' code : ℕ} (h : Kept r s) : Kept r (s.ringFault r' code) := .ite (.orReg (.setRing h)) h

theorem Kept.ringSettle {r' : ℕ} (h : Kept r s) : Kept r (s.ringSettle r') := .ite (.setRing h) h

theorem Kept.ringCfgWrite {r' : ℕ} {v : Word} (h : Kept r s) : Kept r (s.ringCfgWrite r' v) := by
  unfold State.ringCfgWrite
  extract_lets key old x on want stuck keepLoc w w₁ u u₁ src
  have hu : Kept r u := .setReg h
  have hu₁ : Kept r u₁ := .ite (.orReg hu) hu
  exact .ite (.setRing hu₁) (.ite (.ringSettle (.setRing hu₁)) hu₁)

theorem KeptOut.ringEnable {who : Initiator} {r' : RingId} {v : Word} (h : Kept r s) : KeptOut r (execRingEnable who r' v s) :=
  .next (.gateReg h (fun _ hu => .ite (.ringCfgWrite hu) hu))

theorem KeptOut.ringDisable {who : Initiator} {r' : RingId} {v : Word} (h : Kept r s) : KeptOut r (execRingDisable who r' v s) :=
  .next (.gateReg h (fun _ hu => .ite hu (.ringCfgWrite hu)))

theorem Kept.takeLine {r' : ℕ} {b : Bytes} (h : Kept r s) : Kept r (s.takeLine r' b) :=
  .ite (.ringFault (.setRing h)) (.ite (.ringFault (.setRing h)) (.setRing h))

theorem KeptOut.ringPoll {r' : RingId} {line : Option Bytes} (h : Kept r s) : KeptOut r (execRingPoll r' line s) := by
  unfold execRingPoll
  refine .ite (.next h) (.ite (.next (.ringFault h)) (.ite (.ite (.next h) ?_) (.ite (.next h) ?_)))
  · split
    next u e =>
      have hu : Kept r u := .snd (.snooped h) e
      refine .ite (.next hu) ?_
      split
      next e₁ => exact .next (.takeLine (.snd (.ringRead hu) e₁))
      next e₁ => exact .next (.ringFault (.snd (.ringRead hu) e₁))
  · split
    · exact .next (.takeLine (.setRing h))
    · exact .next (.ringFault h)

theorem KeptOut.linkWaitExpire {r' : RingId} (h : Kept r s) : KeptOut r (execLinkWaitExpire r' s) := .ite (.next (.ringFault h)) (.next h)

/-! ## Fetch (R369, R372) -/

theorem Kept.newJob {r' : ℕ} {b : Bytes} (h : Kept r s) : Kept r (s.newJob r' b) := .setJob (.setRing h)

theorem KeptOut.descriptorFetch {r' : RingId} {desc : Option Bytes} (h : Kept r s) : KeptOut r (execDescriptorFetch r' desc s) := by
  unfold execDescriptorFetch
  refine .ite (.next h) (.ite ?_ (.ite (.next h) ?_))
  · extract_lets a
    split
    next u e =>
      have hu : Kept r u := .snd (.snooped h) e
      refine .ite (.next hu) ?_
      split
      next e₁ => exact .next (.newJob (.snd (.ringRead hu) e₁))
      next e₁ => exact .next (.ringFault (.snd (.ringRead hu) e₁))
  · split
    · exact .next (.ite (.newJob h) h)
    · exact .next (.ringFault h)

/-! ## Checks (R373) -/

theorem Kept.readMem {a len : ℕ} (h : Kept r s) : Kept r (s.readMem a len).2 := by
  unfold State.readMem
  split
  · extract_lets u
    have hu : Kept r u := .gatherFlush h
    exact .iteSnd (.pair (.noteCe hu)) (.pair (.copyUe hu))
  · exact .ringRead h

theorem Kept.startCheck {j : Job} (h : Kept r s) : Kept r (s.startCheck j).2 := by
  unfold State.startCheck
  extract_lets a n
  refine .iteSnd (.pair h) ?_
  split
  next e => exact .pair (.snd (.readMem h) e)
  next u e =>
    have hu : Kept r u := .snd (.readMem h) e
    extract_lets ts cores
    exact .iteSnd (.pair hu) (.iteSnd (.pair hu) (.iteSnd (.pair hu) (.iteSnd (.pair hu) (.iteSnd (.pair hu) (.pair hu)))))

theorem Kept.endJob {j : Job} {status : ℕ} (h : Kept r s) : Kept r (s.endJob j status) := .setJob h

/-! ## The operations (R374 to R377) -/

theorem KeptOut.jobNop {r' : RingId} (h : Kept r s) : KeptOut r (execJobNop r' s) := by
  unfold execJobNop
  split
  · exact .next (.ite (.endJob h) h)
  · exact .next h

theorem KeptOut.jobStart {r' : RingId} (h : Kept r s) : KeptOut r (execJobStart r' s) := by
  unfold execJobStart
  split
  · refine .ite (.next h) ?_
    split
    next u e₁ =>
      have hu : Kept r u := .snd (.snooped h) e₁
      refine .ite (.next hu) ?_
      split
      next e₂ => exact .next (.endJob (.snd (.startCheck hu) e₂))
      next e₂ => exact .next (.setJob (.snd (.startCheck hu) e₂))
  · exact .next h

theorem Kept.proxySend {j : Job} (h : Kept r s) : Kept r (s.proxySend j) := .ite (.endJob h) (.ite (.endJob h) (.inject (.setJob h)))

theorem KeptOut.jobSend {r' : RingId} (h : Kept r s) : KeptOut r (execJobSend r' s) := by
  unfold execJobSend
  split
  · refine .ite (.next h) ?_
    split
    · exact .next (.endJob h)
    · exact .ite (.next h) (.next (.proxySend h))
  · exact .next h

theorem KeptOut.jobSendRetry {jobTag : BitVec 32} (h : Kept r s) : KeptOut r (execJobSendRetry jobTag s) := by
  unfold execJobSendRetry
  split
  · exact .next (.ite (.proxySend h) h)
  · exact .next h

theorem Kept.proxyReply {pkt : Packet} {h' : MsgHeader} (h : Kept r s) : Kept r (s.proxyReply pkt h') := by
  unfold State.proxyReply
  refine .ite h ?_
  extract_lets result decided code src u
  have hu : Kept r u := .ite (.update h) h
  split
  · exact hu
  · split
    · exact .endJob hu
    · exact .setJob hu

theorem KeptOut.sendResult {pkt : Packet} (h : Kept r s) : KeptOut r (execSendResult pkt s) := by
  unfold execSendResult
  refine .ite (.next h) ?_
  split
  · exact .next (.ite (.coreReply (.take h)) (.countDiscard (.take h)))
  · exact .ite (.next (.proxyReply (.take h))) (.next h)
  · exact .next h

theorem KeptOut.jobFence {r' : RingId} (h : Kept r s) : KeptOut r (execJobFence r' s) := by
  unfold execJobFence
  split
  · refine .ite (.next h) ?_
    split
    · exact .next (.endJob h)
    · exact .next (.ite (.endJob h) h)
  · exact .next h

theorem KeptOut.jobTimeout {jobTag : BitVec 32} (h : Kept r s) : KeptOut r (execJobTimeout jobTag s) := by
  unfold execJobTimeout
  split
  · exact .ite (.next h) (.next (.jobCause h))
  · exact .next h

/-! ## Completion records (R378 to R380, R515) -/

theorem Kept.recordReady {r' : ℕ} (h : Kept r s) : Kept r (s.recordReady r').2 := .iteSnd (.iteSnd (.snooped h) (.pair h)) (.pair h)

theorem Kept.writeRecord {j : Job} {kind : ℕ} {c : JobCause} (h : Kept r s) : Kept r (s.writeRecord j kind c) :=
  .setRing (.ite (.ite (.store h) h) (.hostMemory h))

theorem Kept.closeJob {j : Job} {status : ℕ} (h : Kept r s) : Kept r (s.closeJob j status) := .ringSettle (.setJob (.ite (.update h) h))

theorem KeptOut.completionRecordWrite {jobTag : BitVec 32} (h : Kept r s) : KeptOut r (execCompletionRecordWrite jobTag s) := by
  unfold execCompletionRecordWrite
  split
  · exact .next h
  · split
    · exact .next h
    · refine .ite (.next h) ?_
      split
      next u e₂ =>
        have hu : Kept r u := .snd (.recordReady h) e₂
        exact .ite (.next hu) (.ite (.next (.setJob (.count (.writeRecord hu)))) (.next (.closeJob (.count (.writeRecord hu)))))

theorem KeptOut.sealUpdate {jobTag : BitVec 32} (h : Kept r s) : KeptOut r (execSealUpdate jobTag s) := by
  unfold execSealUpdate
  split
  · exact .next h
  · split
    · exact .next h
    · refine .ite (.next h) ?_
      split
      next u e₂ =>
        have hu : Kept r u := .snd (.recordReady h) e₂
        exact .ite (.next hu) (.next (.closeJob (.writeRecord hu)))

theorem Kept.abortJobs (h : Kept r s) : Kept r (s.abortJobs) := .foldl h fun _ _ hu => .jobCause hu

/-! ## Digests (spec/12 R409, R410) -/

theorem Kept.digestInput {d : DigestJob} (h : Kept r s) : Kept r (s.digestInput d).2 := by
  unfold State.digestInput
  refine .foldlSnd (.pair h) fun q x hq => ?_
  obtain ⟨b, u⟩ := q
  have hread : Kept r (u.readMem x.1 x.2).2 := .readMem hq
  exact hread

theorem Kept.freshDigest (h : Kept r s) : Kept r (s.freshDigest).2 := by
  unfold State.freshDigest
  refine .foldlSnd (.pair h) fun q x hq => ?_
  split
  next e => exact .pair (.snd (.fresh hq) e)

theorem KeptOut.digestCompute {jobTag : BitVec 32} (h : Kept r s) : KeptOut r (execDigestCompute jobTag s) := by
  unfold execDigestCompute
  split
  · exact .next h
  · extract_lets loc size c rd
    split
    next u e₁ =>
      have hu : Kept r u := .snd (.snoopedAll h) e₁
      refine .ite (.next (.count (.update h))) (.ite (.next hu) ?_)
      split
      next u₁ e₂ =>
        have hu₁ : Kept r u₁ := .snd (.digestInput (.update hu)) e₂
        split
        next u₂ e₃ =>
          have hu₂ : Kept r u₂ := by
            refine .snd ?_ e₃
            split
            · exact .pair hu₁
            · exact .freshDigest hu₁
          exact .next (.setRegField (.store hu₂))

theorem KeptOut.shadowlocWrite {who : Initiator} {v : Word} (h : Kept r s) : KeptOut r (execShadowlocWrite who v s) :=
  .next (.gateReg h (fun _ hu => .setReg (.setRegField (.setReg hu))))

/-! ## CXL.mem and the snoop filter (R358 to R363) -/

theorem Kept.grantLine {line : ℕ} (h : Kept r s) : Kept r (s.grantLine line) := .update h

theorem Kept.filterRoom {line : ℕ} (h : Kept r s) : Kept r (s.filterRoom line).2 := by
  unfold State.filterRoom
  extract_lets set_ u src
  have hu : Kept r u := .count (.count h)
  refine .iteSnd (.pair h) ?_
  clear_value set_
  split
  · exact .iteSnd (.pair h) (.pair (.update hu))
  · exact .pair h

theorem Kept.serveHost {a o : ℕ} {op : MemOp} {errs : LineErrs} (h : Kept r s) : Kept r (s.serveHost a o op errs) := by
  unfold State.serveHost
  refine .ite h (.ite ?_ (.ite h ?_))
  · split
    · exact .holdWrite h
    · exact .holdWrite h
    · exact h
  · split
    next u e =>
      have hu : Kept r u := .snd (.iteSnd (.pair h) (.filterRoom h)) e
      refine .ite hu ?_
      extract_lets u₁ u₂
      have hu₁ : Kept r u₁ := by
        unfold u₁
        split
        · exact .accessS hu
        · exact hu
      have hu₂ : Kept r u₂ := .ite hu₁ (.grantLine hu₁)
      refine .ite (.memAnswer hu₁) ?_
      split
      · exact .hostWrite hu₁
      · split
        next e₁ => exact .memAnswer (.snd (.lineRead (.countLines (.noteErrs hu₂))) e₁)
        next e₁ => exact .memAnswer (.snd (.lineRead (.countLines (.noteErrs hu₂))) e₁)

theorem KeptOut.producerLineWrite {r' : RingId} {data : Bytes} (h : Kept r s) : KeptOut r (execProducerLineWrite r' data s) :=
  .ite (.ite (.next (.serveHost h)) (.next h)) (.next (.setRing h))

theorem KeptOut.cxlmemRequest {addr : Word} {x : MemReq} (h : Kept r s) : KeptOut r (execCxlmemRequest addr x s) := by
  unfold execCxlmemRequest
  split
  · refine .ite (.next h) (.ite (.next (.update h)) ?_)
    split
    · exact .next (.memAnswer h)
    · exact .ite (.next (.memAnswer h)) (.next (.serveHost h))

theorem KeptOut.bisnpResponse {addr : Word} {dirty : Option Bytes} (h : Kept r s) : KeptOut r (execBisnpResponse addr dirty s) := by
  unfold execBisnpResponse
  split
  · exact .next h
  · split
    · extract_lets u left src
      have hu : Kept r u := by
        unfold u
        split
        · exact .ite (.store h) h
        · exact h
      exact .next (.update hu)
    · exact .next h

theorem KeptOut.bisnpSlow {addr : Word} (h : Kept r s) : KeptOut r (execBisnpSlow addr s) := by
  unfold execBisnpSlow
  split
  · exact .next h
  · exact .ite (.next (.record (.orReg h))) (.next h)

theorem KeptOut.ideIntegrityFailure {stream : Fin 3} (h : Kept r s) : KeptOut r (execIdeIntegrityFailure stream s) :=
  .ite (.next (.record h)) (.next h)

end kept

end Sys2Proof.Machine
end

section
/-! PROOFS. What bring-up, resets, windows of half-sums, drains and tile checks keep. -/

namespace Sys2Proof.Machine

open Sys2Proof.Claims

section kept
variable {r s : State}

/-! ## Escape tables (spec/08 R259, R260) -/

theorem Kept.installEsc {b : Bytes} (h : Kept r s) : Kept r (s.installEsc b) := .escSettle (.update h)

/-! ## Stages (R446, R447) -/

theorem Kept.reach {k : ℕ} (h : Kept r s) : Kept r (s.reach k) := by
  unfold State.reach
  extract_lets u
  have hu : Kept r u := .ite (.setRegField h) (.setRegField h)
  exact .setRegField hu

theorem Kept.bootFail {code detail : ℕ} (h : Kept r s) : Kept r (s.bootFail code detail) := .record (.setReg h)

theorem Kept.resetCause {kind src : ℕ} (h : Kept r s) : Kept r (s.resetCause kind src) := .setReg h

/-! ## Power-good (R445, R503, R504) -/

theorem Kept.cold (h : Kept r s) : Kept r s.cold :=
  ⟨h.pending, fun hm => by
    have hs := h.mem hm
    simp only [State.memWf, Bool.and_eq_true] at hs ⊢
    exact ⟨rfl, hs.2⟩, h.otp⟩

theorem KeptOut.powerGoodAssert (h : Kept r s) : KeptOut r (execPowerGoodAssert s) := .ite (.next h) (.next (.cold h))

theorem KeptOut.powerGoodDeassert (h : Kept r s) : KeptOut r (execPowerGoodDeassert s) := .next (.update (.cold h))

theorem Kept.stopAll {fault trip : Bool} (h : Kept r s) : Kept r (s.stopAll fault trip) := .update (.cold h)

theorem KeptOut.railFault {rail : Fin 8} (h : Kept r s) : KeptOut r (execRailFault rail s) := .ite (.next (.stopAll h)) (.next h)

theorem KeptOut.cxlTrainingStart (h : Kept r s) : KeptOut r (execCxlTrainingStart s) := .ite (.next (.update h)) (.next h)

theorem KeptOut.stage0 {ok : Bool} (h : Kept r s) : KeptOut r (execStage0 ok s) := by
  unfold execStage0
  refine .ite (.next h) (.ite (.next (.update h)) ?_)
  extract_lets src u u₁
  have hu : Kept r u := .update h
  have hu₁ : Kept r u₁ := .foldl hu fun _ _ hu₂ => .setRegField hu₂
  exact .next (.reach hu₁)

/-! ## Stage 1 (R449 to R455, spec/13 R443, spec/15 R469, R471, R475) -/

theorem Kept.readJournal (h : Kept r s) : Kept r (s.readJournal) := .update h

theorem Kept.applyDefect {e' : Word} (h : Kept r s) : Kept r (s.applyDefect e') := by
  unfold State.applyDefect
  refine .ite h ?_
  split
  · exact .modSlot h
  · exact .modSlot h
  · exact .modSlot h
  · exact .modSlot h
  · exact h

theorem Kept.applyRepairs (h : Kept r s) : Kept r (s.applyRepairs) := .foldl h fun _ _ hu => .ite (.modSlot (.setRepairs hu)) (.setRepairs hu)

theorem Kept.applyCells (h : Kept r s) : Kept r (s.applyCells) := .foldl h fun _ _ hu => .ite (.setSlot hu) hu

theorem Kept.applyDefects (h : Kept r s) : Kept r (s.applyDefects) :=
  .applyCells (.applyRepairs (.foldl (.update (.readJournal h)) fun _ _ hu => .applyDefect hu))

theorem Kept.setParam {key idx reg : ℕ} {f : Word → Word} (h : Kept r s) : Kept r (s.setParam key idx reg f) := by
  unfold State.setParam
  split
  · exact .setReg h
  · exact h

theorem Kept.applyParams (h : Kept r s) : Kept r (s.applyParams) := by
  unfold State.applyParams
  extract_lets u u₁ u₂ u₃
  have hu : Kept r u := .setParam h
  have hu₁ : Kept r u₁ := .setRegField (.setRegField hu)
  have hu₂ : Kept r u₂ := .setRegField hu₁
  have hu₃ : Kept r u₃ := .foldl hu₂ fun _ _ hu₄ => .setParam (.setReg hu₄)
  exact .setParam hu₃

theorem KeptOut.stage1 {otpOk : Bool} {a b : Bytes} {wu : Unit} (h : Kept r s) : KeptOut r (execStage1 otpOk a b wu s) :=
  .ite (.next h) (.ite (.next (.bootFail h)) (.ite (.next (.bootFail (.setReg h))) (.ite (.next (.bootFail (.setReg (.setReg h))))
    (.next (.reach (.applyParams (.applyDefects (.update (.setReg (.setReg h))))))))))

/-! ## Stage 2 (R456, R457, spec/09 R277, R278, R282, R290, R291, spec/10 R311, spec/11 R358, spec/15 R491, R492) -/

theorem Kept.bringHearth {r' : Stage2Report} (h : Kept r s) : Kept r (s.bringHearth r') :=
  .foldl h fun _ _ hu => .ite (.orReg (.setReg hu)) (.setReg hu)

theorem Kept.bringPeat {bad : BitVec 12} (h : Kept r s) : Kept r (s.bringPeat bad) :=
  .foldl h fun _ _ hu => .ite hu (.ite (.record (.orReg (.setReg hu))) (.update (.setReg hu)))

theorem Kept.bringPorts {r' : Stage2Report} (h : Kept r s) : Kept r (s.bringPorts r') := by
  unfold State.bringPorts
  refine .foldl h fun u x hu => .ite hu ?_
  extract_lets u₁ pass u₂
  have hu₁ : Kept r u₁ := .foldl hu fun _ _ hu₃ => .setReg hu₃
  have hu₂ : Kept r u₂ := .trained hu₁
  exact .ite (.setRegField hu₂) (.ite (.count hu₂) hu₂)

theorem Kept.bringPool (h : Kept r s) : Kept r (s.bringPool) := by
  unfold State.bringPool
  extract_lets h' p top lo size u u₁ u₂ src
  have hu : Kept r u := .setReg (.setReg h)
  have hu₁ : Kept r u₁ := .setReg hu
  have hu₂ : Kept r u₂ := .ite (.orReg hu₁) hu₁
  exact .update hu₂

theorem Kept.bringRanges (h : Kept r s) : Kept r (s.bringRanges) := by
  unfold State.bringRanges
  refine .foldl h fun u x hu => ?_
  split
  · exact hu
  · exact .ite hu (.ite (.ite (.orReg hu) hu) (.setReg (.ite (.orReg hu) hu)))

theorem Kept.flushEarly (h : Kept r s) : Kept r (s.flushEarly) := .foldl h fun _ _ hu => .logStore hu

theorem KeptOut.stage2 {rep : Stage2Report} (h : Kept r s) : KeptOut r (execStage2 rep s) := by
  obtain ⟨_, hoff, _, _, hon, _⟩ := bringUp_stages s
  rw [← exec_stage2]
  cases hat : s.atStage 1 with
  | false => rw [hoff rep hat]; exact .next h
  | true =>
    obtain ⟨htrain, htrained⟩ := hon hat rep
    cases ht : rep.hbmTrainFail with
    | some k => rw [htrain k ht]; exact .next (.bootFail h)
    | none =>
      obtain ⟨hlane, hlanes⟩ := htrained ht
      cases hl : rep.hbmLaneFail with
      | some k => rw [hlane k hl]; exact .next (.bootFail h)
      | none =>
        obtain ⟨hseam, hseams⟩ := hlanes hl
        cases hs : s.seamsUnfit rep.seamBad with
        | some k => rw [hseam k hs]; exact .next (.bootFail h)
        | none =>
          specialize hseams hs
          extract_lets a spares excluded b u at hseams
          have hb : Kept r b := .setRegField (.setRegField (.setRegField (.setRegField (.bringPorts (.bringPeat (.bringHearth (.repairSeams h)))))))
          have hu : Kept r u := .ite (.record hb) hb
          obtain ⟨hfault, hup⟩ := hseams
          cases hf : u.layoutFault with
          | some k => rw [hfault k hf]; exact .next (.bootFail hu)
          | none => rw [hup hf]; exact .next (.setRegField (.update (.flushEarly (.reach (.orReg (.bringRanges (.bringPool hu)))))))

/-! ## Stage 3 (R458, R459, spec/13 R414, R441, R443, spec/15 R469, R470) -/

theorem Kept.setMp {k v : ℕ} (h : Kept r s) : Kept r (s.setMp k v) := .setRegField h

theorem Kept.moveWarden {from_ k : ℕ} (h : Kept r s) : Kept r (s.moveWarden from_ k) := .setRegField (.setMp (.setMp h))

theorem Kept.failAtBoot {p : ℕ} (h : Kept r s) : Kept r (s.failAtBoot p) := by
  unfold State.failAtBoot
  refine .ite (.setSlot h) (.ite (.journal (.setSlot h)) ?_)
  extract_lets u u₁
  have hu : Kept r u := .setSlot h
  have hu₁ : Kept r u₁ := .foldl hu fun _ _ hu₂ => .ite (.modSlot hu₂) hu₂
  exact .journal (.smdStat hu₁)

theorem Kept.bootFault {failed : List ℕ} {f : SlotFail} (h : Kept r s) : Kept r (s.bootFault failed f).1 := by
  unfold State.bootFault
  extract_lets p u u₁
  have hu : Kept r u := .modSlot (.smdStat (.count h))
  have hu₁ : Kept r u₁ := .testRecord hu
  refine .iteFst (.pairFst h) ?_
  split
  next u₂ e =>
    have hu₂ : Kept r u₂ := .ofSome (.ite (.repairSlice hu₁) .none) e
    exact .iteFst (.pairFst (.failAtBoot hu₂)) (.pairFst hu₂)
  · exact .pairFst (.failAtBoot hu₁)

theorem Kept.bootPass {p : ℕ} (h : Kept r s) : Kept r (s.bootPass p) := .testRecord (.modSlot h)

theorem Kept.routerAtBoot {p : ℕ} (h : Kept r s) : Kept r (s.routerAtBoot p) := by
  unfold State.routerAtBoot
  extract_lets x u u₁
  have hu : Kept r u := .foldl (.smdStat h) fun _ _ hu₂ => .markPort hu₂
  have hu₁ : Kept r u₁ := .routerLost (.setSlot hu)
  exact .ite hu₁ (.journal (.smdStat hu₁))

theorem Kept.bootTest {bad : List SlotFail} {routers : List PhysId} (h : Kept r s) : Kept r (s.bootTest bad routers) := by
  unfold State.bootTest
  extract_lets tested u
  have hu : Kept r u := by
    refine .foldl (.count h) fun u₁ x hu₁ => ?_
    split
    next e => exact .modSlot (.snd (.fresh hu₁) e)
  split
  next e =>
    extract_lets u₂
    have hu₂ : Kept r u₂ := .foldl (.fst (.foldlFst (.pairFst hu) fun _ _ hq => .bootFault hq) e) fun _ _ hu₃ => .ite hu₃ (.bootPass hu₃)
    exact .foldl hu₂ fun _ _ hu₃ => .routerAtBoot hu₃

theorem Kept.buildMap (h : Kept r s) : Kept r (s.buildMap) := by
  unfold State.buildMap
  extract_lets u src
  have hu : Kept r u := .foldl h fun _ _ hu₁ => .gatherFlush hu₁
  refine .foldl hu fun u₁ x hu₁ => ?_
  extract_lets u₂ w u₃
  have hu₂ : Kept r u₂ := .foldl hu₁ fun _ _ hu₄ => .ite (.setSlot hu₄) hu₄
  have hu₃ : Kept r u₃ := .placeRow hu₂
  exact .foldl hu₃ fun _ _ hu₄ => .ite (.setSlot hu₄) (.setSlot hu₄)

theorem Kept.seedSpan (h : Kept r s) : Kept r (s.seedSpan) := by
  unfold State.seedSpan
  split
  · exact h
  · extract_lets u u₁ u₂ base u₃
    have hu : Kept r u := .foldl h fun _ _ hu₄ => .routeWrite hu₄
    have hu₁ : Kept r u₁ := .foldl hu fun _ _ hu₄ => .spanWindowWrite (.spanWindowWrite (.spanWindowWrite hu₄))
    have hu₂ : Kept r u₂ := .foldl hu₁ fun _ _ hu₄ => .regWrite hu₄
    have hu₃ : Kept r u₃ := .setReg (.setReg hu₂)
    exact .spanWindowWrite hu₃

theorem Kept.drawIncarns (h : Kept r s) : Kept r (s.drawIncarns) := by
  unfold State.drawIncarns
  refine .foldl h fun u x hu => ?_
  split
  next e => exact .setSeal (.snd (.fresh hu) e)

theorem Kept.bootMps {bad : BitVec 16} (h : Kept r s) : Kept r (s.bootMps bad) := by
  unfold State.bootMps
  extract_lets failing good u
  have hu : Kept r u := by
    unfold u
    split
    · exact .moveWarden h
    · exact h
  exact .foldl hu fun _ _ hu₁ => .record (.setMp hu₁)

theorem Kept.startRotation (h : Kept r s) : Kept r (s.startRotation) := .foldl h fun _ _ hu => .setRow hu

theorem KeptOut.stage3 {bad : List SlotFail} {routers : List PhysId} {esc : EscPlan} {mps : BitVec 16} (h : Kept r s) :
    KeptOut r (execStage3 bad routers esc mps s) := by
  unfold execStage3
  refine .ite (.next h) ?_
  extract_lets s0 u ready
  have hs0 : Kept r s0 := h
  have hu : Kept r u := .buildMap (.bootMps (.bootTest h))
  have hready : ∀ u, Kept r u → KeptOut r (ready u) := by
    refine fun u₁ hu₁ => ?_
    unfold ready
    split
    · exact .next (.bootFail hu₁)
    · extract_lets u₂ src u₃
      have hu₂ : Kept r u₂ := .startRotation (.reach (.seedSpan (.drawIncarns hu₁)))
      have hu₃ : Kept r u₃ := .update hu₂
      exact .next (.ite (.orReg hu₃) hu₃)
  split
  · exact .ite (hready _ hu) (.next hs0)
  · exact .ite (hready _ (.installEsc hu)) (.next hs0)
  · exact .ite (.next hs0) (.next (.bootFail hu))

/-! ## Module reset (R460, R461, R467, R468) -/

theorem Kept.moduleReset {src : ℕ} (h : Kept r s) : Kept r (s.moduleReset src) := by
  unfold State.moduleReset
  extract_lets seq src₁
  split
  next e =>
    extract_lets kept z src₂ src₃ z₁ z₂ z₃
    have hz : Kept r z := .cold (.snd (.iteSnd (.fresh h) (.pair h)) e)
    have hz₁ : Kept r z₁ := .update hz
    have hz₂ : Kept r z₂ := .foldl hz₁ fun _ _ hu₁ => .setReg hu₁
    have hz₃ : Kept r z₃ := .foldl hz₂ fun _ _ hu₁ => .setRegField hu₁
    exact .record (.resetCause hz₃)

/-! ## Compute and core resets (R462 to R466) -/

theorem Kept.endAllTasks {n : ℕ} (h : Kept r s) : Kept r (s.endAllTasks n) :=
  .foldl h fun _ _ hu => .ite (.modJob (.setTask hu)) (.ite hu (.endReport (.killTask hu)))

theorem Kept.wipeCore {n : ℕ} {was : Core} (h : Kept r s) : Kept r (s.wipeCore n was) := .wipe (.setCore h)

theorem Kept.resetSeal {n : ℕ} (h : Kept r s) : Kept r (s.resetSeal n) := .setSeal h

theorem Kept.abandonRotation (h : Kept r s) : Kept r (s.abandonRotation) := by
  unfold State.abandonRotation
  extract_lets u
  have hu : Kept r u := .foldl h fun _ _ hu₁ => .ite (.abandonTest hu₁) hu₁
  exact .foldl hu fun _ _ hu₁ => .ite (.setRow (.dropMove hu₁)) hu₁

theorem Kept.dropSpanOps (h : Kept r s) : Kept r (s.dropSpanOps) := .foldl (.update h) fun _ _ hu => .answerRequest hu

theorem Kept.clearHearth (h : Kept r s) : Kept r (s.clearHearth) := .setReg (.wipe h)

theorem Kept.startCompute {keep bist : Bool} {src : ℕ} (h : Kept r s) : Kept r (s.startCompute keep bist src) := by
  unfold State.startCompute
  extract_lets u src₁ u₁ u₂ was u₃ u₄ u₅ u₆ u₇ u₈
  have hu : Kept r u := .setRegField (.resetCause h)
  have hu₁ : Kept r u₁ := .update hu
  have hu₂ : Kept r u₂ := .abortJobs (.abandonRotation hu₁)
  have hwas : Kept r was := hu₂
  have hu₃ : Kept r u₃ := .foldl hu₂ fun _ _ hu₉ => .endAllTasks hu₉
  have hu₄ : Kept r u₄ := .dropSpanOps hu₃
  have hu₅ : Kept r u₅ := .update hu₄
  have hu₆ : Kept r u₆ := .foldl hu₅ fun _ _ hu₉ => .resetSeal (.wipeCore hu₉)
  have hu₇ : Kept r u₇ := .update hu₆
  have hu₈ : Kept r u₈ := .foldl hu₇ fun _ _ hu₉ => .modSlot hu₉
  exact .ite hu₈ (.clearHearth hu₈)

theorem Kept.resetDone (h : Kept r s) : Kept r (s.resetDone) := .setReg h

theorem Kept.lapseDirectories (h : Kept r s) : Kept r (s.lapseDirectories) := .foldl h fun _ _ hu => .setSeal hu

theorem Kept.rebuildPages (h : Kept r s) : Kept r (s.rebuildPages) :=
  .foldl h fun _ _ hu => .ite (.ite hu (.setRepairs hu)) (.foldl (.ite hu (.setRepairs hu)) fun _ _ hu₁ => .markPort hu₁)

theorem KeptOut.computeResetComplete {bad : List SlotFail} {routers : List PhysId} (h : Kept r s) :
    KeptOut r (execComputeResetComplete bad routers s) := by
  unfold execComputeResetComplete
  split
  · extract_lets before u u₁ gone u₂ u₃ back u₄ src u₅
    have hu : Kept r u := .ite (.bootTest h) h
    have hu₁ : Kept r u₁ := .rebuildPages (.buildMap hu)
    have hu₂ : Kept r u₂ := .foldl hu₁ fun _ _ hu₆ => .beaconAbsent hu₆
    have hu₃ : Kept r u₃ := .ite hu₂ (.record (.smdStat (.raiseLayout hu₂)))
    have hu₄ : Kept r u₄ := .ite hu₃ (.record (.raiseLayout hu₃))
    have hu₅ : Kept r u₅ := .update hu₄
    exact .next (.resetDone (.lapseDirectories hu₅))
  · exact .next h

theorem Kept.startCore {n src : ℕ} (h : Kept r s) : Kept r (s.startCore n src) := by
  unfold State.startCore
  extract_lets u src₁ u₁ u₂ u₃ u₄ u₅
  have hu : Kept r u := .setRegField (.resetCause h)
  have hu₁ : Kept r u₁ := .update hu
  have hu₂ : Kept r u₂ := .wipeCore (.endAllTasks hu₁)
  have hu₄ : Kept r u₄ := .setSeal hu₂
  have hu₅ : Kept r u₅ := .update hu₄
  split
  · exact .modSlot (.setRepairs hu₅)
  · exact hu₅

theorem KeptOut.coreResetComplete {c : CoreId} (h : Kept r s) : KeptOut r (execCoreResetComplete c s) := by
  unfold execCoreResetComplete
  split
  · refine .ite (.next h) ?_
    extract_lets u src
    have hu : Kept r u := by
      unfold u
      split
      · exact .modSlot (.gatherFlush h)
      · exact h
    exact .next (.resetDone (.update hu))
  · exact .next h
  · exact .next h

theorem Kept.doReset {r' : ResetReq} {src : ℕ} (h : Kept r s) : Kept r (s.doReset r' src) := by
  unfold State.doReset
  split
  · exact .moduleReset h
  · exact .startCore h
  · split
    · exact .update h
    · exact .startCompute h

theorem Kept.askReset {r' : ResetReq} {src : ℕ} (h : Kept r s) : Kept r (s.askReset r' src).2 := by
  unfold State.askReset
  split
  · exact .pair (.doReset h)
  · exact .pair (.orReg h)
  · exact .pair (.orReg h)

theorem Kept.resetGo {r' : ResetReq} (h : Kept r s) : Kept r (s.resetGo r') := by
  unfold State.resetGo
  extract_lets v
  split
  · exact .doReset (.setReg h)
  · exact .orReg (.setReg h)
  · exact .orReg (.setReg h)

theorem Kept.bootResetWrite {v : Word} (h : Kept r s) : Kept r (s.bootResetWrite v) := by
  unfold State.bootResetWrite
  refine .ite (.setReg h) ?_
  split
  · exact .resetGo (.setReg h)
  · exact .resetGo (.setReg h)
  · exact .resetGo (.setReg h)
  · exact .resetGo (.setReg h)
  · exact .setReg h

theorem Kept.bootReset {who : Initiator} {kind : ℕ} {v : Word} (h : Kept r s) : Kept r (s.bootReset who kind v) :=
  .gateReg h (fun _ hu => .ite (.bootResetWrite hu) hu)

theorem KeptOut.bootResetCompute {who : Initiator} {v : Word} (h : Kept r s) : KeptOut r (execBootResetCompute who v s) := .next (.bootReset h)

theorem KeptOut.bootResetComputeBist {who : Initiator} {v : Word} (h : Kept r s) : KeptOut r (execBootResetComputeBist who v s) :=
  .next (.bootReset h)

theorem KeptOut.bootResetCore {who : Initiator} {v : Word} (h : Kept r s) : KeptOut r (execBootResetCore who v s) := .next (.bootReset h)

theorem KeptOut.bootResetModule {who : Initiator} {v : Word} (h : Kept r s) : KeptOut r (execBootResetModule who v s) := .next (.bootReset h)

/-! ## Half-sums into windows (R71, R72) -/

theorem Kept.lateFail {n d : ℕ} {id : RowId} (h : Kept r s) : Kept r (State.dupFails.lateFail n d id s) := by
  unfold State.dupFails.lateFail
  split
  · exact .modWin (.logOnce h)
  · exact .modCore h

theorem Kept.dupFails {n d : ℕ} {id : RowId} (h : Kept r s) : Kept r (s.dupFails n d id) := by
  unfold State.dupFails
  split
  · exact .ite (.modCore h) (.lateFail (.count (.coreStat (.modCore h))))

theorem KeptOut.halfSumAdd {c : CoreId} {x : AddIn} (h : Kept r s) : KeptOut r (execHalfSumAdd c x s) := by
  unfold execHalfSumAdd
  split
  · extract_lets x₂ src
    split
    · exact .next h
    · refine .ite (.next h) ?_
      split
      · extract_lets y y₁ u u₁ u₂
        have hu : Kept r u := .modCore h
        have hu₁ : Kept r u₁ := .ite hu (.dupFails hu)
        have hu₂ : Kept r u₂ := .ite (.drainFlags hu₁) hu₁
        exact .next (.ite (.endAsync (.coreStat hu₂)) hu₂)

/-! ## Addends (R35, R73) -/

theorem KeptAcc.readElems {n t addr code cnt : ℕ} (h : Kept r s) : KeptAcc r (s.readElems n t addr code cnt) := by
  unfold State.readElems
  extract_lets w
  split
  next e => exact .ok (.ofOk (.taskRead h) e)
  · exact .held
  · exact .access
  next e => exact .ue (.ofUe (.taskRead h) e)

theorem KeptAcc.withAddends {n : ℕ} {x : RoundCtx} (h : Kept r s) : KeptAcc r (s.withAddends n x) := by
  unfold State.withAddends
  extract_lets t w read
  have hread : ∀ x, ∀ u, Kept r u → ∀ x₁, KeptAcc r (read x u x₁) := fun _ _ hu _ => .ite (.readElems hu) (.ok hu)
  split
  next u _ e =>
    have hu : Kept r u := .ofOk (hread _ _ h _) e
    split
    next e₁ =>
      split
      · split
        · exact .ok (.ofOk (hread _ _ hu _) e₁)
    · exact .held
    · exact .access
    next e₁ => exact .ue (.ofUe (hread _ _ hu _) e₁)
  · exact .held
  · exact .access
  next e => exact .ue (.ofUe (hread _ _ h _) e)

/-! ## Conversion and output -/

theorem KeptAcc.windowWrites {n t : ℕ} {e' : Option (BitVec 32)} {xs : List (ℕ × Bytes)} (h : Kept r s) : KeptAcc r (s.windowWrites n t e' xs) := by
  induction xs generalizing s with
  | nil =>
    rw [State.windowWrites]
    exact .ok h
  | cons x xs ih =>
    rw [State.windowWrites]
    split
    next e => exact ih (.ofOk (.windowWrite h) e)
    · exact .windowWrite h

theorem KeptAcc.roundOut {n d : ℕ} {x : RoundCtx} {pre : List (ℕ × Bytes)} {scales els : List ℕ} (h : Kept r s) :
    KeptAcc r (s.roundOut n d x pre scales els) := by
  unfold State.roundOut
  extract_lets w bits bs t e sc out
  split
  next u _ e₁ =>
    have hu : Kept r u := .ofOk (.windowWrites h) e₁
    refine .ok ?_
    split
    · exact .modCore hu
    · exact .modCore hu
    · exact hu
  · exact .windowWrites h

theorem KeptAcc.exportOut {n d : ℕ} {x : RoundCtx} {ws : List Window} (h : Kept r s) : KeptAcc r (s.exportOut n d x ws) :=
  .ite (.ok (.modCore h)) (.windowWrites h)

theorem KeptAcc.readPre {n : ℕ} {x : RoundCtx} (h : Kept r s) : KeptAcc r (s.readPre n x) := .ite (.readElems h) (.ok h)

theorem KeptAcc.roundGroup {n d : ℕ} {x : RoundCtx} (h : Kept r s) : KeptAcc r (s.roundGroup n d x) := by
  unfold State.roundGroup
  split
  next u _ _ _ e =>
    have hu : Kept r u := .ofOk (.withAddends h) e
    refine .ite (.ok hu) ?_
    split
    next u₁ _ e₁ =>
      have hu₁ : Kept r u₁ := .ofOk (.readPre hu) e₁
      extract_lets src loss win vs
      have hwin : ∀ u, Kept r u → ∀ x, Kept r (win u x) := fun _ hu₂ _ => .winFlags hu₂
      refine .ite ?_ ?_
      · split
        next e₂ => exact .ok (.drainFlags (hwin _ (.ofOk (.exportOut hu₁) e₂) _))
        · exact .held
        · exact .access
        next e₂ => exact .ue (.ofUe (.exportOut hu₁) e₂)
      · split
        · extract_lets fl₁
          split
          · extract_lets pre fl₂
            split
            next e₄ => exact .ok (.drainFlags (hwin _ (.ofOk (.roundOut hu₁) e₄) _))
            · exact .held
            · exact .access
            next e₄ => exact .ue (.ofUe (.roundOut hu₁) e₄)
    · exact .held
    · exact .access
    next e₁ => exact .ue (.ofUe (.readPre hu) e₁)
  · exact .held
  · exact .access
  next e => exact .ue (.ofUe (.withAddends h) e)

theorem KeptOut.windowRound {c : CoreId} {x : RoundIn} (h : Kept r s) : KeptOut r (execWindowRound c x s) := by
  unfold execWindowRound
  split
  · split
    · exact .next h
    · refine .ite (.next h) ?_
      extract_lets pop x₃
      have hpop : ∀ u, Kept r u → Kept r (pop u) := fun _ hu => .modCore hu
      split
      next u e₁ =>
        have hu : Kept r u := .ofOk (.roundGroup h) e₁
        exact .next (.event (.ite (hpop _ hu) (.dupFails (hpop _ hu))))
      next e₁ => exact .next (.endAsync (.coreStat (hpop _ (.ofOk (.roundGroup h) e₁))))
      · exact .next h
      · exact .next (.endAsync (hpop _ h))
      next e₁ => exact .next (hpop _ (.ofUe (.roundGroup h) e₁))

/-! ## Tile checks (R82 to R88) -/

theorem KeptOut.tileCheckResult {c : CoreId} {d : ArrayId} {wu wv : Unit} (h : Kept r s) : KeptOut r (execTileCheckResult c d wu wv s) := by
  unfold execTileCheckResult
  extract_lets x
  split
  · exact .next h
  · refine .ite (.next h) (.ite ?_ (.next (.event (.count (.modCore h)))))
    extract_lets u u₁ u₂
    have hu : Kept r u := .event (.count (.event (.count (.modCore h))))
    have hu₁ : Kept r u₁ := .ite (.coreStat hu) hu
    have hu₂ : Kept r u₂ := .ite (.coreStat hu₁) hu₁
    split
    · exact .next (.modWin (.logOnce hu₂))
    · split
      next e₃ => exact .next (.modCore (.logOnce (.snd (.fresh hu₂) e₃)))

/-! ## Diagnostic pass, repair and set-up registers (R89 to R93) -/

theorem KeptOut.diagPass {who : Initiator} {c : CoreId} {v : Word} (h : Kept r s) : KeptOut r (execDiagPass who c v s) :=
  .next (.gate h (fun _ hu => .ite (.setReg hu) (.ite hu (.modCore (.setReg hu)))))

theorem KeptOut.diagDone {c : CoreId} {x : DiagEnd} (h : Kept r s) : KeptOut r (execDiagDone c x s) := by
  unfold execDiagDone
  split
  · split
    · exact .next h
    · extract_lets more r'
      split
      · exact .next (.modCore (.setReg h))

theorem Kept.writeRepair {n a : ℕ} {v : Word} (h : Kept r s) : Kept r (s.writeRepair n a v) :=
  .ite (.coreStat h) (.ite (.setReg h) (.modCore (.setReg h)))

theorem KeptOut.arrRepairWrite {who : Initiator} {c : CoreId} {a : ArrayId} {v : Word} (h : Kept r s) : KeptOut r (execArrRepairWrite who c a v s) :=
  .next (.gate h (fun _ hu => .writeRepair hu))

theorem KeptOut.drnCfgWrite {who : Initiator} {c : CoreId} {d : ArrayId} {which : Fin 3} {v : Word} (h : Kept r s) :
    KeptOut r (execDrnCfgWrite who c d which v s) :=
  .next (.gate h (fun _ hu => .ite (.regWrite hu) (.coreStat hu)))

/-! ## Operations of a task that wait -/

theorem KeptIntake.streamIntake {n : ℕ} {x : Stream} (h : Kept r s) : KeptIntake r (s.streamIntake n x) :=
  .ite (.intakeSpad h) (.ite (.intakeQueue h) (.ofIntakeLink h))

end kept

end Sys2Proof.Machine
end

section
/-! PROOFS. What the calls of the Warden, keys, attestation, the host link, power, register accesses and the instructions keep. -/

namespace Sys2Proof.Machine

open Sys2Proof.Claims

section kept
variable {r s : State}

/-! ## Calls (R479) -/

theorem Kept.callResult {result check : ℕ} (h : Kept r s) : Kept r (s.callResult result check) := .update h

theorem Kept.call {argsOk busy : Bool} {check : Option ℕ} {commit : State → State} (h : Kept r s) (h₁ : ∀ u, Kept r u → Kept r (commit u)) :
    Kept r (s.call argsOk busy check commit) := by
  unfold State.call
  refine .ite h (.ite (.callResult h) (.ite (.callResult h) ?_))
  split
  · exact .callResult (.countCall h)
  · exact .callResult (h₁ _ (.countCall h))

/-! ## Management processors and Forester (R469 to R471) -/

theorem KeptOut.mpTest {k : Fin 16} {pass : Bool} (h : Kept r s) : KeptOut r (execMpTest k pass s) := by
  unfold execMpTest
  refine .ite (.next h) ?_
  extract_lets src u u₁ u₂ src₁ src₂
  have hu : Kept r u := .update h
  have hu₁ : Kept r u₁ := by
    refine .ite ?_ hu
    split
    · exact .moveWarden hu
    · exact hu
  have hu₂ : Kept r u₂ := .record (.setMp hu₁)
  have hsrc₁ : Kept r src₁ := .record hu₂
  exact .ite (.next hu₁) (.ite (.next (.update hsrc₁)) (.next hu₂))

theorem KeptOut.foresterWatchdog (h : Kept r s) : KeptOut r (execForesterWatchdog s) :=
  .ite (.next h) (.ite (.next (.orReg (.update h))) (.next (.record (.orReg (.update h)))))

theorem KeptOut.heartbeat (h : Kept r s) : KeptOut r (execHeartbeat s) := .next (.call (.update h) (fun _ hu => .update hu))

/-! ## Slots, repairs and ports -/

theorem KeptOut.slotOp {die slot op : Word} (h : Kept r s) : KeptOut r (execSlotOp die slot op s) := .next (.call h (fun _ hu => .smdGo hu))

theorem KeptOut.softRepair {die slot array : Word} {row : Bool} {idx : Word} (h : Kept r s) :
    KeptOut r (execSoftRepair die slot array row idx s) := by
  unfold execSoftRepair
  refine .next (.call h (fun u hu => ?_))
  extract_lets u₁
  have hu₁ : Kept r u₁ := .modSlot (.journal hu)
  split
  · exact .smdStat (.writeRepair hu₁)
  · exact hu₁

theorem KeptOut.setSlack {core link adjust : Word} (h : Kept r s) : KeptOut r (execSetSlack core link adjust s) :=
  .next (.call h (fun _ hu => .writeSlack hu))

theorem KeptOut.escInstall {table : Bytes} (h : Kept r s) : KeptOut r (execEscInstall table s) := .next (.call h (fun _ hu => .installEsc hu))

theorem KeptOut.portMark {core port : Word} {down : Bool} (h : Kept r s) : KeptOut r (execPortMark core port down s) := by
  unfold execPortMark
  extract_lets marked
  have hmarked : ∀ u, Kept r u → Kept r (marked u) := by
    refine fun u hu => ?_
    unfold marked
    split
    · exact .markPort hu
    · exact hu
  exact .next (.call h (fun _ hu => hmarked _ hu))

theorem KeptOut.seamRepair {die seam wire data : Word} (h : Kept r s) : KeptOut r (execSeamRepair die seam wire data s) :=
  .next (.call h (fun _ hu => .setSeamWire hu))

theorem KeptOut.pprGo {die chan : Word} (h : Kept r s) : KeptOut r (execPprGo die chan s) := by
  unfold execPprGo
  refine .next (.call h (fun u hu => ?_))
  split
  next u₁ e =>
    have hu₁ : Kept r u₁ := .snd (.fresh hu) e
    exact .setReg (.ite (.journalEntry hu₁) hu₁)

/-! ## Span tables and keys (R481, R482, R489) -/

theorem KeptOut.windowSet {w base limit ctrl : Word} (h : Kept r s) : KeptOut r (execWindowSet w base limit ctrl s) := by
  unfold execWindowSet
  refine .next (.call h (fun u hu => ?_))
  extract_lets u₁
  have hu₁ : Kept r u₁ := .ite hu (.spanWindowWrite (.spanWindowWrite hu))
  exact .spanWindowWrite hu₁

theorem KeptOut.routeSet {d entry : Word} (h : Kept r s) : KeptOut r (execRouteSet d entry s) := .next (.call h (fun _ hu => .routeWrite hu))

theorem KeptOut.keySwitch {slot : Word} (h : Kept r s) : KeptOut r (execKeySwitch slot s) := .next (.call h (fun _ hu => .keyIdxWrite hu))

/-! ## Resets, floors and fatal conditions (R466, R475, R484) -/

theorem KeptOut.reset {kind core : Word} {keep : Bool} (h : Kept r s) : KeptOut r (execReset kind core keep s) :=
  .next (.call h (fun _ hu => .bootResetWrite hu))

theorem Kept.raiseFloor {a lo v : ℕ} (h : Kept r s) : Kept r (s.raiseFloor a lo v) := .setOtp h

theorem KeptOut.floorRaise {which : Word} (h : Kept r s) : KeptOut r (execFloorRaise which s) := by
  unfold execFloorRaise
  refine .next (.call h (fun u hu => ?_))
  split
  · exact hu
  · exact .ite (.raiseFloor (.raiseFloor hu)) (.raiseFloor (.raiseFloor hu))

theorem Kept.fatalDevice {b : RecBody} (h : Kept r s) : Kept r (s.fatalDevice b) := .ite (.setReg (.record h)) (.moduleReset (.update (.record h)))

theorem KeptOut.fatalDeviceCondition {cause : Fin 3} {d : DieId} (h : Kept r s) : KeptOut r (execFatalDeviceCondition cause d s) :=
  .ite (.next h) (.next (.fatalDevice h))

/-! ## Shadow mode (spec/12 R411) -/

theorem Kept.comparePair {own got : Bytes} (h : Kept r s) : Kept r (s.comparePair own got) :=
  .ite h (.ite (.setRegField h) (.setRegField (.record h)))

theorem KeptOut.shadowPair {rec primary win addr : Word} {got : Option Bytes} (h : Kept r s) :
    KeptOut r (execShadowPair rec primary win addr got s) := by
  unfold execShadowPair
  extract_lets q a ok keyed
  split
  next e =>
    refine .next (.call (.snd (.iteSnd (.snooped h) (.pair h)) e) (fun u₁ hu₁ => ?_))
    split
    next e₁ => exact .comparePair (.snd (.readMem hu₁) e₁)
    next e₁ => exact (.snd (.readMem hu₁) e₁)

theorem KeptOut.shadowExit (h : Kept r s) : KeptOut r (execShadowExit s) := .next (.call h (fun _ hu => .update hu))

/-! ## Notes and time -/

theorem KeptOut.logNote {sev code d0 d1 : Word} (h : Kept r s) : KeptOut r (execLogNote sev code d0 d1 s) := .next (.call h (fun _ hu => .record hu))

theorem KeptOut.timeStep {ns : Word} (h : Kept r s) : KeptOut r (execTimeStep ns s) := .next (.call h (fun _ hu => .setReg (.update hu)))

/-! ## Keys between modules (R489) -/

theorem Kept.setKx {dev : BitVec 16} {k : Option Kx} (h : Kept r s) : Kept r (s.setKx dev k) := .update h

theorem Kept.abandonKx {dev : BitVec 16} (h : Kept r s) : Kept r (s.abandonKx dev) := .orReg (.setKx h)

theorem Kept.freshBytes {k : ℕ} (h : Kept r s) : Kept r (s.freshBytes k).2 := by
  induction k generalizing s with
  | zero =>
    rw [State.freshBytes]
    exact .pair h
  | succ k ih =>
    rw [State.freshBytes]
    split
    next e =>
      split
      next e₁ => exact .pair (.snd (ih (.snd (.fresh h) e)) e₁)

theorem Kept.kxSend {dev : BitVec 16} {kind : ℕ} {id : Word} {body : Bytes} (h : Kept r s) : Kept r (s.kxSend dev kind id body) := by
  unfold State.kxSend
  split
  next e => exact .inject (.snd (.fresh h) e)

theorem Kept.kxSendChain {dev : BitVec 16} {id : Word} (h : Kept r s) : Kept r (s.kxSendChain dev id) := .foldl h fun _ _ hu => .kxSend hu

theorem Kept.startKx {dev : BitVec 16} {slot : ℕ} {id : Word} {first : Bool} (h : Kept r s) : Kept r (s.startKx dev slot id first) :=
  .kxSendChain (.setKx h)

theorem KeptOut.keyAgree {d slot : Word} (h : Kept r s) : KeptOut r (execKeyAgree d slot s) := by
  unfold execKeyAgree
  refine .next (.call h (fun u hu => ?_))
  split
  next e => exact .startKx (.snd (.fresh hu) e)

theorem KeptIn.kxTake {slot : Fin 8} {kind : ℕ} (h : Kept r s) : KeptIn r (fun y => y.2) (s.kxTake slot kind) := by
  unfold State.kxTake
  extract_lets b src
  exact .ite .none (.some (.pair (.update h)))

theorem Kept.sendHello {k : Kx} (h : Kept r s) : Kept r (s.sendHello k) := by
  unfold State.sendHello
  split
  next e => exact .kxSend (.setKx (.snd (.freshBytes h) e))

theorem Kept.takePiece {k : Kx} {body : Bytes} (h : Kept r s) : Kept r (s.takePiece k body) :=
  .ite (.setKx h) (.ite (.abandonKx h) (.ite (.sendHello (.setKx h)) (.setKx h)))

theorem KeptOut.kxCert {slot : Fin 8} {w : Unit} (h : Kept r s) : KeptOut r (execKxCert slot w s) := by
  unfold execKxCert
  split
  · exact .next h
  next u e =>
    have hu : Kept r u := .ofSome (.kxTake h) e
    extract_lets respond
    have hrespond : ∀ v, Kept r v → Kept r (respond v) := by
      intro v hv
      unfold respond
      split
      · exact hv
      · extract_lets w
        have hw : Kept r w := .startKx hv
        split
        · exact .takePiece hw
        · exact hw
    clear_value respond
    split
    · exact .next (hrespond u hu)
    · exact .ite (.next (.takePiece hu)) (.ite (.next (hrespond _ (.abandonKx hu))) (.next hu))

theorem KeptOut.kxHello {slot : Fin 8} (h : Kept r s) : KeptOut r (execKxHello slot s) := by
  unfold execKxHello
  split
  · exact .next h
  next u e =>
    have hu : Kept r u := .ofSome (.kxTake h) e
    split
    · exact .next hu
    · refine .ite (.next hu) (.ite (.next (.abandonKx hu)) ?_)
      split
      next e₂ => exact .next (.kxSend (.setKx (.snd (.freshBytes hu) e₂)))

theorem Kept.installKey {slot dir : ℕ} {key salt : Bytes} (h : Kept r s) : Kept r (s.installKey slot dir key salt) := by
  unfold State.installKey
  exact .keyIdxWrite (.setSpanKey h)

theorem Kept.finishKx {k : Kx} (h : Kept r s) : Kept r (s.finishKx k) := .setKx (.update (.installKey (.installKey h)))

theorem KeptOut.kxReply {slot : Fin 8} {wu : Unit} (h : Kept r s) : KeptOut r (execKxReply slot wu s) := by
  unfold execKxReply
  split
  · exact .next h
  next u e =>
    have hu : Kept r u := .ofSome (.kxTake h) e
    split
    · exact .next hu
    · exact .ite (.next hu) (.ite (.next (.abandonKx hu)) (.next (.finishKx (.kxSend hu))))

theorem KeptOut.kxConfirm {slot : Fin 8} {wu : Unit} (h : Kept r s) : KeptOut r (execKxConfirm slot wu s) := by
  unfold execKxConfirm
  split
  · exact .next h
  next u e =>
    have hu : Kept r u := .ofSome (.kxTake h) e
    split
    · exact .next hu
    · exact .ite (.next hu) (.ite (.next (.finishKx hu)) (.next (.abandonKx hu)))

theorem KeptOut.kxTimeout {dev : BitVec 16} (h : Kept r s) : KeptOut r (execKxTimeout dev s) := by
  unfold execKxTimeout
  split
  · exact .ite (.next (.abandonKx h)) (.next h)
  · exact .next h

/-! ## Identity and attestation (R487, R488) -/

theorem Kept.spdmAnswer {a : SpdmAns} (h : Kept r s) : Kept r (s.spdmAnswer a) := .update h

theorem Kept.spdm {f : State → State} (h : Kept r s) (h₁ : ∀ u, Kept r u → Kept r (f u)) : Kept r (s.spdm f) := .ite (h₁ _ h) h

theorem Kept.spdmLate {f : State → State} (h : Kept r s) (h₁ : ∀ u, Kept r u → Kept r (f u)) : Kept r (s.spdmLate f) :=
  .spdm h (fun _ hu => .ite (h₁ _ hu) (.spdmAnswer hu))

theorem Kept.spdmIn {session : BitVec 32} {f : State → State} (h : Kept r s) (h₁ : ∀ u, Kept r u → Kept r (f u)) : Kept r (s.spdmIn session f) :=
  .spdmLate h (fun _ hu => .ite (h₁ _ hu) (.spdmAnswer hu))

theorem Kept.setSessions {l : List (BitVec 32 × Bool × ℕ)} (h : Kept r s) : Kept r (s.setSessions l) := .update h

theorem KeptOut.getVersion (h : Kept r s) : KeptOut r (execGetVersion s) := .next (.spdm h (fun _ hu => .update hu))

theorem KeptOut.getCapabilities {version : BitVec 8} (h : Kept r s) : KeptOut r (execGetCapabilities version s) :=
  .next (.spdm h (fun _ hu => .ite (.spdmAnswer hu) (.ite (.update hu) (.spdmAnswer hu))))

theorem KeptOut.negotiateAlgorithms {common : Bool} (h : Kept r s) : KeptOut r (execNegotiateAlgorithms common s) :=
  .next (.spdm h (fun _ hu => .ite (.spdmAnswer hu) (.ite (.update hu) (.spdmAnswer hu))))

theorem KeptOut.getDigests (h : Kept r s) : KeptOut r (execGetDigests s) := .next (.spdmLate h (fun _ hu => .spdmAnswer hu))

theorem KeptOut.getCertificate {slot : BitVec 4} {off len : ℕ} (h : Kept r s) : KeptOut r (execGetCertificate slot off len s) :=
  .next (.spdmLate h (fun _ hu => .spdmAnswer hu))

theorem KeptOut.challenge {slot : BitVec 4} {nonce : Bytes} (h : Kept r s) : KeptOut r (execChallenge slot nonce s) :=
  .next (.spdmLate h (fun _ hu => .spdmAnswer hu))

theorem KeptOut.getMeasurements {index : BitVec 8} (h : Kept r s) : KeptOut r (execGetMeasurements index s) :=
  .next (.spdmLate h (fun _ hu => .spdmAnswer hu))

theorem KeptOut.keyExchange {slot : BitVec 4} {session : BitVec 32} {exchange : Bytes} (h : Kept r s) :
    KeptOut r (execKeyExchange slot session exchange s) :=
  .next (.spdmLate h (fun _ hu => .ite (.spdmAnswer hu) (.spdmAnswer (.setSessions hu))))

theorem KeptOut.finish {session : BitVec 32} {ok : Bool} (h : Kept r s) : KeptOut r (execFinish session ok s) :=
  .next (.spdmLate h (fun _ hu => .ite (.spdmAnswer hu) (.ite (.spdmAnswer (.setSessions hu)) (.spdmAnswer (.setSessions hu)))))

theorem KeptOut.spdmHeartbeat {session : BitVec 32} (h : Kept r s) : KeptOut r (execSpdmHeartbeat session s) :=
  .next (.spdmIn h (fun _ hu => .spdmAnswer hu))

theorem KeptOut.keyUpdate {session : BitVec 32} (h : Kept r s) : KeptOut r (execKeyUpdate session s) :=
  .next (.spdmIn h (fun _ hu => .spdmAnswer (.setSessions hu)))

theorem KeptOut.endSession {session : BitVec 32} (h : Kept r s) : KeptOut r (execEndSession session s) :=
  .next (.spdmIn h (fun _ hu => .spdmAnswer (.setSessions hu)))

theorem Kept.writeOtp {a : ℕ} {bs : Bytes} (h : Kept r s) : Kept r (s.writeOtp a bs) := h.otpWrite (BitsKept.writeOtp _ _ _)

theorem KeptOut.ownershipRecord {session : BitVec 32} {owned : Bool} {serial custKey : Bytes} {sigOk : Bool} (h : Kept r s) :
    KeptOut r (execOwnershipRecord session owned serial custKey sigOk s) := by
  unfold execOwnershipRecord
  refine .next (.spdmIn h (fun u hu => .ite (.spdmAnswer hu) ?_))
  extract_lets n u₁
  have hu₁ : Kept r u₁ := .ite (.writeOtp (.writeOtp hu)) (.writeOtp hu)
  exact .spdmAnswer (.setOtp hu₁)

theorem KeptOut.ideKm {session : BitVec 32} {stream : Fin 3} {on : Bool} (h : Kept r s) : KeptOut r (execIdeKm session stream on s) :=
  .next (.spdmIn h (fun _ hu => .spdmAnswer (.setReg hu)))

/-! ## Management ports (R493, R494) -/

theorem KeptOut.netkeyWrite {who : Initiator} {v : Word} (h : Kept r s) : KeptOut r (execNetkeyWrite who v s) :=
  .next (.gateReg h (fun _ hu => .ite (.update hu) (.update hu)))

theorem KeptOut.netDatagram (h : Kept r s) : KeptOut r (execNetDatagram s) := .ite (.next h) (.next (.update h))

theorem Kept.sensor {i : ℕ} (h : Kept r s) : Kept r (s.sensor i).2 := by
  unfold State.sensor
  refine .iteSnd (.pair h) (.iteSnd (.pair h) (.iteSnd (.pair h) (.iteSnd (.pair h) (.iteSnd (.pair h) (.iteSnd ?_ (.pair h))))))
  split
  next e => exact .pair (.snd (.fresh h) e)

theorem KeptOut.pldmSensorRead {sensor : BitVec 8} (h : Kept r s) : KeptOut r (execPldmSensorRead sensor s) := by
  unfold execPldmSensorRead
  refine .ite (.next h) ?_
  split
  next e => exact .next (.update (.snd (.sensor h) e))

theorem KeptOut.pldmModuleReset (h : Kept r s) : KeptOut r (execPldmModuleReset s) := .ite (.next h) (.next (.askReset h))

theorem KeptOut.pldmComputeReset {bist : Bool} (h : Kept r s) : KeptOut r (execPldmComputeReset bist s) := .ite (.next h) (.next (.askReset h))

/-! ## The time base and the log (R491, R497) -/

theorem KeptOut.timeBaseTick (h : Kept r s) : KeptOut r (execTimeBaseTick s) := .ite (.next (.update h)) (.next h)

theorem KeptOut.timeLowRead {who : Initiator} (h : Kept r s) : KeptOut r (execTimeLowRead who s) := .ite (.next (.update h)) (.next h)

theorem KeptOut.logdataRead {who : Initiator} (h : Kept r s) : KeptOut r (execLogdataRead who s) := by
  unfold execLogdataRead
  refine .ite (.next h) ?_
  split
  next u e =>
    have hu : Kept r u := .snd (.iteSnd (.pair h) (.ringRead h)) e
    split
    next u₁ e₁ =>
      have hu₁ : Kept r u₁ := by
        refine .snd ?_ e₁
        split
        · exact .pair hu
        · exact .freshBytes hu
      exact .next (.foldl hu₁ fun _ _ hu₂ => .setReg hu₂)

/-! ## Reads -/

theorem Kept.readClear {key : ℕ} {m : Word} (h : Kept r s) : Kept r (s.readClear key m) := by
  unfold State.readClear
  refine .ite h ?_
  extract_lets u off i
  have hu : Kept r u := by
    unfold u
    split
    · exact .ite h (.setReg h)
    · exact h
  exact .ite (.modCore hu) hu

/-! ## Link and resets (R354) -/

theorem Kept.dropRings (h : Kept r s) : Kept r (s.dropRings) := by
  unfold State.dropRings
  extract_lets u
  have hu : Kept r u := .foldl h fun _ _ hu₁ => .setRegField (.setRing hu₁)
  exact .update hu

theorem KeptOut.perstAssert (h : Kept r s) : KeptOut r (execPerstAssert s) := .ite (.next h) (.next (.update (.dropRings (.setReg h))))

theorem KeptOut.perstDeassert (h : Kept r s) : KeptOut r (execPerstDeassert s) :=
  .ite (.next h) (.ite (.next (.update h)) (.next (.moduleReset (.update (.setReg (.setReg (.update h)))))))

theorem KeptOut.linkDown (h : Kept r s) : KeptOut r (execLinkDown s) := .ite (.next h) (.next (.update (.setReg h)))

theorem KeptOut.cxlLinkUp {speed : BitVec 3} {width : BitVec 6} {flit : BitVec 2} (h : Kept r s) : KeptOut r (execCxlLinkUp speed width flit s) :=
  .ite (.next h) (.next (.update (.setReg h)))

theorem KeptOut.cxlReset (h : Kept r s) : KeptOut r (execCxlReset s) := .ite (.next h) (.next (.foldl (.askReset h) fun _ _ hu => .ringCfgWrite hu))

/-! ## The mailbox (R356, R357) -/

theorem Kept.mboxDone {code : ℕ} {res : Bytes} (h : Kept r s) : Kept r (s.mboxDone code res) := .setRegField (.setReg (.update h))

theorem Kept.mailbox {opc : ℕ} {eff : State → State} (h : Kept r s) (h₁ : ∀ u, Kept r u → Kept r (eff u)) : Kept r (s.mailbox opc eff) := by
  unfold State.mailbox
  refine .ite h ?_
  split
  · exact .mboxDone h
  · exact h₁ _ h

theorem KeptOut.identify (h : Kept r s) : KeptOut r (execIdentify s) := .next (.mailbox h (fun _ hu => .mboxDone hu))

theorem KeptOut.getState (h : Kept r s) : KeptOut r (execGetState s) := .next (.mailbox h (fun _ hu => .mboxDone hu))

theorem KeptOut.getLayout (h : Kept r s) : KeptOut r (execGetLayout s) := .next (.mailbox h (fun _ hu => .mboxDone hu))

theorem KeptOut.getLogPtr (h : Kept r s) : KeptOut r (execGetLogPtr s) := .next (.mailbox h (fun _ hu => .mboxDone hu))

theorem KeptOut.getTelemetry (h : Kept r s) : KeptOut r (execGetTelemetry s) := .next (.mailbox h (fun _ hu => .mboxDone hu))

theorem Kept.reqReset {flag : ℕ} {r' : ResetReq} (h : Kept r s) : Kept r (s.reqReset flag r') :=
  .ite (.mboxDone h) (.ite (.mboxDone h) (.askReset (.mboxDone h)))

theorem KeptOut.reqComputeReset (h : Kept r s) : KeptOut r (execReqComputeReset s) := .next (.mailbox h (fun _ hu => .reqReset hu))

theorem KeptOut.reqModuleReset (h : Kept r s) : KeptOut r (execReqModuleReset s) := .next (.mailbox h (fun _ hu => .reqReset hu))

/-! ## Limits (R505, R507) -/

theorem Kept.lowerMv {d mv : ℕ} (h : Kept r s) : Kept r (s.lowerMv d mv) := .ite h (.setRegField h)

/-! ## Input power (R507) -/

theorem KeptOut.powerSample {watts vin : BitVec 16} (h : Kept r s) : KeptOut r (execPowerSample watts vin s) := by
  unfold execPowerSample
  refine .ite (.next h) ?_
  extract_lets u w src p u₁ u₂
  have hu : Kept r u := .ite (.orReg h) h
  have hu₁ : Kept r u₁ := .dieEvent (.update hu)
  have hu₂ : Kept r u₂ := .setReg hu₁
  exact .ite (.next (.foldl hu₂ fun _ _ hu₃ => .orReg (.lowerMv hu₃))) (.next hu₂)

theorem Kept.stepDie {env : Bool} {total d : ℕ} (h : Kept r s) : Kept r (s.stepDie env total d) :=
  .ite (.ite (.orReg (.count (.lowerMv h))) (.count (.lowerMv h))) (.ite (.orReg (.count (.lowerMv h))) (.ite (.lowerMv h) (.ite (.setRegField h) h)))

theorem KeptOut.powerControlStep {dies : List (BitVec 16 × BitVec 14 × BitVec 10)} (h : Kept r s) : KeptOut r (execPowerControlStep dies s) := by
  unfold execPowerControlStep
  refine .ite (.next h) ?_
  extract_lets u w src u₁ env u₂ src₁
  have hu : Kept r u := .foldl h fun _ _ hu₃ => .setRegField (.setRegField hu₃)
  have hu₁ : Kept r u₁ := .update hu
  have hu₂ : Kept r u₂ := .foldl hu₁ fun _ _ hu₃ => .stepDie hu₃
  exact .next (.update hu₂)

/-! ## Temperature, droop and pace (R505, R506, R509, R511) -/

theorem KeptOut.thermalSample {d : DieId} {temps : List (BitVec 8)} {rowMw : List (BitVec 16)} (h : Kept r s) :
    KeptOut r (execThermalSample d temps rowMw s) := by
  unfold execThermalSample
  refine .ite (.next h) ?_
  extract_lets t i c u u₁ lim src
  have hu : Kept r u := .setReg h
  have hu₁ : Kept r u₁ := .foldl hu fun _ _ hu₂ => .setReg hu₂
  exact .ite (.next (.stopAll (.record hu₁))) (.ite (.next (.update hu₁)) (.ite (.next (.update hu₁)) (.next hu₁)))

theorem KeptOut.vcoreDroop {d : DieId} {mv : BitVec 14} {long : Bool} (h : Kept r s) : KeptOut r (execVcoreDroop d mv long s) := by
  unfold execVcoreDroop
  refine .ite (.next h) ?_
  extract_lets u src u₁
  have hu : Kept r u := .orReg (.setRegField (.setRegField h))
  have hu₁ : Kept r u₁ := .update hu
  exact .ite (.next (.fatalDevice hu₁)) (.next hu₁)

theorem KeptOut.paceMeasure {d : DieId} {ps : BitVec 16} (h : Kept r s) : KeptOut r (execPaceMeasure d ps s) :=
  .ite (.next h) (.next (.setRegField (.setRegField h)))

/-! ## Register accesses -/

theorem Kept.via {o : Host.Outcome State Fault Refusal} (h : KeptOut r o) : Kept r (s.via o) := by
  cases h
  assumption

/-! ## Writes with a rule of their own -/

theorem Kept.evcCtl {n : ℕ} {v : Word} (h : Kept r s) : Kept r (s.evcCtl n v) :=
  .foldl h fun _ _ hu => .ite (.ite (.orReg hu) hu) (.ite (.setReg (.setReg hu)) (.setReg hu))

theorem Kept.evcReg {n i key : ℕ} {v : Word} (h : Kept r s) : Kept r (s.evcReg n i key v) := .ite (.orReg h) (.regWrite h)

theorem Kept.evcDctl {d : ℕ} {v : Word} (h : Kept r s) : Kept r (s.evcDctl d v) := .foldl (.setReg h) fun _ _ hu => .ite (.setReg hu) hu

theorem Kept.pprWrite {who : Initiator} {key : ℕ} {v : Word} (h : Kept r s) : Kept r (s.pprWrite who key v) := by
  unfold State.pprWrite
  extract_lets u
  have hu : Kept r u := .ite (.gate h (fun _ hu₁ => .setReg hu₁)) h
  exact .ite (.gate hu (fun _ hu₁ => .ite (.setReg hu₁) hu₁)) hu

theorem Kept.pwrReject {d : ℕ} (h : Kept r s) : Kept r (s.pwrReject d) := .orReg h

theorem Kept.pwrWrite {who : Initiator} {d off : ℕ} {v : Word} (h : Kept r s) : Kept r (s.pwrWrite who d off v) :=
  .ite h (.gate h (fun _ hu => .ite (.regWrite hu) (.pwrReject hu)))

theorem Kept.smdCmdWrite {who : Initiator} {d : ℕ} {v : Word} (h : Kept r s) : Kept r (s.smdCmdWrite who d v) :=
  .ite (.ite (.gateReg h (fun _ hu => .smdStat hu)) (.smdStat h)) (.ite (.ite h (.smdCmd h)) (.gateReg h (fun _ hu => .setRegField hu)))

theorem Kept.ringAddrWrite {r' key : ℕ} {v : Word} (h : Kept r s) : Kept r (s.ringAddrWrite r' key v) := .ite (.orReg h) (.ite h (.regWrite h))

theorem Kept.mboxWrite {off n v : ℕ} (h : Kept r s) : Kept r (s.mboxWrite off n v) := .ite (.orReg h) (.update h)

/-! ## Writes by page -/

theorem Kept.writeCore {who : Initiator} {n off : ℕ} {v : Word} (h : Kept r s) : Kept r (s.writeCore who n off v) := by
  unfold State.writeCore
  extract_lets key c plain s1
  have hplain : Kept r plain := .gateReg h (fun _ hu => .regWrite hu)
  have hs1 : Kept r s1 := .via (.seqHold h)
  refine .ite (.via (.arrRepairWrite h))
    (.ite (.via (.diagPass h)) (.ite (.ite h (.via (.drnCfgWrite h))) (.ite (.gateReg h (fun _ hu => .ite (.regWrite hu) hu))
    (.ite (.via (.rowStatwinWrite h)) (.ite (.ite hs1 (.via (.seqKill hs1))) (.ite (.ite (.gateReg h (fun _ hu => .ite (.modTask hu) hu)) h)
    (.ite (.via (.spadPwrWrite h)) (.ite (.via (.ite (.latStopSet h) (.latStopClear h)))
    (.ite (.via (.latSlackWrite h)) (.ite (.via (.posyRead h)) (.ite (.gateReg h (fun _ hu => .ite (.regWrite hu) hu))
    (.ite (.gateReg h (fun u hu => ?_)) (.ite (.gateReg h (fun _ hu => .ite (.regWrite hu) (.coreStat hu)))
    (.ite (.gateReg h (fun _ hu => .ite (.regWrite hu) hu)) (.ite (.gateReg h (fun _ hu => .evcCtl hu)) (.ite (.gateReg h (fun _ hu => .evcReg hu))
    (.ite (.gateReg h (fun _ hu => .evcReg hu)) hplain)))))))))))))))))
  split
  · exact .markPort hu
  · exact hu

theorem Kept.writeSlot {who : Initiator} {p off : ℕ} {v : Word} (h : Kept r s) : Kept r (s.writeSlot who p off v) := by
  unfold State.writeSlot
  refine .gateReg h (fun u hu => .ite (.markPort hu) (.ite (.ite (.regWrite hu) (.orReg hu)) ?_))
  split
  · exact .ite (.regWrite hu) (.regWrite hu)
  · exact hu

theorem Kept.writeDie {who : Initiator} {d off : ℕ} {v : Word} (h : Kept r s) : Kept r (s.writeDie who d off v) := by
  unfold State.writeDie
  extract_lets key die plain inBank
  have hplain : Kept r plain := .gateReg h (fun _ hu => .regWrite hu)
  exact .ite (.gateReg h (fun _ hu => .ite (.regWrite hu) hu))
    (.ite (.pprWrite h) (.ite (.via (.rtlCfgWrite h))
    (.ite (.pwrWrite h) (.ite (.gateReg h (fun _ hu => .evcDctl hu))
    (.ite (.via (.seamRprWrite h))
    (.ite (.via (.escdataWrite h)) (.ite (.smdCmdWrite h) (.ite (.gateReg h (fun _ hu => .ite (.regWrite hu) (.smdStat hu))) hplain))))))))

theorem KeptIn.writeModA {who : Initiator} {key : ℕ} {v : Word} (h : Kept r s) : KeptIn r (fun y => y) (s.writeModA who key v) := by
  unfold State.writeModA
  refine .ite (.some (.gateReg h (fun _ hu => .ite (.regWrite hu) hu))) (.ite (.some (.gateReg h (fun _ hu => .ite (.orReg hu) (.regWrite hu))))
    (.ite ?_ (.ite (.some (.gateReg h (fun _ hu => .ite (.regWrite hu) hu)))
    (.ite (.some (.via (.netkeyWrite h))) (.ite (.some (.via (.shadowlocWrite h))) (.ite (.some (.gateReg h (fun _ hu => .bootResetWrite hu)))
    .none))))))
  extract_lets r' ring
  split
  · exact .some (.gateReg h (fun _ hu => .ringAddrWrite hu))
  · exact .some (.gateReg h (fun _ hu => .ringAddrWrite hu))
  · exact .some (.gateReg h (fun _ hu => .ringAddrWrite hu))
  · exact .some (.via (.ite (.ringEnable h) (.ringDisable h)))
  · exact .none

theorem KeptIn.writeModB {who : Initiator} {key : ℕ} {v : Word} (h : Kept r s) : KeptIn r (fun y => y) (s.writeModB who key v) := by
  unfold State.writeModB
  refine .ite (.some (.via (.tierPolicyWrite h))) (.ite (.some (.via (.spanCtrlWrite h)))
    (.ite (.some (.via (.txphaseWrite h))) (.ite (.some (.via (.keydataWrite h))) (.ite (.some (.via (.spanWindowWrite h)))
    (.ite (.some (.via (.routeEntryWrite h))) (.ite (.some (.gateReg h (fun _ hu => .ite (.regWrite hu) (.smdStat hu)))) (.ite ?_ .none)))))))
  extract_lets g o
  exact .ite (.some (.via (.bcnGcfgWrite h))) (.ite (.some (.via (.beaconClear h))) (.ite (.some (.via (.bcnGcfgWrite h))) .none))

theorem Kept.writeKey {who : Initiator} {key : ℕ} {v : Word} (h : Kept r s) : Kept r (s.writeKey who key v) := by
  unfold State.writeKey
  split
  · exact h
  · refine .ite h (.ite (.writeCore h) (.ite (.writeSlot h) (.ite (.writeDie h) ?_)))
    split
    next e₁ => exact (.ofSome (.writeModA h) e₁)
    · split
      next e₂ => exact (.ofSome (.writeModB h) e₂)
      · exact .gateReg h (fun _ hu => .regWrite hu)

/-! ## SMD_PXDATA (spec/13, spec/15 R477) -/

theorem Kept.pxRead {who : Initiator} {d : ℕ} {m : Word} (h : Kept r s) : Kept r (s.pxRead who d m).2 := by
  unfold State.pxRead
  split
  · extract_lets off
    refine .iteSnd (.pair h) (.iteSnd ?_ (.pair (.readClear h)))
    split
    next e₁ => exact .pair (.snd (.fresh h) e₁)

theorem Kept.pxWrite {who : Initiator} {d : ℕ} {v : Word} (h : Kept r s) : Kept r (s.pxWrite who d v) := by
  unfold State.pxWrite
  split
  · exact .ite h (.writeKey h)

/-! ## Commands -/

theorem KeptOut.smdPxdataAccess {who : Initiator} {d : DieId} {acc : PageAccess} (h : Kept r s) : KeptOut r (execSmdPxdataAccess who d acc s) := by
  unfold execSmdPxdataAccess
  extract_lets key
  split
  · exact .next (.ite (.treeAccess h) h)
  · exact .next (.ite (.pxWrite h) h)
  · refine .ite ?_ (.next (.update h))
    split
    next e => exact .next (.update (.snd (.pxRead h) e))

theorem Kept.readKey {who : Initiator} {key : ℕ} {m : Word} (h : Kept r s) : Kept r (s.readKey who key m).2 := by
  unfold State.readKey
  refine .iteSnd ?_ (.iteSnd ?_ (.iteSnd (.pxRead h) (.pair (.readClear h))))
  · extract_lets held src
    exact .iteSnd (.pair (.update h)) (.iteSnd (.pair (.via (.timeLowRead h))) (.pair h))
  · extract_lets u
    have hu : Kept r u := .via (.logdataRead h)
    exact .pair hu

/-! ## Control and scalar instructions -/

theorem KeptTry.ofDoneG {n t : ℕ} {f : InsnBits} {v : Word} (h : Kept r s) : KeptTry r (doneG n t f v s) := .done (.modTask h)

theorem KeptTry.nop (h : Kept r s) : KeptTry r (tryNop s) := .done h

theorem KeptTry.end {n t : ℕ} (h : Kept r s) : KeptTry r (tryEnd n t s) := .stop (.endTask h)

theorem KeptTry.br {n t : ℕ} {f : InsnBits} (h : Kept r s) : KeptTry r (tryBr n t f s) := .jump h

theorem KeptTry.jr {n t : ℕ} {f : InsnBits} (h : Kept r s) : KeptTry r (tryJr n t f s) := .jump h

theorem KeptTry.loop {n t : ℕ} {f : InsnBits} (h : Kept r s) : KeptTry r (tryLoop n t f s) :=
  .ite (.done h) (.ite (.done (.setTask h)) (.jump (.ite (.setTask h) h)))

theorem KeptTry.kset {n t : ℕ} {f : InsnBits} (h : Kept r s) : KeptTry r (tryKset n t f s) := .done (.modTask h)

theorem KeptTry.fault {n t : ℕ} {f : InsnBits} (h : Kept r s) : KeptTry r (tryFault n t f s) := .stop (.endTask h)

theorem KeptTry.time {n t : ℕ} {f : InsnBits} (h : Kept r s) : KeptTry r (tryTime n t f s) := .ofDoneG h

theorem KeptTry.alu {op n t : ℕ} {f : InsnBits} (h : Kept r s) : KeptTry r (tryAlu op n t f s) := .ofDoneG h

theorem KeptTry.movi {n t : ℕ} {f : InsnBits} (h : Kept r s) : KeptTry r (tryMovi n t f s) := .ofDoneG h

theorem KeptTry.movhi {n t : ℕ} {f : InsnBits} (h : Kept r s) : KeptTry r (tryMovhi n t f s) := .ofDoneG h

theorem KeptTry.cmp {n t : ℕ} {f : InsnBits} (h : Kept r s) : KeptTry r (tryCmp n t f s) := .done (.modTask h)

theorem KeptTry.plog {n t : ℕ} {f : InsnBits} (h : Kept r s) : KeptTry r (tryPlog n t f s) := .done (.modTask h)

theorem KeptTry.aadd {n t : ℕ} {f : InsnBits} (h : Kept r s) : KeptTry r (tryAadd n t f s) := .done (.modTask h)

theorem KeptTry.movr {n t : ℕ} {f : InsnBits} (h : Kept r s) : KeptTry r (tryMovr n t f s) := .done (.modTask h)

theorem KeptOut.nop {c : CoreId} {t : TaskSlot} {f : InsnBits} (h : Kept r s) : KeptOut r (execNop c t f s) :=
  .next (.issue h (fun _ _ _ hu => .nop hu))

theorem KeptOut.end {c : CoreId} {t : TaskSlot} {f : InsnBits} (h : Kept r s) : KeptOut r (execEnd c t f s) :=
  .next (.issue h (fun _ _ _ hu => .end hu))

theorem KeptOut.br {c : CoreId} {t : TaskSlot} {f : InsnBits} (h : Kept r s) : KeptOut r (execBr c t f s) := .next (.issue h (fun _ _ _ hu => .br hu))

theorem KeptOut.jr {c : CoreId} {t : TaskSlot} {f : InsnBits} (h : Kept r s) : KeptOut r (execJr c t f s) := .next (.issue h (fun _ _ _ hu => .jr hu))

theorem KeptOut.loop {c : CoreId} {t : TaskSlot} {f : InsnBits} (h : Kept r s) : KeptOut r (execLoop c t f s) :=
  .next (.issue h (fun _ _ _ hu => .loop hu))

theorem KeptOut.kset {c : CoreId} {t : TaskSlot} {f : InsnBits} (h : Kept r s) : KeptOut r (execKset c t f s) :=
  .next (.issue h (fun _ _ _ hu => .kset hu))

theorem KeptOut.fault {c : CoreId} {t : TaskSlot} {f : InsnBits} (h : Kept r s) : KeptOut r (execFault c t f s) :=
  .next (.issue h (fun _ _ _ hu => .fault hu))

theorem KeptOut.time {c : CoreId} {t : TaskSlot} {f : InsnBits} (h : Kept r s) : KeptOut r (execTime c t f s) :=
  .next (.issue h (fun _ _ _ hu => .time hu))

theorem KeptOut.add {c : CoreId} {t : TaskSlot} {f : InsnBits} (h : Kept r s) : KeptOut r (execAdd c t f s) :=
  .next (.issue h (fun _ _ _ hu => .alu hu))

theorem KeptOut.sub {c : CoreId} {t : TaskSlot} {f : InsnBits} (h : Kept r s) : KeptOut r (execSub c t f s) :=
  .next (.issue h (fun _ _ _ hu => .alu hu))

theorem KeptOut.mul {c : CoreId} {t : TaskSlot} {f : InsnBits} (h : Kept r s) : KeptOut r (execMul c t f s) :=
  .next (.issue h (fun _ _ _ hu => .alu hu))

theorem KeptOut.and {c : CoreId} {t : TaskSlot} {f : InsnBits} (h : Kept r s) : KeptOut r (execAnd c t f s) :=
  .next (.issue h (fun _ _ _ hu => .alu hu))

theorem KeptOut.or {c : CoreId} {t : TaskSlot} {f : InsnBits} (h : Kept r s) : KeptOut r (execOr c t f s) :=
  .next (.issue h (fun _ _ _ hu => .alu hu))

theorem KeptOut.xor {c : CoreId} {t : TaskSlot} {f : InsnBits} (h : Kept r s) : KeptOut r (execXor c t f s) :=
  .next (.issue h (fun _ _ _ hu => .alu hu))

theorem KeptOut.shl {c : CoreId} {t : TaskSlot} {f : InsnBits} (h : Kept r s) : KeptOut r (execShl c t f s) :=
  .next (.issue h (fun _ _ _ hu => .alu hu))

theorem KeptOut.shr {c : CoreId} {t : TaskSlot} {f : InsnBits} (h : Kept r s) : KeptOut r (execShr c t f s) :=
  .next (.issue h (fun _ _ _ hu => .alu hu))

theorem KeptOut.sar {c : CoreId} {t : TaskSlot} {f : InsnBits} (h : Kept r s) : KeptOut r (execSar c t f s) :=
  .next (.issue h (fun _ _ _ hu => .alu hu))

theorem KeptOut.min {c : CoreId} {t : TaskSlot} {f : InsnBits} (h : Kept r s) : KeptOut r (execMin c t f s) :=
  .next (.issue h (fun _ _ _ hu => .alu hu))

theorem KeptOut.max {c : CoreId} {t : TaskSlot} {f : InsnBits} (h : Kept r s) : KeptOut r (execMax c t f s) :=
  .next (.issue h (fun _ _ _ hu => .alu hu))

theorem KeptOut.movi {c : CoreId} {t : TaskSlot} {f : InsnBits} (h : Kept r s) : KeptOut r (execMovi c t f s) :=
  .next (.issue h (fun _ _ _ hu => .movi hu))

theorem KeptOut.movhi {c : CoreId} {t : TaskSlot} {f : InsnBits} (h : Kept r s) : KeptOut r (execMovhi c t f s) :=
  .next (.issue h (fun _ _ _ hu => .movhi hu))

theorem KeptOut.cmp {c : CoreId} {t : TaskSlot} {f : InsnBits} (h : Kept r s) : KeptOut r (execCmp c t f s) :=
  .next (.issue h (fun _ _ _ hu => .cmp hu))

theorem KeptOut.plog {c : CoreId} {t : TaskSlot} {f : InsnBits} (h : Kept r s) : KeptOut r (execPlog c t f s) :=
  .next (.issue h (fun _ _ _ hu => .plog hu))

theorem KeptOut.aadd {c : CoreId} {t : TaskSlot} {f : InsnBits} (h : Kept r s) : KeptOut r (execAadd c t f s) :=
  .next (.issue h (fun _ _ _ hu => .aadd hu))

theorem KeptOut.movr {c : CoreId} {t : TaskSlot} {f : InsnBits} (h : Kept r s) : KeptOut r (execMovr c t f s) :=
  .next (.issue h (fun _ _ _ hu => .movr hu))

/-! ## The vector unit -/

theorem KeptAcc.vecIn {n t : ℕ} {v : Vec} {g : Word} {i : ℕ} (h : Kept r s) : KeptAcc r (s.vecIn n t v g i) := .ite (.ok h) (.readRow h)

theorem KeptAcc.vecIns {n t : ℕ} {v : Vec} {g : Word} {k i : ℕ} (h : Kept r s) : KeptAcc r (s.vecIns n t v g k i) := by
  induction k generalizing s i with
  | zero =>
    rw [State.vecIns]
    exact .ok h
  | succ k ih =>
    rw [State.vecIns]
    split
    next u _ _ e =>
      have hu : Kept r u := .ofOk (.vecIn h) e
      split
      next w _ _ e => exact .ok (.ofOk (ih hu) e)
      · exact .held
      · exact .access
      next w e => exact .ue (.ofUe (ih hu) e)
    · exact .held
    · exact .access
    next u e => exact .ue (.ofUe (.vecIn h) e)

theorem KeptTry.rowCfgFault {n t : ℕ} (h : Kept r s) : KeptTry r (s.rowCfgFault n t) := .stop (.endTask (.coreStat h))

theorem KeptTry.vecOut {n t : ℕ} {addr : Word} {ws : List (ℕ × Bytes)} {f : Flags} (h : Kept r s) : KeptTry r (s.vecOut n t addr ws f) := by
  unfold State.vecOut
  split
  · exact .wait h
  next e₁ => exact .async (.unitWrites (.ofSome (.openWindow h) e₁)) h (fun _ hu₁ _ => .done (.winFlags (.vecFlags hu₁)))

theorem KeptTry.ofInVecOrder {n t : ℕ} {body : State → Try} (h : ∀ u, Kept r u → KeptTry r (body u)) (h₁ : Kept r s) :
    KeptTry r (inVecOrder n t body s) := by
  unfold inVecOrder
  extract_lets c q line keep leave
  have hkeep : ∀ u, Kept r u → Kept r (keep u) := fun _ hu => .modCore hu
  have hleave : ∀ u, Kept r u → Kept r (leave u) := fun _ hu => .ite (.modCore hu) hu
  refine .ite (.wait (hkeep _ h₁)) ?_
  split
  next e => exact .done (hleave _ (.ofDone (h _ h₁) e))
  next e => exact .jump (hleave _ (.ofJump (h _ h₁) e))
  next e => exact .stop (hleave _ (.ofStop (h _ h₁) e))
  next e => exact .wait (hkeep _ (.ofWait (h _ h₁) e))

theorem KeptTry.vop {op n t : ℕ} {f : InsnBits} (h : Kept r s) : KeptTry r (tryVop op n t f s) := by
  unfold tryVop
  refine .ofInVecOrder (fun u hu => .acc (.block hu) hu (fun u₁ hu₁ x => .ite (.rowCfgFault hu₁) (.async (.vecIns hu₁) hu₁ (fun u₂ hu₂ x₁ => ?_)))) h
  split
  · exact .vecOut hu₂

theorem KeptAcc.turnRows {n t : ℕ} {v : Vec} {xs : List ℕ} (h : Kept r s) : KeptAcc r (s.turnRows n t v xs) := by
  induction xs generalizing s with
  | nil =>
    rw [State.turnRows]
    exact .ok h
  | cons x xs ih =>
    rw [State.turnRows]
    split
    next u _ _ e =>
      have hu : Kept r u := .ofOk (.readRow h) e
      split
      next e₁ => exact .ok (.ofOk (ih hu) e₁)
      · exact .held
      · exact .access
      next e₁ => exact .ue (.ofUe (ih hu) e₁)
    · exact .held
    · exact .access
    next e => exact .ue (.ofUe (.readRow h) e)

theorem KeptTry.vturn {n t : ℕ} {f : InsnBits} (h : Kept r s) : KeptTry r (tryVturn n t f s) := by
  unfold tryVturn
  refine .ofInVecOrder (fun u hu => .acc (.block hu) hu (fun u₁ hu₁ x => .ite (.rowCfgFault hu₁) (.async (.turnRows hu₁) hu₁ (fun u₂ hu₂ x₁ => ?_))))
    h
  split
  · exact .vecOut hu₂

theorem Kept.issueVec {op c t : ℕ} {f : InsnBits} (h : Kept r s) : Kept r (s.issueVec op c t f) := .issue h (fun _ _ _ hu => .vop hu)

theorem KeptOut.vopAdd {c : CoreId} {t : TaskSlot} {f : InsnBits} (h : Kept r s) : KeptOut r (execVopAdd c t f s) := .next (.issueVec h)

theorem KeptOut.vopSub {c : CoreId} {t : TaskSlot} {f : InsnBits} (h : Kept r s) : KeptOut r (execVopSub c t f s) := .next (.issueVec h)

theorem KeptOut.vopMul {c : CoreId} {t : TaskSlot} {f : InsnBits} (h : Kept r s) : KeptOut r (execVopMul c t f s) := .next (.issueVec h)

theorem KeptOut.vopFma {c : CoreId} {t : TaskSlot} {f : InsnBits} (h : Kept r s) : KeptOut r (execVopFma c t f s) := .next (.issueVec h)

theorem KeptOut.vopMin {c : CoreId} {t : TaskSlot} {f : InsnBits} (h : Kept r s) : KeptOut r (execVopMin c t f s) := .next (.issueVec h)

theorem KeptOut.vopMax {c : CoreId} {t : TaskSlot} {f : InsnBits} (h : Kept r s) : KeptOut r (execVopMax c t f s) := .next (.issueVec h)

theorem KeptOut.vopAbs {c : CoreId} {t : TaskSlot} {f : InsnBits} (h : Kept r s) : KeptOut r (execVopAbs c t f s) := .next (.issueVec h)

theorem KeptOut.vopNeg {c : CoreId} {t : TaskSlot} {f : InsnBits} (h : Kept r s) : KeptOut r (execVopNeg c t f s) := .next (.issueVec h)

theorem KeptOut.vopCmp {c : CoreId} {t : TaskSlot} {f : InsnBits} (h : Kept r s) : KeptOut r (execVopCmp c t f s) := .next (.issueVec h)

theorem KeptOut.vopSel {c : CoreId} {t : TaskSlot} {f : InsnBits} (h : Kept r s) : KeptOut r (execVopSel c t f s) := .next (.issueVec h)

theorem KeptOut.vopCvt {c : CoreId} {t : TaskSlot} {f : InsnBits} (h : Kept r s) : KeptOut r (execVopCvt c t f s) := .next (.issueVec h)

theorem KeptOut.vopDiv {c : CoreId} {t : TaskSlot} {f : InsnBits} (h : Kept r s) : KeptOut r (execVopDiv c t f s) := .next (.issueVec h)

theorem KeptOut.vopRcp {c : CoreId} {t : TaskSlot} {f : InsnBits} (h : Kept r s) : KeptOut r (execVopRcp c t f s) := .next (.issueVec h)

theorem KeptOut.vopSqrt {c : CoreId} {t : TaskSlot} {f : InsnBits} (h : Kept r s) : KeptOut r (execVopSqrt c t f s) := .next (.issueVec h)

theorem KeptOut.vopRsqrt {c : CoreId} {t : TaskSlot} {f : InsnBits} (h : Kept r s) : KeptOut r (execVopRsqrt c t f s) := .next (.issueVec h)

theorem KeptOut.vopExp2 {c : CoreId} {t : TaskSlot} {f : InsnBits} (h : Kept r s) : KeptOut r (execVopExp2 c t f s) := .next (.issueVec h)

theorem KeptOut.vopLog2 {c : CoreId} {t : TaskSlot} {f : InsnBits} (h : Kept r s) : KeptOut r (execVopLog2 c t f s) := .next (.issueVec h)

theorem KeptOut.vopExp {c : CoreId} {t : TaskSlot} {f : InsnBits} (h : Kept r s) : KeptOut r (execVopExp c t f s) := .next (.issueVec h)

theorem KeptOut.vopLog {c : CoreId} {t : TaskSlot} {f : InsnBits} (h : Kept r s) : KeptOut r (execVopLog c t f s) := .next (.issueVec h)

theorem KeptOut.vopFunc {c : CoreId} {t : TaskSlot} {f : InsnBits} (h : Kept r s) : KeptOut r (execVopFunc c t f s) := .next (.issueVec h)

theorem KeptOut.vopRsum {c : CoreId} {t : TaskSlot} {f : InsnBits} (h : Kept r s) : KeptOut r (execVopRsum c t f s) := .next (.issueVec h)

theorem KeptOut.vopRdot {c : CoreId} {t : TaskSlot} {f : InsnBits} (h : Kept r s) : KeptOut r (execVopRdot c t f s) := .next (.issueVec h)

theorem KeptOut.vopRssq {c : CoreId} {t : TaskSlot} {f : InsnBits} (h : Kept r s) : KeptOut r (execVopRssq c t f s) := .next (.issueVec h)

theorem KeptOut.vopRmax {c : CoreId} {t : TaskSlot} {f : InsnBits} (h : Kept r s) : KeptOut r (execVopRmax c t f s) := .next (.issueVec h)

theorem KeptOut.vopRmin {c : CoreId} {t : TaskSlot} {f : InsnBits} (h : Kept r s) : KeptOut r (execVopRmin c t f s) := .next (.issueVec h)

theorem KeptOut.vturn {c : CoreId} {t : TaskSlot} {f : InsnBits} (h : Kept r s) : KeptOut r (execVturn c t f s) :=
  .next (.issue h (fun _ _ _ hu => .vturn hu))

/-! ## Waits of a task -/

theorem KeptTryIn.ofScalarBody {opc n t : ℕ} {f : InsnBits} (h : Kept r s) : KeptTryIn r (scalarBody opc n t f s) := by
  unfold scalarBody
  split
  · exact .some (.nop h)
  · exact .some (.end h)
  · exact .some (.br h)
  · exact .some (.jr h)
  · exact .some (.loop h)
  · exact .some (.kset h)
  · exact .some (.fault h)
  · exact .some (.time h)
  · exact .some (.alu h)
  · exact .some (.alu h)
  · exact .some (.alu h)
  · exact .some (.alu h)
  · exact .some (.alu h)
  · exact .some (.alu h)
  · exact .some (.alu h)
  · exact .some (.alu h)
  · exact .some (.alu h)
  · exact .some (.alu h)
  · exact .some (.alu h)
  · exact .some (.movi h)
  · exact .some (.movhi h)
  · exact .some (.cmp h)
  · exact .some (.plog h)
  · exact .some (.aadd h)
  · exact .some (.movr h)
  · exact .some (.ld h)
  · exact .some (.st h)
  · exact .none

theorem KeptTryIn.ofUnitBody {opc n t : ℕ} {f : InsnBits} (h : Kept r s) : KeptTryIn r (unitBody opc n t f s) := by
  unfold unitBody
  split
  · exact .some (.wload h)
  · exact .some (.stream h)
  · exact .some (.dset h)
  · exact .some (.uwait h)
  · exact .some (.rowop h)
  · exact .some (.vop h)
  · exact .some (.vturn h)
  · exact .some (.dma h)
  · exact .some (.dmawait h)
  · exact .some (.tpref h)
  · exact .none

theorem KeptTryIn.ofNetBody {opc n t : ℕ} {f : InsnBits} {stage keep : ℕ} (h : Kept r s) : KeptTryIn r (netBody opc n t f stage keep s) := by
  unfold netBody
  split
  · exact .some (.sendw h)
  · exact .some (.sendd h)
  · exact .some (.msend h)
  · exact .some (.recv h)
  · exact .some (.recvt h)
  · exact .some (.recvc h)
  · exact .some (.qdone h)
  · exact .some (.shfadd h)
  · exact .some (.shfend h)
  · exact .some (.shfrecv h)
  · exact .some (.bar h)
  · exact .some (.waitseal h)
  · exact .some (.sealq h)
  · exact .some (.ember h)
  · exact .some (.cfgsw h)
  · exact .some (.cfgld h)
  · exact .some (.epoch h)
  · exact .some (.evsel h)
  · exact .some (.evctl h)
  · exact .some (.evrd h)
  · exact .none

theorem KeptTry.ofBodyOf {opc n t : ℕ} {f : InsnBits} {stage keep : ℕ} (h : Kept r s) : KeptTry r (bodyOf opc n t f stage keep s) := by
  unfold bodyOf
  split
  next e => exact .ofSome (.ofScalarBody h) e
  · split
    next e => exact .ofSome (.ofUnitBody h) e
    · have hn : KeptTryIn r (netBody opc n t f stage keep s) := .ofNetBody h
      generalize netBody opc n t f stage keep s = o at hn
      cases hn with
      | none => exact .stop h
      | some hx => exact hx

theorem KeptOut.waitConditionMet {c : CoreId} {t : TaskSlot} (h : Kept r s) : KeptOut r (execWaitConditionMet c t s) := by
  unfold execWaitConditionMet
  extract_lets k
  split
  · exact .ite (.next (.attempt h (fun _ _ _ hu => .ofBodyOf hu))) (.next h)
  · exact .next h

theorem KeptOut.waitTimeout {c : CoreId} {t : TaskSlot} (h : Kept r s) : KeptOut r (execWaitTimeout c t s) := by
  unfold execWaitTimeout
  refine .ite (.next h) ?_
  split
  · exact .next (.endTask h)
  · split
    · exact .next (.endAsync h)
    · exact .next h

end kept

end Sys2Proof.Machine
end

section
/-! PROOFS. What every command keeps, and the statements about every command: O2, O3, O5 and O57. -/

namespace Sys2Proof.Machine

open Sys2Proof.Claims

/-! ## Register accesses, the one kind of command that may be refused -/

section kept
variable {r s : State}

/-- A write of a register keeps it, or stops at the component registers. -/
theorem registerWrite_kept_or_refused {who : Initiator} {off : BitVec 32} {size : ℕ} {v : Word} (h : Kept r s) :
    KeptOut r (execRegisterWrite who off size v s) ∨
      (execRegisterWrite who off size v s = .refused .cxlComponentRegister ∧ isComponent off.toNat = true) := by
  unfold execRegisterWrite
  extract_lets o key m w px full
  split
  · exact .inl (.next h)
  split
  next hc =>
    split
    · exact .inl (.next h)
    · exact .inr ⟨rfl, hc⟩
  · exact .inl (.ite (.next (.gate h fun _ hu => .mboxWrite hu)) (.ite (.next (.ite (.pxWrite h) h)) (.next (.writeKey h))))

/-- A read that clears what it returns keeps it, or stops at the component registers. -/
theorem readToClear_kept_or_refused {who : Initiator} {off : BitVec 32} {size : ℕ} (h : Kept r s) :
    KeptOut r (execReadToClear who off size s) ∨ (execReadToClear who off size s = .refused .cxlComponentRegister ∧ isComponent off.toNat = true) := by
  unfold execReadToClear
  extract_lets o m
  split
  · exact .inl (.next (.update h))
  split
  · exact .inl (.next (.update h))
  split
  next hc => exact .inr ⟨rfl, hc⟩
  · have hread : Kept r (s.readKey who (o - o % 8) m).2 := .readKey h
    exact .inl (.next (.update hread))
end kept

/-! ## Every command -/

/-- An instruction that is an access to the component registers, which are named and not laid out. -/
def AtComponent : Instr → Prop
  | .registerWrite _ off _ _ | .readToClear _ off _ => isComponent off.toNat = true
  | _ => False

/-- Every command keeps it, or is an access to the component registers, which stops. -/
theorem exec_kept_or_refused (i : Instr) (s : State) :
    KeptOut s (exec i s) ∨ (exec i s = .refused .cxlComponentRegister ∧ AtComponent i) := by
  have h : Kept s s := .refl s
  cases i with
  | registerWrite => exact registerWrite_kept_or_refused h
  | readToClear => exact readToClear_kept_or_refused h
  | nop => exact .inl (.nop h)
  | endTask => exact .inl (.end h)
  | br => exact .inl (.br h)
  | jr => exact .inl (.jr h)
  | loopI => exact .inl (.loop h)
  | kset => exact .inl (.kset h)
  | faultI => exact .inl (.fault h)
  | time => exact .inl (.time h)
  | addI => exact .inl (.add h)
  | subI => exact .inl (.sub h)
  | mulI => exact .inl (.mul h)
  | andI => exact .inl (.and h)
  | orI => exact .inl (.or h)
  | xorI => exact .inl (.xor h)
  | shl => exact .inl (.shl h)
  | shr => exact .inl (.shr h)
  | sar => exact .inl (.sar h)
  | minI => exact .inl (.min h)
  | maxI => exact .inl (.max h)
  | movi => exact .inl (.movi h)
  | movhi => exact .inl (.movhi h)
  | cmp => exact .inl (.cmp h)
  | plog => exact .inl (.plog h)
  | aadd => exact .inl (.aadd h)
  | movr => exact .inl (.movr h)
  | ld => exact .inl (.ld h)
  | st => exact .inl (.st h)
  | wload => exact .inl (.wload h)
  | stream => exact .inl (.stream h)
  | dset => exact .inl (.dset h)
  | uwait => exact .inl (.uwait h)
  | vturn => exact .inl (.vturn h)
  | dma => exact .inl (.dma h)
  | dmawait => exact .inl (.dmawait h)
  | tpref => exact .inl (.tpref h)
  | send => exact .inl (.send h)
  | sendd => exact .inl (.sendd h)
  | msend => exact .inl (.msend h)
  | recv => exact .inl (.recv h)
  | recvt => exact .inl (.recvt h)
  | recvc => exact .inl (.recvc h)
  | qdone => exact .inl (.qdone h)
  | shfadd => exact .inl (.shfadd h)
  | shfend => exact .inl (.shfend h)
  | shfrecv => exact .inl (.shfrecv h)
  | bar => exact .inl (.bar h)
  | waitseal => exact .inl (.waitseal h)
  | sealq => exact .inl (.sealq h)
  | ember => exact .inl (.ember h)
  | cfgsw => exact .inl (.cfgsw h)
  | cfgld => exact .inl (.cfgld h)
  | epoch => exact .inl (.epoch h)
  | evsel => exact .inl (.evsel h)
  | evctlStart => exact .inl (.evctlStart h)
  | evctlStop => exact .inl (.evctlStop h)
  | evctlClear => exact .inl (.evctlClear h)
  | evrd => exact .inl (.evrd h)
  | waitConditionMet => exact .inl (.waitConditionMet h)
  | waitTimeout => exact .inl (.waitTimeout h)
  | softmax => exact .inl (.softmax h)
  | smxPart => exact .inl (.smxPart h)
  | smxMerge => exact .inl (.smxMerge h)
  | smxNorm => exact .inl (.smxNorm h)
  | lse => exact .inl (.lse h)
  | lnorm => exact .inl (.lnorm h)
  | rmsnorm => exact .inl (.rmsnorm h)
  | topk => exact .inl (.topk h)
  | rowdot => exact .inl (.rowdot h)
  | softmaxBwd => exact .inl (.softmaxBwd h)
  | lnormBwd => exact .inl (.lnormBwd h)
  | rmsnormBwd => exact .inl (.rmsnormBwd h)
  | rowComplete => exact .inl (.rowComplete h)
  | vopAdd => exact .inl (.vopAdd h)
  | vopSub => exact .inl (.vopSub h)
  | vopMul => exact .inl (.vopMul h)
  | vopFma => exact .inl (.vopFma h)
  | vopMin => exact .inl (.vopMin h)
  | vopMax => exact .inl (.vopMax h)
  | vopAbs => exact .inl (.vopAbs h)
  | vopNeg => exact .inl (.vopNeg h)
  | vopCmp => exact .inl (.vopCmp h)
  | vopSel => exact .inl (.vopSel h)
  | vopCvt => exact .inl (.vopCvt h)
  | vopDiv => exact .inl (.vopDiv h)
  | vopRcp => exact .inl (.vopRcp h)
  | vopSqrt => exact .inl (.vopSqrt h)
  | vopRsqrt => exact .inl (.vopRsqrt h)
  | vopExp2 => exact .inl (.vopExp2 h)
  | vopLog2 => exact .inl (.vopLog2 h)
  | vopExp => exact .inl (.vopExp h)
  | vopLog => exact .inl (.vopLog h)
  | vopFunc => exact .inl (.vopFunc h)
  | vopRsum => exact .inl (.vopRsum h)
  | vopRdot => exact .inl (.vopRdot h)
  | vopRssq => exact .inl (.vopRssq h)
  | vopRmax => exact .inl (.vopRmax h)
  | vopRmin => exact .inl (.vopRmin h)
  | startReservation => exact .inl (.startReservation h)
  | startGo => exact .inl (.startGo h)
  | reservationCancel => exact .inl (.reservationCancel h)
  | taskLoadComplete => exact .inl (.taskLoadComplete h)
  | taskDrainComplete => exact .inl (.taskDrainComplete h)
  | scrubComplete => exact .inl (.scrubComplete h)
  | seqKill => exact .inl (.seqKill h)
  | seqHold => exact .inl (.seqHold h)
  | weightLoadReady => exact .inl (.weightLoadReady h)
  | streamStart => exact .inl (.streamStart h)
  | activationRow => exact .inl (.activationRow h)
  | halfSumAdd => exact .inl (.halfSumAdd h)
  | windowRound => exact .inl (.windowRound h)
  | tileCheckResult _ _ u v => exact .inl (.tileCheckResult (wu := u) (wv := v) h)
  | diagPass => exact .inl (.diagPass h)
  | diagDone => exact .inl (.diagDone h)
  | arrRepairWrite => exact .inl (.arrRepairWrite h)
  | drnCfgWrite => exact .inl (.drnCfgWrite h)
  | rowStatwinWrite => exact .inl (.rowStatwinWrite h)
  | gatherIdleFlush => exact .inl (.gatherIdleFlush h)
  | spadPwrWrite => exact .inl (.spadPwrWrite h)
  | groupPowerDown => exact .inl (.groupPowerDown h)
  | groupPowerUpReady => exact .inl (.groupPowerUpReady h)
  | circAdvance => exact .inl (.circAdvance h)
  | dmaRequestArrive => exact .inl (.dmaRequestArrive h)
  | tokenArrive _ _ _ u => exact .inl (.tokenArrive (wu := u) h)
  | bypassForward _ _ u => exact .inl (.bypassForward (wu := u) h)
  | tokenDispatch => exact .inl (.tokenDispatch h)
  | routeSteerChange => exact .inl (.routeSteerChange h)
  | latSlackWrite => exact .inl (.latSlackWrite h)
  | inputLinkSwitch => exact .inl (.inputLinkSwitch h)
  | outputLinkSwitch => exact .inl (.outputLinkSwitch h)
  | latticeStall => exact .inl (.latticeStall h)
  | latStopSet => exact .inl (.latStopSet h)
  | latticeDrained => exact .inl (.latticeDrained h)
  | latStopClear => exact .inl (.latStopClear h)
  | messageAcceptance => exact .inl (.messageAcceptance h)
  | sendResult => exact .inl (.sendResult h)
  | reservationLapse => exact .inl (.reservationLapse h)
  | ringLandingWrite => exact .inl (.ringLandingWrite h)
  | unitSend => exact .inl (.unitSend h)
  | unitResend => exact .inl (.unitResend h)
  | sheafBufferCleared => exact .inl (.sheafBufferCleared h)
  | posyRead => exact .inl (.posyRead h)
  | posyDone => exact .inl (.posyDone h)
  | flitArrive => exact .inl (.flitArrive h)
  | escapeFallback => exact .inl (.escapeFallback h)
  | escdataWrite => exact .inl (.escdataWrite h)
  | markDownWrite => exact .inl (.markDownWrite h)
  | fenceRelease => exact .inl (.fenceRelease h)
  | meshTimeout => exact .inl (.meshTimeout h)
  | dmaPacketIssue => exact .inl (.dmaPacketIssue h)
  | dmaResponse => exact .inl (.dmaResponse h)
  | seamRprWrite => exact .inl (.seamRprWrite h)
  | beaconJoin => exact .inl (.beaconJoin h)
  | beaconRelease => exact .inl (.beaconRelease h)
  | beaconFault => exact .inl (.beaconFault h)
  | beaconClear => exact .inl (.beaconClear h)
  | bcnGcfgWrite => exact .inl (.bcnGcfgWrite h)
  | hearthAccess => exact .inl (.hearthAccess h)
  | peatAccess => exact .inl (.peatAccess h)
  | hbmTempReport => exact .inl (.hbmTempReport h)
  | patrolScrubPass => exact .inl (.patrolScrubPass h)
  | pprComplete => exact .inl (.pprComplete h)
  | heatDecayPeriod => exact .inl (.heatDecayPeriod h)
  | swapStart => exact .inl (.swapStart h)
  | swapComplete => exact .inl (.swapComplete h)
  | prefetch => exact .inl (.prefetch h)
  | cool => exact .inl (.cool h)
  | pin => exact .inl (.pin h)
  | unpin => exact .inl (.unpin h)
  | scan => exact .inl (.scan h)
  | scanBlock => exact .inl (.scanBlock h)
  | scanDone => exact .inl (.scanDone h)
  | tierPolicyWrite => exact .inl (.tierPolicyWrite h)
  | rtlCfgWrite => exact .inl (.rtlCfgWrite h)
  | portUcwCheck => exact .inl (.portUcwCheck h)
  | spanRequest => exact .inl (.spanRequest h)
  | directFrameReceive _ _ u => exact .inl (.directFrameReceive (wu := u) h)
  | linkFrame => exact .inl (.linkFrame h)
  | linkFrameSend => exact .inl (.linkFrameSend h)
  | frameVanished => exact .inl (.frameVanished h)
  | transitTimeout => exact .inl (.transitTimeout h)
  | ethernetFrameReceive _ _ u => exact .inl (.ethernetFrameReceive (wu := u) h)
  | timeFrame => exact .inl (.timeFrame h)
  | timeFrameSend => exact .inl (.timeFrameSend h)
  | spanPacketArrive => exact .inl (.spanPacketArrive h)
  | reorderGapExpire => exact .inl (.reorderGapExpire h)
  | sendContextEvict => exact .inl (.sendContextEvict h)
  | reorderContextEvict => exact .inl (.reorderContextEvict h)
  | spanFenceRelease => exact .inl (.spanFenceRelease h)
  | spanOpComplete => exact .inl (.spanOpComplete h)
  | spanOpTimeout => exact .inl (.spanOpTimeout h)
  | spanWindowWrite => exact .inl (.spanWindowWrite h)
  | routeEntryWrite => exact .inl (.routeEntryWrite h)
  | spanCtrlWrite => exact .inl (.spanCtrlWrite h)
  | keyCommit => exact .inl (.keyCommit h)
  | keyClear => exact .inl (.keyClear h)
  | txphaseWrite => exact .inl (.txphaseWrite h)
  | keydataWrite => exact .inl (.keydataWrite h)
  | perstAssert => exact .inl (.perstAssert h)
  | perstDeassert => exact .inl (.perstDeassert h)
  | linkDown => exact .inl (.linkDown h)
  | cxlReset => exact .inl (.cxlReset h)
  | identify => exact .inl (.identify h)
  | getState => exact .inl (.getState h)
  | getLayout => exact .inl (.getLayout h)
  | getLogPtr => exact .inl (.getLogPtr h)
  | getTelemetry => exact .inl (.getTelemetry h)
  | reqComputeReset => exact .inl (.reqComputeReset h)
  | reqModuleReset => exact .inl (.reqModuleReset h)
  | cxlmemRequest => exact .inl (.cxlmemRequest h)
  | bisnpResponse => exact .inl (.bisnpResponse h)
  | bisnpSlow => exact .inl (.bisnpSlow h)
  | producerLineWrite => exact .inl (.producerLineWrite h)
  | ringPoll => exact .inl (.ringPoll h)
  | descriptorFetch => exact .inl (.descriptorFetch h)
  | jobNop => exact .inl (.jobNop h)
  | jobStart => exact .inl (.jobStart h)
  | jobSend => exact .inl (.jobSend h)
  | jobSendRetry => exact .inl (.jobSendRetry h)
  | jobFence => exact .inl (.jobFence h)
  | jobTimeout => exact .inl (.jobTimeout h)
  | completionRecordWrite => exact .inl (.completionRecordWrite h)
  | sealUpdate => exact .inl (.sealUpdate h)
  | ringEnable => exact .inl (.ringEnable h)
  | ringDisable => exact .inl (.ringDisable h)
  | ideIntegrityFailure => exact .inl (.ideIntegrityFailure h)
  | windowVerdict => exact .inl (.windowVerdict h)
  | noticeArrive _ u => exact .inl (.noticeArrive (wu := u) h)
  | sealArrive _ u => exact .inl (.sealArrive (wu := u) h)
  | retractArrive _ u => exact .inl (.retractArrive (wu := u) h)
  | noticeAcknowledged => exact .inl (.noticeAcknowledged h)
  | sealMessageResend => exact .inl (.sealMessageResend h)
  | lapse => exact .inl (.lapse h)
  | sealLaneUpdate => exact .inl (.sealLaneUpdate h)
  | laneRetract => exact .inl (.laneRetract h)
  | digestCompute => exact .inl (.digestCompute h)
  | shadowlocWrite => exact .inl (.shadowlocWrite h)
  | testDue => exact .inl (.testDue h)
  | sliceResult => exact .inl (.sliceResult h)
  | marchResult => exact .inl (.marchResult h)
  | conditionEvaluate => exact .inl (.conditionEvaluate h)
  | watchExpire => exact .inl (.watchExpire h)
  | cinderTimeout => exact .inl (.cinderTimeout h)
  | migrationFreeze => exact .inl (.migrationFreeze h)
  | migrationForced => exact .inl (.migrationForced h)
  | migrationCommit => exact .inl (.migrationCommit h)
  | emberWriteComplete => exact .inl (.emberWriteComplete h)
  | jobRecovery => exact .inl (.jobRecovery h)
  | recoveryResume => exact .inl (.recoveryResume h)
  | layoutRevision => exact .inl (.layoutRevision h)
  | layoutRestore => exact .inl (.layoutRestore h)
  | routerFailure => exact .inl (.routerFailure h)
  | smdTest => exact .inl (.smdTest h)
  | smdFence => exact .inl (.smdFence h)
  | smdUnfence => exact .inl (.smdUnfence h)
  | smdCinder => exact .inl (.smdCinder h)
  | smdCond => exact .inl (.smdCond h)
  | moveResting => exact .inl (.moveResting h)
  | smdAbandon => exact .inl (.smdAbandon h)
  | smdPxdataAccess => exact .inl (.smdPxdataAccess h)
  | powerGoodAssert => exact .inl (.powerGoodAssert h)
  | powerGoodDeassert => exact .inl (.powerGoodDeassert h)
  | railFault => exact .inl (.railFault h)
  | cxlTrainingStart => exact .inl (.cxlTrainingStart h)
  | stage0 => exact .inl (.stage0 h)
  | stage1 _ _ _ u => exact .inl (.stage1 (wu := u) h)
  | stage2 => exact .inl (.stage2 h)
  | stage3 => exact .inl (.stage3 h)
  | bootResetCompute => exact .inl (.bootResetCompute h)
  | bootResetComputeBist => exact .inl (.bootResetComputeBist h)
  | bootResetCore => exact .inl (.bootResetCore h)
  | bootResetModule => exact .inl (.bootResetModule h)
  | computeResetComplete => exact .inl (.computeResetComplete h)
  | coreResetComplete => exact .inl (.coreResetComplete h)
  | mpTest => exact .inl (.mpTest h)
  | foresterWatchdog => exact .inl (.foresterWatchdog h)
  | heartbeat => exact .inl (.heartbeat h)
  | slotOp => exact .inl (.slotOp h)
  | softRepair => exact .inl (.softRepair h)
  | setSlack => exact .inl (.setSlack h)
  | escInstall => exact .inl (.escInstall h)
  | portMark => exact .inl (.portMark h)
  | seamRepair => exact .inl (.seamRepair h)
  | pprGo => exact .inl (.pprGo h)
  | windowSet => exact .inl (.windowSet h)
  | routeSet => exact .inl (.routeSet h)
  | keyAgree => exact .inl (.keyAgree h)
  | keySwitch => exact .inl (.keySwitch h)
  | reset => exact .inl (.reset h)
  | floorRaise => exact .inl (.floorRaise h)
  | shadowPair => exact .inl (.shadowPair h)
  | shadowExit => exact .inl (.shadowExit h)
  | logNote => exact .inl (.logNote h)
  | timeStep => exact .inl (.timeStep h)
  | fatalDeviceCondition => exact .inl (.fatalDeviceCondition h)
  | ownershipRecord => exact .inl (.ownershipRecord h)
  | ideKm => exact .inl (.ideKm h)
  | getVersion => exact .inl (.getVersion h)
  | getCapabilities => exact .inl (.getCapabilities h)
  | negotiateAlgorithms => exact .inl (.negotiateAlgorithms h)
  | getDigests => exact .inl (.getDigests h)
  | getCertificate => exact .inl (.getCertificate h)
  | challenge => exact .inl (.challenge h)
  | getMeasurements => exact .inl (.getMeasurements h)
  | keyExchange => exact .inl (.keyExchange h)
  | finish => exact .inl (.finish h)
  | spdmHeartbeat => exact .inl (.spdmHeartbeat h)
  | keyUpdate => exact .inl (.keyUpdate h)
  | endSession => exact .inl (.endSession h)
  | kxCert _ u => exact .inl (.kxCert (w := u) h)
  | kxHello => exact .inl (.kxHello h)
  | kxReply _ u => exact .inl (.kxReply (wu := u) h)
  | kxConfirm _ u => exact .inl (.kxConfirm (wu := u) h)
  | kxTimeout => exact .inl (.kxTimeout h)
  | netDatagram => exact .inl (.netDatagram h)
  | pldmSensorRead => exact .inl (.pldmSensorRead h)
  | pldmModuleReset => exact .inl (.pldmModuleReset h)
  | pldmComputeReset => exact .inl (.pldmComputeReset h)
  | timeBaseTick => exact .inl (.timeBaseTick h)
  | timeLowRead => exact .inl (.timeLowRead h)
  | logdataRead => exact .inl (.logdataRead h)
  | netkeyWrite => exact .inl (.netkeyWrite h)
  | powerSample => exact .inl (.powerSample h)
  | powerControlStep => exact .inl (.powerControlStep h)
  | thermalSample => exact .inl (.thermalSample h)
  | vcoreDroop => exact .inl (.vcoreDroop h)
  | paceMeasure => exact .inl (.paceMeasure h)
  | sealAcknowledged => exact .inl (.sealAcknowledged h)
  | portTrainingComplete => exact .inl (.portTrainingComplete h)
  | cxlLinkUp => exact .inl (.cxlLinkUp h)
  | linkWaitExpire => exact .inl (.linkWaitExpire h)
  | peatChannelFailure => exact .inl (.peatChannelFailure h)
  | runEmptyTimeout => exact .inl (.runEmptyTimeout h)

/-- A command that goes on keeps the queue, canonical byte stores and the bits of OTP. -/
theorem exec_kept {i : Instr} {s t : State} (h : exec i s = .next t) : Kept s t := by
  rcases exec_kept_or_refused i s with hk | ⟨hr, _⟩
  · exact .ofNext hk h
  · rw [hr] at h
    cases h

/-- The component registers' addresses. -/
theorem isComponent_iff {o : Nat} : isComponent o = true ↔ 0x2600000 ≤ o ∧ o < 0x2610000 := by
  rw [isComponent, Bool.and_eq_true, decide_eq_true_iff, decide_eq_true_iff]

/-- Which commands are accesses to the component registers. -/
theorem atComponent_iff {i : Instr} : AtComponent i ↔
    (∃ who off size v, i = .registerWrite who off size v ∧ 0x2600000 ≤ off.toNat ∧ off.toNat < 0x2610000) ∨
      (∃ who off size, i = .readToClear who off size ∧ 0x2600000 ≤ off.toNat ∧ off.toNat < 0x2610000) := by
  constructor
  · intro h
    cases i with
    | registerWrite who off size v => exact .inl ⟨who, off, size, v, rfl, isComponent_iff.mp h⟩
    | readToClear who off size => exact .inr ⟨who, off, size, rfl, isComponent_iff.mp h⟩
    | _ => exact h.elim
  · rintro (⟨who, off, size, v, rfl, h⟩ | ⟨who, off, size, rfl, h⟩)
    · exact isComponent_iff.mpr h
    · exact isComponent_iff.mpr h

/-! ## The statements -/

/-- Settles O2. -/
theorem commandsLeaveTheQueue : Obligations.CommandsLeaveTheQueue := by
  unfold Obligations.CommandsLeaveTheQueue
  exact fun _ _ _ h => (exec_kept h).pending

/-- Settles O3. -/
theorem onlyComponentRegistersAreRefused : Obligations.OnlyComponentRegistersAreRefused := by
  unfold Obligations.OnlyComponentRegistersAreRefused
  intro i s
  rcases exec_kept_or_refused i s with hk | ⟨hr, hc⟩
  · obtain ⟨t, ht⟩ := hk.goesOn
    exact .inl ⟨t, ht⟩
  · exact .inr ⟨hr, atComponent_iff.mp hc⟩

/-- Settles O5: a step runs the front command on the state with the queue's rest. -/
theorem stepsKeepMemoryCanonical : Obligations.StepsKeepMemoryCanonical := by
  unfold Obligations.StepsKeepMemoryCanonical
  intro s t hm h
  rw [step] at h
  split at h
  · cases h
    exact hm
  · exact (exec_kept h).mem hm

/-- Settles O57. -/
theorem otpBitsStaySet : Obligations.OtpBitsStaySet := by
  unfold Obligations.OtpBitsStaySet
  exact fun _ _ _ a k hb _ h => (exec_kept h).otp a k hb

end Sys2Proof.Machine
end
